-- ==== Sys2Proof/Word.lean ====
section
/-! DEFINITION. The plain data types that the commands and the state share: words, indices (00_scope.md, the table of
indices), sparse tables, register fields and access codes (00_scope.md R6). Types only, and no behaviour. -/

namespace Sys2Proof

/-- A register word (00_scope.md: registers are 32 bits wide). -/
abbrev Word := BitVec 32
/-- One byte. -/
abbrev Byte := BitVec 8
/-- PON channel c, CH0 to CH255. -/
abbrev Chan := BitVec 8
/-- Quad q, channels 4q to 4q+3. -/
abbrev Quad := BitVec 6
/-- PON group g, channels 8g to 8g+7. -/
abbrev Group := BitVec 5
/-- Uplink group u. -/
abbrev Uplink := BitVec 4
/-- ONU context. -/
abbrev Onu := BitVec 16
/-- Alloc context. -/
abbrev AllocIx := BitVec 17
/-- Flow. -/
abbrev FlowIx := BitVec 18
/-- A master identity, 6 bits (R15). -/
abbrev Master := BitVec 6
/-- A serial lane, numbered as R274 numbers the 649 lanes. -/
abbrev LaneIx := Fin 649
/-- A port encoded as src_port (R168): 0 to 255 PON channel, 256 and above uplink port. -/
abbrev PortIx := BitVec 9
/-- A queue pair. -/
abbrev QpIx := BitVec 6

/-- A sparse table: pairs of a key and a value, keys rising; a key that is not listed holds its default value. -/
abbrev Table (α : Type) := List (Nat × α)

/-- The access codes of a register field (R6). -/
inductive Access where
  | rw | ro | wo | w1c | rc | st | lk
deriving DecidableEq, Repr

/-- One field of a register row: lowest bit, width, access code. -/
structure FieldRow where
  lo : Nat
  width : Nat
  acc : Access
deriving DecidableEq, Repr

/-- A field of one register instance: the register's BAR0 byte address (with the selected instance above bit 31 for a
register reached through a selector), the field's lowest bit and its width. -/
structure Fld where
  addr : Nat
  lo : Nat
  width : Nat
deriving DecidableEq, Repr

/-- What a read of a memory code word finds (R318): a clean word, one bit in error, an uncorrectable word. Whether the word
already holds the poison pattern is state. -/
inductive Ecc where
  | clean | oneBit | uncorrectable
deriving DecidableEq, Repr

/-- How a host-memory access ends (R346): completed, or one of the four failures with the cause codes 1 to 4. -/
inductive HostAccess where
  | ok | unsupported | abort | poisonedTlp | timeout
deriving DecidableEq, Repr

/-- One violation of the commit checker (R52, R406). -/
structure Violation where
  code : Nat
  block : Nat
  stagedReg : Bool
  section_ : Nat
  object : Nat
deriving DecidableEq, Repr

/-- One record of a trim section as LOAD_TRIM reads it from the blob (R42, R383, R140, R174, R194): the index of its section
within the blob, the section type, the record's type, and its words. -/
structure TrimRecord where
  section_ : Nat
  sectType : Nat
  recType : Nat
  words : List Nat
deriving DecidableEq, Repr

/-- The mode of a channel as section 0x0002 gives it (R62): mode, upstream rate, paired. -/
structure ChanMode where
  mode : Nat
  usRate : Nat
  paired : Bool
deriving DecidableEq, Repr

/-- Mate pair section 0x000A (R299): rateMatched is sl_mode 1. -/
structure MateSect where
  pairEn : Bool
  prec : Nat
  preferred : Bool
  revertive : Bool
  swOnRetire : Bool
  rateMatched : Bool
  wtrS : Nat
  contestMs : Nat
  seekMs : Nat
  hbMiss : Nat
  txOnUs : Nat
deriving DecidableEq, Repr

/-- A time stamp (R262): ts_ns and ts_hi. -/
structure Stamp where
  ns : Nat
  hi : Nat
deriving DecidableEq, Repr

/-- A packet and its descriptor as the blocks carry it: length from the destination address through the FCS, its bytes,
source port (encoded as src_port), epoch stamp (R28), flow, class, destination port, hash, receive stamp, the transmit stamp
identifier when ts_req is set (R264), the owner's master identity, poisoned bytes (R321), an FCS found bad, the tick at which it
was queued, and whether it came from host DMA, whether it passed MACsec verification, and a number that tells packets apart. -/
structure Pkt where
  num : Nat
  len : Nat
  bytes : List Nat
  src : Nat
  epoch : Nat
  flow : Nat
  cls : Nat
  dest : Nat
  hash : Nat
  stamp : Stamp
  tsReq : Option Nat
  master : Nat
  direct : Bool
  host : Bool
  macsec : Bool
  poison : Bool
  bad : Bool
  entered : Nat
  /-- The ONU context of an upstream packet (R96). -/
  onu : Nat
deriving DecidableEq, Repr

/-- A downstream PLOAM message as firmware offers it (R74): the ONU context, or none for a broadcast, the type and the 36 bytes
of content. -/
structure Ploam where
  onu : Option Nat
  typ : Nat
  content : List Nat
deriving DecidableEq, Repr

/-- The three PLOAM queues (R76). -/
inductive PloamQ where
  | urgent | unicast | broadcast
deriving DecidableEq, Repr

/-- Upstream PLOAM types: the six that R94 accepts, and any other. -/
inductive UpType where
  | serialNumberOnu | registration | keyReport | acknowledge | sleepRequest | powerConsumptionReport | other
deriving DecidableEq, Repr

/-- An upstream PLOAM message of a burst (R93): its type, whether its FEC, MIC and ONU-ID checks pass, and its content. -/
structure PloamUp where
  typ : UpType
  ok : Bool
  content : List Nat
deriving DecidableEq, Repr

/-- One XGEM frame of an upstream allocation (R93, R97): header HEC good, port-ID, key index, continuation of a
packet begun before, last-fragment bit, payload bytes,
a byte in an uncorrectable codeword, and the stamp of its first bit (R98). -/
structure XFrame where
  hecOk : Bool
  cont : Bool
  portId : Nat
  keyIx : Nat
  last : Bool
  bytes : List Nat
  badCw : Bool
  stamp : Stamp
deriving DecidableEq, Repr

/-- One allocation of a burst: Alloc context, status report with its checks (R93), XGEM frames. -/
structure BurstAlloc where
  alloc : Nat
  dbru : Option (Nat × Bool)
  frames : List XFrame
deriving DecidableEq, Repr

/-- What the receiver meets in the window of one expected burst (R89 to R93): the granted ONU context; whether a candidate
qualified; its arrival error in ticks against the expected position (R122); header HEC; uncorrectable codewords; corrected bits
or symbols; BIP-32 bits in error; the dying-gasp indication; the PLOAMu; the allocations; bit periods after the delimiter; figure
of merit and coefficients at the last bit; what the reads of the preset and of the ONU context find; the level of the module's RX_LOS.-/
structure Burst where
  onu : Nat
  qualified : Bool
  err : Int
  hdrOk : Bool
  fecUncorr : Nat
  fecCorr : Nat
  bipBits : Nat
  gasp : Bool
  ploam : Option PloamUp
  allocs : List BurstAlloc
  bits : Nat
  fom : Nat
  coef : Nat
  presetEcc : Ecc
  ctxEcc : Ecc
  rxLos : Bool
deriving DecidableEq, Repr

/-- A reassembled upstream packet before its epoch stamp (R96). -/
structure UsPkt where
  onu : Nat
  portId : Nat
  keyIx : Nat
  bytes : List Nat
  stamp : Stamp
deriving DecidableEq, Repr

/-- A qualified Serial_Number_ONU answer in a discovery span (R117, R118): serial number words, coarse offset in ticks, burst
profile. -/
structure DiscAnswer where
  sn0 : Nat
  sn1 : Nat
  coarse : Nat
  profile : Nat
deriving DecidableEq, Repr

/-- A firmware update of an ONU or Alloc context (R19, R80, R135, R145): the active key index, the forced-wake flag, a PLOAMu
request. -/
inductive CtxUpdate where
  | onuKey (onu : Onu) (two : Bool)
  | onuWake (onu : Onu) (wake : Bool)
  | onuPloamu (onu : Onu)
deriving DecidableEq, Repr

/-- The arguments of a Ratline command (R129): context, ONU-ID, tries, and ARG1 to ARG3. -/
structure RatArgs where
  ctx : Nat
  onuId : Nat
  tries : Nat
  a1 : Nat
  a2 : Nat
  a3 : Nat
  /-- The buffer of a firmware message holds a poisoned word (R321); of no account for the window. -/
  poison : Bool
deriving DecidableEq, Repr

/-- What the checker pair meets at a verdict (R147, R149): the builder whose bytes differ from the others'; the checker copies
differ; the lead in units of 100 ns. -/
structure Delivered where
  minority : Option Nat
  copiesDiffer : Bool
  lead : Nat
deriving DecidableEq, Repr


/-- A transmit descriptor (R343) and the packet it names, as the device reads them from host memory; badKind when a field lies
outside its encoding. -/
structure TxDesc where
  addr : Nat
  len : Nat
  tsId : Nat
  kind : Nat
  tsReq : Bool
  intr : Bool
  port : Nat
  cls : Nat
  flow : Nat
  reserved : Bool
  bytes : List Nat
deriving DecidableEq, Repr

/-- A receive descriptor as the host wrote it (R345). -/
structure RxDesc where
  addr : Nat
  size : Nat
deriving DecidableEq, Repr

/-- A packet bound for a receive ring (R345): reason 1 to 5, parse flags, source port, class, epoch, flow or ONU word, rule or
partition, stamp, bytes with FCS; its OMCI MIC verifies. -/
structure RxPkt where
  reason : Nat
  parseErr : Bool
  truncated : Bool
  port : Nat
  cls : Nat
  epoch : Nat
  flow : Nat
  onu : Nat
  rule : Nat
  stamp : Stamp
  bytes : List Nat
  micOk : Bool
deriving DecidableEq, Repr


/-- A node record of the parser graph (R165). -/
structure PNode where
  flagBit : Nat
  layer : Bool
  var : Bool
  v4frag : Bool
  v6frag : Bool
  /-- Flags bit 4: the next-protocol field lies after the header. -/
  nxtAfter : Bool
  baseLen : Nat
  lenOff : Nat
  lenWidth : Nat
  lenMult : Nat
  nxtOff : Nat
  nxtWidth : Nat
  dflt : Nat
  transFirst : Nat
  transN : Nat
  minLen : Nat
deriving DecidableEq, Repr

/-- A transition record (R165). -/
structure PTrans where
  value : Nat
  mask : Nat
  next : Nat
deriving DecidableEq, Repr

/-- An extraction record (R165): node, key field code, bit offset or constant, width, mode. -/
structure PExt where
  node : Nat
  code : Nat
  off : Nat
  width : Nat
  mode : Nat
deriving DecidableEq, Repr

/-- The parser graph (R165). -/
structure PGraph where
  startUp : Nat
  startPon : Nat
  nodes : List PNode
  trans : List PTrans
  exts : List PExt
deriving DecidableEq, Repr

/-- A poisoned parser word that a packet or a window read uses (R175): table 0 graph, 1 comparators, 2 default words, 3 hash
profiles, 4 rules, 5 LAG slots; its index; whether its copy is poisoned as well. -/
structure PrsBad where
  table : Nat
  ix : Nat
  copyBad : Bool
deriving DecidableEq, Repr

/-- A partition record of the forwarding table (R178). -/
structure FwdPart where
  kind : Nat
  learn : Bool
  flushOnDown : Bool
  staticGuard : Bool
  hairpin : Bool
  miss : Nat
  missQ : Nat
  base : Nat
  log2 : Nat
  depth : Nat
  quota : Nat
  missLag : Bool
  missDest : Nat
  ageS : Nat
  seed : Nat
deriving DecidableEq, Repr

/-- What a read of a forwarding slot finds (R195, R318): the location (overflow entry i at 2^20 + i), the word, and whether the
shadow copy in DRAM is good. -/
structure SlotRead where
  loc : Nat
  ecc : Ecc
  shadowOk : Bool
deriving DecidableEq, Repr


/-- The header of a received Stay link message: its sequence number, whether its tag passes, and whether its type is an assigned one (R292). -/
structure MsgHdr where
  seq : Nat
  tagOk : Bool
  typOk : Bool
deriving DecidableEq, Repr

/-- A heartbeat as received (R293). -/
structure Heartbeat where
  hdr : MsgHdr
  st : Nat
  prec : Nat
  epoch : Nat
  ack : Nat
  count : Nat
  revert : Bool
  ns : Nat
deriving DecidableEq, Repr

/-- An allocation structure as a FRAME message carries it (R135, R306), with the Alloc context it names on this part. -/
structure MirAlloc where
  alloc : Nat
  allocId : Nat
  onu : Nat
  dbru : Bool
  ploam : Bool
  start : Nat
  size : Nat
  fwi : Bool
  profile : Nat
deriving DecidableEq, Repr

/-- A FRAME message (R306). -/
structure FrameMsg where
  hdr : MsgHdr
  chan : Nat
  sfc : Nat
  epoch : Nat
  held : Bool
  ns : Nat
  sec : Nat
  feed : Int
  map : List MirAlloc
deriving DecidableEq, Repr

/-- An ONU message (R306). -/
structure OnuMsg where
  hdr : MsgHdr
  ctx : Nat
  chan : Nat
  st : Nat
  onuId : Nat
  presetValid : Bool
  keyIx : Nat
  fomPreset : Nat
  f : Int
  sn0 : Nat
  sn1 : Nat
  rtd : Nat
  eqd : Nat
  preset : Nat
  residue : Nat
  seqU : Nat
deriving DecidableEq, Repr

/-- One record of a LEARN message (R306): op 1 insert, 2 move, 3 aged, 4 flushed or deleted, 5 pin, 6 unpin. -/
structure LearnRec where
  op : Nat
  part : Nat
  w2 : Nat
  key : Nat
deriving DecidableEq, Repr


/-- The SecTAG of a received secured frame and its check (R246, R247): SCI when the tag carries one, AN, the packet number as recovered
under IEEE 802.1AE, whether the ICV passes. -/
structure MacRx where
  sci : Option Nat
  an : Nat
  pn : Nat
  icvOk : Bool
deriving DecidableEq, Repr

/-- What a scheduling decision finds poisoned (R237). -/
inductive NodePart where
  | dynamic | record | both
deriving DecidableEq, Repr

/-- A poisoned node of Sheet: its level, index and part. -/
structure NodeBad where
  level : Nat
  index : Nat
  part : NodePart
deriving DecidableEq, Repr

/-- The unit in a cipher lane when it faults (R253): none, an XGEM payload of a channel, a burst allocation's packet of a channel, or the
frame that a port is sending. -/
inductive CipherUnit where
  | none | ds (c : Chan) | us (c : Chan) | tx (p : BitVec 7)
deriving DecidableEq, Repr

/-- The buffer section (R203): ingress partition, message buffers, headroom, guar and cap by class, segments by size. -/
structure BufSect where
  ingress : Nat
  msgS : Nat
  msgL : Nat
  headroom : Nat
  guar : List Nat
  cap : List Nat
  seg : List Nat
deriving DecidableEq, Repr


/-- A rigging image as the device reads it (R41 to R45): header fields; the outcome of the checks of R44; digests of the whole, of
its device-region sections and of its firmware section; the profile masks; the channel modes and initial PON-IDs; the mate pair
section.-/
structure Image where
  serial : Nat
  profile : Nat
  trialS : Nat
  len : Nat
  headerOk : Bool
  ownerSigOk : Bool
  ownerKey : Nat
  hashesOk : Bool
  oxgilOk : Bool
  fwSigned : Bool
  deviceHash : Nat
  digest : Nat
  fwDigest : Nat
  fwVersion : Nat
  groups : Nat
  uplinks : Nat
  drams : Nat
  modes : Table ChanMode
  ponIds : Table Nat
  mate : MateSect
  graph : PGraph
  parts : List FwdPart
  /-- Source-port records (R178): partition (0xFF none) and max_learn. -/
  srcPorts : Table (Nat × Nat)
  /-- Uplink group records (R276): mode and port mask. -/
  ugRec : Table (Nat × Nat)
  /-- Logical positions of ULN lanes that are not n mod 8, and lane polarities (R276). -/
  lanePos : Table (Option Nat)
  polarity : Table Nat
  /-- The digest that HELLO carries (R306), over the structural sections that mates must share. -/
  helloDigest : Nat
  /-- Lanes with a lane record or of a bound resource (R276): SLD and SLCK lanes bound. -/
  slLanes : Nat
  /-- Buffer section (R203). -/
  buf : BufSect
  /-- Subscriber and service node ranges of each group (R222): sub_base, sub_count, svc_base, svc_count. -/
  tree : Table (Nat × Nat × Nat × Nat)
  /-- Cipher lanes (R252), L0 first: ports mask and fallback, 0xFF none. -/
  cipher : List (Nat × Nat)
  /-- Place of each section in the section table, keyed type × 2^16 + region. -/
  sects : Table Nat
deriving DecidableEq, Repr

end Sys2Proof
end

