-- ==== Sys2Proof/Syntax.lean ====
section
/-! DEFINITION. The commands: one constructor for each row of spec/opcode_table.json. A host or firmware command carries the master
identity that sends it; an event of the line, of a pin, of a supply or of a timer carries what the device observes at it. -/

namespace Sys2Proof

/-- The commands of the block. -/
inductive Instr where
  /-- REGISTER_WRITE (R6). -/
  | registerWrite (m : Master) (addr : BitVec 26) (size : BitVec 4) (data : BitVec 64)
  /-- RC_FIELD_READ (R404). -/
  | rcFieldRead (m : Master) (addr : BitVec 26)
  /-- LOW_WORD_READ (R11). -/
  | lowWordRead (m : Master) (addr : BitVec 26)
  /-- LOCK_WRITE (R59). -/
  | lockWrite (m : Master) (bits : BitVec 16)
  /-- STAGING_WRITE (R50). -/
  | stagingWrite (m : Master) (addr : BitVec 26) (data : Word)
  /-- CHECK (R50). -/
  | check_ (m : Master)
  /-- CHECK_DONE (R407). -/
  | checkDone
  /-- APPLY (R50). -/
  | apply_ (m : Master) (sched : Bool)
  /-- ABORT (R51). -/
  | abort_ (m : Master)
  /-- DISCARD (R50). -/
  | discard (m : Master)
  /-- RERIG (R58). -/
  | rerig (m : Master) (region : BitVec 16) (slot : Bool)
  /-- RERIG_DONE (R58). -/
  | rerigDone
  /-- CONFIRM (R47). -/
  | confirm (m : Master)
  /-- ATTEST (R60). -/
  | attest (m : Master)
  /-- ATTEST_DONE (R60). -/
  | attestDone
  /-- FUSE_OWNER (R44). -/
  | fuseOwner (m : Master)
  /-- LOAD_TRIM (R50). -/
  | loadTrim (m : Master)
  /-- LOAD_SLOT (R48). -/
  | loadSlot (m : Master)
  /-- LOAD_SLOT_DONE (R48). -/
  | loadSlotDone (img : Image) (flashOk : Bool)
  /-- DRAIN_END (R55). -/
  | drainEnd (us : BitVec 20)
  /-- DRAIN_FORCED (R55). -/
  | drainForced
  /-- SCHED_TIME_REACHED (R56). -/
  | schedTimeReached
  /-- TRIAL_EXPIRING (R47). -/
  | trialExpiring
  /-- TRIAL_EXPIRY (R47). -/
  | trialExpiry
  /-- POWER_ON_RESET (R373). -/
  | powerOnReset
  /-- SUPPLY_RESET (R374). -/
  | supplyReset (supplies : BitVec 5) (mv : BitVec 16)
  /-- SUPPLY_RESET_RELEASE (R374). -/
  | supplyResetRelease
  /-- PERST_ASSERT (R373). -/
  | perstAssert
  /-- HOST_RESET (R373). -/
  | hostReset (m : Master)
  /-- PF_FLR (R373). -/
  | pfFlr
  /-- STARTUP_PHASE_END (R375). -/
  | startupPhaseEnd (ms : BitVec 16)
  /-- THERMAL_SENSOR_READ (R377). -/
  | thermalSensorRead (tj : BitVec 8)
  /-- THERMAL_RESET_RELEASE (R378). -/
  | thermalResetRelease
  /-- REEF_ENTER (R369). -/
  | reefEnter (mv : BitVec 16)
  /-- REEF_EXIT (R371). -/
  | reefExit (low now : BitVec 16) (ns : BitVec 40)
  /-- VDD_AUX_LOW (R368). -/
  | vddAuxLow
  /-- VDD_AUX_RESUME (R368). -/
  | vddAuxResume
  /-- UNRETIRE (R382). -/
  | unretire (m : Master)
  /-- MARCH_TEST_DONE (R382). -/
  | marchTestDone (passed : Bool)
  /-- RET_READ (R382). -/
  | retRead (m : Master)
  /-- PACE_WINDOW_END (R32). -/
  | paceWindowEnd (fab : BitVec 24) (prs : BitVec 24) (lead : Option (BitVec 16))
  /-- CHANNEL_CTRL_WRITE (R65). -/
  | channelCtrlWrite (m : Master) (c : Chan) (enable : Bool) (txOff : Bool)
  /-- PLOAM_FLUSH (R76). -/
  | ploamFlush (m : Master) (c : Chan)
  /-- CH_START_RUNNING (R67). -/
  | chStartRunning (c : Chan)
  /-- CH_READY_TIMEOUT (R65). -/
  | chReadyTimeout (c : Chan)
  /-- MODULE_TX_FAULT (R65). -/
  | moduleTxFault (c : Chan)
  /-- MODULE_ABSENT (R65). -/
  | moduleAbsent (c : Chan)
  /-- QUAD_REF_UNLOCK (R65). -/
  | quadRefUnlock (q : Quad)
  /-- CH_FAULT_RETRY (R65). -/
  | chFaultRetry (c : Chan)
  /-- CH_FRAME_END_OFF (R65). -/
  | chFrameEndOff (c : Chan)
  /-- PON_FRAME_START (R67). -/
  | ponFrameStart (c : Chan)
  /-- MAP_CAPTURE_ARM (R149). -/
  | mapCaptureArm (m : Master) (c : Chan)
  /-- XGEM_ENCAPSULATE (R78). -/
  | xgemEncapsulate (c : Chan) (ecc : Ecc) (keyEcc : Ecc) (edgeBad : Bool)
  /-- PLOAM_OFFER (R76). -/
  | ploamOffer (c : Chan) (q : PloamQ) (msg : Ploam) (poison : Bool)
  /-- CONTEXT_UPDATE (R19). -/
  | contextUpdate (u : CtxUpdate) (poison : Bool)
  /-- FLW_READ_APPLIED (R78). -/
  | flwReadApplied (m : Master) (c : Chan) (ecc : Ecc)
  /-- FLW_READ_STAGED (R78). -/
  | flwReadStaged (m : Master) (c : Chan)
  /-- FLW_WRITE_STAGED (R78). -/
  | flwWriteStaged (m : Master) (c : Chan)
  /-- BURST_RECEIVE (R89). -/
  | burstReceive (c : Chan) (b : Burst)
  /-- UPSTREAM_PACKET_INGRESS (R96). -/
  | upstreamPacketIngress (c : Chan) (fits : Bool) (ecc : Ecc) (keyEcc : Ecc)
  /-- REASM_TIMEOUT (R97). -/
  | reasmTimeout (c : Chan) (a : AllocIx)
  /-- RX_LOS_HELD (R99). -/
  | rxLosHeld (c : Chan) (pin : Bool)
  /-- ROGUE_OBSERVATION (R100). -/
  | rogueObservation (c : Chan) (gap : Bool) (offset : BitVec 21) (passed : Byte)
  /-- ROGUE_CLEAR (R99). -/
  | rogueClear (c : Chan)
  /-- AIS_FRAME_TIMER (R104). -/
  | aisFrameTimer (onu : Onu)
  /-- PM_SECOND_END (R106). -/
  | pmSecondEnd (onu : Onu) (throughout : Bool) (ecc : Ecc)
  /-- UFL_READ_APPLIED (R96). -/
  | uflReadApplied (m : Master) (c : Chan) (ecc : Ecc)
  /-- UFL_READ_STAGED (R96). -/
  | uflReadStaged (m : Master) (c : Chan)
  /-- UFL_WRITE_STAGED (R96). -/
  | uflWriteStaged (m : Master) (c : Chan)
  /-- UONU_READ_APPLIED (R104). -/
  | uonuReadApplied (m : Master) (c : Chan) (ecc : Ecc)
  /-- UONU_READ_STAGED (R104). -/
  | uonuReadStaged (m : Master) (c : Chan)
  /-- UONU_WRITE_STAGED (R104). -/
  | uonuWriteStaged (m : Master) (c : Chan)
  /-- UONU_CLEAR_PRESET (R91). -/
  | uonuClearPreset (m : Master) (c : Chan)
  /-- OPEN_DISC (R116). -/
  | openDisc (via : Option Master) (c : Chan) (args : RatArgs)
  /-- CLOSE_DISC (R119). -/
  | closeDisc (via : Option Master) (c : Chan) (args : RatArgs)
  /-- CREATE (R112). -/
  | create (via : Option Master) (c : Chan) (args : RatArgs)
  /-- ASSIGN (R111). -/
  | assign (via : Option Master) (c : Chan) (args : RatArgs)
  /-- RANGE (R120). -/
  | range_ (via : Option Master) (c : Chan) (args : RatArgs)
  /-- ACTIVATE (R112). -/
  | activate (via : Option Master) (c : Chan) (args : RatArgs)
  /-- SET_EQD (R124). -/
  | setEqd (via : Option Master) (c : Chan) (args : RatArgs)
  /-- DEACTIVATE (R112). -/
  | deactivate (via : Option Master) (c : Chan) (args : RatArgs)
  /-- RELEASE (R112). -/
  | release (via : Option Master) (c : Chan) (args : RatArgs)
  /-- ABORT_RANGE (R112). -/
  | abortRange (via : Option Master) (c : Chan) (args : RatArgs)
  /-- RAT_READ (R129). -/
  | ratRead (via : Option Master) (c : Chan) (args : RatArgs) (ecc : Ecc)
  /-- DISC_ANSWER (R118). -/
  | discAnswer (c : Chan) (a : DiscAnswer)
  /-- DISC_SPAN_END (R117). -/
  | discSpanEnd (c : Chan) (energy : Bool)
  /-- DISC_WINDOW_END (R119). -/
  | discWindowEnd (c : Chan)
  /-- RANGE_MEASURED (R121). -/
  | rangeMeasured (onu : Onu) (offset : Word) (content : List Byte)
  /-- RANGE_TRIES_EXHAUSTED (R120). -/
  | rangeTriesExhausted (onu : Onu)
  /-- CH_LEFT_BOUNDARY (R120). -/
  | chLeftBoundary (c : Chan)
  /-- RANGE_UPDATE_TIMEOUT (R124). -/
  | rangeUpdateTimeout (onu : Onu)
  /-- ONU_LOST (R125). -/
  | onuLost (onu : Onu)
  /-- MAP_BUILD_START (R145). -/
  | mapBuildStart (c : Chan) (bad : Option AllocIx)
  /-- MAP_LATE_DEADLINE (R133). -/
  | mapLateDeadline (c : Chan)
  /-- MAP_VERDICT (R147). -/
  | mapVerdict (c : Chan) (wrong : Option (List (BitVec 64))) (d : Delivered)
  /-- STATUS_REPORT_TAKEN (R144). -/
  | statusReportTaken
  /-- TELLTALE_FRAME (R155). -/
  | telltaleFrame
  /-- ALC_READ_APPLIED (R143). -/
  | alcReadApplied (m : Master) (ecc : Ecc)
  /-- ALC_READ_STAGED (R141). -/
  | alcReadStaged (m : Master)
  /-- ALC_WRITE_STAGED (R141). -/
  | alcWriteStaged (m : Master)
  /-- ALC_CLEAR_DYNAMIC (R143). -/
  | alcClearDynamic (m : Master)
  /-- UPLINK_PACKET_INGRESS (R28). -/
  | uplinkPacketIngress (p : BitVec 7) (bytes : List Byte) (fcsOk : Bool) (fits : Bool) (stamp : Stamp) (sec : Option MacRx) (ecc : Ecc)
  /-- PACKET_PARSE (R167). -/
  | packetParse (src : PortIx) (bad : Option PrsBad) (reads : List SlotRead)
  /-- LEARN_PROCESS (R189). -/
  | learnProcess (reads : List SlotRead)
  /-- AGER_VISIT (R191). -/
  | agerVisit (loc : BitVec 21) (ecc : Ecc) (shadowOk : Bool)
  /-- READ_SLOT (R182). -/
  | readSlot (m : Master) (ecc : Ecc) (shadowOk : Bool)
  /-- LOOKUP (R181). -/
  | lookup (m : Master) (reads : List SlotRead)
  /-- LOOKUP_STAGED (R193). -/
  | lookupStaged (m : Master)
  /-- INSERT_STATIC (R193). -/
  | insertStatic (m : Master)
  /-- DELETE_STATIC (R193). -/
  | deleteStatic (m : Master)
  /-- DELETE_DYNAMIC (R186). -/
  | deleteDynamic (m : Master)
  /-- UNPIN (R190). -/
  | unpin (m : Master)
  /-- FLUSH (R192). -/
  | flush (m : Master) (scope : BitVec 2)
  /-- RULE_READ_APPLIED (R169). -/
  | ruleReadApplied (m : Master) (ecc : Ecc) (copyBad : Bool)
  /-- RULE_READ_STAGED (R169). -/
  | ruleReadStaged (m : Master)
  /-- RULE_WRITE_STAGED (R169). -/
  | ruleWriteStaged (m : Master)
  /-- RULE_ZERO_DATA (R169). -/
  | ruleZeroData (m : Master)
  /-- LAG_READ_APPLIED (R173). -/
  | lagReadApplied (m : Master) (ecc : Ecc) (copyBad : Bool)
  /-- LAG_READ_STAGED (R173). -/
  | lagReadStaged (m : Master)
  /-- LAG_WRITE_STAGED (R173). -/
  | lagWriteStaged (m : Master)
  /-- LAG_RETURN (R173). -/
  | lagReturn (l : BitVec 6) (p : BitVec 7)
  /-- FABRIC_INGRESS (R199). -/
  | fabricIngress (src : PortIx)
  /-- CELL_SLOT (R200). -/
  | cellSlot (retry : List (BitVec 6)) (lost : List (BitVec 6))
  /-- EGRESS_ENQUEUE (R204). -/
  | egressEnqueue (d : PortIx) (late : Bool)
  /-- SPILL_BURST_WRITE (R207). -/
  | spillBurstWrite (f : FlowIx)
  /-- REFILL (R207). -/
  | refill (f : FlowIx) (tagBad : Bool) (poison : Bool)
  /-- BUFFER_ALLOC (R212). -/
  | bufferAlloc (agent : Byte) (family : BitVec 2) (size : BitVec 18) (flow : FlowIx) (mayWait : Bool) (ptrBad : Bool)
  /-- BUFFER_FREE (R213). -/
  | bufferFree (agent : Byte) (pool : BitVec 3) (ptr : BitVec 36) (bitBad : Bool)
  /-- PORT_LINK_LOSS (R210). -/
  | portLinkLoss (p : PortIx)
  /-- PORT_LINK_UP (R210). -/
  | portLinkUp (p : PortIx)
  /-- PORT_HOLD_TIMEOUT (R210). -/
  | portHoldTimeout (p : PortIx)
  /-- SHEET_PICK (R229). -/
  | sheetPick (p : PortIx) (poison : Bool) (retired : Bool) (bad : Option NodeBad) (saEcc : Ecc)
  /-- CALENDAR_SLOT (R227). -/
  | calendarSlot (slot : BitVec 16)
  /-- GATE_ENTRY_CHANGE (R230). -/
  | gateEntryChange (u : Uplink)
  /-- GATE_LIST_ACTIVE (R231). -/
  | gateListActive (u : Uplink)
  /-- PFC_REFRESH (R233). -/
  | pfcRefresh (p : BitVec 7)
  /-- PFC_FRAME_RECEIVED (R234). -/
  | pfcFrameReceived (p : BitVec 7) (en : Byte) (quanta : List (BitVec 16))
  /-- PFC_PAUSE_EXPIRY (R234). -/
  | pfcPauseExpiry (p : BitVec 7) (c : BitVec 3)
  /-- PFC_STORM (R234). -/
  | pfcStorm (p : BitVec 7) (c : BitVec 3)
  /-- NODE_READ_APPLIED (R223). -/
  | nodeReadApplied (m : Master) (ecc : Ecc) (copyBad : Bool)
  /-- NODE_READ_STAGED (R223). -/
  | nodeReadStaged (m : Master)
  /-- NODE_WRITE_STAGED (R223). -/
  | nodeWriteStaged (m : Master)
  /-- NODE_ZERO_DATA (R223). -/
  | nodeZeroData (m : Master)
  /-- QS_READ (R235). -/
  | qsRead (m : Master)
  /-- QS_READ_CLEAR (R235). -/
  | qsReadClear (m : Master)
  /-- UPLINK_FRAME_SENT (R264). -/
  | uplinkFrameSent (p : BitVec 7) (stamp : Stamp)
  /-- ROOT_LOAD (R240). -/
  | rootLoad (m : Master) (data : Word)
  /-- MSK_LOAD (R242). -/
  | mskLoad (m : Master)
  /-- KEY_LOAD (R242). -/
  | keyLoad (m : Master) (ecc : Ecc)
  /-- KEY_CLEAR (R245). -/
  | keyClear (m : Master)
  /-- GROUP_GEN (R245). -/
  | groupGen (m : Master)
  /-- GROUP_EXPORT (R241). -/
  | groupExport (m : Master) (ecc : Ecc)
  /-- GROUP_ACTIVATE (R245). -/
  | groupActivate (m : Master)
  /-- GROUP_KEY_SWITCH (R245). -/
  | groupKeySwitch (c : Chan)
  /-- CA_KEK_LOAD (R242). -/
  | caKekLoad (m : Master)
  /-- SA_INSTALL (R248). -/
  | saInstall (m : Master)
  /-- SA_EXPORT (R248). -/
  | saExport (m : Master) (ecc : Ecc)
  /-- SA_DELETE (R248). -/
  | saDelete (m : Master)
  /-- SET_TX_AN (R248). -/
  | setTxAn (m : Master)
  /-- SAVE_CLEAR (R250). -/
  | saveClear (m : Master) (ecc : Ecc)
  /-- SAVE_WRAPPED (R250). -/
  | saveWrapped (m : Master) (ecc : Ecc)
  /-- RESTORE (R250). -/
  | restore (m : Master)
  /-- PN_READ (R251). -/
  | pnRead (m : Master) (ecc : Ecc)
  /-- CIPHER_LANE_FAULT (R253). -/
  | cipherLaneFault (p : BitVec 5) (unit : CipherUnit)
  /-- SET (R260). -/
  | set_ (m : Master)
  /-- ADJUST (R260). -/
  | adjust (m : Master)
  /-- SET_AT_PPS (R260). -/
  | setAtPps (m : Master)
  /-- PPS_IN_EDGE (R268). -/
  | ppsInEdge (phase : BitVec 7)
  /-- SET_AT_PPS_TIMEOUT (R260). -/
  | setAtPpsTimeout
  /-- INC_COMMIT (R259). -/
  | incCommit (m : Master) (ns : BitVec 4)
  /-- TIME_NOW_READ (R261). -/
  | timeNowRead (m : Master)
  /-- SFC_READ (R68). -/
  | sfcRead (m : Master) (c : Chan)
  /-- TSQ_READ (R265). -/
  | tsqRead (m : Master) (u : Uplink)
  /-- PPSI_READ (R268). -/
  | ppsiRead (m : Master)
  /-- PPS_OUT_EDGE (R268). -/
  | ppsOutEdge
  /-- PPS_IN_LOSS (R268). -/
  | ppsInLoss
  /-- TOD_OUT_MESSAGE (R268). -/
  | todOutMessage
  /-- TODO_ARM (R268). -/
  | todoArm (m : Master) (len : BitVec 6)
  /-- TOD_IN_BYTE (R268). -/
  | todInByte (b : Byte)
  /-- TODI_READ (R268). -/
  | todiRead (m : Master)
  /-- TOD_CALC (R266). -/
  | todCalc (m : Master)
  /-- DPLL_CONFIG_WRITE (R269). -/
  | dpllConfigWrite (m : Master) (e : Bool) (data : Word)
  /-- DPLL_LOCK (R269). -/
  | dpllLock (e : Bool)
  /-- DPLL_REF_LOSS (R269). -/
  | dpllRefLoss (e : Bool)
  /-- DPLL_REF_RETURN (R269). -/
  | dpllRefReturn (e : Bool)
  /-- LANE_REEF_REQUEST (R282). -/
  | laneReefRequest (m : Master) (i : LaneIx) (reef : BitVec 2)
  /-- LANE_RESTART (R281). -/
  | laneRestart (m : Master) (i : LaneIx)
  /-- LANE_REEF_ENTERED (R282). -/
  | laneReefEntered (i : LaneIx)
  /-- LANE_LOCK_ACQUIRED (R278). -/
  | laneLockAcquired (i : LaneIx)
  /-- ADAPT_WINDOW (R281). -/
  | adaptWindow (i : LaneIx) (toggles : BitVec 12) (fom : BitVec 8) (c0 : Word) (c1 : Word)
  /-- LANE_LOCK_LOSS (R283). -/
  | laneLockLoss (i : LaneIx) (signal : Bool)
  /-- FOM_FAIL_TIMER (R283). -/
  | fomFailTimer (i : LaneIx)
  /-- SL_ENABLE (R285). -/
  | slEnable (m : Master) (enable : Bool)
  /-- SL_SYNC_BLOCK (R289). -/
  | slSyncBlock (k : BitVec 3) (w : BitVec 64) (stuff : BitVec 8) (empty : BitVec 8) (skew : BitVec 13)
  /-- HEARTBEAT_SEND (R304). -/
  | heartbeatSend
  /-- HEARTBEAT_RECEIVED (R302). -/
  | heartbeatReceived (h : Heartbeat)
  /-- HEARTBEAT_LOSS (R305). -/
  | heartbeatLoss
  /-- CONTEST_TAKEOVER (R305). -/
  | contestTakeover
  /-- CONTEST_TIMEOUT (R305). -/
  | contestTimeout
  /-- SEEK_TIMEOUT (R302). -/
  | seekTimeout
  /-- MANUAL (R311). -/
  | manual (m : Master) (mateLockout : Bool)
  /-- FORCE_ACTIVE (R302). -/
  | forceActive (m : Master)
  /-- LOCKOUT_SET (R302). -/
  | lockoutSet (m : Master)
  /-- LOCKOUT_CLR (R313). -/
  | lockoutClr (m : Master)
  /-- RESYNC (R302). -/
  | resync (m : Master)
  /-- REVERT_NOW (R313). -/
  | revertNow (m : Master)
  /-- FRAME_MESSAGE (R307). -/
  | frameMessage (f : FrameMsg)
  /-- ONU_MESSAGE (R307). -/
  | onuMessage (o : OnuMsg)
  /-- KEYS_MESSAGE (R307). -/
  | keysMessage (h : MsgHdr) (b : List Byte)
  /-- LEARN_MESSAGE (R307). -/
  | learnMessage (h : MsgHdr) (recs : List LearnRec)
  /-- HELLO_MESSAGE (R300). -/
  | helloMessage (h : MsgHdr) (digest : Nat) (prec : Nat) (preferred : Bool)
  /-- TIMING_MESSAGE (R308). -/
  | timingMessage (h : MsgHdr) (arrival : Stamp) (departed : Stamp) (d : Int)
  /-- HANDOVER_MESSAGE (R311). -/
  | handoverMessage (h : MsgHdr) (sec : Word) (ns : BitVec 30)
  /-- SYNC_REQ (R306). -/
  | syncReq (h : MsgHdr)
  /-- SYNC_DONE (R302). -/
  | syncDone (h : MsgHdr)
  /-- LEARN_MESSAGE_SEND (R306). -/
  | learnMessageSend
  /-- HELLO_SEND (R306). -/
  | helloSend
  /-- TIMING_SEND (R306). -/
  | timingSend (departure : Stamp)
  /-- ONU_ROUND_ROBIN_SEND (R306). -/
  | onuRoundRobinSend (onu : Onu)
  /-- HANDOVER_BOUNDARY (R311). -/
  | handoverBoundary
  /-- WTR_EXPIRY (R313). -/
  | wtrExpiry
  /-- EPOCH_DIFF_TIMER (R301). -/
  | epochDiffTimer
  /-- MATE_PATH_FAULT (R309). -/
  | matePathFault (c : Chan)
  /-- SCRUB_START (R323). -/
  | scrubStart (m : Master) (mem : BitVec 8)
  /-- SCRUB_ABORT (R323). -/
  | scrubAbort (m : Master)
  /-- SCRUB_WORD (R322). -/
  | scrubWord (ecc : Ecc) (rewritten : Bool)
  /-- SCRUB_DONE (R324). -/
  | scrubDone (us : Word)
  /-- NARROW_WRITE (R320). -/
  | narrowWrite (mem : BitVec 8) (ix : Word) (bytes : List (BitVec 6 × Byte))
  /-- MERGE_READ_RETURN (R320). -/
  | mergeReadReturn (mem : BitVec 8) (ix : Word) (ecc : Ecc)
  /-- MERGE_ENTRY_TIMEOUT (R320). -/
  | mergeEntryTimeout (mem : BitVec 8) (ix : Word)
  /-- FLIP_ARM (R325). -/
  | flipArm (m : Master) (ctrl : Word)
  /-- WEAK_ENTRY_AGE (R326). -/
  | weakEntryAge (mem : BitVec 8) (ix : Word)
  /-- SPARE_COPY_DONE (R328). -/
  | spareCopyDone (mem : BitVec 8) (bank : BitVec 8) (bad : List Word)
  /-- HPPR_DONE (R329). -/
  | hpprDone (stack : BitVec 2) (row : BitVec 28)
  /-- DRAM_TEMP_READ (R330). -/
  | dramTempRead (stack : BitVec 2) (temp : BitVec 8)
  /-- FLASH_SCAN (R332). -/
  | flashScan (slot : BitVec 2) (block : BitVec 16) (corrected : BitVec 8) (bad : Bool)
  /-- FLASH_REFRESH (R332). -/
  | flashRefresh (block : BitVec 16)
  /-- JOURNAL_WRITE (R334). -/
  | journalWrite (verified : Bool)
  /-- JNL_READ (R333). -/
  | jnlRead (m : Master) (crcOk : Bool)
  /-- MAST_CORE_RESTART (R355). -/
  | mastCoreRestart (core : BitVec 2)
  /-- TX_DOORBELL (R343). -/
  | txDoorbell (m : Master) (q : QpIx) (tail : BitVec 32)
  /-- RX_DOORBELL (R345). -/
  | rxDoorbell (m : Master) (q : QpIx) (tail : BitVec 32)
  /-- TX_DESCRIPTOR_FETCH (R343). -/
  | txDescriptorFetch (q : QpIx) (d : TxDesc) (acc : HostAccess)
  /-- RX_PACKET_DELIVER (R345). -/
  | rxPacketDeliver (q : QpIx) (d : RxDesc) (micOk : Bool) (acc : HostAccess)
  /-- DMA_QP_ERROR (R346). -/
  | dmaQpError (q : QpIx) (cause : HostAccess)
  /-- QP_ENABLE (R346). -/
  | qpEnable (m : Master) (q : QpIx)
  /-- QP_DISABLE (R346). -/
  | qpDisable (m : Master) (q : QpIx)
  /-- QP_STOP_DONE (R346). -/
  | qpStopDone (q : QpIx)
  /-- QP_OWNER_WRITE (R342). -/
  | qpOwnerWrite (m : Master) (q : QpIx) (owner : Master)
  /-- VF_FLR (R347). -/
  | vfFlr (vf : BitVec 4)
  /-- FLR_DONE (R347). -/
  | flrDone (vf : BitVec 4)
  /-- EVENT_ENTRY_WRITE (R348). -/
  | eventEntryWrite
  /-- VECTOR_HOLDOFF_END (R348). -/
  | vectorHoldoffEnd (v : BitVec 6)
  /-- EVQ_ENABLE (R349). -/
  | evqEnable (m : Master)
  /-- EVQ_DISABLE (R349). -/
  | evqDisable (m : Master)
  /-- EVQ_HEAD_WRITE (R349). -/
  | evqHeadWrite (m : Master) (head : BitVec 12)
  /-- MBX_TX_WRITE (R351). -/
  | mbxTxWrite (m : Master) (c : BitVec 4) (side : Bool) (w : Word)
  /-- MBX_RX_READ (R351). -/
  | mbxRxRead (m : Master) (c : BitVec 4) (side : Bool)
  /-- GET_INFO (R354). -/
  | getInfo (c : BitVec 4) (side : Bool) (core : BitVec 2)
  /-- LOCK_READ (R356). -/
  | lockRead (m : Master) (l : BitVec 6)
  /-- LOCK_RELEASE (R356). -/
  | lockRelease (m : Master) (l : BitVec 6)
  /-- LOCK_FORCE (R356). -/
  | lockForce (m : Master) (l : BitVec 6)
  /-- CHAIN_SET (R360). -/
  | chainSet (m : Master)
  /-- CHAIN_CLEAR (R360). -/
  | chainClear (m : Master)
  /-- SNAP_START (R362). -/
  | snapStart (m : Master)
  /-- SNAP_ABORT (R362). -/
  | snapAbort (m : Master)
  /-- SNAP_DONE (R362). -/
  | snapDone
  /-- I2C_WRITE (R398). -/
  | i2cWrite (m : Master) (i : BitVec 4) (dev : BitVec 7) (reg : BitVec 8) (count : BitVec 2)
  /-- I2C_READ (R398). -/
  | i2cRead (m : Master) (i : BitVec 4) (dev : BitVec 7) (reg : BitVec 8) (count : BitVec 2)
  /-- I2C_WRITE_BYTE (R398). -/
  | i2cWriteByte (m : Master) (i : BitVec 4) (dev : BitVec 7) (reg : BitVec 8)
  /-- I2C_DONE (R398). -/
  | i2cDone (i : BitVec 4) (result : BitVec 2) (data : Word)
  /-- PERST_DEASSERT (R375). -/
  | perstDeassert
  /-- TIME_BASE_TICK (R258). -/
  | timeBaseTick
  /-- LOAD_TRIM_DONE (R50). -/
  | loadTrimDone (recs : List TrimRecord)
  /-- ROW_REMAP_DONE (R329). -/
  | rowRemapDone (stack : BitVec 2) (row : BitVec 28) (ppr : Bool)
deriving DecidableEq, Repr

end Sys2Proof
end

