-- ==== Sys2Proof/Config.lean ====
section
/-! DEFINITION. What an implementation fixes and the spec leaves open: values with no body, so that a claim holds whatever
they are. Each names the rule that leaves it open. -/

namespace Sys2Proof.Config

/-- A value the spec leaves open, one for each point of the run (State.freeIx counts the points used). -/
opaque freeValue : Nat → Nat

/-- AES-CMAC over a byte string under a key (R241, R60 names the primitives; the spec cites the standards). -/
opaque cmac : List Nat → List Nat → List Nat

/-- AES-128 in ECB mode, one block or more, under a key: encryption and decryption (R242; the standards define it). -/
opaque aesEnc : List Nat → List Nat → List Nat
opaque aesDec : List Nat → List Nat → List Nat

/-- AES key wrap (SP 800-38F KW) of a key under a key-encrypting key (R248). -/
opaque keyWrap : List Nat → List Nat → List Nat

/-- GCM-AES-256 (R250): key, nonce, additional data, plaintext to ciphertext, and to the 16-byte tag. -/
opaque gcmText : List Nat → List Nat → List Nat → List Nat → List Nat
opaque gcmTag : List Nat → List Nat → List Nat → List Nat → List Nat

/-- GCM-AES-256 decryption (R250): key, nonce, additional data, ciphertext and tag to the plaintext, none when the tag fails. -/
opaque gcmOpen : List Nat → List Nat → List Nat → List Nat → List Nat → Option (List Nat)

/-- The KEK of an ONU's PLOAM channel from its master session key, as G.9807.1 and G.9804.2 define (R241). -/
opaque onuKek : List Nat → List Nat

/-- The 4 bytes of the OMCI MIC under the integrity key that Shroud derives from an ONU's master session key as G.9807.1 and G.9804.2
define (R241, R345): key and frame. -/
opaque omciMic : List Nat → List Nat → List Nat

/-- The interface version that firmware of a version reports (R354). -/
opaque ifVersion : Nat → Nat

/-- SHA-384 of a byte string, as bytes (R42, R43). -/
opaque sha384 : List Nat → List Nat

/-- ECDSA P-384 signature (r then s, 96 bytes) with the device identity key (R60). -/
opaque sign : List Nat → List Nat

/-- The 64-bit device unique identifier (R60), fused at manufacture. -/
opaque deviceId : Nat

/-- The base slot index of a counter array (block, counter, kept-for position) in BAR4: fixed for the silicon and the
profile (R359), and not printed. -/
opaque cntBase : Nat → Nat → Nat → Nat

/-- The 13-bit HEC of an allocation structure over its other 51 bits (R135: as the standard defines). -/
opaque hec : Nat → Nat

/-- The code-word index at which a block's object lies in a memory (R317, R322: the region map), by memory identifier, kind
of record and object index. -/
opaque wordIx : Nat → Nat → Nat → Nat

/-- The R21 block code of the owner of a code word (R322). -/
opaque ownerBlock : Nat → Nat → Nat

/-- The owner's object index of a code word, 0xFFFF_FFFF where its region map names none (R322). -/
opaque ownerObject : Nat → Nat → Nat

/-- The data word with which an event reports one of several outcomes or reasons that the spec names and does not number: the event
code and the place of the outcome in the spec's list (R269, R300, R305). -/
opaque eventWord : Nat → Nat → Nat

/-- FS frame capacity in bytes of a 50G-PON channel (R69: as G.9804.2 defines). -/
opaque fsCap50 : Nat

/-- What the parser reads at a byte beyond the end of a packet or beyond its first 256 bytes (R166 lets a next-protocol field reach
there; no rule says what it reads). -/
opaque pastEnd : Nat → Nat

end Sys2Proof.Config
end

