-- ==== Sys2Proof/Machine/Fields.lean ====
section
/-! DEFINITION. The names of the registers and of their fields, as the spec writes them: pchSts_state c is field state of
PCH_STS of channel c. A register without an underscore is the whole register. -/

namespace Sys2Proof.Machine.F

/-- GLB_START (17_supply_start_retirement.md R372). -/
def glbStart : Fld := ⟨0x100, 0, 32⟩
/-- cause of GLB_START, RO. -/
def glbStart_cause : Fld := ⟨0x100, 28, 4⟩
/-- phase of GLB_START, RO. -/
def glbStart_phase : Fld := ⟨0x100, 24, 3⟩
/-- elapsed_ms of GLB_START, RO. -/
def glbStart_elapsed_ms : Fld := ⟨0x100, 0, 16⟩
/-- GLB_RST (17_supply_start_retirement.md R372). -/
def glbRst : Fld := ⟨0x104, 0, 32⟩
/-- op of GLB_RST, WO. -/
def glbRst_op : Fld := ⟨0x104, 0, 4⟩
/-- GLB_SUP_STS (17_supply_start_retirement.md R372). -/
def glbSupSts : Fld := ⟨0x110, 0, 32⟩
/-- aux_low of GLB_SUP_STS, RO. -/
def glbSupSts_aux_low : Fld := ⟨0x110, 2, 1⟩
/-- supply_reset of GLB_SUP_STS, W1C. -/
def glbSupSts_supply_reset : Fld := ⟨0x110, 1, 1⟩
/-- reefed_seen of GLB_SUP_STS, W1C. -/
def glbSupSts_reefed_seen : Fld := ⟨0x110, 0, 1⟩
/-- GLB_SUP_VMIN (17_supply_start_retirement.md R372). -/
def glbSupVmin : Fld := ⟨0x114, 0, 32⟩
/-- vmin of GLB_SUP_VMIN, RC. -/
def glbSupVmin_vmin : Fld := ⟨0x114, 0, 16⟩
/-- GLB_SUP_REEF (17_supply_start_retirement.md R372). -/
def glbSupReef : Fld := ⟨0x118, 0, 32⟩
/-- entries of GLB_SUP_REEF, RC. -/
def glbSupReef_entries : Fld := ⟨0x118, 24, 8⟩
/-- last_us of GLB_SUP_REEF, RO. -/
def glbSupReef_last_us : Fld := ⟨0x118, 0, 24⟩
/-- GLB_THERM (17_supply_start_retirement.md R372). -/
def glbTherm : Fld := ⟨0x120, 0, 32⟩
/-- grade of GLB_THERM, RO. -/
def glbTherm_grade : Fld := ⟨0x120, 31, 1⟩
/-- tj_max of GLB_THERM, RC. -/
def glbTherm_tj_max : Fld := ⟨0x120, 16, 8⟩
/-- tj of GLB_THERM, RO. -/
def glbTherm_tj : Fld := ⟨0x120, 0, 8⟩
/-- GLB_THERM_CFG (17_supply_start_retirement.md R372). -/
def glbThermCfg : Fld := ⟨0x124, 0, 32⟩
/-- thr_warn of GLB_THERM_CFG, RW. -/
def glbThermCfg_thr_warn : Fld := ⟨0x124, 0, 8⟩
/-- GLB_LADDER (17_supply_start_retirement.md R372). -/
def glbLadder (i : Nat) : Fld := ⟨0x144 + 0x4 * i, 0, 32⟩
/-- window_s of GLB_LADDER, ST. -/
def glbLadder_window_s (i : Nat) : Fld := ⟨0x144 + 0x4 * i, 16, 16⟩
/-- allowance of GLB_LADDER, ST. -/
def glbLadder_allowance (i : Nat) : Fld := ⟨0x144 + 0x4 * i, 0, 4⟩
/-- GLB_RET_CMD (17_supply_start_retirement.md R372). -/
def glbRetCmd : Fld := ⟨0x180, 0, 32⟩
/-- result of GLB_RET_CMD, RO. -/
def glbRetCmd_result : Fld := ⟨0x180, 5, 3⟩
/-- busy of GLB_RET_CMD, RO. -/
def glbRetCmd_busy : Fld := ⟨0x180, 4, 1⟩
/-- op of GLB_RET_CMD, WO. -/
def glbRetCmd_op : Fld := ⟨0x180, 0, 2⟩
/-- GLB_RET_ARG (17_supply_start_retirement.md R372). -/
def glbRetArg : Fld := ⟨0x184, 0, 32⟩
/-- class of GLB_RET_ARG, RW. -/
def glbRetArg_class : Fld := ⟨0x184, 0, 8⟩
/-- GLB_RET_IDX (17_supply_start_retirement.md R372). -/
def glbRetIdx : Fld := ⟨0x188, 0, 32⟩
/-- idx of GLB_RET_IDX, RW. -/
def glbRetIdx_idx : Fld := ⟨0x188, 0, 12⟩
/-- GLB_RET_DATA0 (17_supply_start_retirement.md R372). -/
def glbRetData0 : Fld := ⟨0x18C, 0, 32⟩
/-- valid of GLB_RET_DATA0, RO. -/
def glbRetData0_valid : Fld := ⟨0x18C, 31, 1⟩
/-- class of GLB_RET_DATA0, RO. -/
def glbRetData0_class : Fld := ⟨0x18C, 0, 8⟩
/-- GLB_RET_DATA1 (17_supply_start_retirement.md R372). -/
def glbRetData1 : Fld := ⟨0x190, 0, 32⟩
/-- index of GLB_RET_DATA1, RO. -/
def glbRetData1_index : Fld := ⟨0x190, 0, 32⟩
/-- GLB_RET_DATA2 (17_supply_start_retirement.md R372). -/
def glbRetData2 : Fld := ⟨0x194, 0, 32⟩
/-- sec of GLB_RET_DATA2, RO. -/
def glbRetData2_sec : Fld := ⟨0x194, 0, 32⟩
/-- GLB_RET_COUNT (17_supply_start_retirement.md R372). -/
def glbRetCount : Fld := ⟨0x198, 0, 32⟩
/-- count of GLB_RET_COUNT, RO. -/
def glbRetCount_count : Fld := ⟨0x198, 0, 13⟩
/-- GLB_RET_OBJ (17_supply_start_retirement.md R372). -/
def glbRetObj : Fld := ⟨0x19C, 0, 32⟩
/-- obj of GLB_RET_OBJ, RW. -/
def glbRetObj_obj : Fld := ⟨0x19C, 0, 32⟩
/-- GLB_PACE_CTRL (01_planes_and_pacing.md R32). -/
def glbPaceCtrl : Fld := ⟨0x200, 0, 32⟩
/-- window of GLB_PACE_CTRL, RW. -/
def glbPaceCtrl_window : Fld := ⟨0x200, 4, 2⟩
/-- enable of GLB_PACE_CTRL, RW. -/
def glbPaceCtrl_enable : Fld := ⟨0x200, 0, 1⟩
/-- GLB_PACE_FAB (01_planes_and_pacing.md R32). -/
def glbPaceFab : Fld := ⟨0x204, 0, 32⟩
/-- worst_ps of GLB_PACE_FAB, RC. -/
def glbPaceFab_worst_ps : Fld := ⟨0x204, 16, 16⟩
/-- cur_ps of GLB_PACE_FAB, RO. -/
def glbPaceFab_cur_ps : Fld := ⟨0x204, 0, 16⟩
/-- GLB_PACE_PRS (01_planes_and_pacing.md R32). -/
def glbPacePrs : Fld := ⟨0x208, 0, 32⟩
/-- worst_ps of GLB_PACE_PRS, RC. -/
def glbPacePrs_worst_ps : Fld := ⟨0x208, 16, 16⟩
/-- cur_ps of GLB_PACE_PRS, RO. -/
def glbPacePrs_cur_ps : Fld := ⟨0x208, 0, 16⟩
/-- GLB_PACE_HAL (01_planes_and_pacing.md R32). -/
def glbPaceHal : Fld := ⟨0x20C, 0, 32⟩
/-- worst_lead of GLB_PACE_HAL, RC. -/
def glbPaceHal_worst_lead : Fld := ⟨0x20C, 16, 16⟩
/-- cur_lead of GLB_PACE_HAL, RO. -/
def glbPaceHal_cur_lead : Fld := ⟨0x20C, 0, 16⟩
/-- GLB_PACE_THR_FAB (01_planes_and_pacing.md R32). -/
def glbPaceThrFab : Fld := ⟨0x210, 0, 32⟩
/-- thr_ps of GLB_PACE_THR_FAB, RW. -/
def glbPaceThrFab_thr_ps : Fld := ⟨0x210, 0, 16⟩
/-- GLB_PACE_THR_PRS (01_planes_and_pacing.md R32). -/
def glbPaceThrPrs : Fld := ⟨0x214, 0, 32⟩
/-- thr_ps of GLB_PACE_THR_PRS, RW. -/
def glbPaceThrPrs_thr_ps : Fld := ⟨0x214, 0, 16⟩
/-- GLB_PACE_THR_HAL (01_planes_and_pacing.md R32). -/
def glbPaceThrHal : Fld := ⟨0x218, 0, 32⟩
/-- thr_lead of GLB_PACE_THR_HAL, RW. -/
def glbPaceThrHal_thr_lead : Fld := ⟨0x218, 0, 16⟩
/-- GLB_PACE_STS (01_planes_and_pacing.md R32). -/
def glbPaceSts : Fld := ⟨0x21C, 0, 32⟩
/-- reefed of GLB_PACE_STS, RO. -/
def glbPaceSts_reefed : Fld := ⟨0x21C, 8, 1⟩
/-- slow_hal of GLB_PACE_STS, W1C. -/
def glbPaceSts_slow_hal : Fld := ⟨0x21C, 2, 1⟩
/-- slow_prs of GLB_PACE_STS, W1C. -/
def glbPaceSts_slow_prs : Fld := ⟨0x21C, 1, 1⟩
/-- slow_fab of GLB_PACE_STS, W1C. -/
def glbPaceSts_slow_fab : Fld := ⟨0x21C, 0, 1⟩
/-- GLB_ISL_RUN0 (01_planes_and_pacing.md R32). -/
def glbIslRun0 : Fld := ⟨0x240, 0, 32⟩
/-- run of GLB_ISL_RUN0, RO. -/
def glbIslRun0_run : Fld := ⟨0x240, 0, 32⟩
/-- GLB_ISL_RUN1 (01_planes_and_pacing.md R32). -/
def glbIslRun1 : Fld := ⟨0x244, 0, 32⟩
/-- run of GLB_ISL_RUN1, RO. -/
def glbIslRun1_run : Fld := ⟨0x244, 0, 32⟩
/-- GLB_ISL_RUN2 (01_planes_and_pacing.md R32). -/
def glbIslRun2 : Fld := ⟨0x248, 0, 32⟩
/-- run of GLB_ISL_RUN2, RO. -/
def glbIslRun2_run : Fld := ⟨0x248, 0, 24⟩
/-- GLB_RAT_POOL (05_ratline_ranging.md R116). -/
def glbRatPool : Fld := ⟨0x260, 0, 32⟩
/-- low_water of GLB_RAT_POOL, RC. -/
def glbRatPool_low_water : Fld := ⟨0x260, 8, 7⟩
/-- free of GLB_RAT_POOL, RO. -/
def glbRatPool_free : Fld := ⟨0x260, 0, 7⟩
/-- GLB_I2C_CFG (18_package_electrical.md R398). -/
def glbI2cCfg (i : Nat) : Fld := ⟨0x300 + 0x10 * i, 0, 32⟩
/-- speed of GLB_I2C_CFG, RW. -/
def glbI2cCfg_speed (i : Nat) : Fld := ⟨0x300 + 0x10 * i, 0, 2⟩
/-- GLB_I2C_CMD (18_package_electrical.md R398). -/
def glbI2cCmd (i : Nat) : Fld := ⟨0x304 + 0x10 * i, 0, 32⟩
/-- dev of GLB_I2C_CMD, RW. -/
def glbI2cCmd_dev (i : Nat) : Fld := ⟨0x304 + 0x10 * i, 24, 7⟩
/-- reg of GLB_I2C_CMD, RW. -/
def glbI2cCmd_reg (i : Nat) : Fld := ⟨0x304 + 0x10 * i, 16, 8⟩
/-- cmd_lost of GLB_I2C_CMD, W1C. -/
def glbI2cCmd_cmd_lost (i : Nat) : Fld := ⟨0x304 + 0x10 * i, 12, 1⟩
/-- count of GLB_I2C_CMD, RW. -/
def glbI2cCmd_count (i : Nat) : Fld := ⟨0x304 + 0x10 * i, 8, 2⟩
/-- result of GLB_I2C_CMD, RO. -/
def glbI2cCmd_result (i : Nat) : Fld := ⟨0x304 + 0x10 * i, 5, 3⟩
/-- busy of GLB_I2C_CMD, RO. -/
def glbI2cCmd_busy (i : Nat) : Fld := ⟨0x304 + 0x10 * i, 4, 1⟩
/-- op of GLB_I2C_CMD, WO. -/
def glbI2cCmd_op (i : Nat) : Fld := ⟨0x304 + 0x10 * i, 0, 2⟩
/-- GLB_I2C_DATA (18_package_electrical.md R398). -/
def glbI2cData (i : Nat) : Fld := ⟨0x308 + 0x10 * i, 0, 32⟩
/-- data of GLB_I2C_DATA, RW. -/
def glbI2cData_data (i : Nat) : Fld := ⟨0x308 + 0x10 * i, 0, 32⟩
/-- GLB_MOD_UL (18_package_electrical.md R398). -/
def glbModUl : Fld := ⟨0x400, 0, 32⟩
/-- int_n of GLB_MOD_UL, RO. -/
def glbModUl_int_n : Fld := ⟨0x400, 16, 16⟩
/-- modprs of GLB_MOD_UL, RO. -/
def glbModUl_modprs : Fld := ⟨0x400, 0, 16⟩
/-- GLB_MOD_UL_CTL (18_package_electrical.md R398). -/
def glbModUlCtl : Fld := ⟨0x404, 0, 32⟩
/-- lpmode of GLB_MOD_UL_CTL, RW. -/
def glbModUlCtl_lpmode : Fld := ⟨0x404, 16, 16⟩
/-- reset of GLB_MOD_UL_CTL, RW. -/
def glbModUlCtl_reset : Fld := ⟨0x404, 0, 16⟩
/-- RIG_CMD (02_rigging_and_epochs.md R50). -/
def rigCmd : Fld := ⟨0x100000, 0, 32⟩
/-- region of RIG_CMD, WO. -/
def rigCmd_region : Fld := ⟨0x100000, 8, 16⟩
/-- slot of RIG_CMD, WO. -/
def rigCmd_slot : Fld := ⟨0x100000, 5, 1⟩
/-- sched of RIG_CMD, WO. -/
def rigCmd_sched : Fld := ⟨0x100000, 4, 1⟩
/-- op of RIG_CMD, WO. -/
def rigCmd_op : Fld := ⟨0x100000, 0, 4⟩
/-- RIG_STS (02_rigging_and_epochs.md R50). -/
def rigSts : Fld := ⟨0x100004, 0, 32⟩
/-- viol_count of RIG_STS, RO. -/
def rigSts_viol_count : Fld := ⟨0x100004, 16, 16⟩
/-- completion of RIG_STS, RO. -/
def rigSts_completion : Fld := ⟨0x100004, 8, 8⟩
/-- busy of RIG_STS, RO. -/
def rigSts_busy : Fld := ⟨0x100004, 7, 1⟩
/-- prev_live of RIG_STS, RO. -/
def rigSts_prev_live : Fld := ⟨0x100004, 6, 1⟩
/-- stage_write_lost of RIG_STS, W1C. -/
def rigSts_stage_write_lost : Fld := ⟨0x100004, 5, 1⟩
/-- recheck of RIG_STS, W1C. -/
def rigSts_recheck : Fld := ⟨0x100004, 4, 1⟩
/-- state of RIG_STS, RO. -/
def rigSts_state : Fld := ⟨0x100004, 0, 3⟩
/-- RIG_EPOCH (02_rigging_and_epochs.md R50). -/
def rigEpoch : Fld := ⟨0x100008, 0, 32⟩
/-- previous of RIG_EPOCH, RO. -/
def rigEpoch_previous : Fld := ⟨0x100008, 16, 16⟩
/-- current of RIG_EPOCH, RO. -/
def rigEpoch_current : Fld := ⟨0x100008, 0, 16⟩
/-- RIG_SCHED_SEC_LO (02_rigging_and_epochs.md R50). -/
def rigSchedSecLo : Fld := ⟨0x100010, 0, 32⟩
/-- sec_lo of RIG_SCHED_SEC_LO, RW. -/
def rigSchedSecLo_sec_lo : Fld := ⟨0x100010, 0, 32⟩
/-- RIG_SCHED_SEC_HI (02_rigging_and_epochs.md R50). -/
def rigSchedSecHi : Fld := ⟨0x100014, 0, 32⟩
/-- sec_hi of RIG_SCHED_SEC_HI, RW. -/
def rigSchedSecHi_sec_hi : Fld := ⟨0x100014, 0, 16⟩
/-- RIG_SCHED_NS (02_rigging_and_epochs.md R50). -/
def rigSchedNs : Fld := ⟨0x100018, 0, 32⟩
/-- ns of RIG_SCHED_NS, RW. -/
def rigSchedNs_ns : Fld := ⟨0x100018, 0, 30⟩
/-- RIG_DRAIN_LIMIT (02_rigging_and_epochs.md R50). -/
def rigDrainLimit : Fld := ⟨0x10001C, 0, 32⟩
/-- limit_us of RIG_DRAIN_LIMIT, RW. -/
def rigDrainLimit_limit_us : Fld := ⟨0x10001C, 0, 20⟩
/-- RIG_DRAIN_LAST (02_rigging_and_epochs.md R50). -/
def rigDrainLast : Fld := ⟨0x100020, 0, 32⟩
/-- last_us of RIG_DRAIN_LAST, RO. -/
def rigDrainLast_last_us : Fld := ⟨0x100020, 0, 20⟩
/-- RIG_BOOT (02_rigging_and_epochs.md R50). -/
def rigBoot : Fld := ⟨0x100024, 0, 32⟩
/-- trial_left of RIG_BOOT, RO. -/
def rigBoot_trial_left : Fld := ⟨0x100024, 16, 16⟩
/-- no_image of RIG_BOOT, RO. -/
def rigBoot_no_image : Fld := ⟨0x100024, 10, 1⟩
/-- owner_fused of RIG_BOOT, RO. -/
def rigBoot_owner_fused : Fld := ⟨0x100024, 9, 1⟩
/-- fallback of RIG_BOOT, RO. -/
def rigBoot_fallback : Fld := ⟨0x100024, 8, 1⟩
/-- state_b of RIG_BOOT, RO. -/
def rigBoot_state_b : Fld := ⟨0x100024, 5, 3⟩
/-- state_a of RIG_BOOT, RO. -/
def rigBoot_state_a : Fld := ⟨0x100024, 2, 3⟩
/-- trial of RIG_BOOT, RO. -/
def rigBoot_trial : Fld := ⟨0x100024, 1, 1⟩
/-- slot of RIG_BOOT, RO. -/
def rigBoot_slot : Fld := ⟨0x100024, 0, 1⟩
/-- RIG_IMG_SERIAL (02_rigging_and_epochs.md R50). -/
def rigImgSerial : Fld := ⟨0x100028, 0, 32⟩
/-- serial of RIG_IMG_SERIAL, RO. -/
def rigImgSerial_serial : Fld := ⟨0x100028, 0, 32⟩
/-- RIG_VIOL_IDX (02_rigging_and_epochs.md R50). -/
def rigViolIdx : Fld := ⟨0x100030, 0, 32⟩
/-- idx of RIG_VIOL_IDX, RW. -/
def rigViolIdx_idx : Fld := ⟨0x100030, 0, 8⟩
/-- RIG_VIOL_DATA0 (02_rigging_and_epochs.md R50). -/
def rigViolData0 : Fld := ⟨0x100034, 0, 32⟩
/-- section of RIG_VIOL_DATA0, RO. -/
def rigViolData0_section : Fld := ⟨0x100034, 24, 8⟩
/-- staged_reg of RIG_VIOL_DATA0, RO. -/
def rigViolData0_staged_reg : Fld := ⟨0x100034, 23, 1⟩
/-- block of RIG_VIOL_DATA0, RO. -/
def rigViolData0_block : Fld := ⟨0x100034, 16, 7⟩
/-- code of RIG_VIOL_DATA0, RO. -/
def rigViolData0_code : Fld := ⟨0x100034, 0, 16⟩
/-- RIG_VIOL_DATA1 (02_rigging_and_epochs.md R50). -/
def rigViolData1 : Fld := ⟨0x100038, 0, 32⟩
/-- object of RIG_VIOL_DATA1, RO. -/
def rigViolData1_object : Fld := ⟨0x100038, 0, 32⟩
/-- RIG_ATT_NONCE (02_rigging_and_epochs.md R50). -/
def rigAttNonce (i : Nat) : Fld := ⟨0x100040 + 0x4 * i, 0, 32⟩
/-- nonce of RIG_ATT_NONCE, RW. -/
def rigAttNonce_nonce (i : Nat) : Fld := ⟨0x100040 + 0x4 * i, 0, 32⟩
/-- RIG_ATT_ADDR_LO (02_rigging_and_epochs.md R50). -/
def rigAttAddrLo : Fld := ⟨0x100060, 0, 32⟩
/-- addr of RIG_ATT_ADDR_LO, RW. -/
def rigAttAddrLo_addr : Fld := ⟨0x100060, 6, 26⟩
/-- RIG_ATT_ADDR_HI (02_rigging_and_epochs.md R50). -/
def rigAttAddrHi : Fld := ⟨0x100064, 0, 32⟩
/-- addr of RIG_ATT_ADDR_HI, RW. -/
def rigAttAddrHi_addr : Fld := ⟨0x100064, 0, 32⟩
/-- RIG_HBUF_ADDR_LO (02_rigging_and_epochs.md R50). -/
def rigHbufAddrLo : Fld := ⟨0x100068, 0, 32⟩
/-- addr of RIG_HBUF_ADDR_LO, RW. -/
def rigHbufAddrLo_addr : Fld := ⟨0x100068, 0, 32⟩
/-- RIG_HBUF_ADDR_HI (02_rigging_and_epochs.md R50). -/
def rigHbufAddrHi : Fld := ⟨0x10006C, 0, 32⟩
/-- addr of RIG_HBUF_ADDR_HI, RW. -/
def rigHbufAddrHi_addr : Fld := ⟨0x10006C, 0, 32⟩
/-- RIG_HBUF_LEN (02_rigging_and_epochs.md R50). -/
def rigHbufLen : Fld := ⟨0x100070, 0, 32⟩
/-- len of RIG_HBUF_LEN, RW. -/
def rigHbufLen_len : Fld := ⟨0x100070, 0, 32⟩
/-- RIG_LOCK (02_rigging_and_epochs.md R50). -/
def rigLock : Fld := ⟨0x100080, 0, 32⟩
/-- lock of RIG_LOCK, LK. -/
def rigLock_lock : Fld := ⟨0x100080, 0, 16⟩
/-- MBX_TX (16_host_mailboxes_counters.md R350). -/
def mbxTx (i j : Nat) : Fld := ⟨0x200000 + 0x40 * i + 0x20 * j, 0, 32⟩
/-- word of MBX_TX, WO. -/
def mbxTx_word (i j : Nat) : Fld := ⟨0x200000 + 0x40 * i + 0x20 * j, 0, 32⟩
/-- MBX_RX (16_host_mailboxes_counters.md R350). -/
def mbxRx (i j : Nat) : Fld := ⟨0x200004 + 0x40 * i + 0x20 * j, 0, 32⟩
/-- word of MBX_RX, RO. -/
def mbxRx_word (i j : Nat) : Fld := ⟨0x200004 + 0x40 * i + 0x20 * j, 0, 32⟩
/-- MBX_STS (16_host_mailboxes_counters.md R350). -/
def mbxSts (i j : Nat) : Fld := ⟨0x200008 + 0x40 * i + 0x20 * j, 0, 32⟩
/-- src of MBX_STS, RO. -/
def mbxSts_src (i j : Nat) : Fld := ⟨0x200008 + 0x40 * i + 0x20 * j, 18, 6⟩
/-- peer_reset of MBX_STS, W1C. -/
def mbxSts_peer_reset (i j : Nat) : Fld := ⟨0x200008 + 0x40 * i + 0x20 * j, 17, 1⟩
/-- ovf of MBX_STS, W1C. -/
def mbxSts_ovf (i j : Nat) : Fld := ⟨0x200008 + 0x40 * i + 0x20 * j, 16, 1⟩
/-- out_free of MBX_STS, RO. -/
def mbxSts_out_free (i j : Nat) : Fld := ⟨0x200008 + 0x40 * i + 0x20 * j, 8, 4⟩
/-- in_count of MBX_STS, RO. -/
def mbxSts_in_count (i j : Nat) : Fld := ⟨0x200008 + 0x40 * i + 0x20 * j, 0, 4⟩
/-- MBX_FLAG (16_host_mailboxes_counters.md R350). -/
def mbxFlag : Fld := ⟨0x200400, 0, 32⟩
/-- flag of MBX_FLAG, RO. -/
def mbxFlag_flag : Fld := ⟨0x200400, 0, 32⟩
/-- MBX_LOCK (16_host_mailboxes_counters.md R350). -/
def mbxLock (i : Nat) : Fld := ⟨0x200800 + 0x4 * i, 0, 32⟩
/-- result of MBX_LOCK, RO. -/
def mbxLock_result (i : Nat) : Fld := ⟨0x200800 + 0x4 * i, 30, 2⟩
/-- holder of MBX_LOCK, RO. -/
def mbxLock_holder (i : Nat) : Fld := ⟨0x200800 + 0x4 * i, 0, 6⟩
/-- MBX_QP_TXBASE_LO (16_host_mailboxes_counters.md R350). -/
def mbxQpTxbaseLo (i : Nat) : Fld := ⟨0x201000 + 0x40 * i, 0, 32⟩
/-- addr of MBX_QP_TXBASE_LO, RW. -/
def mbxQpTxbaseLo_addr (i : Nat) : Fld := ⟨0x201000 + 0x40 * i, 12, 20⟩
/-- MBX_QP_TXBASE_HI (16_host_mailboxes_counters.md R350). -/
def mbxQpTxbaseHi (i : Nat) : Fld := ⟨0x201004 + 0x40 * i, 0, 32⟩
/-- addr of MBX_QP_TXBASE_HI, RW. -/
def mbxQpTxbaseHi_addr (i : Nat) : Fld := ⟨0x201004 + 0x40 * i, 0, 32⟩
/-- MBX_QP_RXBASE_LO (16_host_mailboxes_counters.md R350). -/
def mbxQpRxbaseLo (i : Nat) : Fld := ⟨0x201008 + 0x40 * i, 0, 32⟩
/-- addr of MBX_QP_RXBASE_LO, RW. -/
def mbxQpRxbaseLo_addr (i : Nat) : Fld := ⟨0x201008 + 0x40 * i, 12, 20⟩
/-- MBX_QP_RXBASE_HI (16_host_mailboxes_counters.md R350). -/
def mbxQpRxbaseHi (i : Nat) : Fld := ⟨0x20100C + 0x40 * i, 0, 32⟩
/-- addr of MBX_QP_RXBASE_HI, RW. -/
def mbxQpRxbaseHi_addr (i : Nat) : Fld := ⟨0x20100C + 0x40 * i, 0, 32⟩
/-- MBX_QP_TXWB_LO (16_host_mailboxes_counters.md R350). -/
def mbxQpTxwbLo (i : Nat) : Fld := ⟨0x201010 + 0x40 * i, 0, 32⟩
/-- addr of MBX_QP_TXWB_LO, RW. -/
def mbxQpTxwbLo_addr (i : Nat) : Fld := ⟨0x201010 + 0x40 * i, 2, 30⟩
/-- MBX_QP_TXWB_HI (16_host_mailboxes_counters.md R350). -/
def mbxQpTxwbHi (i : Nat) : Fld := ⟨0x201014 + 0x40 * i, 0, 32⟩
/-- addr of MBX_QP_TXWB_HI, RW. -/
def mbxQpTxwbHi_addr (i : Nat) : Fld := ⟨0x201014 + 0x40 * i, 0, 32⟩
/-- MBX_QP_CFG (16_host_mailboxes_counters.md R350). -/
def mbxQpCfg (i : Nat) : Fld := ⟨0x201018 + 0x40 * i, 0, 32⟩
/-- enable of MBX_QP_CFG, RW. -/
def mbxQpCfg_enable (i : Nat) : Fld := ⟨0x201018 + 0x40 * i, 31, 1⟩
/-- omci of MBX_QP_CFG, RW. -/
def mbxQpCfg_omci (i : Nat) : Fld := ⟨0x201018 + 0x40 * i, 30, 1⟩
/-- vector of MBX_QP_CFG, RW. -/
def mbxQpCfg_vector (i : Nat) : Fld := ⟨0x201018 + 0x40 * i, 16, 6⟩
/-- ul_perm of MBX_QP_CFG, RW. -/
def mbxQpCfg_ul_perm (i : Nat) : Fld := ⟨0x201018 + 0x40 * i, 8, 8⟩
/-- rx_log of MBX_QP_CFG, RW. -/
def mbxQpCfg_rx_log (i : Nat) : Fld := ⟨0x201018 + 0x40 * i, 4, 4⟩
/-- tx_log of MBX_QP_CFG, RW. -/
def mbxQpCfg_tx_log (i : Nat) : Fld := ⟨0x201018 + 0x40 * i, 0, 4⟩
/-- MBX_QP_STS (16_host_mailboxes_counters.md R350). -/
def mbxQpSts (i : Nat) : Fld := ⟨0x20101C + 0x40 * i, 0, 32⟩
/-- cause of MBX_QP_STS, RO. -/
def mbxQpSts_cause (i : Nat) : Fld := ⟨0x20101C + 0x40 * i, 4, 4⟩
/-- error of MBX_QP_STS, RO. -/
def mbxQpSts_error (i : Nat) : Fld := ⟨0x20101C + 0x40 * i, 1, 1⟩
/-- stopped of MBX_QP_STS, RO. -/
def mbxQpSts_stopped (i : Nat) : Fld := ⟨0x20101C + 0x40 * i, 0, 1⟩
/-- MBX_QP_TXHEAD (16_host_mailboxes_counters.md R350). -/
def mbxQpTxhead (i : Nat) : Fld := ⟨0x201020 + 0x40 * i, 0, 32⟩
/-- head of MBX_QP_TXHEAD, RO. -/
def mbxQpTxhead_head (i : Nat) : Fld := ⟨0x201020 + 0x40 * i, 0, 12⟩
/-- MBX_QP_RXHEAD (16_host_mailboxes_counters.md R350). -/
def mbxQpRxhead (i : Nat) : Fld := ⟨0x201024 + 0x40 * i, 0, 32⟩
/-- head of MBX_QP_RXHEAD, RO. -/
def mbxQpRxhead_head (i : Nat) : Fld := ⟨0x201024 + 0x40 * i, 0, 12⟩
/-- MBX_QP_OWNER (16_host_mailboxes_counters.md R350). -/
def mbxQpOwner (i : Nat) : Fld := ⟨0x204000 + 0x4 * i, 0, 32⟩
/-- owner of MBX_QP_OWNER, LK. -/
def mbxQpOwner_owner (i : Nat) : Fld := ⟨0x204000 + 0x4 * i, 0, 6⟩
/-- MBX_BIND (16_host_mailboxes_counters.md R350). -/
def mbxBind (i : Nat) : Fld := ⟨0x204108 + 0x4 * i, 0, 32⟩
/-- valid of MBX_BIND, LK. -/
def mbxBind_valid (i : Nat) : Fld := ⟨0x204108 + 0x4 * i, 31, 1⟩
/-- idb of MBX_BIND, LK. -/
def mbxBind_idb (i : Nat) : Fld := ⟨0x204108 + 0x4 * i, 8, 6⟩
/-- ida of MBX_BIND, LK. -/
def mbxBind_ida (i : Nat) : Fld := ⟨0x204108 + 0x4 * i, 0, 6⟩
/-- MBX_EVQ_BASE_LO (16_host_mailboxes_counters.md R350). -/
def mbxEvqBaseLo : Fld := ⟨0x208000, 0, 32⟩
/-- addr of MBX_EVQ_BASE_LO, RW. -/
def mbxEvqBaseLo_addr : Fld := ⟨0x208000, 12, 20⟩
/-- MBX_EVQ_BASE_HI (16_host_mailboxes_counters.md R350). -/
def mbxEvqBaseHi : Fld := ⟨0x208004, 0, 32⟩
/-- addr of MBX_EVQ_BASE_HI, RW. -/
def mbxEvqBaseHi_addr : Fld := ⟨0x208004, 0, 32⟩
/-- MBX_EVQ_CTRL (16_host_mailboxes_counters.md R350). -/
def mbxEvqCtrl : Fld := ⟨0x208008, 0, 32⟩
/-- enable of MBX_EVQ_CTRL, RW. -/
def mbxEvqCtrl_enable : Fld := ⟨0x208008, 0, 1⟩
/-- MBX_EVQ_HEAD (16_host_mailboxes_counters.md R350). -/
def mbxEvqHead : Fld := ⟨0x20800C, 0, 32⟩
/-- head of MBX_EVQ_HEAD, RW. -/
def mbxEvqHead_head : Fld := ⟨0x20800C, 0, 12⟩
/-- MBX_EVQ_TAIL (16_host_mailboxes_counters.md R350). -/
def mbxEvqTail : Fld := ⟨0x208010, 0, 32⟩
/-- tail of MBX_EVQ_TAIL, RO. -/
def mbxEvqTail_tail : Fld := ⟨0x208010, 0, 12⟩
/-- MBX_EVQ_VEC (16_host_mailboxes_counters.md R350). -/
def mbxEvqVec (i : Nat) : Fld := ⟨0x208100 + 0x4 * i, 0, 32⟩
/-- en of MBX_EVQ_VEC, RW. -/
def mbxEvqVec_en (i : Nat) : Fld := ⟨0x208100 + 0x4 * i, 31, 1⟩
/-- vector of MBX_EVQ_VEC, RW. -/
def mbxEvqVec_vector (i : Nat) : Fld := ⟨0x208100 + 0x4 * i, 0, 6⟩
/-- MBX_VEC_HOLD (16_host_mailboxes_counters.md R350). -/
def mbxVecHold (i : Nat) : Fld := ⟨0x208200 + 0x4 * i, 0, 32⟩
/-- us of MBX_VEC_HOLD, RW. -/
def mbxVecHold_us (i : Nat) : Fld := ⟨0x208200 + 0x4 * i, 0, 10⟩
/-- CNT_SNAP_CMD (16_host_mailboxes_counters.md R362). -/
def cntSnapCmd : Fld := ⟨0x300000, 0, 32⟩
/-- result of CNT_SNAP_CMD, RO. -/
def cntSnapCmd_result : Fld := ⟨0x300000, 5, 3⟩
/-- busy of CNT_SNAP_CMD, RO. -/
def cntSnapCmd_busy : Fld := ⟨0x300000, 4, 1⟩
/-- op of CNT_SNAP_CMD, WO. -/
def cntSnapCmd_op : Fld := ⟨0x300000, 0, 2⟩
/-- CNT_SNAP_ADDR_LO (16_host_mailboxes_counters.md R362). -/
def cntSnapAddrLo : Fld := ⟨0x300008, 0, 32⟩
/-- addr of CNT_SNAP_ADDR_LO, RW. -/
def cntSnapAddrLo_addr : Fld := ⟨0x300008, 6, 26⟩
/-- CNT_SNAP_ADDR_HI (16_host_mailboxes_counters.md R362). -/
def cntSnapAddrHi : Fld := ⟨0x30000C, 0, 32⟩
/-- addr of CNT_SNAP_ADDR_HI, RW. -/
def cntSnapAddrHi_addr : Fld := ⟨0x30000C, 0, 32⟩
/-- CNT_SNAP_NUM (16_host_mailboxes_counters.md R362). -/
def cntSnapNum : Fld := ⟨0x300010, 0, 32⟩
/-- num of CNT_SNAP_NUM, RO. -/
def cntSnapNum_num : Fld := ⟨0x300010, 0, 32⟩
/-- CNT_SNAP_EXT_LO (16_host_mailboxes_counters.md R362). -/
def cntSnapExtLo (i : Nat) : Fld := ⟨0x300100 + 0x8 * i, 0, 32⟩
/-- kind of CNT_SNAP_EXT_LO, RW. -/
def cntSnapExtLo_kind (i : Nat) : Fld := ⟨0x300100 + 0x8 * i, 30, 2⟩
/-- first of CNT_SNAP_EXT_LO, RW. -/
def cntSnapExtLo_first (i : Nat) : Fld := ⟨0x300100 + 0x8 * i, 0, 26⟩
/-- CNT_SNAP_EXT_HI (16_host_mailboxes_counters.md R362). -/
def cntSnapExtHi (i : Nat) : Fld := ⟨0x300104 + 0x8 * i, 0, 32⟩
/-- count of CNT_SNAP_EXT_HI, RW. -/
def cntSnapExtHi_count (i : Nat) : Fld := ⟨0x300104 + 0x8 * i, 0, 22⟩
/-- CNT_DIR_SEL (16_host_mailboxes_counters.md R362). -/
def cntDirSel : Fld := ⟨0x300200, 0, 32⟩
/-- block of CNT_DIR_SEL, RW. -/
def cntDirSel_block : Fld := ⟨0x300200, 24, 8⟩
/-- counter of CNT_DIR_SEL, RW. -/
def cntDirSel_counter : Fld := ⟨0x300200, 16, 8⟩
/-- pos of CNT_DIR_SEL, RW. -/
def cntDirSel_pos : Fld := ⟨0x300200, 0, 4⟩
/-- CNT_DIR_BASE (16_host_mailboxes_counters.md R362). -/
def cntDirBase : Fld := ⟨0x300204, 0, 32⟩
/-- valid of CNT_DIR_BASE, RO. -/
def cntDirBase_valid : Fld := ⟨0x300204, 31, 1⟩
/-- base of CNT_DIR_BASE, RO. -/
def cntDirBase_base : Fld := ⟨0x300204, 0, 21⟩
/-- CNT_DIR_SHAPE (16_host_mailboxes_counters.md R362). -/
def cntDirShape : Fld := ⟨0x300208, 0, 32⟩
/-- chained of CNT_DIR_SHAPE, RO. -/
def cntDirShape_chained : Fld := ⟨0x300208, 31, 1⟩
/-- wide of CNT_DIR_SHAPE, RO. -/
def cntDirShape_wide : Fld := ⟨0x300208, 30, 1⟩
/-- s of CNT_DIR_SHAPE, RO. -/
def cntDirShape_s : Fld := ⟨0x300208, 19, 8⟩
/-- instances of CNT_DIR_SHAPE, RO. -/
def cntDirShape_instances : Fld := ⟨0x300208, 0, 19⟩
/-- CNT_CHAIN_IDX (16_host_mailboxes_counters.md R362). -/
def cntChainIdx : Fld := ⟨0x300300, 0, 32⟩
/-- idx of CNT_CHAIN_IDX, RW. -/
def cntChainIdx_idx : Fld := ⟨0x300300, 0, 21⟩
/-- CNT_CHAIN_CMD (16_host_mailboxes_counters.md R362). -/
def cntChainCmd : Fld := ⟨0x300304, 0, 32⟩
/-- op of CNT_CHAIN_CMD, WO. -/
def cntChainCmd_op : Fld := ⟨0x300304, 0, 2⟩
/-- CNT_PERM_IDX (16_host_mailboxes_counters.md R362). -/
def cntPermIdx : Fld := ⟨0x300400, 0, 32⟩
/-- page of CNT_PERM_IDX, RW. -/
def cntPermIdx_page : Fld := ⟨0x300400, 0, 12⟩
/-- CNT_PERM_DATA (16_host_mailboxes_counters.md R362). -/
def cntPermData : Fld := ⟨0x300404, 0, 32⟩
/-- mask of CNT_PERM_DATA, LK. -/
def cntPermData_mask : Fld := ⟨0x300404, 0, 16⟩
/-- TIM_CTRL (12_time_base.md R258). -/
def timCtrl : Fld := ⟨0x400000, 0, 32⟩
/-- pps_in_en of TIM_CTRL, RW. -/
def timCtrl_pps_in_en : Fld := ⟨0x400000, 1, 1⟩
/-- pps_out_en of TIM_CTRL, RW. -/
def timCtrl_pps_out_en : Fld := ⟨0x400000, 0, 1⟩
/-- TIM_STS (12_time_base.md R258). -/
def timSts : Fld := ⟨0x400004, 0, 32⟩
/-- gen of TIM_STS, RO. -/
def timSts_gen : Fld := ⟨0x400004, 16, 16⟩
/-- dplle of TIM_STS, RO. -/
def timSts_dplle : Fld := ⟨0x400004, 10, 2⟩
/-- dplls of TIM_STS, RO. -/
def timSts_dplls : Fld := ⟨0x400004, 8, 2⟩
/-- set_pending of TIM_STS, RO. -/
def timSts_set_pending : Fld := ⟨0x400004, 2, 1⟩
/-- pps_in_loss of TIM_STS, W1C. -/
def timSts_pps_in_loss : Fld := ⟨0x400004, 1, 1⟩
/-- inc_rejected of TIM_STS, W1C. -/
def timSts_inc_rejected : Fld := ⟨0x400004, 0, 1⟩
/-- TIM_NOW_NS (12_time_base.md R258). -/
def timNowNs : Fld := ⟨0x400010, 0, 32⟩
/-- ns of TIM_NOW_NS, RO. -/
def timNowNs_ns : Fld := ⟨0x400010, 0, 30⟩
/-- TIM_NOW_FRAC (12_time_base.md R258). -/
def timNowFrac : Fld := ⟨0x400014, 0, 32⟩
/-- frac of TIM_NOW_FRAC, RO. -/
def timNowFrac_frac : Fld := ⟨0x400014, 0, 32⟩
/-- TIM_NOW_SEC_LO (12_time_base.md R258). -/
def timNowSecLo : Fld := ⟨0x400018, 0, 32⟩
/-- sec of TIM_NOW_SEC_LO, RO. -/
def timNowSecLo_sec : Fld := ⟨0x400018, 0, 32⟩
/-- TIM_NOW_SEC_HI (12_time_base.md R258). -/
def timNowSecHi : Fld := ⟨0x40001C, 0, 32⟩
/-- sec of TIM_NOW_SEC_HI, RO. -/
def timNowSecHi_sec : Fld := ⟨0x40001C, 0, 16⟩
/-- TIM_SET_NS (12_time_base.md R258). -/
def timSetNs : Fld := ⟨0x400020, 0, 32⟩
/-- ns of TIM_SET_NS, RW. -/
def timSetNs_ns : Fld := ⟨0x400020, 0, 32⟩
/-- TIM_SET_FRAC (12_time_base.md R258). -/
def timSetFrac : Fld := ⟨0x400024, 0, 32⟩
/-- frac of TIM_SET_FRAC, RW. -/
def timSetFrac_frac : Fld := ⟨0x400024, 0, 32⟩
/-- TIM_SET_SEC_LO (12_time_base.md R258). -/
def timSetSecLo : Fld := ⟨0x400028, 0, 32⟩
/-- sec of TIM_SET_SEC_LO, RW. -/
def timSetSecLo_sec : Fld := ⟨0x400028, 0, 32⟩
/-- TIM_SET_SEC_HI (12_time_base.md R258). -/
def timSetSecHi : Fld := ⟨0x40002C, 0, 32⟩
/-- sec of TIM_SET_SEC_HI, RW. -/
def timSetSecHi_sec : Fld := ⟨0x40002C, 0, 16⟩
/-- TIM_SET_CMD (12_time_base.md R258). -/
def timSetCmd : Fld := ⟨0x400030, 0, 32⟩
/-- result of TIM_SET_CMD, RO. -/
def timSetCmd_result : Fld := ⟨0x400030, 5, 2⟩
/-- busy of TIM_SET_CMD, RO. -/
def timSetCmd_busy : Fld := ⟨0x400030, 4, 1⟩
/-- op of TIM_SET_CMD, WO. -/
def timSetCmd_op : Fld := ⟨0x400030, 0, 2⟩
/-- TIM_INC_FRAC (12_time_base.md R258). -/
def timIncFrac : Fld := ⟨0x400038, 0, 32⟩
/-- frac of TIM_INC_FRAC, RW. -/
def timIncFrac_frac : Fld := ⟨0x400038, 0, 32⟩
/-- TIM_INC_NS (12_time_base.md R258). -/
def timIncNs : Fld := ⟨0x40003C, 0, 32⟩
/-- ns of TIM_INC_NS, RW. -/
def timIncNs_ns : Fld := ⟨0x40003C, 0, 4⟩
/-- TIM_PPS_OUT (12_time_base.md R258). -/
def timPpsOut : Fld := ⟨0x400040, 0, 32⟩
/-- width of TIM_PPS_OUT, RW. -/
def timPpsOut_width : Fld := ⟨0x400040, 16, 16⟩
/-- TIM_PPS_CAL (12_time_base.md R258). -/
def timPpsCal : Fld := ⟨0x400044, 0, 32⟩
/-- out_cal of TIM_PPS_CAL, RW. -/
def timPpsCal_out_cal : Fld := ⟨0x400044, 16, 16⟩
/-- in_cal of TIM_PPS_CAL, RW. -/
def timPpsCal_in_cal : Fld := ⟨0x400044, 0, 16⟩
/-- TIM_PPSI_NS (12_time_base.md R258). -/
def timPpsiNs : Fld := ⟨0x400048, 0, 32⟩
/-- ns of TIM_PPSI_NS, RO. -/
def timPpsiNs_ns : Fld := ⟨0x400048, 0, 32⟩
/-- TIM_PPSI_HI (12_time_base.md R258). -/
def timPpsiHi : Fld := ⟨0x40004C, 0, 32⟩
/-- hi of TIM_PPSI_HI, RO. -/
def timPpsiHi_hi : Fld := ⟨0x40004C, 0, 32⟩
/-- TIM_TOD_CFG (12_time_base.md R258). -/
def timTodCfg : Fld := ⟨0x400050, 0, 32⟩
/-- offset_ms of TIM_TOD_CFG, RW. -/
def timTodCfg_offset_ms : Fld := ⟨0x400050, 16, 16⟩
/-- baud of TIM_TOD_CFG, RW. -/
def timTodCfg_baud : Fld := ⟨0x400050, 8, 2⟩
/-- status of TIM_TOD_CFG, RW. -/
def timTodCfg_status : Fld := ⟨0x400050, 4, 4⟩
/-- out_mode of TIM_TOD_CFG, RW. -/
def timTodCfg_out_mode : Fld := ⟨0x400050, 0, 2⟩
/-- TIM_TODO_LEN (12_time_base.md R258). -/
def timTodoLen : Fld := ⟨0x400054, 0, 32⟩
/-- armed of TIM_TODO_LEN, RO. -/
def timTodoLen_armed : Fld := ⟨0x400054, 8, 1⟩
/-- len of TIM_TODO_LEN, RW. -/
def timTodoLen_len : Fld := ⟨0x400054, 0, 6⟩
/-- TIM_TODI_STS (12_time_base.md R258). -/
def timTodiSts : Fld := ⟨0x400058, 0, 32⟩
/-- overflow of TIM_TODI_STS, W1C. -/
def timTodiSts_overflow : Fld := ⟨0x400058, 8, 1⟩
/-- bytes of TIM_TODI_STS, RO. -/
def timTodiSts_bytes : Fld := ⟨0x400058, 0, 7⟩
/-- TIM_TODI_DATA (12_time_base.md R258). -/
def timTodiData : Fld := ⟨0x40005C, 0, 32⟩
/-- present of TIM_TODI_DATA, RO. -/
def timTodiData_present : Fld := ⟨0x40005C, 8, 1⟩
/-- data of TIM_TODI_DATA, RO. -/
def timTodiData_data : Fld := ⟨0x40005C, 0, 8⟩
/-- TIM_TODO_BUF (12_time_base.md R258). -/
def timTodoBuf (i : Nat) : Fld := ⟨0x400060 + 0x4 * i, 0, 32⟩
/-- bytes of TIM_TODO_BUF, RW. -/
def timTodoBuf_bytes (i : Nat) : Fld := ⟨0x400060 + 0x4 * i, 0, 32⟩
/-- TIM_DPLL_S (12_time_base.md R258). -/
def timDpllS : Fld := ⟨0x400080, 0, 32⟩
/-- force_ho of TIM_DPLL_S, RW. -/
def timDpllS_force_ho : Fld := ⟨0x400080, 31, 1⟩
/-- bw of TIM_DPLL_S, RW. -/
def timDpllS_bw : Fld := ⟨0x400080, 8, 8⟩
/-- ref of TIM_DPLL_S, RW. -/
def timDpllS_ref : Fld := ⟨0x400080, 0, 2⟩
/-- TIM_DPLL_E (12_time_base.md R258). -/
def timDpllE : Fld := ⟨0x400084, 0, 32⟩
/-- force_ho of TIM_DPLL_E, RW. -/
def timDpllE_force_ho : Fld := ⟨0x400084, 31, 1⟩
/-- lane of TIM_DPLL_E, RW. -/
def timDpllE_lane : Fld := ⟨0x400084, 24, 7⟩
/-- bw of TIM_DPLL_E, RW. -/
def timDpllE_bw : Fld := ⟨0x400084, 8, 8⟩
/-- src of TIM_DPLL_E, RW. -/
def timDpllE_src : Fld := ⟨0x400084, 2, 2⟩
/-- TIM_RCLK (12_time_base.md R258). -/
def timRclk (i : Nat) : Fld := ⟨0x400090 + 0x4 * i, 0, 32⟩
/-- en of TIM_RCLK, RW. -/
def timRclk_en (i : Nat) : Fld := ⟨0x400090 + 0x4 * i, 31, 1⟩
/-- div of TIM_RCLK, RW. -/
def timRclk_div (i : Nat) : Fld := ⟨0x400090 + 0x4 * i, 16, 12⟩
/-- src of TIM_RCLK, RW. -/
def timRclk_src (i : Nat) : Fld := ⟨0x400090 + 0x4 * i, 7, 1⟩
/-- lane of TIM_RCLK, RW. -/
def timRclk_lane (i : Nat) : Fld := ⟨0x400090 + 0x4 * i, 0, 7⟩
/-- TIM_TOD_ARG0 (12_time_base.md R258). -/
def timTodArg0 : Fld := ⟨0x4000A0, 0, 32⟩
/-- channel of TIM_TOD_ARG0, RW. -/
def timTodArg0_channel : Fld := ⟨0x4000A0, 24, 8⟩
/-- onu of TIM_TOD_ARG0, RW. -/
def timTodArg0_onu : Fld := ⟨0x4000A0, 0, 16⟩
/-- TIM_TOD_ARG1 (12_time_base.md R258). -/
def timTodArg1 : Fld := ⟨0x4000A4, 0, 32⟩
/-- sfc of TIM_TOD_ARG1, RW. -/
def timTodArg1_sfc : Fld := ⟨0x4000A4, 0, 32⟩
/-- TIM_TOD_ARG2 (12_time_base.md R258). -/
def timTodArg2 : Fld := ⟨0x4000A8, 0, 32⟩
/-- sfc of TIM_TOD_ARG2, RW. -/
def timTodArg2_sfc : Fld := ⟨0x4000A8, 0, 19⟩
/-- TIM_TOD_CMD (12_time_base.md R258). -/
def timTodCmd : Fld := ⟨0x4000AC, 0, 32⟩
/-- result of TIM_TOD_CMD, RO. -/
def timTodCmd_result : Fld := ⟨0x4000AC, 5, 3⟩
/-- busy of TIM_TOD_CMD, RO. -/
def timTodCmd_busy : Fld := ⟨0x4000AC, 4, 1⟩
/-- op of TIM_TOD_CMD, WO. -/
def timTodCmd_op : Fld := ⟨0x4000AC, 0, 1⟩
/-- TIM_TOD_RES_SEC_LO (12_time_base.md R258). -/
def timTodResSecLo : Fld := ⟨0x4000B0, 0, 32⟩
/-- sec of TIM_TOD_RES_SEC_LO, RO. -/
def timTodResSecLo_sec : Fld := ⟨0x4000B0, 0, 32⟩
/-- TIM_TOD_RES_SEC_HI (12_time_base.md R258). -/
def timTodResSecHi : Fld := ⟨0x4000B4, 0, 32⟩
/-- gen of TIM_TOD_RES_SEC_HI, RO. -/
def timTodResSecHi_gen : Fld := ⟨0x4000B4, 16, 16⟩
/-- sec of TIM_TOD_RES_SEC_HI, RO. -/
def timTodResSecHi_sec : Fld := ⟨0x4000B4, 0, 16⟩
/-- TIM_TOD_RES_NS (12_time_base.md R258). -/
def timTodResNs : Fld := ⟨0x4000B8, 0, 32⟩
/-- ns of TIM_TOD_RES_NS, RO. -/
def timTodResNs_ns : Fld := ⟨0x4000B8, 0, 32⟩
/-- TIM_TOD_RES_SUB (12_time_base.md R258). -/
def timTodResSub : Fld := ⟨0x4000BC, 0, 32⟩
/-- sub of TIM_TOD_RES_SUB, RO. -/
def timTodResSub_sub : Fld := ⟨0x4000BC, 0, 6⟩
/-- TIM_ULAT (12_time_base.md R258). -/
def timUlat (i : Nat) : Fld := ⟨0x400200 + 0x4 * i, 0, 32⟩
/-- tx_cal of TIM_ULAT, RW. -/
def timUlat_tx_cal (i : Nat) : Fld := ⟨0x400200 + 0x4 * i, 16, 16⟩
/-- rx_cal of TIM_ULAT, RW. -/
def timUlat_rx_cal (i : Nat) : Fld := ⟨0x400200 + 0x4 * i, 0, 16⟩
/-- TIM_TSQ_STS (12_time_base.md R258). -/
def timTsqSts (i : Nat) : Fld := ⟨0x400400 + 0x20 * i, 0, 32⟩
/-- ovf of TIM_TSQ_STS, W1C. -/
def timTsqSts_ovf (i : Nat) : Fld := ⟨0x400400 + 0x20 * i, 8, 1⟩
/-- count of TIM_TSQ_STS, RO. -/
def timTsqSts_count (i : Nat) : Fld := ⟨0x400400 + 0x20 * i, 0, 7⟩
/-- TIM_TSQ_W0 (12_time_base.md R258). -/
def timTsqW0 (i : Nat) : Fld := ⟨0x400404 + 0x20 * i, 0, 32⟩
/-- w0 of TIM_TSQ_W0, RO. -/
def timTsqW0_w0 (i : Nat) : Fld := ⟨0x400404 + 0x20 * i, 0, 32⟩
/-- TIM_TSQ_W1 (12_time_base.md R258). -/
def timTsqW1 (i : Nat) : Fld := ⟨0x400408 + 0x20 * i, 0, 32⟩
/-- w1 of TIM_TSQ_W1, RO. -/
def timTsqW1_w1 (i : Nat) : Fld := ⟨0x400408 + 0x20 * i, 0, 32⟩
/-- TIM_TSQ_W2 (12_time_base.md R258). -/
def timTsqW2 (i : Nat) : Fld := ⟨0x40040C + 0x20 * i, 0, 32⟩
/-- w2 of TIM_TSQ_W2, RO. -/
def timTsqW2_w2 (i : Nat) : Fld := ⟨0x40040C + 0x20 * i, 0, 32⟩
/-- TIM_TCH_CAL (12_time_base.md R258). -/
def timTchCal (i : Nat) : Fld := ⟨0x401000 + 0x8 * i, 0, 32⟩
/-- ds_cal of TIM_TCH_CAL, RW. -/
def timTchCal_ds_cal (i : Nat) : Fld := ⟨0x401000 + 0x8 * i, 0, 32⟩
/-- TIM_TCH_K (12_time_base.md R258). -/
def timTchK (i : Nat) : Fld := ⟨0x401004 + 0x8 * i, 0, 32⟩
/-- k of TIM_TCH_K, RW. -/
def timTchK_k (i : Nat) : Fld := ⟨0x401004 + 0x8 * i, 0, 16⟩
/-- MEM_STS (15_memory_integrity.md R317). -/
def memSts : Fld := ⟨0x500000, 0, 32⟩
/-- scrub_busy of MEM_STS, RO. -/
def memSts_scrub_busy : Fld := ⟨0x500000, 31, 1⟩
/-- scrub_paused of MEM_STS, RO. -/
def memSts_scrub_paused : Fld := ⟨0x500000, 30, 1⟩
/-- flip_armed of MEM_STS, RO. -/
def memSts_flip_armed : Fld := ⟨0x500000, 29, 1⟩
/-- start_lost of MEM_STS, W1C. -/
def memSts_start_lost : Fld := ⟨0x500000, 28, 1⟩
/-- weak_used of MEM_STS, RO. -/
def memSts_weak_used : Fld := ⟨0x500000, 16, 7⟩
/-- MEM_SCRUB_CMD (15_memory_integrity.md R317). -/
def memScrubCmd : Fld := ⟨0x500010, 0, 32⟩
/-- mem of MEM_SCRUB_CMD, RW. -/
def memScrubCmd_mem : Fld := ⟨0x500010, 8, 8⟩
/-- result of MEM_SCRUB_CMD, RO. -/
def memScrubCmd_result : Fld := ⟨0x500010, 5, 3⟩
/-- busy of MEM_SCRUB_CMD, RO. -/
def memScrubCmd_busy : Fld := ⟨0x500010, 4, 1⟩
/-- op of MEM_SCRUB_CMD, WO. -/
def memScrubCmd_op : Fld := ⟨0x500010, 0, 2⟩
/-- MEM_SCRUB_START (15_memory_integrity.md R317). -/
def memScrubStart : Fld := ⟨0x500014, 0, 32⟩
/-- idx of MEM_SCRUB_START, RW. -/
def memScrubStart_idx : Fld := ⟨0x500014, 0, 32⟩
/-- MEM_SCRUB_END (15_memory_integrity.md R317). -/
def memScrubEnd : Fld := ⟨0x500018, 0, 32⟩
/-- idx of MEM_SCRUB_END, RW. -/
def memScrubEnd_idx : Fld := ⟨0x500018, 0, 32⟩
/-- MEM_SCRUB_SUM_LO (15_memory_integrity.md R317). -/
def memScrubSumLo : Fld := ⟨0x50001C, 0, 32⟩
/-- addr of MEM_SCRUB_SUM_LO, RW. -/
def memScrubSumLo_addr : Fld := ⟨0x50001C, 6, 26⟩
/-- MEM_SCRUB_SUM_HI (15_memory_integrity.md R317). -/
def memScrubSumHi : Fld := ⟨0x500020, 0, 32⟩
/-- addr of MEM_SCRUB_SUM_HI, RW. -/
def memScrubSumHi_addr : Fld := ⟨0x500020, 0, 32⟩
/-- MEM_SCRUB_CFG (15_memory_integrity.md R317). -/
def memScrubCfg : Fld := ⟨0x500024, 0, 32⟩
/-- rate_pct of MEM_SCRUB_CFG, RW. -/
def memScrubCfg_rate_pct : Fld := ⟨0x500024, 0, 5⟩
/-- MEM_SCRUB_POS (15_memory_integrity.md R317). -/
def memScrubPos : Fld := ⟨0x500028, 0, 32⟩
/-- pos of MEM_SCRUB_POS, RO. -/
def memScrubPos_pos : Fld := ⟨0x500028, 0, 32⟩
/-- MEM_FLIP_CTRL (15_memory_integrity.md R317). -/
def memFlipCtrl : Fld := ⟨0x500030, 0, 32⟩
/-- armed of MEM_FLIP_CTRL, RW. -/
def memFlipCtrl_armed : Fld := ⟨0x500030, 31, 1⟩
/-- addr_match of MEM_FLIP_CTRL, RW. -/
def memFlipCtrl_addr_match : Fld := ⟨0x500030, 30, 1⟩
/-- nbits of MEM_FLIP_CTRL, RW. -/
def memFlipCtrl_nbits : Fld := ⟨0x500030, 28, 2⟩
/-- bit_b of MEM_FLIP_CTRL, RW. -/
def memFlipCtrl_bit_b : Fld := ⟨0x500030, 18, 10⟩
/-- bit_a of MEM_FLIP_CTRL, RW. -/
def memFlipCtrl_bit_a : Fld := ⟨0x500030, 8, 10⟩
/-- mem of MEM_FLIP_CTRL, RW. -/
def memFlipCtrl_mem : Fld := ⟨0x500030, 0, 8⟩
/-- MEM_FLIP_ADDR (15_memory_integrity.md R317). -/
def memFlipAddr : Fld := ⟨0x500034, 0, 32⟩
/-- idx of MEM_FLIP_ADDR, RW. -/
def memFlipAddr_idx : Fld := ⟨0x500034, 0, 32⟩
/-- MEM_WEAK_CFG (15_memory_integrity.md R317). -/
def memWeakCfg : Fld := ⟨0x500040, 0, 32⟩
/-- weak_age of MEM_WEAK_CFG, RW. -/
def memWeakCfg_weak_age : Fld := ⟨0x500040, 16, 16⟩
/-- weak_thr of MEM_WEAK_CFG, RW. -/
def memWeakCfg_weak_thr : Fld := ⟨0x500040, 0, 4⟩
/-- MEM_WEAK_IDX (15_memory_integrity.md R317). -/
def memWeakIdx : Fld := ⟨0x500044, 0, 32⟩
/-- idx of MEM_WEAK_IDX, RW. -/
def memWeakIdx_idx : Fld := ⟨0x500044, 0, 6⟩
/-- MEM_WEAK_DATA0 (15_memory_integrity.md R317). -/
def memWeakData0 : Fld := ⟨0x500048, 0, 32⟩
/-- valid of MEM_WEAK_DATA0, RO. -/
def memWeakData0_valid : Fld := ⟨0x500048, 31, 1⟩
/-- ue of MEM_WEAK_DATA0, RO. -/
def memWeakData0_ue : Fld := ⟨0x500048, 30, 1⟩
/-- mem of MEM_WEAK_DATA0, RO. -/
def memWeakData0_mem : Fld := ⟨0x500048, 16, 8⟩
/-- count of MEM_WEAK_DATA0, RO. -/
def memWeakData0_count : Fld := ⟨0x500048, 0, 4⟩
/-- MEM_WEAK_DATA1 (15_memory_integrity.md R317). -/
def memWeakData1 : Fld := ⟨0x50004C, 0, 32⟩
/-- index of MEM_WEAK_DATA1, RO. -/
def memWeakData1_index : Fld := ⟨0x50004C, 0, 32⟩
/-- MEM_WEAK_DATA2 (15_memory_integrity.md R317). -/
def memWeakData2 : Fld := ⟨0x500050, 0, 32⟩
/-- minutes of MEM_WEAK_DATA2, RO. -/
def memWeakData2_minutes : Fld := ⟨0x500050, 0, 16⟩
/-- MEM_UE_IDX (15_memory_integrity.md R317). -/
def memUeIdx : Fld := ⟨0x500060, 0, 32⟩
/-- idx of MEM_UE_IDX, RW. -/
def memUeIdx_idx : Fld := ⟨0x500060, 0, 4⟩
/-- MEM_UE_DATA0 (15_memory_integrity.md R317). -/
def memUeData0 : Fld := ⟨0x500064, 0, 32⟩
/-- valid of MEM_UE_DATA0, RO. -/
def memUeData0_valid : Fld := ⟨0x500064, 31, 1⟩
/-- mem of MEM_UE_DATA0, RO. -/
def memUeData0_mem : Fld := ⟨0x500064, 16, 8⟩
/-- owner of MEM_UE_DATA0, RO. -/
def memUeData0_owner : Fld := ⟨0x500064, 8, 8⟩
/-- found_by of MEM_UE_DATA0, RO. -/
def memUeData0_found_by : Fld := ⟨0x500064, 0, 8⟩
/-- MEM_UE_DATA1 (15_memory_integrity.md R317). -/
def memUeData1 : Fld := ⟨0x500068, 0, 32⟩
/-- index of MEM_UE_DATA1, RO. -/
def memUeData1_index : Fld := ⟨0x500068, 0, 32⟩
/-- MEM_UE_DATA2 (15_memory_integrity.md R317). -/
def memUeData2 : Fld := ⟨0x50006C, 0, 32⟩
/-- object of MEM_UE_DATA2, RO. -/
def memUeData2_object : Fld := ⟨0x50006C, 0, 32⟩
/-- MEM_SPARE_SEL (15_memory_integrity.md R317). -/
def memSpareSel : Fld := ⟨0x500070, 0, 32⟩
/-- mem of MEM_SPARE_SEL, RW. -/
def memSpareSel_mem : Fld := ⟨0x500070, 0, 8⟩
/-- MEM_SPARE_STS (15_memory_integrity.md R317). -/
def memSpareSts : Fld := ⟨0x500074, 0, 32⟩
/-- free of MEM_SPARE_STS, RO. -/
def memSpareSts_free : Fld := ⟨0x500074, 16, 16⟩
/-- spared of MEM_SPARE_STS, RO. -/
def memSpareSts_spared : Fld := ⟨0x500074, 0, 16⟩
/-- MEM_SPARE_PPR (15_memory_integrity.md R317). -/
def memSparePpr : Fld := ⟨0x500078, 0, 32⟩
/-- rows of MEM_SPARE_PPR, RO. -/
def memSparePpr_rows : Fld := ⟨0x500078, 0, 16⟩
/-- MEM_DRAM_TEMP (15_memory_integrity.md R317). -/
def memDramTemp (i : Nat) : Fld := ⟨0x500080 + 0x4 * i, 0, 32⟩
/-- mult of MEM_DRAM_TEMP, RO. -/
def memDramTemp_mult (i : Nat) : Fld := ⟨0x500080 + 0x4 * i, 30, 2⟩
/-- over of MEM_DRAM_TEMP, RO. -/
def memDramTemp_over (i : Nat) : Fld := ⟨0x500080 + 0x4 * i, 29, 1⟩
/-- temp of MEM_DRAM_TEMP, RO. -/
def memDramTemp_temp (i : Nat) : Fld := ⟨0x500080 + 0x4 * i, 0, 8⟩
/-- MEM_JNL_STS (15_memory_integrity.md R317). -/
def memJnlSts : Fld := ⟨0x500090, 0, 32⟩
/-- warn of MEM_JNL_STS, RO. -/
def memJnlSts_warn : Fld := ⟨0x500090, 31, 1⟩
/-- stopped of MEM_JNL_STS, RO. -/
def memJnlSts_stopped : Fld := ⟨0x500090, 30, 1⟩
/-- bad of MEM_JNL_STS, RO. -/
def memJnlSts_bad : Fld := ⟨0x500090, 0, 16⟩
/-- MEM_JNL_OLD (15_memory_integrity.md R317). -/
def memJnlOld : Fld := ⟨0x500094, 0, 32⟩
/-- seq of MEM_JNL_OLD, RO. -/
def memJnlOld_seq : Fld := ⟨0x500094, 0, 32⟩
/-- MEM_JNL_NEW (15_memory_integrity.md R317). -/
def memJnlNew : Fld := ⟨0x500098, 0, 32⟩
/-- seq of MEM_JNL_NEW, RO. -/
def memJnlNew_seq : Fld := ⟨0x500098, 0, 32⟩
/-- MEM_JNL_MASK (15_memory_integrity.md R317). -/
def memJnlMask : Fld := ⟨0x50009C, 0, 32⟩
/-- mask of MEM_JNL_MASK, RW. -/
def memJnlMask_mask : Fld := ⟨0x50009C, 0, 17⟩
/-- MEM_JNL_SEQ (15_memory_integrity.md R317). -/
def memJnlSeq : Fld := ⟨0x5000A0, 0, 32⟩
/-- seq of MEM_JNL_SEQ, RW. -/
def memJnlSeq_seq : Fld := ⟨0x5000A0, 0, 32⟩
/-- MEM_JNL_CMD (15_memory_integrity.md R317). -/
def memJnlCmd : Fld := ⟨0x5000A4, 0, 32⟩
/-- result of MEM_JNL_CMD, RO. -/
def memJnlCmd_result : Fld := ⟨0x5000A4, 5, 3⟩
/-- busy of MEM_JNL_CMD, RO. -/
def memJnlCmd_busy : Fld := ⟨0x5000A4, 4, 1⟩
/-- op of MEM_JNL_CMD, WO. -/
def memJnlCmd_op : Fld := ⟨0x5000A4, 0, 2⟩
/-- MEM_JNL_DATA (15_memory_integrity.md R317). -/
def memJnlData (i : Nat) : Fld := ⟨0x5000C0 + 0x4 * i, 0, 32⟩
/-- data of MEM_JNL_DATA, RO. -/
def memJnlData_data (i : Nat) : Fld := ⟨0x5000C0 + 0x4 * i, 0, 32⟩
/-- MEM_FLASH_STS (15_memory_integrity.md R317). -/
def memFlashSts : Fld := ⟨0x500100, 0, 32⟩
/-- refresh_open of MEM_FLASH_STS, RO. -/
def memFlashSts_refresh_open : Fld := ⟨0x500100, 31, 1⟩
/-- ue_b of MEM_FLASH_STS, RO. -/
def memFlashSts_ue_b : Fld := ⟨0x500100, 17, 1⟩
/-- ue_a of MEM_FLASH_STS, RO. -/
def memFlashSts_ue_a : Fld := ⟨0x500100, 16, 1⟩
/-- refreshed of MEM_FLASH_STS, RO. -/
def memFlashSts_refreshed : Fld := ⟨0x500100, 0, 16⟩
/-- MATE_CMD (14_mate_pairs.md R302). -/
def mateCmd : Fld := ⟨0x600000, 0, 32⟩
/-- result of MATE_CMD, RO. -/
def mateCmd_result : Fld := ⟨0x600000, 5, 3⟩
/-- busy of MATE_CMD, RO. -/
def mateCmd_busy : Fld := ⟨0x600000, 4, 1⟩
/-- op of MATE_CMD, WO. -/
def mateCmd_op : Fld := ⟨0x600000, 0, 3⟩
/-- MATE_STS (14_mate_pairs.md R302). -/
def mateSts : Fld := ⟨0x600004, 0, 32⟩
/-- own_prec of MATE_STS, RO. -/
def mateSts_own_prec : Fld := ⟨0x600004, 24, 8⟩
/-- mate_prec of MATE_STS, RO. -/
def mateSts_mate_prec : Fld := ⟨0x600004, 16, 8⟩
/-- wtr_running of MATE_STS, RO. -/
def mateSts_wtr_running : Fld := ⟨0x600004, 15, 1⟩
/-- preferred of MATE_STS, RO. -/
def mateSts_preferred : Fld := ⟨0x600004, 14, 1⟩
/-- lockout of MATE_STS, RO. -/
def mateSts_lockout : Fld := ⟨0x600004, 13, 1⟩
/-- undecided of MATE_STS, RO. -/
def mateSts_undecided : Fld := ⟨0x600004, 12, 1⟩
/-- mate_state of MATE_STS, RO. -/
def mateSts_mate_state : Fld := ⟨0x600004, 8, 4⟩
/-- state of MATE_STS, RO. -/
def mateSts_state : Fld := ⟨0x600004, 0, 4⟩
/-- MATE_WTR (14_mate_pairs.md R302). -/
def mateWtr : Fld := ⟨0x600008, 0, 32⟩
/-- left of MATE_WTR, RO. -/
def mateWtr_left : Fld := ⟨0x600008, 0, 16⟩
/-- MATE_OFS (14_mate_pairs.md R302). -/
def mateOfs : Fld := ⟨0x60000C, 0, 32⟩
/-- ofs of MATE_OFS, RO. -/
def mateOfs_ofs : Fld := ⟨0x60000C, 0, 32⟩
/-- MATE_LAT (14_mate_pairs.md R302). -/
def mateLat : Fld := ⟨0x600010, 0, 32⟩
/-- lat of MATE_LAT, RO. -/
def mateLat_lat : Fld := ⟨0x600010, 0, 32⟩
/-- MATE_ASYM (14_mate_pairs.md R302). -/
def mateAsym : Fld := ⟨0x600014, 0, 32⟩
/-- asym of MATE_ASYM, RW. -/
def mateAsym_asym : Fld := ⟨0x600014, 0, 32⟩
/-- MATE_LAST (14_mate_pairs.md R302). -/
def mateLast : Fld := ⟨0x600018, 0, 32⟩
/-- cause of MATE_LAST, RO. -/
def mateLast_cause : Fld := ⟨0x600018, 28, 4⟩
/-- frames of MATE_LAST, RO. -/
def mateLast_frames : Fld := ⟨0x600018, 24, 4⟩
/-- time_us of MATE_LAST, RO. -/
def mateLast_time_us : Fld := ⟨0x600018, 0, 16⟩
/-- MATE_HB (14_mate_pairs.md R302). -/
def mateHb : Fld := ⟨0x60001C, 0, 32⟩
/-- lost of MATE_HB, RC. -/
def mateHb_lost : Fld := ⟨0x60001C, 16, 16⟩
/-- seq of MATE_HB, RO. -/
def mateHb_seq : Fld := ⟨0x60001C, 0, 16⟩
/-- MATE_FEED (14_mate_pairs.md R302). -/
def mateFeed (i : Nat) : Fld := ⟨0x601000 + 0x4 * i, 0, 32⟩
/-- feed of MATE_FEED, RW. -/
def mateFeed_feed (i : Nat) : Fld := ⟨0x601000 + 0x4 * i, 0, 32⟩
/-- SHR_STS (11_shroud_cipher.md R240). -/
def shrSts : Fld := ⟨0x700000, 0, 32⟩
/-- root_valid of SHR_STS, RO. -/
def shrSts_root_valid : Fld := ⟨0x700000, 31, 1⟩
/-- wrap_limit of SHR_STS, RO. -/
def shrSts_wrap_limit : Fld := ⟨0x700000, 30, 1⟩
/-- spares_free of SHR_STS, RO. -/
def shrSts_spares_free : Fld := ⟨0x700000, 18, 2⟩
/-- retired of SHR_STS, RO. -/
def shrSts_retired : Fld := ⟨0x700000, 0, 18⟩
/-- SHR_KCV (11_shroud_cipher.md R240). -/
def shrKcv : Fld := ⟨0x700004, 0, 32⟩
/-- kcv of SHR_KCV, RO. -/
def shrKcv_kcv : Fld := ⟨0x700004, 0, 32⟩
/-- SHR_WRAP_CNT (11_shroud_cipher.md R240). -/
def shrWrapCnt : Fld := ⟨0x700008, 0, 32⟩
/-- count of SHR_WRAP_CNT, RO. -/
def shrWrapCnt_count : Fld := ⟨0x700008, 0, 32⟩
/-- SHR_CFG (11_shroud_cipher.md R240). -/
def shrCfg : Fld := ⟨0x70000C, 0, 32⟩
/-- pn_gap_log of SHR_CFG, ST. -/
def shrCfg_pn_gap_log : Fld := ⟨0x70000C, 0, 6⟩
/-- SHR_ROOT (11_shroud_cipher.md R240). -/
def shrRoot (i : Nat) : Fld := ⟨0x700010 + 0x4 * i, 0, 32⟩
/-- root of SHR_ROOT, WO. -/
def shrRoot_root (i : Nat) : Fld := ⟨0x700010 + 0x4 * i, 0, 32⟩
/-- SHR_LANE (11_shroud_cipher.md R240). -/
def shrLane (i : Nat) : Fld := ⟨0x700040 + 0x4 * i, 0, 32⟩
/-- in_use of SHR_LANE, RO. -/
def shrLane_in_use (i : Nat) : Fld := ⟨0x700040 + 0x4 * i, 31, 1⟩
/-- phys of SHR_LANE, RO. -/
def shrLane_phys (i : Nat) : Fld := ⟨0x700040 + 0x4 * i, 24, 5⟩
/-- faults of SHR_LANE, RO. -/
def shrLane_faults (i : Nat) : Fld := ⟨0x700040 + 0x4 * i, 16, 8⟩
/-- SHR_CMD (11_shroud_cipher.md R240). -/
def shrCmd : Fld := ⟨0x700100, 0, 32⟩
/-- result of SHR_CMD, RO. -/
def shrCmd_result : Fld := ⟨0x700100, 12, 4⟩
/-- busy of SHR_CMD, RO. -/
def shrCmd_busy : Fld := ⟨0x700100, 8, 1⟩
/-- op of SHR_CMD, WO. -/
def shrCmd_op : Fld := ⟨0x700100, 0, 5⟩
/-- SHR_ARG (11_shroud_cipher.md R240). -/
def shrArg (i : Nat) : Fld := ⟨0x700104 + 0x4 * i, 0, 32⟩
/-- arg of SHR_ARG, RW. -/
def shrArg_arg (i : Nat) : Fld := ⟨0x700104 + 0x4 * i, 0, 32⟩
/-- SHR_DATA (11_shroud_cipher.md R240). -/
def shrData (i : Nat) : Fld := ⟨0x700140 + 0x4 * i, 0, 32⟩
/-- data of SHR_DATA, RW. -/
def shrData_data (i : Nat) : Fld := ⟨0x700140 + 0x4 * i, 0, 32⟩
/-- SHR_NREC (11_shroud_cipher.md R240). -/
def shrNrec (i : Nat) : Fld := ⟨0x7001C0 + 0x4 * i, 0, 32⟩
/-- nrec of SHR_NREC, RO. -/
def shrNrec_nrec (i : Nat) : Fld := ⟨0x7001C0 + 0x4 * i, 0, 32⟩
/-- SHR_PORT_SEL (11_shroud_cipher.md R240). -/
def shrPortSel : Fld := ⟨0x700200, 0, 32⟩
/-- port of SHR_PORT_SEL, RW. -/
def shrPortSel_port : Fld := ⟨0x700200, 0, 7⟩
/-- SHR_PORT_CFG (11_shroud_cipher.md R240). -/
def shrPortCfg : Fld := ⟨0x700204, 0, 32⟩
/-- secure of SHR_PORT_CFG, ST. -/
def shrPortCfg_secure : Fld := ⟨0x700204, 31, 1⟩
/-- replay of SHR_PORT_CFG, ST. -/
def shrPortCfg_replay : Fld := ⟨0x700204, 30, 1⟩
/-- window of SHR_PORT_CFG, ST. -/
def shrPortCfg_window : Fld := ⟨0x700204, 0, 30⟩
/-- SHR_SCI_LO (11_shroud_cipher.md R240). -/
def shrSciLo : Fld := ⟨0x700208, 0, 32⟩
/-- sci of SHR_SCI_LO, ST. -/
def shrSciLo_sci : Fld := ⟨0x700208, 0, 32⟩
/-- SHR_SCI_HI (11_shroud_cipher.md R240). -/
def shrSciHi : Fld := ⟨0x70020C, 0, 32⟩
/-- sci of SHR_SCI_HI, ST. -/
def shrSciHi_sci : Fld := ⟨0x70020C, 0, 32⟩
/-- SHR_PN_THR_LO (11_shroud_cipher.md R240). -/
def shrPnThrLo : Fld := ⟨0x700210, 0, 32⟩
/-- thr of SHR_PN_THR_LO, ST. -/
def shrPnThrLo_thr : Fld := ⟨0x700210, 0, 32⟩
/-- SHR_PN_THR_HI (11_shroud_cipher.md R240). -/
def shrPnThrHi : Fld := ⟨0x700214, 0, 32⟩
/-- thr of SHR_PN_THR_HI, ST. -/
def shrPnThrHi_thr : Fld := ⟨0x700214, 0, 32⟩
/-- SHR_PORT_STS (11_shroud_cipher.md R240). -/
def shrPortSts : Fld := ⟨0x700218, 0, 32⟩
/-- tx_valid of SHR_PORT_STS, RO. -/
def shrPortSts_tx_valid : Fld := ⟨0x700218, 31, 1⟩
/-- pn_thr_hit of SHR_PORT_STS, RO. -/
def shrPortSts_pn_thr_hit : Fld := ⟨0x700218, 30, 1⟩
/-- pn_exhausted of SHR_PORT_STS, RO. -/
def shrPortSts_pn_exhausted : Fld := ⟨0x700218, 29, 1⟩
/-- tx_an of SHR_PORT_STS, RO. -/
def shrPortSts_tx_an : Fld := ⟨0x700218, 0, 2⟩
/-- LANE_CTRL (13_lanes_and_stay_link.md R278). -/
def laneCtrl (i : Nat) : Fld := ⟨0x800000 + 0x400 * i, 0, 32⟩
/-- reef of LANE_CTRL, RW. -/
def laneCtrl_reef (i : Nat) : Fld := ⟨0x800000 + 0x400 * i, 1, 2⟩
/-- restart of LANE_CTRL, WO. -/
def laneCtrl_restart (i : Nat) : Fld := ⟨0x800000 + 0x400 * i, 0, 1⟩
/-- LANE_STS (13_lanes_and_stay_link.md R278). -/
def laneSts (i : Nat) : Fld := ⟨0x800004 + 0x400 * i, 0, 32⟩
/-- frozen of LANE_STS, RO. -/
def laneSts_frozen (i : Nat) : Fld := ⟨0x800004 + 0x400 * i, 7, 1⟩
/-- sig_det of LANE_STS, RO. -/
def laneSts_sig_det (i : Nat) : Fld := ⟨0x800004 + 0x400 * i, 6, 1⟩
/-- good_valid of LANE_STS, RO. -/
def laneSts_good_valid (i : Nat) : Fld := ⟨0x800004 + 0x400 * i, 5, 1⟩
/-- state of LANE_STS, RO. -/
def laneSts_state (i : Nat) : Fld := ⟨0x800004 + 0x400 * i, 0, 3⟩
/-- LANE_FOM (13_lanes_and_stay_link.md R278). -/
def laneFom (i : Nat) : Fld := ⟨0x800008 + 0x400 * i, 0, 32⟩
/-- fom_min of LANE_FOM, RC. -/
def laneFom_fom_min (i : Nat) : Fld := ⟨0x800008 + 0x400 * i, 24, 8⟩
/-- density of LANE_FOM, RO. -/
def laneFom_density (i : Nat) : Fld := ⟨0x800008 + 0x400 * i, 16, 8⟩
/-- fom_good of LANE_FOM, RO. -/
def laneFom_fom_good (i : Nat) : Fld := ⟨0x800008 + 0x400 * i, 8, 8⟩
/-- fom of LANE_FOM, RO. -/
def laneFom_fom (i : Nat) : Fld := ⟨0x800008 + 0x400 * i, 0, 8⟩
/-- LANE_ADAPT (13_lanes_and_stay_link.md R278). -/
def laneAdapt (i : Nat) : Fld := ⟨0x80000C + 0x400 * i, 0, 32⟩
/-- fom_fail of LANE_ADAPT, ST. -/
def laneAdapt_fom_fail (i : Nat) : Fld := ⟨0x80000C + 0x400 * i, 24, 8⟩
/-- restore_margin of LANE_ADAPT, ST. -/
def laneAdapt_restore_margin (i : Nat) : Fld := ⟨0x80000C + 0x400 * i, 16, 8⟩
/-- adapt_en of LANE_ADAPT, ST. -/
def laneAdapt_adapt_en (i : Nat) : Fld := ⟨0x80000C + 0x400 * i, 15, 1⟩
/-- td_min of LANE_ADAPT, ST. -/
def laneAdapt_td_min (i : Nat) : Fld := ⟨0x80000C + 0x400 * i, 0, 7⟩
/-- LANE_COEF (13_lanes_and_stay_link.md R278). -/
def laneCoef (i j : Nat) : Fld := ⟨0x800010 + 0x400 * i + 0x4 * j, 0, 32⟩
/-- coef of LANE_COEF, RO. -/
def laneCoef_coef (i j : Nat) : Fld := ⟨0x800010 + 0x400 * i + 0x4 * j, 0, 32⟩
/-- LANE_GOOD (13_lanes_and_stay_link.md R278). -/
def laneGood (i j : Nat) : Fld := ⟨0x800018 + 0x400 * i + 0x4 * j, 0, 32⟩
/-- coef of LANE_GOOD, RO. -/
def laneGood_coef (i j : Nat) : Fld := ⟨0x800018 + 0x400 * i + 0x4 * j, 0, 32⟩
/-- LANE_PRESET0 (13_lanes_and_stay_link.md R278). -/
def lanePreset0 (i : Nat) : Fld := ⟨0x800020 + 0x400 * i, 0, 32⟩
/-- coef of LANE_PRESET0, RW. -/
def lanePreset0_coef (i : Nat) : Fld := ⟨0x800020 + 0x400 * i, 0, 32⟩
/-- LANE_PRESET1 (13_lanes_and_stay_link.md R278). -/
def lanePreset1 (i : Nat) : Fld := ⟨0x800024 + 0x400 * i, 0, 32⟩
/-- coef of LANE_PRESET1, RW. -/
def lanePreset1_coef (i : Nat) : Fld := ⟨0x800024 + 0x400 * i, 0, 32⟩
/-- LANE_TXEQ (13_lanes_and_stay_link.md R278). -/
def laneTxeq (i : Nat) : Fld := ⟨0x800028 + 0x400 * i, 0, 32⟩
/-- pre3 of LANE_TXEQ, RW. -/
def laneTxeq_pre3 (i : Nat) : Fld := ⟨0x800028 + 0x400 * i, 24, 4⟩
/-- pre2 of LANE_TXEQ, RW. -/
def laneTxeq_pre2 (i : Nat) : Fld := ⟨0x800028 + 0x400 * i, 18, 6⟩
/-- pre1 of LANE_TXEQ, RW. -/
def laneTxeq_pre1 (i : Nat) : Fld := ⟨0x800028 + 0x400 * i, 12, 6⟩
/-- main of LANE_TXEQ, RW. -/
def laneTxeq_main (i : Nat) : Fld := ⟨0x800028 + 0x400 * i, 6, 6⟩
/-- post1 of LANE_TXEQ, RW. -/
def laneTxeq_post1 (i : Nat) : Fld := ⟨0x800028 + 0x400 * i, 0, 6⟩
/-- LANE_ALM (13_lanes_and_stay_link.md R278). -/
def laneAlm (i : Nat) : Fld := ⟨0x80002C + 0x400 * i, 0, 32⟩
/-- reef_refused of LANE_ALM, W1C. -/
def laneAlm_reef_refused (i : Nat) : Fld := ⟨0x80002C + 0x400 * i, 4, 1⟩
/-- restore of LANE_ALM, W1C. -/
def laneAlm_restore (i : Nat) : Fld := ⟨0x80002C + 0x400 * i, 3, 1⟩
/-- freeze of LANE_ALM, W1C. -/
def laneAlm_freeze (i : Nat) : Fld := ⟨0x80002C + 0x400 * i, 2, 1⟩
/-- lock_lost of LANE_ALM, W1C. -/
def laneAlm_lock_lost (i : Nat) : Fld := ⟨0x80002C + 0x400 * i, 1, 1⟩
/-- fault of LANE_ALM, W1C. -/
def laneAlm_fault (i : Nat) : Fld := ⟨0x80002C + 0x400 * i, 0, 1⟩
/-- LANE_FAULTS (13_lanes_and_stay_link.md R278). -/
def laneFaults (i : Nat) : Fld := ⟨0x800030 + 0x400 * i, 0, 32⟩
/-- faults of LANE_FAULTS, RO. -/
def laneFaults_faults (i : Nat) : Fld := ⟨0x800030 + 0x400 * i, 0, 8⟩
/-- LANE_SL_CTRL (13_lanes_and_stay_link.md R278). -/
def laneSlCtrl : Fld := ⟨0x8A4000, 0, 32⟩
/-- enable of LANE_SL_CTRL, RW. -/
def laneSlCtrl_enable : Fld := ⟨0x8A4000, 0, 1⟩
/-- LANE_SL_STS (13_lanes_and_stay_link.md R278). -/
def laneSlSts : Fld := ⟨0x8A4004, 0, 32⟩
/-- present of LANE_SL_STS, RO. -/
def laneSlSts_present : Fld := ⟨0x8A4004, 31, 1⟩
/-- link_up of LANE_SL_STS, RO. -/
def laneSlSts_link_up : Fld := ⟨0x8A4004, 30, 1⟩
/-- mode of LANE_SL_STS, RO. -/
def laneSlSts_mode : Fld := ⟨0x8A4004, 29, 1⟩
/-- mode_mismatch of LANE_SL_STS, RO. -/
def laneSlSts_mode_mismatch : Fld := ⟨0x8A4004, 28, 1⟩
/-- width of LANE_SL_STS, RO. -/
def laneSlSts_width : Fld := ⟨0x8A4004, 26, 2⟩
/-- framed of LANE_SL_STS, RO. -/
def laneSlSts_framed : Fld := ⟨0x8A4004, 8, 8⟩
/-- mf_locked of LANE_SL_STS, RO. -/
def laneSlSts_mf_locked : Fld := ⟨0x8A4004, 0, 8⟩
/-- LANE_SL_SKEW (13_lanes_and_stay_link.md R278). -/
def laneSlSkew : Fld := ⟨0x8A4008, 0, 32⟩
/-- skew of LANE_SL_SKEW, RO. -/
def laneSlSkew_skew : Fld := ⟨0x8A4008, 0, 12⟩
/-- LANE_SL_RM (13_lanes_and_stay_link.md R278). -/
def laneSlRm : Fld := ⟨0x8A400C, 0, 32⟩
/-- del of LANE_SL_RM, RC. -/
def laneSlRm_del : Fld := ⟨0x8A400C, 16, 16⟩
/-- ins of LANE_SL_RM, RC. -/
def laneSlRm_ins : Fld := ⟨0x8A400C, 0, 16⟩
/-- LANE_SL_ALM (13_lanes_and_stay_link.md R278). -/
def laneSlAlm : Fld := ⟨0x8A4010, 0, 32⟩
/-- seq_gap of LANE_SL_ALM, W1C. -/
def laneSlAlm_seq_gap : Fld := ⟨0x8A4010, 4, 1⟩
/-- tag_err of LANE_SL_ALM, W1C. -/
def laneSlAlm_tag_err : Fld := ⟨0x8A4010, 3, 1⟩
/-- stuff_err of LANE_SL_ALM, W1C. -/
def laneSlAlm_stuff_err : Fld := ⟨0x8A4010, 2, 1⟩
/-- skew_err of LANE_SL_ALM, W1C. -/
def laneSlAlm_skew_err : Fld := ⟨0x8A4010, 1, 1⟩
/-- link_down of LANE_SL_ALM, W1C. -/
def laneSlAlm_link_down : Fld := ⟨0x8A4010, 0, 1⟩
/-- LANE_SL_SEQ (13_lanes_and_stay_link.md R278). -/
def laneSlSeq : Fld := ⟨0x8A4014, 0, 32⟩
/-- seq of LANE_SL_SEQ, RO. -/
def laneSlSeq_seq : Fld := ⟨0x8A4014, 0, 28⟩
/-- PCH_CTRL (03_pon_downstream.md R65). -/
def pchCtrl (i : Nat) : Fld := ⟨0x1000000 + 0x4000 * i, 0, 32⟩
/-- ploam_flush of PCH_CTRL, WO. -/
def pchCtrl_ploam_flush (i : Nat) : Fld := ⟨0x1000000 + 0x4000 * i, 2, 1⟩
/-- tx_off of PCH_CTRL, RW. -/
def pchCtrl_tx_off (i : Nat) : Fld := ⟨0x1000000 + 0x4000 * i, 1, 1⟩
/-- enable of PCH_CTRL, RW. -/
def pchCtrl_enable (i : Nat) : Fld := ⟨0x1000000 + 0x4000 * i, 0, 1⟩
/-- PCH_STS (03_pon_downstream.md R65). -/
def pchSts (i : Nat) : Fld := ⟨0x1000004 + 0x4000 * i, 0, 32⟩
/-- retries of PCH_STS, RO. -/
def pchSts_retries (i : Nat) : Fld := ⟨0x1000004 + 0x4000 * i, 8, 8⟩
/-- tx_fault of PCH_STS, RO. -/
def pchSts_tx_fault (i : Nat) : Fld := ⟨0x1000004 + 0x4000 * i, 7, 1⟩
/-- module_present of PCH_STS, RO. -/
def pchSts_module_present (i : Nat) : Fld := ⟨0x1000004 + 0x4000 * i, 6, 1⟩
/-- ref_lock of PCH_STS, RO. -/
def pchSts_ref_lock (i : Nat) : Fld := ⟨0x1000004 + 0x4000 * i, 5, 1⟩
/-- laser_on of PCH_STS, RO. -/
def pchSts_laser_on (i : Nat) : Fld := ⟨0x1000004 + 0x4000 * i, 4, 1⟩
/-- state of PCH_STS, RO. -/
def pchSts_state (i : Nat) : Fld := ⟨0x1000004 + 0x4000 * i, 0, 4⟩
/-- PCH_MODE (03_pon_downstream.md R65). -/
def pchMode (i : Nat) : Fld := ⟨0x1000008 + 0x4000 * i, 0, 32⟩
/-- paired of PCH_MODE, RO. -/
def pchMode_paired (i : Nat) : Fld := ⟨0x1000008 + 0x4000 * i, 4, 1⟩
/-- us_rate of PCH_MODE, RO. -/
def pchMode_us_rate (i : Nat) : Fld := ⟨0x1000008 + 0x4000 * i, 2, 2⟩
/-- mode of PCH_MODE, RO. -/
def pchMode_mode (i : Nat) : Fld := ⟨0x1000008 + 0x4000 * i, 0, 2⟩
/-- PCH_DS_ALM (03_pon_downstream.md R65). -/
def pchDsAlm (i : Nat) : Fld := ⟨0x100000C + 0x4000 * i, 0, 32⟩
/-- retired of PCH_DS_ALM, W1C. -/
def pchDsAlm_retired (i : Nat) : Fld := ⟨0x100000C + 0x4000 * i, 5, 1⟩
/-- frag_abort of PCH_DS_ALM, W1C. -/
def pchDsAlm_frag_abort (i : Nat) : Fld := ⟨0x100000C + 0x4000 * i, 4, 1⟩
/-- ploam_overflow of PCH_DS_ALM, W1C. -/
def pchDsAlm_ploam_overflow (i : Nat) : Fld := ⟨0x100000C + 0x4000 * i, 3, 1⟩
/-- module_absent of PCH_DS_ALM, W1C. -/
def pchDsAlm_module_absent (i : Nat) : Fld := ⟨0x100000C + 0x4000 * i, 2, 1⟩
/-- ref_unlock of PCH_DS_ALM, W1C. -/
def pchDsAlm_ref_unlock (i : Nat) : Fld := ⟨0x100000C + 0x4000 * i, 1, 1⟩
/-- tx_fault of PCH_DS_ALM, W1C. -/
def pchDsAlm_tx_fault (i : Nat) : Fld := ⟨0x100000C + 0x4000 * i, 0, 1⟩
/-- PCH_SFC_LO (03_pon_downstream.md R65). -/
def pchSfcLo (i : Nat) : Fld := ⟨0x1000010 + 0x4000 * i, 0, 32⟩
/-- sfc of PCH_SFC_LO, RO. -/
def pchSfcLo_sfc (i : Nat) : Fld := ⟨0x1000010 + 0x4000 * i, 0, 32⟩
/-- PCH_SFC_HI (03_pon_downstream.md R65). -/
def pchSfcHi (i : Nat) : Fld := ⟨0x1000014 + 0x4000 * i, 0, 32⟩
/-- sfc of PCH_SFC_HI, RO. -/
def pchSfcHi_sfc (i : Nat) : Fld := ⟨0x1000014 + 0x4000 * i, 0, 19⟩
/-- PCH_FSTART_SEC (03_pon_downstream.md R65). -/
def pchFstartSec (i : Nat) : Fld := ⟨0x1000018 + 0x4000 * i, 0, 32⟩
/-- sec of PCH_FSTART_SEC, RO. -/
def pchFstartSec_sec (i : Nat) : Fld := ⟨0x1000018 + 0x4000 * i, 0, 32⟩
/-- PCH_FSTART_NS (03_pon_downstream.md R65). -/
def pchFstartNs (i : Nat) : Fld := ⟨0x100001C + 0x4000 * i, 0, 32⟩
/-- ns of PCH_FSTART_NS, RO. -/
def pchFstartNs_ns (i : Nat) : Fld := ⟨0x100001C + 0x4000 * i, 0, 30⟩
/-- PCH_PONID_LO (03_pon_downstream.md R65). -/
def pchPonidLo (i : Nat) : Fld := ⟨0x1000020 + 0x4000 * i, 0, 32⟩
/-- ponid of PCH_PONID_LO, ST. -/
def pchPonidLo_ponid (i : Nat) : Fld := ⟨0x1000020 + 0x4000 * i, 0, 32⟩
/-- PCH_PONID_HI (03_pon_downstream.md R65). -/
def pchPonidHi (i : Nat) : Fld := ⟨0x1000024 + 0x4000 * i, 0, 32⟩
/-- ponid of PCH_PONID_HI, ST. -/
def pchPonidHi_ponid (i : Nat) : Fld := ⟨0x1000024 + 0x4000 * i, 0, 19⟩
/-- PCH_DS_CFG (03_pon_downstream.md R65). -/
def pchDsCfg (i : Nat) : Fld := ⟨0x1000028 + 0x4000 * i, 0, 32⟩
/-- bp_period of PCH_DS_CFG, ST. -/
def pchDsCfg_bp_period (i : Nat) : Fld := ⟨0x1000028 + 0x4000 * i, 24, 8⟩
/-- ploam_max of PCH_DS_CFG, ST. -/
def pchDsCfg_ploam_max (i : Nat) : Fld := ⟨0x1000028 + 0x4000 * i, 20, 4⟩
/-- mtu of PCH_DS_CFG, ST. -/
def pchDsCfg_mtu (i : Nat) : Fld := ⟨0x1000028 + 0x4000 * i, 0, 14⟩
/-- PCH_DS_CAP (03_pon_downstream.md R65). -/
def pchDsCap (i : Nat) : Fld := ⟨0x100002C + 0x4000 * i, 0, 32⟩
/-- cap of PCH_DS_CAP, RO. -/
def pchDsCap_cap (i : Nat) : Fld := ⟨0x100002C + 0x4000 * i, 0, 20⟩
/-- PCH_PLOAM_STS (03_pon_downstream.md R65). -/
def pchPloamSts (i : Nat) : Fld := ⟨0x1000030 + 0x4000 * i, 0, 32⟩
/-- urgent of PCH_PLOAM_STS, RO. -/
def pchPloamSts_urgent (i : Nat) : Fld := ⟨0x1000030 + 0x4000 * i, 16, 4⟩
/-- unicast of PCH_PLOAM_STS, RO. -/
def pchPloamSts_unicast (i : Nat) : Fld := ⟨0x1000030 + 0x4000 * i, 8, 8⟩
/-- broadcast of PCH_PLOAM_STS, RO. -/
def pchPloamSts_broadcast (i : Nat) : Fld := ⟨0x1000030 + 0x4000 * i, 0, 5⟩
/-- PCH_FLW_ADDR (03_pon_downstream.md R65). -/
def pchFlwAddr (i : Nat) : Fld := ⟨0x1000040 + 0x4000 * i, 0, 32⟩
/-- flow of PCH_FLW_ADDR, RW. -/
def pchFlwAddr_flow (i : Nat) : Fld := ⟨0x1000040 + 0x4000 * i, 0, 18⟩
/-- PCH_FLW_DATA0 (03_pon_downstream.md R65). -/
def pchFlwData0 (i : Nat) : Fld := ⟨0x1000044 + 0x4000 * i, 0, 32⟩
/-- onu of PCH_FLW_DATA0, RW. -/
def pchFlwData0_onu (i : Nat) : Fld := ⟨0x1000044 + 0x4000 * i, 16, 16⟩
/-- port_id of PCH_FLW_DATA0, RW. -/
def pchFlwData0_port_id (i : Nat) : Fld := ⟨0x1000044 + 0x4000 * i, 0, 16⟩
/-- PCH_FLW_DATA1 (03_pon_downstream.md R65). -/
def pchFlwData1 (i : Nat) : Fld := ⟨0x1000048 + 0x4000 * i, 0, 32⟩
/-- key_class of PCH_FLW_DATA1, RW. -/
def pchFlwData1_key_class (i : Nat) : Fld := ⟨0x1000048 + 0x4000 * i, 2, 2⟩
/-- encrypt of PCH_FLW_DATA1, RW. -/
def pchFlwData1_encrypt (i : Nat) : Fld := ⟨0x1000048 + 0x4000 * i, 1, 1⟩
/-- valid of PCH_FLW_DATA1, RW. -/
def pchFlwData1_valid (i : Nat) : Fld := ⟨0x1000048 + 0x4000 * i, 0, 1⟩
/-- PCH_FLW_CMD (03_pon_downstream.md R65). -/
def pchFlwCmd (i : Nat) : Fld := ⟨0x100004C + 0x4000 * i, 0, 32⟩
/-- result of PCH_FLW_CMD, RO. -/
def pchFlwCmd_result (i : Nat) : Fld := ⟨0x100004C + 0x4000 * i, 5, 3⟩
/-- busy of PCH_FLW_CMD, RO. -/
def pchFlwCmd_busy (i : Nat) : Fld := ⟨0x100004C + 0x4000 * i, 4, 1⟩
/-- op of PCH_FLW_CMD, WO. -/
def pchFlwCmd_op (i : Nat) : Fld := ⟨0x100004C + 0x4000 * i, 0, 2⟩
/-- PCH_US_CFG (04_pon_upstream.md R99). -/
def pchUsCfg (i : Nat) : Fld := ⟨0x1000100 + 0x4000 * i, 0, 32⟩
/-- ses_pct of PCH_US_CFG, ST. -/
def pchUsCfg_ses_pct (i : Nat) : Fld := ⟨0x1000100 + 0x4000 * i, 24, 7⟩
/-- los_frames of PCH_US_CFG, ST. -/
def pchUsCfg_los_frames (i : Nat) : Fld := ⟨0x1000100 + 0x4000 * i, 16, 4⟩
/-- lob_thr of PCH_US_CFG, ST. -/
def pchUsCfg_lob_thr (i : Nat) : Fld := ⟨0x1000100 + 0x4000 * i, 12, 4⟩
/-- delim_margin of PCH_US_CFG, ST. -/
def pchUsCfg_delim_margin (i : Nat) : Fld := ⟨0x1000100 + 0x4000 * i, 4, 8⟩
/-- PCH_US_ADAPT (04_pon_upstream.md R99). -/
def pchUsAdapt (i : Nat) : Fld := ⟨0x1000104 + 0x4000 * i, 0, 32⟩
/-- preset_margin of PCH_US_ADAPT, ST. -/
def pchUsAdapt_preset_margin (i : Nat) : Fld := ⟨0x1000104 + 0x4000 * i, 8, 8⟩
/-- min_adapt of PCH_US_ADAPT, ST. -/
def pchUsAdapt_min_adapt (i : Nat) : Fld := ⟨0x1000104 + 0x4000 * i, 0, 8⟩
/-- PCH_ROGUE_CFG (04_pon_upstream.md R99). -/
def pchRogueCfg (i : Nat) : Fld := ⟨0x1000108 + 0x4000 * i, 0, 32⟩
/-- clear_win of PCH_ROGUE_CFG, ST. -/
def pchRogueCfg_clear_win (i : Nat) : Fld := ⟨0x1000108 + 0x4000 * i, 16, 8⟩
/-- rogue_win of PCH_ROGUE_CFG, ST. -/
def pchRogueCfg_rogue_win (i : Nat) : Fld := ⟨0x1000108 + 0x4000 * i, 8, 4⟩
/-- rogue_thr of PCH_ROGUE_CFG, ST. -/
def pchRogueCfg_rogue_thr (i : Nat) : Fld := ⟨0x1000108 + 0x4000 * i, 0, 4⟩
/-- PCH_US_STS (04_pon_upstream.md R99). -/
def pchUsSts (i : Nat) : Fld := ⟨0x100010C + 0x4000 * i, 0, 32⟩
/-- lobi_count of PCH_US_STS, RO. -/
def pchUsSts_lobi_count (i : Nat) : Fld := ⟨0x100010C + 0x4000 * i, 16, 9⟩
/-- rx_los of PCH_US_STS, RO. -/
def pchUsSts_rx_los (i : Nat) : Fld := ⟨0x100010C + 0x4000 * i, 2, 1⟩
/-- rogue of PCH_US_STS, RO. -/
def pchUsSts_rogue (i : Nat) : Fld := ⟨0x100010C + 0x4000 * i, 1, 1⟩
/-- los of PCH_US_STS, RO. -/
def pchUsSts_los (i : Nat) : Fld := ⟨0x100010C + 0x4000 * i, 0, 1⟩
/-- PCH_US_ALM (04_pon_upstream.md R99). -/
def pchUsAlm (i : Nat) : Fld := ⟨0x1000110 + 0x4000 * i, 0, 32⟩
/-- state_poison of PCH_US_ALM, W1C. -/
def pchUsAlm_state_poison (i : Nat) : Fld := ⟨0x1000110 + 0x4000 * i, 3, 1⟩
/-- flow_poison of PCH_US_ALM, W1C. -/
def pchUsAlm_flow_poison (i : Nat) : Fld := ⟨0x1000110 + 0x4000 * i, 2, 1⟩
/-- rogue of PCH_US_ALM, W1C. -/
def pchUsAlm_rogue (i : Nat) : Fld := ⟨0x1000110 + 0x4000 * i, 1, 1⟩
/-- los of PCH_US_ALM, W1C. -/
def pchUsAlm_los (i : Nat) : Fld := ⟨0x1000110 + 0x4000 * i, 0, 1⟩
/-- PCH_ROGUE_CAP (04_pon_upstream.md R99). -/
def pchRogueCap (i : Nat) : Fld := ⟨0x1000114 + 0x4000 * i, 0, 32⟩
/-- kind of PCH_ROGUE_CAP, RO. -/
def pchRogueCap_kind (i : Nat) : Fld := ⟨0x1000114 + 0x4000 * i, 30, 2⟩
/-- offset of PCH_ROGUE_CAP, RO. -/
def pchRogueCap_offset (i : Nat) : Fld := ⟨0x1000114 + 0x4000 * i, 0, 21⟩
/-- PCH_AIS_SA_LO (04_pon_upstream.md R99). -/
def pchAisSaLo (i : Nat) : Fld := ⟨0x1000118 + 0x4000 * i, 0, 32⟩
/-- sa of PCH_AIS_SA_LO, ST. -/
def pchAisSaLo_sa (i : Nat) : Fld := ⟨0x1000118 + 0x4000 * i, 0, 32⟩
/-- PCH_AIS_SA_HI (04_pon_upstream.md R99). -/
def pchAisSaHi (i : Nat) : Fld := ⟨0x100011C + 0x4000 * i, 0, 32⟩
/-- sa of PCH_AIS_SA_HI, ST. -/
def pchAisSaHi_sa (i : Nat) : Fld := ⟨0x100011C + 0x4000 * i, 0, 16⟩
/-- PCH_UFL_ADDR (04_pon_upstream.md R99). -/
def pchUflAddr (i : Nat) : Fld := ⟨0x1000120 + 0x4000 * i, 0, 32⟩
/-- port_id of PCH_UFL_ADDR, RW. -/
def pchUflAddr_port_id (i : Nat) : Fld := ⟨0x1000120 + 0x4000 * i, 0, 16⟩
/-- PCH_UFL_DATA0 (04_pon_upstream.md R99). -/
def pchUflData0 (i : Nat) : Fld := ⟨0x1000124 + 0x4000 * i, 0, 32⟩
/-- valid of PCH_UFL_DATA0, RW. -/
def pchUflData0_valid (i : Nat) : Fld := ⟨0x1000124 + 0x4000 * i, 31, 1⟩
/-- flow of PCH_UFL_DATA0, RW. -/
def pchUflData0_flow (i : Nat) : Fld := ⟨0x1000124 + 0x4000 * i, 0, 18⟩
/-- PCH_UFL_DATA1 (04_pon_upstream.md R99). -/
def pchUflData1 (i : Nat) : Fld := ⟨0x1000128 + 0x4000 * i, 0, 32⟩
/-- decrypt of PCH_UFL_DATA1, RW. -/
def pchUflData1_decrypt (i : Nat) : Fld := ⟨0x1000128 + 0x4000 * i, 16, 1⟩
/-- onu of PCH_UFL_DATA1, RW. -/
def pchUflData1_onu (i : Nat) : Fld := ⟨0x1000128 + 0x4000 * i, 0, 16⟩
/-- PCH_UFL_CMD (04_pon_upstream.md R99). -/
def pchUflCmd (i : Nat) : Fld := ⟨0x100012C + 0x4000 * i, 0, 32⟩
/-- result of PCH_UFL_CMD, RO. -/
def pchUflCmd_result (i : Nat) : Fld := ⟨0x100012C + 0x4000 * i, 5, 3⟩
/-- busy of PCH_UFL_CMD, RO. -/
def pchUflCmd_busy (i : Nat) : Fld := ⟨0x100012C + 0x4000 * i, 4, 1⟩
/-- op of PCH_UFL_CMD, WO. -/
def pchUflCmd_op (i : Nat) : Fld := ⟨0x100012C + 0x4000 * i, 0, 2⟩
/-- PCH_UONU_ADDR (04_pon_upstream.md R99). -/
def pchUonuAddr (i : Nat) : Fld := ⟨0x1000130 + 0x4000 * i, 0, 32⟩
/-- onu of PCH_UONU_ADDR, RW. -/
def pchUonuAddr_onu (i : Nat) : Fld := ⟨0x1000130 + 0x4000 * i, 0, 16⟩
/-- PCH_UONU_DATA0 (04_pon_upstream.md R99). -/
def pchUonuData0 (i : Nat) : Fld := ⟨0x1000134 + 0x4000 * i, 0, 32⟩
/-- ais_en of PCH_UONU_DATA0, RW. -/
def pchUonuData0_ais_en (i : Nat) : Fld := ⟨0x1000134 + 0x4000 * i, 31, 1⟩
/-- ug of PCH_UONU_DATA0, RW. -/
def pchUonuData0_ug (i : Nat) : Fld := ⟨0x1000134 + 0x4000 * i, 24, 4⟩
/-- class of PCH_UONU_DATA0, RW. -/
def pchUonuData0_class (i : Nat) : Fld := ⟨0x1000134 + 0x4000 * i, 20, 3⟩
/-- mel of PCH_UONU_DATA0, RW. -/
def pchUonuData0_mel (i : Nat) : Fld := ⟨0x1000134 + 0x4000 * i, 16, 3⟩
/-- period of PCH_UONU_DATA0, RW. -/
def pchUonuData0_period (i : Nat) : Fld := ⟨0x1000134 + 0x4000 * i, 15, 1⟩
/-- tag_mode of PCH_UONU_DATA0, RW. -/
def pchUonuData0_tag_mode (i : Nat) : Fld := ⟨0x1000134 + 0x4000 * i, 12, 2⟩
/-- svid of PCH_UONU_DATA0, RW. -/
def pchUonuData0_svid (i : Nat) : Fld := ⟨0x1000134 + 0x4000 * i, 0, 12⟩
/-- PCH_UONU_DATA1 (04_pon_upstream.md R99). -/
def pchUonuData1 (i : Nat) : Fld := ⟨0x1000138 + 0x4000 * i, 0, 32⟩
/-- lobi of PCH_UONU_DATA1, RO. -/
def pchUonuData1_lobi (i : Nat) : Fld := ⟨0x1000138 + 0x4000 * i, 31, 1⟩
/-- preset_valid of PCH_UONU_DATA1, RO. -/
def pchUonuData1_preset_valid (i : Nat) : Fld := ⟨0x1000138 + 0x4000 * i, 30, 1⟩
/-- unavail of PCH_UONU_DATA1, RO. -/
def pchUonuData1_unavail (i : Nat) : Fld := ⟨0x1000138 + 0x4000 * i, 29, 1⟩
/-- fom_preset of PCH_UONU_DATA1, RO. -/
def pchUonuData1_fom_preset (i : Nat) : Fld := ⟨0x1000138 + 0x4000 * i, 16, 8⟩
/-- cvid of PCH_UONU_DATA1, RW. -/
def pchUonuData1_cvid (i : Nat) : Fld := ⟨0x1000138 + 0x4000 * i, 0, 12⟩
/-- PCH_UONU_CMD (04_pon_upstream.md R99). -/
def pchUonuCmd (i : Nat) : Fld := ⟨0x100013C + 0x4000 * i, 0, 32⟩
/-- result of PCH_UONU_CMD, RO. -/
def pchUonuCmd_result (i : Nat) : Fld := ⟨0x100013C + 0x4000 * i, 5, 3⟩
/-- busy of PCH_UONU_CMD, RO. -/
def pchUonuCmd_busy (i : Nat) : Fld := ⟨0x100013C + 0x4000 * i, 4, 1⟩
/-- op of PCH_UONU_CMD, WO. -/
def pchUonuCmd_op (i : Nat) : Fld := ⟨0x100013C + 0x4000 * i, 0, 3⟩
/-- PCH_RAT_TEQD (05_ratline_ranging.md R129). -/
def pchRatTeqd (i : Nat) : Fld := ⟨0x1000200 + 0x4000 * i, 0, 32⟩
/-- teqd of PCH_RAT_TEQD, ST. -/
def pchRatTeqd_teqd (i : Nat) : Fld := ⟨0x1000200 + 0x4000 * i, 0, 32⟩
/-- PCH_RAT_RESP (05_ratline_ranging.md R129). -/
def pchRatResp (i : Nat) : Fld := ⟨0x1000204 + 0x4000 * i, 0, 32⟩
/-- resp of PCH_RAT_RESP, ST. -/
def pchRatResp_resp (i : Nat) : Fld := ⟨0x1000204 + 0x4000 * i, 0, 32⟩
/-- PCH_RAT_CAL (05_ratline_ranging.md R129). -/
def pchRatCal (i : Nat) : Fld := ⟨0x1000208 + 0x4000 * i, 0, 32⟩
/-- cal of PCH_RAT_CAL, ST. -/
def pchRatCal_cal (i : Nat) : Fld := ⟨0x1000208 + 0x4000 * i, 0, 32⟩
/-- PCH_RAT_DRIFT (05_ratline_ranging.md R129). -/
def pchRatDrift (i : Nat) : Fld := ⟨0x100020C + 0x4000 * i, 0, 32⟩
/-- drift_auto of PCH_RAT_DRIFT, ST. -/
def pchRatDrift_drift_auto (i : Nat) : Fld := ⟨0x100020C + 0x4000 * i, 31, 1⟩
/-- upd_frames of PCH_RAT_DRIFT, ST. -/
def pchRatDrift_upd_frames (i : Nat) : Fld := ⟨0x100020C + 0x4000 * i, 16, 8⟩
/-- drift_thr of PCH_RAT_DRIFT, ST. -/
def pchRatDrift_drift_thr (i : Nat) : Fld := ⟨0x100020C + 0x4000 * i, 0, 16⟩
/-- PCH_RAT_LOST (05_ratline_ranging.md R129). -/
def pchRatLost (i : Nat) : Fld := ⟨0x1000210 + 0x4000 * i, 0, 32⟩
/-- rand_span_us of PCH_RAT_LOST, ST. -/
def pchRatLost_rand_span_us (i : Nat) : Fld := ⟨0x1000210 + 0x4000 * i, 16, 8⟩
/-- lost_ms of PCH_RAT_LOST, ST. -/
def pchRatLost_lost_ms (i : Nat) : Fld := ⟨0x1000210 + 0x4000 * i, 0, 16⟩
/-- PCH_RAT_DSTS (05_ratline_ranging.md R129). -/
def pchRatDsts (i : Nat) : Fld := ⟨0x1000214 + 0x4000 * i, 0, 32⟩
/-- last_comp of PCH_RAT_DSTS, RO. -/
def pchRatDsts_last_comp (i : Nat) : Fld := ⟨0x1000214 + 0x4000 * i, 20, 4⟩
/-- ranging of PCH_RAT_DSTS, RO. -/
def pchRatDsts_ranging (i : Nat) : Fld := ⟨0x1000214 + 0x4000 * i, 16, 4⟩
/-- records of PCH_RAT_DSTS, RO. -/
def pchRatDsts_records (i : Nat) : Fld := ⟨0x1000214 + 0x4000 * i, 8, 8⟩
/-- open of PCH_RAT_DSTS, RO. -/
def pchRatDsts_open (i : Nat) : Fld := ⟨0x1000214 + 0x4000 * i, 7, 1⟩
/-- engine of PCH_RAT_DSTS, RO. -/
def pchRatDsts_engine (i : Nat) : Fld := ⟨0x1000214 + 0x4000 * i, 0, 6⟩
/-- PCH_RAT_CMD (05_ratline_ranging.md R129). -/
def pchRatCmd (i : Nat) : Fld := ⟨0x1000220 + 0x4000 * i, 0, 32⟩
/-- cmd_lost of PCH_RAT_CMD, W1C. -/
def pchRatCmd_cmd_lost (i : Nat) : Fld := ⟨0x1000220 + 0x4000 * i, 16, 1⟩
/-- result of PCH_RAT_CMD, RO. -/
def pchRatCmd_result (i : Nat) : Fld := ⟨0x1000220 + 0x4000 * i, 12, 4⟩
/-- busy of PCH_RAT_CMD, RO. -/
def pchRatCmd_busy (i : Nat) : Fld := ⟨0x1000220 + 0x4000 * i, 8, 1⟩
/-- op of PCH_RAT_CMD, WO. -/
def pchRatCmd_op (i : Nat) : Fld := ⟨0x1000220 + 0x4000 * i, 0, 4⟩
/-- PCH_RAT_ARG0 (05_ratline_ranging.md R129). -/
def pchRatArg0 (i : Nat) : Fld := ⟨0x1000224 + 0x4000 * i, 0, 32⟩
/-- tries of PCH_RAT_ARG0, RW. -/
def pchRatArg0_tries (i : Nat) : Fld := ⟨0x1000224 + 0x4000 * i, 28, 4⟩
/-- onu_id of PCH_RAT_ARG0, RW. -/
def pchRatArg0_onu_id (i : Nat) : Fld := ⟨0x1000224 + 0x4000 * i, 16, 10⟩
/-- context of PCH_RAT_ARG0, RW. -/
def pchRatArg0_context (i : Nat) : Fld := ⟨0x1000224 + 0x4000 * i, 0, 16⟩
/-- PCH_RAT_ARG1 (05_ratline_ranging.md R129). -/
def pchRatArg1 (i : Nat) : Fld := ⟨0x1000228 + 0x4000 * i, 0, 32⟩
/-- arg of PCH_RAT_ARG1, RW. -/
def pchRatArg1_arg (i : Nat) : Fld := ⟨0x1000228 + 0x4000 * i, 0, 32⟩
/-- PCH_RAT_ARG2 (05_ratline_ranging.md R129). -/
def pchRatArg2 (i : Nat) : Fld := ⟨0x100022C + 0x4000 * i, 0, 32⟩
/-- arg of PCH_RAT_ARG2, RW. -/
def pchRatArg2_arg (i : Nat) : Fld := ⟨0x100022C + 0x4000 * i, 0, 32⟩
/-- PCH_RAT_ARG3 (05_ratline_ranging.md R129). -/
def pchRatArg3 (i : Nat) : Fld := ⟨0x1000230 + 0x4000 * i, 0, 32⟩
/-- arg of PCH_RAT_ARG3, RW. -/
def pchRatArg3_arg (i : Nat) : Fld := ⟨0x1000230 + 0x4000 * i, 0, 32⟩
/-- PCH_RAT_RD (05_ratline_ranging.md R129). -/
def pchRatRd (i j : Nat) : Fld := ⟨0x1000240 + 0x4000 * i + 0x4 * j, 0, 32⟩
/-- rd of PCH_RAT_RD, RO. -/
def pchRatRd_rd (i j : Nat) : Fld := ⟨0x1000240 + 0x4000 * i + 0x4 * j, 0, 32⟩
/-- PCH_RAT_DREC_IDX (05_ratline_ranging.md R129). -/
def pchRatDrecIdx (i : Nat) : Fld := ⟨0x1000260 + 0x4000 * i, 0, 32⟩
/-- idx of PCH_RAT_DREC_IDX, RW. -/
def pchRatDrecIdx_idx (i : Nat) : Fld := ⟨0x1000260 + 0x4000 * i, 0, 3⟩
/-- PCH_RAT_DREC (05_ratline_ranging.md R129). -/
def pchRatDrec (i j : Nat) : Fld := ⟨0x1000264 + 0x4000 * i + 0x4 * j, 0, 32⟩
/-- drec of PCH_RAT_DREC, RO. -/
def pchRatDrec_drec (i j : Nat) : Fld := ⟨0x1000264 + 0x4000 * i + 0x4 * j, 0, 32⟩
/-- HAL_STS (06_halyard_grants.md R151). -/
def halSts : Fld := ⟨0x1400000, 0, 32⟩
/-- spare_bld of HAL_STS, RO. -/
def halSts_spare_bld : Fld := ⟨0x1400000, 16, 2⟩
/-- spare_chk of HAL_STS, RO. -/
def halSts_spare_chk : Fld := ⟨0x1400000, 15, 1⟩
/-- slice_lost of HAL_STS, RO. -/
def halSts_slice_lost : Fld := ⟨0x1400000, 0, 8⟩
/-- HAL_SLICE (06_halyard_grants.md R151). -/
def halSlice (i : Nat) : Fld := ⟨0x1400010 + 0x4 * i, 0, 32⟩
/-- state of HAL_SLICE, RO. -/
def halSlice_state (i : Nat) : Fld := ⟨0x1400010 + 0x4 * i, 30, 2⟩
/-- chk of HAL_SLICE, RO. -/
def halSlice_chk (i : Nat) : Fld := ⟨0x1400010 + 0x4 * i, 16, 4⟩
/-- b2 of HAL_SLICE, RO. -/
def halSlice_b2 (i : Nat) : Fld := ⟨0x1400010 + 0x4 * i, 10, 5⟩
/-- b1 of HAL_SLICE, RO. -/
def halSlice_b1 (i : Nat) : Fld := ⟨0x1400010 + 0x4 * i, 5, 5⟩
/-- b0 of HAL_SLICE, RO. -/
def halSlice_b0 (i : Nat) : Fld := ⟨0x1400010 + 0x4 * i, 0, 5⟩
/-- HAL_RET (06_halyard_grants.md R151). -/
def halRet : Fld := ⟨0x1400030, 0, 32⟩
/-- retired of HAL_RET, RO. -/
def halRet_retired : Fld := ⟨0x1400030, 0, 26⟩
/-- HAL_CRET (06_halyard_grants.md R151). -/
def halCret : Fld := ⟨0x1400034, 0, 32⟩
/-- retired of HAL_CRET, RO. -/
def halCret_retired : Fld := ⟨0x1400034, 0, 9⟩
/-- HAL_TT_CFG (06_halyard_grants.md R151). -/
def halTtCfg : Fld := ⟨0x1400040, 0, 32⟩
/-- uplinks of HAL_TT_CFG, ST. -/
def halTtCfg_uplinks : Fld := ⟨0x1400040, 16, 16⟩
/-- etype of HAL_TT_CFG, ST. -/
def halTtCfg_etype : Fld := ⟨0x1400040, 0, 16⟩
/-- HAL_TT_CFG2 (06_halyard_grants.md R151). -/
def halTtCfg2 : Fld := ⟨0x1400044, 0, 32⟩
/-- secure of HAL_TT_CFG2, ST. -/
def halTtCfg2_secure : Fld := ⟨0x1400044, 8, 1⟩
/-- tt_onu_us of HAL_TT_CFG2, ST. -/
def halTtCfg2_tt_onu_us : Fld := ⟨0x1400044, 0, 8⟩
/-- HAL_TT_STS (06_halyard_grants.md R151). -/
def halTtSts : Fld := ⟨0x1400048, 0, 32⟩
/-- low_free of HAL_TT_STS, RC. -/
def halTtSts_low_free : Fld := ⟨0x1400048, 16, 13⟩
/-- free of HAL_TT_STS, RO. -/
def halTtSts_free : Fld := ⟨0x1400048, 0, 13⟩
/-- HAL_ALC_ADDR (06_halyard_grants.md R151). -/
def halAlcAddr : Fld := ⟨0x1400080, 0, 32⟩
/-- index of HAL_ALC_ADDR, RW. -/
def halAlcAddr_index : Fld := ⟨0x1400080, 0, 17⟩
/-- HAL_ALC_DATA0 (06_halyard_grants.md R151). -/
def halAlcData0 : Fld := ⟨0x1400084, 0, 32⟩
/-- valid of HAL_ALC_DATA0, RW. -/
def halAlcData0_valid : Fld := ⟨0x1400084, 31, 1⟩
/-- type of HAL_ALC_DATA0, RW. -/
def halAlcData0_type : Fld := ⟨0x1400084, 28, 3⟩
/-- profile of HAL_ALC_DATA0, RW. -/
def halAlcData0_profile : Fld := ⟨0x1400084, 26, 2⟩
/-- dbru of HAL_ALC_DATA0, RW. -/
def halAlcData0_dbru : Fld := ⟨0x1400084, 25, 1⟩
/-- tt_en of HAL_ALC_DATA0, RW. -/
def halAlcData0_tt_en : Fld := ⟨0x1400084, 24, 1⟩
/-- priority of HAL_ALC_DATA0, RW. -/
def halAlcData0_priority : Fld := ⟨0x1400084, 21, 3⟩
/-- xab of HAL_ALC_DATA0, RW. -/
def halAlcData0_xab : Fld := ⟨0x1400084, 19, 2⟩
/-- si_fixed of HAL_ALC_DATA0, RW. -/
def halAlcData0_si_fixed : Fld := ⟨0x1400084, 14, 4⟩
/-- alloc_id of HAL_ALC_DATA0, RW. -/
def halAlcData0_alloc_id : Fld := ⟨0x1400084, 0, 14⟩
/-- HAL_ALC_DATA1 (06_halyard_grants.md R151). -/
def halAlcData1 : Fld := ⟨0x1400088, 0, 32⟩
/-- weight of HAL_ALC_DATA1, RW. -/
def halAlcData1_weight : Fld := ⟨0x1400088, 24, 8⟩
/-- rf of HAL_ALC_DATA1, RW. -/
def halAlcData1_rf : Fld := ⟨0x1400088, 0, 24⟩
/-- HAL_ALC_DATA2 (06_halyard_grants.md R151). -/
def halAlcData2 : Fld := ⟨0x140008C, 0, 32⟩
/-- ra of HAL_ALC_DATA2, RW. -/
def halAlcData2_ra : Fld := ⟨0x140008C, 0, 24⟩
/-- HAL_ALC_DATA3 (06_halyard_grants.md R151). -/
def halAlcData3 : Fld := ⟨0x1400090, 0, 32⟩
/-- tt_ug of HAL_ALC_DATA3, RW. -/
def halAlcData3_tt_ug : Fld := ⟨0x1400090, 28, 4⟩
/-- tt_class of HAL_ALC_DATA3, RW. -/
def halAlcData3_tt_class : Fld := ⟨0x1400090, 25, 3⟩
/-- rm of HAL_ALC_DATA3, RW. -/
def halAlcData3_rm : Fld := ⟨0x1400090, 0, 24⟩
/-- HAL_ALC_DATA4 (06_halyard_grants.md R151). -/
def halAlcData4 : Fld := ⟨0x1400094, 0, 32⟩
/-- channel of HAL_ALC_DATA4, RW. -/
def halAlcData4_channel : Fld := ⟨0x1400094, 24, 8⟩
/-- onu of HAL_ALC_DATA4, RW. -/
def halAlcData4_onu : Fld := ⟨0x1400094, 0, 16⟩
/-- HAL_ALC_DATA5 (06_halyard_grants.md R151). -/
def halAlcData5 : Fld := ⟨0x1400098, 0, 32⟩
/-- b of HAL_ALC_DATA5, RO. -/
def halAlcData5_b : Fld := ⟨0x1400098, 0, 32⟩
/-- HAL_ALC_CMD (06_halyard_grants.md R151). -/
def halAlcCmd : Fld := ⟨0x140009C, 0, 32⟩
/-- result of HAL_ALC_CMD, RO. -/
def halAlcCmd_result : Fld := ⟨0x140009C, 5, 3⟩
/-- busy of HAL_ALC_CMD, RO. -/
def halAlcCmd_busy : Fld := ⟨0x140009C, 4, 1⟩
/-- op of HAL_ALC_CMD, WO. -/
def halAlcCmd_op : Fld := ⟨0x140009C, 0, 3⟩
/-- HAL_CAP_CTRL (06_halyard_grants.md R151). -/
def halCapCtrl : Fld := ⟨0x14000C0, 0, 32⟩
/-- arm of HAL_CAP_CTRL, WO. -/
def halCapCtrl_arm : Fld := ⟨0x14000C0, 8, 1⟩
/-- channel of HAL_CAP_CTRL, RW. -/
def halCapCtrl_channel : Fld := ⟨0x14000C0, 0, 8⟩
/-- HAL_CAP_STS (06_halyard_grants.md R151). -/
def halCapSts : Fld := ⟨0x14000C4, 0, 32⟩
/-- done of HAL_CAP_STS, RO. -/
def halCapSts_done : Fld := ⟨0x14000C4, 31, 1⟩
/-- held of HAL_CAP_STS, RO. -/
def halCapSts_held : Fld := ⟨0x14000C4, 30, 1⟩
/-- reason of HAL_CAP_STS, RO. -/
def halCapSts_reason : Fld := ⟨0x14000C4, 26, 4⟩
/-- epoch of HAL_CAP_STS, RO. -/
def halCapSts_epoch : Fld := ⟨0x14000C4, 10, 16⟩
/-- count of HAL_CAP_STS, RO. -/
def halCapSts_count : Fld := ⟨0x14000C4, 0, 10⟩
/-- HAL_CAP_IDX (06_halyard_grants.md R151). -/
def halCapIdx : Fld := ⟨0x14000C8, 0, 32⟩
/-- idx of HAL_CAP_IDX, RW. -/
def halCapIdx_idx : Fld := ⟨0x14000C8, 0, 9⟩
/-- HAL_CAP_LO (06_halyard_grants.md R151). -/
def halCapLo : Fld := ⟨0x14000CC, 0, 32⟩
/-- lo of HAL_CAP_LO, RO. -/
def halCapLo_lo : Fld := ⟨0x14000CC, 0, 32⟩
/-- HAL_CAP_HI (06_halyard_grants.md R151). -/
def halCapHi : Fld := ⟨0x14000D0, 0, 32⟩
/-- hi of HAL_CAP_HI, RO. -/
def halCapHi_hi : Fld := ⟨0x14000D0, 0, 32⟩
/-- HAL_CH_CFG (06_halyard_grants.md R151). -/
def halChCfg (i : Nat) : Fld := ⟨0x1410000 + 0x100 * i, 0, 32⟩
/-- ploamu_frames of HAL_CH_CFG, ST. -/
def halChCfg_ploamu_frames (i : Nat) : Fld := ⟨0x1410000 + 0x100 * i, 24, 8⟩
/-- poll_frames of HAL_CH_CFG, ST. -/
def halChCfg_poll_frames (i : Nat) : Fld := ⟨0x1410000 + 0x100 * i, 16, 8⟩
/-- guard_bits of HAL_CH_CFG, ST. -/
def halChCfg_guard_bits (i : Nat) : Fld := ⟨0x1410000 + 0x100 * i, 0, 11⟩
/-- HAL_CH_HOLD (06_halyard_grants.md R151). -/
def halChHold (i : Nat) : Fld := ⟨0x1410004 + 0x100 * i, 0, 32⟩
/-- ac_frames of HAL_CH_HOLD, ST. -/
def halChHold_ac_frames (i : Nat) : Fld := ⟨0x1410004 + 0x100 * i, 8, 8⟩
/-- hold_limit of HAL_CH_HOLD, ST. -/
def halChHold_hold_limit (i : Nat) : Fld := ⟨0x1410004 + 0x100 * i, 0, 8⟩
/-- HAL_CH_STS (06_halyard_grants.md R151). -/
def halChSts (i : Nat) : Fld := ⟨0x1410008 + 0x100 * i, 0, 32⟩
/-- last_reason of HAL_CH_STS, RO. -/
def halChSts_last_reason (i : Nat) : Fld := ⟨0x1410008 + 0x100 * i, 28, 4⟩
/-- faults of HAL_CH_STS, RO. -/
def halChSts_faults (i : Nat) : Fld := ⟨0x1410008 + 0x100 * i, 24, 4⟩
/-- hold_len of HAL_CH_STS, RO. -/
def halChSts_hold_len (i : Nat) : Fld := ⟨0x1410008 + 0x100 * i, 8, 8⟩
/-- stuck of HAL_CH_STS, RO. -/
def halChSts_stuck (i : Nat) : Fld := ⟨0x1410008 + 0x100 * i, 2, 1⟩
/-- holding of HAL_CH_STS, RO. -/
def halChSts_holding (i : Nat) : Fld := ⟨0x1410008 + 0x100 * i, 1, 1⟩
/-- building of HAL_CH_STS, RO. -/
def halChSts_building (i : Nat) : Fld := ⟨0x1410008 + 0x100 * i, 0, 1⟩
/-- HAL_CH_LEAD (06_halyard_grants.md R151). -/
def halChLead (i : Nat) : Fld := ⟨0x141000C + 0x100 * i, 0, 32⟩
/-- worst_lead of HAL_CH_LEAD, RC. -/
def halChLead_worst_lead (i : Nat) : Fld := ⟨0x141000C + 0x100 * i, 16, 16⟩
/-- last_lead of HAL_CH_LEAD, RO. -/
def halChLead_last_lead (i : Nat) : Fld := ⟨0x141000C + 0x100 * i, 0, 16⟩
/-- HAL_BP_CTL (06_halyard_grants.md R151). -/
def halBpCtl (i j : Nat) : Fld := ⟨0x1410020 + 0x100 * i + 0x14 * j, 0, 32⟩
/-- valid of HAL_BP_CTL, ST. -/
def halBpCtl_valid (i j : Nat) : Fld := ⟨0x1410020 + 0x100 * i + 0x14 * j, 31, 1⟩
/-- fec of HAL_BP_CTL, ST. -/
def halBpCtl_fec (i j : Nat) : Fld := ⟨0x1410020 + 0x100 * i + 0x14 * j, 16, 1⟩
/-- preamble of HAL_BP_CTL, ST. -/
def halBpCtl_preamble (i j : Nat) : Fld := ⟨0x1410020 + 0x100 * i + 0x14 * j, 0, 9⟩
/-- HAL_BP_PRE_LO (06_halyard_grants.md R151). -/
def halBpPreLo (i j : Nat) : Fld := ⟨0x1410024 + 0x100 * i + 0x14 * j, 0, 32⟩
/-- pre of HAL_BP_PRE_LO, ST. -/
def halBpPreLo_pre (i j : Nat) : Fld := ⟨0x1410024 + 0x100 * i + 0x14 * j, 0, 32⟩
/-- HAL_BP_PRE_HI (06_halyard_grants.md R151). -/
def halBpPreHi (i j : Nat) : Fld := ⟨0x1410028 + 0x100 * i + 0x14 * j, 0, 32⟩
/-- pre of HAL_BP_PRE_HI, ST. -/
def halBpPreHi_pre (i j : Nat) : Fld := ⟨0x1410028 + 0x100 * i + 0x14 * j, 0, 32⟩
/-- HAL_BP_DEL_LO (06_halyard_grants.md R151). -/
def halBpDelLo (i j : Nat) : Fld := ⟨0x141002C + 0x100 * i + 0x14 * j, 0, 32⟩
/-- del of HAL_BP_DEL_LO, ST. -/
def halBpDelLo_del (i j : Nat) : Fld := ⟨0x141002C + 0x100 * i + 0x14 * j, 0, 32⟩
/-- HAL_BP_DEL_HI (06_halyard_grants.md R151). -/
def halBpDelHi (i j : Nat) : Fld := ⟨0x1410030 + 0x100 * i + 0x14 * j, 0, 32⟩
/-- del of HAL_BP_DEL_HI, ST. -/
def halBpDelHi_del (i j : Nat) : Fld := ⟨0x1410030 + 0x100 * i + 0x14 * j, 0, 32⟩
/-- PRS_DEFAULT (07_parser_rules.md R171). -/
def prsDefault : Fld := ⟨0x1800000, 0, 32⟩
/-- err_drop of PRS_DEFAULT, ST. -/
def prsDefault_err_drop : Fld := ⟨0x1800000, 31, 1⟩
/-- class_src of PRS_DEFAULT, ST. -/
def prsDefault_class_src : Fld := ⟨0x1800000, 26, 2⟩
/-- hash_prof of PRS_DEFAULT, ST. -/
def prsDefault_hash_prof : Fld := ⟨0x1800000, 24, 2⟩
/-- class of PRS_DEFAULT, ST. -/
def prsDefault_class : Fld := ⟨0x1800000, 0, 3⟩
/-- PRS_TRAP (07_parser_rules.md R171). -/
def prsTrap : Fld := ⟨0x1800004, 0, 32⟩
/-- slow_en of PRS_TRAP, ST. -/
def prsTrap_slow_en : Fld := ⟨0x1800004, 31, 1⟩
/-- slow_q of PRS_TRAP, ST. -/
def prsTrap_slow_q : Fld := ⟨0x1800004, 0, 6⟩
/-- PRS_STS (07_parser_rules.md R171). -/
def prsSts : Fld := ⟨0x1800008, 0, 32⟩
/-- rules_valid of PRS_STS, RO. -/
def prsSts_rules_valid : Fld := ⟨0x1800008, 0, 17⟩
/-- PRS_GRAPH (07_parser_rules.md R171). -/
def prsGraph : Fld := ⟨0x180000C, 0, 32⟩
/-- ext of PRS_GRAPH, RO. -/
def prsGraph_ext : Fld := ⟨0x180000C, 21, 11⟩
/-- trans of PRS_GRAPH, RO. -/
def prsGraph_trans : Fld := ⟨0x180000C, 9, 12⟩
/-- nodes of PRS_GRAPH, RO. -/
def prsGraph_nodes : Fld := ⟨0x180000C, 0, 9⟩
/-- PRS_HASH_SEED (07_parser_rules.md R171). -/
def prsHashSeed (i : Nat) : Fld := ⟨0x1800010 + 0x4 * i, 0, 32⟩
/-- seed of PRS_HASH_SEED, ST. -/
def prsHashSeed_seed (i : Nat) : Fld := ⟨0x1800010 + 0x4 * i, 0, 32⟩
/-- PRS_HASH_PROF (07_parser_rules.md R171). -/
def prsHashProf (i : Nat) : Fld := ⟨0x1800020 + 0x4 * i, 0, 32⟩
/-- etype of PRS_HASH_PROF, ST. -/
def prsHashProf_etype (i : Nat) : Fld := ⟨0x1800020 + 0x4 * i, 8, 1⟩
/-- mpls of PRS_HASH_PROF, ST. -/
def prsHashProf_mpls (i : Nat) : Fld := ⟨0x1800020 + 0x4 * i, 7, 1⟩
/-- tun of PRS_HASH_PROF, ST. -/
def prsHashProf_tun (i : Nat) : Fld := ⟨0x1800020 + 0x4 * i, 6, 1⟩
/-- i_vid of PRS_HASH_PROF, ST. -/
def prsHashProf_i_vid (i : Nat) : Fld := ⟨0x1800020 + 0x4 * i, 5, 1⟩
/-- o_vid of PRS_HASH_PROF, ST. -/
def prsHashProf_o_vid (i : Nat) : Fld := ⟨0x1800020 + 0x4 * i, 4, 1⟩
/-- proto of PRS_HASH_PROF, ST. -/
def prsHashProf_proto (i : Nat) : Fld := ⟨0x1800020 + 0x4 * i, 3, 1⟩
/-- l4 of PRS_HASH_PROF, ST. -/
def prsHashProf_l4 (i : Nat) : Fld := ⟨0x1800020 + 0x4 * i, 2, 1⟩
/-- ip of PRS_HASH_PROF, ST. -/
def prsHashProf_ip (i : Nat) : Fld := ⟨0x1800020 + 0x4 * i, 1, 1⟩
/-- mac of PRS_HASH_PROF, ST. -/
def prsHashProf_mac (i : Nat) : Fld := ⟨0x1800020 + 0x4 * i, 0, 1⟩
/-- PRS_CMP_SEL (07_parser_rules.md R171). -/
def prsCmpSel (i : Nat) : Fld := ⟨0x1800100 + 0x8 * i, 0, 32⟩
/-- valid of PRS_CMP_SEL, ST. -/
def prsCmpSel_valid (i : Nat) : Fld := ⟨0x1800100 + 0x8 * i, 31, 1⟩
/-- field of PRS_CMP_SEL, ST. -/
def prsCmpSel_field (i : Nat) : Fld := ⟨0x1800100 + 0x8 * i, 0, 4⟩
/-- PRS_CMP_RANGE (07_parser_rules.md R171). -/
def prsCmpRange (i : Nat) : Fld := ⟨0x1800104 + 0x8 * i, 0, 32⟩
/-- hi of PRS_CMP_RANGE, ST. -/
def prsCmpRange_hi (i : Nat) : Fld := ⟨0x1800104 + 0x8 * i, 16, 16⟩
/-- lo of PRS_CMP_RANGE, ST. -/
def prsCmpRange_lo (i : Nat) : Fld := ⟨0x1800104 + 0x8 * i, 0, 16⟩
/-- PRS_RULE_ADDR (07_parser_rules.md R171). -/
def prsRuleAddr : Fld := ⟨0x1800200, 0, 32⟩
/-- index of PRS_RULE_ADDR, RW. -/
def prsRuleAddr_index : Fld := ⟨0x1800200, 0, 16⟩
/-- PRS_RULE_CMD (07_parser_rules.md R171). -/
def prsRuleCmd : Fld := ⟨0x1800204, 0, 32⟩
/-- result of PRS_RULE_CMD, RO. -/
def prsRuleCmd_result : Fld := ⟨0x1800204, 5, 3⟩
/-- busy of PRS_RULE_CMD, RO. -/
def prsRuleCmd_busy : Fld := ⟨0x1800204, 4, 1⟩
/-- op of PRS_RULE_CMD, WO. -/
def prsRuleCmd_op : Fld := ⟨0x1800204, 0, 3⟩
/-- PRS_LAG_ADDR (07_parser_rules.md R171). -/
def prsLagAddr : Fld := ⟨0x1800300, 0, 32⟩
/-- lag of PRS_LAG_ADDR, RW. -/
def prsLagAddr_lag : Fld := ⟨0x1800300, 8, 6⟩
/-- group of PRS_LAG_ADDR, RW. -/
def prsLagAddr_group : Fld := ⟨0x1800300, 0, 6⟩
/-- PRS_LAG_DATA (07_parser_rules.md R171). -/
def prsLagData : Fld := ⟨0x1800304, 0, 32⟩
/-- slots of PRS_LAG_DATA, RW. -/
def prsLagData_slots : Fld := ⟨0x1800304, 0, 32⟩
/-- PRS_LAG_CMD (07_parser_rules.md R171). -/
def prsLagCmd : Fld := ⟨0x1800308, 0, 32⟩
/-- result of PRS_LAG_CMD, RO. -/
def prsLagCmd_result : Fld := ⟨0x1800308, 5, 3⟩
/-- busy of PRS_LAG_CMD, RO. -/
def prsLagCmd_busy : Fld := ⟨0x1800308, 4, 1⟩
/-- op of PRS_LAG_CMD, WO. -/
def prsLagCmd_op : Fld := ⟨0x1800308, 0, 3⟩
/-- PRS_LAG_RET_LO (07_parser_rules.md R171). -/
def prsLagRetLo : Fld := ⟨0x1800310, 0, 32⟩
/-- lags of PRS_LAG_RET_LO, RO. -/
def prsLagRetLo_lags : Fld := ⟨0x1800310, 0, 32⟩
/-- PRS_LAG_RET_HI (07_parser_rules.md R171). -/
def prsLagRetHi : Fld := ⟨0x1800314, 0, 32⟩
/-- lags of PRS_LAG_RET_HI, RO. -/
def prsLagRetHi_lags : Fld := ⟨0x1800314, 0, 32⟩
/-- PRS_LAG_DOWN_LO (07_parser_rules.md R171). -/
def prsLagDownLo : Fld := ⟨0x1800318, 0, 32⟩
/-- lags of PRS_LAG_DOWN_LO, RO. -/
def prsLagDownLo_lags : Fld := ⟨0x1800318, 0, 32⟩
/-- PRS_LAG_DOWN_HI (07_parser_rules.md R171). -/
def prsLagDownHi : Fld := ⟨0x180031C, 0, 32⟩
/-- lags of PRS_LAG_DOWN_HI, RO. -/
def prsLagDownHi_lags : Fld := ⟨0x180031C, 0, 32⟩
/-- PRS_PORT_UP (07_parser_rules.md R171). -/
def prsPortUp (i : Nat) : Fld := ⟨0x1800320 + 0x4 * i, 0, 32⟩
/-- up of PRS_PORT_UP, RO. -/
def prsPortUp_up (i : Nat) : Fld := ⟨0x1800320 + 0x4 * i, 0, 32⟩
/-- PRS_RULE_DATA (07_parser_rules.md R171). -/
def prsRuleData (i : Nat) : Fld := ⟨0x1800400 + 0x4 * i, 0, 32⟩
/-- data of PRS_RULE_DATA, RW. -/
def prsRuleData_data (i : Nat) : Fld := ⟨0x1800400 + 0x4 * i, 0, 32⟩
/-- FWD_CTRL (08_forwarding_tables.md R182). -/
def fwdCtrl : Fld := ⟨0x1A00000, 0, 32⟩
/-- ager_en of FWD_CTRL, RW. -/
def fwdCtrl_ager_en : Fld := ⟨0x1A00000, 1, 1⟩
/-- learn_en of FWD_CTRL, RW. -/
def fwdCtrl_learn_en : Fld := ⟨0x1A00000, 0, 1⟩
/-- FWD_STS (08_forwarding_tables.md R182). -/
def fwdSts : Fld := ⟨0x1A00004, 0, 32⟩
/-- lq_fill of FWD_STS, RO. -/
def fwdSts_lq_fill : Fld := ⟨0x1A00004, 16, 14⟩
/-- ovf_used of FWD_STS, RO. -/
def fwdSts_ovf_used : Fld := ⟨0x1A00004, 0, 15⟩
/-- FWD_FLAP (08_forwarding_tables.md R182). -/
def fwdFlap : Fld := ⟨0x1A00008, 0, 32⟩
/-- flap_ms of FWD_FLAP, ST. -/
def fwdFlap_flap_ms : Fld := ⟨0x1A00008, 16, 16⟩
/-- flap_limit of FWD_FLAP, ST. -/
def fwdFlap_flap_limit : Fld := ⟨0x1A00008, 0, 4⟩
/-- FWD_PART_SEL (08_forwarding_tables.md R182). -/
def fwdPartSel : Fld := ⟨0x1A00010, 0, 32⟩
/-- part of FWD_PART_SEL, RW. -/
def fwdPartSel_part : Fld := ⟨0x1A00010, 0, 4⟩
/-- FWD_PART_USE (08_forwarding_tables.md R182). -/
def fwdPartUse : Fld := ⟨0x1A00014, 0, 32⟩
/-- ovf of FWD_PART_USE, RO. -/
def fwdPartUse_ovf : Fld := ⟨0x1A00014, 15, 15⟩
/-- FWD_PART_CNT (08_forwarding_tables.md R182). -/
def fwdPartCnt : Fld := ⟨0x1A00018, 0, 32⟩
/-- count of FWD_PART_CNT, RO. -/
def fwdPartCnt_count : Fld := ⟨0x1A00018, 0, 21⟩
/-- FWD_PORT_SEL (08_forwarding_tables.md R182). -/
def fwdPortSel : Fld := ⟨0x1A00020, 0, 32⟩
/-- port of FWD_PORT_SEL, RW. -/
def fwdPortSel_port : Fld := ⟨0x1A00020, 0, 9⟩
/-- FWD_PORT_STS (08_forwarding_tables.md R182). -/
def fwdPortSts : Fld := ⟨0x1A00024, 0, 32⟩
/-- at_limit of FWD_PORT_STS, RO. -/
def fwdPortSts_at_limit : Fld := ⟨0x1A00024, 31, 1⟩
/-- partition of FWD_PORT_STS, RO. -/
def fwdPortSts_partition : Fld := ⟨0x1A00024, 24, 4⟩
/-- no_part of FWD_PORT_STS, RO. -/
def fwdPortSts_no_part : Fld := ⟨0x1A00024, 23, 1⟩
/-- owned of FWD_PORT_STS, RO. -/
def fwdPortSts_owned : Fld := ⟨0x1A00024, 0, 20⟩
/-- FWD_ADDR (08_forwarding_tables.md R182). -/
def fwdAddr : Fld := ⟨0x1A00040, 0, 32⟩
/-- ovf of FWD_ADDR, RW. -/
def fwdAddr_ovf : Fld := ⟨0x1A00040, 31, 1⟩
/-- partition of FWD_ADDR, RW. -/
def fwdAddr_partition : Fld := ⟨0x1A00040, 24, 4⟩
/-- location of FWD_ADDR, RW. -/
def fwdAddr_location : Fld := ⟨0x1A00040, 0, 20⟩
/-- FWD_KEY_LO (08_forwarding_tables.md R182). -/
def fwdKeyLo : Fld := ⟨0x1A00044, 0, 32⟩
/-- key of FWD_KEY_LO, RW. -/
def fwdKeyLo_key : Fld := ⟨0x1A00044, 0, 32⟩
/-- FWD_KEY_HI (08_forwarding_tables.md R182). -/
def fwdKeyHi : Fld := ⟨0x1A00048, 0, 32⟩
/-- key of FWD_KEY_HI, RW. -/
def fwdKeyHi_key : Fld := ⟨0x1A00048, 0, 32⟩
/-- FWD_RES (08_forwarding_tables.md R182). -/
def fwdRes : Fld := ⟨0x1A0004C, 0, 32⟩
/-- res of FWD_RES, RW. -/
def fwdRes_res : Fld := ⟨0x1A0004C, 0, 32⟩
/-- FWD_STATE (08_forwarding_tables.md R182). -/
def fwdState : Fld := ⟨0x1A00050, 0, 32⟩
/-- state of FWD_STATE, RO. -/
def fwdState_state : Fld := ⟨0x1A00050, 0, 32⟩
/-- FWD_CMD (08_forwarding_tables.md R182). -/
def fwdCmd : Fld := ⟨0x1A00054, 0, 32⟩
/-- result of FWD_CMD, RO. -/
def fwdCmd_result : Fld := ⟨0x1A00054, 12, 3⟩
/-- scope of FWD_CMD, RW. -/
def fwdCmd_scope : Fld := ⟨0x1A00054, 10, 2⟩
/-- busy of FWD_CMD, RO. -/
def fwdCmd_busy : Fld := ⟨0x1A00054, 9, 1⟩
/-- op of FWD_CMD, WO. -/
def fwdCmd_op : Fld := ⟨0x1A00054, 0, 4⟩
/-- FAB_STS (09_fabric_and_buffers.md R211). -/
def fabSts : Fld := ⟨0x1C00000, 0, 32⟩
/-- banks_retired of FAB_STS, RO. -/
def fabSts_banks_retired : Fld := ⟨0x1C00000, 16, 8⟩
/-- reef_throttle of FAB_STS, RO. -/
def fabSts_reef_throttle : Fld := ⟨0x1C00000, 8, 1⟩
/-- FAB_CT_CFG (09_fabric_and_buffers.md R211). -/
def fabCtCfg : Fld := ⟨0x1C00010, 0, 32⟩
/-- ct_ulk of FAB_CT_CFG, ST. -/
def fabCtCfg_ct_ulk : Fld := ⟨0x1C00010, 1, 1⟩
/-- ct_pon of FAB_CT_CFG, ST. -/
def fabCtCfg_ct_pon : Fld := ⟨0x1C00010, 0, 1⟩
/-- FAB_VOQ_CAP (09_fabric_and_buffers.md R211). -/
def fabVoqCap : Fld := ⟨0x1C00014, 0, 32⟩
/-- cap of FAB_VOQ_CAP, ST. -/
def fabVoqCap_cap : Fld := ⟨0x1C00014, 0, 15⟩
/-- FAB_SPILL_CFG (09_fabric_and_buffers.md R211). -/
def fabSpillCfg : Fld := ⟨0x1C00018, 0, 32⟩
/-- reef_pct of FAB_SPILL_CFG, ST. -/
def fabSpillCfg_reef_pct : Fld := ⟨0x1C00018, 24, 8⟩
/-- refill_thr of FAB_SPILL_CFG, ST. -/
def fabSpillCfg_refill_thr : Fld := ⟨0x1C00018, 16, 8⟩
/-- spill_thr of FAB_SPILL_CFG, ST. -/
def fabSpillCfg_spill_thr : Fld := ⟨0x1C00018, 0, 16⟩
/-- FAB_SPILL_CAP (09_fabric_and_buffers.md R211). -/
def fabSpillCap : Fld := ⟨0x1C0001C, 0, 32⟩
/-- cap of FAB_SPILL_CAP, ST. -/
def fabSpillCap_cap : Fld := ⟨0x1C0001C, 0, 16⟩
/-- FAB_HOLD (09_fabric_and_buffers.md R211). -/
def fabHold : Fld := ⟨0x1C00020, 0, 32⟩
/-- hold_ms of FAB_HOLD, ST. -/
def fabHold_hold_ms : Fld := ⟨0x1C00020, 0, 14⟩
/-- FAB_POOL_SEL (09_fabric_and_buffers.md R211). -/
def fabPoolSel : Fld := ⟨0x1C00040, 0, 32⟩
/-- pool of FAB_POOL_SEL, RW. -/
def fabPoolSel_pool : Fld := ⟨0x1C00040, 0, 3⟩
/-- FAB_POOL_STS (09_fabric_and_buffers.md R211). -/
def fabPoolSts : Fld := ⟨0x1C00044, 0, 32⟩
/-- waiting of FAB_POOL_STS, RO. -/
def fabPoolSts_waiting : Fld := ⟨0x1C00044, 31, 1⟩
/-- free of FAB_POOL_STS, RO. -/
def fabPoolSts_free : Fld := ⟨0x1C00044, 0, 21⟩
/-- FAB_POOL_LOW (09_fabric_and_buffers.md R211). -/
def fabPoolLow : Fld := ⟨0x1C00048, 0, 32⟩
/-- low of FAB_POOL_LOW, RC. -/
def fabPoolLow_low : Fld := ⟨0x1C00048, 0, 21⟩
/-- FAB_POOL_SIZE (09_fabric_and_buffers.md R211). -/
def fabPoolSize : Fld := ⟨0x1C0004C, 0, 32⟩
/-- size of FAB_POOL_SIZE, RO. -/
def fabPoolSize_size : Fld := ⟨0x1C0004C, 0, 21⟩
/-- FAB_CLASS_SEL (09_fabric_and_buffers.md R211). -/
def fabClassSel : Fld := ⟨0x1C00050, 0, 32⟩
/-- class of FAB_CLASS_SEL, RW. -/
def fabClassSel_class : Fld := ⟨0x1C00050, 0, 3⟩
/-- FAB_CLASS_USE (09_fabric_and_buffers.md R211). -/
def fabClassUse : Fld := ⟨0x1C00054, 0, 32⟩
/-- use of FAB_CLASS_USE, RO. -/
def fabClassUse_use : Fld := ⟨0x1C00054, 0, 20⟩
/-- FAB_SHARED (09_fabric_and_buffers.md R211). -/
def fabShared : Fld := ⟨0x1C00058, 0, 32⟩
/-- free of FAB_SHARED, RO. -/
def fabShared_free : Fld := ⟨0x1C00058, 0, 20⟩
/-- FAB_PORT_SEL (09_fabric_and_buffers.md R211). -/
def fabPortSel : Fld := ⟨0x1C00060, 0, 32⟩
/-- port of FAB_PORT_SEL, RW. -/
def fabPortSel_port : Fld := ⟨0x1C00060, 0, 9⟩
/-- FAB_PORT_STS (09_fabric_and_buffers.md R211). -/
def fabPortSts : Fld := ⟨0x1C00064, 0, 32⟩
/-- state of FAB_PORT_STS, RO. -/
def fabPortSts_state : Fld := ⟨0x1C00064, 30, 2⟩
/-- hold_left of FAB_PORT_STS, RO. -/
def fabPortSts_hold_left : Fld := ⟨0x1C00064, 0, 14⟩
/-- FAB_PORT_Q (09_fabric_and_buffers.md R211). -/
def fabPortQ : Fld := ⟨0x1C00068, 0, 32⟩
/-- cells of FAB_PORT_Q, RO. -/
def fabPortQ_cells : Fld := ⟨0x1C00068, 0, 20⟩
/-- FAB_BANK_RET (09_fabric_and_buffers.md R211). -/
def fabBankRet (i : Nat) : Fld := ⟨0x1C00070 + 0x4 * i, 0, 32⟩
/-- banks of FAB_BANK_RET, RO. -/
def fabBankRet_banks (i : Nat) : Fld := ⟨0x1C00070 + 0x4 * i, 0, 32⟩
/-- FAB_XBAR_ERR (09_fabric_and_buffers.md R211). -/
def fabXbarErr : Fld := ⟨0x1C00090, 0, 32⟩
/-- retries of FAB_XBAR_ERR, RC. -/
def fabXbarErr_retries : Fld := ⟨0x1C00090, 0, 16⟩
/-- SHT_STS (10_sheet_scheduler.md R223). -/
def shtSts : Fld := ⟨0x2000000, 0, 32⟩
/-- gates_pending of SHT_STS, RO. -/
def shtSts_gates_pending : Fld := ⟨0x2000000, 16, 16⟩
/-- pfc_storm of SHT_STS, RO. -/
def shtSts_pfc_storm : Fld := ⟨0x2000000, 0, 16⟩
/-- SHT_PFC_CFG (10_sheet_scheduler.md R223). -/
def shtPfcCfg : Fld := ⟨0x2000010, 0, 32⟩
/-- storm_ms of SHT_PFC_CFG, ST. -/
def shtPfcCfg_storm_ms : Fld := ⟨0x2000010, 28, 4⟩
/-- refresh_us of SHT_PFC_CFG, ST. -/
def shtPfcCfg_refresh_us : Fld := ⟨0x2000010, 16, 12⟩
/-- quanta of SHT_PFC_CFG, ST. -/
def shtPfcCfg_quanta : Fld := ⟨0x2000010, 0, 16⟩
/-- SHT_SOJ_THR (10_sheet_scheduler.md R223). -/
def shtSojThr : Fld := ⟨0x2000014, 0, 32⟩
/-- thr_ul of SHT_SOJ_THR, ST. -/
def shtSojThr_thr_ul : Fld := ⟨0x2000014, 16, 16⟩
/-- thr_fl of SHT_SOJ_THR, ST. -/
def shtSojThr_thr_fl : Fld := ⟨0x2000014, 0, 16⟩
/-- SHT_NODE_ADDR (10_sheet_scheduler.md R223). -/
def shtNodeAddr : Fld := ⟨0x2000100, 0, 32⟩
/-- level of SHT_NODE_ADDR, RW. -/
def shtNodeAddr_level : Fld := ⟨0x2000100, 24, 3⟩
/-- index of SHT_NODE_ADDR, RW. -/
def shtNodeAddr_index : Fld := ⟨0x2000100, 0, 19⟩
/-- SHT_NODE_DATA (10_sheet_scheduler.md R223). -/
def shtNodeData (i : Nat) : Fld := ⟨0x2000104 + 0x4 * i, 0, 32⟩
/-- data of SHT_NODE_DATA, RW. -/
def shtNodeData_data (i : Nat) : Fld := ⟨0x2000104 + 0x4 * i, 0, 32⟩
/-- SHT_NODE_CMD (10_sheet_scheduler.md R223). -/
def shtNodeCmd : Fld := ⟨0x2000120, 0, 32⟩
/-- result of SHT_NODE_CMD, RO. -/
def shtNodeCmd_result : Fld := ⟨0x2000120, 5, 3⟩
/-- busy of SHT_NODE_CMD, RO. -/
def shtNodeCmd_busy : Fld := ⟨0x2000120, 4, 1⟩
/-- op of SHT_NODE_CMD, WO. -/
def shtNodeCmd_op : Fld := ⟨0x2000120, 0, 3⟩
/-- SHT_QS_ADDR (10_sheet_scheduler.md R223). -/
def shtQsAddr : Fld := ⟨0x2000140, 0, 32⟩
/-- kind of SHT_QS_ADDR, RW. -/
def shtQsAddr_kind : Fld := ⟨0x2000140, 19, 1⟩
/-- index of SHT_QS_ADDR, RW. -/
def shtQsAddr_index : Fld := ⟨0x2000140, 0, 18⟩
/-- SHT_QS_CMD (10_sheet_scheduler.md R223). -/
def shtQsCmd : Fld := ⟨0x2000144, 0, 32⟩
/-- busy of SHT_QS_CMD, RO. -/
def shtQsCmd_busy : Fld := ⟨0x2000144, 4, 1⟩
/-- op of SHT_QS_CMD, WO. -/
def shtQsCmd_op : Fld := ⟨0x2000144, 0, 2⟩
/-- SHT_QS_DEPTH (10_sheet_scheduler.md R223). -/
def shtQsDepth : Fld := ⟨0x2000148, 0, 32⟩
/-- depth of SHT_QS_DEPTH, RO. -/
def shtQsDepth_depth : Fld := ⟨0x2000148, 0, 32⟩
/-- SHT_QS_DMAX (10_sheet_scheduler.md R223). -/
def shtQsDmax : Fld := ⟨0x200014C, 0, 32⟩
/-- dmax of SHT_QS_DMAX, RO. -/
def shtQsDmax_dmax : Fld := ⟨0x200014C, 0, 32⟩
/-- SHT_QS_SOJ (10_sheet_scheduler.md R223). -/
def shtQsSoj : Fld := ⟨0x2000150, 0, 32⟩
/-- soj of SHT_QS_SOJ, RO. -/
def shtQsSoj_soj : Fld := ⟨0x2000150, 0, 32⟩
/-- SHT_QS_SMAX (10_sheet_scheduler.md R223). -/
def shtQsSmax : Fld := ⟨0x2000154, 0, 32⟩
/-- smax of SHT_QS_SMAX, RO. -/
def shtQsSmax_smax : Fld := ⟨0x2000154, 0, 32⟩
/-- SHT_GATE_SEL (10_sheet_scheduler.md R223). -/
def shtGateSel : Fld := ⟨0x2000200, 0, 32⟩
/-- group of SHT_GATE_SEL, RW. -/
def shtGateSel_group : Fld := ⟨0x2000200, 0, 4⟩
/-- SHT_GATE_BASE_LO (10_sheet_scheduler.md R223). -/
def shtGateBaseLo : Fld := ⟨0x2000204, 0, 32⟩
/-- sec of SHT_GATE_BASE_LO, ST. -/
def shtGateBaseLo_sec : Fld := ⟨0x2000204, 0, 32⟩
/-- SHT_GATE_BASE_HI (10_sheet_scheduler.md R223). -/
def shtGateBaseHi : Fld := ⟨0x2000208, 0, 32⟩
/-- sec of SHT_GATE_BASE_HI, ST. -/
def shtGateBaseHi_sec : Fld := ⟨0x2000208, 0, 16⟩
/-- SHT_GATE_BASE_NS (10_sheet_scheduler.md R223). -/
def shtGateBaseNs : Fld := ⟨0x200020C, 0, 32⟩
/-- ns of SHT_GATE_BASE_NS, ST. -/
def shtGateBaseNs_ns : Fld := ⟨0x200020C, 0, 30⟩
/-- SHT_GATE_CYCLE (10_sheet_scheduler.md R223). -/
def shtGateCycle : Fld := ⟨0x2000210, 0, 32⟩
/-- cycle of SHT_GATE_CYCLE, ST. -/
def shtGateCycle_cycle : Fld := ⟨0x2000210, 0, 30⟩
/-- SHT_GATE_LEN (10_sheet_scheduler.md R223). -/
def shtGateLen : Fld := ⟨0x2000214, 0, 32⟩
/-- entries of SHT_GATE_LEN, ST. -/
def shtGateLen_entries : Fld := ⟨0x2000214, 0, 9⟩
/-- SHT_GCL_IDX (10_sheet_scheduler.md R223). -/
def shtGclIdx : Fld := ⟨0x2000218, 0, 32⟩
/-- idx of SHT_GCL_IDX, RW. -/
def shtGclIdx_idx : Fld := ⟨0x2000218, 0, 8⟩
/-- SHT_GCL_DATA (10_sheet_scheduler.md R223). -/
def shtGclData : Fld := ⟨0x200021C, 0, 32⟩
/-- gates of SHT_GCL_DATA, ST. -/
def shtGclData_gates : Fld := ⟨0x200021C, 24, 8⟩
/-- interval of SHT_GCL_DATA, ST. -/
def shtGclData_interval : Fld := ⟨0x200021C, 0, 24⟩
/-- SHT_GATE_STS (10_sheet_scheduler.md R223). -/
def shtGateSts : Fld := ⟨0x2000220, 0, 32⟩
/-- active of SHT_GATE_STS, RO. -/
def shtGateSts_active : Fld := ⟨0x2000220, 31, 1⟩
/-- pending of SHT_GATE_STS, RO. -/
def shtGateSts_pending : Fld := ⟨0x2000220, 30, 1⟩
/-- gates of SHT_GATE_STS, RO. -/
def shtGateSts_gates : Fld := ⟨0x2000220, 9, 8⟩
/-- entry of SHT_GATE_STS, RO. -/
def shtGateSts_entry : Fld := ⟨0x2000220, 0, 9⟩
/-- SHT_PFC_SA_LO (10_sheet_scheduler.md R223). -/
def shtPfcSaLo : Fld := ⟨0x2000228, 0, 32⟩
/-- sa of SHT_PFC_SA_LO, ST. -/
def shtPfcSaLo_sa : Fld := ⟨0x2000228, 0, 32⟩
/-- SHT_PFC_SA_HI (10_sheet_scheduler.md R223). -/
def shtPfcSaHi : Fld := ⟨0x200022C, 0, 32⟩
/-- sa of SHT_PFC_SA_HI, ST. -/
def shtPfcSaHi_sa : Fld := ⟨0x200022C, 0, 16⟩

end Sys2Proof.Machine.F
end

