-- ==== Sys2Proof/Machine/Counters.lean ====
section
/-! DEFINITION. The Crow's nest counters, from the counter tables of the chapters, numbered within each block as R359 numbers
them. A counter array is named by its block code (R21), its number and its kept-for position. -/

namespace Sys2Proof.Machine

/-- One counter array (R359): block code, counter number, kept-for position, instances, sub-count, and whether it is wide. -/
structure Ctr where
  block : Nat
  num : Nat
  pos : Nat
  insts : Nat
  subs : Nat
  wide : Bool
deriving DecidableEq, Repr

namespace Cn

/-- reef_entries, kept for Device (R385). -/
def reefEntries : Ctr := ⟨1, 0, 0, 1, 1, false⟩
/-- reef_time_us, kept for Device (R385). -/
def reefTimeUs : Ctr := ⟨1, 1, 0, 1, 1, false⟩
/-- supply_resets, kept for Device (R385). -/
def supplyResets : Ctr := ⟨1, 2, 0, 1, 1, false⟩
/-- thermal_resets, kept for Device (R385). -/
def thermalResets : Ctr := ⟨1, 3, 0, 1, 1, false⟩
/-- ladder_faults, kept for Class of R380 (R385). -/
def ladderFaults : Ctr := ⟨1, 4, 0, 1, 11, false⟩
/-- ladder_reef, kept for Class of R380 (R385). -/
def ladderReef : Ctr := ⟨1, 5, 0, 1, 11, false⟩
/-- retirements, kept for Class of R380 (R385). -/
def retirements : Ctr := ⟨1, 6, 0, 1, 11, false⟩
/-- unretirements, kept for Class of R380 (R385). -/
def unretirements : Ctr := ⟨1, 7, 0, 1, 11, false⟩
/-- drain_discard, kept for Device (R408). -/
def drainDiscard : Ctr := ⟨2, 0, 0, 1, 1, false⟩
/-- dma_tx_pkts, kept for Queue pair (R364). -/
def dmaTxPkts : Ctr := ⟨3, 0, 0, 64, 1, false⟩
/-- dma_tx_bad, kept for Queue pair (R364). -/
def dmaTxBad : Ctr := ⟨3, 1, 0, 64, 1, false⟩
/-- dma_rx_pkts, kept for Queue pair (R364). -/
def dmaRxPkts : Ctr := ⟨3, 2, 0, 64, 1, false⟩
/-- dma_rx_nobuf, kept for Queue pair (R364). -/
def dmaRxNobuf : Ctr := ⟨3, 3, 0, 64, 1, false⟩
/-- dma_rx_toolong, kept for Queue pair (R364). -/
def dmaRxToolong : Ctr := ⟨3, 4, 0, 64, 1, false⟩
/-- omci_mic_err, kept for Device (R364). -/
def omciMicErr : Ctr := ⟨3, 5, 0, 1, 1, false⟩
/-- mbx_ovf, kept for Mailbox channel (R364). -/
def mbxOvf : Ctr := ⟨3, 6, 0, 16, 1, false⟩
/-- evq_drop, kept for Device (R364). -/
def evqDrop : Ctr := ⟨3, 7, 0, 1, 1, false⟩
/-- event_posted, kept for Event code, as block code × 256 + low byte for the codes of R21 (R364). -/
def eventPosted : Ctr := ⟨3, 8, 0, 8448, 1, false⟩
/-- snap_done, kept for Device (R364). -/
def snapDone : Ctr := ⟨4, 0, 0, 1, 1, false⟩
/-- tsq_entries, kept for Uplink group (R273). -/
def tsqEntries : Ctr := ⟨5, 0, 0, 16, 1, false⟩
/-- tsq_drop, kept for Uplink group (R273). -/
def tsqDrop : Ctr := ⟨5, 1, 0, 16, 1, false⟩
/-- pps_in_edges, kept for Device (R273). -/
def ppsInEdges : Ctr := ⟨5, 2, 0, 1, 1, false⟩
/-- todo_skipped, kept for Device (R273). -/
def todoSkipped : Ctr := ⟨5, 3, 0, 1, 1, false⟩
/-- todi_overflow, kept for Device (R273). -/
def todiOverflow : Ctr := ⟨5, 4, 0, 1, 1, false⟩
/-- mem_ce, kept for Memory (R337). -/
def memCe : Ctr := ⟨6, 0, 0, 20, 1, false⟩
/-- mem_ue, kept for Memory (R337). -/
def memUe : Ctr := ⟨6, 1, 0, 20, 1, false⟩
/-- mem_poison_drop, kept for Egress port (R337). -/
def memPoisonDrop : Ctr := ⟨6, 2, 0, 512, 1, false⟩
/-- mem_poison_msg, kept for Device (R337). -/
def memPoisonMsg : Ctr := ⟨6, 3, 0, 1, 1, false⟩
/-- scrub_passes, kept for Memory (R337). -/
def scrubPasses : Ctr := ⟨6, 4, 0, 20, 1, false⟩
/-- mem_spared, kept for Memory (R337). -/
def memSpared : Ctr := ⟨6, 5, 0, 20, 1, false⟩
/-- flash_corr, kept for Device (R337). -/
def flashCorr : Ctr := ⟨6, 6, 0, 1, 1, false⟩
/-- jnl_records, kept for Device (R337). -/
def jnlRecords : Ctr := ⟨6, 7, 0, 1, 1, false⟩
/-- jnl_drop, kept for Device (R337). -/
def jnlDrop : Ctr := ⟨6, 8, 0, 1, 1, false⟩
/-- jnl_bad, kept for Device (R337). -/
def jnlBad : Ctr := ⟨6, 9, 0, 1, 1, false⟩
/-- mate_hb_tx, kept for Device (R315). -/
def mateHbTx : Ctr := ⟨7, 0, 0, 1, 1, false⟩
/-- mate_hb_rx, kept for Device (R315). -/
def mateHbRx : Ctr := ⟨7, 1, 0, 1, 1, false⟩
/-- mate_msg_tx, kept for Message type (R315). -/
def mateMsgTx : Ctr := ⟨7, 2, 0, 256, 1, false⟩
/-- mate_msg_rx, kept for Message type (R315). -/
def mateMsgRx : Ctr := ⟨7, 3, 0, 256, 1, false⟩
/-- mate_map_reject, kept for Channel (R315). -/
def mateMapReject : Ctr := ⟨7, 4, 0, 256, 1, false⟩
/-- mate_learn_full, kept for Device (R315). -/
def mateLearnFull : Ctr := ⟨7, 5, 0, 1, 1, false⟩
/-- mate_switchover, kept for Cause of MATE_LAST (R315). -/
def mateSwitchover : Ctr := ⟨7, 6, 0, 1, 16, false⟩
/-- shr_no_root, kept for Device (R256). -/
def shrNoRoot : Ctr := ⟨8, 0, 0, 1, 1, false⟩
/-- shr_no_lane, kept for Device (R256). -/
def shrNoLane : Ctr := ⟨8, 1, 0, 1, 1, false⟩
/-- shr_fault_drop, kept for Device (R256). -/
def shrFaultDrop : Ctr := ⟨8, 2, 0, 1, 1, false⟩
/-- shr_no_key, kept for Channel (R256). -/
def shrNoKey : Ctr := ⟨8, 3, 0, 256, 1, false⟩
/-- shr_lane_fault, kept for Physical lane (R256). -/
def shrLaneFault : Ctr := ⟨8, 4, 0, 18, 1, false⟩
/-- macsec_tx_protected, kept for Uplink port (R256). -/
def macsecTxProtected : Ctr := ⟨8, 5, 0, 128, 1, false⟩
/-- macsec_rx_ok, kept for Uplink port (R256). -/
def macsecRxOk : Ctr := ⟨8, 6, 0, 128, 1, false⟩
/-- macsec_rx_late, kept for Uplink port (R256). -/
def macsecRxLate : Ctr := ⟨8, 7, 0, 128, 1, false⟩
/-- macsec_rx_notvalid, kept for Uplink port (R256). -/
def macsecRxNotvalid : Ctr := ⟨8, 8, 0, 128, 1, false⟩
/-- macsec_rx_nosa, kept for Uplink port (R256). -/
def macsecRxNosa : Ctr := ⟨8, 9, 0, 128, 1, false⟩
/-- macsec_rx_untagged, kept for Uplink port (R256). -/
def macsecRxUntagged : Ctr := ⟨8, 10, 0, 128, 1, false⟩
/-- macsec_pn_exhausted, kept for Uplink port (R256). -/
def macsecPnExhausted : Ctr := ⟨8, 11, 0, 128, 1, false⟩
/-- lane_lock_loss, kept for Lane (R297). -/
def laneLockLoss : Ctr := ⟨9, 0, 0, 649, 1, false⟩
/-- lane_freeze, kept for Lane (R297). -/
def laneFreeze : Ctr := ⟨9, 1, 0, 649, 1, false⟩
/-- lane_restore, kept for Lane (R297). -/
def laneRestore : Ctr := ⟨9, 2, 0, 649, 1, false⟩
/-- lane_fault, kept for Lane (R297). -/
def laneFault : Ctr := ⟨9, 3, 0, 649, 1, false⟩
/-- sl_stuff_err, kept for SLD lane (R297). -/
def slStuffErr : Ctr := ⟨9, 4, 0, 8, 1, false⟩
/-- sl_hcs_err, kept for SLD lane (R297). -/
def slHcsErr : Ctr := ⟨9, 5, 0, 8, 1, false⟩
/-- sl_fill_del, kept for Device (R297). -/
def slFillDel : Ctr := ⟨9, 6, 0, 1, 1, false⟩
/-- sl_fill_ins, kept for Device (R297). -/
def slFillIns : Ctr := ⟨9, 7, 0, 1, 1, false⟩
/-- sl_tag_err, kept for Device (R297). -/
def slTagErr : Ctr := ⟨9, 8, 0, 1, 1, false⟩
/-- sl_seq_gap, kept for Device (R297). -/
def slSeqGap : Ctr := ⟨9, 9, 0, 1, 1, false⟩
/-- sl_bad_type, kept for Device (R297). -/
def slBadType : Ctr := ⟨9, 10, 0, 1, 1, false⟩
/-- sl_msg_tx, kept for Device (R297). -/
def slMsgTx : Ctr := ⟨9, 11, 0, 1, 1, false⟩
/-- sl_msg_rx, kept for Device (R297). -/
def slMsgRx : Ctr := ⟨9, 12, 0, 1, 1, false⟩
/-- ds_frames, kept for Channel (R85). -/
def dsFrames : Ctr := ⟨10, 0, 0, 256, 1, false⟩
/-- ds_idle_bytes, kept for Channel (R85). -/
def dsIdleBytes : Ctr := ⟨10, 1, 0, 256, 1, true⟩
/-- ds_xgem, kept for Channel (R85). -/
def dsXgem : Ctr := ⟨10, 2, 0, 256, 1, false⟩
/-- ds_ploam, kept for Channel (R85). -/
def dsPloam : Ctr := ⟨10, 3, 0, 256, 1, false⟩
/-- ds_oversize, kept for Channel (R85). -/
def dsOversize : Ctr := ⟨10, 4, 0, 256, 1, false⟩
/-- ds_no_record, kept for Channel (R85). -/
def dsNoRecord : Ctr := ⟨10, 5, 0, 256, 1, false⟩
/-- ds_frag_abort, kept for Channel (R85). -/
def dsFragAbort : Ctr := ⟨10, 6, 0, 256, 1, false⟩
/-- ds_retired_discard, kept for Channel (R85). -/
def dsRetiredDiscard : Ctr := ⟨10, 7, 0, 256, 1, false⟩
/-- us_bursts, kept for Channel (R108). -/
def usBurstsCh : Ctr := ⟨10, 8, 0, 256, 1, false⟩
/-- us_bursts, kept for ONU (R108). -/
def usBurstsOnu : Ctr := ⟨10, 8, 1, 65536, 1, false⟩
/-- us_missed, kept for Channel (R108). -/
def usMissedCh : Ctr := ⟨10, 9, 0, 256, 1, false⟩
/-- us_missed, kept for ONU (R108). -/
def usMissedOnu : Ctr := ⟨10, 9, 1, 65536, 1, false⟩
/-- us_errored, kept for Channel (R108). -/
def usErroredCh : Ctr := ⟨10, 10, 0, 256, 1, false⟩
/-- us_errored, kept for ONU (R108). -/
def usErroredOnu : Ctr := ⟨10, 10, 1, 65536, 1, false⟩
/-- us_bip_bits, kept for ONU (R108). -/
def usBipBits : Ctr := ⟨10, 11, 0, 65536, 1, true⟩
/-- us_fec_corr, kept for ONU (R108). -/
def usFecCorr : Ctr := ⟨10, 12, 0, 65536, 1, false⟩
/-- us_fec_uncorr, kept for ONU (R108). -/
def usFecUncorr : Ctr := ⟨10, 13, 0, 65536, 1, false⟩
/-- us_fec_drop, kept for Channel (R108). -/
def usFecDrop : Ctr := ⟨10, 14, 0, 256, 1, false⟩
/-- us_xgem_hec, kept for Channel (R108). -/
def usXgemHec : Ctr := ⟨10, 15, 0, 256, 1, false⟩
/-- us_dbru_err, kept for Channel (R108). -/
def usDbruErr : Ctr := ⟨10, 16, 0, 256, 1, false⟩
/-- us_ploam_mic, kept for Channel (R108). -/
def usPloamMicCh : Ctr := ⟨10, 17, 0, 256, 1, false⟩
/-- us_ploam_mic, kept for ONU (R108). -/
def usPloamMicOnu : Ctr := ⟨10, 17, 1, 65536, 1, false⟩
/-- us_ploam_unsup, kept for Channel (R108). -/
def usPloamUnsup : Ctr := ⟨10, 18, 0, 256, 1, false⟩
/-- us_inactive, kept for Channel (R108). -/
def usInactive : Ctr := ⟨10, 19, 0, 256, 1, false⟩
/-- us_no_record, kept for Channel (R108). -/
def usNoRecord : Ctr := ⟨10, 20, 0, 256, 1, false⟩
/-- us_port_mismatch, kept for Channel (R108). -/
def usPortMismatch : Ctr := ⟨10, 21, 0, 256, 1, false⟩
/-- us_key_err, kept for Channel (R108). -/
def usKeyErr : Ctr := ⟨10, 22, 0, 256, 1, false⟩
/-- us_reasm_abort, kept for Channel (R108). -/
def usReasmAbort : Ctr := ⟨10, 23, 0, 256, 1, false⟩
/-- us_oversize, kept for Channel (R108). -/
def usOversize : Ctr := ⟨10, 24, 0, 256, 1, false⟩
/-- us_runt, kept for Channel (R108). -/
def usRunt : Ctr := ⟨10, 25, 0, 256, 1, false⟩
/-- us_preset_reject, kept for ONU (R108). -/
def usPresetReject : Ctr := ⟨10, 26, 0, 65536, 1, false⟩
/-- us_rogue_obs, kept for Channel (R108). -/
def usRogueObs : Ctr := ⟨10, 27, 0, 256, 1, false⟩
/-- onu_es, kept for ONU (R108). -/
def onuEs : Ctr := ⟨10, 28, 0, 65536, 1, false⟩
/-- onu_ses, kept for ONU (R108). -/
def onuSes : Ctr := ⟨10, 29, 0, 65536, 1, false⟩
/-- onu_uas, kept for ONU (R108). -/
def onuUas : Ctr := ⟨10, 30, 0, 65536, 1, false⟩
/-- pm_lost, kept for Channel (R108). -/
def pmLost : Ctr := ⟨10, 31, 0, 256, 1, false⟩
/-- ais_tx, kept for Channel (R108). -/
def aisTx : Ctr := ⟨10, 32, 0, 256, 1, false⟩
/-- ais_drop, kept for Channel (R108). -/
def aisDrop : Ctr := ⟨10, 33, 0, 256, 1, false⟩
/-- disc_windows, kept for Channel (R131). -/
def discWindows : Ctr := ⟨10, 34, 0, 256, 1, false⟩
/-- disc_responses, kept for Channel (R131). -/
def discResponses : Ctr := ⟨10, 35, 0, 256, 1, false⟩
/-- disc_collision, kept for Channel (R131). -/
def discCollision : Ctr := ⟨10, 36, 0, 256, 1, false⟩
/-- disc_overflow, kept for Channel (R131). -/
def discOverflow : Ctr := ⟨10, 37, 0, 256, 1, false⟩
/-- rng_tries, kept for Channel (R131). -/
def rngTries : Ctr := ⟨10, 38, 0, 256, 1, false⟩
/-- rng_no_response, kept for Channel (R131). -/
def rngNoResponse : Ctr := ⟨10, 39, 0, 256, 1, false⟩
/-- rng_out_of_reach, kept for Channel (R131). -/
def rngOutOfReach : Ctr := ⟨10, 40, 0, 256, 1, false⟩
/-- eqd_updates, kept for Channel (R131). -/
def eqdUpdates : Ctr := ⟨10, 41, 0, 256, 1, false⟩
/-- map_accepted, kept for Channel (R160). -/
def mapAccepted : Ctr := ⟨11, 0, 0, 256, 1, false⟩
/-- map_held, kept for Channel (R160). -/
def mapHeld : Ctr := ⟨11, 1, 0, 256, 11, false⟩
/-- grant_bytes, kept for Alloc (R160). -/
def grantBytes : Ctr := ⟨11, 2, 0, 131072, 1, true⟩
/-- fixed_defer, kept for Channel (R160). -/
def fixedDefer : Ctr := ⟨11, 3, 0, 256, 1, false⟩
/-- disc_unprotected, kept for Channel (R160). -/
def discUnprotected : Ctr := ⟨11, 4, 0, 256, 1, false⟩
/-- bld_fault, kept for Device (R160). -/
def bldFault : Ctr := ⟨11, 5, 0, 1, 1, false⟩
/-- chk_fault, kept for Device (R160). -/
def chkFault : Ctr := ⟨11, 6, 0, 1, 1, false⟩
/-- tt_taken, kept for Device (R160). -/
def ttTaken : Ctr := ⟨11, 7, 0, 1, 1, false⟩
/-- tt_bad, kept for Device (R160). -/
def ttBad : Ctr := ⟨11, 8, 0, 1, 1, false⟩
/-- tt_full, kept for Device (R160). -/
def ttFull : Ctr := ⟨11, 9, 0, 1, 1, false⟩
/-- tt_placed, kept for Channel (R160). -/
def ttPlaced : Ctr := ⟨11, 10, 0, 256, 1, false⟩
/-- tt_unmet, kept for Channel (R160). -/
def ttUnmet : Ctr := ⟨11, 11, 0, 256, 1, false⟩
/-- tt_clip, kept for Channel (R160). -/
def ttClip : Ctr := ⟨11, 12, 0, 256, 1, false⟩
/-- tt_lost, kept for Channel (R160). -/
def ttLost : Ctr := ⟨11, 13, 0, 256, 1, false⟩
/-- prs_packets, kept for Pipeline (R176). -/
def prsPackets : Ctr := ⟨12, 0, 0, 64, 1, false⟩
/-- prs_truncated, kept for Source port (R176). -/
def prsTruncated : Ctr := ⟨12, 1, 0, 512, 1, false⟩
/-- prs_parse_err, kept for Source port (R176). -/
def prsParseErr : Ctr := ⟨12, 2, 0, 512, 1, false⟩
/-- prs_err_drop, kept for Device (R176). -/
def prsErrDrop : Ctr := ⟨12, 3, 0, 1, 1, false⟩
/-- rule_hit, kept for Rule (R176). -/
def ruleHit : Ctr := ⟨12, 4, 0, 65536, 1, false⟩
/-- rule_miss, kept for Device (R176). -/
def ruleMiss : Ctr := ⟨12, 5, 0, 1, 1, false⟩
/-- trap_slow, kept for Uplink port (R176). -/
def trapSlow : Ctr := ⟨12, 6, 0, 128, 1, false⟩
/-- prs_poison_drop, kept for Device (R176). -/
def prsPoisonDrop : Ctr := ⟨12, 7, 0, 1, 1, false⟩
/-- lag_failover, kept for LAG (R176). -/
def lagFailover : Ctr := ⟨12, 8, 0, 64, 1, false⟩
/-- lag_no_member, kept for LAG (R176). -/
def lagNoMember : Ctr := ⟨12, 9, 0, 64, 1, false⟩
/-- fwd_hit, kept for Partition (R196). -/
def fwdHit : Ctr := ⟨13, 0, 0, 16, 1, false⟩
/-- fwd_miss, kept for Partition (R196). -/
def fwdMiss : Ctr := ⟨13, 1, 0, 16, 1, false⟩
/-- fwd_no_part, kept for Device (R196). -/
def fwdNoPart : Ctr := ⟨13, 2, 0, 1, 1, false⟩
/-- fwd_hairpin, kept for Device (R196). -/
def fwdHairpin : Ctr := ⟨13, 3, 0, 1, 1, false⟩
/-- fwd_dest_retired, kept for Device (R196). -/
def fwdDestRetired : Ctr := ⟨13, 4, 0, 1, 1, false⟩
/-- fwd_sa_drop, kept for Device (R196). -/
def fwdSaDrop : Ctr := ⟨13, 5, 0, 1, 1, false⟩
/-- fwd_poison_drop, kept for Device (R196). -/
def fwdPoisonDrop : Ctr := ⟨13, 6, 0, 1, 1, false⟩
/-- learn_new, kept for Partition (R196). -/
def learnNew : Ctr := ⟨13, 7, 0, 16, 1, false⟩
/-- learn_move, kept for Partition (R196). -/
def learnMove : Ctr := ⟨13, 8, 0, 16, 1, false⟩
/-- learn_static_conflict, kept for Partition (R196). -/
def learnStaticConflict : Ctr := ⟨13, 9, 0, 16, 1, false⟩
/-- learn_pinned, kept for Partition (R196). -/
def learnPinned : Ctr := ⟨13, 10, 0, 16, 1, false⟩
/-- learn_limit, kept for Source port (R196). -/
def learnLimit : Ctr := ⟨13, 11, 0, 512, 1, false⟩
/-- learn_queue_drop, kept for Device (R196). -/
def learnQueueDrop : Ctr := ⟨13, 12, 0, 1, 1, false⟩
/-- learn_full, kept for Device (R196). -/
def learnFull : Ctr := ⟨13, 13, 0, 1, 1, false⟩
/-- aged, kept for Partition (R196). -/
def aged : Ctr := ⟨13, 14, 0, 16, 1, false⟩
/-- flushed, kept for Partition (R196). -/
def flushed : Ctr := ⟨13, 15, 0, 16, 1, false⟩
/-- reloc_moves, kept for Device (R196). -/
def relocMoves : Ctr := ⟨13, 16, 0, 1, 1, false⟩
/-- ovf_return, kept for Device (R196). -/
def ovfReturn : Ctr := ⟨13, 17, 0, 1, 1, false⟩
/-- fab_cells, kept for Fabric port (R219). -/
def fabCells : Ctr := ⟨14, 0, 0, 48, 1, false⟩
/-- voq_cap_drop, kept for Fabric port (output) (R219). -/
def voqCapDrop : Ctr := ⟨14, 1, 0, 48, 1, false⟩
/-- ingress_full_drop, kept for Device (R219). -/
def ingressFullDrop : Ctr := ⟨14, 2, 0, 1, 1, false⟩
/-- xbar_retry, kept for Fabric port (R219). -/
def xbarRetry : Ctr := ⟨14, 3, 0, 48, 1, false⟩
/-- pushout, kept for Class (R219). -/
def pushout : Ctr := ⟨14, 4, 0, 1, 8, false⟩
/-- admit_drop, kept for Class (R219). -/
def admitDrop : Ctr := ⟨14, 5, 0, 1, 8, false⟩
/-- spill_cap_drop, kept for Channel (R219). -/
def spillCapDrop : Ctr := ⟨14, 6, 0, 256, 1, false⟩
/-- fab_stomp, kept for Egress port (R219). -/
def fabStomp : Ctr := ⟨14, 7, 0, 512, 1, false⟩
/-- fab_ct_drop, kept for Egress port (R219). -/
def fabCtDrop : Ctr := ⟨14, 8, 0, 512, 1, false⟩
/-- fab_hold_flush, kept for Port (R219). -/
def fabHoldFlush : Ctr := ⟨14, 9, 0, 512, 1, false⟩
/-- port_down_drop, kept for Port (R219). -/
def portDownDrop : Ctr := ⟨14, 10, 0, 512, 1, false⟩
/-- fab_retire_drop, kept for Device (R219). -/
def fabRetireDrop : Ctr := ⟨14, 11, 0, 1, 1, false⟩
/-- spar_fallback, kept for Pool (R219). -/
def sparFallback : Ctr := ⟨14, 12, 0, 7, 1, false⟩
/-- spar_wait, kept for Pool (R219). -/
def sparWait : Ctr := ⟨14, 13, 0, 7, 1, false⟩
/-- spar_no_buf, kept for Pool (R219). -/
def sparNoBuf : Ctr := ⟨14, 14, 0, 7, 1, false⟩
/-- spar_double_free, kept for Device (R219). -/
def sparDoubleFree : Ctr := ⟨14, 15, 0, 1, 1, false⟩
/-- spar_bad_ptr, kept for Device (R219). -/
def sparBadPtr : Ctr := ⟨14, 16, 0, 1, 1, false⟩
/-- spar_seg_tag, kept for Device (R219). -/
def sparSegTag : Ctr := ⟨14, 17, 0, 1, 1, false⟩
/-- sht_tx_pkts, kept for Flow queue (R238). -/
def shtTxPktsFq : Ctr := ⟨15, 0, 0, 262144, 1, false⟩
/-- sht_tx_pkts, kept for class queue (R238). -/
def shtTxPktsCq : Ctr := ⟨15, 0, 1, 1024, 1, false⟩
/-- sht_tx_bytes, kept for Flow queue (R238). -/
def shtTxBytesFq : Ctr := ⟨15, 1, 0, 262144, 1, true⟩
/-- sht_tx_bytes, kept for class queue (R238). -/
def shtTxBytesCq : Ctr := ⟨15, 1, 1, 1024, 1, true⟩
/-- sht_soj_over, kept for Flow queue (R238). -/
def shtSojOverFq : Ctr := ⟨15, 2, 0, 262144, 1, false⟩
/-- sht_soj_over, kept for class queue (R238). -/
def shtSojOverCq : Ctr := ⟨15, 2, 1, 1024, 1, false⟩
/-- sht_no_flow, kept for Channel (R238). -/
def shtNoFlow : Ctr := ⟨15, 3, 0, 256, 1, false⟩
/-- sht_no_node, kept for Channel (R238). -/
def shtNoNode : Ctr := ⟨15, 4, 0, 256, 1, false⟩
/-- sht_flow_mismatch, kept for Channel (R238). -/
def shtFlowMismatch : Ctr := ⟨15, 5, 0, 256, 1, false⟩
/-- oversize_for_gate, kept for Class queue (R238). -/
def oversizeForGate : Ctr := ⟨15, 6, 0, 1024, 1, false⟩
/-- sht_unbind_flush, kept for Device (R238). -/
def shtUnbindFlush : Ctr := ⟨15, 7, 0, 1, 1, false⟩
/-- sht_poison_flush, kept for Device (R238). -/
def shtPoisonFlush : Ctr := ⟨15, 8, 0, 1, 1, false⟩
/-- pfc_tx_xoff, kept for Uplink port and class (R238). -/
def pfcTxXoff : Ctr := ⟨15, 9, 0, 128, 8, false⟩
/-- pfc_tx_xon, kept for Uplink port and class (R238). -/
def pfcTxXon : Ctr := ⟨15, 10, 0, 128, 8, false⟩
/-- pfc_rx, kept for Uplink port and class (R238). -/
def pfcRx : Ctr := ⟨15, 11, 0, 128, 8, false⟩
/-- pfc_rx_ignored, kept for Uplink port and class (R238). -/
def pfcRxIgnored : Ctr := ⟨15, 12, 0, 128, 8, false⟩
/-- PCH upstream edge drop, kept for Channel (R25); no table of the spec numbers it. -/
def usEdgeDrop : Ctr := ⟨10, 255, 0, 256, 1, false⟩
/-- ULK receive edge drop, kept for uplink group (R25); no table of the spec numbers it. -/
def ulkEdgeDrop : Ctr := ⟨16, 0, 0, 16, 1, false⟩
/-- Part 0 of the list of all counter arrays. -/
def all0 : List Ctr := [reefEntries, reefTimeUs, supplyResets, thermalResets, ladderFaults, ladderReef, retirements, unretirements, drainDiscard, dmaTxPkts, dmaTxBad, dmaRxPkts, dmaRxNobuf, dmaRxToolong, omciMicErr, mbxOvf, evqDrop, eventPosted, snapDone, tsqEntries, tsqDrop, ppsInEdges, todoSkipped, todiOverflow, memCe, memUe, memPoisonDrop, memPoisonMsg, scrubPasses, memSpared, flashCorr, jnlRecords, jnlDrop, jnlBad, mateHbTx, mateHbRx, mateMsgTx, mateMsgRx, mateMapReject, mateLearnFull, mateSwitchover, shrNoRoot, shrNoLane, shrFaultDrop, shrNoKey]
/-- Part 1 of the list of all counter arrays. -/
def all1 : List Ctr := [shrLaneFault, macsecTxProtected, macsecRxOk, macsecRxLate, macsecRxNotvalid, macsecRxNosa, macsecRxUntagged, macsecPnExhausted, laneLockLoss, laneFreeze, laneRestore, laneFault, slStuffErr, slHcsErr, slFillDel, slFillIns, slTagErr, slSeqGap, slBadType, slMsgTx, slMsgRx, dsFrames, dsIdleBytes, dsXgem, dsPloam, dsOversize, dsNoRecord, dsFragAbort, dsRetiredDiscard, usBurstsCh, usBurstsOnu, usMissedCh, usMissedOnu, usErroredCh, usErroredOnu, usBipBits, usFecCorr, usFecUncorr, usFecDrop, usXgemHec, usDbruErr, usPloamMicCh, usPloamMicOnu, usPloamUnsup, usInactive]
/-- Part 2 of the list of all counter arrays. -/
def all2 : List Ctr := [usNoRecord, usPortMismatch, usKeyErr, usReasmAbort, usOversize, usRunt, usPresetReject, usRogueObs, onuEs, onuSes, onuUas, pmLost, aisTx, aisDrop, discWindows, discResponses, discCollision, discOverflow, rngTries, rngNoResponse, rngOutOfReach, eqdUpdates, mapAccepted, mapHeld, grantBytes, fixedDefer, discUnprotected, bldFault, chkFault, ttTaken, ttBad, ttFull, ttPlaced, ttUnmet, ttClip, ttLost, prsPackets, prsTruncated, prsParseErr, prsErrDrop, ruleHit, ruleMiss, trapSlow, prsPoisonDrop, lagFailover]
/-- Part 3 of the list of all counter arrays. -/
def all3 : List Ctr := [lagNoMember, fwdHit, fwdMiss, fwdNoPart, fwdHairpin, fwdDestRetired, fwdSaDrop, fwdPoisonDrop, learnNew, learnMove, learnStaticConflict, learnPinned, learnLimit, learnQueueDrop, learnFull, aged, flushed, relocMoves, ovfReturn, fabCells, voqCapDrop, ingressFullDrop, xbarRetry, pushout, admitDrop, spillCapDrop, fabStomp, fabCtDrop, fabHoldFlush, portDownDrop, fabRetireDrop, sparFallback, sparWait, sparNoBuf, sparDoubleFree, sparBadPtr, sparSegTag, shtTxPktsFq, shtTxPktsCq, shtTxBytesFq, shtTxBytesCq, shtSojOverFq, shtSojOverCq, shtNoFlow, shtNoNode]
/-- Part 4 of the list of all counter arrays. -/
def all4 : List Ctr := [shtFlowMismatch, oversizeForGate, shtUnbindFlush, shtPoisonFlush, pfcTxXoff, pfcTxXon, pfcRx, pfcRxIgnored, usEdgeDrop, ulkEdgeDrop]
/-- All counter arrays. -/
def all : List Ctr := all0 ++ all1 ++ all2 ++ all3 ++ all4

end Cn

end Sys2Proof.Machine
end

