-- ==== Sys2Proof/Machine/RegMap.lean ====
section
/-! DEFINITION. The register map: every register the spec's register tables give, with its address, its instances and
strides (19_address_map.md R401, R403), its reset value and the access code of each field (00_scope.md R6). A register is
named by the address of one instance; a field by that address, its lowest bit and its width. -/

namespace Sys2Proof.Machine

/-- One row of the map: base address, instances (count and stride, twice for a two-way array), reset value, fields. -/
structure RegRow where
  base : Nat
  n1 : Nat
  s1 : Nat
  n2 : Nat
  s2 : Nat
  rst : Nat
  flds : List FieldRow
deriving DecidableEq, Repr

/-- Registers of block GLB (part 0). -/
def RegMap.glb0 : List RegRow :=
  [⟨0x100, 1, 0x4, 1, 0x4, 0x0, [⟨28, 4, .ro⟩, ⟨24, 3, .ro⟩, ⟨0, 16, .ro⟩]⟩,
   ⟨0x104, 1, 0x4, 1, 0x4, 0x0, [⟨0, 4, .wo⟩]⟩,
   ⟨0x110, 1, 0x4, 1, 0x4, 0x0, [⟨2, 1, .ro⟩, ⟨1, 1, .w1c⟩, ⟨0, 1, .w1c⟩]⟩,
   ⟨0x114, 1, 0x4, 1, 0x4, 0xFFFF, [⟨0, 16, .rc⟩]⟩,
   ⟨0x118, 1, 0x4, 1, 0x4, 0x0, [⟨24, 8, .rc⟩, ⟨0, 24, .ro⟩]⟩,
   ⟨0x120, 1, 0x4, 1, 0x4, 0x0, [⟨31, 1, .ro⟩, ⟨16, 8, .rc⟩, ⟨0, 8, .ro⟩]⟩,
   ⟨0x124, 1, 0x4, 1, 0x4, 0x64, [⟨0, 8, .rw⟩]⟩,
   ⟨0x144, 7, 0x4, 1, 0x4, 0xA0003, [⟨16, 16, .st⟩, ⟨0, 4, .st⟩]⟩,
   ⟨0x180, 1, 0x4, 1, 0x4, 0x0, [⟨5, 3, .ro⟩, ⟨4, 1, .ro⟩, ⟨0, 2, .wo⟩]⟩,
   ⟨0x184, 1, 0x4, 1, 0x4, 0x0, [⟨0, 8, .rw⟩]⟩,
   ⟨0x188, 1, 0x4, 1, 0x4, 0x0, [⟨0, 12, .rw⟩]⟩,
   ⟨0x18C, 1, 0x4, 1, 0x4, 0x0, [⟨31, 1, .ro⟩, ⟨0, 8, .ro⟩]⟩,
   ⟨0x190, 1, 0x4, 1, 0x4, 0x0, [⟨0, 32, .ro⟩]⟩,
   ⟨0x194, 1, 0x4, 1, 0x4, 0x0, [⟨0, 32, .ro⟩]⟩,
   ⟨0x198, 1, 0x4, 1, 0x4, 0x0, [⟨0, 13, .ro⟩]⟩,
   ⟨0x19C, 1, 0x4, 1, 0x4, 0x0, [⟨0, 32, .rw⟩]⟩,
   ⟨0x200, 1, 0x4, 1, 0x4, 0x11, [⟨4, 2, .rw⟩, ⟨0, 1, .rw⟩]⟩,
   ⟨0x204, 1, 0x4, 1, 0x4, 0x0, [⟨16, 16, .rc⟩, ⟨0, 16, .ro⟩]⟩,
   ⟨0x208, 1, 0x4, 1, 0x4, 0x0, [⟨16, 16, .rc⟩, ⟨0, 16, .ro⟩]⟩,
   ⟨0x20C, 1, 0x4, 1, 0x4, 0xFFFFFFFF, [⟨16, 16, .rc⟩, ⟨0, 16, .ro⟩]⟩,
   ⟨0x210, 1, 0x4, 1, 0x4, 0x640, [⟨0, 16, .rw⟩]⟩,
   ⟨0x214, 1, 0x4, 1, 0x4, 0x855, [⟨0, 16, .rw⟩]⟩,
   ⟨0x218, 1, 0x4, 1, 0x4, 0x3E8, [⟨0, 16, .rw⟩]⟩,
   ⟨0x21C, 1, 0x4, 1, 0x4, 0x0, [⟨8, 1, .ro⟩, ⟨2, 1, .w1c⟩, ⟨1, 1, .w1c⟩, ⟨0, 1, .w1c⟩]⟩,
   ⟨0x240, 1, 0x4, 1, 0x4, 0x0, [⟨0, 32, .ro⟩]⟩,
   ⟨0x244, 1, 0x4, 1, 0x4, 0x0, [⟨0, 32, .ro⟩]⟩,
   ⟨0x248, 1, 0x4, 1, 0x4, 0xE00000, [⟨0, 24, .ro⟩]⟩,
   ⟨0x260, 1, 0x4, 1, 0x4, 0x4040, [⟨8, 7, .rc⟩, ⟨0, 7, .ro⟩]⟩,
   ⟨0x300, 16, 0x10, 1, 0x4, 0x1, [⟨0, 2, .rw⟩]⟩,
   ⟨0x304, 16, 0x10, 1, 0x4, 0x0, [⟨24, 7, .rw⟩, ⟨16, 8, .rw⟩, ⟨12, 1, .w1c⟩, ⟨8, 2, .rw⟩, ⟨5, 3, .ro⟩, ⟨4, 1, .ro⟩, ⟨0, 2, .wo⟩]⟩,
   ⟨0x308, 16, 0x10, 1, 0x4, 0x0, [⟨0, 32, .rw⟩]⟩,
   ⟨0x400, 1, 0x4, 1, 0x4, 0x0, [⟨16, 16, .ro⟩, ⟨0, 16, .ro⟩]⟩,
   ⟨0x404, 1, 0x4, 1, 0x4, 0xFFFFFFFF, [⟨16, 16, .rw⟩, ⟨0, 16, .rw⟩]⟩]

/-- Registers of block GLB. -/
def RegMap.glb : List RegRow := RegMap.glb0

/-- Registers of block RIG (part 0). -/
def RegMap.rig0 : List RegRow :=
  [⟨0x100000, 1, 0x4, 1, 0x4, 0x0, [⟨8, 16, .wo⟩, ⟨5, 1, .wo⟩, ⟨4, 1, .wo⟩, ⟨0, 4, .wo⟩]⟩,
   ⟨0x100004, 1, 0x4, 1, 0x4, 0x0, [⟨16, 16, .ro⟩, ⟨8, 8, .ro⟩, ⟨7, 1, .ro⟩, ⟨6, 1, .ro⟩, ⟨5, 1, .w1c⟩, ⟨4, 1, .w1c⟩, ⟨0, 3, .ro⟩]⟩,
   ⟨0x100008, 1, 0x4, 1, 0x4, 0x1, [⟨16, 16, .ro⟩, ⟨0, 16, .ro⟩]⟩,
   ⟨0x100010, 1, 0x4, 1, 0x4, 0x0, [⟨0, 32, .rw⟩]⟩,
   ⟨0x100014, 1, 0x4, 1, 0x4, 0x0, [⟨0, 16, .rw⟩]⟩,
   ⟨0x100018, 1, 0x4, 1, 0x4, 0x0, [⟨0, 30, .rw⟩]⟩,
   ⟨0x10001C, 1, 0x4, 1, 0x4, 0x3E8, [⟨0, 20, .rw⟩]⟩,
   ⟨0x100020, 1, 0x4, 1, 0x4, 0x0, [⟨0, 20, .ro⟩]⟩,
   ⟨0x100024, 1, 0x4, 1, 0x4, 0x0, [⟨16, 16, .ro⟩, ⟨10, 1, .ro⟩, ⟨9, 1, .ro⟩, ⟨8, 1, .ro⟩, ⟨5, 3, .ro⟩, ⟨2, 3, .ro⟩, ⟨1, 1, .ro⟩, ⟨0, 1, .ro⟩]⟩,
   ⟨0x100028, 1, 0x4, 1, 0x4, 0x0, [⟨0, 32, .ro⟩]⟩,
   ⟨0x100030, 1, 0x4, 1, 0x4, 0x0, [⟨0, 8, .rw⟩]⟩,
   ⟨0x100034, 1, 0x4, 1, 0x4, 0x0, [⟨24, 8, .ro⟩, ⟨23, 1, .ro⟩, ⟨16, 7, .ro⟩, ⟨0, 16, .ro⟩]⟩,
   ⟨0x100038, 1, 0x4, 1, 0x4, 0x0, [⟨0, 32, .ro⟩]⟩,
   ⟨0x100040, 8, 0x4, 1, 0x4, 0x0, [⟨0, 32, .rw⟩]⟩,
   ⟨0x100060, 1, 0x4, 1, 0x4, 0x0, [⟨6, 26, .rw⟩]⟩,
   ⟨0x100064, 1, 0x4, 1, 0x4, 0x0, [⟨0, 32, .rw⟩]⟩,
   ⟨0x100068, 1, 0x4, 1, 0x4, 0x0, [⟨0, 32, .rw⟩]⟩,
   ⟨0x10006C, 1, 0x4, 1, 0x4, 0x0, [⟨0, 32, .rw⟩]⟩,
   ⟨0x100070, 1, 0x4, 1, 0x4, 0x0, [⟨0, 32, .rw⟩]⟩,
   ⟨0x100080, 1, 0x4, 1, 0x4, 0x0, [⟨0, 16, .lk⟩]⟩]

/-- Registers of block RIG. -/
def RegMap.rig : List RegRow := RegMap.rig0

/-- Registers of block MBX (part 0). -/
def RegMap.mbx0 : List RegRow :=
  [⟨0x200000, 16, 0x40, 2, 0x20, 0x0, [⟨0, 32, .wo⟩]⟩,
   ⟨0x200004, 16, 0x40, 2, 0x20, 0x0, [⟨0, 32, .ro⟩]⟩,
   ⟨0x200008, 16, 0x40, 2, 0x20, 0x800, [⟨18, 6, .ro⟩, ⟨17, 1, .w1c⟩, ⟨16, 1, .w1c⟩, ⟨8, 4, .ro⟩, ⟨0, 4, .ro⟩]⟩,
   ⟨0x200400, 1, 0x4, 1, 0x4, 0x0, [⟨0, 32, .ro⟩]⟩,
   ⟨0x200800, 64, 0x4, 1, 0x4, 0x0, [⟨30, 2, .ro⟩, ⟨0, 6, .ro⟩]⟩,
   ⟨0x201000, 64, 0x40, 1, 0x4, 0x0, [⟨12, 20, .rw⟩]⟩,
   ⟨0x201004, 64, 0x40, 1, 0x4, 0x0, [⟨0, 32, .rw⟩]⟩,
   ⟨0x201008, 64, 0x40, 1, 0x4, 0x0, [⟨12, 20, .rw⟩]⟩,
   ⟨0x20100C, 64, 0x40, 1, 0x4, 0x0, [⟨0, 32, .rw⟩]⟩,
   ⟨0x201010, 64, 0x40, 1, 0x4, 0x0, [⟨2, 30, .rw⟩]⟩,
   ⟨0x201014, 64, 0x40, 1, 0x4, 0x0, [⟨0, 32, .rw⟩]⟩,
   ⟨0x201018, 64, 0x40, 1, 0x4, 0x0, [⟨31, 1, .rw⟩, ⟨30, 1, .rw⟩, ⟨16, 6, .rw⟩, ⟨8, 8, .rw⟩, ⟨4, 4, .rw⟩, ⟨0, 4, .rw⟩]⟩,
   ⟨0x20101C, 64, 0x40, 1, 0x4, 0x1, [⟨4, 4, .ro⟩, ⟨1, 1, .ro⟩, ⟨0, 1, .ro⟩]⟩,
   ⟨0x201020, 64, 0x40, 1, 0x4, 0x0, [⟨0, 12, .ro⟩]⟩,
   ⟨0x201024, 64, 0x40, 1, 0x4, 0x0, [⟨0, 12, .ro⟩]⟩,
   ⟨0x204000, 64, 0x4, 1, 0x4, 0x0, [⟨0, 6, .lk⟩]⟩,
   ⟨0x204108, 14, 0x4, 1, 0x4, 0x0, [⟨31, 1, .lk⟩, ⟨8, 6, .lk⟩, ⟨0, 6, .lk⟩]⟩,
   ⟨0x208000, 1, 0x4, 1, 0x4, 0x0, [⟨12, 20, .rw⟩]⟩,
   ⟨0x208004, 1, 0x4, 1, 0x4, 0x0, [⟨0, 32, .rw⟩]⟩,
   ⟨0x208008, 1, 0x4, 1, 0x4, 0x0, [⟨0, 1, .rw⟩]⟩,
   ⟨0x20800C, 1, 0x4, 1, 0x4, 0x0, [⟨0, 12, .rw⟩]⟩,
   ⟨0x208010, 1, 0x4, 1, 0x4, 0x0, [⟨0, 12, .ro⟩]⟩,
   ⟨0x208100, 64, 0x4, 1, 0x4, 0x0, [⟨31, 1, .rw⟩, ⟨0, 6, .rw⟩]⟩,
   ⟨0x208200, 64, 0x4, 1, 0x4, 0x0, [⟨0, 10, .rw⟩]⟩]

/-- Registers of block MBX. -/
def RegMap.mbx : List RegRow := RegMap.mbx0

/-- Registers of block CNT (part 0). -/
def RegMap.cnt0 : List RegRow :=
  [⟨0x300000, 1, 0x4, 1, 0x4, 0x0, [⟨5, 3, .ro⟩, ⟨4, 1, .ro⟩, ⟨0, 2, .wo⟩]⟩,
   ⟨0x300008, 1, 0x4, 1, 0x4, 0x0, [⟨6, 26, .rw⟩]⟩,
   ⟨0x30000C, 1, 0x4, 1, 0x4, 0x0, [⟨0, 32, .rw⟩]⟩,
   ⟨0x300010, 1, 0x4, 1, 0x4, 0x0, [⟨0, 32, .ro⟩]⟩,
   ⟨0x300100, 16, 0x8, 1, 0x4, 0x0, [⟨30, 2, .rw⟩, ⟨0, 26, .rw⟩]⟩,
   ⟨0x300104, 16, 0x8, 1, 0x4, 0x0, [⟨0, 22, .rw⟩]⟩,
   ⟨0x300200, 1, 0x4, 1, 0x4, 0x0, [⟨24, 8, .rw⟩, ⟨16, 8, .rw⟩, ⟨0, 4, .rw⟩]⟩,
   ⟨0x300204, 1, 0x4, 1, 0x4, 0x0, [⟨31, 1, .ro⟩, ⟨0, 21, .ro⟩]⟩,
   ⟨0x300208, 1, 0x4, 1, 0x4, 0x0, [⟨31, 1, .ro⟩, ⟨30, 1, .ro⟩, ⟨19, 8, .ro⟩, ⟨0, 19, .ro⟩]⟩,
   ⟨0x300300, 1, 0x4, 1, 0x4, 0x0, [⟨0, 21, .rw⟩]⟩,
   ⟨0x300304, 1, 0x4, 1, 0x4, 0x0, [⟨0, 2, .wo⟩]⟩,
   ⟨0x300400, 1, 0x4, 1, 0x4, 0x0, [⟨0, 12, .rw⟩]⟩,
   ⟨0x300404, 1, 0x4, 1, 0x4, 0x0, [⟨0, 16, .lk⟩]⟩]

/-- Registers of block CNT. -/
def RegMap.cnt : List RegRow := RegMap.cnt0

/-- Registers of block TIM (part 0). -/
def RegMap.tim0 : List RegRow :=
  [⟨0x400000, 1, 0x4, 1, 0x4, 0x0, [⟨1, 1, .rw⟩, ⟨0, 1, .rw⟩]⟩,
   ⟨0x400004, 1, 0x4, 1, 0x4, 0x0, [⟨16, 16, .ro⟩, ⟨10, 2, .ro⟩, ⟨8, 2, .ro⟩, ⟨2, 1, .ro⟩, ⟨1, 1, .w1c⟩, ⟨0, 1, .w1c⟩]⟩,
   ⟨0x400010, 1, 0x4, 1, 0x4, 0x0, [⟨0, 30, .ro⟩]⟩,
   ⟨0x400014, 1, 0x4, 1, 0x4, 0x0, [⟨0, 32, .ro⟩]⟩,
   ⟨0x400018, 1, 0x4, 1, 0x4, 0x0, [⟨0, 32, .ro⟩]⟩,
   ⟨0x40001C, 1, 0x4, 1, 0x4, 0x0, [⟨0, 16, .ro⟩]⟩,
   ⟨0x400020, 1, 0x4, 1, 0x4, 0x0, [⟨0, 32, .rw⟩]⟩,
   ⟨0x400024, 1, 0x4, 1, 0x4, 0x0, [⟨0, 32, .rw⟩]⟩,
   ⟨0x400028, 1, 0x4, 1, 0x4, 0x0, [⟨0, 32, .rw⟩]⟩,
   ⟨0x40002C, 1, 0x4, 1, 0x4, 0x0, [⟨0, 16, .rw⟩]⟩,
   ⟨0x400030, 1, 0x4, 1, 0x4, 0x0, [⟨5, 2, .ro⟩, ⟨4, 1, .ro⟩, ⟨0, 2, .wo⟩]⟩,
   ⟨0x400038, 1, 0x4, 1, 0x4, 0x99999999, [⟨0, 32, .rw⟩]⟩,
   ⟨0x40003C, 1, 0x4, 1, 0x4, 0x1, [⟨0, 4, .rw⟩]⟩,
   ⟨0x400040, 1, 0x4, 1, 0x4, 0x640000, [⟨16, 16, .rw⟩]⟩,
   ⟨0x400044, 1, 0x4, 1, 0x4, 0x0, [⟨16, 16, .rw⟩, ⟨0, 16, .rw⟩]⟩,
   ⟨0x400048, 1, 0x4, 1, 0x4, 0x0, [⟨0, 32, .ro⟩]⟩,
   ⟨0x40004C, 1, 0x4, 1, 0x4, 0x0, [⟨0, 32, .ro⟩]⟩,
   ⟨0x400050, 1, 0x4, 1, 0x4, 0x1F40200, [⟨16, 16, .rw⟩, ⟨8, 2, .rw⟩, ⟨4, 4, .rw⟩, ⟨0, 2, .rw⟩]⟩,
   ⟨0x400054, 1, 0x4, 1, 0x4, 0x0, [⟨8, 1, .ro⟩, ⟨0, 6, .rw⟩]⟩,
   ⟨0x400058, 1, 0x4, 1, 0x4, 0x0, [⟨8, 1, .w1c⟩, ⟨0, 7, .ro⟩]⟩,
   ⟨0x40005C, 1, 0x4, 1, 0x4, 0x0, [⟨8, 1, .ro⟩, ⟨0, 8, .ro⟩]⟩,
   ⟨0x400060, 8, 0x4, 1, 0x4, 0x0, [⟨0, 32, .rw⟩]⟩,
   ⟨0x400080, 1, 0x4, 1, 0x4, 0x803, [⟨31, 1, .rw⟩, ⟨8, 8, .rw⟩, ⟨0, 2, .rw⟩]⟩,
   ⟨0x400084, 1, 0x4, 1, 0x4, 0xA0C, [⟨31, 1, .rw⟩, ⟨24, 7, .rw⟩, ⟨8, 8, .rw⟩, ⟨2, 2, .rw⟩]⟩,
   ⟨0x400090, 2, 0x4, 1, 0x4, 0x0, [⟨31, 1, .rw⟩, ⟨16, 12, .rw⟩, ⟨7, 1, .rw⟩, ⟨0, 7, .rw⟩]⟩,
   ⟨0x4000A0, 1, 0x4, 1, 0x4, 0x0, [⟨24, 8, .rw⟩, ⟨0, 16, .rw⟩]⟩,
   ⟨0x4000A4, 1, 0x4, 1, 0x4, 0x0, [⟨0, 32, .rw⟩]⟩,
   ⟨0x4000A8, 1, 0x4, 1, 0x4, 0x0, [⟨0, 19, .rw⟩]⟩,
   ⟨0x4000AC, 1, 0x4, 1, 0x4, 0x0, [⟨5, 3, .ro⟩, ⟨4, 1, .ro⟩, ⟨0, 1, .wo⟩]⟩,
   ⟨0x4000B0, 1, 0x4, 1, 0x4, 0x0, [⟨0, 32, .ro⟩]⟩,
   ⟨0x4000B4, 1, 0x4, 1, 0x4, 0x0, [⟨16, 16, .ro⟩, ⟨0, 16, .ro⟩]⟩,
   ⟨0x4000B8, 1, 0x4, 1, 0x4, 0x0, [⟨0, 32, .ro⟩]⟩,
   ⟨0x4000BC, 1, 0x4, 1, 0x4, 0x0, [⟨0, 6, .ro⟩]⟩,
   ⟨0x400200, 16, 0x4, 1, 0x4, 0x0, [⟨16, 16, .rw⟩, ⟨0, 16, .rw⟩]⟩,
   ⟨0x400400, 16, 0x20, 1, 0x4, 0x0, [⟨8, 1, .w1c⟩, ⟨0, 7, .ro⟩]⟩,
   ⟨0x400404, 16, 0x20, 1, 0x4, 0x0, [⟨0, 32, .ro⟩]⟩,
   ⟨0x400408, 16, 0x20, 1, 0x4, 0x0, [⟨0, 32, .ro⟩]⟩,
   ⟨0x40040C, 16, 0x20, 1, 0x4, 0x0, [⟨0, 32, .ro⟩]⟩,
   ⟨0x401000, 256, 0x8, 1, 0x4, 0x0, [⟨0, 32, .rw⟩]⟩,
   ⟨0x401004, 256, 0x8, 1, 0x4, 0x8000, [⟨0, 16, .rw⟩]⟩]

/-- Registers of block TIM. -/
def RegMap.tim : List RegRow := RegMap.tim0

/-- Registers of block MEM (part 0). -/
def RegMap.mem0 : List RegRow :=
  [⟨0x500000, 1, 0x4, 1, 0x4, 0x0, [⟨31, 1, .ro⟩, ⟨30, 1, .ro⟩, ⟨29, 1, .ro⟩, ⟨28, 1, .w1c⟩, ⟨16, 7, .ro⟩]⟩,
   ⟨0x500010, 1, 0x4, 1, 0x4, 0x0, [⟨8, 8, .rw⟩, ⟨5, 3, .ro⟩, ⟨4, 1, .ro⟩, ⟨0, 2, .wo⟩]⟩,
   ⟨0x500014, 1, 0x4, 1, 0x4, 0x0, [⟨0, 32, .rw⟩]⟩,
   ⟨0x500018, 1, 0x4, 1, 0x4, 0x0, [⟨0, 32, .rw⟩]⟩,
   ⟨0x50001C, 1, 0x4, 1, 0x4, 0x0, [⟨6, 26, .rw⟩]⟩,
   ⟨0x500020, 1, 0x4, 1, 0x4, 0x0, [⟨0, 32, .rw⟩]⟩,
   ⟨0x500024, 1, 0x4, 1, 0x4, 0x2, [⟨0, 5, .rw⟩]⟩,
   ⟨0x500028, 1, 0x4, 1, 0x4, 0x0, [⟨0, 32, .ro⟩]⟩,
   ⟨0x500030, 1, 0x4, 1, 0x4, 0x0, [⟨31, 1, .rw⟩, ⟨30, 1, .rw⟩, ⟨28, 2, .rw⟩, ⟨18, 10, .rw⟩, ⟨8, 10, .rw⟩, ⟨0, 8, .rw⟩]⟩,
   ⟨0x500034, 1, 0x4, 1, 0x4, 0x0, [⟨0, 32, .rw⟩]⟩,
   ⟨0x500040, 1, 0x4, 1, 0x4, 0x3C0004, [⟨16, 16, .rw⟩, ⟨0, 4, .rw⟩]⟩,
   ⟨0x500044, 1, 0x4, 1, 0x4, 0x0, [⟨0, 6, .rw⟩]⟩,
   ⟨0x500048, 1, 0x4, 1, 0x4, 0x0, [⟨31, 1, .ro⟩, ⟨30, 1, .ro⟩, ⟨16, 8, .ro⟩, ⟨0, 4, .ro⟩]⟩,
   ⟨0x50004C, 1, 0x4, 1, 0x4, 0x0, [⟨0, 32, .ro⟩]⟩,
   ⟨0x500050, 1, 0x4, 1, 0x4, 0x0, [⟨0, 16, .ro⟩]⟩,
   ⟨0x500060, 1, 0x4, 1, 0x4, 0x0, [⟨0, 4, .rw⟩]⟩,
   ⟨0x500064, 1, 0x4, 1, 0x4, 0x0, [⟨31, 1, .ro⟩, ⟨16, 8, .ro⟩, ⟨8, 8, .ro⟩, ⟨0, 8, .ro⟩]⟩,
   ⟨0x500068, 1, 0x4, 1, 0x4, 0x0, [⟨0, 32, .ro⟩]⟩,
   ⟨0x50006C, 1, 0x4, 1, 0x4, 0x0, [⟨0, 32, .ro⟩]⟩,
   ⟨0x500070, 1, 0x4, 1, 0x4, 0x0, [⟨0, 8, .rw⟩]⟩,
   ⟨0x500074, 1, 0x4, 1, 0x4, 0x0, [⟨16, 16, .ro⟩, ⟨0, 16, .ro⟩]⟩,
   ⟨0x500078, 1, 0x4, 1, 0x4, 0x0, [⟨0, 16, .ro⟩]⟩,
   ⟨0x500080, 4, 0x4, 1, 0x4, 0x0, [⟨30, 2, .ro⟩, ⟨29, 1, .ro⟩, ⟨0, 8, .ro⟩]⟩,
   ⟨0x500090, 1, 0x4, 1, 0x4, 0x0, [⟨31, 1, .ro⟩, ⟨30, 1, .ro⟩, ⟨0, 16, .ro⟩]⟩,
   ⟨0x500094, 1, 0x4, 1, 0x4, 0x0, [⟨0, 32, .ro⟩]⟩,
   ⟨0x500098, 1, 0x4, 1, 0x4, 0x0, [⟨0, 32, .ro⟩]⟩,
   ⟨0x50009C, 1, 0x4, 1, 0x4, 0x0, [⟨0, 17, .rw⟩]⟩,
   ⟨0x5000A0, 1, 0x4, 1, 0x4, 0x0, [⟨0, 32, .rw⟩]⟩,
   ⟨0x5000A4, 1, 0x4, 1, 0x4, 0x0, [⟨5, 3, .ro⟩, ⟨4, 1, .ro⟩, ⟨0, 2, .wo⟩]⟩,
   ⟨0x5000C0, 16, 0x4, 1, 0x4, 0x0, [⟨0, 32, .ro⟩]⟩,
   ⟨0x500100, 1, 0x4, 1, 0x4, 0x0, [⟨31, 1, .ro⟩, ⟨17, 1, .ro⟩, ⟨16, 1, .ro⟩, ⟨0, 16, .ro⟩]⟩]

/-- Registers of block MEM. -/
def RegMap.mem : List RegRow := RegMap.mem0

/-- Registers of block MATE (part 0). -/
def RegMap.mate0 : List RegRow :=
  [⟨0x600000, 1, 0x4, 1, 0x4, 0x0, [⟨5, 3, .ro⟩, ⟨4, 1, .ro⟩, ⟨0, 3, .wo⟩]⟩,
   ⟨0x600004, 1, 0x4, 1, 0x4, 0x0, [⟨24, 8, .ro⟩, ⟨16, 8, .ro⟩, ⟨15, 1, .ro⟩, ⟨14, 1, .ro⟩, ⟨13, 1, .ro⟩, ⟨12, 1, .ro⟩, ⟨8, 4, .ro⟩, ⟨0, 4, .ro⟩]⟩,
   ⟨0x600008, 1, 0x4, 1, 0x4, 0x0, [⟨0, 16, .ro⟩]⟩,
   ⟨0x60000C, 1, 0x4, 1, 0x4, 0x0, [⟨0, 32, .ro⟩]⟩,
   ⟨0x600010, 1, 0x4, 1, 0x4, 0x0, [⟨0, 32, .ro⟩]⟩,
   ⟨0x600014, 1, 0x4, 1, 0x4, 0x0, [⟨0, 32, .rw⟩]⟩,
   ⟨0x600018, 1, 0x4, 1, 0x4, 0x0, [⟨28, 4, .ro⟩, ⟨24, 4, .ro⟩, ⟨0, 16, .ro⟩]⟩,
   ⟨0x60001C, 1, 0x4, 1, 0x4, 0x0, [⟨16, 16, .rc⟩, ⟨0, 16, .ro⟩]⟩,
   ⟨0x601000, 256, 0x4, 1, 0x4, 0x0, [⟨0, 32, .rw⟩]⟩]

/-- Registers of block MATE. -/
def RegMap.mate : List RegRow := RegMap.mate0

/-- Registers of block SHR (part 0). -/
def RegMap.shr0 : List RegRow :=
  [⟨0x700000, 1, 0x4, 1, 0x4, 0x80000, [⟨31, 1, .ro⟩, ⟨30, 1, .ro⟩, ⟨18, 2, .ro⟩, ⟨0, 18, .ro⟩]⟩,
   ⟨0x700004, 1, 0x4, 1, 0x4, 0x0, [⟨0, 32, .ro⟩]⟩,
   ⟨0x700008, 1, 0x4, 1, 0x4, 0x0, [⟨0, 32, .ro⟩]⟩,
   ⟨0x70000C, 1, 0x4, 1, 0x4, 0x18, [⟨0, 6, .st⟩]⟩,
   ⟨0x700010, 8, 0x4, 1, 0x4, 0x0, [⟨0, 32, .wo⟩]⟩,
   ⟨0x700040, 16, 0x4, 1, 0x4, 0x0, [⟨31, 1, .ro⟩, ⟨24, 5, .ro⟩, ⟨16, 8, .ro⟩]⟩,
   ⟨0x700100, 1, 0x4, 1, 0x4, 0x0, [⟨12, 4, .ro⟩, ⟨8, 1, .ro⟩, ⟨0, 5, .wo⟩]⟩,
   ⟨0x700104, 4, 0x4, 1, 0x4, 0x0, [⟨0, 32, .rw⟩]⟩,
   ⟨0x700140, 32, 0x4, 1, 0x4, 0x0, [⟨0, 32, .rw⟩]⟩,
   ⟨0x7001C0, 4, 0x4, 1, 0x4, 0x0, [⟨0, 32, .ro⟩]⟩,
   ⟨0x700200, 1, 0x4, 1, 0x4, 0x0, [⟨0, 7, .rw⟩]⟩,
   ⟨0x700204, 1, 0x4, 1, 0x4, 0x40000000, [⟨31, 1, .st⟩, ⟨30, 1, .st⟩, ⟨0, 30, .st⟩]⟩,
   ⟨0x700208, 1, 0x4, 1, 0x4, 0x0, [⟨0, 32, .st⟩]⟩,
   ⟨0x70020C, 1, 0x4, 1, 0x4, 0x0, [⟨0, 32, .st⟩]⟩,
   ⟨0x700210, 1, 0x4, 1, 0x4, 0x0, [⟨0, 32, .st⟩]⟩,
   ⟨0x700214, 1, 0x4, 1, 0x4, 0xC0000000, [⟨0, 32, .st⟩]⟩,
   ⟨0x700218, 1, 0x4, 1, 0x4, 0x0, [⟨31, 1, .ro⟩, ⟨30, 1, .ro⟩, ⟨29, 1, .ro⟩, ⟨0, 2, .ro⟩]⟩]

/-- Registers of block SHR. -/
def RegMap.shr : List RegRow := RegMap.shr0

/-- Registers of block LANE (part 0). -/
def RegMap.lane0 : List RegRow :=
  [⟨0x800000, 649, 0x400, 1, 0x4, 0x0, [⟨1, 2, .rw⟩, ⟨0, 1, .wo⟩]⟩,
   ⟨0x800004, 649, 0x400, 1, 0x4, 0x0, [⟨7, 1, .ro⟩, ⟨6, 1, .ro⟩, ⟨5, 1, .ro⟩, ⟨0, 3, .ro⟩]⟩,
   ⟨0x800008, 649, 0x400, 1, 0x4, 0x0, [⟨24, 8, .rc⟩, ⟨16, 8, .ro⟩, ⟨8, 8, .ro⟩, ⟨0, 8, .ro⟩]⟩,
   ⟨0x80000C, 649, 0x400, 1, 0x4, 0x1008800C, [⟨24, 8, .st⟩, ⟨16, 8, .st⟩, ⟨15, 1, .st⟩, ⟨0, 7, .st⟩]⟩,
   ⟨0x800010, 649, 0x400, 2, 0x4, 0x0, [⟨0, 32, .ro⟩]⟩,
   ⟨0x800018, 649, 0x400, 2, 0x4, 0x0, [⟨0, 32, .ro⟩]⟩,
   ⟨0x800020, 649, 0x400, 1, 0x4, 0x84200000, [⟨0, 32, .rw⟩]⟩,
   ⟨0x800024, 649, 0x400, 1, 0x4, 0x0, [⟨0, 32, .rw⟩]⟩,
   ⟨0x800028, 649, 0x400, 1, 0x4, 0xC80, [⟨24, 4, .rw⟩, ⟨18, 6, .rw⟩, ⟨12, 6, .rw⟩, ⟨6, 6, .rw⟩, ⟨0, 6, .rw⟩]⟩,
   ⟨0x80002C, 649, 0x400, 1, 0x4, 0x0, [⟨4, 1, .w1c⟩, ⟨3, 1, .w1c⟩, ⟨2, 1, .w1c⟩, ⟨1, 1, .w1c⟩, ⟨0, 1, .w1c⟩]⟩,
   ⟨0x800030, 649, 0x400, 1, 0x4, 0x0, [⟨0, 8, .ro⟩]⟩,
   ⟨0x8A4000, 1, 0x4, 1, 0x4, 0x0, [⟨0, 1, .rw⟩]⟩,
   ⟨0x8A4004, 1, 0x4, 1, 0x4, 0x0, [⟨31, 1, .ro⟩, ⟨30, 1, .ro⟩, ⟨29, 1, .ro⟩, ⟨28, 1, .ro⟩, ⟨26, 2, .ro⟩, ⟨8, 8, .ro⟩, ⟨0, 8, .ro⟩]⟩,
   ⟨0x8A4008, 1, 0x4, 1, 0x4, 0x0, [⟨0, 12, .ro⟩]⟩,
   ⟨0x8A400C, 1, 0x4, 1, 0x4, 0x0, [⟨16, 16, .rc⟩, ⟨0, 16, .rc⟩]⟩,
   ⟨0x8A4010, 1, 0x4, 1, 0x4, 0x0, [⟨4, 1, .w1c⟩, ⟨3, 1, .w1c⟩, ⟨2, 1, .w1c⟩, ⟨1, 1, .w1c⟩, ⟨0, 1, .w1c⟩]⟩,
   ⟨0x8A4014, 1, 0x4, 1, 0x4, 0x0, [⟨0, 28, .ro⟩]⟩]

/-- Registers of block LANE. -/
def RegMap.lane : List RegRow := RegMap.lane0

/-- Registers of block PCH (part 0). -/
def RegMap.pch0 : List RegRow :=
  [⟨0x1000000, 256, 0x4000, 1, 0x4, 0x0, [⟨2, 1, .wo⟩, ⟨1, 1, .rw⟩, ⟨0, 1, .rw⟩]⟩,
   ⟨0x1000004, 256, 0x4000, 1, 0x4, 0x0, [⟨8, 8, .ro⟩, ⟨7, 1, .ro⟩, ⟨6, 1, .ro⟩, ⟨5, 1, .ro⟩, ⟨4, 1, .ro⟩, ⟨0, 4, .ro⟩]⟩,
   ⟨0x1000008, 256, 0x4000, 1, 0x4, 0x0, [⟨4, 1, .ro⟩, ⟨2, 2, .ro⟩, ⟨0, 2, .ro⟩]⟩,
   ⟨0x100000C, 256, 0x4000, 1, 0x4, 0x0, [⟨5, 1, .w1c⟩, ⟨4, 1, .w1c⟩, ⟨3, 1, .w1c⟩, ⟨2, 1, .w1c⟩, ⟨1, 1, .w1c⟩, ⟨0, 1, .w1c⟩]⟩,
   ⟨0x1000010, 256, 0x4000, 1, 0x4, 0x0, [⟨0, 32, .ro⟩]⟩,
   ⟨0x1000014, 256, 0x4000, 1, 0x4, 0x0, [⟨0, 19, .ro⟩]⟩,
   ⟨0x1000018, 256, 0x4000, 1, 0x4, 0x0, [⟨0, 32, .ro⟩]⟩,
   ⟨0x100001C, 256, 0x4000, 1, 0x4, 0x0, [⟨0, 30, .ro⟩]⟩,
   ⟨0x1000020, 256, 0x4000, 1, 0x4, 0x0, [⟨0, 32, .st⟩]⟩,
   ⟨0x1000024, 256, 0x4000, 1, 0x4, 0x0, [⟨0, 19, .st⟩]⟩,
   ⟨0x1000028, 256, 0x4000, 1, 0x4, 0x8502580, [⟨24, 8, .st⟩, ⟨20, 4, .st⟩, ⟨0, 14, .st⟩]⟩,
   ⟨0x100002C, 256, 0x4000, 1, 0x4, 0x0, [⟨0, 20, .ro⟩]⟩,
   ⟨0x1000030, 256, 0x4000, 1, 0x4, 0x0, [⟨16, 4, .ro⟩, ⟨8, 8, .ro⟩, ⟨0, 5, .ro⟩]⟩,
   ⟨0x1000040, 256, 0x4000, 1, 0x4, 0x0, [⟨0, 18, .rw⟩]⟩,
   ⟨0x1000044, 256, 0x4000, 1, 0x4, 0x0, [⟨16, 16, .rw⟩, ⟨0, 16, .rw⟩]⟩,
   ⟨0x1000048, 256, 0x4000, 1, 0x4, 0x0, [⟨2, 2, .rw⟩, ⟨1, 1, .rw⟩, ⟨0, 1, .rw⟩]⟩,
   ⟨0x100004C, 256, 0x4000, 1, 0x4, 0x0, [⟨5, 3, .ro⟩, ⟨4, 1, .ro⟩, ⟨0, 2, .wo⟩]⟩,
   ⟨0x1000100, 256, 0x4000, 1, 0x4, 0x1E044400, [⟨24, 7, .st⟩, ⟨16, 4, .st⟩, ⟨12, 4, .st⟩, ⟨4, 8, .st⟩]⟩,
   ⟨0x1000104, 256, 0x4000, 1, 0x4, 0x808, [⟨8, 8, .st⟩, ⟨0, 8, .st⟩]⟩,
   ⟨0x1000108, 256, 0x4000, 1, 0x4, 0x400803, [⟨16, 8, .st⟩, ⟨8, 4, .st⟩, ⟨0, 4, .st⟩]⟩,
   ⟨0x100010C, 256, 0x4000, 1, 0x4, 0x0, [⟨16, 9, .ro⟩, ⟨2, 1, .ro⟩, ⟨1, 1, .ro⟩, ⟨0, 1, .ro⟩]⟩,
   ⟨0x1000110, 256, 0x4000, 1, 0x4, 0x0, [⟨3, 1, .w1c⟩, ⟨2, 1, .w1c⟩, ⟨1, 1, .w1c⟩, ⟨0, 1, .w1c⟩]⟩,
   ⟨0x1000114, 256, 0x4000, 1, 0x4, 0x0, [⟨30, 2, .ro⟩, ⟨0, 21, .ro⟩]⟩,
   ⟨0x1000118, 256, 0x4000, 1, 0x4, 0x0, [⟨0, 32, .st⟩]⟩,
   ⟨0x100011C, 256, 0x4000, 1, 0x4, 0x0, [⟨0, 16, .st⟩]⟩,
   ⟨0x1000120, 256, 0x4000, 1, 0x4, 0x0, [⟨0, 16, .rw⟩]⟩,
   ⟨0x1000124, 256, 0x4000, 1, 0x4, 0x0, [⟨31, 1, .rw⟩, ⟨0, 18, .rw⟩]⟩,
   ⟨0x1000128, 256, 0x4000, 1, 0x4, 0x0, [⟨16, 1, .rw⟩, ⟨0, 16, .rw⟩]⟩,
   ⟨0x100012C, 256, 0x4000, 1, 0x4, 0x0, [⟨5, 3, .ro⟩, ⟨4, 1, .ro⟩, ⟨0, 2, .wo⟩]⟩,
   ⟨0x1000130, 256, 0x4000, 1, 0x4, 0x0, [⟨0, 16, .rw⟩]⟩,
   ⟨0x1000134, 256, 0x4000, 1, 0x4, 0x0, [⟨31, 1, .rw⟩, ⟨24, 4, .rw⟩, ⟨20, 3, .rw⟩, ⟨16, 3, .rw⟩, ⟨15, 1, .rw⟩, ⟨12, 2, .rw⟩, ⟨0, 12, .rw⟩]⟩,
   ⟨0x1000138, 256, 0x4000, 1, 0x4, 0x0, [⟨31, 1, .ro⟩, ⟨30, 1, .ro⟩, ⟨29, 1, .ro⟩, ⟨16, 8, .ro⟩, ⟨0, 12, .rw⟩]⟩,
   ⟨0x100013C, 256, 0x4000, 1, 0x4, 0x0, [⟨5, 3, .ro⟩, ⟨4, 1, .ro⟩, ⟨0, 3, .wo⟩]⟩,
   ⟨0x1000200, 256, 0x4000, 1, 0x4, 0x5EEC000, [⟨0, 32, .st⟩]⟩,
   ⟨0x1000204, 256, 0x4000, 1, 0x4, 0xD4A000, [⟨0, 32, .st⟩]⟩,
   ⟨0x1000208, 256, 0x4000, 1, 0x4, 0x0, [⟨0, 32, .st⟩]⟩,
   ⟨0x100020C, 256, 0x4000, 1, 0x4, 0x80400028, [⟨31, 1, .st⟩, ⟨16, 8, .st⟩, ⟨0, 16, .st⟩]⟩,
   ⟨0x1000210, 256, 0x4000, 1, 0x4, 0x3003E8, [⟨16, 8, .st⟩, ⟨0, 16, .st⟩]⟩,
   ⟨0x1000214, 256, 0x4000, 1, 0x4, 0x0, [⟨20, 4, .ro⟩, ⟨16, 4, .ro⟩, ⟨8, 8, .ro⟩, ⟨7, 1, .ro⟩, ⟨0, 6, .ro⟩]⟩,
   ⟨0x1000220, 256, 0x4000, 1, 0x4, 0x0, [⟨16, 1, .w1c⟩, ⟨12, 4, .ro⟩, ⟨8, 1, .ro⟩, ⟨0, 4, .wo⟩]⟩]

/-- Registers of block PCH (part 1). -/
def RegMap.pch1 : List RegRow :=
  [⟨0x1000224, 256, 0x4000, 1, 0x4, 0x0, [⟨28, 4, .rw⟩, ⟨16, 10, .rw⟩, ⟨0, 16, .rw⟩]⟩,
   ⟨0x1000228, 256, 0x4000, 1, 0x4, 0x0, [⟨0, 32, .rw⟩]⟩,
   ⟨0x100022C, 256, 0x4000, 1, 0x4, 0x0, [⟨0, 32, .rw⟩]⟩,
   ⟨0x1000230, 256, 0x4000, 1, 0x4, 0x0, [⟨0, 32, .rw⟩]⟩,
   ⟨0x1000240, 256, 0x4000, 8, 0x4, 0x0, [⟨0, 32, .ro⟩]⟩,
   ⟨0x1000260, 256, 0x4000, 1, 0x4, 0x0, [⟨0, 3, .rw⟩]⟩,
   ⟨0x1000264, 256, 0x4000, 4, 0x4, 0x0, [⟨0, 32, .ro⟩]⟩]

/-- Registers of block PCH. -/
def RegMap.pch : List RegRow := RegMap.pch0 ++ RegMap.pch1

/-- Registers of block HAL (part 0). -/
def RegMap.hal0 : List RegRow :=
  [⟨0x1400000, 1, 0x4, 1, 0x4, 0x28000, [⟨16, 2, .ro⟩, ⟨15, 1, .ro⟩, ⟨0, 8, .ro⟩]⟩,
   ⟨0x1400010, 8, 0x4, 1, 0x4, 0x0, [⟨30, 2, .ro⟩, ⟨16, 4, .ro⟩, ⟨10, 5, .ro⟩, ⟨5, 5, .ro⟩, ⟨0, 5, .ro⟩]⟩,
   ⟨0x1400030, 1, 0x4, 1, 0x4, 0x0, [⟨0, 26, .ro⟩]⟩,
   ⟨0x1400034, 1, 0x4, 1, 0x4, 0x0, [⟨0, 9, .ro⟩]⟩,
   ⟨0x1400040, 1, 0x4, 1, 0x4, 0x88B5, [⟨16, 16, .st⟩, ⟨0, 16, .st⟩]⟩,
   ⟨0x1400044, 1, 0x4, 1, 0x4, 0x2, [⟨8, 1, .st⟩, ⟨0, 8, .st⟩]⟩,
   ⟨0x1400048, 1, 0x4, 1, 0x4, 0x10001000, [⟨16, 13, .rc⟩, ⟨0, 13, .ro⟩]⟩,
   ⟨0x1400080, 1, 0x4, 1, 0x4, 0x0, [⟨0, 17, .rw⟩]⟩,
   ⟨0x1400084, 1, 0x4, 1, 0x4, 0x0, [⟨31, 1, .rw⟩, ⟨28, 3, .rw⟩, ⟨26, 2, .rw⟩, ⟨25, 1, .rw⟩, ⟨24, 1, .rw⟩, ⟨21, 3, .rw⟩, ⟨19, 2, .rw⟩, ⟨14, 4, .rw⟩, ⟨0, 14, .rw⟩]⟩,
   ⟨0x1400088, 1, 0x4, 1, 0x4, 0x0, [⟨24, 8, .rw⟩, ⟨0, 24, .rw⟩]⟩,
   ⟨0x140008C, 1, 0x4, 1, 0x4, 0x0, [⟨0, 24, .rw⟩]⟩,
   ⟨0x1400090, 1, 0x4, 1, 0x4, 0x0, [⟨28, 4, .rw⟩, ⟨25, 3, .rw⟩, ⟨0, 24, .rw⟩]⟩,
   ⟨0x1400094, 1, 0x4, 1, 0x4, 0x0, [⟨24, 8, .rw⟩, ⟨0, 16, .rw⟩]⟩,
   ⟨0x1400098, 1, 0x4, 1, 0x4, 0x0, [⟨0, 32, .ro⟩]⟩,
   ⟨0x140009C, 1, 0x4, 1, 0x4, 0x0, [⟨5, 3, .ro⟩, ⟨4, 1, .ro⟩, ⟨0, 3, .wo⟩]⟩,
   ⟨0x14000C0, 1, 0x4, 1, 0x4, 0x0, [⟨8, 1, .wo⟩, ⟨0, 8, .rw⟩]⟩,
   ⟨0x14000C4, 1, 0x4, 1, 0x4, 0x0, [⟨31, 1, .ro⟩, ⟨30, 1, .ro⟩, ⟨26, 4, .ro⟩, ⟨10, 16, .ro⟩, ⟨0, 10, .ro⟩]⟩,
   ⟨0x14000C8, 1, 0x4, 1, 0x4, 0x0, [⟨0, 9, .rw⟩]⟩,
   ⟨0x14000CC, 1, 0x4, 1, 0x4, 0x0, [⟨0, 32, .ro⟩]⟩,
   ⟨0x14000D0, 1, 0x4, 1, 0x4, 0x0, [⟨0, 32, .ro⟩]⟩,
   ⟨0x1410000, 256, 0x100, 1, 0x4, 0x8040080, [⟨24, 8, .st⟩, ⟨16, 8, .st⟩, ⟨0, 11, .st⟩]⟩,
   ⟨0x1410004, 256, 0x100, 1, 0x4, 0x810, [⟨8, 8, .st⟩, ⟨0, 8, .st⟩]⟩,
   ⟨0x1410008, 256, 0x100, 1, 0x4, 0x0, [⟨28, 4, .ro⟩, ⟨24, 4, .ro⟩, ⟨8, 8, .ro⟩, ⟨2, 1, .ro⟩, ⟨1, 1, .ro⟩, ⟨0, 1, .ro⟩]⟩,
   ⟨0x141000C, 256, 0x100, 1, 0x4, 0xFFFFFFFF, [⟨16, 16, .rc⟩, ⟨0, 16, .ro⟩]⟩,
   ⟨0x1410020, 256, 0x100, 4, 0x14, 0x0, [⟨31, 1, .st⟩, ⟨16, 1, .st⟩, ⟨0, 9, .st⟩]⟩,
   ⟨0x1410024, 256, 0x100, 4, 0x14, 0x0, [⟨0, 32, .st⟩]⟩,
   ⟨0x1410028, 256, 0x100, 4, 0x14, 0x0, [⟨0, 32, .st⟩]⟩,
   ⟨0x141002C, 256, 0x100, 4, 0x14, 0x0, [⟨0, 32, .st⟩]⟩,
   ⟨0x1410030, 256, 0x100, 4, 0x14, 0x0, [⟨0, 32, .st⟩]⟩]

/-- Registers of block HAL. -/
def RegMap.hal : List RegRow := RegMap.hal0

/-- Registers of block PRS (part 0). -/
def RegMap.prs0 : List RegRow :=
  [⟨0x1800000, 1, 0x4, 1, 0x4, 0x4000000, [⟨31, 1, .st⟩, ⟨26, 2, .st⟩, ⟨24, 2, .st⟩, ⟨0, 3, .st⟩]⟩,
   ⟨0x1800004, 1, 0x4, 1, 0x4, 0x80000000, [⟨31, 1, .st⟩, ⟨0, 6, .st⟩]⟩,
   ⟨0x1800008, 1, 0x4, 1, 0x4, 0x0, [⟨0, 17, .ro⟩]⟩,
   ⟨0x180000C, 1, 0x4, 1, 0x4, 0x0, [⟨21, 11, .ro⟩, ⟨9, 12, .ro⟩, ⟨0, 9, .ro⟩]⟩,
   ⟨0x1800010, 4, 0x4, 1, 0x4, 0x0, [⟨0, 32, .st⟩]⟩,
   ⟨0x1800020, 4, 0x4, 1, 0x4, 0xE, [⟨8, 1, .st⟩, ⟨7, 1, .st⟩, ⟨6, 1, .st⟩, ⟨5, 1, .st⟩, ⟨4, 1, .st⟩, ⟨3, 1, .st⟩, ⟨2, 1, .st⟩, ⟨1, 1, .st⟩, ⟨0, 1, .st⟩]⟩,
   ⟨0x1800100, 32, 0x8, 1, 0x4, 0x0, [⟨31, 1, .st⟩, ⟨0, 4, .st⟩]⟩,
   ⟨0x1800104, 32, 0x8, 1, 0x4, 0x0, [⟨16, 16, .st⟩, ⟨0, 16, .st⟩]⟩,
   ⟨0x1800200, 1, 0x4, 1, 0x4, 0x0, [⟨0, 16, .rw⟩]⟩,
   ⟨0x1800204, 1, 0x4, 1, 0x4, 0x0, [⟨5, 3, .ro⟩, ⟨4, 1, .ro⟩, ⟨0, 3, .wo⟩]⟩,
   ⟨0x1800300, 1, 0x4, 1, 0x4, 0x0, [⟨8, 6, .rw⟩, ⟨0, 6, .rw⟩]⟩,
   ⟨0x1800304, 1, 0x4, 1, 0x4, 0x0, [⟨0, 32, .rw⟩]⟩,
   ⟨0x1800308, 1, 0x4, 1, 0x4, 0x0, [⟨5, 3, .ro⟩, ⟨4, 1, .ro⟩, ⟨0, 3, .wo⟩]⟩,
   ⟨0x1800310, 1, 0x4, 1, 0x4, 0x0, [⟨0, 32, .ro⟩]⟩,
   ⟨0x1800314, 1, 0x4, 1, 0x4, 0x0, [⟨0, 32, .ro⟩]⟩,
   ⟨0x1800318, 1, 0x4, 1, 0x4, 0x0, [⟨0, 32, .ro⟩]⟩,
   ⟨0x180031C, 1, 0x4, 1, 0x4, 0x0, [⟨0, 32, .ro⟩]⟩,
   ⟨0x1800320, 4, 0x4, 1, 0x4, 0x0, [⟨0, 32, .ro⟩]⟩,
   ⟨0x1800400, 48, 0x4, 1, 0x4, 0x0, [⟨0, 32, .rw⟩]⟩]

/-- Registers of block PRS. -/
def RegMap.prs : List RegRow := RegMap.prs0

/-- Registers of block FWD (part 0). -/
def RegMap.fwd0 : List RegRow :=
  [⟨0x1A00000, 1, 0x4, 1, 0x4, 0x3, [⟨1, 1, .rw⟩, ⟨0, 1, .rw⟩]⟩,
   ⟨0x1A00004, 1, 0x4, 1, 0x4, 0x0, [⟨16, 14, .ro⟩, ⟨0, 15, .ro⟩]⟩,
   ⟨0x1A00008, 1, 0x4, 1, 0x4, 0x3E80008, [⟨16, 16, .st⟩, ⟨0, 4, .st⟩]⟩,
   ⟨0x1A00010, 1, 0x4, 1, 0x4, 0x0, [⟨0, 4, .rw⟩]⟩,
   ⟨0x1A00014, 1, 0x4, 1, 0x4, 0x0, [⟨15, 15, .ro⟩]⟩,
   ⟨0x1A00018, 1, 0x4, 1, 0x4, 0x0, [⟨0, 21, .ro⟩]⟩,
   ⟨0x1A00020, 1, 0x4, 1, 0x4, 0x0, [⟨0, 9, .rw⟩]⟩,
   ⟨0x1A00024, 1, 0x4, 1, 0x4, 0x0, [⟨31, 1, .ro⟩, ⟨24, 4, .ro⟩, ⟨23, 1, .ro⟩, ⟨0, 20, .ro⟩]⟩,
   ⟨0x1A00040, 1, 0x4, 1, 0x4, 0x0, [⟨31, 1, .rw⟩, ⟨24, 4, .rw⟩, ⟨0, 20, .rw⟩]⟩,
   ⟨0x1A00044, 1, 0x4, 1, 0x4, 0x0, [⟨0, 32, .rw⟩]⟩,
   ⟨0x1A00048, 1, 0x4, 1, 0x4, 0x0, [⟨0, 32, .rw⟩]⟩,
   ⟨0x1A0004C, 1, 0x4, 1, 0x4, 0x0, [⟨0, 32, .rw⟩]⟩,
   ⟨0x1A00050, 1, 0x4, 1, 0x4, 0x0, [⟨0, 32, .ro⟩]⟩,
   ⟨0x1A00054, 1, 0x4, 1, 0x4, 0x0, [⟨12, 3, .ro⟩, ⟨10, 2, .rw⟩, ⟨9, 1, .ro⟩, ⟨0, 4, .wo⟩]⟩]

/-- Registers of block FWD. -/
def RegMap.fwd : List RegRow := RegMap.fwd0

/-- Registers of block FAB (part 0). -/
def RegMap.fab0 : List RegRow :=
  [⟨0x1C00000, 1, 0x4, 1, 0x4, 0x0, [⟨16, 8, .ro⟩, ⟨8, 1, .ro⟩]⟩,
   ⟨0x1C00010, 1, 0x4, 1, 0x4, 0x3, [⟨1, 1, .st⟩, ⟨0, 1, .st⟩]⟩,
   ⟨0x1C00014, 1, 0x4, 1, 0x4, 0x1000, [⟨0, 15, .st⟩]⟩,
   ⟨0x1C00018, 1, 0x4, 1, 0x4, 0x19100040, [⟨24, 8, .st⟩, ⟨16, 8, .st⟩, ⟨0, 16, .st⟩]⟩,
   ⟨0x1C0001C, 1, 0x4, 1, 0x4, 0x800, [⟨0, 16, .st⟩]⟩,
   ⟨0x1C00020, 1, 0x4, 1, 0x4, 0x32, [⟨0, 14, .st⟩]⟩,
   ⟨0x1C00040, 1, 0x4, 1, 0x4, 0x0, [⟨0, 3, .rw⟩]⟩,
   ⟨0x1C00044, 1, 0x4, 1, 0x4, 0x0, [⟨31, 1, .ro⟩, ⟨0, 21, .ro⟩]⟩,
   ⟨0x1C00048, 1, 0x4, 1, 0x4, 0x1FFFFF, [⟨0, 21, .rc⟩]⟩,
   ⟨0x1C0004C, 1, 0x4, 1, 0x4, 0x0, [⟨0, 21, .ro⟩]⟩,
   ⟨0x1C00050, 1, 0x4, 1, 0x4, 0x0, [⟨0, 3, .rw⟩]⟩,
   ⟨0x1C00054, 1, 0x4, 1, 0x4, 0x0, [⟨0, 20, .ro⟩]⟩,
   ⟨0x1C00058, 1, 0x4, 1, 0x4, 0x0, [⟨0, 20, .ro⟩]⟩,
   ⟨0x1C00060, 1, 0x4, 1, 0x4, 0x0, [⟨0, 9, .rw⟩]⟩,
   ⟨0x1C00064, 1, 0x4, 1, 0x4, 0x0, [⟨30, 2, .ro⟩, ⟨0, 14, .ro⟩]⟩,
   ⟨0x1C00068, 1, 0x4, 1, 0x4, 0x0, [⟨0, 20, .ro⟩]⟩,
   ⟨0x1C00070, 6, 0x4, 1, 0x4, 0x0, [⟨0, 32, .ro⟩]⟩,
   ⟨0x1C00090, 1, 0x4, 1, 0x4, 0x0, [⟨0, 16, .rc⟩]⟩]

/-- Registers of block FAB. -/
def RegMap.fab : List RegRow := RegMap.fab0

/-- Registers of block SHT (part 0). -/
def RegMap.sht0 : List RegRow :=
  [⟨0x2000000, 1, 0x4, 1, 0x4, 0x0, [⟨16, 16, .ro⟩, ⟨0, 16, .ro⟩]⟩,
   ⟨0x2000010, 1, 0x4, 1, 0x4, 0x14FFFF, [⟨28, 4, .st⟩, ⟨16, 12, .st⟩, ⟨0, 16, .st⟩]⟩,
   ⟨0x2000014, 1, 0x4, 1, 0x4, 0x3D090, [⟨16, 16, .st⟩, ⟨0, 16, .st⟩]⟩,
   ⟨0x2000100, 1, 0x4, 1, 0x4, 0x0, [⟨24, 3, .rw⟩, ⟨0, 19, .rw⟩]⟩,
   ⟨0x2000104, 7, 0x4, 1, 0x4, 0x0, [⟨0, 32, .rw⟩]⟩,
   ⟨0x2000120, 1, 0x4, 1, 0x4, 0x0, [⟨5, 3, .ro⟩, ⟨4, 1, .ro⟩, ⟨0, 3, .wo⟩]⟩,
   ⟨0x2000140, 1, 0x4, 1, 0x4, 0x0, [⟨19, 1, .rw⟩, ⟨0, 18, .rw⟩]⟩,
   ⟨0x2000144, 1, 0x4, 1, 0x4, 0x0, [⟨4, 1, .ro⟩, ⟨0, 2, .wo⟩]⟩,
   ⟨0x2000148, 1, 0x4, 1, 0x4, 0x0, [⟨0, 32, .ro⟩]⟩,
   ⟨0x200014C, 1, 0x4, 1, 0x4, 0x0, [⟨0, 32, .ro⟩]⟩,
   ⟨0x2000150, 1, 0x4, 1, 0x4, 0x0, [⟨0, 32, .ro⟩]⟩,
   ⟨0x2000154, 1, 0x4, 1, 0x4, 0x0, [⟨0, 32, .ro⟩]⟩,
   ⟨0x2000200, 1, 0x4, 1, 0x4, 0x0, [⟨0, 4, .rw⟩]⟩,
   ⟨0x2000204, 1, 0x4, 1, 0x4, 0x0, [⟨0, 32, .st⟩]⟩,
   ⟨0x2000208, 1, 0x4, 1, 0x4, 0x0, [⟨0, 16, .st⟩]⟩,
   ⟨0x200020C, 1, 0x4, 1, 0x4, 0x0, [⟨0, 30, .st⟩]⟩,
   ⟨0x2000210, 1, 0x4, 1, 0x4, 0x0, [⟨0, 30, .st⟩]⟩,
   ⟨0x2000214, 1, 0x4, 1, 0x4, 0x0, [⟨0, 9, .st⟩]⟩,
   ⟨0x2000218, 1, 0x4, 1, 0x4, 0x0, [⟨0, 8, .rw⟩]⟩,
   ⟨0x200021C, 1, 0x4, 1, 0x4, 0x0, [⟨24, 8, .st⟩, ⟨0, 24, .st⟩]⟩,
   ⟨0x2000220, 1, 0x4, 1, 0x4, 0x0, [⟨31, 1, .ro⟩, ⟨30, 1, .ro⟩, ⟨9, 8, .ro⟩, ⟨0, 9, .ro⟩]⟩,
   ⟨0x2000228, 1, 0x4, 1, 0x4, 0x0, [⟨0, 32, .st⟩]⟩,
   ⟨0x200022C, 1, 0x4, 1, 0x4, 0x0, [⟨0, 16, .st⟩]⟩]

/-- Registers of block SHT. -/
def RegMap.sht : List RegRow := RegMap.sht0

/-- The rows of the block that holds the address (R401). -/
def RegMap.rows (a : Nat) : List RegRow :=
  if a < 0x100000 then RegMap.glb
  else if a < 0x200000 then RegMap.rig
  else if a < 0x300000 then RegMap.mbx
  else if a < 0x400000 then RegMap.cnt
  else if a < 0x500000 then RegMap.tim
  else if a < 0x600000 then RegMap.mem
  else if a < 0x700000 then RegMap.mate
  else if a < 0x800000 then RegMap.shr
  else if a < 0x1000000 then RegMap.lane
  else if a < 0x1400000 then RegMap.pch
  else if a < 0x1800000 then RegMap.hal
  else if a < 0x1A00000 then RegMap.prs
  else if a < 0x1C00000 then RegMap.fwd
  else if a < 0x2000000 then RegMap.fab
  else if a < 0x2800000 then RegMap.sht
  else []

/-- The row's address pattern holds the address: base + i × s1 + j × s2 for an instance (i, j). -/
def RegRow.holds (r : RegRow) (a : Nat) : Bool :=
  decide (r.base ≤ a) &&
  (let d := a - r.base
   let e := d % r.s1
   decide (d / r.s1 < r.n1) && decide (e % r.s2 = 0) && decide (e / r.s2 < r.n2))

/-- The row of the register at an address, if one is allocated there (R10). -/
def RegMap.row? (a : Nat) : Option RegRow := (RegMap.rows a).find? (fun r => r.holds a)

/-- The reset value of the register at an address. Two registers take a value that depends on the instance:
HAL_SLICE(k) (R151: slice k runs on builders 3k, 3k+1, 3k+2 and checker pair k) and SHR_LANE(l) (R253: logical lane l
on physical lane l). Bits above bit 31 of the key select an instance (State.regs). -/
def RegMap.reset (key : Nat) : Word :=
  let a := key % 0x100000000
  if 0x1400010 ≤ a ∧ a < 0x1400030 then
    let k := (a - 0x1400010) / 4
    BitVec.ofNat 32 (k * 65536 + (3 * k + 2) * 1024 + (3 * k + 1) * 32 + 3 * k)
  else if 0x700040 ≤ a ∧ a < 0x700080 then BitVec.ofNat 32 ((a - 0x700040) / 4 * 16777216)
  else
    match RegMap.row? a with
    | some r => BitVec.ofNat 32 r.rst
    | none => 0

/-- The bits of a register that its fields with one of the given access codes cover. -/
def RegRow.mask (r : RegRow) (p : Access → Bool) : Nat :=
  r.flds.foldl (fun m f => if p f.acc then m ||| ((2 ^ f.width - 1) <<< f.lo) else m) 0

end Sys2Proof.Machine
end

