-- ==== Sys2Proof/Machine/State.lean ====
section
/-! DEFINITION. The state of the block as plain data: every register, table, queue, counter, mode and pin the spec gives it, and
the queue of waiting commands. -/

namespace Sys2Proof.Machine

/-- One posted event (R348): its code, sequence number, the time base and the epoch when it was raised, its data words. -/
structure EventRec where
  code : Nat
  seq : Nat
  ns : Nat
  sec : Nat
  epoch : Nat
  data : List Nat
deriving DecidableEq, Repr

/-- The completion of the last register access (R5): Unsupported Request, or the data words returned. -/
structure Resp where
  ur : Bool
  data : List Word
deriving DecidableEq, Repr

/-- The event queue (R348, R349). -/
structure EvqSt where
  /-- Events posted while the queue is enabled and not yet written, oldest first. -/
  raised : List EventRec
  /-- Events kept while the queue is disabled, at most 256. -/
  kept : List EventRec
  /-- The next sequence number, 32 bits. -/
  seq : Nat
  /-- Events dropped since the last EVQ_OVERFLOW entry. -/
  dropped : Nat
  /-- The first dropped sequence number. -/
  firstDropped : Nat
  /-- The phase bit of the present lap. -/
  phase : Bool
  /-- Vectors inside their holdoff (R348). -/
  holding : Table Bool
  /-- Vectors with an event that fell within the holdoff. -/
  waiting : Table Bool
deriving DecidableEq, Repr

/-- The mailboxes and lock registers (R350 to R356). -/
structure MbxSt where
  /-- Outbound queue of each side, keyed 2 × channel + side; a word and its writer's master identity. -/
  out : Table (List (Nat × Nat))
  /-- Writer of the last word that a master removed from a side, keyed 64 × (2 × channel + side) + master. -/
  src : Table Nat
  /-- The lock registers: 0 free, else the holder's master identity plus 1. -/
  locks : Table Nat
  /-- Virtual functions whose reset sequence runs (R347). -/
  flr : List Nat
  /-- Words of a request that firmware has yet to take from a side's inbound queue, keyed as out (R354). -/
  skip : Table Nat
deriving DecidableEq, Repr

/-- A DMA queue pair beyond its registers (R342 to R346). -/
structure QpSt where
  txTail : Nat
  rxTail : Nat
  /-- Descriptors taken since the last write-back (R344). -/
  sinceWb : Nat
  /-- enable was cleared and the pair has not stopped (R346). -/
  stopping : Bool
deriving DecidableEq, Repr

/-- An extent of a snapshot: kind, first index, count. -/
structure Extent where
  kind : Nat
  first : Nat
  count : Nat
deriving DecidableEq, Repr

/-- The snapshot engine (R362, R363). -/
structure SnapSt where
  number : Nat
  addr : Nat
  extents : List Extent
  /-- The header fields taken at the cut: epochs, seconds, nanoseconds, gen. -/
  cut : List Nat
  /-- The words of the cut that wait to be written, in the output's order: offset after the header, size in bytes, value. -/
  body : List (Nat × Nat × Nat)
  running : Bool
  aborted : Bool
  /-- A snapshot has ended since reset. -/
  lastDone : Bool
deriving DecidableEq, Repr

/-- A staged entry in staging order (R406): key, whether it came through a register or window, trim section index. -/
structure StagedEnt where
  key : Nat
  isReg : Bool
  stagedReg : Bool
  section_ : Nat
deriving DecidableEq, Repr

/-- What waits for a persistent journal record to be written (R334). -/
inductive JnlAct where
  /-- Nothing waits. -/
  | none
  /-- The structural part and the event of the retirement of the record's resource (R381). -/
  | retire
  /-- The completion of the un-retirement of the record's resource (R382). -/
  | unretire
  /-- The reset that follows the slot change of a trial expiry (R47). -/
  | trialReset
deriving DecidableEq, Repr

/-- A journal record (R333) and what waits for it. -/
structure JnlRec where
  typ : Nat
  seq : Nat
  sec : Nat
  ns : Nat
  code : Nat
  epoch : Nat
  cls : Nat
  obj : Nat
  detail : List Nat
  act : JnlAct
deriving DecidableEq, Repr

/-- An image slot of the flash (R46, R331) with its state record. -/
structure Slot where
  st : Nat
  img : Image
deriving DecidableEq, Repr

/-- A retirement whose record is queued or written, as GLB_RET_DATA lists it. -/
structure RetEnt where
  cls : Nat
  obj : Nat
  sec : Nat
deriving DecidableEq, Repr

/-- The staging machine and the epochs beyond RIG_STS and RIG_EPOCH (R50 to R58). -/
structure RigSt where
  /-- The machine entered OPEN at an apply instant and has taken no CHECK, APPLY, DISCARD or staging write since. -/
  fresh : Bool
  /-- The scheduled time latched by APPLY (R56): sched, seconds, nanoseconds. -/
  sched : Bool
  schedSec : Nat
  schedNs : Nat
  /-- The tick at which the trial countdown started (R47). -/
  trialStart : Option Nat
  /-- Violations that LOAD_TRIM found in the blobs of the staged set, which the next check records (R52). -/
  pre : List Violation
  /-- Violation records of the last check, at most 256. -/
  viols : List Violation
  /-- Device-initiated applies due, in the order in which they fell due: class and object (R53). -/
  devApplies : List (Nat × Nat)
  /-- The region being re-rigged and the slot its sections come from (R58). -/
  region : Nat
  regionSlot : Nat
  /-- Commands running beside the staging machine. -/
  attestBusy : Bool
  loadTrimBusy : Bool
  loadSlotBusy : Bool
  /-- The fields ATTEST took at its commit point. -/
  attest : List Nat
  /-- The fused owner hash (R44). -/
  ownerHash : Option Nat
  /-- The rigging the device runs: the structural sections of the running image and what retirements narrowed. -/
  run : Image
  /-- Flash slots A and B. -/
  slotA : Slot
  slotB : Slot
  /-- A fallback happened at this boot (R47). -/
  fellBack : Bool
  /-- Regions marked suspect (R39), encoded as in R42. -/
  suspect : List Nat
  /-- Regions whose recovery from a first fault is in progress (R38, R39). -/
  recovering : List Nat
deriving DecidableEq, Repr

/-- Supply, reset, thermal supervision and the retirement ladder (R368 to R382). -/
structure SupSt where
  /-- The ordering code's grade, from the fuses: true for -H. -/
  gradeH : Bool
  /-- The device is in reefed hold (kept in AON, R411). -/
  reefed : Bool
  /-- Lowest VDD_CORE of the present hold in mV, and of the present reading. -/
  holdMin : Nat
  vddCore : Nat
  /-- Device clock, in time-base ticks of 1.6 ns since power-on, for the ladder's windows (R379). -/
  tick : Nat
  /-- The tick of the last exit from reefed hold, if any. -/
  reefExit : Option Nat
  /-- Domains held in reset (R372): 0 AON, 1 TIM, 2 HIF, 3 MAST, 4 MEM, 5 SHR, 6 LANE, 7 DATA. -/
  held : List Nat
  /-- Why start-up waits, a sum: 1 supplies (R374), 2 temperature (R378), 4 PERST# asserted (R375). -/
  hold : Nat
  /-- Supplies below their reset level at the last supply reset (R386). -/
  supplyMask : Nat
  supplyResetDue : Bool
  /-- Highest Tj of the thermal reset that awaits its THERM_CRIT (R378). -/
  thermCrit : Option Int
  /-- THERM_WARN and THERM_MAX are posted and not yet re-armed by the 3 °C of hysteresis (R377). -/
  warned : Bool
  maxed : Bool
  /-- Times of the faults of each resource inside its window, in device ticks, keyed class × 2^32 + index (R379). -/
  faults : Table (List Nat)
  /-- Retired resources, ordered by class and then index. -/
  retired : List RetEnt
  /-- The resource whose un-retirement runs: class, object (R382). -/
  unret : Option (Nat × Nat)
  /-- Windows since each sentinel was last slow: fabric, parser, Halyard; 16 ends the recovery (R32). -/
  quiet : List Nat
  /-- Sentinel was slow and has not recovered. -/
  slow : List Bool
  /-- Packets discarded by a re-rig (R58). -/
  rerigDiscard : Nat
  /-- I2C masters whose command waits for VDD_AUX (R398). -/
  i2cWait : List Nat
deriving DecidableEq, Repr

/-- An entry of a transmit-stamp queue (R264): its three words. -/
structure TsqEnt where
  w0 : Nat
  w1 : Nat
  w2 : Nat
deriving DecidableEq, Repr

/-- The time base and its pins (R258 to R270). -/
structure TimSt where
  sec : Nat
  ns : Nat
  frac : Nat
  /-- The increment in force (R259). -/
  incNs : Nat
  incFrac : Nat
  /-- A fraction written to TIM_INC_FRAC and not yet committed. -/
  incHeld : Nat
  /-- SET_AT_PPS waits: the seconds taken at its command write (R260). -/
  setAtPps : Option Nat
  /-- The stamp queues of the uplink groups (R265). -/
  tsq : Table (List TsqEnt)
  /-- The ToD input FIFO (R268). -/
  todi : List Nat
  /-- The PPS_OUT edge whose ToD message is due: its seconds. -/
  ppsEdge : Option Nat
  /-- PPS_IN_LOSS was posted and no edge has returned. -/
  ppsLost : Bool
deriving DecidableEq, Repr

/-- An entry of the uncorrectable log. -/
structure UeEnt where
  mem : Nat
  ix : Nat
  owner : Nat
  obj : Nat
  foundBy : Nat
deriving DecidableEq, Repr

/-- An entry of the weak-word tracker (R326, R327): last is the tick of its last correction; order is the number of the last correction, for the oldest. -/
structure WeakEnt where
  mem : Nat
  ix : Nat
  count : Nat
  ue : Bool
  last : Nat
  order : Nat
deriving DecidableEq, Repr

/-- An entry of a merge buffer (R320): the bytes written so far, by byte position; whether the read has returned. -/
structure MergeEnt where
  mem : Nat
  ix : Nat
  bytes : Table (Option Nat)
  read : Option Ecc
  order : Nat
deriving DecidableEq, Repr

/-- The scrubber's pass (R322 to R324). -/
structure ScrubSt where
  mem : Nat
  first : Nat
  last : Nat
  /-- The next index to read, and the last one checked. -/
  next : Nat
  done : Nat
  number : Nat
  checked : Nat
  corrected : Nat
  poisoned : Nat
  already : Nat
  skipped : Nat
  weakMade : Nat
  spares : Nat
  running : Bool
  /-- The end word has been read, or the pass was aborted: it awaits its summary. -/
  ended : Bool
  aborted : Bool
  startTick : Nat
deriving DecidableEq, Repr

/-- Memory integrity and the journal (R317 to R335). -/
structure MemSt where
  /-- Poisoned code words, keyed memory × 2^32 + index. -/
  poison : Table Bool
  /-- Words stored with inverted bits (R325): 1 correctable, 2 not. -/
  flipped : Table Nat
  ueLog : List UeEnt
  tracker : List WeakEnt
  merge : List MergeEnt
  scrub : ScrubSt
  /-- Order stamp for the tracker and the merge buffer. -/
  order : Nat
  /-- Banks spared or rows mapped, by memory. -/
  spared : Table Nat
  /-- Spare banks or remap rows used up, by memory. -/
  used : Table Nat
  /-- Rows repaired by hPPR, by memory. -/
  ppr : Table Nat
  /-- Bank copies and row copies in progress: memory and bank or row. -/
  copying : List (Nat × Nat)
  /-- Rows mapped in the remap tables (R329): memory and row. -/
  rowMap : List (Nat × Nat)
  /-- The persistent queue, the ordinary queue, records that wait for space (R334), and the records in flash. -/
  jnlP : List JnlRec
  jnlO : List JnlRec
  jnlWait : List JnlRec
  jnl : List JnlRec
  jnlSeq : Nat
  /-- JNL_DROP has been posted and its queue has not emptied since. -/
  jnlDropSaid : Bool
  /-- Good journal blocks: 2,032 on 256 MiB (R331). -/
  jnlBlocks : Nat
  /-- Weak flash blocks awaiting refresh. -/
  weakBlocks : List Nat
deriving DecidableEq, Repr

/-- An allocation structure of a bandwidth map (R135), with the Alloc context it serves: Alloc-ID, flags, start time, grant size,
burst profile, the ONU context; kind 0 data, 1 serial-number grant, 2 ranging grant, 3 telltale burst; the payload bytes it grants, and
those of them that are fixed and assured. -/
structure MapEnt where
  alloc : Nat
  allocId : Nat
  onu : Nat
  dbru : Bool
  ploam : Bool
  start : Nat
  size : Nat
  fwi : Bool
  profile : Nat
  kind : Nat
  pay : Nat
  fixed : Nat
  asg : Nat
deriving DecidableEq, Repr

/-- The rest of a fragmented packet (R79): port-ID, key index, bytes left. -/
structure FragRest where
  portId : Nat
  keyIx : Nat
  left : Nat
deriving DecidableEq, Repr

/-- A PON channel's downstream side beyond its registers (R65 to R82). -/
structure DsSt where
  /-- PLOAM queues (R76), oldest first. -/
  urgent : List Ploam
  unicast : List Ploam
  broadcast : List Ploam
  /-- The channel's broadcast sequence counter (R74). -/
  seqB : Nat
  /-- Frames since the last entry to RUNNING, for Burst_Profile (R410), and the slot last sent. -/
  frames : Nat
  bpLast : Option Nat
  /-- The map the channel sent in its last frame (R71) and its epoch (R73). -/
  map : List MapEnt
  /-- PON-ID, ploam_max and bp_period the next frame holds from the epoch of its map's building (R73). -/
  heldCfg : List Nat
  /-- Space left in the payload of the frame in progress, and PLOAM messages it carries. -/
  space : Nat
  ploamSent : List Ploam
  rest : Option FragRest
  /-- The edge buffer: packets Sheet released (R229), oldest first. -/
  edge : List Pkt
  /-- enable was cleared in RUNNING: the frame in progress is the last (R65). -/
  stopping : Bool
  /-- The lane transmitter, the module and the quad island as the channel sees them. -/
  readyTimer : Bool
  /-- After RUNNING was left: the ladder allowed a retry. -/
  retryOk : Bool
  /-- Seconds of the frame start in full, and its fraction below 1 ns, for R266. -/
  startSec : Nat
  startFrac : Nat
deriving DecidableEq, Repr

/-- A PM second (R106): class 0 ok, 1 es, 2 ses; marked unavailable; its time-base second. -/
structure PmSec where
  cls : Nat
  unavail : Bool
  sec : Nat
deriving DecidableEq, Repr

/-- A ranging measurement in progress (R120). -/
structure Meas where
  tries : Nat
  rtdMin : Nat
  rtdMax : Nat
  profile : Nat
deriving DecidableEq, Repr

/-- An ONU context (R111, R112): states 0 FREE, 1 IDLE, 2 ASSIGNED, 3 RANGING, 4 ACTIVE, 5 LOST. Fields with the suffix Now are
those in force since the last PON frame boundary; the others are those the commands taken since then gave (R112, R113). -/
structure OnuCtx where
  st : Nat
  chan : Nat
  sn0 : Nat
  sn1 : Nat
  onuId : Nat
  keyIx : Nat
  stNow : Nat
  chanNow : Nat
  onuIdNow : Nat
  keyIxNow : Nat
  /-- State before RANGING; the measurement in progress; its last outcome, 0 MEASURED to 4 CH_LEFT; an outcome MEASURED since RANGE. -/
  prior : Nat
  meas : Option Meas
  outcome : Nat
  measured : Bool
  rtd : Nat
  eqd : Nat
  residue : Nat
  /-- Drift filter, drift flag, stored proposal (rtd, eqd, residue), PON frames left of a pending update (R122 to R124). -/
  f : Int
  drift : Bool
  prop : Option (Nat × Nat × Nat)
  update : Option Nat
  /-- Equaliser preset (R91). -/
  presetValid : Bool
  preset : Nat
  fomPreset : Nat
  /-- PLOAM sequence counter (R74). -/
  seqU : Nat
  /-- LOBi, the run of missed bursts, the dying gasp of the last good burst (R99 to R102). -/
  lobi : Bool
  missed : Nat
  gasp : Bool
  /-- The present PM second: bursts granted and errored, FAULT, RETIRED, LOBi or LOS seen; the pending seconds; unavailable (R105, R106). -/
  granted : Nat
  errored : Nat
  lossSeen : Bool
  pm : List PmSec
  unavail : Bool
deriving DecidableEq, Repr

/-- The open packet of an Alloc context (R97): its fragments so far, PON frames since the Alloc's last good burst, a byte of it in an
uncorrectable codeword. -/
structure OpenPkt where
  pkt : UsPkt
  age : Nat
  bad : Bool
deriving DecidableEq, Repr

/-- A channel's upstream side beyond its registers (R89 to R101). -/
structure UsSt where
  /-- Packets reassembled and not yet in the core, oldest first. -/
  edge : List UsPkt
  /-- The open packet of each Alloc context, and PON frames since its last good burst (R97). -/
  reasm : Table (Option OpenPkt)
  /-- Consecutive PON frames with grants and no qualified delimiter (R99). -/
  silent : Nat
  /-- The frame in progress granted a burst; a delimiter of it qualified. -/
  frameGranted : Bool
  frameHeard : Bool
  /-- The last rogue-check windows, newest first: an observation fell in it. -/
  rogueWin : List Bool
deriving DecidableEq, Repr

/-- A response record (R118): serial number, coarse offset, profile, frame, known context. -/
structure DiscRec where
  ans : DiscAnswer
  frame : Nat
  known : Option Nat
deriving DecidableEq, Repr

/-- A channel's discovery window (R116 to R119). -/
structure DiscSt where
  opened : Bool
  engine : Nat
  rtdMin : Nat
  rtdMax : Nat
  profile : Nat
  frames : Nat
  /-- Frames whose grant is planned, and frames whose search span has ended. -/
  planned : Nat
  spent : Nat
  /-- Answers kept in the present frame, and all records of the last window, oldest first. -/
  inFrame : Nat
  total : Nat
  recs : List DiscRec
  /-- The last window ended and no other was opened since. -/
  ended : Bool
deriving DecidableEq, Repr

/-- The dynamic state of an Alloc context (R143, R144): credits, fixed bytes owed, backlog, frames since the last DBRu, and bytes
granted in accepted maps by superframe, newest first. -/
structure AllocDyn where
  ca : Nat
  cm : Nat
  fo : Nat
  b : Nat
  lastPoll : Nat
  granted : List (Nat × Nat)
deriving DecidableEq, Repr

/-- A reservation of a channel on the arrival axis (R153), in ranging ticks from the start of superframe 0. -/
structure Reserve where
  chan : Nat
  lo : Int
  hi : Int
deriving DecidableEq, Repr

/-- A telltale reservation (R156, R157): channel, Alloc context, tag, bytes, superframe, gate opening in ns, pinned start. -/
structure Tell where
  chan : Nat
  alloc : Nat
  tag : Nat
  size : Nat
  sfc : Nat
  gate : Nat
  start : Nat
deriving DecidableEq, Repr

/-- A planned discovery or ranging grant (R153): Alloc-ID, ONU context for ranging, start, profile. -/
structure Plan where
  allocId : Nat
  onu : Option Nat
  start : Nat
  profile : Nat
deriving DecidableEq, Repr

/-- A burst profile as a snapshot holds it: slot, valid, preamble bytes, FEC. -/
structure BProf where
  slot : Nat
  valid : Bool
  preamble : Nat
  fec : Bool
deriving DecidableEq, Repr

/-- The snapshot of a map build (R133, R145, R147): channel, superframe, epoch; mode and bytes of a map unit, ticks of a unit, frame length
and guard in units; arrival of unit 0 on the arrival axis; valid profiles; the Alloc contexts of ACTIVE ONUs with their words; ONU
contexts with their ONU-IDs; reservations; plans with the reservations they made; ONU contexts whose PLOAMu is due; ac_frames and
poll_frames; PON-ID, ploam_max and bp_period (R73); a poisoned input was read. -/
structure Snap where
  chan : Nat
  sfc : Nat
  epoch : Nat
  mode : Nat
  unit : Nat
  ut : Nat
  flen : Nat
  gu : Nat
  base : Int
  profs : List BProf
  allocs : List (Nat × List Nat)
  onus : List (Nat × Nat)
  reserves : List (Int × Int)
  plans : List Plan
  planRes : List (Int × Int)
  due : List Nat
  ac : Nat
  poll : Nat
  cfg : List Nat
  poisoned : Bool
deriving DecidableEq, Repr

/-- An Alloc in the passes of a build (R145): context and words, ONU context and ONU-ID, demand less fixed and pinned bytes, credits, and the
bytes given it. -/
structure Ent where
  ix : Nat
  ws : List Nat
  onu : Nat
  onuId : Nat
  d : Int
  ca : Nat
  cm : Nat
  fixed : Nat
  pinned : Nat
  asg : Nat
  other : Nat
  poll : Bool
deriving DecidableEq, Repr

/-- A map build between its snapshot and its verdict: the snapshot, the map the builders give, its telltale bursts, deferred bursts. -/
structure Build where
  snap : Snap
  map : List MapEnt
  pins : Nat
  defer : Nat
deriving DecidableEq, Repr

/-- The verdict on a frame's map: superframe, map or none when held, reason, epoch, PON-ID and configuration of the epoch. -/
structure Verdict where
  sfc : Nat
  map : Option (List MapEnt)
  reason : Nat
  epoch : Nat
  cfg : List Nat
deriving DecidableEq, Repr

/-- Halyard's state of one channel (R133 to R150). -/
structure HalCh where
  builds : List Build
  verdicts : List Verdict
  /-- No map of Halyard's own was accepted since RUNNING was entered; it was entered from STANDBY. -/
  first : Bool
  mirrored : Bool
  /-- The map of the last frame decided, and its Ratline reservations counted from its frame's start. -/
  last : List MapEnt
  lastRes : List (Int × Int)
  /-- The episode in progress: a frame with reason 3 to 6 was in it; its length; held frames since MAP_REINIT. -/
  bad : Bool
  len : Nat
  sinceReinit : Option Nat
  /-- Frames since the last PLOAMu of each ONU context, 255 when it is due; firmware's requests. -/
  ploamuAge : Table Nat
  ploamuReq : List Nat
deriving DecidableEq, Repr

/-- Halyard beyond its registers. -/
structure HalSt where
  dyn : Table AllocDyn
  ch : Table HalCh
  reserves : List Reserve
  tells : List Tell
  /-- Status reports taken from bursts and not yet taken by Halyard: Alloc, bytes, superframe (R90). -/
  reports : List (Nat × Nat × Nat)
  /-- Telltale frames waiting as messages: uplink group, payload after the EtherType, epoch (R155). -/
  frames : List (Nat × List Nat × Nat)
  /-- TT_STORE_FULL has been posted and the store has not fallen below 2,048 in use since. -/
  fullSaid : Bool
  /-- Replacements that act at the next build start: slice, position (3 is the checker pair), unit. -/
  swaps : List (Nat × Nat × Nat)
  /-- Forced-wake flags set by firmware (R135), ONU contexts. -/
  fwi : List Nat
  /-- The armed capture's channel, and the captured structures (R149). -/
  capArm : Option Nat
  cap : List MapEnt
deriving DecidableEq, Repr


/-- Parser state beyond its registers (R173): slots awaiting return (LAG, port), and LAGs for which LAG_DOWN stands. -/
structure PrsSt where
  ret : List (Nat × Nat)
  down : List Nat
  /-- Pipeline that takes the next packet of each uplink group (R162). -/
  alt : Table Nat
deriving DecidableEq, Repr

/-- A forwarding entry (R182): the words' fields; newIn: applied at the last apply instant and invisible to the previous epoch;
gone: deleted at the last apply instant and visible to the previous epoch only (R193). -/
structure FwdEnt where
  key : Nat
  flowEn : Bool
  lag : Bool
  dest : Nat
  flow : Nat
  static_ : Bool
  pinned : Bool
  refreshed : Bool
  age : Nat
  moves : Nat
  win : Nat
  addP : Bool
  delP : Bool
  part : Nat
  newIn : Bool
  gone : Bool
deriving DecidableEq, Repr

/-- A learn request (R187). -/
structure LearnReq where
  key : Nat
  part : Nat
  src : Nat
  lag : Bool
  dest : Nat
  flowEn : Bool
  flow : Nat
deriving DecidableEq, Repr

/-- The forwarding tables (R178 to R195). -/
structure FwdSt where
  /-- Slots by location; overflow entry i at 2^20 + i. -/
  slots : Table (Option FwdEnt)
  /-- The learn queue, oldest first. -/
  queue : List LearnReq
  /-- Rotors by bucket. -/
  rot : Table Nat
  /-- FWD_OVF_FULL stands for a partition; FWD_LEARN_LIMIT stands for a port. -/
  ovfSaid : Table Bool
  limitSaid : Table Bool
deriving DecidableEq, Repr


/-- What the mirror holds of a channel's frame timing (R307, R308): the counter and the boundary of the last frame reported, in 1/64 ns
of this part's time base, and its map. -/
structure MirFrame where
  sfc : Nat
  boundary : Int
  map : List MapEnt
  held : Bool
deriving DecidableEq, Repr

/-- A switch-over that waits for its boundary (R311): its cause, seconds and nanoseconds, and whether this part gives control. -/
structure Handover where
  cause : Nat
  sec : Nat
  ns : Nat
  giving : Bool
deriving DecidableEq, Repr

/-- The mate pair beyond its registers (R299 to R313). -/
structure MateSt where
  /-- msg_seq of the next message sent and of the last accepted. -/
  seqTx : Nat
  seqRx : Option Nat
  /-- Heartbeats sent; the last valid heartbeat is not lost; its epoch and revert bit. -/
  hbCount : Nat
  hbValid : Bool
  mateEpoch : Nat
  mateRevert : Bool
  /-- Changes of dynamic forwarding entries not yet mirrored: op and entry. -/
  learnOut : List (Nat × FwdEnt)
  frames : Table (Option MirFrame)
  /-- KEYS blobs that wait for a PON frame boundary of their channel (R307): the channel and the blob, oldest first. -/
  heldKeys : List (Nat × List Nat)
  /-- The planned switch-over in progress (R311). -/
  handover : Option Handover
  /-- The tick at which the wait-to-restore timer started (R313). -/
  wtr : Option Nat
  revert : Bool
  /-- A mismatch found while ACTIVE stops mirror messages (R302). -/
  mismatch : Bool
  /-- Both parts or neither carry the preferred flag (R300); SYNC_DONE came and a FRAME message is still missing (R302). -/
  flagsBad : Bool
  syncGot : Bool
  epochSaid : Bool
  /-- At entry to CONTESTED (R305): the part was ACTIVE or STANDBY, and an enabled channel held an ACTIVE context. -/
  wasActive : Bool
  evidence : Bool
  /-- d of the last 64 TIMING messages (R308), newest first, the arrival that waits for its departure, the mate's d. -/
  ds : List Int
  lastArrival : Option Stamp
  dMate : Int
  lastDeparture : Option Stamp
  /-- Channels that have not reached RUNNING since the switch-over. -/
  awaiting : List Nat
deriving DecidableEq, Repr

/-- A lane beyond its registers (R278 to R283). -/
structure LaneSt where
  /-- The Reef entry in progress and the request that waits for its end. -/
  entering : Option Nat
  queued : Option Nat
  /-- The host placed the lane in a Reef state. -/
  byHost : Bool
  okRun : Nat
  run : Nat
  /-- For each of the eight coefficients of R280 in order, the windows since it last moved, up to 16 (R281). -/
  since : List Nat
  /-- The lane left LOCKED by a fault or left a Reef state: LANE_LOCKED is posted when it locks. -/
  announce : Bool
deriving DecidableEq, Repr

/-- Alignment of an SLD lane (R289): 0 SEARCH, 1 CONFIRM, 2 FRAMED, 3 MF_LOCKED; runs; the last header. -/
structure SlLane where
  st : Nat
  good : Nat
  missed : Nat
  follow : Nat
  broken : Nat
  ix : Nat
  seq : Nat
  skewed : Bool
deriving DecidableEq, Repr

/-- Lanes and the Stay link (R274 to R295). -/
structure LanesSt where
  lane : Table LaneSt
  sl : Table SlLane
  /-- Uplink group records as last rigged by the host (R284). -/
  hostUg : Table (Nat × Nat)
  /-- The width the link is striped over: 0 down, 1 lanes 0-3, 2 lanes 4-7, 3 eight. -/
  width : Nat
deriving DecidableEq, Repr


/-- The stored keys of an ONU key record (R242), as their 16 bytes. -/
structure OnuKeys where
  msk : Option (List Nat)
  k1 : Option (List Nat)
  k2 : Option (List Nat)
deriving DecidableEq, Repr

/-- Group key state of a channel (R244, R245): the active index, the generations set, the index that takes over at the next PON frame
boundary. -/
structure GroupKeys where
  active : Nat
  gen1 : Option Nat
  gen2 : Option Nat
  next : Option Nat
deriving DecidableEq, Repr

/-- A MACsec SA (R246 to R249): port, AN, receive SC; replay; exportable; key number, SSCI, salt, next_pn or next_rx, member
identifier, CA record; SA_PN_THRESHOLD was posted; the last PN was used. -/
structure SaSt where
  port : Nat
  an : Nat
  sc : Nat
  replay : Bool
  exportable : Bool
  keyNo : Nat
  ssci : Nat
  salt : List Nat
  pn : Nat
  member : List Nat
  ca : Nat
  thrSaid : Bool
  exhausted : Bool
deriving DecidableEq, Repr

/-- Shroud (R240 to R254). -/
structure ShrSt where
  /-- The root key, 32 bytes, once it is valid. -/
  root : Option (List Nat)
  keys : Table OnuKeys
  /-- CA key records: the KEK. -/
  ca : Table (Option (List Nat))
  grp : Table GroupKeys
  /-- SAs by slot. -/
  tx : Table (Option SaSt)
  rx : Table (Option SaSt)
  /-- SCI of each receive SC, keyed 4p + s. -/
  sci : Table Nat
  /-- Key cache of each physical lane (R243), newest first, as key names. -/
  cache : Table (List Nat)
  /-- Physical lane that replaced a retired one, plus 1. -/
  repl : Table Nat
  /-- Logical lanes whose ports moved to their fallback. -/
  moved : List Nat
  /-- The master identity that issued the last command (R251). -/
  issuer : Option Nat
deriving DecidableEq, Repr

/-- A packet in a VOQ (R199): the bytes of its header and itself that have not crossed; a byte of it lay in a retired or poisoned cell. -/
structure VPkt where
  pkt : Pkt
  left : Nat
  lost : Bool
deriving DecidableEq, Repr

/-- A virtual output queue (R199, R200): its packets, and for each of its cells, head first, the cell slot at which it entered. -/
structure Voq where
  pkts : List VPkt
  ages : List Nat
deriving DecidableEq, Repr

/-- A packet in an egress queue (R204): its place in the queue's byte stream, its bytes with the 8-byte header, the cells it is charged,
the uplink group whose headroom it took, its settle point in ns. -/
structure QPkt where
  pkt : Pkt
  start : Nat
  size : Nat
  cells : Nat
  room : Option Nat
  settle : Nat
deriving DecidableEq, Repr

/-- A DRAM segment of a spilled queue (R207): pool, pointer, the allocation count in the queue's link, stream bytes it holds that have not
been read, and those still free in it. -/
structure DSeg where
  pool : Nat
  ptr : Nat
  count : Nat
  held : Nat
  room : Nat
deriving DecidableEq, Repr

/-- An egress queue (R204, R206, R207): its packets, and its byte stream as offsets: bytes from head to d are in the on-die part, from d to e
in DRAM, from e to tail in the staging. -/
structure EgQ where
  pkts : List QPkt
  head : Nat
  d : Nat
  e : Nat
  tail : Nat
  segs : List DSeg
deriving DecidableEq, Repr

/-- A requester that waits for a buffer (R212): agent and family's smallest pool it can use. -/
structure BufWait where
  agent : Nat
  first : Nat
deriving DecidableEq, Repr

/-- A pool of Spar (R211 to R215): freed pointers, newest first; the pointers from fresh on were never handed out; the buffers out; its
buffers lost to poison; its allocation count; FAB_POOL_LOW; SPAR_FALLBACK and SPAR_WAIT stand. -/
structure Pool where
  top : List Nat
  fresh : Nat
  used : List Nat
  lost : Nat
  count : Nat
  low : Nat
  fbSaid : Bool
  waitSaid : Bool
deriving DecidableEq, Repr

/-- A port of R210: 0 UP, 1 HOLDING, 2 DOWN; the tick at which its hold timer started and the hold_ms it started with. -/
structure PortSt where
  st : Nat
  since : Nat
  holdMs : Nat
deriving DecidableEq, Repr

/-- The fabric, the egress queues and Spar (R198 to R215). -/
structure FabSt where
  /-- VOQs keyed ((input × 64 + output) × 8 + class) × 4 + lane. -/
  voq : Table Voq
  /-- Number of the cell slot. -/
  slot : Nat
  gptr : Table Nat
  aptr : Table Nat
  /-- Ticks of the cell retries of the last second. -/
  retries : List Nat
  /-- Packets whole at their egress port and not yet at their settle point, by egress port. -/
  arrived : Table (List Pkt)
  /-- Egress queues: flow queue f at f, class queue i at 0x40000 + i. -/
  q : Table EgQ
  pools : Table Pool
  /-- Requesters that wait, in arrival order. -/
  waiting : List BufWait
  /-- Return markers (R173): LAG, member, queue, and the packets that stood before the marker and have not left. -/
  marks : List (Nat × Nat × Nat × List Nat)
  /-- Buffers out: the agent that holds it, pool, pointer. -/
  granted : List (Nat × Nat × Nat)
  /-- Tag in the first bytes of each allocated DRAM segment (R214), keyed pool × 2^48 + pointer: flow and allocation count. -/
  tags : Table (Nat × Nat)
  ports : Table PortSt
  /-- The frame each uplink port is sending: the packet, secured, stomped. -/
  sending : Table (Option (Pkt × Bool × Bool))
deriving DecidableEq, Repr

/-- Dynamic state of a Sheet node (R225, R226): tat of the peak and of the committed shaper in 2^-8 ns, its own deficit, its round-robin and
DWRR pointers among its children, and its slot on the calendar wheel. -/
structure NodeDyn where
  tatP : Nat
  tatC : Nat
  deficit : Nat
  rr : Option Nat
  ptr : Option Nat
  wheel : Option Nat
deriving DecidableEq, Repr

/-- A gate control list (R230): the cycle time and the entries (gates, interval). -/
structure GateList where
  cycle : Nat
  entries : List (Nat × Nat)
deriving DecidableEq, Repr

/-- The gates of an uplink group (R231): the list in force with its cycle start in ns, and the list that waits with its own. -/
structure GateSt where
  cur : Option (GateList × Nat)
  next : Option (GateList × Nat)
deriving DecidableEq, Repr

/-- Priority flow control of a port's class (R233, R234): XOFF was sent; the class is paused; PFC_STORM was posted in this stop. -/
structure PfcSt where
  xoff : Bool
  paused : Bool
  storm : Bool
deriving DecidableEq, Repr

/-- Depth and sojourn values of a queue (R235). -/
structure QStat where
  dmax : Nat
  soj : Nat
  smax : Nat
deriving DecidableEq, Repr

/-- Sheet (R221 to R237). -/
structure ShtSt where
  /-- Nodes keyed level × 2^20 + index. -/
  node : Table NodeDyn
  gates : Table GateSt
  /-- Keyed 8 × port + class. -/
  pfc : Table PfcSt
  /-- Keyed as egress queues. -/
  qs : Table QStat
  /-- Class queues with an oversize drop since their counter was last read through a snapshot (R239). -/
  overSaid : Table Bool
deriving DecidableEq, Repr


/-- What the block gives to the outside: pins, wires and links. The newest is last. -/
inductive Output where
  /-- A pulse on PPS_OUT of the whole second named (R268). -/
  | pps (sec : Nat)
  /-- Bytes on TOD_OUT (R268). -/
  | tod (bytes : List Nat)
  /-- An I2C transaction started by master m: op, device, register, bytes written (R398). -/
  | i2c (m op dev reg : Nat) (bytes : List Nat)
  /-- An MSI-X vector signalled: function's master identity and vector (R348, R344). -/
  | msix (master vector : Nat)
  /-- A PON frame: channel, superframe counter, map, PLOAM messages, Burst_Profile slot (R70). -/
  | ponFrame (c sfc : Nat) (map : List MapEnt) (ploam : List Ploam) (bp : Option Nat)
  /-- An XGEM frame or fragment: channel, port-ID, key index, payload bytes, last fragment (R77, R79), inner FCS inverted (R209). -/
  | xgem (c portId keyIx len : Nat) (last stomped : Bool)
  /-- A frame on an uplink: port, packet, secured (R247), stomped (R209). -/
  | uplink (port : Nat) (p : Pkt) (secured stomped : Bool)
  /-- A PFC frame: port, class-enable vector, the eight quanta fields, source address (R233). -/
  | pfc (port en : Nat) (quanta : List Nat) (sa : Nat)
  /-- A Stay link message: type, sequence number, and the blocks between its header and its tag (R292, R293, R306). -/
  | stay (typ seq : Nat) (words : List Nat)
deriving DecidableEq, Repr

/-- A message to firmware (R19): a kind and its words. Kinds: 1 PLOAM not sent, 2 PLOAM refused, 3 PLOAMu received, 4 discovery
response, 5 drift proposal, 6 out-of-reach indication, 7 OMCI, 8 punted packet, 9 result of a Ratline command,
10 what READ of Ratline answers. -/
structure FwMsg where
  kind : Nat
  chan : Nat
  words : List Nat
deriving DecidableEq, Repr

/-- The reasons the block stops. -/
inductive Fault where
  /-- Raised by a command that makes a host error the device does not check and whose result the spec calls unpredictable (R12):
  safe, since the model stops where the hardware goes on in a way the spec does not fix. -/
  | unpredictable
deriving DecidableEq, Repr

/-- The reasons a command is refused. -/
inductive Refusal where
  /-- Raised by exec for a command that has no meaning yet: safe. -/
  | notModelled (mnemonic : String)
deriving DecidableEq, Repr

structure State where
  /-- The commands that wait, first in first out. -/
  pending : List Instr
  /-- Every register, keyed by its BAR0 byte address; a register reached through a selector holds its instance above bit 31. A
  register that is not listed holds its reset value (RegMap.reset). An ST field's applied value stands here. -/
  regs : Table Word
  /-- The staged set's registers (R9), by the same keys. -/
  staged : Table (Option Word)
  /-- Applied records reached through windows, keyed kind × 2^40 + index: their words in the window's layout. -/
  recs : Table (List Nat)
  /-- The staged set's window records. -/
  stagedRecs : Table (Option (List Nat))
  /-- The staged set in staging order (R406). -/
  stagedLog : List StagedEnt
  /-- Higher words latched for a master (R11), keyed master × 2^32 + address. -/
  latches : Table (Option Word)
  /-- Completion of the last register access. -/
  resp : Resp
  /-- Points of the run at which the spec left a value open (the model's own field). -/
  freeIx : Nat
  /-- Host memory as far as the device has written it: none where it has not. -/
  hostMem : Table (Option Byte)
  /-- Counter slots by counter array and place in it (R358, R359). -/
  cnt : Table Nat
  /-- Chain bits set by CNT_CHAIN, by slot index (R360). -/
  chain : Table Bool
  evq : EvqSt
  mbx : MbxSt
  qp : Table QpSt
  snap : SnapSt
  rig : RigSt
  sup : SupSt
  tim : TimSt
  mem : MemSt
  ds : Table DsSt
  us : Table UsSt
  disc : Table DiscSt
  onu : Table OnuCtx
  hal : HalSt
  /-- Registers and window records as the previous epoch has them, while it is live (R14, R174). -/
  prevRegs : Table Word
  prevRecs : Table (List Nat)
  prs : PrsSt
  fwd : FwdSt
  /-- Packets of each source port that wait to be parsed, and those parsed that wait to enter the fabric, oldest first (R163). -/
  toParse : Table (List Pkt)
  parsed : Table (List Pkt)
  /-- Packets bound for the receive ring of each queue pair (R345). -/
  rxq : Table (List RxPkt)
  /-- The number of the next packet. -/
  pktNo : Nat
  mate : MateSt
  lanes : LanesSt
  shr : ShrSt
  fab : FabSt
  sht : ShtSt
  /-- Messages to firmware, oldest first. -/
  fw : List FwMsg
  /-- What the block has given to the outside, oldest first. -/
  out : List Output
deriving DecidableEq, Repr

/-- The image of an empty slot. -/
def Image.empty : Image :=
  { serial := 0, profile := 0, trialS := 0, len := 0, headerOk := false, ownerSigOk := false, ownerKey := 0, hashesOk := false,
    oxgilOk := false, fwSigned := false, deviceHash := 0, digest := 0, fwDigest := 0, fwVersion := 0, groups := 0, uplinks := 0,
    drams := 0, modes := [], ponIds := [],
    mate := { pairEn := false, prec := 0, preferred := false, revertive := false, swOnRetire := false, rateMatched := false, wtrS := 0,
              contestMs := 0, seekMs := 0, hbMiss := 0, txOnUs := 0 },
    graph := { startUp := 0xFF, startPon := 0xFF, nodes := [], trans := [], exts := [] }, parts := [], srcPorts := [], ugRec := [], lanePos := [], polarity := [], helloDigest := 0,
    slLanes := 0,
    buf := { ingress := 0, msgS := 0, msgL := 0, headroom := 0, guar := [], cap := [], seg := [] }, tree := [], cipher := [], sects := [] }

/-- The machine right after a power-on reset (R373): every domain but AON is held in reset, start-up has not begun, registers
hold their reset values, tables are empty. -/
def State.reset : State :=
  { pending := [], regs := [], staged := [], recs := [], stagedRecs := [], stagedLog := [], latches := [],
    resp := { ur := false, data := [] }, freeIx := 0, hostMem := [], cnt := [], chain := [],
    evq := { raised := [], kept := [], seq := 0, dropped := 0, firstDropped := 0, phase := true, holding := [], waiting := [] },
    mbx := { out := [], src := [], locks := [], flr := [], skip := [] }, qp := [],
    snap := { number := 0, addr := 0, extents := [], cut := [], body := [], running := false, aborted := false, lastDone := false },
    rig := { fresh := false, sched := false, schedSec := 0, schedNs := 0, trialStart := none, pre := [], viols := [], devApplies := [], region := 0, regionSlot := 0,
             attestBusy := false, loadTrimBusy := false, loadSlotBusy := false, attest := [], ownerHash := none, run := Image.empty,
             slotA := { st := 0, img := Image.empty }, slotB := { st := 0, img := Image.empty }, fellBack := false, suspect := [],
             recovering := [] },
    sup := { gradeH := false, reefed := false, holdMin := 0xFFFF, vddCore := 0xFFFF, tick := 0, reefExit := none,
             held := [1, 2, 3, 4, 5, 6, 7], hold := 4, supplyMask := 0, supplyResetDue := false, thermCrit := none, warned := false,
             maxed := false, faults := [], retired := [], unret := none, quiet := [0, 0, 0], slow := [false, false, false],
             rerigDiscard := 0, i2cWait := [] },
    tim := { sec := 0, ns := 0, frac := 0, incNs := 1, incFrac := 0x99999999, incHeld := 0x99999999, setAtPps := none, tsq := [],
             todi := [], ppsEdge := none, ppsLost := false },
    mem := { poison := [], flipped := [], ueLog := [], tracker := [], merge := [],
             scrub := { mem := 0, first := 0, last := 0, next := 0, done := 0, number := 0, checked := 0, corrected := 0, poisoned := 0,
                        already := 0, skipped := 0, weakMade := 0, spares := 0, running := false, ended := false, aborted := false,
                        startTick := 0 },
             order := 0, spared := [], used := [], ppr := [], copying := [], rowMap := [], jnlP := [], jnlO := [], jnlWait := [],
             jnl := [], jnlSeq := 0, jnlDropSaid := false, jnlBlocks := 2032, weakBlocks := [] },
    ds := [], us := [], disc := [], onu := [],
    hal := { dyn := [], ch := [], reserves := [], tells := [], reports := [], frames := [], fullSaid := false, swaps := [], fwi := [],
             capArm := none, cap := [] },
    prevRegs := [], prevRecs := [], prs := { ret := [], down := [], alt := [] },
    fwd := { slots := [], queue := [], rot := [], ovfSaid := [], limitSaid := [] }, toParse := [], parsed := [], rxq := [], pktNo := 0,
    mate := { seqTx := 0, seqRx := none, hbCount := 0, hbValid := false, mateEpoch := 0, mateRevert := false, learnOut := [], frames := [],
              handover := none, wtr := none, revert := false, mismatch := false, flagsBad := false, syncGot := false, epochSaid := false, wasActive := false, evidence := false,
              ds := [], lastArrival := none, dMate := 0, lastDeparture := none, awaiting := [], heldKeys := [] },
    lanes := { lane := [], sl := [], hostUg := [], width := 3 },
    shr := { root := none, keys := [], ca := [], grp := [], tx := [], rx := [], sci := [], cache := [], repl := [], moved := [], issuer := none },
    fab := { voq := [], slot := 0, gptr := [], aptr := [], retries := [], arrived := [], q := [], pools := [], waiting := [], granted := [],
             tags := [], ports := [], sending := [], marks := [] },
    sht := { node := [], gates := [], pfc := [], qs := [], overSaid := [] },
    fw := [], out := [] }


end Sys2Proof.Machine
end

