-- ==== Sys2Proof/Machine/Table.lean ====
section
/-! DEFINITION. Sparse tables: reading a key, writing a key, and the canonical form (keys rising, no entry equal to its default). -/

namespace Sys2Proof.Machine

/-- The value at key k, or d when k is not listed. -/
def Tbl.find {α : Type} : Table α → Nat → α → α
  | [], _, d => d
  | (a, v) :: r, k, d => if a = k then v else Tbl.find r k d

/-- Inserts (k, v) before the first larger key. -/
def Tbl.ins {α : Type} : Table α → Nat → α → Table α
  | [], k, v => [(k, v)]
  | (a, w) :: r, k, v => if k < a then (k, v) :: (a, w) :: r else (a, w) :: Tbl.ins r k v

/-- Removes every entry of key k. -/
def Tbl.del {α : Type} (t : Table α) (k : Nat) : Table α := t.filter (fun p => p.1 ≠ k)

/-- Writes v at key k, whose default is d: writing the default removes the entry. -/
def Tbl.put {α : Type} [DecidableEq α] (t : Table α) (k : Nat) (d v : α) : Table α :=
  if v = d then Tbl.del t k else Tbl.ins (Tbl.del t k) k v

/-- The canonical form: keys strictly rising, and no entry equal to the default of its key. -/
def Tbl.wf {α : Type} [DecidableEq α] (t : Table α) (d : Nat → α) : Bool :=
  decide (t.Pairwise (fun p q => p.1 < q.1)) && t.all (fun p => decide (p.2 ≠ d p.1))

/-- The element at place n of a list, or d. -/
def nth {α : Type} (l : List α) (n : Nat) (d : α) : α := l.getD n d

/-- The signed value of a number read as n bits. -/
def signed (n v : Nat) : Int := if v % 2 ^ n < 2 ^ (n - 1) then ((v % 2 ^ n : Nat) : Int) else ((v % 2 ^ n : Nat) : Int) - (2 ^ n : Nat)

/-- An integer as n bits of two's complement. -/
def unsigned (n : Nat) (v : Int) : Nat := (v % (2 ^ n : Nat)).toNat

/-- Bytes of a number, least significant first. -/
def leBytes : Nat → Nat → List Nat
  | 0, _ => []
  | n + 1, v => v % 256 :: leBytes n (v / 256)

/-- Bytes of a number, most significant first. -/
def beBytes (n v : Nat) : List Nat := (leBytes n v).reverse

/-- The number that bytes spell, most significant first. -/
def beNat (l : List Nat) : Nat := l.foldl (fun a b => a * 256 + b % 256) 0

/-- Bits hi downto lo of a number. -/
def bits (v hi lo : Nat) : Nat := v / 2 ^ lo % 2 ^ (hi - lo + 1)

/-- Ceiling of a quotient. -/
def cdiv (a b : Nat) : Nat := (a + b - 1) / b

end Sys2Proof.Machine
end

