-- ==== Sys2Proof/Machine/Ops.lean ====
section
/-! DEFINITION. The named operations every meaning is made of: registers and their fields, counters, events, the journal, window
records, host memory, free values and the time base. -/

namespace Sys2Proof

/-- A field of another instance of a register that is reached through a selector: the instance stands above bit 31 of the key. -/
def Fld.inst (f : Fld) (n : Nat) : Fld := { f with addr := f.addr + n * 0x100000000 }

end Sys2Proof

namespace Sys2Proof.Machine

/-- The register of a key (R403); its reset value when nothing else was written. -/
def State.reg (s : State) (a : Nat) : Word := Tbl.find s.regs a (RegMap.reset a)

/-- Gives a register a value. -/
def State.setReg (s : State) (a : Nat) (w : Word) : State := { s with regs := Tbl.put s.regs a (RegMap.reset a) w }

/-- The field of a word. -/
def getBits (w : Word) (lo width : Nat) : Nat := w.toNat / 2 ^ lo % 2 ^ width

/-- A word with a field set. -/
def setBits (w : Word) (lo width v : Nat) : Word :=
  BitVec.ofNat 32 (w.toNat % 2 ^ lo + (v % 2 ^ width) * 2 ^ lo + w.toNat / 2 ^ (lo + width) * 2 ^ (lo + width))

/-- The value of a register field. -/
def State.fld (s : State) (f : Fld) : Nat := getBits (s.reg f.addr) f.lo f.width

/-- Sets a register field; the register's other bits stay. -/
def State.setFld (s : State) (f : Fld) (v : Nat) : State := s.setReg f.addr (setBits (s.reg f.addr) f.lo f.width v)

/-- A register field as a flag. -/
def State.flag (s : State) (f : Fld) : Bool := s.fld f = 1

/-- The next free value of the run, as n bits: the spec leaves the value open. -/
def State.free (s : State) (n : Nat) : Nat := Config.freeValue s.freeIx % 2 ^ n

/-- Uses up a free value. -/
def State.tickFree (s : State) : State := { s with freeIx := s.freeIx + 1 }

/-- Place of a slot within its counter array (R359). -/
def Ctr.off (c : Ctr) (inst sub : Nat) : Nat := (inst * c.subs + sub) * (if c.wide then 2 else 1)

/-- The model's key of a counter slot: the array and the place in it. -/
def Ctr.key (c : Ctr) (off : Nat) : Nat := ((c.block * 256 + c.num) * 16 + c.pos) * 0x1000000 + off

/-- The slot index of a place of an array in BAR4 (R358, R359). -/
def Ctr.index (c : Ctr) (off : Nat) : Nat := Config.cntBase c.block c.num c.pos + off

/-- The chain bit of a slot (R360): permanent on the low slot of a wide array. -/
def State.chained (s : State) (c : Ctr) (off : Nat) : Bool :=
  (c.wide && off % 2 == 0) || Tbl.find s.chain (c.index off) false

/-- Adds n to one counter slot, modulo 2^48, and its carry to the next slot when the slot is chained (R357, R360). -/
def State.countAt (s : State) (c : Ctr) (off n : Nat) : State :=
  let v := Tbl.find s.cnt (c.key off) 0 + n
  let t := Tbl.put s.cnt (c.key off) 0 (v % 2 ^ 48)
  if s.chained c off then
    { s with cnt := Tbl.put t (c.key (off + 1)) 0 ((Tbl.find t (c.key (off + 1)) 0 + v / 2 ^ 48) % 2 ^ 48) }
  else { s with cnt := t }

/-- Counts n of an event at instance inst, sub-index sub. A slot that counts the carries of the slot before it does not count its
own event (R360). -/
def State.countN (s : State) (c : Ctr) (inst sub n : Nat) : State :=
  if !c.wide && decide (c.off inst sub ≠ 0) && Tbl.find s.chain (c.index (c.off inst sub - 1)) false then s
  else s.countAt c (c.off inst sub) n

/-- Counts one event. -/
def State.count (s : State) (c : Ctr) (inst : Nat) : State := s.countN c inst 0 1

/-- The value of a counter's slot. -/
def State.counter (s : State) (c : Ctr) (inst sub : Nat) : Nat := Tbl.find s.cnt (c.key (c.off inst sub)) 0

/-- Puts an event record into the event queue (R349): raised while the queue is enabled; else kept while fewer than 256 are kept;
else dropped, with evq_drop counted and the first dropped sequence number noted. -/
def State.enqueueEvent (s : State) (e : EventRec) : State :=
  if s.flag F.mbxEvqCtrl_enable then { s with evq := { s.evq with raised := s.evq.raised ++ [e] } }
  else if s.evq.kept.length < 256 then { s with evq := { s.evq with kept := s.evq.kept ++ [e] } }
  else
    ({ s with evq := { s.evq with dropped := s.evq.dropped + 1,
                                  firstDropped := if s.evq.dropped = 0 then e.seq else s.evq.firstDropped } }).count Cn.evqDrop 0

/-- The record of an event raised now (R348). -/
def State.eventRec (s : State) (code : Nat) (data : List Nat) : EventRec :=
  { code := code, seq := s.evq.seq, ns := s.tim.ns, sec := s.tim.sec % 2 ^ 16, epoch := s.fld F.rigEpoch_current, data := data }

/-- Posts an event without journalling it: it takes the next sequence number and counts in event_posted (R348, R349). -/
def State.postRaw (s : State) (code : Nat) (data : List Nat) : State :=
  let t := (s.enqueueEvent (s.eventRec code data)).count Cn.eventPosted code
  { t with evq := { t.evq with seq := (t.evq.seq + 1) % 2 ^ 32 } }

/-- The bit of MEM_JNL_MASK for an event code: bit n for the block whose code is n + 1, bit 16 for firmware. -/
def jnlMaskBit (code : Nat) : Nat := if code / 256 = 0x20 then 16 else code / 256 - 1

/-- A journal record made now (R333); its sequence number is given when it is written. -/
def State.jnlRec (s : State) (typ code cls obj : Nat) (detail : List Nat) (act : JnlAct) : JnlRec :=
  { typ := typ, seq := 0, sec := s.tim.sec % 2 ^ 32, ns := s.tim.ns, code := code, epoch := s.fld F.rigEpoch_current,
    cls := cls, obj := obj, detail := detail, act := act }

/-- Queues an ordinary record of type 4 for a posted event when its block's mask bit is set; a full queue discards it, counts
jnl_drop and posts JNL_DROP once until the queue empties (R333, R334). -/
def State.jnlEvent (s : State) (code : Nat) (data : List Nat) : State :=
  if s.fld F.memJnlMask_mask / 2 ^ jnlMaskBit code % 2 = 0 then s
  else if s.mem.jnlO.length < 512 then
    { s with mem := { s.mem with jnlO := s.mem.jnlO ++ [s.jnlRec 4 code 0 0 data .none] } }
  else
    let t := s.count Cn.jnlDrop 0
    if t.mem.jnlDropSaid then t
    else ({ t with mem := { t.mem with jnlDropSaid := true } }).postRaw 0x060A []

/-- Posts an event (R20, R21, R348). -/
def State.post (s : State) (code : Nat) (data : List Nat) : State := (s.postRaw code data).jnlEvent code data

/-- Queues a persistent record; when the queue of 64 is full it waits for space (R334). -/
def State.jnlPersist (s : State) (typ code cls obj : Nat) (detail : List Nat) (act : JnlAct) : State :=
  let r := s.jnlRec typ code cls obj detail act
  if s.mem.jnlP.length < 64 ∧ s.mem.jnlWait = [] then { s with mem := { s.mem with jnlP := s.mem.jnlP ++ [r] } }
  else { s with mem := { s.mem with jnlWait := s.mem.jnlWait ++ [r] } }

/-- Writes bytes to host memory (little-endian order is the list's order). -/
def State.hostWrite (s : State) (addr : Nat) : List Nat → State
  | [] => s
  | b :: r => ({ s with hostMem := Tbl.put s.hostMem addr none (some (BitVec.ofNat 8 b)) }).hostWrite (addr + 1) r

/-- Sends something to the outside. -/
def State.emit (s : State) (o : Output) : State := { s with out := s.out ++ [o] }

/-- Sends firmware a message (R19). -/
def State.tell (s : State) (kind chan : Nat) (words : List Nat) : State :=
  { s with fw := s.fw ++ [{ kind := kind, chan := chan, words := words }] }

/-- The kinds of window records. -/
def kFlw : Nat := 1
def kUfl : Nat := 2
def kUonu : Nat := 3
def kAlc : Nat := 4
def kRule : Nat := 5
def kLag : Nat := 6
def kNode : Nat := 7

/-- The key of a window record. -/
def recKey (kind ix : Nat) : Nat := kind * 0x10000000000 + ix

/-- The applied record of a kind and index; no words when it was never written, which every word reads as 0. -/
def State.record (s : State) (kind ix : Nat) : List Nat := Tbl.find s.recs (recKey kind ix) []

/-- The staged record, which is the applied one while none is staged (R9). -/
def State.recordStaged (s : State) (kind ix : Nat) : List Nat :=
  (Tbl.find s.stagedRecs (recKey kind ix) none).getD (s.record kind ix)

/-- Gives an applied record its words. -/
def State.setRecord (s : State) (kind ix : Nat) (ws : List Nat) : State :=
  { s with recs := Tbl.put s.recs (recKey kind ix) [] ws }

/-- Word n of a record. -/
def wordOf (ws : List Nat) (n : Nat) : Nat := ws.getD n 0

/-- Bits hi downto lo of word n of a record. -/
def recBits (ws : List Nat) (n hi lo : Nat) : Nat := bits (wordOf ws n) hi lo

/-- A master that may write the registers of the blocks: 0x00 and 0x20 to 0x23 (R49 and each chapter's Registers section). -/
def mayWrite (m : Master) : Bool := m = 0 ∨ (0x20 ≤ m.toNat ∧ m.toNat ≤ 0x23)

/-- A master that reaches the registers of BAR0 beyond the mailbox view (R15, R16, R340): a virtual function does not, and no access
carries a value that R15 does not assign. -/
def reaches (m : Master) : Bool := mayWrite m || decide (m.toNat = 0x30) || decide (0x38 ≤ m.toNat)

/-- A read completes with data words. -/
def State.reply (s : State) (data : List Nat) : State :=
  { s with resp := { ur := false, data := data.map (BitVec.ofNat 32) } }

/-- Key of the latch of an address for a master (R11). -/
def latchKey (m : Master) (a : Nat) : Nat := m.toNat * 0x100000000 + a

/-- Latches a word for a master's next read of an address (R11). -/
def State.latch (s : State) (m : Master) (a v : Nat) : State :=
  { s with latches := Tbl.put s.latches (latchKey m a) none (some (BitVec.ofNat 32 v)) }

/-- The reset domain of an address (R372): 0 AON, 1 TIM, 2 HIF, 3 MAST, 4 MEM, 5 SHR, 6 LANE, 7 DATA. -/
def domainOf (key : Nat) : Nat :=
  let a := key % 0x100000000
  if a = 0x110 ∨ a = 0x114 ∨ a = 0x118 ∨ a = 0x120 ∨ a = 0x124 then 0
  else if a < 0x100000 then 2
  else if a < 0x400000 then 2
  else if a < 0x500000 then 1
  else if a < 0x600000 then 4
  else if a < 0x700000 then 7
  else if a < 0x800000 then 5
  else if a < 0x1000000 then 6
  else 7

/-- The domain is out of reset. -/
def State.released (s : State) (d : Nat) : Bool := !(s.sup.held.contains d)

/-- Time-base nanoseconds since second 0. -/
def State.nowNs (s : State) : Nat := s.tim.sec * 1000000000 + s.tim.ns

/-- The current epoch (R14). -/
def State.epoch (s : State) : Nat := s.fld F.rigEpoch_current

/-- The resource is retired (R13). -/
def State.isRetired (s : State) (cls obj : Nat) : Bool := s.sup.retired.any (fun r => r.cls = cls ∧ r.obj = obj)

/-- The PON group is bound by the running rigging (R3, R45). -/
def State.groupBound (s : State) (g : Nat) : Bool := s.rig.run.groups / 2 ^ g % 2 = 1

/-- The uplink group is bound by the running rigging. -/
def State.uplinkBound (s : State) (u : Nat) : Bool := s.rig.run.uplinks / 2 ^ u % 2 = 1

/-- Applies f to every number of a list in turn. -/
def foldNat {α : Type} (l : List Nat) (f : α → Nat → α) (a : α) : α := l.foldl f a

/-- Memory word key (R317). -/
def memKey (mem ix : Nat) : Nat := mem * 0x100000000 + ix

/-- The word holds the poison pattern (R318). -/
def State.poisoned (s : State) (mem ix : Nat) : Bool := Tbl.find s.mem.poison (memKey mem ix) false

/-- Marks or clears the poison pattern of a word. -/
def State.setPoison (s : State) (mem ix : Nat) (b : Bool) : State :=
  { s with mem := { s.mem with poison := Tbl.put s.mem.poison (memKey mem ix) false b } }

/-- The reefed exemption of the ladder and the tracker: reefed hold, or within 10 ms of its exit (R379, R326). -/
def State.exempt (s : State) : Bool :=
  s.sup.reefed || (match s.sup.reefExit with | some t => decide (s.sup.tick < t + 6250000) | none => false)

end Sys2Proof.Machine
end

