-- ==== Sys2Proof/Machine/Ecc.lean ====
section
/-! DEFINITION. What the codes do at a read (R318), the uncorrectable log, the weak-word tracker (R326, R327), and the start of
sparing (R328, R329). -/

namespace Sys2Proof.Machine

/-- Ladder class of a memory's words: 9 for a DRAM row, 8 for an SRAM bank (R380). -/
def memClass (mem : Nat) : Nat := if 0x10 ≤ mem ∧ mem ≤ 0x13 then 9 else 8

/-- Code words in one bank of a memory, or bursts in a row of 1 KiB (R317, R329). -/
def wordsPerBank (mem : Nat) : Nat :=
  if mem = 0x01 then 65536
  else if mem = 0x02 then 32768
  else if mem = 0x04 then 32768
  else if mem = 0x07 then 262144
  else if mem = 0x08 then 16384
  else if mem = 0x09 then 65536
  else if 0x10 ≤ mem ∧ mem ≤ 0x13 then 16
  else 131072

/-- Banks of a memory, or rows of a stack of 16 GiB (R317). -/
def banksOf (mem : Nat) : Nat :=
  if mem = 0x00 then 192 else if mem = 0x01 then 16 else if mem = 0x02 then 1 else if mem = 0x03 then 8
  else if mem = 0x04 then 1 else if mem = 0x05 then 12 else if mem = 0x06 then 16 else if mem = 0x07 then 4
  else if mem = 0x08 then 1 else if mem = 0x09 then 4 else if 0x10 ≤ mem ∧ mem ≤ 0x13 then 16777216 else 0

/-- Spare banks of a memory, or remap rows of a stack: 256 KiB of rows of 1 KiB (R317, R329). -/
def sparesOf (mem : Nat) : Nat :=
  if mem = 0x00 then 12 else if 0x10 ≤ mem ∧ mem ≤ 0x13 then 256 else if mem ≤ 0x09 then 1 else 0

/-- Bank or row of a word. -/
def bankOf (mem ix : Nat) : Nat := ix / wordsPerBank mem

/-- The ladder object of a bank or row (R380). -/
def bankObj (mem bank : Nat) : Nat := if memClass mem = 9 then (mem - 0x10) * 0x10000000 + bank else mem * 0x1000000 + bank

/-- Logs an uncorrectable word: the newest first, sixteen kept. -/
def State.logUe (s : State) (mem ix foundBy : Nat) : State :=
  { s with mem := { s.mem with ueLog := (⟨mem, ix, Config.ownerBlock mem ix, Config.ownerObject mem ix, foundBy⟩ :: s.mem.ueLog).take 16 } }

/-- The spare set of a bank: one spare for each set of 16 banks of memory 0x00, one set elsewhere (R317). -/
def spareSet (mem bank : Nat) : Nat := if mem = 0 then bank / 16 else 0

/-- Whether the set of a bank has its spare, or the stack a remap row, still free. -/
def State.spareFree (s : State) (mem bank : Nat) : Bool :=
  if memClass mem = 9 then Tbl.find s.mem.used mem 0 < sparesOf mem
  else Tbl.find s.mem.used (mem * 256 + spareSet mem bank) 0 = 0

/-- Uses the spare of a bank's set, or one remap row. -/
def State.useSpare (s : State) (mem bank : Nat) : State :=
  let k := if memClass mem = 9 then mem else mem * 256 + spareSet mem bank
  { s with mem := { s.mem with used := Tbl.put s.mem.used k 0 (Tbl.find s.mem.used k 0 + 1) } }

/-- Inserts a retired resource, keeping the order by class and then index (GLB_RET_IDX). -/
def insRet (e : RetEnt) : List RetEnt → List RetEnt
  | [] => [e]
  | r :: t => if e.cls < r.cls ∨ (e.cls = r.cls ∧ e.obj < r.obj) then e :: r :: t else r :: insRet e t

/-- Retires a resource (R381): it joins the list of retired resources, counts, and its persistent record of type 1 is queued; its
structural part and its event wait for the record (R334). -/
def State.recordRetire (s : State) (cls obj : Nat) : State :=
  if s.isRetired cls obj then s
  else
    let t := { s with sup := { s.sup with retired := insRet ⟨cls, obj, s.tim.sec % 2 ^ 32⟩ s.sup.retired } }
    (t.countN Cn.retirements 0 cls 1).jnlPersist 1 0 cls obj [] .retire

/-- Starts the sparing of the bank or row of a word (R326): the copy begins when a spare is free; a bank of memory 0x00 with no
spare is retired as class 10 (R215, R328); anything else with no spare posts MEM_SPARE_EXHAUSTED. -/
def State.startSpare (s : State) (mem ix : Nat) : State :=
  let b := bankOf mem ix
  let t := s.post 0x0603 [mem, ix]
  if t.mem.copying.contains (mem, b) then t
  else if t.spareFree mem b then
    let u := t.useSpare mem b
    { u with mem := { u.mem with copying := u.mem.copying ++ [(mem, b)] } }
  else if mem = 0 then t.recordRetire 10 b
  else t.post 0x0605 [mem, b]

/-- Frees the tracker entry of a word. -/
def State.freeWeak (s : State) (mem ix : Nat) : State :=
  { s with mem := { s.mem with tracker := s.mem.tracker.filter (fun e => ¬ (e.mem = mem ∧ e.ix = ix)) } }

/-- The entry that a new one replaces when all 64 are in use: lowest count, then longest uncorrected. -/
def weakVictim : List WeakEnt → Option WeakEnt
  | [] => none
  | e :: r =>
    match weakVictim r with
    | none => some e
    | some v => if e.count < v.count ∨ (e.count = v.count ∧ e.order < v.order) then some e else some v

/-- Puts a new entry into the tracker (R326, R327). -/
def State.addWeak (s : State) (mem ix : Nat) (ue : Bool) : State :=
  let e : WeakEnt := ⟨mem, ix, 0, ue, s.sup.tick, s.mem.order⟩
  let base := if s.mem.tracker.length < 64 then s.mem.tracker
              else match weakVictim s.mem.tracker with
                | some v => s.mem.tracker.filter (fun x => x ≠ v)
                | none => s.mem.tracker
  { s with mem := { s.mem with tracker := base ++ [e], order := s.mem.order + 1 } }

/-- Offers a written-back correction to the tracker (R326): exempt corrections count in ladder_reef only. -/
def State.offerWeak (s : State) (mem ix : Nat) : State :=
  if s.exempt then s.countN Cn.ladderReef 0 (memClass mem) 1
  else
    let t := s.countN Cn.ladderFaults 0 (memClass mem) 1
    match t.mem.tracker.find? (fun e => e.mem = mem ∧ e.ix = ix) with
    | none => t.addWeak mem ix false
    | some e =>
      if e.count + 1 ≥ t.fld F.memWeakCfg_weak_thr then (t.freeWeak mem ix).startSpare mem ix
      else
        { t with mem := { t.mem with
            tracker := t.mem.tracker.map (fun x => if x.mem = mem ∧ x.ix = ix
              then { x with count := x.count + 1, last := t.sup.tick, order := t.mem.order } else x),
            order := t.mem.order + 1 } }

/-- Offers a newly poisoned word to the tracker (R327): it enters with ue = 1; a word already there with ue = 1 has a permanent
fault at once. -/
def State.offerUe (s : State) (mem ix : Nat) : State :=
  if s.exempt then s.countN Cn.ladderReef 0 (memClass mem) 1
  else
    let t := s.countN Cn.ladderFaults 0 (memClass mem) 1
    match t.mem.tracker.find? (fun e => e.mem = mem ∧ e.ix = ix) with
    | none => t.addWeak mem ix true
    | some e =>
      if e.ue then (t.freeWeak mem ix).startSpare mem ix
      else { t with mem := { t.mem with tracker := t.mem.tracker.map (fun x => if x.mem = mem ∧ x.ix = ix then { x with ue := true } else x) } }

/-- Bits of a code word with its check bits (R325). -/
def codeBits (mem : Nat) : Nat :=
  if mem = 0x01 ∨ mem = 0x02 then 137 else if mem = 0x07 then 39 else if 0x10 ≤ mem ∧ mem ≤ 0x13 then 544 else 72

/-- What the armed flip leaves in a word (R325): 0 nothing, 1 an error the code corrects, 2 one that it only detects. A position beyond
the word inverts nothing, the same position twice inverts nothing, and the device code of a DRAM burst corrects an error within one byte. -/
def flipMark (mem nbits a b : Nat) : Nat :=
  let inA := decide (a < codeBits mem)
  let inB := decide (nbits = 2) && decide (b < codeBits mem)
  if inA && inB then
    if a = b then 0 else if memClass mem = 9 ∧ a / 8 = b / 8 then 1 else 2
  else if inA || inB then 1 else 0

/-- Sets or clears the mark of a word stored with inverted bits. -/
def State.setFlip (s : State) (mem ix f : Nat) : State :=
  { s with mem := { s.mem with flipped := Tbl.put s.mem.flipped (memKey mem ix) 0 f } }

/-- A write of a code word (R318, R325): it clears poison, and an armed flip that it qualifies for inverts bits of it and is no longer
armed. -/
def State.noteWrite (s : State) (mem ix : Nat) : State :=
  let t := (s.setPoison mem ix false).setFlip mem ix 0
  if t.flag F.memFlipCtrl_armed ∧ t.fld F.memFlipCtrl_mem = mem ∧ (t.flag F.memFlipCtrl_addr_match = false ∨ t.fld F.memFlipAddr_idx = ix) then
    ((t.setFld F.memFlipCtrl_armed 0).setFld F.memSts_flip_armed 0).setFlip mem ix
      (flipMark mem (t.fld F.memFlipCtrl_nbits) (t.fld F.memFlipCtrl_bit_a) (t.fld F.memFlipCtrl_bit_b))
  else t

/-- What a read finds of a word: the faults that the read itself meets and the bits that a flip inverted. -/
def State.eccOf (s : State) (mem ix : Nat) (e : Ecc) : Ecc :=
  let f := Tbl.find s.mem.flipped (memKey mem ix) 0
  if f = 0 then e else if f = 1 then (match e with | .clean => .oneBit | _ => .uncorrectable) else .uncorrectable

/-- Poisons a word found uncorrectable (R318): the pattern is written, mem_ue counted, the word logged and offered. -/
def State.poisonWord (s : State) (mem ix foundBy : Nat) : State :=
  ((((s.setPoison mem ix true).setFlip mem ix 0).count Cn.memUe mem).logUe mem ix foundBy).offerUe mem ix

/-- A consumer's read of a code word (R318): the state after it, and whether the consumer receives the word poisoned. -/
def State.readWord (s : State) (mem ix : Nat) (e : Ecc) : State × Bool :=
  if s.poisoned mem ix then (s, true)
  else
    match s.eccOf mem ix e with
    | .clean => (s, false)
    | .oneBit => (((s.setFlip mem ix 0).count Cn.memCe mem).offerWeak mem ix, false)
    | .uncorrectable => (s.poisonWord mem ix 3, true)

/-- A read of a record of the context store or another table by its kind and index. -/
def State.readRec (s : State) (mem kind ix : Nat) (e : Ecc) : State × Bool := s.readWord mem (Config.wordIx mem kind ix) e

/-- A write of a whole record clears its poison (R318). -/
def State.cleanRec (s : State) (mem kind ix : Nat) : State := s.noteWrite mem (Config.wordIx mem kind ix)

end Sys2Proof.Machine
end

