-- ==== Sys2Proof/Machine/Chan.lean ====
section
/-! DEFINITION. Operations that several families share over a PON channel: its records, the fault ladder (R379), leaving
RUNNING (R65, R66, R76, R79, R84), and the accounting at a frame boundary. -/

namespace Sys2Proof.Machine

/-- A downstream side that has never run. -/
def dsInit : DsSt :=
  { urgent := [], unicast := [], broadcast := [], seqB := 0, frames := 0, bpLast := none, map := [], heldCfg := [], space := 0,
    ploamSent := [], rest := none, edge := [], stopping := false, readyTimer := false, retryOk := false, startSec := 0, startFrac := 0 }

/-- An upstream side that has received nothing. -/
def usInit : UsSt :=
  { edge := [], reasm := [], silent := 0, frameGranted := false, frameHeard := false, rogueWin := [] }

/-- No discovery window. -/
def discInit : DiscSt :=
  { opened := false, engine := 0, rtdMin := 0, rtdMax := 0, profile := 0, frames := 0, planned := 0, spent := 0, inFrame := 0, total := 0, recs := [],
    ended := false }

/-- A FREE ONU context. -/
def onuInit : OnuCtx :=
  { st := 0, chan := 0, sn0 := 0, sn1 := 0, onuId := 0, keyIx := 1, stNow := 0, chanNow := 0, onuIdNow := 0, keyIxNow := 1, prior := 0,
    meas := none, outcome := 0, measured := false, rtd := 0, eqd := 0, residue := 0, f := 0, drift := false, prop := none, update := none,
    presetValid := false, preset := 0, fomPreset := 0, seqU := 0, lobi := false, missed := 0, gasp := false, granted := 0,
    errored := 0, lossSeen := false, pm := [], unavail := false }

/-- Halyard's state of a channel that has built nothing. -/
def halChInit : HalCh :=
  { builds := [], verdicts := [], first := true, mirrored := false, last := [], lastRes := [], bad := false, len := 0, sinceReinit := none,
    ploamuAge := [], ploamuReq := [] }

def State.dsOf (s : State) (c : Nat) : DsSt := Tbl.find s.ds c dsInit
def State.setDs (s : State) (c : Nat) (d : DsSt) : State := { s with ds := Tbl.put s.ds c dsInit d }
def State.usOf (s : State) (c : Nat) : UsSt := Tbl.find s.us c usInit
def State.setUs (s : State) (c : Nat) (u : UsSt) : State := { s with us := Tbl.put s.us c usInit u }
def State.discOf (s : State) (c : Nat) : DiscSt := Tbl.find s.disc c discInit
def State.setDisc (s : State) (c : Nat) (d : DiscSt) : State := { s with disc := Tbl.put s.disc c discInit d }
def State.onuOf (s : State) (n : Nat) : OnuCtx := Tbl.find s.onu n onuInit
def State.setOnu (s : State) (n : Nat) (o : OnuCtx) : State := { s with onu := Tbl.put s.onu n onuInit o }
def State.halOf (s : State) (c : Nat) : HalCh := Tbl.find s.hal.ch c halChInit
def State.setHal (s : State) (c : Nat) (h : HalCh) : State := { s with hal := { s.hal with ch := Tbl.put s.hal.ch c halChInit h } }

/-- The contexts that are bound to channel c. -/
def State.onusOf (s : State) (c : Nat) : List Nat := (s.onu.filter (fun p => p.2.chan = c ∧ p.2.st ≠ 0)).map (·.1)

/-- Changes every listed ONU context. -/
def State.onuMap (s : State) (p : OnuCtx → Bool) (f : OnuCtx → OnuCtx) : State :=
  { s with onu := (s.onu.map (fun x => if p x.2 then (x.1, f x.2) else x)).filter (fun x => decide (x.2 ≠ onuInit)) }

/-- State codes of PCH_STS (R65). -/
def chUnbound : Nat := 0
def chOff : Nat := 1
def chStarting : Nat := 2
def chRunning : Nat := 3
def chStandby : Nat := 4
def chFault : Nat := 5
def chRetired : Nat := 6

/-- The state of a channel. -/
def State.ch (s : State) (c : Nat) : Nat := s.fld (F.pchSts_state c)

/-- LANE_STS state of the PTX and PRX lanes of a channel in a state (R278, R282): REEF1 in OFF, FAULT and STANDBY, ACQUIRING in STARTING,
LOCKED in RUNNING, REEF2 when retired, OFF when unbound. -/
def laneOfCh (st : Nat) : Nat :=
  if st = chUnbound then 0 else if st = chStarting then 3 else if st = chRunning then 4 else if st = chRetired then 1 else 2

/-- Moves a channel to a state without an event; its lanes follow. -/
def State.putCh (s : State) (c st : Nat) : State :=
  ((s.setFld (F.pchSts_state c) st).setFld (F.laneSts_state c) (laneOfCh st)).setFld (F.laneSts_state (256 + c)) (laneOfCh st)

/-- Moves a channel to a state and posts CH_STATE with the channel and the new state (R65). -/
def State.moveCh (s : State) (c st : Nat) : State := (s.putCh c st).post 0x0A01 [c, st]

/-- The PON group region of a channel, as R42 writes regions. -/
def chRegion (c : Nat) : Nat := 0x100 + c / 8

/-- Key of a recovery in progress: region, class and object. -/
def recoveryKey (region cls obj : Nat) : Nat := region * 0x10000000000 + cls * 0x100000000 + obj

/-- A fault detected in a region (R39): while the recovery of another resource of the region is in progress, the region becomes
suspect and COMPOUND_FAULT is posted; the fault's own recovery begins. -/
def State.noteFault (s : State) (region cls obj : Nat) : State :=
  let k := recoveryKey region cls obj
  let other := s.rig.recovering.any (fun x => decide (x / 0x10000000000 = region) && decide (x ≠ k))
  let t := if other then
      ({ s with rig := { s.rig with suspect := if s.rig.suspect.contains region then s.rig.suspect else s.rig.suspect ++ [region] } }).post 0x0110 [region]
    else s
  { t with rig := { t.rig with recovering := if t.rig.recovering.contains k then t.rig.recovering else t.rig.recovering ++ [k] } }

/-- The recovery of a resource has ended. -/
def State.recovered (s : State) (region cls obj : Nat) : State :=
  { s with rig := { s.rig with recovering := s.rig.recovering.filter (· ≠ recoveryKey region cls obj) } }

/-- A fault whose recovery ends in the same step, such as a poisoned record (R39). -/
def State.momentFault (s : State) (region : Nat) : State := (s.noteFault region 0xFF 0).recovered region 0xFF 0

/-- The ladder's fault list of a resource. -/
def State.faultList (s : State) (cls obj : Nat) : List Nat := Tbl.find s.sup.faults (cls * 0x100000000 + obj) []

def State.setFaultList (s : State) (cls obj : Nat) (l : List Nat) : State :=
  { s with sup := { s.sup with faults := Tbl.put s.sup.faults (cls * 0x100000000 + obj) [] l } }

/-- The time-base ticks of a number of seconds (R258: 1.6 ns a tick). -/
def ticksOfSec (n : Nat) : Nat := n * 625000000

/-- A detected fault of a resource of classes 1 to 7 (R379): the state after it is counted, and whether it is permanent. -/
def State.ladder (s : State) (cls obj : Nat) : State × Bool :=
  if s.exempt then (s.countN Cn.ladderReef 0 cls 1, false)
  else
    let l := (s.faultList cls obj).filter (fun t => s.sup.tick - t < ticksOfSec (s.fld (F.glbLadder_window_s (cls - 1)))) ++ [s.sup.tick]
    ((s.setFaultList cls obj l).countN Cn.ladderFaults 0 cls 1, decide (l.length > s.fld (F.glbLadder_allowance (cls - 1))))

/-- The counts of the PLOAM queues as PCH_PLOAM_STS gives them. -/
def State.showPloam (s : State) (c : Nat) : State :=
  let d := s.dsOf c
  ((s.setFld (F.pchPloamSts_urgent c) d.urgent.length).setFld (F.pchPloamSts_unicast c) d.unicast.length).setFld (F.pchPloamSts_broadcast c)
    d.broadcast.length

/-- Returns a PLOAM message to firmware: kind 1 not sent, kind 2 refused (R76). -/
def State.returnPloam (s : State) (kind c : Nat) (m : Ploam) : State :=
  s.tell kind c (m.typ :: (match m.onu with | some o => o | none => 0x10000) :: m.content)

/-- Empties the three PLOAM queues and returns their messages to firmware as not sent (R76). -/
def State.flushPloam (s : State) (c : Nat) : State :=
  let d := s.dsOf c
  let t := (d.urgent ++ d.unicast ++ d.broadcast).foldl (fun (t : State) m => t.returnPloam 1 c m) s
  (t.setDs c { d with urgent := [], unicast := [], broadcast := [] }).showPloam c

/-- HAL_TT_STS follows the telltale store (R156). -/
def State.showTells (s : State) : State :=
  let n := 4096 - s.hal.tells.length
  let t := (s.setFld F.halTtSts_free n).setFld F.halTtSts_low_free (min n (s.fld F.halTtSts_low_free))
  if t.hal.tells.length < 2048 then { t with hal := { t.hal with fullSaid := false } } else t

/-- The telltale reservations of a channel are lost (R150, R158). -/
def State.dropTells (s : State) (c : Nat) : State :=
  let n := (s.hal.tells.filter (fun x => decide (x.chan = c))).length
  (({ s with hal := { s.hal with tells := s.hal.tells.filter (fun x => decide (x.chan ≠ c)) } }).countN Cn.ttLost c 0 n).showTells

/-- The channel stops framing (R66, R76, R79, R97): the remainder of a fragmented packet and the open upstream packets are discarded
and counted, the PLOAM queues are emptied, the frame in progress and its map end, the laser is off, and Halyard builds no more maps for the channel. -/
def State.stopFraming (s : State) (c : Nat) : State :=
  let d := s.dsOf c
  let t := if d.rest.isSome then (s.count Cn.dsFragAbort c).setFld (F.pchDsAlm_frag_abort c) 1 else s
  let t := t.setDs c { d with rest := none, space := 0, map := [], stopping := false, ploamSent := [] }
  let t := ((t.setHal c halChInit).dropTells c).setFld (F.halChSts_hold_len c) 0
  let t := { t with hal := { t.hal with reserves := t.hal.reserves.filter (fun r => decide (r.chan ≠ c)) } }
  let t := (t.countN Cn.usReasmAbort c 0 (t.usOf c).reasm.length).setUs c { t.usOf c with reasm := [] }
  (t.flushPloam c).setFld (F.pchSts_laser_on c) 0

/-- The number of faults in the ladder's present window, as PCH_STS retries shows it. -/
def State.showRetries (s : State) (c : Nat) : State := s.setFld (F.pchSts_retries c) (s.faultList 1 c).length

/-- The protective part of the retirement of a channel (R65, R381): it enters RETIRED with its laser held off, and the record is queued. -/
def State.retireCh (s : State) (c : Nat) : State :=
  (((s.moveCh c chRetired).setFld (F.pchDsAlm_retired c) 1).setFld (F.pchSts_laser_on c) 0).recordRetire 1 c

/-- A channel that is RUNNING or STARTING enters FAULT (R65): framing stops, the laser is off, one fault is counted on the ladder, and
a permanent fault retires the channel. -/
def State.faultCh (s : State) (c : Nat) : State :=
  let t := (s.stopFraming c).moveCh c chFault
  let t := t.onuMap (fun o => decide (o.chan = c)) (fun o => { o with lossSeen := true })
  let (t, perm) := (t.noteFault (chRegion c) 1 c).ladder 1 c
  let t := t.showRetries c
  let t := t.setDs c { t.dsOf c with retryOk := !perm, readyTimer := false }
  if perm then t.retireCh c else t

/-- The channel is turned off (R65): the laser is off, framing stops and CH_STATE reports OFF. -/
def State.offCh (s : State) (c : Nat) : State :=
  let t := s.stopFraming c
  ((t.setDs c { t.dsOf c with readyTimer := false, retryOk := false }).moveCh c chOff).recovered (chRegion c) 1 c

/-- The mate role is active in UNPAIRED and ACTIVE and standby in every other pair state (R302). -/
def State.mateStandby (s : State) : Bool := !(decide (s.fld F.mateSts_state = 0) || decide (s.fld F.mateSts_state = 4))

/-- The contexts of a channel put the state, ONU-ID and key index their commands gave them in force at a frame boundary (R80, R112,
R113). -/
def State.commitCtx (s : State) (c : Nat) : State :=
  s.onuMap (fun o => o.chan = c ∨ o.chanNow = c)
    (fun o => { o with stNow := o.st, chanNow := o.chan, onuIdNow := o.onuId, keyIxNow := o.keyIx })

/-- The upstream account of a frame that ends (R97, R99, R124): frames since the last good burst of each open packet, consecutive frames
with grants in which no delimiter qualified, and the frames left to pending updates. -/
def State.usFrameEnd (s : State) (c : Nat) : State :=
  let u := s.usOf c
  let s := s.onuMap (fun o => decide (o.chan = c) && o.update.isSome) (fun o => { o with update := o.update.map (· - 1) })
  s.setUs c { u with
    silent := if u.frameGranted then (if u.frameHeard then 0 else u.silent + 1) else u.silent,
    frameGranted := false, frameHeard := false,
    reasm := u.reasm.map (fun p => (p.1, p.2.map (fun q => { q with age := q.age + 1 }))) }

/-- Lanes of a port in a mode (R277). -/
def portWidth (m : Nat) : Nat := if m = 1 then 8 else if m = 2 then 4 else if m = 3 then 2 else 1

/-- Mode and port mask of an uplink group (R276) as applied. -/
def State.ugOf (s : State) (u : Nat) : Nat × Nat := Tbl.find s.rig.run.ugRec u (0, 0)

/-- The port of a src_port encoding (R168) is bound: a channel with a mode, or an uplink port of its group's record (R277). -/
def State.portBound (s : State) (d : Nat) : Bool :=
  if d < 256 then decide (s.fld (F.pchMode_mode d) ≠ 0)
  else
    let n := d - 256
    let g := s.ugOf (n / 8)
    decide (n < 128) && s.uplinkBound (n / 8) && decide (g.1 ≠ 0) && decide (g.2 / 2 ^ (n % 8) % 2 = 1) && decide (n % 8 % portWidth g.1 = 0)

/-- The port is bound and not retired (R183). -/
def State.portUsable (s : State) (d : Nat) : Bool := s.portBound d && !(decide (d < 256) && decide (s.ch d = chRetired))

/-- A descriptor that carries no flow index. -/
def noFlow : Nat := 0x40000

/-- A destination that names LAG l. -/
def destLag (l : Nat) : Nat := 0x8000 + l

/-- The state as a packet of epoch e reads its epoch-governed rigging (R14, R28): the previous epoch's registers and records while e
is not the current epoch. -/
def State.asOf (s : State) (e : Nat) : State := if e = s.epoch then s else { s with regs := s.prevRegs, recs := s.prevRecs }

/-- The fabric port of a source port: group g for a channel, 32 + u for an uplink port (R199). -/
def fabPort (d : Nat) : Nat := if d < 256 then d / 8 else 32 + (d - 256) / 8

end Sys2Proof.Machine
end

