-- ==== Sys2Proof/Machine/Crc.lean ====
section
/-! DEFINITION. The checks the device computes over bytes: CRC-32C (R172), the frame check sequence of IEEE 802.3 (R104) and CRC-8 (R288). -/

namespace Sys2Proof.Machine

/-- One bit of the reflected CRC-32C. -/
def crc32cBit (c : Nat) : Nat := if c % 2 = 1 then (c / 2) ^^^ 0x82F63B78 else c / 2

/-- One byte of CRC-32C. -/
def crc32cByte (c b : Nat) : Nat :=
  crc32cBit (crc32cBit (crc32cBit (crc32cBit (crc32cBit (crc32cBit (crc32cBit (crc32cBit (c ^^^ (b % 256)))))))))

/-- CRC-32C (R172): polynomial 0x1EDC6F41, reflected, initial value and final exclusive-or all ones. -/
def crc32c (l : List Nat) : Nat := (l.foldl crc32cByte 0xFFFFFFFF) ^^^ 0xFFFFFFFF

/-- One bit of the reflected CRC-32 of IEEE 802.3. -/
def crc32Bit (c : Nat) : Nat := if c % 2 = 1 then (c / 2) ^^^ 0xEDB88320 else c / 2

/-- One byte of CRC-32. -/
def crc32Byte (c b : Nat) : Nat :=
  crc32Bit (crc32Bit (crc32Bit (crc32Bit (crc32Bit (crc32Bit (crc32Bit (crc32Bit (c ^^^ (b % 256)))))))))

/-- The frame check sequence of IEEE 802.3, in the order in which its bytes leave. -/
def frameFcs (l : List Nat) : List Nat := leBytes 4 ((l.foldl crc32Byte 0xFFFFFFFF) ^^^ 0xFFFFFFFF)

/-- One bit of CRC-8 with polynomial x^8 + x^2 + x + 1. -/
def crc8Bit (c : Nat) : Nat := if c / 128 % 2 = 1 then (c * 2 % 256) ^^^ 0x07 else c * 2 % 256

/-- CRC-8 of R288 over bytes, most significant bit first, initial value 0. -/
def crc8 (l : List Nat) : Nat :=
  l.foldl (fun c b => crc8Bit (crc8Bit (crc8Bit (crc8Bit (crc8Bit (crc8Bit (crc8Bit (crc8Bit (c ^^^ (b % 256)))))))))) 0

end Sys2Proof.Machine
end

