-- ==== Sys2Proof/Machine/Stage.lean ====
section
/-! DEFINITION. The staged set as every staging path writes it (R9, R49, R50): one write moves the staging machine and enters the
set, or is lost. -/

namespace Sys2Proof.Machine

/-- Completion codes of RIG_STS (R50). -/
def cCompleted : Nat := 1
def cAborted : Nat := 2
def cAbortLate : Nat := 3
def cCheckFailed : Nat := 4
def cBadState : Nat := 5
def cLateSchedule : Nat := 6
def cSigFailed : Nat := 7
def cFlashError : Nat := 8

/-- State of the staging machine: 0 OPEN, 1 CHECKING, 2 CHECKED, 3 FAILED, 4 DRAINING, 5 ARMED, 6 REGION. -/
def State.rigState (s : State) : Nat := s.fld F.rigSts_state

/-- A persistent record of a resource waits to be written, and a structural part or a completion waits for it (R334). -/
def State.recordWaits (s : State) (cls obj : Nat) : Bool :=
  (s.mem.jnlP ++ s.mem.jnlWait).any (fun r => decide (r.cls = cls) && decide (r.obj = obj) && (decide (r.act = .retire) || decide (r.act = .unretire)))

/-- The device-initiated apply that is next, once its record is written (R53, R334). A class above 255 is an un-retirement's. -/
def State.devNext (s : State) : Option (Nat × Nat) :=
  match s.rig.devApplies with
  | [] => none
  | x :: _ => if s.recordWaits (x.1 % 256) x.2 then none else some x

/-- RIG_STS busy as its field table gives it; a device-initiated apply drains while the previous epoch is live. -/
def State.rigBusy (s : State) : Bool :=
  decide (s.rigState = 1) || decide (s.rigState = 4) || decide (s.rigState = 6) || (s.devNext.isSome && s.flag F.rigSts_prev_live && !s.sup.reefed) ||
    s.rig.attestBusy || s.rig.loadTrimBusy || s.rig.loadSlotBusy

/-- Sets RIG_STS busy. -/
def State.showBusy (s : State) : State := s.setFld F.rigSts_busy (if s.rigBusy then 1 else 0)

/-- Moves the staging machine; leaving or re-entering OPEN by a command forgets a past apply instant (R50, the row of ABORT in OPEN). -/
def State.moveRig (s : State) (st : Nat) : State :=
  let t := s.setFld F.rigSts_state st
  ({ t with rig := { t.rig with fresh := false } }).showBusy

/-- Writes the completion of a command. -/
def State.complete (s : State) (c : Nat) : State := s.setFld F.rigSts_completion c

/-- A device-initiated apply falls due (R53): it is pending from now on; an ARMED host apply is cancelled, and its set returns to OPEN. -/
def State.dueApply (s : State) (cls obj : Nat) : State :=
  let t := if s.rigState = 5 then (((s.moveRig 0).setFld F.rigSts_recheck 1).complete cAborted).post 0x0204 [Config.eventWord 0x0204 0] else s
  ({ t with rig := { t.rig with devApplies := t.rig.devApplies ++ [(cls, obj)] } }).showBusy

/-- A staging write (R50): lost in DRAINING, ARMED and REGION; otherwise the machine returns to OPEN, a check in progress completing
ABORTED, and the write enters the set. -/
def State.stagingWrite (s : State) (f : State → State) : State :=
  if s.rigState = 4 ∨ s.rigState = 5 ∨ s.rigState = 6 then (s.setFld F.rigSts_stage_write_lost 1).post 0x020A []
  else if s.rigState = 1 then f ((s.moveRig 0).complete cAborted)
  else f (s.moveRig 0)

/-- Puts an entry at the end of the staging order (R406). -/
def State.logStaged (s : State) (e : StagedEnt) : State :=
  { s with stagedLog := s.stagedLog.filter (fun x => ¬ (x.key = e.key ∧ x.isReg = e.isReg)) ++ [e] }

/-- The staged value of a register: its applied value while nothing is staged (R9). -/
def State.stagedReg (s : State) (a : Nat) : Word := (Tbl.find s.staged a none).getD (s.reg a)

/-- Enters a register's word into the staged set. -/
def State.enterReg (s : State) (a : Nat) (w : Word) (viaReg : Bool) (sect : Nat) : State :=
  ({ s with staged := Tbl.put s.staged a none (some w) }).logStaged ⟨a, true, viaReg, sect⟩

/-- Enters a window record into the staged set. -/
def State.enterRec (s : State) (key : Nat) (ws : List Nat) (viaReg : Bool) (sect : Nat) : State :=
  ({ s with stagedRecs := Tbl.put s.stagedRecs key none (some ws) }).logStaged ⟨key, false, viaReg, sect⟩

/-- A staged write of a window's record (R9, R50). -/
def State.stageRec (s : State) (kind ix : Nat) (ws : List Nat) : State :=
  s.stagingWrite (fun t => t.enterRec (recKey kind ix) ws true 0)

/-- The staged set holds nothing. -/
def State.stagedEmpty (s : State) : Bool := s.staged.isEmpty && s.stagedRecs.isEmpty && s.stagedLog.isEmpty

/-- Empties the staged set (R9). -/
def State.emptyStaged (s : State) : State := { s with staged := [], stagedRecs := [], stagedLog := [] }

end Sys2Proof.Machine
end

