-- ==== Sys2Proof/Machine/Fwd.lean ====
section
/-! DEFINITION. The forwarding tables: keys and buckets, lookup, insertion with relocation, learning, ageing, static entries under
epochs, and the table window (08_forwarding_tables.md). -/

namespace Sys2Proof.Machine

/-- A partition that is not used. -/
def fwdPartNone : FwdPart :=
  { kind := 0, learn := false, flushOnDown := false, staticGuard := false, hairpin := false, miss := 0, missQ := 0, base := 0, log2 := 0,
    depth := 0, quota := 0, missLag := false, missDest := 0, ageS := 0, seed := 0 }

/-- Partition p of the running rigging (R178). -/
def State.fwdPart (s : State) (p : Nat) : FwdPart := s.rig.run.parts.getD p fwdPartNone

/-- The partition of a source port, 0xFF for none, and its max_learn (R178). -/
def State.srcPart (s : State) (d : Nat) : Nat × Nat := Tbl.find s.rig.run.srcPorts d (0xFF, 0)

/-- The candidate buckets of key k in partition record q (R181). -/
def fwdBuckets (q : FwdPart) (k : Nat) : Nat × Nat :=
  let n := 2 ^ q.log2
  let b1 := q.base + crc32c (beBytes 4 q.seed ++ beBytes 8 k) % n
  let b2 := q.base + crc32c (beBytes 4 (q.seed ^^^ 0xFFFFFFFF) ++ beBytes 8 k) % n
  (b1, if b2 = b1 then b1 ^^^ 1 else b2)

/-- First overflow location. -/
def ovfBase : Nat := 0x100000

/-- The entry of a slot. -/
def State.slot (s : State) (loc : Nat) : Option FwdEnt := Tbl.find s.fwd.slots loc none

/-- Overflow locations that hold an entry of partition p. -/
def State.ovfLocs (s : State) (p : Nat) : List Nat :=
  (s.fwd.slots.filter (fun x => decide (ovfBase ≤ x.1) && (match x.2 with | some e => decide (e.part = p) | none => false))).map (·.1)

/-- Overflow entries in use. -/
def State.ovfUsed (s : State) : Nat := (s.fwd.slots.filter (fun x => decide (ovfBase ≤ x.1))).length

/-- The dynamic entries whose dest is port d (R189). -/
def State.owned (s : State) (d : Nat) : Nat :=
  (s.fwd.slots.filter (fun x => match x.2 with
    | some e => !e.static_ && !e.lag && decide (e.dest = d)
    | none => false)).length

/-- FWD_STS as the tables stand. -/
def State.showFwd (s : State) : State :=
  (s.setFld F.fwdSts_lq_fill (min 8191 s.fwd.queue.length)).setFld F.fwdSts_ovf_used s.ovfUsed

/-- FWD_OVF_FULL (R197): posted when the partition's overflow reaches its quota, and again only after it has fallen below half. -/
def State.noteOvf (s : State) (p : Nat) : State :=
  let n := (s.ovfLocs p).length
  let q := (s.fwdPart p).quota
  let said := Tbl.find s.fwd.ovfSaid p false
  if n ≥ q ∧ n > 0 ∧ said = false then ({ s with fwd := { s.fwd with ovfSaid := Tbl.put s.fwd.ovfSaid p false true } }).post 0x0D05 [p]
  else if 2 * n < q then { s with fwd := { s.fwd with ovfSaid := Tbl.put s.fwd.ovfSaid p false false } }
  else s

/-- Memory and code word of a slot (R317). -/
def slotWord (loc : Nat) : Nat × Nat := if loc < ovfBase then (1, loc) else (2, loc - ovfBase)

/-- Writes a slot. -/
def State.setSlot (s : State) (loc : Nat) (e : Option FwdEnt) : State :=
  (({ s with fwd := { s.fwd with slots := Tbl.put s.fwd.slots loc none e } }).noteWrite (slotWord loc).1 (slotWord loc).2).showFwd

/-- Clears a slot that holds an entry; an overflow entry's partition is judged again. -/
def State.clearSlot (s : State) (loc : Nat) : State :=
  let t := s.setSlot loc none
  match s.slot loc with
  | some e =>
    let t := if loc ≥ ovfBase then t.noteOvf e.part else t
    if !e.static_ && !e.lag && decide (t.owned e.dest < (t.srcPart e.dest).2) then
      { t with fwd := { t.fwd with limitSaid := Tbl.put t.fwd.limitSaid e.dest false false } }
    else t
  | none => t

/-- A read of a slot (R195): the state after it, and whether the packet that reads it is dropped. A poisoned applied static entry with
a good shadow is rewritten; every other poisoned slot is cleared. -/
def State.readSlot (s : State) (loc : Nat) (ecc : Ecc) (shadowOk : Bool) : State × Bool :=
  let w := slotWord loc
  let (t, bad) := s.readWord w.1 w.2 ecc
  if bad then
    let u := t.setPoison w.1 w.2 false
    match u.slot loc with
    | some e =>
      if e.static_ ∧ e.addP = false then
        if shadowOk then (u.post 0x0D01 [loc], true) else ((u.clearSlot loc).post 0x0D02 [loc, 1], false)
      else ((u.clearSlot loc).post 0x0D02 [loc, 0], false)
    | none => (u.post 0x0D02 [loc, 0], false)
  else (t, false)

/-- Reads a list of slots with what the reads find; a slot that is not listed is clean with a good shadow. -/
def State.readSlots (s : State) (reads : List SlotRead) : List Nat → State × Bool
  | [] => (s, false)
  | loc :: r =>
    let f := reads.find? (fun x => decide (x.loc = loc))
    let (t, d) := s.readSlot loc (match f with | some x => x.ecc | none => .clean) (match f with | some x => x.shadowOk | none => true)
    let (u, d') := t.readSlots reads r
    (u, d || d')

/-- The four locations of a bucket. -/
def bucketLocs (b : Nat) : List Nat := [4 * b, 4 * b + 1, 4 * b + 2, 4 * b + 3]

/-- An entry visible to a lookup of epoch e (R193): dynamic entries, and the static entries applied under e. -/
def State.entVisible (s : State) (e : Nat) (x : FwdEnt) : Bool :=
  if x.static_ then
    !x.addP && !(x.newIn && decide (e ≠ s.epoch)) && !(x.gone && decide (e = s.epoch))
  else true

/-- An entry as the staged set leaves it after the next apply. -/
def entStaged (x : FwdEnt) : Bool := !x.delP && !x.gone

/-- The locations a lookup reads: both buckets and the partition's overflow entries (R183). -/
def State.lookupLocs (s : State) (p k : Nat) : List Nat :=
  let b := fwdBuckets (s.fwdPart p) k
  bucketLocs b.1 ++ bucketLocs b.2 ++ s.ovfLocs p

/-- The first location of a list that holds an entry of partition p and key k that satisfies f. -/
def State.findEnt (s : State) (p k : Nat) (f : FwdEnt → Bool) : List Nat → Option (Nat × FwdEnt)
  | [] => none
  | loc :: r =>
    match s.slot loc with
    | some x => if x.part = p ∧ x.key = k ∧ f x = true then some (loc, x) else s.findEnt p k f r
    | none => s.findEnt p k f r

/-- A lookup of key k in partition p under epoch e (R183): the state after the reads, whether the packet is dropped for a poisoned
static slot, and the entry found. -/
def State.lookup (s : State) (p k e : Nat) (reads : List SlotRead) : State × Bool × Option (Nat × FwdEnt) :=
  let (t, d) := s.readSlots reads (s.lookupLocs p k)
  (t, d, t.findEnt p k (t.entVisible e) (t.lookupLocs p k))

/-- The lowest free slot of a bucket. -/
def State.freeIn (s : State) (b : Nat) : Option Nat := (bucketLocs b).find? (fun l => (s.slot l).isNone)

/-- The other candidate bucket of the entry in a slot of bucket b. -/
def State.otherBucket (s : State) (loc b : Nat) : Nat :=
  match s.slot loc with
  | some e => let c := fwdBuckets (s.fwdPart e.part) e.key; if c.1 = b then c.2 else c.1
  | none => b

/-- move(b, s, a) of R185: the entry is copied to the lowest free slot of bucket a and its source slot is cleared. -/
def State.moveEnt (s : State) (loc a : Nat) : State :=
  match s.slot loc, s.freeIn a with
  | some e, some d => ((s.setSlot d (some e)).setSlot loc none).count Cn.relocMoves 0
  | _, _ => s

/-- The relocation chain of R184 from bucket b, with at most the given number of steps left: the state (rotors move) and the chain of
source locations and target buckets, if one ends in a free slot. -/
def State.findChain (s : State) (b : Nat) (seen : List Nat) (ch : List (Nat × Nat)) : Nat → State × Option (List (Nat × Nat))
  | 0 => (s, none)
  | n + 1 =>
    let s := (s.readSlots [] (bucketLocs b)).1
    match (bucketLocs b).find? (fun l => let a := s.otherBucket l b; !seen.contains a && (s.freeIn a).isSome) with
    | some l => (s, some (ch ++ [(l, s.otherBucket l b)]))
    | none =>
      let r := Tbl.find s.fwd.rot b 0
      match [0, 1, 2, 3].find? (fun i => !seen.contains (s.otherBucket (4 * b + (r + i) % 4) b)) with
      | none => (s, none)
      | some i =>
        let k := (r + i) % 4
        let a := s.otherBucket (4 * b + k) b
        let t := { s with fwd := { s.fwd with rot := Tbl.put s.fwd.rot b 0 ((k + 1) % 4) } }
        t.findChain a (seen ++ [a]) (ch ++ [(4 * b + k, a)]) n

/-- Runs a chain, last link first, and writes the entry in the slot of the first link. -/
def State.runChain (s : State) (e : FwdEnt) (ch : List (Nat × Nat)) : State :=
  let t := ch.reverse.foldl (fun (t : State) x => t.moveEnt x.1 x.2) s
  match ch.head? with
  | some x => t.setSlot x.1 (some e)
  | none => t

/-- The lowest free overflow entry. -/
def State.freeOvf (s : State) : Option Nat := (List.range 16384).find? (fun i => (s.slot (ovfBase + i)).isNone)

/-- insert(e) of R184: the state after it and whether the entry was placed. -/
def State.insertEnt (s : State) (e : FwdEnt) : State × Bool :=
  let q := s.fwdPart e.part
  let b := fwdBuckets q e.key
  let s := (s.readSlots [] (bucketLocs b.1 ++ bucketLocs b.2)).1
  match s.freeIn b.1, s.freeIn b.2 with
  | some l, _ => (s.setSlot l (some e), true)
  | none, some l => (s.setSlot l (some e), true)
  | none, none =>
    match s.findChain b.1 [b.1, b.2] [] q.depth with
    | (t, some ch) => (t.runChain e ch, true)
    | (t, none) =>
      match t.findChain b.2 [b.1, b.2] [] q.depth with
      | (u, some ch) => (u.runChain e ch, true)
      | (u, none) =>
        if (u.ovfLocs e.part).length < q.quota ∧ u.ovfUsed < 16384 then
          match u.freeOvf with
          | some i => ((u.setSlot (ovfBase + i) (some e)).noteOvf e.part, true)
          | none => (u, false)
        else (u, false)

/-- The flap window index modulo 256 (R190). -/
def State.flapWin (s : State) : Nat := s.nowNs / (s.fld F.fwdFlap_flap_ms * 1000000) % 256

/-- Notes a change of a dynamic entry for the mate's mirror, on the ACTIVE part (R306): 1 insert, 2 move, 3 aged, 4 flushed or deleted,
5 pin, 6 unpin. -/
def State.noteLearn (s : State) (op : Nat) (e : FwdEnt) : State :=
  if s.fld F.mateSts_state = 4 then { s with mate := { s.mate with learnOut := s.mate.learnOut ++ [(op, e)] } } else s

/-- Removes a dynamic entry, noting why for the mirror. -/
def State.dropDyn (s : State) (loc op : Nat) : State :=
  match s.slot loc with
  | some e => (s.clearSlot loc).noteLearn op e
  | none => s

/-- What the engine does with a request (R189). -/
def State.learn (s : State) (r : LearnReq) (reads : List SlotRead) : State :=
  let (s, _, f) := s.lookup r.part r.key s.epoch reads
  match f with
  | none =>
    let ml := (s.srcPart r.src).2
    if ml ≠ 0 ∧ s.owned r.src ≥ ml then
      let t := s.count Cn.learnLimit r.src
      if Tbl.find t.fwd.limitSaid r.src false then t
      else ({ t with fwd := { t.fwd with limitSaid := Tbl.put t.fwd.limitSaid r.src false true } }).post 0x0D04 [r.src]
    else
      let e : FwdEnt :=
        { key := r.key, flowEn := r.flowEn, lag := r.lag, dest := r.dest, flow := r.flow, static_ := false, pinned := false,
          refreshed := true, age := 0, moves := 0, win := 0, addP := false, delP := false, part := r.part, newIn := false, gone := false }
      match s.insertEnt e with
      | (t, true) => (t.count Cn.learnNew r.part).noteLearn 1 e
      | (t, false) => t.count Cn.learnFull 0
  | some (loc, e) =>
    if e.lag = r.lag ∧ e.dest = r.dest then
      s.setSlot loc (some (if e.static_ then { e with refreshed := true } else { e with refreshed := true, flowEn := r.flowEn, flow := r.flow }))
    else if e.static_ then s.count Cn.learnStaticConflict r.part
    else if e.pinned then s.count Cn.learnPinned r.part
    else
      let w := s.flapWin
      let mv := if e.win = w then e.moves else 0
      if mv < s.fld F.fwdFlap_flap_limit then
        let x := { e with win := w, moves := mv + 1, lag := r.lag, dest := r.dest, flowEn := r.flowEn, flow := r.flow, refreshed := true }
        ((s.setSlot loc (some x)).count Cn.learnMove r.part).noteLearn 2 x
      else ((s.setSlot loc (some { e with win := w, moves := mv, pinned := true })).post 0x0D03 [r.part, r.key, e.dest]).noteLearn 5 e

/-- LEARN_PROCESS (R189): the engine takes the oldest request. -/
def execLearnProcess (s : State) (reads : List SlotRead) : Host.Outcome State Fault Refusal :=
  match s.fwd.queue with
  | [] => .next s
  | r :: q => if s.mateStandby then .next s else .next ((({ s with fwd := { s.fwd with queue := q } }).learn r reads).showFwd)

/-- Raises a learn request (R188). -/
def State.raiseLearn (s : State) (r : LearnReq) : State :=
  if s.fwd.queue.length < 8192 then ({ s with fwd := { s.fwd with queue := s.fwd.queue ++ [r] } }).showFwd
  else s.count Cn.learnQueueDrop 0

/-- AGER_VISIT (R191): the ager visits one slot of a partition that ages: a dynamic entry is refreshed, aged or removed; an overflow
entry with a free slot in a bucket of its own moves there. -/
def execAgerVisit (s : State) (loc : BitVec 21) (ecc : Ecc) (shadowOk : Bool) : Host.Outcome State Fault Refusal :=
  let l := loc.toNat
  match s.slot l with
  | none => .next s
  | some e =>
    if s.flag F.fwdCtrl_ager_en = true ∧ s.mateStandby = false ∧ (s.fwdPart e.part).ageS > 0 then
      let (t, _) := s.readSlot l ecc shadowOk
      match t.slot l with
      | none => .next t
      | some e =>
        let t := if e.static_ then t
          else if e.refreshed then t.setSlot l (some { e with refreshed := false, age := 0 })
          else if e.age = 3 then (t.dropDyn l 3).count Cn.aged e.part
          else t.setSlot l (some { e with age := e.age + 1 })
        if l ≥ ovfBase ∧ (t.slot l).isSome = true then
          let b := fwdBuckets (t.fwdPart e.part) e.key
          if (t.freeIn b.1).isSome then .next (((t.moveEnt l b.1).noteOvf e.part).count Cn.ovfReturn 0)
          else if (t.freeIn b.2).isSome then .next (((t.moveEnt l b.2).noteOvf e.part).count Cn.ovfReturn 0)
          else .next t
        else .next t
    else .next s

/-- Removes the dynamic entries that satisfy f, counting each as flushed (R192). -/
def State.flushDyn (s : State) (f : FwdEnt → Bool) : State :=
  (s.fwd.slots.map (·.1)).foldl (fun (t : State) l =>
    match t.slot l with
    | some e => if !e.static_ && f e then (t.dropDyn l 4).count Cn.flushed e.part else t
    | none => t) s

/-- The hold window of port d ended without its return (R192). -/
def State.fwdPortDown (s : State) (d : Nat) : State :=
  s.flushDyn (fun e => !e.lag && decide (e.dest = d) && (s.fwdPart e.part).flushOnDown)

/-- Port d was retired (R192). -/
def State.fwdPortRetired (s : State) (d : Nat) : State := s.flushDyn (fun e => !e.lag && decide (e.dest = d))

/-- The table at an apply instant (R193): pending marks take effect for the new epoch, and a dynamic entry with the key of a newly
applied static entry is removed. -/
def State.fwdApply (s : State) : State :=
  let keys := s.fwd.slots.filterMap (fun x => match x.2 with
    | some e => if e.static_ && e.addP then some (e.part, e.key) else none
    | none => none)
  let t := (s.fwd.slots.map (·.1)).foldl (fun (t : State) l =>
    match t.slot l with
    | some e =>
      if !e.static_ && keys.contains (e.part, e.key) then t.clearSlot l
      else if e.static_ && (e.addP || e.delP) then t.setSlot l (some { e with addP := false, delP := false, newIn := e.addP, gone := e.delP })
      else t
    | none => t) s
  t

/-- The marks are cleared and the slots of deleted entries freed once the previous epoch has drained (R193). -/
def State.fwdDrained (s : State) : State :=
  (s.fwd.slots.map (·.1)).foldl (fun (t : State) l =>
    match t.slot l with
    | some e => if e.gone then t.clearSlot l else if e.newIn then t.setSlot l (some { e with newIn := false }) else t
    | none => t) s

/-- The staged set was emptied (R193): staged inserts free their slots, staged deletes are forgotten. -/
def State.fwdDiscard (s : State) : State :=
  (s.fwd.slots.map (·.1)).foldl (fun (t : State) l =>
    match t.slot l with
    | some e => if e.addP then t.clearSlot l else if e.delP then t.setSlot l (some { e with delP := false }) else t
    | none => t) s

/-- Words 2 and 3 of an entry (R182). -/
def entWord2 (e : FwdEnt) : Nat := e.flowEn.toNat * 2 ^ 31 + e.lag.toNat * 2 ^ 30 + e.dest % 512 * 2 ^ 21 + e.flow % 2 ^ 18
def entWord3 (e : FwdEnt) : Nat :=
  2 ^ 31 + e.static_.toNat * 2 ^ 30 + e.pinned.toNat * 2 ^ 29 + e.refreshed.toNat * 2 ^ 28 + e.age % 4 * 2 ^ 26 + e.moves % 16 * 2 ^ 22 +
  e.win % 256 * 2 ^ 14 + e.addP.toNat * 2 ^ 13 + e.delP.toNat * 2 ^ 12 + e.part % 16

/-- The result field of the table window. -/
def State.fwdResult (s : State) (r : Nat) : State := s.setFld F.fwdCmd_result r

/-- The window's data registers. -/
def State.fwdData (s : State) (lo hi res st : Nat) : State :=
  (((s.setFld F.fwdKeyLo lo).setFld F.fwdKeyHi hi).setFld F.fwdRes res).setFld F.fwdState st

/-- The location FWD_ADDR names. -/
def State.fwdLoc (s : State) : Nat :=
  if s.flag F.fwdAddr_ovf then ovfBase + s.fld F.fwdAddr_location % 16384 else s.fld F.fwdAddr_location

/-- Writes a location into FWD_ADDR. -/
def State.showLoc (s : State) (l : Nat) : State :=
  if l ≥ ovfBase then (s.setFld F.fwdAddr_ovf 1).setFld F.fwdAddr_location (l - ovfBase)
  else (s.setFld F.fwdAddr_ovf 0).setFld F.fwdAddr_location l

/-- The key and the partition of the window's key operations. -/
def State.winKey (s : State) : Nat := s.fld F.fwdKeyHi * 2 ^ 32 + s.fld F.fwdKeyLo
def State.winPart (s : State) : Nat := s.fld F.fwdAddr_partition

/-- A partition that exists (result 5 otherwise). -/
def State.partOk (s : State) (p : Nat) : Bool := decide ((s.fwdPart p).kind ≠ 0)

/-- A master that may use the window, with the block out of reset. -/
def State.fwdMay (s : State) (m : Master) : Bool := mayWrite m && s.released 7

/-- READ_SLOT: op 1. -/
def execReadSlot (s : State) (m : Master) (ecc : Ecc) (shadowOk : Bool) : Host.Outcome State Fault Refusal :=
  if s.fwdMay m then
    let l := s.fwdLoc
    let w := slotWord l
    let (_, bad) := s.readWord w.1 w.2 ecc
    let (t, _) := s.readSlot l ecc shadowOk
    if bad then .next ((t.fwdData 0 0 0 0).fwdResult 3)
    else
      match t.slot l with
      | some e => .next ((t.fwdData e.key (e.key / 2 ^ 32) (entWord2 e) (entWord3 e)).fwdResult 0)
      | none => .next ((t.fwdData 0 0 0 0).fwdResult 0)
  else .next s

/-- The answer of a window lookup. -/
def State.lookupAnswer (s : State) (f : Option (Nat × FwdEnt)) : State :=
  match f with
  | some (l, e) => (((s.showLoc l).setFld F.fwdRes (entWord2 e)).setFld F.fwdState (entWord3 e)).fwdResult 0
  | none =>
    let b := fwdBuckets (s.fwdPart s.winPart) s.winKey
    ((s.setFld F.fwdKeyLo b.1).setFld F.fwdKeyHi b.2).fwdResult 1

/-- LOOKUP: op 2, under the current epoch. A poisoned slot completes with result 3 (R195). -/
def execLookup (s : State) (m : Master) (reads : List SlotRead) : Host.Outcome State Fault Refusal :=
  if s.fwdMay m then
    if s.partOk s.winPart then
      let (t, d, f) := s.lookup s.winPart s.winKey s.epoch reads
      if d then .next ((t.fwdData 0 0 0 0).fwdResult 3) else .next (t.lookupAnswer f)
    else .next (s.fwdResult 5)
  else .next s

/-- LOOKUP_STAGED: op 8: the entry as the staged set leaves it. -/
def execLookupStaged (s : State) (m : Master) : Host.Outcome State Fault Refusal :=
  if s.fwdMay m then
    if s.partOk s.winPart then
      let locs := s.lookupLocs s.winPart s.winKey
      match s.findEnt s.winPart s.winKey (fun e => e.addP) locs with
      | some f => .next (s.lookupAnswer (some f))
      | none => .next (s.lookupAnswer (s.findEnt s.winPart s.winKey entStaged locs))
    else .next (s.fwdResult 5)
  else .next s

/-- The staged-set key of a static entry. -/
def fwdStageKey (p k : Nat) : Nat := 2 ^ 80 + p * 2 ^ 64 + k

/-- Stages the insert of a static entry with result word w2 (R193): the state after it and the window's result. -/
def State.stageStatic (s : State) (p k w2 : Nat) (viaReg : Bool) (sect : Nat) : State × Nat :=
  let locs := s.lookupLocs p k
  let e : FwdEnt :=
    { key := k, flowEn := decide (w2 / 2 ^ 31 % 2 = 1), lag := decide (w2 / 2 ^ 30 % 2 = 1), dest := bits w2 29 21,
      flow := bits w2 17 0, static_ := true, pinned := false, refreshed := false, age := 0, moves := 0, win := 0, addP := true,
      delP := false, part := p, newIn := false, gone := false }
  let ent : StagedEnt := ⟨fwdStageKey p k, false, viaReg, sect⟩
  match s.findEnt p k (fun x => x.static_ && x.addP) locs with
  | some (l, _) => ((s.setSlot l (some e)).logStaged ent, 0)
  | none =>
    match s.insertEnt e with
    | (t, true) =>
      match t.findEnt p k (fun x => x.static_ && !x.addP && !x.gone) (t.lookupLocs p k) with
      | some (l, x) => ((t.setSlot l (some { x with delP := true })).logStaged ent, 0)
      | none => (t.logStaged ent, 0)
    | (t, false) => (t, 2)

/-- Stages the delete of a static entry (R193): the state after it and the window's result. -/
def State.stageDelete (s : State) (p k : Nat) (viaReg : Bool) (sect : Nat) : State × Nat :=
  let ent : StagedEnt := ⟨fwdStageKey p k, false, viaReg, sect⟩
  let a := s.findEnt p k (fun x => x.static_ && x.addP) (s.lookupLocs p k)
  let t := match a with | some (l, _) => s.clearSlot l | none => s
  match t.findEnt p k (fun x => x.static_ && !x.addP && !x.gone) (t.lookupLocs p k) with
  | some (l, x) => ((t.setSlot l (some { x with delP := true })).logStaged ent, 0)
  | none => (t, if a.isSome then 0 else 1)

/-- The staging machine takes no staging write in DRAINING, ARMED and REGION (R50). -/
def State.stageLost (s : State) : Bool := decide (s.rigState = 4) || decide (s.rigState = 5) || decide (s.rigState = 6)

/-- INSERT_STATIC: op 3, staged. -/
def execInsertStatic (s : State) (m : Master) : Host.Outcome State Fault Refusal :=
  if s.fwdMay m then
    if s.stageLost then .next ((s.stagingWrite id).fwdResult 6)
    else if s.partOk s.winPart then
      let (t, r) := (s.stagingWrite id).stageStatic s.winPart s.winKey (s.fld F.fwdRes) true 0
      .next (t.fwdResult r)
    else .next (s.fwdResult 5)
  else .next s

/-- DELETE_STATIC: op 4, staged. -/
def execDeleteStatic (s : State) (m : Master) : Host.Outcome State Fault Refusal :=
  if s.fwdMay m then
    if s.stageLost then .next ((s.stagingWrite id).fwdResult 6)
    else if s.partOk s.winPart then
      let (t, r) := (s.stagingWrite id).stageDelete s.winPart s.winKey true 0
      .next (t.fwdResult r)
    else .next (s.fwdResult 5)
  else .next s

/-- DELETE_DYNAMIC: op 5, at once. -/
def execDeleteDynamic (s : State) (m : Master) : Host.Outcome State Fault Refusal :=
  if s.fwdMay m then
    if s.partOk s.winPart then
      match s.findEnt s.winPart s.winKey (fun _ => true) (s.lookupLocs s.winPart s.winKey) with
      | some (l, e) => if e.static_ then .next (s.fwdResult 4) else .next ((s.dropDyn l 4).fwdResult 0)
      | none => .next (s.fwdResult 1)
    else .next (s.fwdResult 5)
  else .next s

/-- UNPIN: op 6, at once. -/
def execUnpin (s : State) (m : Master) : Host.Outcome State Fault Refusal :=
  if s.fwdMay m then
    if s.partOk s.winPart then
      match s.findEnt s.winPart s.winKey (fun _ => true) (s.lookupLocs s.winPart s.winKey) with
      | some (l, e) => if e.static_ then .next (s.fwdResult 4) else .next (((s.setSlot l (some { e with pinned := false })).noteLearn 6 e).fwdResult 0)
      | none => .next (s.fwdResult 1)
    else .next (s.fwdResult 5)
  else .next s

/-- FLUSH: op 7: dynamic entries of a partition, of a partition and the port in FWD_RES, or of all partitions (R192). -/
def execFlush (s : State) (m : Master) (scope : BitVec 2) : Host.Outcome State Fault Refusal :=
  if s.fwdMay m then
    let t := s.setFld F.fwdCmd_scope scope.toNat
    let p := t.winPart
    let d := bits (t.fld F.fwdRes) 29 21
    if scope = 3 then .next t
    else if scope = 2 then .next ((t.flushDyn (fun _ => true)).fwdResult 0)
    else if t.partOk p then
      if scope = 0 then .next ((t.flushDyn (fun e => decide (e.part = p))).fwdResult 0)
      else .next ((t.flushDyn (fun e => decide (e.part = p) && !e.lag && decide (e.dest = d))).fwdResult 0)
    else .next (t.fwdResult 5)
  else .next s

end Sys2Proof.Machine
end

