-- ==== Sys2Proof/Machine/MateOps.lean ====
section
/-! DEFINITION. Sending over the Stay link (R292, R306): messages with their sequence numbers, and the mirror messages that other
blocks' steps cause. -/

namespace Sys2Proof.Machine

/-- The Stay link is up (R290). -/
def State.linkUp (s : State) : Bool := s.flag F.laneSlSts_link_up

/-- Sends a message of a type with the blocks between header and tag; only while the link is up (R292). -/
def State.sendStay (s : State) (typ : Nat) (blocks : List Nat) : State :=
  if s.linkUp then
    (({ s with mate := { s.mate with seqTx := (s.mate.seqTx + 1) % 2 ^ 32 } }).emit (.stay typ s.mate.seqTx blocks)).count Cn.slMsgTx 0
  else s

/-- The part mirrors to its mate (R302, R306): it is ACTIVE in a pair and found no mismatch. -/
def State.mirroring (s : State) : Bool := s.rig.run.mate.pairEn && decide (s.fld F.mateSts_state = 4) && !s.mate.mismatch

/-- Sends a mirror message, counted by its type, on the ACTIVE part. -/
def State.mirror (s : State) (typ : Nat) (blocks : List Nat) : State :=
  if s.mirroring && s.linkUp then (s.sendStay typ blocks).count Cn.mateMsgTx typ else s

/-- The body of an ONU message (R306). -/
def onuBlocks (n : Nat) (o : OnuCtx) : List Nat :=
  [n * 2 ^ 48 + o.chan * 2 ^ 40 + o.st * 2 ^ 37 + o.onuId % 1024 * 2 ^ 27 + o.presetValid.toNat * 2 ^ 26 + o.keyIx % 4 * 2 ^ 24 +
     o.fomPreset % 256 * 2 ^ 16 + unsigned 16 o.f,
   o.sn0 % 2 ^ 32 * 2 ^ 32 + o.sn1 % 2 ^ 32, o.rtd % 2 ^ 32 * 2 ^ 32 + o.eqd % 2 ^ 32, o.preset, o.residue % 256 * 2 ^ 56 + o.seqU % 256 * 2 ^ 48]

/-- Mirrors one ONU context. -/
def State.mirrorOnu (s : State) (n : Nat) : State := s.mirror 0x11 (onuBlocks n (s.onuOf n))

/-- The context's update is not yet in force. -/
def onuPending (o : OnuCtx) : Bool := !(decide (o.st = o.stNow) && decide (o.chan = o.chanNow) && decide (o.onuId = o.onuIdNow) && decide (o.keyIx = o.keyIxNow))

/-- A frame boundary of channel c: its contexts put their updates in force, and the ACTIVE part mirrors each context that changed (R306). -/
def State.boundary (s : State) (c : Nat) : State :=
  let l := (s.onu.filter (fun p => (decide (p.2.chan = c) || decide (p.2.chanNow = c)) && onuPending p.2)).map (·.1)
  l.foldl (fun (t : State) n => t.mirrorOnu n) (s.commitCtx c)

end Sys2Proof.Machine
end

