-- ==== Sys2Proof/Machine/Onu.lean ====
section
/-! DEFINITION. ONU contexts (R110 to R126): ticks and delays, the end of a measurement, the return to IDLE, drift and its update, and
poison. -/

namespace Sys2Proof.Machine

/-- Kinds of code words of the context store that hold an ONU context, its PM state, its preset, and an Alloc's dynamic state. -/
def kOnuCtx : Nat := 8
def kPm : Nat := 9
def kPreset : Nat := 10
def kDyn : Nat := 11

/-- Ticks per upstream bit period of a mode and rate (R110). -/
def tpbOf (mode rate : Nat) : Nat := if mode = 2 then 40 else if rate = 0 then 32 else if rate = 1 then 16 else 8

/-- Ticks per upstream bit period of a channel as its mode and rate are applied (R110). -/
def State.tpb (s : State) (c : Nat) : Nat := tpbOf (s.fld (F.pchMode_mode c)) (s.fld (F.pchMode_us_rate c))

/-- Round-trip delay, equalisation delay and residue for a round-trip delay (R121); none out of reach. -/
def eqdOf (teqd tpb : Nat) (rtd : Int) : Option (Nat × Nat × Nat) :=
  if rtd < 0 ∨ (teqd : Int) < rtd then none
  else some (rtd.toNat, (teqd - rtd.toNat) / tpb, (teqd - rtd.toNat) % tpb)

/-- A context without stored proposal, pending update and drift flag (R124). -/
def OnuCtx.dropUpdate (o : OnuCtx) : OnuCtx := { o with drift := false, prop := none, update := none }

/-- Measurement outcomes (PCH_RAT_RD5). -/
def oMeasured : Nat := 0
def oNoResponse : Nat := 1
def oOutOfReach : Nat := 2
def oAborted : Nat := 3
def oChLeft : Nat := 4

/-- Counts a measurement's end by its outcome (R131). -/
def State.countOutcome (s : State) (c outcome : Nat) : State :=
  if outcome = oNoResponse then s.count Cn.rngNoResponse c
  else if outcome = oOutOfReach then s.count Cn.rngOutOfReach c else s

/-- Ends the measurement of a context (R112, R120): RANGE_DONE carries its outcome; with back the context returns to its prior state. -/
def State.endMeas (s : State) (n outcome : Nat) (back : Bool) : State :=
  let o := s.onuOf n
  match o.meas with
  | none => s
  | some _ =>
    ((s.setOnu n { o with meas := none, outcome := outcome, st := if back then o.prior else o.st }).countOutcome o.chan outcome).post 0x0A21
      [o.chan, n, outcome]

/-- A context as DEACTIVATE leaves it (R112): IDLE, without ONU-ID, pending PM seconds, LOBi and update. -/
def OnuCtx.idle (o : OnuCtx) : OnuCtx :=
  { o.dropUpdate with st := 1, onuId := 0, measured := false, lobi := false, missed := 0, gasp := false, granted := 0, errored := 0,
                      lossSeen := false, pm := [], unavail := false }

/-- Moves a context to IDLE as DEACTIVATE does: a measurement in progress ends ABORTED. -/
def State.toIdle (s : State) (n : Nat) : State :=
  let t := s.endMeas n oAborted false
  t.setOnu n (t.onuOf n).idle

/-- A context found poisoned (R126): FREE from the next boundary on; ONU_CTX_POISON carries the ONU-ID that the channel's map gives. -/
def State.ctxPoison (s : State) (n : Nat) : State :=
  let o := s.onuOf n
  let t := (s.endMeas n oAborted false).momentFault (chRegion o.chan)
  let t := t.setOnu n { onuInit with stNow := o.stNow, chanNow := o.chanNow, onuIdNow := o.onuIdNow, keyIxNow := o.keyIxNow }
  (t.cleanRec 3 kOnuCtx n).post 0x0A25 [o.chan, n, if o.onuId = 0 ∧ o.st < 2 then 0x3FF else o.onuId]

/-- A read of a context that is not FREE (R126): a poisoned one moves to FREE. -/
def State.readCtx (s : State) (n : Nat) (e : Ecc) : State × Bool :=
  if (s.onuOf n).st = 0 then (s, false)
  else
    let (t, bad) := s.readRec 3 kOnuCtx n e
    if bad then (t.ctxPoison n, true) else (t, false)

/-- A value as 16 signed bits, saturating at its limits. -/
def sat16 (v : Int) : Int := if v > 32767 then 32767 else if v < -32768 then -32768 else v

/-- The drift filter after an error of e ticks (R122). -/
def driftStep (f e : Int) : Int := sat16 (f + (e - f).tdiv 16)

/-- Acts on a filter at or above the threshold (R123). -/
def State.propose (s : State) (c n : Nat) : State :=
  let o := s.onuOf n
  let p := eqdOf (s.fld (F.pchRatTeqd_teqd c)) (s.tpb c) ((o.rtd : Int) + o.f)
  let t := (s.setOnu n { o with drift := true, prop := p }).post 0x0A22 [c, n, p.isNone.toNat]
  if s.flag (F.pchRatDrift_drift_auto c) then
    match p with
    | some (_, eqd, res) => t.tell 5 c [n, eqd, res]
    | none => t.tell 6 c [n]
  else t

/-- A good burst of an ACTIVE context whose arrival lies err ticks from its expected position (R122 to R124). While an update is pending,
the old position is the arrival of the drifted ONU at the old equalisation delay, the proposed position its arrival at the proposed one. -/
def State.driftBurst (s : State) (c n : Nat) (err : Int) : State :=
  let o := s.onuOf n
  match o.update, o.prop with
  | some _, some (rtd, eqd, res) =>
    let a := (o.rtd : Int) + o.eqd * s.tpb c + err
    let old := (rtd : Int) + o.eqd * s.tpb c
    let new := (rtd : Int) + eqd * s.tpb c
    if (a - new).natAbs < (a - old).natAbs then
      (s.setOnu n { o.dropUpdate with rtd := rtd, eqd := eqd, residue := res, f := sat16 (a - new) }).count Cn.eqdUpdates c
    else s
  | _, _ =>
    let t := s.setOnu n { o with f := driftStep o.f err }
    if o.drift = false ∧ (driftStep o.f err).natAbs ≥ s.fld (F.pchRatDrift_drift_thr c) then t.propose c n else t

end Sys2Proof.Machine
end

