-- ==== Sys2Proof/Machine/Hold.lean ====
section
/-! DEFINITION. What Halyard keeps of Alloc contexts and frames (06_halyard_grants.md): map units, Alloc provisioning and dynamic state,
and the hold of the last map with its escalation. -/

namespace Sys2Proof.Machine

/-- Ticks of a PON frame (R110). -/
def ticksPerFrame : Nat := 49766400

/-- Bytes of a map unit (R136). -/
def mapUnit (mode : Nat) : Nat := if mode = 2 then 4 else 16

/-- Length of the upstream frame in map units (R136). -/
def frameUnits (mode rate : Nat) : Nat := if mode = 2 then 38880 else if rate = 0 then 12150 else if rate = 1 then 24300 else 48600

/-- Ticks of a map unit. -/
def unitTicks (mode rate : Nat) : Nat := mapUnit mode * 8 * tpbOf mode rate

/-! Fields of an Alloc record (HAL_ALC_DATA0 to HAL_ALC_DATA4). -/

def alValid (ws : List Nat) : Bool := decide (recBits ws 0 31 31 = 1)
def alType (ws : List Nat) : Nat := recBits ws 0 30 28
def alProfile (ws : List Nat) : Nat := recBits ws 0 27 26
def alDbru (ws : List Nat) : Bool := decide (recBits ws 0 25 25 = 1)
def alTtEn (ws : List Nat) : Bool := decide (recBits ws 0 24 24 = 1)
def alPrio (ws : List Nat) : Nat := recBits ws 0 23 21
def alXab (ws : List Nat) : Nat := recBits ws 0 20 19
def alSi (ws : List Nat) : Nat := recBits ws 0 17 14
def alId (ws : List Nat) : Nat := recBits ws 0 13 0
def alWeight (ws : List Nat) : Nat := recBits ws 1 31 24
def alRf (ws : List Nat) : Nat := recBits ws 1 23 0
def alRa (ws : List Nat) : Nat := recBits ws 2 23 0
def alTtUg (ws : List Nat) : Nat := recBits ws 3 31 28
def alTtClass (ws : List Nat) : Nat := recBits ws 3 27 25
def alRm (ws : List Nat) : Nat := recBits ws 3 23 0
def alChan (ws : List Nat) : Nat := recBits ws 4 31 24
def alOnu (ws : List Nat) : Nat := recBits ws 4 15 0

/-- Dynamic state of an Alloc context that was never granted. -/
def allocDyn0 : AllocDyn := { ca := 0, cm := 0, fo := 0, b := 0, lastPoll := 0, granted := [] }
def State.allocDyn (s : State) (a : Nat) : AllocDyn := Tbl.find s.hal.dyn a allocDyn0
def State.setAllocDyn (s : State) (a : Nat) (d : AllocDyn) : State := { s with hal := { s.hal with dyn := Tbl.put s.hal.dyn a allocDyn0 d } }

/-- The valid Alloc contexts of a channel with their words, ascending. -/
def State.allocsOf (s : State) (c : Nat) : List (Nat × List Nat) :=
  (s.recs.filter (fun p => decide (p.1 / 2 ^ 40 = kAlc) && alValid p.2 && decide (alChan p.2 = c))).map (fun p => (p.1 % 2 ^ 40, p.2))

/-- The ONU is ACTIVE on the channel since a frame boundary (R114). -/
def State.activeOn (s : State) (c n : Nat) : Bool := decide ((s.onuOf n).stNow = 4) && decide ((s.onuOf n).chanNow = c)

/-- The Alloc contexts of a channel whose ONUs are ACTIVE. -/
def State.activeAllocs (s : State) (c : Nat) : List (Nat × List Nat) := (s.allocsOf c).filter (fun x => s.activeOn c (alOnu x.2))

/-- Credits and owed bytes as they stand for a frame before its grants (R143). -/
def AllocDyn.accrue (d : AllocDyn) (ws : List Nat) (ac : Nat) : AllocDyn :=
  { d with ca := min (d.ca + alRa ws) (ac * alRa ws), cm := min (d.cm + alRm ws) (ac * alRm ws), fo := d.fo + alRf ws,
           lastPoll := min (d.lastPoll + 1) 255 }

/-- The shares of a grant whose builder is not this part (R148, R307): fixed up to the bytes owed, then assured up to the credit. -/
def AllocDyn.shares (d : AllocDyn) (ws : List Nat) (e : MapEnt) : MapEnt :=
  let fx := if alRf ws = 0 then 0 else min d.fo e.pay
  { e with fixed := fx, asg := if alRa ws = 0 then 0 else min d.ca (e.pay - fx) }

/-- Charges one Alloc context for a frame whose map is m (R143, R148). -/
def State.chargeAlloc (s : State) (sfc ac : Nat) (m : List MapEnt) (x : Nat × List Nat) : State :=
  let es := m.filter (fun e => decide (e.alloc = x.1))
  let pay := es.foldl (fun n e => n + e.pay) 0
  let fx := es.foldl (fun n e => n + e.fixed) 0
  let ag := es.foldl (fun n e => n + e.asg) 0
  let d := (s.allocDyn x.1).accrue x.2 ac
  s.setAllocDyn x.1 { d with ca := d.ca - ag, cm := d.cm - pay, fo := d.fo - fx,
                             lastPoll := if es.any (fun e => e.dbru) then 0 else d.lastPoll,
                             granted := if pay = 0 then d.granted else (sfc, pay) :: d.granted }

/-- Charges a channel's Alloc contexts for a frame. -/
def State.chargeMap (s : State) (sfc ac : Nat) (m : List MapEnt) (l : List (Nat × List Nat)) : State :=
  l.foldl (fun (t : State) x => t.chargeAlloc sfc ac m x) s

/-- Frames since the last PLOAMu of the channel's ONUs after a frame with map m; a request that was served is gone (R145). -/
def State.agePloamu (s : State) (c : Nat) (m : List MapEnt) (onus : List Nat) : State :=
  let h := s.halOf c
  let served := fun (n : Nat) => m.any (fun e => e.ploam && decide (e.onu = n) && decide (e.kind ≠ 2))
  s.setHal c { h with ploamuAge := onus.foldl (fun t n => Tbl.put t n 255 (if served n then 0 else min (Tbl.find t n 255 + 1) 255)) h.ploamuAge,
                      ploamuReq := h.ploamuReq.filter (fun n => !served n) }

/-- Re-initialises a channel's dynamic state after a permanent channel-map fault (R150). -/
def State.reinit (s : State) (c : Nat) : State :=
  let s := (s.allocsOf c).foldl (fun (t : State) x => t.setAllocDyn x.1 { allocDyn0 with lastPoll := 255 }) s
  let s := s.dropTells c
  let s := s.setHal c { s.halOf c with ploamuAge := [], sinceReinit := some 0 }
  let r := s.jnlRec 4 0x0B03 7 c [c] .none
  let s := if s.mem.jnlO.length < 512 then
      { s with mem := { s.mem with jnlO := s.mem.jnlO ++ [r] } }
    else s.count Cn.jnlDrop 0
  s.postRaw 0x0B03 [c]

/-- Escalates a held frame (R150): one episode with a reason of 3 to 6 is one channel-map fault, permanent beyond the allowance or when
it reaches hold_limit frames; hold_limit held frames after a re-initialisation stop the building. -/
def State.escalate (s : State) (c reason : Nat) : State :=
  let h := s.halOf c
  let lim := s.fld (F.halChHold_hold_limit c)
  match h.sinceReinit with
  | some k =>
    let t := s.setHal c { h with sinceReinit := some (k + 1) }
    if k + 1 ≥ lim ∧ s.flag (F.halChSts_stuck c) = false then
      (((t.setHal c { t.halOf c with builds := [] }).setFld (F.halChSts_stuck c) 1).post 0x0B04 [c]).recovered (chRegion c) 7 c
    else t
  | none =>
    let fault := decide (3 ≤ reason) && decide (reason ≤ 6) && !h.bad
    let (t, perm) := if fault then s.ladder 7 c else (s, false)
    let t := t.setHal c { t.halOf c with bad := h.bad || fault }
    let t := t.setFld (F.halChSts_faults c) (min 15 (t.faultList 7 c).length)
    if perm || ((h.bad || fault) && decide (h.len ≥ lim)) then t.reinit c else t

/-- A held frame (R148, R154): the repeated map is charged and its Ratline grants reserved again, the frame counts under its reason, and the
first of an episode posts MAP_HOLD. -/
def State.holdFrame (s : State) (c sfc reason : Nat) : State :=
  let h := s.halOf c
  let act := s.activeAllocs c
  let s := s.chargeMap sfc (s.fld (F.halChHold_ac_frames c)) h.last act
  let s := s.agePloamu c h.last (act.map (fun x => alOnu x.2)).eraseDups
  let s := { s with hal := { s.hal with
    reserves := s.hal.reserves ++ h.lastRes.map (fun (r : Int × Int) => ({ chan := c, lo := r.1 + sfc * ticksPerFrame, hi := r.2 + sfc * ticksPerFrame } : Reserve)) } }
  let s := s.countN Cn.mapHeld c reason 1
  let s := if reason < 9 then s.noteFault (chRegion c) 7 c else s
  let s := if h.len = 0 then s.post 0x0B01 [c, reason] else s
  let s := s.setHal c { s.halOf c with len := h.len + 1 }
  ((s.setFld (F.halChSts_hold_len c) (min 255 (h.len + 1))).setFld (F.halChSts_last_reason c) reason).escalate c reason

/-- The first accepted map after an episode (R148). -/
def State.endEpisode (s : State) (c : Nat) : State :=
  let h := s.halOf c
  let t := if h.len = 0 then s else (s.post 0x0B02 [c, h.len]).recovered (chRegion c) 7 c
  (t.setHal c { t.halOf c with len := 0, bad := false, sinceReinit := none }).setFld (F.halChSts_hold_len c) 0

end Sys2Proof.Machine
end

