-- ==== Sys2Proof/Machine/Parser.lean ====
section
/-! DEFINITION. The parser: graph walk, key, rules, hash, the forwarding decision, and the rule and LAG windows
(07_parser_rules.md, and R183, R187 of 08_forwarding_tables.md). -/

namespace Sys2Proof.Machine

/-- A packet's key as the walk fills it: fields by code (R168), newest first; layer flags; layers; fragment; the two stops. -/
structure PKey where
  f : List (Nat × Nat)
  flags : Nat
  layers : Nat
  frag : Nat
  trunc : Bool
  perr : Bool
deriving DecidableEq, Repr

/-- The value of a key field, none while nothing wrote it. -/
def PKey.get (k : PKey) (code : Nat) : Option Nat := (k.f.find? (fun x => decide (x.1 = code))).map (·.2)

/-- The value of a key field; a field that nothing wrote is 0. -/
def PKey.val (k : PKey) (code : Nat) : Nat := (k.get code).getD 0

/-- Width and place within the 576-bit key of a field code (R168). -/
def keyField (code : Nat) : Nat × Nat :=
  match code with
  | 1 => (128, 0) | 2 => (128, 128) | 3 => (48, 256) | 4 => (48, 304) | 5 => (32, 352) | 6 => (16, 384) | 7 => (16, 400)
  | 8 => (16, 416) | 9 => (8, 448) | 10 => (8, 456) | 11 => (6, 464) | 12 => (2, 470) | 13 => (2, 474) | 14 => (12, 480)
  | 15 => (3, 492) | 16 => (1, 495) | 17 => (12, 496) | 18 => (3, 508) | 19 => (1, 511) | 20 => (20, 512) | 21 => (3, 532)
  | _ => (0, 0)

/-- Byte j of a packet as the parser sees it: the first 256 bytes (R167). -/
def visByte (b : List Nat) (j : Nat) : Nat := if j < 256 then b.getD j (Config.pastEnd j % 256) else Config.pastEnd j % 256

/-- The field of width w at bit position p of the line (R165: bit 0 is the first bit). -/
def lineBits (b : List Nat) (p w : Nat) : Nat :=
  (List.range w).foldl (fun a i => a * 2 + visByte b ((p + i) / 8) / 2 ^ (7 - (p + i) % 8) % 2) 0

/-- What an extraction writes (R165, R167): its value, an address of 32 bits in IPv4-mapped form. -/
def extValue (x : PExt) (b : List Nat) (off : Nat) : Nat :=
  let v := if x.mode = 2 then x.off else lineBits b (8 * off + x.off) x.width
  if x.mode ≠ 2 ∧ x.width = 32 ∧ (x.code = 1 ∨ x.code = 2) then v % 2 ^ 32 + 0xFFFF * 2 ^ 32 else v % 2 ^ (keyField x.code).1

/-- Runs the extractions of a node, in record order. -/
def runExts (k : PKey) (b : List Nat) (node off : Nat) : List PExt → PKey
  | [] => k
  | x :: r =>
    let k := if x.node = node ∧ !(decide (x.mode = 1) && (k.get x.code).isSome) then { k with f := (x.code, extValue x b off) :: k.f } else k
    runExts k b node off r

/-- The fragment state of a node's header: 1 first, 2 later, or what it was (R167). -/
def fragOf (n : PNode) (b : List Nat) (off old : Nat) : Nat :=
  let o := if n.v4frag then lineBits b (8 * off + 51) 13 else lineBits b (8 * off + 16) 13
  let m := if n.v4frag then lineBits b (8 * off + 50) 1 else lineBits b (8 * off + 31) 1
  if n.v4frag || n.v6frag then (if o ≠ 0 then 2 else if m ≠ 0 then 1 else old) else old

/-- The graph walk of R167 from a node at an offset. -/
def walk (g : PGraph) (b : List Nat) (len : Nat) : Nat → Nat → Nat → PKey → PKey
  | 0, _, _, k => k
  | fuel + 1, node, off, k =>
    if node = 0xFF then k
    else
      match g.nodes[node]? with
      | none => k
      | some n =>
        let layers := if n.layer then k.layers + 1 else k.layers
        if layers > 8 then { k with layers := layers, trunc := true }
        else
          let k := { k with layers := layers }
          let hl := if n.var then n.baseLen + lineBits b (8 * off + n.lenOff) n.lenWidth * n.lenMult else n.baseLen
          if hl < n.minLen ∨ off + hl > len then { k with perr := true }
          else if off + hl > 256 then { k with trunc := true }
          else
            let k := runExts k b node off g.exts
            let k := if n.flagBit ≠ 0xFF then { k with flags := k.flags ||| 2 ^ n.flagBit } else k
            let k := { k with frag := fragOf n b off k.frag }
            if k.frag = 2 then k
            else
              let v := lineBits b (8 * off + n.nxtOff) n.nxtWidth
              let ts := (g.trans.drop n.transFirst).take n.transN
              let nx := match ts.find? (fun t => decide (v &&& t.mask = t.value)) with
                | some t => t.next
                | none => n.dflt
              walk g b len fuel nx (off + hl) k

/-- The key a packet's walk leaves. -/
def parseKey (g : PGraph) (p : Pkt) : PKey :=
  walk g p.bytes p.len 2304 (if p.src < 256 then g.startPon else g.startUp) 0
    { f := [], flags := 0, layers := 0, frag := 0, trunc := false, perr := false }

/-- The 576-bit key (R168). -/
def keyBits (k : PKey) (p : Pkt) : Nat :=
  let fs := (List.range 22).foldl (fun a c => a + k.val c % 2 ^ (keyField c).1 * 2 ^ (keyField c).2) 0
  fs + (k.flags % 2 ^ 14 + k.trunc.toNat * 2 ^ 14 + k.perr.toNat * 2 ^ 15) * 2 ^ 432 + k.frag * 2 ^ 472 +
    (if p.src < 256 then p.flow % 2 ^ 18 else 0) * 2 ^ 544 + p.src % 512 * 2 ^ 562 + min 8 k.layers * 2 ^ 571

/-- The field that a comparator reads, none when it was not written for the packet (R170). -/
def cmpField (k : PKey) (p : Pkt) (code : Nat) : Option Nat :=
  match code with
  | 1 => k.get 7 | 2 => k.get 6 | 3 => k.get 14 | 4 => k.get 17 | 5 => k.get 8 | 6 => some p.len
  | 7 => (k.get 20).map (· % 65536) | 8 => (k.get 5).map (· % 65536) | _ => none

/-- Bit i of cmp_result (R170) under the rigging of the packet's epoch. -/
def State.cmpBit (s : State) (k : PKey) (p : Pkt) (i : Nat) : Bool :=
  s.flag (F.prsCmpSel_valid i) &&
  (match cmpField k p (s.fld (F.prsCmpSel_field i)) with
   | some v => decide (s.fld (F.prsCmpRange_lo i) ≤ v) && decide (v ≤ s.fld (F.prsCmpRange_hi i))
   | none => false)

/-- cmp_result. -/
def State.cmpResult (s : State) (k : PKey) (p : Pkt) : Nat :=
  (List.range 32).foldl (fun a i => a + (s.cmpBit k p i).toNat * 2 ^ i) 0

/-- A rule matches (R169): all 18 words under the mask, and the comparators under theirs. -/
def ruleMatch (ws : List Nat) (key cmp : Nat) : Bool :=
  decide (recBits ws 38 31 31 = 1) &&
  (List.range 18).all (fun i => decide ((key / 2 ^ (32 * i) % 2 ^ 32) &&& wordOf ws (18 + i) = wordOf ws i &&& wordOf ws (18 + i))) &&
  decide (cmp &&& wordOf ws 37 = wordOf ws 36 &&& wordOf ws 37)

/-- The lowest-index valid rule that matches: its index and its words (R169). -/
def State.findRule (s : State) (key cmp : Nat) : Option (Nat × List Nat) :=
  (s.recs.find? (fun x => decide (recKey kRule 0 ≤ x.1) && decide (x.1 < recKey (kRule + 1) 0) && ruleMatch x.2 key cmp)).map
    (fun x => (x.1 - recKey kRule 0, x.2))

/-- The symmetric hash of a packet under profile f (R172). -/
def State.hashOf (s : State) (k : PKey) (f : Nat) : Nat :=
  let on := fun (x : Fld) => s.flag x
  let pair := fun (n a b : Nat) => beBytes n (min a b) ++ beBytes n (max a b)
  crc32c (beBytes 4 (s.fld (F.prsHashSeed f)) ++
    (if on (F.prsHashProf_mac f) then pair 6 (k.val 4) (k.val 3) else []) ++
    (if on (F.prsHashProf_ip f) then pair 16 (k.val 2) (k.val 1) else []) ++
    (if on (F.prsHashProf_l4 f) then pair 2 (k.val 7) (k.val 6) else []) ++
    (if on (F.prsHashProf_proto f) then beBytes 1 (k.val 9) else []) ++
    (if on (F.prsHashProf_o_vid f) then beBytes 2 (k.val 14) else []) ++
    (if on (F.prsHashProf_i_vid f) then beBytes 2 (k.val 17) else []) ++
    (if on (F.prsHashProf_tun f) then beBytes 4 (k.val 5) else []) ++
    (if on (F.prsHashProf_mpls f) then beBytes 3 (k.val 20) else []) ++
    (if on (F.prsHashProf_etype f) then beBytes 2 (k.val 8) else []))

/-- The class of the default source (R171). -/
def State.defaultClass (s : State) (k : PKey) : Nat :=
  let src := s.fld F.prsDefault_class_src
  let d := s.fld F.prsDefault_class
  if src = 1 then (k.get 15).getD d else if src = 2 then ((k.get 11).map (· / 8)).getD d else d

/-- Byte i of the slot word of LAG l (R174's window): valid bit 7, member port. -/
def State.lagSlot (s : State) (l i : Nat) : Nat := bits (wordOf (s.record kLag (l * 64 + i / 4)) 0) (8 * (i % 4) + 7) (8 * (i % 4))

/-- The valid member ports of a LAG, rising, each once. -/
def State.lagMembers (s : State) (l : Nat) : List Nat :=
  (List.range 128).filter (fun p => (List.range 256).any (fun i => decide (s.lagSlot l i = 128 + p)))

/-- The lowest-numbered LAG of which uplink port n is a member (R187). -/
def State.lagOfPort (s : State) (n : Nat) : Option Nat := (List.range 64).find? (fun l => (s.lagMembers l).contains n)

/-- The two-tag EtherType search of R164: the EtherType and the offset after it. -/
def etherAfterTags (b : List Nat) : Nat × Nat :=
  let e := fun (o : Nat) => b.getD o 0 * 256 + b.getD (o + 1) 0
  let tag := fun (v : Nat) => v = 0x8100 ∨ v = 0x88A8
  if tag (e 12) then (if tag (e 16) then (e 20, 22) else (e 16, 18)) else (e 12, 14)

/-- The packet is a telltale frame (R155). -/
def State.isTelltale (s : State) (p : Pkt) : Bool :=
  decide (256 ≤ p.src) && decide (s.fld F.halTtCfg_uplinks / 2 ^ ((p.src - 256) / 8) % 2 = 1) &&
  decide ((etherAfterTags p.bytes).1 = s.fld F.halTtCfg_etype) && (!(s.flag F.halTtCfg2_secure) || p.macsec)

/-- The packet is a slow-protocol frame to be trapped (R164). -/
def State.isSlow (s : State) (p : Pkt) : Bool :=
  decide (256 ≤ p.src) && decide (p.bytes.take 6 = [0x01, 0x80, 0xC2, 0x00, 0x00, 0x02]) &&
  decide (p.bytes.getD 12 0 * 256 + p.bytes.getD 13 0 = 0x8809) && s.flag F.prsTrap_slow_en

/-- Queues a packet for a receive ring (R345). -/
def State.toHost (s : State) (q : Nat) (p : RxPkt) : State :=
  { s with rxq := Tbl.put s.rxq q [] (Tbl.find s.rxq q [] ++ [p]) }

/-- A packet as a receive ring takes it. -/
def rxOf (p : Pkt) (k : PKey) (reason rule : Nat) : RxPkt :=
  { reason := reason, parseErr := k.perr, truncated := k.trunc, port := p.src, cls := p.cls, epoch := p.epoch,
    flow := if p.flow = noFlow then 0 else p.flow, onu := p.onu, rule := rule, stamp := p.stamp, bytes := p.bytes, micOk := true }

/-- Sends a packet on to the fabric. -/
def State.toFabric (s : State) (p : Pkt) : State :=
  { s with parsed := Tbl.put s.parsed p.src [] (Tbl.find s.parsed p.src [] ++ [p]) }

/-- A destination can take packets (R183): a usable port, or a LAG with a valid slot, as the packet's epoch rigs it. -/
def State.destOk (s : State) (r : State) (d : Nat) : Bool :=
  if d < 0x8000 then s.portUsable d else decide (r.lagMembers (d - 0x8000) ≠ [])

/-- The lookup key of a partition kind (R180); none for an IPv4 host partition and another packet. -/
def lookupKey (kind : Nat) (k : PKey) : Option Nat :=
  match kind with
  | 1 => some (2 ^ 60 + k.val 14 * 2 ^ 48 + k.val 3)
  | 2 => if k.val 13 = 1 then some (2 * 2 ^ 60 + k.val 1 % 2 ^ 32) else none
  | 3 => some (3 * 2 ^ 60 + k.val 20)
  | 4 => some (4 * 2 ^ 60 + k.val 5)
  | _ => none

/-- The learn key of a bridge partition (R180). -/
def learnKey (k : PKey) : Nat := 2 ^ 60 + k.val 14 * 2 ^ 48 + k.val 4

/-- The packet qualifies for a learn request (R187), its verdict and partition apart. -/
def mayLearn (p : Pkt) (k : PKey) : Bool := !k.perr && !p.host && decide (k.val 4 / 2 ^ 40 % 2 = 0) && decide (k.val 4 ≠ 0)

/-- Raises the learn request of a packet, where R187 and R303 let it; r is the state as the packet's epoch rigs it. -/
def State.learnOf (s r : State) (p : Pkt) (k : PKey) (flow : Nat) : State :=
  let part := (s.srcPart p.src).1
  let q := s.fwdPart part
  if q.kind = 1 ∧ q.learn = true ∧ s.flag F.fwdCtrl_learn_en = true ∧ mayLearn p k = true ∧ s.mateStandby = false then
    let l := if p.src < 256 then none else r.lagOfPort (p.src - 256)
    s.raiseLearn { key := learnKey k, part := part, src := p.src, lag := l.isSome, dest := l.getD p.src, flowEn := decide (p.src < 256),
                   flow := if p.src < 256 then flow else 0 }
  else s

/-- The miss action of a packet (R178, R183). -/
def State.missed (s r : State) (p : Pkt) (k : PKey) (part : Nat) : State :=
  let q := s.fwdPart part
  if q.miss = 1 then s.toHost q.missQ (rxOf p k 4 part)
  else if q.miss = 2 then
    let d := if q.missLag then destLag q.missDest else q.missDest
    if s.destOk r d then s.toFabric { p with dest := d } else s.count Cn.fwdDestRetired 0
  else s

/-- The forwarding decision of a packet with verdict Continue or Copy (R183, R189): lf is its upstream flow, ruleFlow says the rule set
its flow index. -/
def State.forward (s r : State) (p : Pkt) (k : PKey) (lf : Nat) (reads : List SlotRead) : State :=
  let part := (s.srcPart p.src).1
  if part = 0xFF then s.count Cn.fwdNoPart 0
  else
    let q := s.fwdPart part
    let lag := if p.src < 256 then none else r.lagOfPort (p.src - 256)
    let sa := if q.kind = 1 ∧ q.staticGuard = true then
        s.findEnt part (learnKey k) (fun e => e.static_ && s.entVisible p.epoch e && !(decide (e.lag = lag.isSome) && decide (e.dest = lag.getD p.src)))
          (s.lookupLocs part (learnKey k))
      else none
    if sa.isSome then s.count Cn.fwdSaDrop 0
    else
      match lookupKey q.kind k with
      | none => ((s.count Cn.fwdMiss part).missed r p k part).learnOf r p k lf
      | some key =>
        match s.lookup part key p.epoch reads with
        | (t, true, _) => t.count Cn.fwdPoisonDrop 0
        | (t, false, none) => ((t.count Cn.fwdMiss part).missed r p k part).learnOf r p k lf
        | (t, false, some (_, e)) =>
          let t := (t.count Cn.fwdHit part).learnOf r p k lf
          let d := if e.lag then destLag e.dest else e.dest
          if d = p.src ∧ q.hairpin = false then t.count Cn.fwdHairpin 0
          else if t.destOk r d then
            t.toFabric { p with dest := d, flow := if p.flow ≠ noFlow then p.flow else if e.flowEn then e.flow else noFlow }
          else t.count Cn.fwdDestRetired 0

/-- What a poisoned parser word does (R175): rewritten from its copy, or, with the copy poisoned too, a rule or LAG slot is made not
valid in every live epoch, and any other table makes region 0x0000 suspect. -/
def State.prsPoison (s : State) (b : PrsBad) : State :=
  if b.copyBad = false then s.post 0x0C01 [b.table, b.ix]
  else if b.table = 4 then
    let z := fun (t : Table (List Nat)) => Tbl.put t (recKey kRule b.ix) [] ((Tbl.find t (recKey kRule b.ix) []).set 38 0)
    ({ s with recs := z s.recs, prevRecs := z s.prevRecs }).post 0x0C02 [b.table, b.ix]
  else if b.table = 5 then
    let key := recKey kLag (b.ix / 4)
    let z := fun (t : Table (List Nat)) =>
      let w := wordOf (Tbl.find t key []) 0
      let v := bits w (8 * (b.ix % 4) + 7) (8 * (b.ix % 4) + 7)
      Tbl.put t key [] [w - v * 2 ^ (8 * (b.ix % 4) + 7)]
    ({ s with recs := z s.recs, prevRecs := z s.prevRecs }).post 0x0C02 [b.table, b.ix]
  else
    ({ s with rig := { s.rig with suspect := if s.rig.suspect.contains 0 then s.rig.suspect else s.rig.suspect ++ [0] } }).post 0x0110 [0]

/-- The pipeline that parses the next packet of a source port, and the state with the group's alternation moved on (R162). -/
def State.pipeline (s : State) (src : Nat) : State × Nat :=
  if src < 256 then (s, 32 + src / 8)
  else
    let u := (src - 256) / 8
    let a := Tbl.find s.prs.alt u 0
    ({ s with prs := { s.prs with alt := Tbl.put s.prs.alt u 0 (1 - a) } }, 2 * u + a)

/-- What happens to a packet once parsed (R171): r is the state as its epoch rigs it, rule the deciding rule. -/
def State.decide_ (s r : State) (p : Pkt) (k : PKey) (reads : List SlotRead) : State :=
  match r.findRule (keyBits k p) (r.cmpResult k p) with
  | none =>
    let s := s.count Cn.ruleMiss 0
    if k.perr ∧ r.flag F.prsDefault_err_drop = true then s.count Cn.prsErrDrop 0
    else
      let q := { p with cls := r.defaultClass k, flow := noFlow, hash := r.hashOf k (r.fld F.prsDefault_hash_prof) }
      s.forward r q k p.flow reads
  | some (ix, ws) =>
    let s := s.count Cn.ruleHit ix
    let v := recBits ws 38 30 28
    let q := { p with cls := if recBits ws 38 27 27 = 1 then recBits ws 38 26 24 else r.defaultClass k,
                      flow := if recBits ws 38 21 21 = 1 then recBits ws 38 17 0 else noFlow,
                      hash := r.hashOf k (recBits ws 38 23 22) }
    let host := recBits ws 39 5 0
    if v = 1 then s
    else if v = 2 then s.toHost host (rxOf q k 2 ix)
    else if v = 3 then (s.toHost host (rxOf q k 3 ix)).forward r q k p.flow reads
    else if v = 4 then
      let d := if recBits ws 39 25 25 = 1 then destLag (recBits ws 39 21 16) else recBits ws 39 24 16
      let s := s.learnOf r q k p.flow
      if s.destOk r d then s.toFabric { q with dest := d } else s.count Cn.fwdDestRetired 0
    else s.forward r q k p.flow reads

/-- PACKET_PARSE (R164, R167 to R172, R183, R187): the oldest waiting packet of a source port is checked, walked, matched, hashed and
looked up. bad is a poisoned parser word it uses; reads is what its reads of forwarding slots find. -/
def execPacketParse (s : State) (src : PortIx) (bad : Option PrsBad) (reads : List SlotRead) : Host.Outcome State Fault Refusal :=
  match Tbl.find s.toParse src.toNat [] with
  | [] => .next s
  | p :: rest =>
    let s := { s with toParse := Tbl.put s.toParse src.toNat [] rest }
    let r := s.asOf p.epoch
    if r.isTelltale p then
      .next { s with hal := { s.hal with frames := s.hal.frames ++ [((p.src - 256) / 8, p.bytes.drop (etherAfterTags p.bytes).2, p.epoch)] } }
    else if r.isSlow p then
      let k : PKey := { f := [], flags := 0, layers := 0, frag := 0, trunc := false, perr := false }
      .next ((s.toHost (r.fld F.prsTrap_slow_q) (rxOf { p with flow := noFlow } k 1 0)).count Cn.trapSlow (p.src - 256))
    else
      match bad with
      | some b => .next ((s.prsPoison b).count Cn.prsPoisonDrop 0)
      | none =>
        let (s, n) := s.pipeline p.src
        let k := parseKey s.rig.run.graph p
        let s := s.count Cn.prsPackets n
        let s := if k.trunc then s.count Cn.prsTruncated p.src else s
        let s := if k.perr then s.count Cn.prsParseErr p.src else s
        .next (s.decide_ r p k reads)

/-- The data registers of the rule window take the words of a record. -/
def State.ruleData (s : State) (ws : List Nat) : State := (List.range 48).foldl (fun (t : State) i => t.setFld (F.prsRuleData i) (wordOf ws i)) s

/-- RULE_READ_APPLIED: op 1 of PRS_RULE_CMD; a poisoned word is handled under R175. -/
def execRuleReadApplied (s : State) (m : Master) (ecc : Ecc) (copyBad : Bool) : Host.Outcome State Fault Refusal :=
  let ix := s.fld F.prsRuleAddr_index
  if mayWrite m ∧ s.released 7 = true then
    if ecc = .uncorrectable then
      let t := s.prsPoison { table := 4, ix := ix, copyBad := copyBad }
      if copyBad then .next ((t.ruleData []).setFld F.prsRuleCmd_result 2)
      else .next ((t.ruleData (t.record kRule ix)).setFld F.prsRuleCmd_result 0)
    else .next ((s.ruleData (s.record kRule ix)).setFld F.prsRuleCmd_result 0)
  else .next s

/-- RULE_READ_STAGED: op 2. -/
def execRuleReadStaged (s : State) (m : Master) : Host.Outcome State Fault Refusal :=
  if mayWrite m ∧ s.released 7 = true then
    .next ((s.ruleData (s.recordStaged kRule (s.fld F.prsRuleAddr_index))).setFld F.prsRuleCmd_result 0)
  else .next s

/-- RULE_WRITE_STAGED: op 3. -/
def execRuleWriteStaged (s : State) (m : Master) : Host.Outcome State Fault Refusal :=
  if mayWrite m ∧ s.released 7 = true then
    .next ((s.stageRec kRule (s.fld F.prsRuleAddr_index) ((List.range 40).map (fun i => s.fld (F.prsRuleData i)))).setFld F.prsRuleCmd_result 0)
  else .next s

/-- RULE_ZERO_DATA: op 4. -/
def execRuleZeroData (s : State) (m : Master) : Host.Outcome State Fault Refusal :=
  if mayWrite m ∧ s.released 7 = true then .next ((s.ruleData []).setFld F.prsRuleCmd_result 0) else .next s

/-- The slot group that PRS_LAG_ADDR names. -/
def State.lagIx (s : State) : Nat := s.fld F.prsLagAddr_lag * 64 + s.fld F.prsLagAddr_group

/-- LAG_READ_APPLIED: op 1 of PRS_LAG_CMD; a poisoned slot is handled under R175. -/
def execLagReadApplied (s : State) (m : Master) (ecc : Ecc) (copyBad : Bool) : Host.Outcome State Fault Refusal :=
  if mayWrite m ∧ s.released 7 = true then
    if ecc = .uncorrectable then
      let t := s.prsPoison { table := 5, ix := 4 * s.lagIx, copyBad := copyBad }
      if copyBad then .next ((t.setFld F.prsLagData 0).setFld F.prsLagCmd_result 2)
      else .next ((t.setFld F.prsLagData (wordOf (t.record kLag s.lagIx) 0)).setFld F.prsLagCmd_result 0)
    else .next ((s.setFld F.prsLagData (wordOf (s.record kLag s.lagIx) 0)).setFld F.prsLagCmd_result 0)
  else .next s

/-- LAG_READ_STAGED: op 2. -/
def execLagReadStaged (s : State) (m : Master) : Host.Outcome State Fault Refusal :=
  if mayWrite m ∧ s.released 7 = true then
    .next ((s.setFld F.prsLagData (wordOf (s.recordStaged kLag s.lagIx) 0)).setFld F.prsLagCmd_result 0)
  else .next s

/-- LAG_WRITE_STAGED: op 3. -/
def execLagWriteStaged (s : State) (m : Master) : Host.Outcome State Fault Refusal :=
  if mayWrite m ∧ s.released 7 = true then
    .next ((s.stageRec kLag s.lagIx [s.fld F.prsLagData]).setFld F.prsLagCmd_result 0)
  else .next s

end Sys2Proof.Machine
end

