-- ==== Sys2Proof/Machine/Shroud.lean ====
section
/-! DEFINITION. Shroud: root key, derived keys, key records, PON keys, MACsec SAs, blobs, cipher lanes (11_shroud_cipher.md). The fault
of a cipher lane is in Sheet.lean. -/

namespace Sys2Proof.Machine

/-- n bytes of a list, padded with zeros. -/
def fitBytes (n : Nat) (l : List Nat) : List Nat := ((l ++ List.replicate n 0).take n).map (· % 256)

def noKeys : OnuKeys := { msk := none, k1 := none, k2 := none }

/-- Group key state that was never set: index 1 is active and no index has a generation. -/
def noGroup : GroupKeys := { active := 1, gen1 := none, gen2 := none, next := none }

def State.keysOf (s : State) (n : Nat) : OnuKeys := Tbl.find s.shr.keys n noKeys
def State.setKeys (s : State) (n : Nat) (k : OnuKeys) : State := { s with shr := { s.shr with keys := Tbl.put s.shr.keys n noKeys k } }
def State.grpOf (s : State) (c : Nat) : GroupKeys := Tbl.find s.shr.grp c noGroup
def State.setGrp (s : State) (c : Nat) (g : GroupKeys) : State := { s with shr := { s.shr with grp := Tbl.put s.shr.grp c noGroup g } }
def State.saOf (s : State) (rx : Bool) (n : Nat) : Option SaSt := if rx then Tbl.find s.shr.rx n none else Tbl.find s.shr.tx n none
def State.setSa (s : State) (rx : Bool) (n : Nat) (a : Option SaSt) : State :=
  if rx then { s with shr := { s.shr with rx := Tbl.put s.shr.rx n none a } }
  else { s with shr := { s.shr with tx := Tbl.put s.shr.tx n none a } }

/-- The KDF of R241: class, its context bytes, and the key's length in bytes, 16 or 32. -/
def kdf (root : List Nat) (cls : Nat) (ctx : List Nat) (n : Nat) : List Nat :=
  let input := fun (i : Nat) => [i] ++ beBytes 2 cls ++ [0] ++ fitBytes 24 ctx ++ beBytes 2 (8 * n)
  fitBytes n (if n = 16 then Config.cmac root (input 1) else fitBytes 16 (Config.cmac root (input 1)) ++ Config.cmac root (input 2))

/-- The root key once it is valid. -/
def State.root (s : State) : List Nat := s.shr.root.getD []

/-- Group key of a channel, index and generation (class 0x0001). -/
def State.groupKey (s : State) (c i g : Nat) : List Nat := kdf s.root 1 ([c, i, 0, 0] ++ beBytes 4 g) 16

/-- SAK of an SA (class 0x0002). -/
def State.sak (s : State) (a : SaSt) : List Nat := kdf s.root 2 ([a.port, 0, 0, 0] ++ fitBytes 12 a.member ++ beBytes 4 a.keyNo) 32

/-- The key-wrap key (class 0x0003). -/
def State.kwk (s : State) : List Nat := kdf s.root 3 [] 32

/-- ROOT_LOAD (R240): the write to SHR_ROOT7 makes the root valid; a root that is valid stays. -/
def execRootLoad (s : State) (m : Master) (data : Word) : Host.Outcome State Fault Refusal :=
  if mayWrite m ∧ s.released 5 = true ∧ s.shr.root = none then
    let s := s.setFld (F.shrRoot 7) data.toNat
    let root := (List.range 8).foldl (fun l i => l ++ beBytes 4 (s.fld (F.shrRoot i))) []
    let kcv := beNat ((kdf root 5 [] 16).take 4)
    let t := { s with shr := { s.shr with root := some root } }
    .next ((((t.setFld F.shrSts_root_valid 1).setFld F.shrKcv_kcv kcv).setFld F.shrWrapCnt_count 0).post 0x0801 [kcv])
  else .next s

/-- Results of SHR_CMD. -/
def shrDone : Nat := 0
def shrBadState : Nat := 1
def shrBadArg : Nat := 2
def shrNoRootRes : Nat := 3
def shrNotExportable : Nat := 4
def shrAuthFail : Nat := 5
def shrWrongRoot : Nat := 6
def shrPoisoned : Nat := 7
def shrNotPresent : Nat := 8

/-- Ends a command of the window with a result. -/
def State.shrEnd (s : State) (r : Nat) : State := s.setFld F.shrCmd_result r

/-- The sub and index of SHR_ARG0. -/
def State.shrSub (s : State) : Nat := bits (s.fld (F.shrArg 0)) 27 24
def State.shrIx (s : State) : Nat := bits (s.fld (F.shrArg 0)) 23 0

/-- Bytes lo to lo + n - 1 of the data registers (R249: byte 0 in bits 7:0 of SHR_DATA0). -/
def State.shrBytes (s : State) (lo n : Nat) : List Nat :=
  (List.range n).map (fun i => s.fld (F.shrData ((lo + i) / 4)) / 2 ^ (8 * ((lo + i) % 4)) % 256)

/-- Writes bytes into the data registers from byte 0. -/
def State.shrPut (s : State) (l : List Nat) : State :=
  (List.range (cdiv l.length 4)).foldl (fun (t : State) i => t.setFld (F.shrData i) (beNat ((fitBytes 4 (l.drop (4 * i))).reverse))) s

/-- Runs a command of the window (R240, R251): only for a master that may write, with the domain out of reset; the master is noted. -/
def State.shrRun (s : State) (m : Master) (f : State → State) : Host.Outcome State Fault Refusal :=
  if mayWrite m ∧ s.released 5 = true then .next (f { s with shr := { s.shr with issuer := some m.toNat } }) else .next s

/-- Names of keys for the lanes' caches (R243): store and index. -/
def keyName (store ix : Nat) : Nat := store * 0x100000000 + ix

/-- A key's entry in a lane's cache becomes the newest; the least recently used entry leaves a cache of 512. -/
def State.useKey (s : State) (phys key : Nat) : State :=
  let l := (key :: (Tbl.find s.shr.cache phys []).filter (· ≠ key)).take 512
  { s with shr := { s.shr with cache := Tbl.put s.shr.cache phys [] l } }

/-- A key is invalidated in every lane (R243). -/
def State.dropKey (s : State) (key : Nat) : State :=
  { s with shr := { s.shr with cache := (s.shr.cache.map (fun p => (p.1, p.2.filter (· ≠ key)))).filter (fun p => decide (p.2 ≠ [])) } }

/-- The stores of R254 in SHR_KEY_POISON: a blob's kind, or 0 for a CA key record. -/
def stCa : Nat := 0
def stTx : Nat := 1
def stRx : Nat := 2
def stOnu : Nat := 3
def stGrp : Nat := 4

/-- Memory of a store: key records in the DRAM table area, SA and group key state in memory 0x08 (R242, R317). -/
def storeMem (st : Nat) : Nat := if st = stCa ∨ st = stOnu then 0x10 else 0x08

/-- A use of a record of a store (R254): the state after it, and whether it was poisoned and so cleared. -/
def State.readStore (s : State) (st ix : Nat) (e : Ecc) : State × Bool :=
  let (t, bad) := s.readRec (storeMem st) (16 + st) ix e
  if bad then
    let t := t.cleanRec (storeMem st) (16 + st) ix
    let t := if st = stOnu then t.setKeys ix noKeys
      else if st = stCa then { t with shr := { t.shr with ca := Tbl.put t.shr.ca ix none none } }
      else if st = stTx then
        let t := if t.fld ((F.shrPortSts_tx_an).inst (ix / 4)) = ix % 4 then t.setFld ((F.shrPortSts_tx_valid).inst (ix / 4)) 0 else t
        t.setSa false ix none
      else if st = stRx then t.setSa true ix none
      else t.setGrp ix { t.grpOf ix with gen1 := none, gen2 := none }
    (t.post 0x0806 [st, ix], true)
  else (t, false)

/-- A blob of 128 bytes (R249): kind, flags, index, check value, nonce, body, tag. -/
def blobOf (kind flags ix kcv : Nat) (nonce body tag : List Nat) : List Nat :=
  [0x53, 0x48, 1, kind, flags, 0, 0, 0] ++ beBytes 4 ix ++ beBytes 4 kcv ++ fitBytes 12 nonce ++ [0, 0, 0, 0] ++ fitBytes 80 body ++ fitBytes 16 tag

/-- Body of an SA blob. -/
def saBody (a : SaSt) : List Nat :=
  [a.port, a.an, a.sc, a.replay.toNat] ++ beBytes 4 a.keyNo ++ beBytes 4 a.ssci ++ fitBytes 12 a.salt ++ beBytes 8 a.pn ++
    fitBytes 12 a.member ++ [a.ca]

/-- Body of an ONU key record blob. -/
def onuKeyBody (n : Nat) (k : OnuKeys) : List Nat :=
  fitBytes 16 (beBytes 2 n ++ [k.msk.isSome.toNat + 2 * k.k1.isSome.toNat + 4 * k.k2.isSome.toNat]) ++ fitBytes 16 (k.msk.getD []) ++
    fitBytes 16 (k.k1.getD []) ++ fitBytes 16 (k.k2.getD [])

/-- Body of a group key state blob. -/
def grpBody (c : Nat) (g : GroupKeys) : List Nat := [c, g.active, 0, 0] ++ beBytes 4 (g.gen1.getD 0) ++ beBytes 4 (g.gen2.getD 0)

/-- A wrapped blob with a fresh nonce (R250): the state after the nonce is drawn, the blob, the nonce. -/
def State.wrapBlob (s : State) (kind flags ix : Nat) (body : List Nat) : State × List Nat × List Nat :=
  let nonce := beBytes 12 (s.free 96)
  let kcv := s.fld F.shrKcv_kcv
  let aad := (blobOf kind flags ix kcv nonce [] []).take 32
  let pt := fitBytes 80 body
  (s.tickFree, blobOf kind flags ix kcv nonce (Config.gcmText s.kwk nonce aad pt) (Config.gcmTag s.kwk nonce aad pt), nonce)

/-- 16 blocks of 64 bits of a blob. -/
def blobBlocks (b : List Nat) : List Nat := (List.range 16).map (fun i => beNat (fitBytes 8 (b.drop (8 * i))))

/-- The body of a KEYS mirror message (R306): kind 3 for an ONU key record, kind 4 for a channel's group key state. The message takes effect at
the mate's next PON frame boundary, so it names the group key index that is active from then on. -/
def State.mirrorBody (s : State) (kind ix : Nat) : List Nat :=
  let g := s.grpOf ix
  if kind = 3 then onuKeyBody ix (s.keysOf ix) else grpBody ix { g with active := g.next.getD g.active }

/-- Sends a KEYS mirror message. -/
def State.mirrorKeys (s : State) (kind ix : Nat) : State :=
  if s.mirroring && s.linkUp && s.shr.root.isSome then
    let (t, b, _) := s.wrapBlob kind 1 ix (s.mirrorBody kind ix)
    t.mirror 0x12 (blobBlocks b)
  else s

/-- After a key change: the key leaves every lane's cache and the change is mirrored. -/
def State.keyChanged (s : State) (kind ix : Nat) : State := ((s.dropKey (keyName kind ix)).mirrorKeys kind ix).shrEnd shrDone

/-- MSK_LOAD: op 1. -/
def execMskLoad (s : State) (m : Master) : Host.Outcome State Fault Refusal :=
  s.shrRun m (fun s =>
    let n := s.shrIx
    if n ≥ 65536 then s.shrEnd shrBadArg
    else if s.shr.root = none then s.shrEnd shrNoRootRes
    else (s.setKeys n { s.keysOf n with msk := some (s.shrBytes 0 16) }).keyChanged stOnu n)

/-- The active key index of an ONU context (R80), none for a FREE context. -/
def State.activeKey (s : State) (n : Nat) : Option Nat := if (s.onuOf n).stNow = 0 then none else some (s.onuOf n).keyIxNow

/-- KEY_LOAD: op 2 (R242, R245): the ciphertext is decrypted with the ONU's KEK, which its MSK gives. -/
def execKeyLoad (s : State) (m : Master) (ecc : Ecc) : Host.Outcome State Fault Refusal :=
  s.shrRun m (fun s =>
    let n := s.shrIx
    let i := s.shrSub
    if n ≥ 65536 ∨ ¬ (i = 1 ∨ i = 2) then s.shrEnd shrBadArg
    else if s.shr.root = none then s.shrEnd shrNoRootRes
    else
      let (s, bad) := s.readStore stOnu n ecc
      if bad then s.shrEnd shrPoisoned
      else
        match (s.keysOf n).msk with
        | none => s.shrEnd shrNotPresent
        | some msk =>
          if s.activeKey n = some i then s.shrEnd shrBadState
          else
            let k := fitBytes 16 (Config.aesDec (Config.onuKek msk) (s.shrBytes 0 16))
            (s.setKeys n (if i = 1 then { s.keysOf n with k1 := some k } else { s.keysOf n with k2 := some k })).keyChanged stOnu n)

/-- KEY_CLEAR: op 3 (R245). -/
def execKeyClear (s : State) (m : Master) : Host.Outcome State Fault Refusal :=
  s.shrRun m (fun s =>
    let n := s.shrIx
    let i := s.shrSub
    if n ≥ 65536 ∨ i > 2 then s.shrEnd shrBadArg
    else if i = 0 then
      if (s.onuOf n).st = 4 then s.shrEnd shrBadState else (s.setKeys n noKeys).keyChanged stOnu n
    else if s.activeKey n = some i then s.shrEnd shrBadState
    else (s.setKeys n (if i = 1 then { s.keysOf n with k1 := none } else { s.keysOf n with k2 := none })).keyChanged stOnu n)

/-- GROUP_GEN: op 4 (R245): an index that is active, or is to become active, keeps its generation. -/
def execGroupGen (s : State) (m : Master) : Host.Outcome State Fault Refusal :=
  s.shrRun m (fun s =>
    let c := s.shrIx
    let i := s.shrSub
    let g := s.grpOf c
    if c ≥ 256 ∨ ¬ (i = 1 ∨ i = 2) then s.shrEnd shrBadArg
    else if s.shr.root = none then s.shrEnd shrNoRootRes
    else if g.active = i ∨ g.next = some i then s.shrEnd shrBadState
    else
      let v := some (s.fld (F.shrArg 1))
      (s.setGrp c (if i = 1 then { g with gen1 := v } else { g with gen2 := v })).keyChanged stGrp c)

/-- Generation of an index. -/
def GroupKeys.gen (g : GroupKeys) (i : Nat) : Option Nat := if i = 1 then g.gen1 else if i = 2 then g.gen2 else none

/-- GROUP_EXPORT: op 5: the group key encrypted under the ONU's KEK. -/
def execGroupExport (s : State) (m : Master) (ecc : Ecc) : Host.Outcome State Fault Refusal :=
  s.shrRun m (fun s =>
    let c := s.shrIx
    let i := s.shrSub
    let n := s.fld (F.shrArg 1)
    if c ≥ 256 ∨ ¬ (i = 1 ∨ i = 2) ∨ n ≥ 65536 then s.shrEnd shrBadArg
    else if s.shr.root = none then s.shrEnd shrNoRootRes
    else
      let (s, bad) := s.readStore stOnu n ecc
      if bad then s.shrEnd shrPoisoned
      else
        match (s.keysOf n).msk, (s.grpOf c).gen i with
        | some msk, some v => (s.shrPut (fitBytes 16 (Config.aesEnc (Config.onuKek msk) (s.groupKey c i v)))).shrEnd shrDone
        | _, _ => s.shrEnd shrNotPresent)

/-- GROUP_ACTIVATE: op 6 (R245): the index takes over at the next PON frame boundary. -/
def execGroupActivate (s : State) (m : Master) : Host.Outcome State Fault Refusal :=
  s.shrRun m (fun s =>
    let c := s.shrIx
    let i := s.shrSub
    if c ≥ 256 ∨ ¬ (i = 1 ∨ i = 2) then s.shrEnd shrBadArg
    else if (s.grpOf c).gen i = none then s.shrEnd shrBadState
    else ((s.setGrp c { s.grpOf c with next := some i }).mirrorKeys stGrp c).shrEnd shrDone)

/-- GROUP_KEY_SWITCH (R245): the boundary after GROUP_ACTIVATE. -/
def execGroupKeySwitch (s : State) (c : Chan) : Host.Outcome State Fault Refusal :=
  match (s.grpOf c.toNat).next with
  | some i => .next (s.setGrp c.toNat { s.grpOf c.toNat with active := i, next := none })
  | none => .next s

/-- CA_KEK_LOAD: op 7. -/
def execCaKekLoad (s : State) (m : Master) : Host.Outcome State Fault Refusal :=
  s.shrRun m (fun s =>
    let n := s.shrIx
    let i := s.shrSub
    if n ≥ 128 ∨ ¬ (i = 1 ∨ i = 2) then s.shrEnd shrBadArg
    else if s.shr.root = none then s.shrEnd shrNoRootRes
    else
      let s := { s with shr := { s.shr with ca := Tbl.put s.shr.ca n none (some (s.shrBytes 0 (if i = 1 then 16 else 32))) } }
      (s.dropKey (keyName stCa n)).shrEnd shrDone)

/-- The slot of ARG0 exists. -/
def slotOk (rx : Bool) (n : Nat) : Bool := decide (n < if rx then 2048 else 512)

/-- The port of an SA slot (R246). -/
def slotPort (rx : Bool) (n : Nat) : Nat := if rx then n / 16 else n / 4

/-- SHR_PORT_STS pn_thr_hit and pn_exhausted follow the port's transmit SA. -/
def State.showTx (s : State) (p : Nat) : State :=
  let a := s.saOf false (4 * p + s.fld ((F.shrPortSts_tx_an).inst p))
  (s.setFld ((F.shrPortSts_pn_thr_hit).inst p) (match a with | some a => a.thrSaid.toNat | none => 0)).setFld ((F.shrPortSts_pn_exhausted).inst p)
    (match a with | some a => a.exhausted.toNat | none => 0)

/-- SA_INSTALL: op 8 (R248). -/
def execSaInstall (s : State) (m : Master) : Host.Outcome State Fault Refusal :=
  s.shrRun m (fun s =>
    let n := s.shrIx
    let rx := decide (s.shrSub % 2 = 1)
    let a3 := s.fld (F.shrArg 3)
    if slotOk rx n = false then s.shrEnd shrBadArg
    else if (s.saOf rx n).isSome then s.shrEnd shrBadState
    else
      let a : SaSt := { port := slotPort rx n, an := n % 4, sc := if rx then n / 4 % 4 else 0, replay := decide (bits a3 8 8 = 1),
                        exportable := decide (s.shrSub / 2 % 2 = 1), keyNo := s.fld (F.shrArg 1), ssci := s.fld (F.shrArg 2),
                        salt := s.shrBytes 0 12, pn := beNat (s.shrBytes 12 8), member := s.shrBytes 20 12, ca := bits a3 6 0,
                        thrSaid := false, exhausted := false }
      let s := s.setSa rx n (some a)
      let s := if rx then { s with shr := { s.shr with sci := Tbl.put s.shr.sci (n / 4) 0 (beNat (s.shrBytes 32 8)) } } else s.showTx (n / 4)
      (s.dropKey (keyName (if rx then stRx else stTx) n)).shrEnd shrDone)

/-- SA_EXPORT: op 9 (R248): the SAK wrapped under the KEK of the SA's CA record. -/
def execSaExport (s : State) (m : Master) (ecc : Ecc) : Host.Outcome State Fault Refusal :=
  s.shrRun m (fun s =>
    let n := s.shrIx
    if n ≥ 512 then s.shrEnd shrBadArg
    else if s.shr.root = none then s.shrEnd shrNoRootRes
    else
      match s.saOf false n with
      | none => s.shrEnd shrNotPresent
      | some a =>
        let (s, bad) := s.readStore stCa a.ca ecc
        if bad then s.shrEnd shrNotPresent
        else
          match Tbl.find s.shr.ca a.ca none with
          | none => s.shrEnd shrNotPresent
          | some kek => (s.shrPut (fitBytes 40 (Config.keyWrap kek (s.sak a)))).shrEnd shrDone)

/-- SA_DELETE: op 10 (R248). -/
def execSaDelete (s : State) (m : Master) : Host.Outcome State Fault Refusal :=
  s.shrRun m (fun s =>
    let n := s.shrIx
    let rx := decide (s.shrSub % 2 = 1)
    if slotOk rx n = false then s.shrEnd shrBadArg
    else if (s.saOf rx n).isNone then s.shrEnd shrNotPresent
    else if !rx && s.flag ((F.shrPortSts_tx_valid).inst (n / 4)) && decide (s.fld ((F.shrPortSts_tx_an).inst (n / 4)) = n % 4) then
      s.shrEnd shrBadState
    else ((s.setSa rx n none).dropKey (keyName (if rx then stRx else stTx) n)).shrEnd shrDone)

/-- SET_TX_AN: op 11 (R248). -/
def execSetTxAn (s : State) (m : Master) : Host.Outcome State Fault Refusal :=
  s.shrRun m (fun s =>
    let p := s.shrIx
    let an := s.shrSub
    if p ≥ 128 ∨ an > 3 then s.shrEnd shrBadArg
    else if (s.saOf false (4 * p + an)).isNone then s.shrEnd shrNotPresent
    else (((s.setFld ((F.shrPortSts_tx_an).inst p) an).setFld ((F.shrPortSts_tx_valid).inst p) 1).showTx p).shrEnd shrDone)

/-- The nonce record (R251). -/
def State.nonceRec (s : State) (kind ix : Nat) (w : List Nat) : State :=
  (((s.setFld (F.shrNrec 0) (kind * 2 ^ 24 + ix % 2 ^ 24)).setFld (F.shrNrec 1) (wordOf w 0)).setFld (F.shrNrec 2) (wordOf w 1)).setFld
    (F.shrNrec 3) (wordOf w 2)

/-- The index of a context kind exists. -/
def ctxOk (kind ix : Nat) : Bool :=
  if kind = 1 then decide (ix < 512) else if kind = 2 then decide (ix < 2048) else if kind = 3 then decide (ix < 65536)
  else if kind = 4 then decide (ix < 256) else false

/-- The body of a context and whether it is exportable (R250), none when there is no such SA. -/
def State.ctxBody (s : State) (kind ix : Nat) : Option (List Nat × Bool) :=
  if kind = 1 ∨ kind = 2 then (s.saOf (decide (kind = 2)) ix).map (fun a => (saBody a, a.exportable))
  else if kind = 3 then some (onuKeyBody ix (s.keysOf ix), false)
  else some (grpBody ix (s.grpOf ix), true)

/-- SAVE_CLEAR: op 12. -/
def execSaveClear (s : State) (m : Master) (ecc : Ecc) : Host.Outcome State Fault Refusal :=
  s.shrRun m (fun s =>
    let n := s.shrIx
    let k := s.shrSub
    if ctxOk k n = false then s.shrEnd shrBadArg
    else
      let (s, bad) := s.readStore k n ecc
      if bad then s.shrEnd shrPoisoned
      else
        match s.ctxBody k n with
        | none => s.shrEnd shrNotPresent
        | some (b, true) => (s.shrPut (blobOf k 2 n (s.fld F.shrKcv_kcv) [] b [])).shrEnd shrDone
        | some (_, false) => s.shrEnd shrNotExportable)

/-- SAVE_WRAPPED: op 13. -/
def execSaveWrapped (s : State) (m : Master) (ecc : Ecc) : Host.Outcome State Fault Refusal :=
  s.shrRun m (fun s =>
    let n := s.shrIx
    let k := s.shrSub
    if ctxOk k n = false then s.shrEnd shrBadArg
    else if s.shr.root = none then s.shrEnd shrNoRootRes
    else
      let (s, bad) := s.readStore k n ecc
      if bad then s.shrEnd shrPoisoned
      else
        match s.ctxBody k n with
        | none => s.shrEnd shrNotPresent
        | some (b, x) =>
          let (s, blob, nonce) := s.wrapBlob k (1 + 2 * x.toNat) n b
          let s := (s.shrPut blob).nonceRec 1 n [beNat (nonce.take 4), beNat ((nonce.drop 4).take 4), beNat ((nonce.drop 8).take 4)]
          let c := s.fld F.shrWrapCnt_count + 1
          let s := s.setFld F.shrWrapCnt_count (min c 0xFFFFFFFF)
          (if c = 2 ^ 31 then (s.setFld F.shrSts_wrap_limit 1).post 0x0807 [] else s).shrEnd shrDone)

/-- Bytes lo to lo + n - 1 as a number. -/
def numAt (b : List Nat) (lo n : Nat) : Nat := beNat (fitBytes n (b.drop lo))

/-- The SA that a body gives; a transmit SA's next_pn takes the gap (R250). -/
def saFromBody (kind ix gap : Nat) (x : Bool) (b : List Nat) : SaSt :=
  let pn := if kind = 1 then min (numAt b 24 8 + 2 ^ gap) (2 ^ 64 - 1) else numAt b 24 8
  { port := slotPort (decide (kind = 2)) ix, an := ix % 4, sc := if kind = 2 then ix / 4 % 4 else 0, replay := decide (numAt b 3 1 % 2 = 1),
    exportable := x, keyNo := numAt b 4 4, ssci := numAt b 8 4, salt := fitBytes 12 (b.drop 12), pn := pn,
    member := fitBytes 12 (b.drop 32), ca := numAt b 44 1 % 128, thrSaid := false, exhausted := decide (kind = 1 ∧ pn = 2 ^ 64 - 1) }

/-- Writes the context that a restored body gives. -/
def State.writeCtx (s : State) (kind ix : Nat) (x : Bool) (b : List Nat) : State :=
  let g := s.fld F.shrCfg_pn_gap_log
  let t := if kind = 1 then (s.setSa false ix (some (saFromBody 1 ix g x b))).showTx (ix / 4)
    else if kind = 2 then s.setSa true ix (some (saFromBody 2 ix g x b))
    else if kind = 3 then
      let f := numAt b 2 1
      s.setKeys ix { msk := if f % 2 = 1 then some (fitBytes 16 (b.drop 16)) else none,
                     k1 := if f / 2 % 2 = 1 then some (fitBytes 16 (b.drop 32)) else none,
                     k2 := if f / 4 % 2 = 1 then some (fitBytes 16 (b.drop 48)) else none }
    else
      let o := fun (v : Nat) => if v = 0 then none else some v
      s.setGrp ix { active := numAt b 1 1, gen1 := o (numAt b 4 4), gen2 := o (numAt b 8 4), next := none }
  (t.cleanRec (storeMem kind) (16 + kind) ix).dropKey (keyName kind ix)

/-- Restores a blob (R250): the state after it and the result. -/
def State.restoreBlob (s : State) (b : List Nat) : State × Nat :=
  let b := fitBytes 128 b
  let kind := numAt b 3 1
  let flags := numAt b 4 1
  let ix := numAt b 8 4
  let x := decide (flags / 2 % 2 = 1)
  if numAt b 0 2 ≠ 0x5348 ∨ numAt b 2 1 ≠ 1 ∨ ctxOk kind ix = false then (s, shrBadArg)
  else if flags % 2 = 0 then
    if kind = 1 ∨ kind = 3 then (s, shrBadArg) else (s.writeCtx kind ix x ((b.drop 32).take 80), shrDone)
  else if s.shr.root = none then (s, shrNoRootRes)
  else if numAt b 12 4 ≠ s.fld F.shrKcv_kcv then (s, shrWrongRoot)
  else
    match Config.gcmOpen s.kwk ((b.drop 16).take 12) (b.take 32) ((b.drop 32).take 80) (b.drop 112) with
    | none => (s, shrAuthFail)
    | some pt => (s.writeCtx kind ix x (fitBytes 80 pt), shrDone)

/-- RESTORE: op 14. -/
def execRestore (s : State) (m : Master) : Host.Outcome State Fault Refusal :=
  s.shrRun m (fun s =>
    let (t, r) := s.restoreBlob (s.shrBytes 0 128)
    t.shrEnd r)

/-- PN_READ: op 15 (R251). -/
def execPnRead (s : State) (m : Master) (ecc : Ecc) : Host.Outcome State Fault Refusal :=
  s.shrRun m (fun s =>
    let n := s.shrIx
    let rx := decide (s.shrSub % 2 = 1)
    if slotOk rx n = false then s.shrEnd shrBadArg
    else
      let (s, bad) := s.readStore (if rx then stRx else stTx) n ecc
      if bad then s.shrEnd shrPoisoned
      else
        match s.saOf rx n with
        | none => s.shrEnd shrNotPresent
        | some a => (s.nonceRec (if rx then 3 else 2) n [a.pn / 2 ^ 32, a.pn % 2 ^ 32, 0]).shrEnd shrDone)

/-- The logical lane that serves a fabric port (R252, R253): its own, or its fallback once the ports moved; none when no lane serves. -/
def State.lanePhys (s : State) (port : Nat) : Option Nat :=
  match s.rig.run.cipher.findIdx? (fun x => decide (x.1 / 2 ^ port % 2 = 1)) with
  | none => none
  | some l =>
    let k := if s.shr.moved.contains l then ((s.rig.run.cipher.getD l (0, 0xFF)).2) else l
    if s.flag (F.shrLane_in_use k) then some (s.fld (F.shrLane_phys k)) else none

/-- A unit needs a cipher lane of its fabric port with a key (R240, R253): the physical lane, or the state with the drop counted. -/
def State.cipher (s : State) (port key : Nat) : Except State (State × Nat) :=
  if s.shr.root = none then .error (s.count Cn.shrNoRoot 0)
  else
    match s.lanePhys port with
    | none => .error (s.count Cn.shrNoLane 0)
    | some p => .ok (s.useKey p key, p)

/-- EtherTypes that pass unsecured on a secured port (R246). -/
def unsecured (b : List Nat) : Bool :=
  let e := b.getD 12 0 * 256 + b.getD 13 0
  decide (e = 0x888E) || decide (e = 0x8808)

/-- The port applies MACsec to a frame with these bytes, as the state's registers rig it. -/
def State.secures (s : State) (p : Nat) (b : List Nat) : Bool := s.flag ((F.shrPortCfg_secure).inst p) && !unsecured b

/-- SHR_PN_THR of a port. -/
def State.pnThr (s : State) (p : Nat) : Nat := s.fld ((F.shrPnThrHi_thr).inst p) * 2 ^ 32 + s.fld ((F.shrPnThrLo_thr).inst p)

/-- Takes next_pn of a transmit SA (R247): the threshold and the exhaustion are told once. -/
def State.takePn (s : State) (slot : Nat) (a : SaSt) : State :=
  let pn := a.pn + 1
  let hit := decide (pn ≥ s.pnThr a.port)
  let out := decide (pn > 2 ^ 64 - 2)
  let t := s.setSa false slot (some { a with pn := pn, thrSaid := a.thrSaid || hit, exhausted := out })
  let t := if hit && !a.thrSaid then t.post 0x0804 [slot] else t
  let t := if out then t.post 0x0805 [slot] else t
  (t.showTx a.port).count Cn.macsecTxProtected a.port

/-- Secures a frame that a port starts (R246, R247): the state after it, and whether the frame may be sent. -/
def State.secureTx (s : State) (p : Nat) (e : Ecc) : State × Bool :=
  let slot := 4 * p + s.fld ((F.shrPortSts_tx_an).inst p)
  if s.flag ((F.shrPortSts_tx_valid).inst p) then
    match s.cipher (32 + p / 8) (keyName stTx slot) with
    | .error t => (t, false)
    | .ok (t, _) =>
      let (t, bad) := t.readStore stTx slot e
      if bad then (t, false)
      else
        match t.saOf false slot with
        | none => (t, false)
        | some a => if a.exhausted then (t.count Cn.macsecPnExhausted p, false) else (t.takePn slot a, true)
  else (s, false)

/-- Verifies a received frame of a secured port (R246, R247); r is the state as the packet's epoch rigs it. -/
def State.verifyRx (s r : State) (p : Nat) (x : Option MacRx) (e : Ecc) : State × Bool :=
  match x with
  | none => (s.count Cn.macsecRxUntagged p, false)
  | some x =>
    let sc := match x.sci with
      | none => some 0
      | some v => [0, 1, 2, 3].find? (fun i => decide (Tbl.find s.shr.sci (4 * p + i) 0 = v) &&
          [0, 1, 2, 3].any (fun an => (s.saOf true (4 * (4 * p + i) + an)).isSome))
    match sc with
    | none => (s.count Cn.macsecRxNosa p, false)
    | some i =>
      let slot := 4 * (4 * p + i) + x.an % 4
      match s.cipher (32 + p / 8) (keyName stRx slot) with
      | .error t => (t, false)
      | .ok (t, _) =>
        let (t, bad) := t.readStore stRx slot e
        match (if bad then none else t.saOf true slot) with
        | none => (t.count Cn.macsecRxNosa p, false)
        | some a =>
          if x.icvOk = false then (t.count Cn.macsecRxNotvalid p, false)
          else if r.flag ((F.shrPortCfg_replay).inst p) && decide (x.pn + r.fld ((F.shrPortCfg_window).inst p) < a.pn) then
            (t.count Cn.macsecRxLate p, false)
          else ((t.setSa true slot (some { a with pn := max a.pn (x.pn + 1) })).count Cn.macsecRxOk p, true)

/-- The key index of a downstream record with encrypt = 1 and whether its key is present (R80, R244): cls 0 unicast. -/
def State.dsKey (s : State) (c cls onu : Nat) : Nat × Bool :=
  if cls = 0 then
    let i := (s.onuOf onu).keyIxNow
    (i, (if i = 1 then (s.keysOf onu).k1 else (s.keysOf onu).k2).isSome)
  else (( s.grpOf c).active, ((s.grpOf c).gen (s.grpOf c).active).isSome)

end Sys2Proof.Machine
end

