-- ==== Sys2Proof/Machine/SheetOps.lean ====
section
/-! DEFINITION. What Sheet and the fabric share: node records and shaping (R223, R226 to R228), gates (R230 to R232), priority flow control
(R233), the transmit-stamp queues (R264, R265), and the release of a packet through its nodes. -/

namespace Sys2Proof.Machine

/-- A node's name: level × 2^20 + index. -/
def nodeName (lvl ix : Nat) : Nat := lvl * 0x100000 + ix

/-- The reset words of a node (R223). -/
def nodeReset (k : Nat) : List Nat :=
  let lvl := k / 0x100000
  if lvl = 0 then [0x80000001] else if lvl = 4 then [0x80140001] else if lvl = 5 then [k % 8 * 2 ^ 28] else []

/-- The applied record of a node. -/
def State.node (s : State) (k : Nat) : List Nat :=
  let ws := s.record kNode k
  if ws = [] then nodeReset k else ws

/-- The staged record of a node. -/
def State.nodeStaged (s : State) (k : Nat) : List Nat :=
  let ws := s.recordStaged kNode k
  if ws = [] then nodeReset k else ws

/-- Fields of a node record (R223). -/
def ndValid (ws : List Nat) : Bool := decide (recBits ws 0 31 31 = 1)
def ndPrio (ws : List Nat) : Nat := recBits ws 0 30 28
def ndPfc (ws : List Nat) : Bool := decide (recBits ws 0 26 26 = 1)
def ndWeight (ws : List Nat) : Nat := recBits ws 0 7 0
def ndParent (ws : List Nat) : Nat := recBits ws 1 18 0
def ndPir (ws : List Nat) : Nat := recBits ws 2 26 0
def ndPbs (ws : List Nat) : Nat := recBits ws 3 23 0
def ndCir (ws : List Nat) : Nat := recBits ws 4 26 0
def ndCbs (ws : List Nat) : Nat := recBits ws 5 23 0
def ndXon (ws : List Nat) : Nat := recBits ws 6 31 16
def ndXoff (ws : List Nat) : Nat := recBits ws 6 15 0

/-- The length counted at a node (R228): l is the packet length, with MACsec's 32 bytes where the port applies it. -/
def countedLen (ws : List Nat) (l : Nat) : Nat :=
  let l := if recBits ws 0 27 27 = 1 then 4 * cdiv l 4 else l
  (max 1 ((l : Int) + signed 8 (recBits ws 0 23 16))).toNat

/-- Time in 2^-8 ns (R226). -/
def State.nowU (s : State) : Nat := s.nowNs * 256 + s.tim.frac / 2 ^ 24

/-- tau and cost of R226. -/
def shapeUnits (bytes rate : Nat) : Nat := cdiv (bytes * 2048000000) rate

def nodeDyn0 : NodeDyn := { tatP := 0, tatC := 0, deficit := 0, rr := none, ptr := none, wheel := none }
def State.dynOf (s : State) (k : Nat) : NodeDyn := Tbl.find s.sht.node k nodeDyn0
def State.setDyn (s : State) (k : Nat) (d : NodeDyn) : State := { s with sht := { s.sht with node := Tbl.put s.sht.node k nodeDyn0 d } }

/-- The peak condition of a node (R225): no peak shaper, or tat_p is within its burst allowance. -/
def State.peakOk (s : State) (k : Nat) : Bool :=
  let ws := s.node k
  decide (ndPir ws = 0) || decide ((s.dynOf k).tatP ≤ s.nowU + shapeUnits (ndPbs ws) (ndPir ws))

/-- The node may be served (R225, R227): the peak condition holds and it does not wait on the calendar wheel. -/
def State.nodeReady (s : State) (k : Nat) : Bool := (s.dynOf k).wheel.isNone && s.peakOk k

/-- The node holds committed credit (R225). -/
def State.committed (s : State) (k : Nat) : Bool :=
  let ws := s.node k
  decide (ndCir ws ≠ 0) && decide ((s.dynOf k).tatC ≤ s.nowU + shapeUnits (ndCbs ws) (ndCir ws))

/-- The wheel slot of a node whose peak condition fails (R227). -/
def State.wheelSlot (s : State) (k : Nat) : Nat :=
  let ws := s.node k
  ((s.dynOf k).tatP - shapeUnits (ndPbs ws) (ndPir ws)) / 32768 % 65536

/-- A node whose peak condition fails is entered on the calendar wheel at its eligible time (R227). -/
def State.enterWheel (s : State) (k : Nat) : State :=
  if s.peakOk k then s.setDyn k { s.dynOf k with wheel := none } else s.setDyn k { s.dynOf k with wheel := some (s.wheelSlot k) }

/-- Charges a node for a packet of length l (R226). -/
def State.chargeNode (s : State) (l k : Nat) : State :=
  let ws := s.node k
  let d := s.dynOf k
  let c := countedLen ws l
  let d := if ndPir ws = 0 then d else { d with tatP := max d.tatP s.nowU + shapeUnits c (ndPir ws) }
  let d := if ndCir ws = 0 then d else { d with tatC := max d.tatC s.nowU + shapeUnits c (ndCir ws) }
  (s.setDyn k d).enterWheel k

/-- The path of a flow queue, from its channel node down, while its nodes are valid and lead to a channel (R221). -/
def State.flowPath (s : State) (f : Nat) : Option (List Nat) :=
  let svc := ndParent (s.node (nodeName 3 f))
  let sub := ndParent (s.node (nodeName 2 svc))
  let c := ndParent (s.node (nodeName 1 sub))
  if ndValid (s.node (nodeName 3 f)) && ndValid (s.node (nodeName 2 svc)) && ndValid (s.node (nodeName 1 sub)) && decide (c < 256) then
    some [nodeName 0 c, nodeName 1 sub, nodeName 2 svc, nodeName 3 f]
  else none

/-- The path of a class queue. -/
def classPath (i : Nat) : List Nat := [nodeName 4 (i / 8), nodeName 5 i]

/-- Line rate of a port of uplink group u in Gbit/s (R232, R277). -/
def State.portRate (s : State) (u : Nat) : Nat := 100 * portWidth (s.ugOf u).1

/-- Length of a packet as an uplink port's MAC sends it (R228, R246). -/
def State.macLen (s : State) (n : Nat) (p : Pkt) : Nat := if s.secures n p.bytes then p.len + 32 else p.len

/-! ### Gates -/

/-- The gate list that the applied registers of a group give (R230). -/
def State.gateRegs (s : State) (u : Nat) : GateList :=
  { cycle := s.fld ((F.shtGateCycle_cycle).inst u),
    entries := (List.range (min 256 (s.fld ((F.shtGateLen_entries).inst u)))).map
      (fun i => (s.fld ((F.shtGclData_gates).inst (u * 256 + i)), s.fld ((F.shtGclData_interval).inst (u * 256 + i)))) }

/-- The base time of a group's list in ns. -/
def State.gateBase (s : State) (u : Nat) : Nat :=
  (s.fld ((F.shtGateBaseHi_sec).inst u) * 2 ^ 32 + s.fld ((F.shtGateBaseLo_sec).inst u)) * 1000000000 + s.fld ((F.shtGateBaseNs_ns).inst u)

/-- The first cycle start at or after an instant (R231). -/
def cycleStart (base cycle now : Nat) : Nat := if now ≤ base then base else base + cdiv (now - base) cycle * cycle

def gate0 : GateSt := { cur := none, next := none }
def State.gatesOf (s : State) (u : Nat) : GateSt := Tbl.find s.sht.gates u gate0
def State.setGates (s : State) (u : Nat) (g : GateSt) : State := { s with sht := { s.sht with gates := Tbl.put s.sht.gates u gate0 g } }

/-- Open time of class c over the leading entries of a list. -/
def openRun (c : Nat) : List (Nat × Nat) → Nat
  | [] => 0
  | e :: r => if e.1 / 2 ^ c % 2 = 1 then e.2 + openRun c r else 0

/-- The list from entry i on, across the cycle's end. -/
def rotate (l : List (Nat × Nat)) (i : Nat) : List (Nat × Nat) := l.drop i ++ l.take i

/-- The longest window of class c (R232) in ns: none when it is unlimited. -/
def longestWin (g : GateList) (c : Nat) : Option Nat :=
  if g.entries.all (fun e => decide (e.1 / 2 ^ c % 2 = 1)) then none
  else some ((List.range g.entries.length).foldl (fun m i => max m (openRun c (rotate g.entries i))) 0)

/-- The entry at a place of the cycle and the offset into it. -/
def entryAt : List (Nat × Nat) → Nat → Nat → Nat × Nat
  | [], i, o => (i, o)
  | e :: r, i, o => if o < e.2 ∨ r = [] then (i, o) else entryAt r (i + 1) (o - e.2)

/-- The remaining window of class c at an instant in 2^-8 ns (R232): none when it is unlimited. -/
def remaining (g : GateList) (start c nowU : Nat) : Option Nat :=
  if g.entries.all (fun e => decide (e.1 / 2 ^ c % 2 = 1)) then none
  else
    let pos := (((nowU : Int) - ((start * 256 : Nat) : Int)) % ((max 1 g.cycle * 256 : Nat) : Int)).toNat
    let (i, o) := entryAt g.entries 0 (pos / 256)
    some (openRun c (rotate g.entries i) * 256 - o * 256 - pos % 256)

/-- A packet of length l (as sent) on a port of rate r takes longer on the wire than w, in 2^-8 ns. -/
def wireOver (l r w : Nat) : Bool := decide ((l + 20) * 8 * 256 > w * r)

/-- The packet exceeds its class's longest window of the list in force (R224, R232). -/
def State.gateOversize (s : State) (n c : Nat) (p : Pkt) : Bool :=
  match (s.gatesOf (n / 8)).cur with
  | none => false
  | some (g, _) => match longestWin g c with
    | none => false
    | some w => wireOver (s.macLen n p) (s.portRate (n / 8)) (w * 256)

/-- The head packet of a class queue fits its window now (R232). -/
def State.gateFits (s : State) (n c : Nat) (p : Pkt) : Bool :=
  match (s.gatesOf (n / 8)).cur with
  | none => true
  | some (g, start) => match remaining g start c s.nowU with
    | none => true
    | some w => !(wireOver (s.macLen n p) (s.portRate (n / 8)) w)

/-- The class has no gate other than one that is always open (R208). -/
def State.gateAlways (s : State) (n c : Nat) : Bool :=
  match (s.gatesOf (n / 8)).cur with
  | none => true
  | some (g, _) => (longestWin g c).isNone

/-! ### Queue names and sizes -/

/-- The queue name of class queue i. -/
def cqName (i : Nat) : Nat := 0x40000 + i

def egQ0 : EgQ := { pkts := [], head := 0, d := 0, e := 0, tail := 0, segs := [] }
def State.qOf (s : State) (q : Nat) : EgQ := Tbl.find s.fab.q q egQ0
def State.setQ (s : State) (q : Nat) (x : EgQ) : State := { s with fab := { s.fab with q := Tbl.put s.fab.q q egQ0 x } }

/-- All packets in egress queues. -/
def State.queued (s : State) : List QPkt := s.fab.q.flatMap (fun x => x.2.pkts)

/-- Sum over a list. -/
def sumOf {α : Type} (f : α → Nat) (l : List α) : Nat := l.foldl (fun a x => a + f x) 0

/-- Depth of a queue in bytes, spilled bytes included (R235). -/
def EgQ.depth (x : EgQ) : Nat := x.tail - x.head

/-! ### Transmit stamps -/

/-- A stamp with a correction of 1/64 ns added (R262, R263). -/
def calStamp (t : Stamp) (cal : Int) : Stamp :=
  let v := (((t.hi / 65536 * 1000000000 + t.ns) * 64 + t.hi / 1024 % 64 : Nat) : Int) + cal
  let w := (v % ((65536 * 1000000000 * 64 : Nat) : Int)).toNat
  { ns := w / 64 % 1000000000, hi := w / 64 / 1000000000 * 65536 + w % 64 * 1024 }

/-- Enters an entry into a group's stamp queue (R264, R265). -/
def State.pushTsq (s : State) (u status pos id : Nat) (t : Stamp) : State :=
  let q := Tbl.find s.tim.tsq u []
  if q.length < 64 then
    let e : TsqEnt := { w0 := 2 ^ 31 + status * 2 ^ 28 + pos * 2 ^ 25 + id % 65536, w1 := t.ns, w2 := t.hi / 1024 * 1024 }
    (({ s with tim := { s.tim with tsq := Tbl.put s.tim.tsq u [] (q ++ [e]) } }).setFld (F.timTsqSts_count u) (q.length + 1)).count Cn.tsqEntries u
  else
    let t := s.count Cn.tsqDrop u
    if s.flag (F.timTsqSts_ovf u) then t else (t.setFld (F.timTsqSts_ovf u) 1).post 0x0503 [u]

/-- A packet is dropped before its first byte left: a host packet that asked for a stamp to an uplink port yields its entry (R264). -/
def State.dropped (s : State) (p : Pkt) : State :=
  match p.tsReq with
  | some id =>
    if p.host ∧ 256 ≤ p.dest ∧ p.dest < 384 then s.pushTsq ((p.dest - 256) / 8) 1 ((p.dest - 256) % 8) id { ns := 0, hi := 0 } else s
  | none => s

/-! ### Priority flow control -/

def pfc0 : PfcSt := { xoff := false, paused := false, storm := false }
def State.pfcOf (s : State) (k : Nat) : PfcSt := Tbl.find s.sht.pfc k pfc0
def State.setPfc (s : State) (k : Nat) (x : PfcSt) : State := { s with sht := { s.sht with pfc := Tbl.put s.sht.pfc k pfc0 x } }

/-- The class has 802.1Qbb enabled on the port (R223). -/
def State.pfcEn (s : State) (n c : Nat) : Bool := ndPfc (s.node (nodeName 5 (8 * n + c)))

/-- The packet arrived on uplink port n in class c. -/
def fromPort (n c : Nat) (p : Pkt) : Bool := !p.host && decide (p.src = 256 + n) && decide (p.cls = c)

/-- Cells held in egress queues by packets that arrived on port n in class c, and the headroom cells among them (R233). -/
def State.pfcCells (s : State) (n c : Nat) : Nat := sumOf (fun q => if fromPort n c q.pkt then q.cells else 0) s.queued
def State.pfcRoom (s : State) (n c : Nat) : Nat := sumOf (fun q => if fromPort n c q.pkt && q.room.isSome then q.cells else 0) s.queued

/-- The source address of a port's PFC frames (R233). -/
def State.pfcSa (s : State) (n : Nat) : Nat :=
  let a := s.fld ((F.shtPfcSaHi_sa).inst (n / 8)) * 2 ^ 32 + s.fld ((F.shtPfcSaLo_sa).inst (n / 8))
  a / 8 * 8 + n % 8

/-- Sends a PFC frame for the classes of a vector with one quanta value. -/
def State.sendPfc (s : State) (n en quanta : Nat) : State :=
  s.emit (.pfc n en ((List.range 8).map (fun c => if en / 2 ^ c % 2 = 1 then quanta else 0)) (s.pfcSa n))

/-- XOFF and XON of a port's class after its cells changed (R233); room says that a packet has just been admitted into headroom. -/
def State.pfcCheck (s : State) (n c : Nat) (room : Bool) : State :=
  let ws := s.node (nodeName 5 (8 * n + c))
  let x := s.pfcOf (8 * n + c)
  if ndPfc ws = false then s
  else if x.xoff = false ∧ (room = true ∨ s.pfcCells n c ≥ ndXoff ws) then
    ((s.setPfc (8 * n + c) { x with xoff := true }).sendPfc n (2 ^ c) (s.fld F.shtPfcCfg_quanta)).countN Cn.pfcTxXoff n c 1
  else if x.xoff = true ∧ s.pfcCells n c ≤ ndXon ws ∧ s.pfcRoom n c = 0 then
    ((s.setPfc (8 * n + c) { x with xoff := false }).sendPfc n (2 ^ c) 0).countN Cn.pfcTxXon n c 1
  else s

/-- The same for the port and class a packet came from. -/
def State.pfcOfPkt (s : State) (p : Pkt) (room : Bool) : State :=
  if p.host = false ∧ 256 ≤ p.src ∧ p.src < 384 then s.pfcCheck (p.src - 256) p.cls room else s

/-! ### Depth and sojourn -/

def qs0 : QStat := { dmax := 0, soj := 0, smax := 0 }
def State.qsOf (s : State) (q : Nat) : QStat := Tbl.find s.sht.qs q qs0
def State.setQs (s : State) (q : Nat) (x : QStat) : State := { s with sht := { s.sht with qs := Tbl.put s.sht.qs q qs0 x } }

/-- The largest depth follows an admission (R235). -/
def State.noteDepth (s : State) (q : Nat) : State :=
  let x := s.qsOf q
  s.setQs q { x with dmax := max x.dmax (min (s.qOf q).depth 0xFFFFFFFF) }

/-- The sojourn of a released packet (R235): its queue, and the instant of its settle point. -/
def State.noteSojourn (s : State) (q settle : Nat) : State :=
  let x := s.qsOf q
  let v := min (s.nowNs - settle) 0xFFFFFFFF
  let t := s.setQs q { x with soj := v, smax := max x.smax v }
  if q < 0x40000 then (if v > s.fld F.shtSojThr_thr_fl * 16 then t.count Cn.shtSojOverFq q else t)
  else (if v > s.fld F.shtSojThr_thr_ul * 1000 then t.count Cn.shtSojOverCq (q - 0x40000) else t)

/-- Counts a released packet (R238). -/
def State.countTx (s : State) (q len : Nat) : State :=
  if q < 0x40000 then (s.count Cn.shtTxPktsFq q).countN Cn.shtTxBytesFq q 0 len
  else (s.count Cn.shtTxPktsCq (q - 0x40000)).countN Cn.shtTxBytesCq (q - 0x40000) 0 len

/-- An oversize drop on class queue i: counted, and OVERSIZE_GATE for the first since the counter was last read through a snapshot
(R232, R239). -/
def State.oversize (s : State) (i : Nat) : State :=
  let t := s.count Cn.oversizeForGate i
  if Tbl.find t.sht.overSaid i false then t
  else ({ t with sht := { t.sht with overSaid := Tbl.put t.sht.overSaid i false true } }).post 0x0F02 [i]

/-- Bytes in a channel's edge buffer (R229). -/
def State.edgeBytes (s : State) (c : Nat) : Nat := sumOf (fun p => p.len) (s.dsOf c).edge

/-- Sheet can pick for a channel (R229): RUNNING, and less than 48 KiB in its edge buffer. -/
def State.edgeOpen (s : State) (c : Nat) : Bool := decide (s.ch c = chRunning) && decide (s.edgeBytes c < 49152)

/-- A released packet reaches a channel's edge buffer. -/
def State.toEdge (s : State) (c : Nat) (p : Pkt) : State := s.setDs c { s.dsOf c with edge := (s.dsOf c).edge ++ [p] }

/-- The frame an uplink port is sending. -/
def State.inFlight (s : State) (n : Nat) : Option (Pkt × Bool × Bool) := Tbl.find s.fab.sending n none

/-- A released packet starts on an uplink port: it is secured where the port applies MACsec (R247), or dropped there. -/
def State.toMac (s : State) (n : Nat) (p : Pkt) (stomped : Bool) (e : Ecc) : State :=
  let send := fun (t : State) (sec : Bool) => { t with fab := { t.fab with sending := Tbl.put t.fab.sending n none (some (p, sec, stomped)) } }
  if s.secures n p.bytes then
    match s.secureTx n e with
    | (t, true) => send t true
    | (t, false) => t.dropped p
  else send s false

/-- UPLINK_FRAME_SENT (R264): the frame has left the lane; a stamp that was asked for enters the group's queue. -/
def execUplinkFrameSent (s : State) (p : BitVec 7) (stamp : Stamp) : Host.Outcome State Fault Refusal :=
  let n := p.toNat
  match s.inFlight n with
  | none => .next s
  | some (k, sec, st) =>
    let t := ({ s with fab := { s.fab with sending := Tbl.put s.fab.sending n none none } }).emit (.uplink n k sec st)
    match k.tsReq with
    | some id =>
      if k.host then .next (t.pushTsq (n / 8) (if st then 2 else 0) (n % 8) id (calStamp stamp (signed 16 (s.fld (F.timUlat_tx_cal (n / 8)))))) else .next t
    | none => .next t

end Sys2Proof.Machine
end

