-- ==== Sys2Proof/Machine/Check.lean ====
section
/-! DEFINITION. The commit checker (R52, R406): the violations of the staged set, and those of the structural sections of a RERIG, as each
block's chapter names them. -/

namespace Sys2Proof.Machine

/-! ### Codes -/

def vRef : Nat := 0x0001
def vDup : Nat := 0x0002
def vFull : Nat := 0x0003
def vAlloc : Nat := 0x0005
def vFlow : Nat := 0x0006
def vOver : Nat := 0x0008
def vGate : Nat := 0x0009
def vCmp : Nat := 0x000A
def vTree : Nat := 0x000B
def vRange : Nat := 0x000C
def vRetired : Nat := 0x000D
def vLane : Nat := 0x000E
def vDepth : Nat := 0x000F
def vPool : Nat := 0x0010
def vCipher : Nat := 0x0011
def vMask : Nat := 0x0012
def vScope : Nat := 0x0013

/-- The R21 code of the block that holds an address (R401). -/
def blockOf (a : Nat) : Nat :=
  if a < 0x100000 then 1 else if a < 0x200000 then 2 else if a < 0x300000 then 3 else if a < 0x400000 then 4
  else if a < 0x500000 then 5 else if a < 0x600000 then 6 else if a < 0x700000 then 7 else if a < 0x800000 then 8
  else if a < 0x1000000 then 9 else if a < 0x1400000 then 0xA else if a < 0x1800000 then 0xB else if a < 0x1A00000 then 0xC
  else if a < 0x1C00000 then 0xD else if a < 0x2000000 then 0xE else if a < 0x2800000 then 0xF else 0x10

/-- A violation of a staged entry (R406). -/
def StagedEnt.violation (e : StagedEnt) (code block object : Nat) : Violation :=
  { code := code, block := block, stagedReg := e.stagedReg, section_ := if e.stagedReg then 0 else e.section_, object := object }

/-! ### Register values outside their encoding -/

/-- A range of a field of a register: base, instances and stride, lowest bit, width, least and greatest value. -/
structure RangeRow where
  base : Nat
  n : Nat
  stride : Nat
  lo : Nat
  width : Nat
  least : Nat
  most : Nat
deriving DecidableEq, Repr

/-- The ranges that the register tables print for ST fields. -/
def rangeRows : List RangeRow :=
  [⟨0x144, 7, 4, 16, 16, 1, 3600⟩, ⟨0x144, 7, 4, 0, 4, 1, 15⟩, ⟨0x70000C, 1, 4, 0, 6, 0, 40⟩, ⟨0x80000C, 649, 0x400, 0, 7, 1, 50⟩,
   ⟨0x1000028, 256, 0x4000, 24, 8, 1, 255⟩, ⟨0x1000028, 256, 0x4000, 20, 4, 1, 8⟩, ⟨0x1000028, 256, 0x4000, 0, 14, 64, 16000⟩,
   ⟨0x1000100, 256, 0x4000, 24, 7, 1, 100⟩, ⟨0x1000100, 256, 0x4000, 16, 4, 1, 15⟩, ⟨0x1000100, 256, 0x4000, 12, 4, 1, 15⟩,
   ⟨0x1000100, 256, 0x4000, 4, 8, 8, 255⟩, ⟨0x1000104, 256, 0x4000, 0, 8, 1, 255⟩, ⟨0x1000108, 256, 0x4000, 16, 8, 1, 255⟩,
   ⟨0x1000108, 256, 0x4000, 8, 4, 1, 15⟩, ⟨0x1000108, 256, 0x4000, 0, 4, 1, 15⟩, ⟨0x1000200, 256, 0x4000, 0, 32, 0, 159252480⟩,
   ⟨0x100020C, 256, 0x4000, 16, 8, 8, 255⟩, ⟨0x100020C, 256, 0x4000, 0, 16, 8, 32767⟩, ⟨0x1000210, 256, 0x4000, 0, 16, 10, 65535⟩] ++
  [⟨0x1410000, 256, 0x100, 24, 8, 1, 255⟩, ⟨0x1410000, 256, 0x100, 16, 8, 1, 255⟩, ⟨0x1410000, 256, 0x100, 0, 11, 32, 2047⟩,
   ⟨0x1410004, 256, 0x100, 8, 8, 1, 64⟩, ⟨0x1410004, 256, 0x100, 0, 8, 4, 255⟩, ⟨0x1800000, 1, 4, 26, 2, 0, 2⟩,
   ⟨0x1A00008, 1, 4, 16, 16, 10, 60000⟩, ⟨0x1A00008, 1, 4, 0, 4, 1, 15⟩, ⟨0x1C00014, 1, 4, 0, 15, 256, 20000⟩,
   ⟨0x1C00018, 1, 4, 24, 8, 1, 100⟩, ⟨0x1C00018, 1, 4, 16, 8, 4, 255⟩, ⟨0x1C00018, 1, 4, 0, 16, 16, 65535⟩,
   ⟨0x1C0001C, 1, 4, 0, 16, 1, 65535⟩, ⟨0x1C00020, 1, 4, 0, 14, 1, 10000⟩, ⟨0x2000010, 1, 4, 16, 12, 1, 4095⟩,
   ⟨0x2000010, 1, 4, 0, 16, 1, 65535⟩, ⟨0x2000014, 1, 4, 16, 16, 1, 65535⟩, ⟨0x2000014, 1, 4, 0, 16, 1, 65535⟩,
   ⟨0x200020C, 1, 4, 0, 30, 0, 999999999⟩, ⟨0x200021C, 1, 4, 0, 24, 32, 16777215⟩]

/-- The row holds the address. -/
def RangeRow.holds (r : RangeRow) (a : Nat) : Bool := decide (r.base ≤ a) && decide ((a - r.base) % r.stride = 0) && decide ((a - r.base) / r.stride < r.n)

/-- A word lies within the ranges of its register. -/
def inRange (a : Nat) (w : Word) : Bool :=
  rangeRows.all (fun r => !(r.holds a) || (decide (r.least ≤ getBits w r.lo r.width) && decide (getBits w r.lo r.width ≤ r.most)))

/-- The object index of a register (R406): its instance in the block's numbering. -/
def regObject (key : Nat) : Nat :=
  let a := key % 0x100000000
  if 0x2000200 ≤ a ∧ a < 0x2000230 then (if a = 0x200021C then key / 0x100000000 / 256 else key / 0x100000000)
  else if 0x100000000 ≤ key then key / 0x100000000
  else if a < 0x100000 then (a - 0x140) / 4
  else if 0x800000 ≤ a ∧ a < 0x1000000 then (a - 0x800000) / 0x400
  else if 0x1000000 ≤ a ∧ a < 0x1400000 then (a - 0x1000000) / 0x4000
  else if 0x1410000 ≤ a ∧ a < 0x1420000 then (a - 0x1410000) / 0x100
  else if 0x1800010 ≤ a ∧ a < 0x1800020 then (a - 0x1800010) / 4
  else if 0x1800020 ≤ a ∧ a < 0x1800030 then (a - 0x1800020) / 4
  else if 0x1800100 ≤ a ∧ a < 0x1800200 then (a - 0x1800100) / 8
  else 0

/-! ### The rigging that the staged set gives -/

/-- The registers with the staged values in force. -/
def mergeRegs (regs : Table Word) (staged : Table (Option Word)) : Table Word :=
  staged.foldl (fun (t : Table Word) x => match x.2 with | some w => Tbl.put t x.1 (RegMap.reset x.1) w | none => t) regs

/-- The window records with the staged ones in force. -/
def mergeRecs (recs : Table (List Nat)) (staged : Table (Option (List Nat))) : Table (List Nat) :=
  staged.foldl (fun (t : Table (List Nat)) x => match x.2 with | some w => Tbl.put t x.1 [] w | none => t) recs

/-- The state as it will be after the next apply, as far as registers and window records go. -/
def State.result (s : State) : State :=
  { s with regs := mergeRegs s.regs s.staged, recs := mergeRecs s.recs s.stagedRecs }

/-- The applied-to-be records of a kind: index and words. -/
def State.recsOf (s : State) (kind : Nat) : List (Nat × List Nat) :=
  (s.recs.filter (fun x => decide (x.1 / 0x10000000000 = kind))).map (fun x => (x.1 % 0x10000000000, x.2))

/-- The entry is the last one staged of those that meet p. -/
def State.lastStaged (s : State) (e : StagedEnt) (p : StagedEnt → Bool) : Bool := decide ((s.stagedLog.filter p).getLast? = some e)

/-- The entry is a record of a kind. -/
def isRec (kind : Nat) (e : StagedEnt) : Bool := !e.isReg && decide (e.key / 0x10000000000 = kind)

/-! ### Registers -/

/-- The registers of the gate list of group u. -/
def gateKey (u : Nat) (e : StagedEnt) : Bool :=
  let a := e.key % 0x100000000
  let i := e.key / 0x100000000
  e.isReg && ((decide (0x2000204 ≤ a) && decide (a ≤ 0x2000214) && decide (i = u)) || (decide (a = 0x200021C) && decide (i / 256 = u)))

/-- The gate list of a group breaks its shape (R230). -/
def State.gateBad (r : State) (u : Nat) : Bool :=
  let n := r.fld ((F.shtGateLen_entries).inst u)
  let g := r.gateRegs u
  decide (n ≠ 0) && (decide (256 < n) || decide (g.cycle < 1000) || decide (1000000000 < g.cycle) ||
    decide (g.entries.foldl (fun a x => a + x.2) 0 ≠ g.cycle))

/-- Violations of one staged register, under the resulting rigging r. -/
def State.regViolations (s r : State) (e : StagedEnt) : List Violation :=
  let a := e.key % 0x100000000
  let w := r.reg e.key
  let o := regObject e.key
  let v := fun (code : Nat) => e.violation code (blockOf a) o
  let out := !(inRange a w)
  let rogue := decide (0x1000000 ≤ a) && decide (a < 0x1400000) && decide (a % 0x4000 = 0x108) && decide (getBits w 8 4 < getBits w 0 4)
  let spill := decide (a = 0x1C00018) && decide (getBits w 0 16 ≤ getBits w 16 8)
  let bp := decide (0x1410000 ≤ a) && decide (a < 0x1420000) && (List.range 4).any (fun p => decide (a % 0x100 = 0x20 + 0x14 * p)) && decide (getBits w 31 1 = 1) &&
    (decide (getBits w 0 9 < 8) || decide (256 < getBits w 0 9) || decide (getBits w 0 9 % 8 ≠ 0) ||
     (decide (r.fld (F.pchMode_mode o) = 1) && decide (getBits w 16 1 = 0)))
  let cmp := decide (0x1800100 ≤ a) && decide (a < 0x1800200) && r.flag (F.prsCmpSel_valid o) &&
    (if a % 8 = 0 then decide (r.fld (F.prsCmpSel_field o) < 1) || decide (8 < r.fld (F.prsCmpSel_field o)) ||
        ((Tbl.find s.staged (e.key + 4) none).isNone && decide (r.fld (F.prsCmpRange_hi o) < r.fld (F.prsCmpRange_lo o)))
     else decide (r.fld (F.prsCmpRange_hi o) < r.fld (F.prsCmpRange_lo o)))
  let gate := gateKey o e && s.lastStaged e (gateKey o) && r.gateBad o
  (if out || rogue || spill || bp || cmp then [v vRange] else []) ++ (if gate then [v vGate] else [])

/-! ### Window records -/

/-- The ONU context is bound to a channel. -/
def State.onuOn (s : State) (n c : Nat) : Bool := decide ((s.onuOf n).st ≠ 0) && decide ((s.onuOf n).chan = c)

/-- The channel's resource is unbound or retired. -/
def State.chanGone (s : State) (c : Nat) : Bool := !(s.portUsable c)

/-- The valid flow record of index i: its channel and port-ID. -/
def flowOf (ws : List Nat) : Option (Nat × Nat) :=
  if recBits ws 1 0 0 = 1 ∧ wordOf ws 2 ≠ 0 then some (wordOf ws 2 - 1, recBits ws 0 15 0) else none

/-- A flow bound to channel c lies under a Sheet node path of c (R83, R222). -/
def State.flowPlaced (r : State) (f c : Nat) : Bool := decide ((r.flowPath f).bind (·.head?) = some (nodeName 0 c))

/-- Violations of a staged downstream flow record (R83). -/
def State.flwViolations (s r : State) (e : StagedEnt) (i : Nat) : List Violation :=
  let ws := r.record kFlw i
  let v := fun (code : Nat) => e.violation code 0xA i
  match flowOf ws with
  | none => []
  | some (c, p) =>
    let dup := (r.recsOf kFlw).any (fun x => decide (x.1 ≠ i) && decide (flowOf x.2 = some (c, p)) &&
      (((Tbl.find s.stagedRecs (recKey kFlw x.1) none).isNone) || s.lastStaged e (fun y => isRec kFlw y && (decide (y.key = e.key) || decide (y.key = recKey kFlw x.1)))))
    (if p = 0xFFFF ∨ recBits ws 1 3 2 = 3 then [v vRange] else []) ++ (if dup then [v vDup] else []) ++
    (if recBits ws 1 3 2 = 0 ∧ r.onuOn (recBits ws 0 31 16) c = false then [v vRef] else []) ++
    (if r.chanGone c then [v vRetired] else []) ++ (if r.flowPlaced i c then [] else [v vTree])

/-- Violations of a staged upstream flow record (R96). -/
def State.uflViolations (r : State) (e : StagedEnt) (i : Nat) : List Violation :=
  let ws := r.record kUfl i
  let v := fun (code : Nat) => e.violation code 0xA (recBits ws 0 17 0)
  if recBits ws 0 31 31 = 0 then []
  else
    (if i % 65536 = 0xFFFF then [v vRange] else []) ++ (if r.onuOn (recBits ws 1 15 0) (i / 65536) then [] else [v vRef]) ++
    (if r.chanGone (i / 65536) then [v vRetired] else [])

/-- Violations of a staged ONU record of the upstream (R104). -/
def State.uonuViolations (r : State) (e : StagedEnt) (i : Nat) : List Violation :=
  let ws := r.record kUonu i
  if recBits ws 0 31 31 = 0 then []
  else (if recBits ws 0 13 12 = 3 then [e.violation vRange 0xA i] else []) ++
    (if r.uplinkBound (recBits ws 0 27 24) then [] else [e.violation vRetired 0xA i])

/-- A record keeps its row of R141. -/
def alTypeOk (ws : List Nat) : Bool :=
  let rf := alRf ws
  let ra := alRa ws
  let rm := alRm ws
  if alType ws = 1 then decide (0 < rf) && decide (ra = 0) && decide (rm = rf)
  else if alType ws = 2 then decide (rf = 0) && decide (0 < ra) && decide (rm = ra)
  else if alType ws = 3 then decide (rf = 0) && decide (0 < ra) && decide (ra < rm)
  else if alType ws = 4 then decide (rf = 0) && decide (ra = 0) && decide (0 < rm)
  else if alType ws = 5 then decide (rf + ra ≤ rm) && decide (0 < rm) && decide (alXab ws ≠ 3)
  else false

/-- Upstream capacity of a channel in units of 64 kbit/s (R142). -/
def State.usCapacity (s : State) (c : Nat) : Nat :=
  if s.fld (F.pchMode_mode c) = 2 then 126987
  else if s.fld (F.pchMode_us_rate c) = 0 then 153900 else if s.fld (F.pchMode_us_rate c) = 1 then 307800 else 615600

/-- Valid Alloc contexts of a channel. -/
def State.allocsOn (r : State) (c : Nat) : List (Nat × List Nat) := (r.recsOf kAlc).filter (fun x => alValid x.2 && decide (alChan x.2 = c))

/-- The staged entry gives an Alloc context to channel c. -/
def State.alcOn (r : State) (c : Nat) (e : StagedEnt) : Bool :=
  isRec kAlc e && alValid (r.record kAlc (e.key % 0x10000000000)) && decide (alChan (r.record kAlc (e.key % 0x10000000000)) = c)

/-- Violations of a staged Alloc context (R141, R142). -/
def State.alcViolations (s r : State) (e : StagedEnt) (i : Nat) : List Violation :=
  let ws := r.record kAlc i
  let c := alChan ws
  let v := fun (code : Nat) => e.violation code 0xB i
  if alValid ws = false then []
  else
    let same := (r.allocsOn c).filter (fun x => decide (x.1 ≠ i) && decide (alId x.2 = alId ws))
    let dup := same.any (fun x => (Tbl.find s.stagedRecs (recKey kAlc x.1) none).isNone ||
      s.lastStaged e (fun y => isRec kAlc y && (decide (y.key = e.key) || decide (y.key = recKey kAlc x.1))))
    let last := s.lastStaged e (r.alcOn c)
    let sum := (r.allocsOn c).foldl (fun a x => a + alRf x.2 + alRa x.2) 0
    let idBad := if alId ws < 0x3FF then decide (alId ws ≠ (r.onuOf (alOnu ws)).onuId) else decide (alId ws = 0x3FF)
    (if alTypeOk ws = false ∨ (0 < alRf ws ∧ alSi ws = 0) ∨ alWeight ws = 0 ∨ idBad = true then [v vRange] else []) ++
    (if dup then [v vDup] else []) ++ (if r.onuOn (alOnu ws) c then [] else [v vRef]) ++
    (if r.chanGone c = true ∨ (alTtEn ws = true ∧ r.uplinkBound (alTtUg ws) = false) then [v vRetired] else []) ++
    (if last ∧ 1024 < (r.allocsOn c).length then [e.violation vAlloc 0xB c] else []) ++
    (if last ∧ r.usCapacity c < sum then [e.violation vOver 0xB c] else [])

/-- A destination names a bound port or a LAG with a slot; it is not retired. -/
def State.destViolation (r : State) (lag : Bool) (d : Nat) : Option Nat :=
  if lag then (if d < 64 ∧ r.lagMembers d ≠ [] then none else some vRef)
  else if r.portBound d = false then some vRef
  else if r.portUsable d = false then some vRetired else none

/-- Violations of a staged rule (R170, R171). -/
def State.ruleViolations (r : State) (e : StagedEnt) (i : Nat) : List Violation :=
  let ws := r.record kRule i
  let v := fun (code : Nat) => e.violation code 0xC i
  if recBits ws 38 31 31 = 0 then []
  else
    let verdict := recBits ws 38 30 28
    let cmp := (List.range 32).any (fun k => decide (wordOf ws 37 / 2 ^ k % 2 = 1) && !(r.flag (F.prsCmpSel_valid k)))
    (if 5 ≤ verdict then [v vRange] else []) ++ (if cmp then [v vRef] else []) ++
    (if verdict = 4 then (match r.destViolation (decide (recBits ws 39 25 25 = 1)) (recBits ws 39 24 16) with | some c => [v c] | none => []) else [])

/-- Violations of a staged word of a LAG table (PRS_LAG_DATA). -/
def State.lagViolations (r : State) (e : StagedEnt) (i : Nat) : List Violation :=
  let w := wordOf (r.record kLag i) 0
  if (List.range 4).any (fun k => decide (bits w (8 * k + 7) (8 * k + 7) = 1) && !(r.portBound (256 + bits w (8 * k + 6) (8 * k)))) then
    [e.violation vRetired 0xC (i / 64)]
  else []

/-- A node record keeps its encoding at its level (R223). -/
def nodeRangeOk (lvl : Nat) (ws : List Nat) : Bool :=
  let o := signed 8 (recBits ws 0 23 16)
  decide (1 ≤ ndWeight ws) && decide (-64 ≤ o) && (decide (ndPir ws = 0) || decide (64 ≤ ndPir ws)) &&
  (decide (ndCir ws = 0) || (decide (64 ≤ ndCir ws) && (decide (ndPir ws = 0) || decide (ndCir ws ≤ ndPir ws)))) &&
  (if lvl = 5 then !(ndPfc ws) || decide (ndXon ws < ndXoff ws) else !(ndPfc ws) && decide (wordOf ws 6 = 0)) &&
  ((decide (1 ≤ lvl) && decide (lvl ≤ 3)) || decide (ndParent ws = 0))

/-- The group whose range of a level holds a node (R222): subscribers at level 1, services at level 2. -/
def State.treeGroup (s : State) (lvl i : Nat) : Option Nat :=
  (List.range 32).find? (fun g =>
    let t := Tbl.find s.rig.run.tree g (0, 0, 0, 0)
    if lvl = 1 then decide (t.1 ≤ i) && decide (i < t.1 + t.2.1) else decide (t.2.2.1 ≤ i) && decide (i < t.2.2.1 + t.2.2.2))

/-- The parent of a node is where R221 and R222 want it. -/
def State.parentOk (r : State) (lvl i : Nat) (ws : List Nat) : Bool :=
  let p := ndParent ws
  if lvl = 1 then (match r.treeGroup 1 i with | some g => decide (p < 256) && decide (p / 8 = g) | none => false)
  else if lvl = 2 then (match r.treeGroup 2 i with | some g => decide (r.treeGroup 1 p = some g) | none => false)
  else if lvl = 3 then decide (p < 524288) && (r.treeGroup 2 p).isSome
  else true

/-- Valid service nodes of a subscriber. -/
def State.servicesOf (r : State) (sub : Nat) : Nat :=
  ((r.recsOf kNode).filter (fun x => decide (x.1 / 0x100000 = 2) && ndValid x.2 && decide (ndParent x.2 = sub))).length

/-- The staged entry puts a service under a subscriber. -/
def State.svcOf (r : State) (sub : Nat) (e : StagedEnt) : Bool :=
  let k := e.key % 0x10000000000
  isRec kNode e && decide (k / 0x100000 = 2) && ndValid (r.node k) && decide (ndParent (r.node k) = sub)

/-- Violations of a staged node (R222, R223). -/
def State.nodeViolations (s r : State) (e : StagedEnt) (k : Nat) : List Violation :=
  let ws := r.node k
  let lvl := k / 0x100000
  let i := k % 0x100000
  let v := fun (code : Nat) => e.violation code 0xF i
  let lost := decide (lvl = 3) && (match flowOf (r.record kFlw i) with | some (c, _) => !(r.flowPlaced i c) | none => false)
  (if ndValid ws = true ∧ nodeRangeOk lvl ws = false then [v vRange] else []) ++
  (if (ndValid ws = true ∧ r.parentOk lvl i ws = false) ∨ lost = true then [v vTree] else []) ++
  (if ndValid ws = true ∧ lvl = 2 ∧ 8 < r.servicesOf (ndParent ws) ∧ s.lastStaged e (r.svcOf (ndParent ws)) = true then
    [e.violation vFlow 0xF (ndParent ws)] else [])

/-- Violations of a staged static forwarding entry (R52, R183). -/
def State.staticViolations (r : State) (e : StagedEnt) : List Violation :=
  let p := (e.key - 2 ^ 80) / 2 ^ 64
  let k := e.key % 2 ^ 64
  match r.findEnt p k (fun x => x.static_ && x.addP) (r.lookupLocs p k) with
  | none => []
  | some (l, x) => match r.destViolation x.lag x.dest with | some c => [e.violation c 0xD l] | none => []

/-- Violations of one staged entry. -/
def State.entViolations (s r : State) (e : StagedEnt) : List Violation :=
  let i := e.key % 0x10000000000
  if e.isReg then s.regViolations r e
  else if 2 ^ 80 ≤ e.key then r.staticViolations e
  else if isRec kFlw e then s.flwViolations r e i
  else if isRec kUfl e then r.uflViolations e i
  else if isRec kUonu e then r.uonuViolations e i
  else if isRec kAlc e then s.alcViolations r e i
  else if isRec kRule e then r.ruleViolations e i
  else if isRec kLag e then r.lagViolations e i
  else if isRec kNode e then s.nodeViolations r e i
  else []

/-- The violations of the staged set (R52): those that LOAD_TRIM met, then those of the entries in staging order. -/
def State.violations (s : State) : List Violation := s.rig.pre ++ s.stagedLog.flatMap (fun e => s.entViolations s.result e)

/-! ### The structural sections of a RERIG (R58) -/

/-- A violation in an image section of a type and region (R406): section is its place in the image's section table. -/
def sectViolation (img : Image) (code block sect region object : Nat) : Violation :=
  { code := code, block := block, stagedReg := false, section_ := Tbl.find img.sects (sect * 65536 + region) 0, object := object }

def chanMode0 : ChanMode := { mode := 0, usRate := 0, paired := false }

/-- Violations of the channel modes of group g (R62 to R64). -/
def modeViolations (img : Image) (g : Nat) : List Violation :=
  (List.range 8).flatMap (fun n =>
    let c := 8 * g + n
    let m := Tbl.find img.modes c chanMode0
    let o := Tbl.find img.modes (if c % 2 = 0 then c + 1 else c - 1) chanMode0
    (if 2 < m.mode ∨ 2 < m.usRate ∨ (m.mode ≠ 1 ∧ m.usRate ≠ 0) ∨ (m.mode ≠ 0 ∧ img.groups / 2 ^ g % 2 = 0) then [sectViolation img vRange 0xA 2 (0x100 + g) c] else []) ++
    (if m.paired ∧ (o.paired = false ∨ ¬ ((m.mode = 1 ∧ o.mode = 2) ∨ (m.mode = 2 ∧ o.mode = 1))) then [sectViolation img vLane 0xA 2 (0x100 + g) c] else []))

/-- Violations of the record and lanes of uplink group u (R276, R277). -/
def State.uplinkViolations (s : State) (img : Image) (u : Nat) : List Violation :=
  let r := Tbl.find img.ugRec u (0, 0)
  let w := portWidth r.1
  let pos := fun (n : Nat) => (Tbl.find img.lanePos n none).getD (n % 8)
  let lanes := (List.range 8).map (fun k => 8 * u + k)
  let stray := (List.range 8).any (fun p => decide (r.2 / 2 ^ p % 2 = 1) && decide (p % w ≠ 0))
  let dead := lanes.any (fun n => decide (r.1 ≠ 0) && decide (r.2 / 2 ^ (pos n / w * w) % 2 = 1) && s.isRetired 2 (512 + n))
  (if 4 < r.1 ∨ 255 < r.2 ∨ (r.1 ≠ 0 ∧ stray = true) ∨ lanes.any (fun n => decide (7 < pos n)) = true then [sectViolation img vRange 9 1 (0x200 + u) u] else []) ++
  (if (lanes.map pos).eraseDups.length ≠ 8 then [sectViolation img vLane 9 1 (0x200 + u) u] else []) ++ (if dead then [sectViolation img vRetired 9 1 (0x200 + u) u] else [])

/-- Two ranges meet. -/
def meet (a n b m : Nat) : Bool := decide (0 < n) && decide (0 < m) && decide (a < b + m) && decide (b < a + n)

/-- Violations of the node ranges of group g in a tree (R222). -/
def treeViolations (img : Image) (tree : Table (Nat × Nat × Nat × Nat)) (g region : Nat) : List Violation :=
  let t := Tbl.find tree g (0, 0, 0, 0)
  let clash := (List.range 32).any (fun h => let o := Tbl.find tree h (0, 0, 0, 0)
    decide (h ≠ g) && (meet t.1 t.2.1 o.1 o.2.1 || meet t.2.2.1 t.2.2.2 o.2.2.1 o.2.2.2))
  if clash = true ∨ 65536 < t.1 + t.2.1 ∨ 524288 < t.2.2.1 + t.2.2.2 then [sectViolation img vRange 0xF 5 region g] else []

/-- Nodes of the graph that are no layer nodes and still reach such a node, after a number of rounds: what is left lies on a cycle or leads
to one. -/
def cyclic (g : PGraph) : Nat → List Nat → List Nat
  | 0, l => l
  | fuel + 1, l =>
    cyclic g fuel (l.filter (fun n => match g.nodes[n]? with
      | some x => (x.dflt :: ((g.trans.drop x.transFirst).take x.transN).map (·.next)).any (fun m => l.contains m)
      | none => false))

/-- Violations of a parser graph (R166). -/
def graphViolations (img : Image) (g : PGraph) : List Violation :=
  let n := g.nodes.length
  let ok := fun (m : Nat) => decide (m < n) || decide (m = 0xFF)
  let ref := !(ok g.startUp) || !(ok g.startPon) || g.nodes.any (fun x => !(ok x.dflt)) || g.trans.any (fun x => !(ok x.next)) || g.exts.any (fun x => !(ok x.node))
  let flat := (List.range n).filter (fun i => match g.nodes[i]? with | some x => !x.layer | none => false)
  let deep := decide (cyclic g n flat ≠ []) || g.nodes.any (fun x => !x.var && decide (256 < x.baseLen))
  let ext := g.exts.any (fun x => match g.nodes[x.node]? with
    | some y => decide (3 ≤ x.mode) || decide ((keyField x.code).1 < x.width) || (decide (x.mode ≠ 2) && decide (8 * y.minLen < x.off + x.width))
    | none => false)
  let nxt := g.nodes.any (fun x => decide (0 < x.nxtWidth) && decide (8 * (x.minLen + if x.nxtAfter then 8 else 0) < x.nxtOff + x.nxtWidth))
  (if ref then [sectViolation img vRef 0xC 3 0 0] else []) ++ (if deep then [sectViolation img vDepth 0xC 3 0 0] else []) ++
  (if ext || nxt then [sectViolation img vRange 0xC 3 0 0] else [])

/-- Violations of the table partitions (R179). -/
def State.partViolations (s : State) (img : Image) : List Violation :=
  let l := (List.range img.parts.length).filterMap (fun i => (img.parts[i]?).map (fun p => (i, p)))
  let used := l.filter (fun x => decide (x.2.kind ≠ 0))
  let size := fun (p : FwdPart) => 2 ^ p.log2
  l.flatMap (fun x =>
    let p := x.2
    let out := decide (4 < p.kind) || (decide (p.kind ≠ 0) && (decide (p.log2 < 10) || decide (18 < p.log2) || decide (p.base % size p ≠ 0) ||
      decide (262144 < p.base + size p) || decide (2 < p.miss) || decide (63 < p.missQ) || decide (p.depth < 1) || decide (8 < p.depth) ||
      decide (16384 < p.quota) || (p.learn && decide (p.kind ≠ 1)) || (decide (p.ageS ≠ 0) && decide (p.ageS < 10)) ||
      used.any (fun y => decide (y.1 < x.1) && meet p.base (size p) y.2.base (size y.2))))
    (if out then [sectViolation img vRange 0xD 4 0 x.1] else []) ++
    (if p.kind ≠ 0 ∧ p.miss = 2 then (match s.destViolation p.missLag p.missDest with | some c => [sectViolation img c 0xD 4 0 x.1] | none => []) else [])) ++
  (if 16384 < used.foldl (fun (a : Nat) (x : Nat × FwdPart) => a + x.2.quota) 0 then [sectViolation img vFull 0xD 4 0 0xFFFFFFFF] else []) ++
  (img.srcPorts.filter (fun x => decide (x.2.1 ≠ 0xFF) && (match img.parts[x.2.1]? with | some p => decide (p.kind = 0) | none => true))).map
    (fun x => sectViolation img vRef 0xD 4 0 x.1)

/-- Violations of the buffer section (R203). -/
def bufViolations (img : Image) : List Violation :=
  let b := img.buf
  let ug := ((List.range 16).filter (fun u => decide (img.uplinks / 2 ^ u % 2 = 1))).length
  let guar := b.guar.foldl (· + ·) 0
  let seg := b.seg.getD 0 0 * 2 + b.seg.getD 1 0 * 8 + b.seg.getD 2 0 * 32 + b.seg.getD 3 0 * 128
  let dies := ((List.range 4).filter (fun k => decide (img.drams / 2 ^ k % 2 = 1))).length
  let out := decide (b.ingress < 16384) || decide (131072 < b.ingress) || decide (b.msgS < 4096) || decide (131072 < b.msgS) || decide (b.msgL < 1024) ||
    decide (32768 < b.msgL) || decide (8192 < b.headroom) || decide (1048576 < b.seg.getD 0 0) || decide (1048576 < b.seg.getD 1 0) ||
    decide (1048576 < b.seg.getD 2 0) || decide (262144 < b.seg.getD 3 0) || (List.range 8).any (fun c => decide (b.cap.getD c 0 < b.guar.getD c 0))
  (if out then [sectViolation img vRange 0xE 6 0 0] else []) ++
  (if 786432 < b.ingress + b.msgS + 8 * b.msgL + b.headroom * ug + guar ∨ dies * 12582912 < seg then [sectViolation img vPool 0xE 6 0 0xFFFFFFFF] else [])

/-- Line rate of a fabric port in Mbit/s (R252): the channels of a group in both directions, or twice the bound uplink ports of a group. -/
def portLoad (img : Image) (p : Nat) : Nat :=
  if p < 32 then
    (List.range 8).foldl (fun a n =>
      let m := Tbl.find img.modes (8 * p + n) chanMode0
      a + (if m.mode = 1 then 49766 + (if m.usRate = 0 then 12442 else if m.usRate = 1 then 24883 else 49766) else if m.mode = 2 then 2 * 9953 else 0)) 0
  else
    let r := Tbl.find img.ugRec (p - 32) (0, 0)
    (List.range 8).foldl (fun a n => a + (if r.1 ≠ 0 ∧ r.2 / 2 ^ n % 2 = 1 then 2 * 100000 * portWidth r.1 else 0)) 0

/-- Violations of the cipher lane section (R252). -/
def cipherViolations (img : Image) : List Violation :=
  let n := img.cipher.length
  let bound := fun (p : Nat) => if p < 32 then decide (img.groups / 2 ^ p % 2 = 1) else decide (img.uplinks / 2 ^ (p - 32) % 2 = 1)
  let lanesOf := fun (p : Nat) => (img.cipher.filter (fun x => decide (x.1 / 2 ^ p % 2 = 1))).length
  let ix := (List.range n).filterMap (fun l => (img.cipher[l]?).map (fun x => (l, x)))
  (if 16 < n then [sectViolation img vCipher 8 7 0 0xFFFFFFFF] else []) ++
  ix.flatMap (fun x =>
    (if 3200000 < (List.range 48).foldl (fun a p => a + (if x.2.1 / 2 ^ p % 2 = 1 then portLoad img p else 0)) 0 then [sectViolation img vCipher 8 7 0 x.1] else []) ++
    (if x.2.2 ≠ 0xFF ∧ (x.2.2 = x.1 ∨ n ≤ x.2.2) then [sectViolation img vRange 8 7 0 x.1] else []) ++
    (if (List.range 48).any (fun p => decide (x.2.1 / 2 ^ p % 2 = 1) && !(bound p)) then [sectViolation img vRetired 8 7 0 x.1] else [])) ++
  ((List.range 48).filter (fun p => bound p && decide (lanesOf p ≠ 1))).map (fun p => sectViolation img vRange 8 7 0 p)

/-- Bits set in a mask of n bits. -/
def popCount (n m : Nat) : Nat := ((List.range n).filter (fun i => decide (m / 2 ^ i % 2 = 1))).length

/-- Violations of the profile section (R45). -/
def maskViolations (img : Image) : List Violation :=
  let want := if img.profile = 0 then (32, 16, 4) else (4, 2, 1)
  if (popCount 32 img.groups, popCount 16 img.uplinks, popCount 4 img.drams) = want then [] else [sectViolation img vMask 2 9 0 0xFFFFFFFF]

/-- The violations of a RERIG of a region from an image (R52, R58): one region's sections against the running device-region sections, or
for region 0x0000 every section. -/
def State.rerigViolations (s : State) (img : Image) (region : Nat) : List Violation :=
  if region = 0 then
    let t := { s with rig := { s.rig with run := img } }
    (List.range 32).flatMap (fun g => modeViolations img g ++ treeViolations img img.tree g 0) ++ (List.range 16).flatMap (fun u => s.uplinkViolations img u) ++
    graphViolations img img.graph ++ t.partViolations img ++ bufViolations img ++ cipherViolations img ++ maskViolations img
  else
    (if img.deviceHash ≠ s.rig.run.deviceHash then [sectViolation img vScope 2 0 0 0xFFFFFFFF] else []) ++
    (if 0x100 ≤ region ∧ region < 0x120 then
      let g := region - 0x100
      modeViolations { img with groups := s.rig.run.groups } g ++
        treeViolations img (Tbl.put s.rig.run.tree g (0, 0, 0, 0) (Tbl.find img.tree g (0, 0, 0, 0))) g region ++
        (if s.groupBound g then [] else [sectViolation img vRetired 2 0 0 region])
     else if 0x200 ≤ region ∧ region < 0x210 then
      s.uplinkViolations img (region - 0x200) ++ (if s.uplinkBound (region - 0x200) then [] else [sectViolation img vRetired 2 0 0 region])
     else [sectViolation img vScope 2 0 0 region])

end Sys2Proof.Machine
end

