-- ==== Sys2Proof/Machine/Fabric.lean ====
section
/-! DEFINITION. The fabric, the egress queues with admission, push-out and DRAM spill, Spar's pools, and ports that go down
(09_fabric_and_buffers.md, and R173, R224). -/

namespace Sys2Proof.Machine

/-! ### Ports -/

def port0 : PortSt := { st := 0, since := 0, holdMs := 0 }
def State.portOf (s : State) (d : Nat) : PortSt := Tbl.find s.fab.ports d port0
def State.setPort (s : State) (d : Nat) (x : PortSt) : State := { s with fab := { s.fab with ports := Tbl.put s.fab.ports d port0 x } }

/-- Uplink port n is up in the sense of R173: its MAC has a link. -/
def State.linkIsUp (s : State) (n : Nat) : Bool := decide (s.fld (F.prsPortUp_up (n / 32)) / 2 ^ (n % 32) % 2 = 1)

/-- Sets a bit of PRS_PORT_UP. -/
def State.setLink (s : State) (n : Nat) (b : Bool) : State :=
  let f := F.prsPortUp_up (n / 32)
  let v := s.fld f
  let w := v - v / 2 ^ (n % 32) % 2 * 2 ^ (n % 32)
  s.setFld f (w + b.toNat * 2 ^ (n % 32))

/-! ### Spar -/

/-- Size of a pool in buffers (R203, R211). -/
def State.poolSize (s : State) (k : Nat) : Nat :=
  let b := s.rig.run.buf
  if k = 0 then 786432 - b.msgS - 8 * b.msgL else if k = 1 then b.msgS else if k = 2 then b.msgL
  else if k < 7 then b.seg.getD (k - 3) 0 else 0

/-- Buffer size of a pool in bytes. -/
def bufBytes (k : Nat) : Nat :=
  if k = 0 ∨ k = 1 then 256 else if k = 2 ∨ k = 3 then 2048 else if k = 4 then 8192 else if k = 5 then 32768 else 131072

/-- Pools of a family, by buffer size: 0 cells, 1 messages, 2 DRAM. -/
def familyPools (fam : Nat) : List Nat := if fam = 0 then [0] else if fam = 1 then [1, 2] else if fam = 2 then [3, 4, 5, 6] else []

/-- The family of a pool. -/
def poolFamily (k : Nat) : Nat := if k = 0 then 0 else if k < 3 then 1 else 2

def pool0 : Pool := { top := [], fresh := 0, used := [], lost := 0, count := 0, low := 0x1FFFFF, fbSaid := false, waitSaid := false }
def State.poolOf (s : State) (k : Nat) : Pool := Tbl.find s.fab.pools k pool0
def State.setPool (s : State) (k : Nat) (p : Pool) : State := { s with fab := { s.fab with pools := Tbl.put s.fab.pools k pool0 p } }

/-- A pointer of a pool: an index, or a byte offset in the 128 KiB pool (R213). -/
def poolPtr (k i : Nat) : Nat := if k = 6 then i * 131072 else i

/-- Cells in use by the ingress partition and the egress queues. -/
def State.voqCells (s : State) : Nat := sumOf (fun x => x.2.ages.length) s.fab.voq
def State.stagingCells (s : State) : Nat := sumOf (fun x => cdiv (x.2.tail - x.2.e) 256) s.fab.q
def State.egressCells (s : State) : Nat := sumOf (fun q => q.cells) s.queued

/-- Free buffers of a pool. -/
def State.poolFree (s : State) (k : Nat) : Nat :=
  let p := s.poolOf k
  let n := p.top.length + (s.poolSize k - p.fresh)
  if k = 0 then n - s.voqCells - s.stagingCells - s.egressCells - 4096 * s.fld F.fabSts_banks_retired else n

/-- Takes the pointer on top of a pool's stack; an unused pool hands its pointers out from 0 upward. -/
def State.popPool (s : State) (k : Nat) : Option (State × Nat) :=
  let p := s.poolOf k
  match p.top with
  | x :: r => some (s.setPool k { p with top := r }, x)
  | [] => if p.fresh < s.poolSize k then some (s.setPool k { p with fresh := p.fresh + 1 }, poolPtr k p.fresh) else none

/-- Gives a pointer of a pool to an agent (R211, R214): its state bit is set, the allocation counted, a DRAM segment tagged with its flow. -/
def State.grant (s : State) (k ptr agent flow : Nat) : State :=
  let p := s.poolOf k
  let s := s.setPool k { p with used := if k = 6 then p.used else ptr :: p.used, count := (p.count + 1) % 2 ^ 32,
                                low := min p.low (s.poolFree k) }
  { s with fab := { s.fab with granted := s.fab.granted ++ [(agent, k, ptr)],
                               tags := if 3 ≤ k then Tbl.put s.fab.tags (k * 2 ^ 48 + ptr) (0, 0) (flow, (p.count + 1) % 2 ^ 32) else s.fab.tags } }

/-- Pops from the pools of a list, in order; a poisoned pointer on top of the first pool that holds one leaves that pool (R321). The
answer names the pool and the pointer. -/
def State.popFirst (s : State) (ptrBad : Bool) : List Nat → State × Option (Nat × Nat)
  | [] => (s, none)
  | k :: r =>
    match s.popPool k with
    | none => s.popFirst ptrBad r
    | some (t, x) =>
      if ptrBad then
        let t := t.setPool k { t.poolOf k with lost := (t.poolOf k).lost + 1 }
        match t.popPool k with
        | none => t.popFirst false r
        | some (u, y) => (u, some (k, y))
      else (t, some (k, x))

/-- alloc of R212 for an agent: the state after it and the pool and pointer, none when it waits or fails. -/
def State.alloc (s : State) (fam size flow agent : Nat) (mayWait ptrBad : Bool) : State × Option (Nat × Nat) :=
  match (familyPools fam).filter (fun k => decide (size ≤ bufBytes k)) with
  | [] => (s, none)
  | first :: rest =>
    match s.popFirst ptrBad (first :: rest) with
    | (t, some (k, x)) =>
      let t := t.grant k x agent flow
      if k = first then (t, some (k, x))
      else
        let t := t.count Cn.sparFallback first
        if (t.poolOf first).fbSaid then (t, some (k, x))
        else ((t.setPool first { t.poolOf first with fbSaid := true }).post 0x0E07 [first], some (k, x))
    | (t, none) =>
      if mayWait then
        let t : State := { t with fab := { t.fab with waiting := t.fab.waiting ++ [{ agent := agent, first := first }] } }
        let t := t.count Cn.sparWait first
        if (t.poolOf first).waitSaid then (t, none)
        else ((t.setPool first { t.poolOf first with waitSaid := true }).post 0x0E08 [first], none)
      else (t.count Cn.sparNoBuf first, none)

/-- The agent number of the spill of a flow queue. -/
def spillAgent (f : Nat) : Nat := 0x10000 + f

/-- Links a new segment to a flow queue's DRAM part. -/
def State.linkSeg (s : State) (f k ptr : Nat) : State :=
  let x := s.qOf f
  s.setQ f { x with segs := x.segs ++ [{ pool := k, ptr := ptr, count := (s.poolOf k).count, held := 0, room := bufBytes k - 64 }] }

/-- The first requester that pool k can serve (R212). -/
def State.waiterOf (s : State) (k : Nat) : Option BufWait :=
  s.fab.waiting.find? (fun w => decide (poolFamily w.first = poolFamily k) && decide (w.first ≤ k))

/-- Serves the first waiting requester from pool k, if it holds a buffer. -/
def State.serve (s : State) (k : Nat) : State :=
  match s.waiterOf k with
  | none => s
  | some w =>
    match s.popPool k with
    | none => s
    | some (t, x) =>
      let f := w.agent - 0x10000
      let t := { t with fab := { t.fab with waiting := t.fab.waiting.erase w } }
      let t := if t.fab.waiting.any (fun v => decide (v.first = w.first)) then t else t.setPool w.first { t.poolOf w.first with waitSaid := false }
      let t := t.grant k x w.agent f
      if 0x10000 ≤ w.agent then t.linkSeg f k x else t

/-- Pushes a pointer to its pool; the fall-back report re-arms above one eighth of the pool, and a waiting requester is served. -/
def State.pushPool (s : State) (k ptr : Nat) : State :=
  let p := s.poolOf k
  let g := s.fab.granted.find? (fun x => decide (x.2.1 = k) && decide (x.2.2 = ptr))
  let l := match g with | some x => s.fab.granted.erase x | none => s.fab.granted
  let s : State := { s with fab := { s.fab with granted := l } }
  let s := s.setPool k { p with top := ptr :: p.top, used := p.used.erase ptr }
  let s := if s.poolFree k * 8 > s.poolSize k then s.setPool k { s.poolOf k with fbSaid := false } else s
  s.serve k

/-- A free by an agent (R213); bitBad: the state bit is poisoned, and no double-free check is made (R321). -/
def State.freeBuf (s : State) (agent k ptr : Nat) (bitBad : Bool) : State :=
  if k = 6 then
    if ptr % 131072 = 0 ∧ ptr / 131072 < s.poolSize 6 then s.pushPool 6 ptr
    else (s.count Cn.sparBadPtr 0).post 0x0E05 [6, ptr, agent]
  else if bitBad ∨ (s.poolOf k).used.contains ptr = true then s.pushPool k ptr
  else (s.count Cn.sparDoubleFree 0).post 0x0E04 [k, ptr, agent]

/-- BUFFER_ALLOC (R212). -/
def execBufferAlloc (s : State) (agent : Byte) (family : BitVec 2) (size : BitVec 18) (flow : FlowIx) (mayWait ptrBad : Bool) :
    Host.Outcome State Fault Refusal :=
  .next (s.alloc family.toNat size.toNat flow.toNat agent.toNat mayWait ptrBad).1

/-- BUFFER_FREE (R213): pool 7 is no pool. -/
def execBufferFree (s : State) (agent : Byte) (pool : BitVec 3) (ptr : BitVec 36) (bitBad : Bool) : Host.Outcome State Fault Refusal :=
  if pool.toNat = 7 then .next s else .next (s.freeBuf agent.toNat pool.toNat ptr.toNat bitBad)

/-! ### Fabric -/

def voq0 : Voq := { pkts := [], ages := [] }
def voqKey (i e c l : Nat) : Nat := ((i * 64 + e) * 8 + c) * 4 + l
def State.voqOf (s : State) (k : Nat) : Voq := Tbl.find s.fab.voq k voq0
def State.setVoq (s : State) (k : Nat) (v : Voq) : State := { s with fab := { s.fab with voq := Tbl.put s.fab.voq k voq0 v } }
def Voq.bytes (v : Voq) : Nat := sumOf (fun p => p.left) v.pkts

/-- Cells queued in VOQs for output e (R201). -/
def State.voqFor (s : State) (e : Nat) : Nat := sumOf (fun x => if x.1 / 32 % 64 = e then x.2.ages.length else 0) s.fab.voq

/-- LAG_SELECT (R173): the member of LAG l for hash h, under the packet's rigging r; none up: the slot's port. -/
def State.lagSelect (s r : State) (l h : Nat) : State × Nat :=
  let b := r.lagSlot l (h % 256)
  let p := b % 128
  if b < 128 ∨ s.linkIsUp p = false ∨ s.prs.ret.contains (l, p) = true then
    let up := (r.lagMembers l).filter s.linkIsUp
    if up = [] then (s.count Cn.lagNoMember l, p)
    else
      let q := up.getD (h / 65536 % 256 % up.length) p
      (if q = p then s else s.count Cn.lagFailover l, q)
  else (s, p)

/-- FAB_POOL_LOW of the cell pool follows its free cells. -/
def State.noteLow (s : State) : State := s.setPool 0 { s.poolOf 0 with low := min (s.poolOf 0).low (s.poolFree 0) }

/-- FABRIC_INGRESS (R173, R199, R201): the oldest parsed packet of a source port takes its LAG member and is packed into cells in its
VOQ, or is dropped whole for the cap or the ingress partition. -/
def execFabricIngress (s : State) (src : PortIx) : Host.Outcome State Fault Refusal :=
  match Tbl.find s.parsed src.toNat [] with
  | [] => .next s
  | p :: rest =>
    let s := { s with parsed := Tbl.put s.parsed src.toNat [] rest }
    let r := s.asOf p.epoch
    let (s, d) := if 0x8000 ≤ p.dest then (let (t, q) := s.lagSelect r (p.dest - 0x8000) p.hash; (t, 256 + q)) else (s, p.dest)
    let p := { p with dest := d }
    let e := fabPort d
    let k := voqKey (if p.direct then e else fabPort p.src) e (p.cls % 8) (p.hash / 256 % 4)
    let v := s.voqOf k
    let n := cdiv (v.bytes + 8 + p.len) 240 - v.ages.length
    if s.voqFor e + n > r.fld F.fabVoqCap_cap then .next ((s.count Cn.voqCapDrop e).dropped p)
    else if s.voqCells + n > s.rig.run.buf.ingress then .next ((s.count Cn.ingressFullDrop 0).dropped p)
    else
      .next (s.setVoq k { pkts := v.pkts ++ [{ pkt := p, left := 8 + p.len, lost := false }],
                          ages := v.ages ++ List.replicate n s.fab.slot }).noteLow

/-- The age of the oldest head cell among the VOQs of a pair, with the VOQ: none when they are empty. -/
def State.oldest (s : State) (i e : Nat) : Option (Nat × Nat) :=
  (s.fab.voq.filter (fun x => decide (x.1 / 32 = i * 64 + e))).foldl
    (fun a x => match x.2.ages, a with
      | [], _ => a
      | g :: _, none => some (g, x.1)
      | g :: _, some (h, k) => if g < h then some (g, x.1) else some (h, k)) none

/-- The oldest of a list of (port, age), ties by round robin from a pointer over 48 ports. -/
def oldestFrom (ptr : Nat) (l : List (Nat × Nat)) : Option Nat :=
  (l.foldl (fun (a : Option (Nat × Nat)) x =>
    match a with
    | none => some x
    | some y => if x.2 < y.2 ∨ (x.2 = y.2 ∧ (x.1 + 48 - ptr) % 48 < (y.1 + 48 - ptr) % 48) then some x else some y) none).map (·.1)

/-- The arbiter's rounds (R200): matched pairs and the pointers. -/
def arbRound (req : List (Nat × Nat × Nat)) (first : Bool) (m : List (Nat × Nat)) (gp ap : Table Nat) : List (Nat × Nat) × Table Nat × Table Nat :=
  let free := req.filter (fun r => !(m.any (fun x => decide (x.1 = r.1) || decide (x.2 = r.2.1))))
  let grants := (List.range 48).filterMap (fun e =>
    (oldestFrom (Tbl.find gp e 0) ((free.filter (fun r => decide (r.2.1 = e))).map (fun r => (r.1, r.2.2)))).map (fun i => (i, e)))
  let age := fun (i e : Nat) => ((free.find? (fun r => decide (r.1 = i) && decide (r.2.1 = e))).map (fun r => r.2.2)).getD 0
  let acc := (List.range 48).filterMap (fun i =>
    (oldestFrom (Tbl.find ap i 0) ((grants.filter (fun g => decide (g.1 = i))).map (fun g => (g.2, age i g.2)))).map (fun e => (i, e)))
  if first then (m ++ acc, acc.foldl (fun t x => Tbl.put t x.2 0 ((x.1 + 1) % 48)) gp, acc.foldl (fun t x => Tbl.put t x.1 0 ((x.2 + 1) % 48)) ap)
  else (m ++ acc, gp, ap)

/-- Takes n bytes from the front of a VOQ's packets: what remains, and the packets that have crossed whole. -/
def takeBytes (lost : Bool) : Nat → List VPkt → List VPkt × List VPkt
  | _, [] => ([], [])
  | n, p :: r =>
    if n = 0 then (p :: r, [])
    else if p.left ≤ n then
      let (a, b) := takeBytes lost (n - p.left) r
      (a, { p with left := 0, lost := p.lost || lost } :: b)
    else ({ p with left := p.left - n, lost := p.lost || lost } :: r, [])

/-- A packet reaches its egress port. -/
def State.arrive (s : State) (p : Pkt) : State :=
  { s with fab := { s.fab with arrived := Tbl.put s.fab.arrived p.dest [] (Tbl.find s.fab.arrived p.dest [] ++ [p]) } }

/-- A cell of input i is sent again (R202). -/
def State.xbarRetry (s : State) (i : Nat) : State :=
  let s := (s.count Cn.xbarRetry i).setFld F.fabXbarErr_retries (min 0xFFFF (s.fld F.fabXbarErr_retries + 1))
  let l := s.fab.retries.filter (fun t => decide (s.sup.tick < t + 625000000)) ++ [s.sup.tick]
  if l.length = 256 then ({ s with fab := { s.fab with retries := [] } }).post 0x0E0A [] else { s with fab := { s.fab with retries := l } }

/-- One matched pair moves the oldest head cell of its VOQs; lost: the cell lies in a retired bank (R215). -/
def State.crossCell (s : State) (i e : Nat) (lost : Bool) : State :=
  match s.oldest i e with
  | none => s
  | some (_, k) =>
    let v := s.voqOf k
    let bad := lost && decide (s.fld F.fabSts_banks_retired ≠ 0)
    let (rest, done) := takeBytes bad 240 v.pkts
    let s := (s.setVoq k { pkts := rest, ages := v.ages.tail }).count Cn.fabCells i
    done.foldl (fun (t : State) p => if p.lost then (t.count Cn.fabRetireDrop 0).dropped p.pkt else t.arrive p.pkt) s

/-- CELL_SLOT (R200, R202): the arbiter matches inputs to outputs in three rounds and every matched pair moves one cell. retry names the
inputs whose cell fails its CRC, lost those whose cell lies in a retired bank. -/
def execCellSlot (s : State) (retry lost : List (BitVec 6)) : Host.Outcome State Fault Refusal :=
  let req := (List.range 48).flatMap (fun i => (List.range 48).filterMap (fun e => (s.oldest i e).map (fun a => (i, e, a.1))))
  let (m, gp, ap) := arbRound req true [] s.fab.gptr s.fab.aptr
  let (m, gp, ap) := arbRound req false m gp ap
  let (m, gp, ap) := arbRound req false m gp ap
  let s := { s with fab := { s.fab with slot := s.fab.slot + 1, gptr := gp, aptr := ap } }
  .next (m.foldl (fun (t : State) x =>
    if retry.any (fun r => decide (r.toNat = x.1)) then t.xbarRetry x.1
    else t.crossCell x.1 x.2 (lost.any (fun r => decide (r.toNat = x.1)))) s)

/-! ### Admission -/

/-- Cells a class holds in egress queues, guarantee and headroom included (FAB_CLASS_USE), and without headroom. -/
def State.classUse (s : State) (c : Nat) : Nat := sumOf (fun q => if q.pkt.cls % 8 = c then q.cells else 0) s.queued
def State.classOwn (s : State) (c : Nat) : Nat := sumOf (fun q => if q.pkt.cls % 8 = c ∧ q.room.isNone then q.cells else 0) s.queued

/-- The egress shared area as R203 computes it, less retired banks (R215). -/
def State.sharedInt (s : State) : Int :=
  let b := s.rig.run.buf
  (786432 : Int) - b.ingress - b.msgS - 8 * b.msgL - (b.headroom * ((List.range 16).filter s.uplinkBound).length : Nat) -
    (b.guar.foldl (· + ·) 0 : Nat) - (4096 * s.fld F.fabSts_banks_retired : Nat)

/-- The guarantee of a class: what retired banks take beyond the shared area comes from guar[0], then guar[1] and so on (R215). -/
def State.guar (s : State) (c : Nat) : Nat :=
  let lack := (-s.sharedInt).toNat
  let before := ((s.rig.run.buf.guar).take c).foldl (· + ·) 0
  let g := s.rig.run.buf.guar.getD c 0
  g - (lack - before)

/-- Free cells of the shared area (FAB_SHARED). -/
def State.sharedFree (s : State) : Nat :=
  s.sharedInt.toNat - sumOf (fun c => s.classOwn c - s.guar c) (List.range 8) - s.stagingCells

/-- Free headroom cells of uplink group u. -/
def State.headroomFree (s : State) (u : Nat) : Nat :=
  s.rig.run.buf.headroom - sumOf (fun q => if q.room = some u then q.cells else 0) s.queued

/-- A queue is spilled (R206): bytes of it lie in DRAM or in its staging. -/
def EgQ.spilled (x : EgQ) : Bool := decide (x.d < x.tail)

/-- Cells of a queue's on-die part, staging apart. -/
def EgQ.dieCells (x : EgQ) : Nat := cdiv x.d 256 - x.head / 256

/-- The tail packet that push-out may take from a queue (R204). -/
def EgQ.evictable (x : EgQ) : Option QPkt :=
  if x.spilled then none
  else match x.pkts.getLast? with
    | some q => if q.room.isNone then some q else none
    | none => none

/-- The queue whose tail packet is the victim for class k (R204): most cells, ties to the lowest queue. -/
def State.victimIn (s : State) (k : Nat) : Option Nat :=
  (s.fab.q.foldl (fun (a : Option (Nat × Nat)) x =>
    match x.2.evictable with
    | none => a
    | some q =>
      if q.pkt.cls % 8 = k then
        (match a with
         | none => some (x.1, x.2.dieCells)
         | some (n, m) => if x.2.dieCells > m then some (x.1, x.2.dieCells) else some (n, m))
      else a) none).map (·.1)

/-- victim(c) of R204. -/
def State.victim (s : State) (c : Nat) : Option Nat :=
  (List.range c).findSome? (fun k => if s.classUse k > s.guar k then s.victimIn k else none)

/-- Gives a queue a new list of packets and a new end of its on-die stream; an empty queue starts its stream anew. -/
def State.setStream (s : State) (q : Nat) (pkts : List QPkt) (tail : Nat) : State :=
  if pkts = [] then s.setQ q egQ0 else s.setQ q { s.qOf q with pkts := pkts, d := tail, e := tail, tail := tail }

/-- Evicts the tail packet of a queue (R204). -/
def State.evict (s : State) (q : Nat) : State :=
  let x := s.qOf q
  match x.pkts.getLast? with
  | none => s
  | some p => (((s.setStream q x.pkts.dropLast p.start).countN Cn.pushout 0 (p.pkt.cls % 8) 1).dropped p.pkt).pfcOfPkt p.pkt false

/-- Evicts lower classes while the shared area lacks n cells, with at most the given number of evictions. -/
def State.makeRoom (s : State) (c n : Nat) : Nat → State
  | 0 => s
  | fuel + 1 =>
    if n ≤ s.sharedFree then s
    else match s.victim c with
      | none => s
      | some q => (s.evict q).makeRoom c n fuel

/-- Takes n cells for class c from its guarantee or the shared area (R204): the state after push-outs, and whether they are there. -/
def State.grab (s : State) (c n : Nat) : State × Bool :=
  if s.classUse c + n ≤ s.guar c then (s, true)
  else if s.classUse c + n ≤ s.rig.run.buf.cap.getD c 0 then
    let t := s.makeRoom c n s.queued.length
    (t, decide (n ≤ t.sharedFree))
  else (s, false)

/-- New cells that a packet adds to a queue's on-die stream. -/
def EgQ.newCells (x : EgQ) (size : Nat) : Nat := cdiv (x.tail + size) 256 - cdiv x.tail 256

/-- Appends an admitted packet to an on-die queue. -/
def State.append (s : State) (q : Nat) (p : Pkt) (room : Option Nat) : State :=
  let x := s.qOf q
  let size := p.len + 8
  let k : QPkt := { pkt := p, start := x.tail, size := size, cells := x.newCells size, room := room, settle := s.nowNs }
  (((s.setQ q { x with pkts := x.pkts ++ [k], d := x.tail + size, e := x.tail + size, tail := x.tail + size }).noteDepth q).pfcOfPkt p room.isSome)

/-- SPILL_ADMIT (R207): r is the state as the packet's epoch rigs it. -/
def State.spillAdmit (s r : State) (q : Nat) (p : Pkt) : State :=
  let x := s.qOf q
  let size := p.len + 8
  if x.e - x.d + size > r.fld F.fabSpillCap_cap * 131072 then (s.count Cn.spillCapDrop p.dest).dropped p
  else
    let n := cdiv (x.tail - x.e + size) 256 - cdiv (x.tail - x.e) 256
    let t := s.makeRoom (p.cls % 8) n s.queued.length
    if n ≤ t.sharedFree then
      let x := t.qOf q
      let k : QPkt := { pkt := p, start := x.tail, size := size, cells := 0, room := none, settle := t.nowNs }
      (t.setQ q { x with pkts := x.pkts ++ [k], tail := x.tail + size }).noteDepth q
    else (t.countN Cn.admitDrop 0 (p.cls % 8) 1).dropped p

/-- Admission of R204 for a packet and its queue. -/
def State.admitPkt (s r : State) (q : Nat) (p : Pkt) : State :=
  let x := s.qOf q
  let c := p.cls % 8
  let n := x.newCells (p.len + 8)
  if x.spilled || (decide (q < 0x40000) && decide (x.dieCells + n > r.fld F.fabSpillCfg_spill_thr)) then s.spillAdmit r q p
  else
    match s.grab c n with
    | (t, true) => t.append q p none
    | (t, false) =>
      let u := (p.src - 256) / 8
      if p.host = false ∧ 256 ≤ p.src ∧ p.src < 384 ∧ t.pfcEn (p.src - 256) c = true ∧ n ≤ t.headroomFree u then t.append q p (some u)
      else (t.countN Cn.admitDrop 0 c 1).dropped p

/-- The queue a packet is assigned (R224), or the state in which it was dropped. -/
def State.assignQueue (s r : State) (p : Pkt) : Except State Nat :=
  if p.dest < 256 then
    if p.flow = noFlow then .error ((s.count Cn.shtNoFlow p.dest).dropped p)
    else if ndValid (r.node (nodeName 3 p.flow)) = false then .error ((s.count Cn.shtNoNode p.dest).dropped p)
    else
      match r.flowPath p.flow with
      | some (c :: _) => if c = nodeName 0 p.dest then .ok p.flow else .error ((s.count Cn.shtFlowMismatch p.dest).dropped p)
      | _ => .error ((s.count Cn.shtFlowMismatch p.dest).dropped p)
  else
    let n := p.dest - 256
    let i := 8 * n + p.cls % 8
    if s.gateOversize n (p.cls % 8) p then .error ((s.oversize i).dropped p) else .ok (cqName i)

/-- The conditions of R208 for a packet and its queue; the port is UP and its class is not paused. -/
def State.cutThrough (s r : State) (q : Nat) (p : Pkt) : Bool :=
  let x := s.qOf q
  decide (x.pkts = []) && decide ((s.portOf p.dest).st = 0) &&
  (if p.dest < 256 then
     r.flag F.fabCtCfg_ct_pon && s.edgeOpen p.dest && ((r.flowPath p.flow).getD []).all s.nodeReady
   else
     let n := p.dest - 256
     let c := p.cls % 8
     r.flag F.fabCtCfg_ct_ulk && s.gateAlways n c && (s.inFlight n).isNone && !(s.pfcOf (8 * n + c)).paused && !p.host && decide (256 ≤ p.src) &&
       decide (s.portRate (n / 8) ≤ s.portRate ((p.src - 256) / 8)))

/-- A cut-through packet leaves at once (R208, R209): bad says that it is found bad after its first byte left. -/
def State.sendThrough (s : State) (q : Nat) (p : Pkt) (bad : Bool) : State :=
  let path := if q < 0x40000 then (s.flowPath q).getD [] else classPath (q - 0x40000)
  let l := if p.dest < 256 then p.len else s.macLen (p.dest - 256) p
  if p.dest < 256 then
    if bad then (s.count Cn.fabCtDrop p.dest).dropped p
    else (((path.foldl (fun (t : State) k => t.chargeNode l k) s).countTx q p.len).noteSojourn q s.nowNs).toEdge p.dest p
  else
    let t := ((path.foldl (fun (t : State) k => t.chargeNode l k) s).countTx q p.len).noteSojourn q s.nowNs
    (if bad then t.count Cn.fabStomp p.dest else t).toMac (p.dest - 256) p bad .clean

/-- A packet at its settle point (R204, R208, R210, R224). -/
def State.settle (s : State) (p : Pkt) (late : Bool) : State :=
  let r := s.asOf p.epoch
  match s.assignQueue r p with
  | .error t => t
  | .ok q =>
    if (s.portOf p.dest).st = 2 then (s.count Cn.portDownDrop p.dest).dropped p
    else if s.cutThrough r q p then s.sendThrough q p (late || p.bad)
    else if p.bad then s.dropped p
    else s.admitPkt r q p

/-- EGRESS_ENQUEUE (R204): the oldest packet that waits at an egress port is assigned its queue and admitted, spilled, sent by cut-through
or dropped. late: a cut-through packet is found bad after its first byte left (R209). -/
def execEgressEnqueue (s : State) (d : PortIx) (late : Bool) : Host.Outcome State Fault Refusal :=
  match Tbl.find s.fab.arrived d.toNat [] with
  | [] => .next s
  | p :: rest => .next (({ s with fab := { s.fab with arrived := Tbl.put s.fab.arrived d.toNat [] rest } }).settle p late).noteLow

/-! ### DRAM -/

/-- The segment size of R207 for a DRAM depth. -/
def segSize (d : Nat) : Nat := if d < 16384 then 2048 else if d < 131072 then 8192 else if d < 1048576 then 32768 else 131072

/-- The last segment of a queue takes n more bytes. -/
def fillLast (n : Nat) (l : List DSeg) : List DSeg :=
  match l.getLast? with
  | some g => l.dropLast ++ [{ g with held := g.held + n, room := g.room - n }]
  | none => l

/-- SPILL_BURST_WRITE (R207): a complete burst of 64 staged bytes of a flow queue goes to its current segment, or a new one is allocated;
while the allocation waits, the write waits. -/
def execSpillBurstWrite (s : State) (f : FlowIx) : Host.Outcome State Fault Refusal :=
  let f := f.toNat
  let x := s.qOf f
  if x.tail - x.e < 64 then .next s
  else if s.fab.waiting.any (fun w => decide (w.agent = spillAgent f)) then .next s
  else
    let s := if (x.segs.getLast?.map (fun g => g.room)).getD 0 < 64 then
        (match s.alloc 2 (segSize (x.e - x.d)) f (spillAgent f) true false with
         | (t, some (k, ptr)) => t.linkSeg f k ptr
         | (t, none) => t)
      else s
    let x := s.qOf f
    if (x.segs.getLast?.map (fun g => g.room)).getD 0 < 64 then .next s
    else .next (s.setQ f { x with segs := fillLast 64 x.segs, e := x.e + 64 })

/-- The staging joins the on-die part once the DRAM part is empty; its cells are then charged to its packets. -/
def State.joinStaging (s : State) (f : Nat) : State :=
  let x := s.qOf f
  if x.e = x.d ∧ x.d < x.tail then
    let y := x.pkts.map (fun q => if x.d < q.start + q.size
      then { q with cells := q.cells + (cdiv (q.start + q.size) 256 - cdiv (max q.start x.d) 256) } else q)
    s.setQ f { x with pkts := y, d := x.tail, e := x.tail }
  else s

/-- The class of the packet that holds byte n of a queue's stream. -/
def EgQ.classAt (x : EgQ) (n : Nat) : Nat :=
  match x.pkts.find? (fun q => decide (q.start ≤ n) && decide (n < q.start + q.size)) with
  | some q => q.pkt.cls % 8
  | none => 0

/-- SPAR_SEG_TAG (R214): the DRAM part is discarded with every packet that has a byte in it; the segment with the wrong tag is not freed. -/
def State.dropDram (s : State) (f : Nat) : State :=
  let x := s.qOf f
  let lost := x.pkts.filter (fun q => decide (q.start < x.e) && decide (x.d < q.start + q.size))
  let die := x.pkts.filter (fun q => decide (q.start + q.size ≤ x.d))
  let stg := x.pkts.filter (fun q => decide (x.e ≤ q.start))
  let base := match die.getLast? with
    | some q => q.start + q.size
    | none => x.head
  let stg := (stg.foldl (fun (a : List QPkt × Nat) q =>
    (a.1 ++ [{ q with start := a.2, cells := cdiv (a.2 + q.size) 256 - cdiv a.2 256 }], a.2 + q.size)) ([], base))
  let s := x.segs.tail.foldl (fun (t : State) g => t.freeBuf (spillAgent f) g.pool g.ptr false) s
  let s := if die ++ stg.1 = [] then s.setQ f egQ0
    else s.setQ f { pkts := die ++ stg.1, head := x.head, d := stg.2, e := stg.2, tail := stg.2, segs := [] }
  (lost.foldl (fun (t : State) q => (t.count Cn.sparSegTag 0).dropped q.pkt) s).post 0x0E06 [f]

/-- REFILL (R207): bytes of the DRAM part are read into the next cell of the on-die part while it holds fewer than refill_thr cells or lacks
bytes of its head packet. tagBad: the tag is poisoned; poison: the bytes are (R321). -/
def execRefill (s : State) (f : FlowIx) (tagBad poison : Bool) : Host.Outcome State Fault Refusal :=
  let f := f.toNat
  let x := s.qOf f
  match x.segs with
  | [] => .next (s.joinStaging f)
  | g :: rest =>
    let headWhole := match x.pkts.head? with | some q => decide (q.start + q.size ≤ x.d) | none => true
    if x.dieCells ≥ s.fld F.fabSpillCfg_refill_thr ∧ headWhole = true then .next s
    else if tagBad ∨ Tbl.find s.fab.tags (g.pool * 2 ^ 48 + g.ptr) (0, 0) ≠ (f, g.count) then .next (s.dropDram f)
    else
      let k := min (min (256 - x.d % 256) g.held) (x.e - x.d)
      let need := if x.d % 256 = 0 then 1 else 0
      match s.grab (x.classAt x.d) need with
      | (t, false) => .next t
      | (t, true) =>
        let x := t.qOf f
        let pk : List QPkt := x.pkts.map (fun q =>
          if q.start < x.d + k ∧ x.d < q.start + q.size then
            { q with cells := q.cells + (if need = 1 ∧ q.start ≤ x.d then 1 else 0), pkt := { q.pkt with poison := q.pkt.poison || poison } }
          else q)
        let g : DSeg := { g with held := g.held - k }
        let x : EgQ := { x with pkts := pk, d := x.d + k, segs := g :: rest }
        let t : State := t.setQ f x
        if g.held = 0 ∧ (g.room < 64 ∨ x.e = x.d) then
          .next (((t.setQ f { x with segs := rest }).freeBuf (spillAgent f) g.pool g.ptr false).joinStaging f)
        else .next (t.joinStaging f)

/-! ### Ports that go down -/

/-- Empties an egress queue: its segments are freed and its packets dropped; the answer counts them. -/
def State.flushQueue (s : State) (q : Nat) : State × Nat :=
  let x := s.qOf q
  let s := x.segs.foldl (fun (t : State) g => t.freeBuf (spillAgent q) g.pool g.ptr false) (s.setQ q egQ0)
  (x.pkts.foldl (fun (t : State) p => (t.dropped p.pkt).pfcOfPkt p.pkt false) s, x.pkts.length)

/-- The egress queues that hold packets for a port. -/
def State.queuesOf (s : State) (d : Nat) : List Nat := (s.fab.q.filter (fun x => x.2.pkts.any (fun q => decide (q.pkt.dest = d)))).map (·.1)

/-- Flushes every packet queued for a port, spilled bytes and a channel's edge buffer included (R210): the number of packets. -/
def State.flushPort (s : State) (d : Nat) : State × Nat :=
  let (s, n) := (s.queuesOf d).foldl (fun (a : State × Nat) q => (let (t, k) := a.1.flushQueue q; (t, a.2 + k))) (s, 0)
  if d < 256 then
    let e := (s.dsOf d).edge
    ((e.foldl (fun (t : State) p => t.dropped p) s).setDs d { s.dsOf d with edge := [] }, n + e.length)
  else (s, n)

/-- A port goes DOWN at once and is flushed (R210, R58, R65): a retired channel's packets count as ds_retired_discard, others as discarded
by the change of their region. -/
def State.portDownNow (s : State) (d : Nat) : State :=
  let (t, n) := (s.setPort d { s.portOf d with st := 2 }).flushPort d
  if d < 256 ∧ t.ch d = chRetired then t.countN Cn.dsRetiredDiscard d 0 n
  else { t with sup := { t.sup with rerigDiscard := t.sup.rerigDiscard + n } }

/-- A channel of a port that is fed by the core enters FAULT (R65); a channel that retires goes DOWN and is flushed at once, without a hold
(R210), and its dynamic entries are removed (R192). -/
def State.faultPort (s : State) (c : Nat) : State :=
  let t := s.faultCh c
  if t.ch c = chRetired then (t.portDownNow c).fwdPortRetired c else t

/-- A channel enters STANDBY (R303): it stops framing, and its port goes DOWN at once without a hold; the packets flushed count as
fab_hold_flush. -/
def State.standBy (s : State) (c : Nat) : State :=
  let t := (s.stopFraming c).setDs c { (s.stopFraming c).dsOf c with readyTimer := false, retryOk := false }
  let (t, n) := ((t.moveCh c chStandby).setPort c { s.portOf c with st := 2 }).flushPort c
  t.countN Cn.fabHoldFlush c 0 n

/-- The LAGs of which uplink port n is a member. -/
def State.lagsOf (s : State) (n : Nat) : List Nat := (List.range 64).filter (fun l => (s.lagMembers l).contains n)

/-- Uplink port n went down (R173): each of its LAGs steers its slots to others and reports; a LAG with no member up reports once. -/
def State.lagLoss (s : State) (n : Nat) : State :=
  (s.lagsOf n).foldl (fun (t : State) l =>
    let t := t.post 0x0C03 [l, n]
    let t := { t with prs := { t.prs with ret := t.prs.ret.erase (l, n) },
                      fab := { t.fab with marks := t.fab.marks.filter (fun m => !(decide (m.1 = l) && decide (m.2.1 = n))) } }
    if ((t.lagMembers l).any t.linkIsUp) || t.prs.down.contains l then t
    else ({ t with prs := { t.prs with down := t.prs.down ++ [l] } }).post 0x0C05 [l]) s

/-- Uplink port n came back (R173): a return marker stands behind the packets queued in every class of every other member that is up. -/
def State.lagBack (s : State) (n : Nat) : State :=
  (s.lagsOf n).foldl (fun (t : State) l =>
    let qs := ((t.lagMembers l).filter (fun m => decide (m ≠ n) && t.linkIsUp m)).flatMap (fun m => (List.range 8).map (fun c => cqName (8 * m + c)))
    { t with prs := { t.prs with ret := t.prs.ret.filter (fun x => decide (x ≠ (l, n))) ++ [(l, n)], down := t.prs.down.erase l },
             fab := { t.fab with marks := t.fab.marks ++ qs.map (fun q => (l, n, q, (t.qOf q).pkts.map (fun k => k.pkt.num))) } }) s

/-- PORT_LINK_LOSS (R210): the MAC of an uplink port reports link loss, or a channel has left RUNNING for OFF or FAULT. -/
def execPortLinkLoss (s : State) (p : PortIx) : Host.Outcome State Fault Refusal :=
  let d := p.toNat
  if d < 256 ∧ ¬ (s.ch d = chOff ∨ s.ch d = chFault) then .next s
  else if 384 ≤ d then .next s
  else
    let s := if 256 ≤ d ∧ s.linkIsUp (d - 256) = true then (s.setLink (d - 256) false).lagLoss (d - 256) else s
    if (s.portOf d).st = 0 then .next ((s.setPort d { st := 1, since := s.sup.tick, holdMs := s.fld F.fabHold_hold_ms }).post 0x0E01 [d])
    else .next s

/-- PORT_LINK_UP (R210): the port is up again. -/
def execPortLinkUp (s : State) (p : PortIx) : Host.Outcome State Fault Refusal :=
  let d := p.toNat
  if (d < 256 ∧ s.ch d ≠ chRunning) ∨ 384 ≤ d then .next s
  else
    let s := if 256 ≤ d ∧ s.linkIsUp (d - 256) = false then (s.setLink (d - 256) true).lagBack (d - 256) else s
    if (s.portOf d).st = 1 then .next ((s.setPort d port0).post 0x0E02 [d])
    else .next (s.setPort d port0)

/-- LAG_RETURN (R173): every return marker of a returning member has left its port; the slots return. -/
def execLagReturn (s : State) (l : BitVec 6) (p : BitVec 7) : Host.Outcome State Fault Refusal :=
  let l := l.toNat
  let n := p.toNat
  let waits := s.fab.marks.any (fun m => decide (m.1 = l) && decide (m.2.1 = n) &&
    (s.qOf m.2.2.1).pkts.any (fun k => m.2.2.2.contains k.pkt.num))
  if s.prs.ret.contains (l, n) ∧ waits = false then
    .next (({ s with prs := { s.prs with ret := s.prs.ret.filter (fun x => decide (x ≠ (l, n))) },
                     fab := { s.fab with marks := s.fab.marks.filter (fun m => !(decide (m.1 = l) && decide (m.2.1 = n))) } }).post 0x0C04 [l, n])
  else .next s

/-- PORT_HOLD_TIMEOUT (R210): the hold timer ends; the port's packets are flushed and its dynamic entries follow R192. -/
def execPortHoldTimeout (s : State) (p : PortIx) : Host.Outcome State Fault Refusal :=
  let d := p.toNat
  if (s.portOf d).st = 1 then
    let (t, n) := (s.setPort d { s.portOf d with st := 2 }).flushPort d
    .next (((t.countN Cn.fabHoldFlush d 0 n).post 0x0E03 [d, n]).fwdPortDown d)
  else .next s

/-- Retires an on-die buffer bank (R215): its registers; the shared area follows them. -/
def State.retireBank (s : State) (b : Nat) : State :=
  let f := F.fabBankRet_banks (b / 32)
  if s.fld f / 2 ^ (b % 32) % 2 = 1 then s
  else (s.setFld f (s.fld f + 2 ^ (b % 32))).setFld F.fabSts_banks_retired (s.fld F.fabSts_banks_retired + 1)

/-- A repaired bank returns its cells to the shared area (R382). -/
def State.unretireBank (s : State) (b : Nat) : State :=
  let f := F.fabBankRet_banks (b / 32)
  if s.fld f / 2 ^ (b % 32) % 2 = 1 then
    (s.setFld f (s.fld f - 2 ^ (b % 32))).setFld F.fabSts_banks_retired (s.fld F.fabSts_banks_retired - 1)
  else s

end Sys2Proof.Machine
end

