-- ==== Sys2Proof/Machine/Halyard.lean ====
section
/-! DEFINITION. Halyard (06_halyard_grants.md): building a map, the checker, verdicts, builders and their spares, status reports, telltale
frames and the Alloc window. -/

namespace Sys2Proof.Machine

/-! ### Bursts and free segments -/

/-- Length of a burst in map units (R137): its FEC is always on in 50G-PON (R87). -/
def burstLen (mode unit pre : Nat) (fec ploam : Bool) (units : Nat) : Nat :=
  let n := 8 + (if ploam then 48 else 0) + units * unit
  let coded := if mode ≠ 2 then n + 336 * cdiv n 1824 else if fec then n + 32 * cdiv n 216 else n
  cdiv (pre + 8 + coded) unit

/-- The profile in a slot of a snapshot. -/
def Snap.prof (n : Snap) (p : Nat) : BProf := (n.profs.find? (fun x => decide (x.slot = p))).getD { slot := p, valid := false, preamble := 0, fec := true }

/-- Length of a burst of a snapshot under profile p. -/
def Snap.len (n : Snap) (p : Nat) (ploam : Bool) (units : Nat) : Nat :=
  burstLen n.mode n.unit (n.prof p).preamble (n.prof p).fec ploam units

/-- Takes units lo to hi - 1 out of the free segments. -/
def cutFree (f : List (Nat × Nat)) (lo hi : Int) : List (Nat × Nat) :=
  f.flatMap (fun x =>
    if hi ≤ x.1 ∨ (x.2 : Int) ≤ lo then [x]
    else (if (x.1 : Int) < lo then [(x.1, lo.toNat)] else []) ++ (if hi < x.2 then [(hi.toNat, x.2)] else []))

/-- The longest free segment. -/
def longest (f : List (Nat × Nat)) : Nat := f.foldl (fun m x => max m (x.2 - x.1)) 0

/-- Ceiling of an integer quotient. -/
def cdivInt (a : Int) (b : Nat) : Int := -((-a) / (b : Int))

/-- The free segments of a snapshot (R139, R145): no burst may meet a reservation even when its arrival is widened by the guard (R147). -/
def Snap.free (n : Snap) : List (Nat × Nat) :=
  n.reserves.foldl (fun f r => cutFree f ((r.1 - n.base) / (n.ut : Int) - n.gu) (cdivInt (r.2 - n.base) n.ut + n.gu)) [(0, n.flen - n.gu)]

/-! ### Sizing (R145) -/

/-- Payload bytes of an entry beside its pinned bursts. -/
def Ent.pay (e : Ent) : Nat := e.fixed + e.asg + e.other

/-- Map units of an entry's allocation (R135). -/
def Ent.units (unit : Nat) (e : Ent) : Nat := cdiv (e.pay + (if alDbru e.ws then 4 else 0)) unit

/-- The entry takes part in the layout. -/
def Ent.used (e : Ent) : Bool := decide (0 < e.pay) || e.poll

/-- Demand of an Alloc (R144). -/
def AllocDyn.demand (d : AllocDyn) : Nat := d.b - d.granted.foldl (fun n x => n + x.2) 0

/-- The fixed and assured passes for one Alloc. -/
def sizeEnt (n : Snap) (d : AllocDyn) (pinned : Nat) (onuId : Nat) (x : Nat × List Nat) : Ent :=
  let d := d.accrue x.2 n.ac
  let fx := if alRf x.2 ≠ 0 ∧ n.sfc % max 1 (alSi x.2) = 0 then d.fo else 0
  let dd : Int := (d.demand : Int) - fx - pinned
  { ix := x.1, ws := x.2, onu := alOnu x.2, onuId := onuId, d := dd, ca := d.ca, cm := d.cm, fixed := fx, pinned := pinned,
    asg := if alRa x.2 = 0 then 0 else min dd.toNat (min d.ca (d.cm - fx - pinned)), other := 0,
    poll := alDbru x.2 && decide (d.lastPoll ≥ n.poll) }

/-- Service beyond assured (R141): 1 non-assured, 2 best effort, 0 none. -/
def beyond (ws : List Nat) : Nat :=
  if alType ws = 3 ∨ (alType ws = 5 ∧ alXab ws = 1) then 1 else if alType ws = 4 ∨ (alType ws = 5 ∧ alXab ws = 2) then 2 else 0

/-- What an entry still wants of the shared bytes. -/
def Ent.want (e : Ent) : Nat := min (e.d - e.asg - e.other).toNat (e.cm - e.pay - e.pinned)

/-- One of the three rounds at a priority: the entries and the pool after it. -/
def shareRound (unit cls prio : Nat) (l : List Ent) (pool : Nat) : List Ent × Nat :=
  let sel := fun (e : Ent) => decide (beyond e.ws = cls) && decide (alPrio e.ws = prio) && decide (0 < e.want)
  let tw := l.foldl (fun n e => if sel e then n + alWeight e.ws else n) 0
  let give := fun (e : Ent) => if sel e then min e.want (pool * alWeight e.ws / tw / unit * unit) else 0
  (l.map (fun e => { e with other := e.other + give e }), pool - l.foldl (fun n e => n + give e) 0)

/-- The share procedure for a class (R145). -/
def shareAll (unit cls : Nat) (l : List Ent) (pool : Nat) : List Ent × Nat :=
  [7, 6, 5, 4, 3, 2, 1, 0].foldl (fun a p =>
    let a := shareRound unit cls p a.1 a.2
    let a := shareRound unit cls p a.1 a.2
    shareRound unit cls p a.1 a.2) (l, pool)

/-- Inserts into a list sorted by a key, after equal keys. -/
def insBy {α : Type} (k : α → Nat) (x : α) : List α → List α
  | [] => [x]
  | y :: r => if k x < k y then x :: y :: r else y :: insBy k x r

/-- Sorts by a key, keeping the order of equal keys. -/
def sortBy {α : Type} (k : α → Nat) (l : List α) : List α := l.foldl (fun a x => insBy k x a) []

/-- The ONUs of a list of entries, ascending by ONU-ID: context and ONU-ID. -/
def entOnus (l : List Ent) : List (Nat × Nat) := sortBy (·.2) (l.map (fun e => (e.onu, e.onuId))).eraseDups

/-- Overhead of an ONU (R145): a burst without payload under the profile of its first Alloc, and the guard, in units. -/
def overhead (n : Snap) (l : List Ent) (onu : Nat) : Nat :=
  match l.find? (fun e => decide (e.onu = onu)) with
  | some e => n.len (alProfile e.ws) (n.due.contains onu) 0 + n.gu
  | none => 0

/-- The non-assured and best-effort passes, and the polls that remain: only an Alloc without a grant is polled. -/
def shareBoth (n : Snap) (free : List (Nat × Nat)) (l : List Ent) : List Ent :=
  let granted := (entOnus (l.filter (fun e => decide (0 < e.fixed + e.asg)))).map (·.1)
  let pool : Int := ((free.foldl (fun k x => k + (x.2 - x.1)) 0 * n.unit : Nat) : Int) -
    ((granted.foldl (fun k o => k + overhead n l o) 0 * n.unit : Nat) : Int) - ((l.foldl (fun k e => k + e.fixed + e.asg) 0 : Nat) : Int)
  let a := shareAll n.unit 1 l pool.toNat
  let b := shareAll n.unit 2 a.1 a.2
  b.1.map (fun e => { e with poll := e.poll && decide (e.pay = 0) && decide (e.pinned = 0) })

/-! ### Layout (R145, R146) -/

/-- The greatest m from lo on and below hi that satisfies ok, where lo does. -/
def bisect (ok : Nat → Bool) : Nat → Nat → Nat → Nat
  | 0, lo, _ => lo
  | k + 1, lo, hi => if hi ≤ lo + 1 then lo else if ok ((lo + hi) / 2) then bisect ok k ((lo + hi) / 2) hi else bisect ok k lo ((lo + hi) / 2)

/-- A grant of cur bytes cut to the most whole units with which the burst fits. -/
def cutGrant (len : Nat → Nat) (big unit cur : Nat) : Nat :=
  if len cur ≤ big then cur
  else if len 0 > big then 0
  else min (bisect (fun m => decide (len (min (m * unit) cur) ≤ big)) 40 0 (cdiv cur unit) * unit) cur

/-- Length of the burst of entries of one ONU. -/
def Snap.entsLen (n : Snap) (es : List Ent) (ploam : Bool) : Nat :=
  match es with
  | [] => 0
  | e :: _ => n.len (alProfile e.ws) ploam (es.foldl (fun k x => k + x.units n.unit) 0)

/-- Reduces one entry's shared bytes (which 0) or assured bytes (which 1) until its burst fits. -/
def reduceOne (n : Snap) (ploam : Bool) (big : Nat) (es : List Ent) (ix which : Nat) : List Ent :=
  let put := fun (v : Nat) => es.map (fun e => if e.ix = ix then (if which = 0 then { e with other := v } else { e with asg := v }) else e)
  match es.find? (fun e => decide (e.ix = ix)) with
  | some e => put (cutGrant (fun v => n.entsLen (put v) ploam) big n.unit (if which = 0 then e.other else e.asg))
  | none => es

/-- The order of reductions: best effort, non-assured, assured, each from the last Alloc. -/
def reductions (es : List Ent) : List (Nat × Nat) :=
  let back := es.reverse
  (back.filter (fun e => decide (beyond e.ws = 2))).map (fun e => (e.ix, 0)) ++
    (back.filter (fun e => decide (beyond e.ws = 1))).map (fun e => (e.ix, 0)) ++ back.map (fun e => (e.ix, 1))

/-- Takes the first free segment of at least L units: its start and the segments left; the guard follows the burst. -/
def takeFree (gu L : Nat) : List (Nat × Nat) → Option (Nat × List (Nat × Nat))
  | [] => none
  | x :: r =>
    if L ≤ x.2 - x.1 then some (x.1, (x.1 + L + gu, x.2) :: r)
    else (takeFree gu L r).map (fun y => (y.1, x :: y.2))

/-- The structures of a burst of entries at a start. -/
def entsOut (n : Snap) (fwi : List Nat) (ploam : Bool) (start : Nat) (es : List Ent) : List MapEnt :=
  let p := match es with
    | e :: _ => alProfile e.ws
    | [] => 0
  es.zipIdx.map (fun x =>
    { alloc := x.1.ix, allocId := alId x.1.ws, onu := x.1.onu, dbru := alDbru x.1.ws, ploam := ploam && decide (x.2 = 0),
      start := if x.2 = 0 then start else 0xFFFF, size := x.1.units n.unit, fwi := decide (x.2 = 0) && fwi.contains x.1.onu, profile := p,
      kind := 0, pay := x.1.pay, fixed := x.1.fixed, asg := x.1.asg })

/-- Lays out the burst of one ONU: the free segments, the bursts so far and the deferred bursts after it. -/
def layOnu (n : Snap) (fwi : List Nat) (l : List Ent) (a : List (Nat × Nat) × List (List MapEnt) × Nat) (o : Nat × Nat) :
    List (Nat × Nat) × List (List MapEnt) × Nat :=
  let mine := l.filter (fun e => decide (e.onu = o.1))
  let ploam := n.due.contains o.1
  let es := mine.filter Ent.used
  let es := if es = [] ∧ ploam = true then mine.take 1 else es
  let big := longest a.1
  let es := (reductions es).foldl (fun es r => if n.entsLen es ploam ≤ big then es else reduceOne n ploam big es r.1 r.2) es
  let kept := es.filter (fun e => decide (0 < e.pay) || alDbru e.ws)
  let kept := if kept = [] ∧ ploam = true then es.take 1 else kept
  if kept = [] then a
  else
    match takeFree n.gu (n.entsLen kept ploam) a.1 with
    | some (st, f) => (f, a.2.1 ++ [entsOut n fwi ploam st kept], a.2.2)
    | none => (a.1, a.2.1, a.2.2 + 1)

/-- Structures that a list of entries would need. -/
def entCount (n : Snap) (l : List Ent) : Nat :=
  (l.filter Ent.used).length +
    ((entOnus l).filter (fun o => n.due.contains o.1 && !(l.any (fun e => decide (e.onu = o.1) && e.used)))).length

/-- Leaves out the grants of a class (R146) in descending ONU-ID order until at most room structures remain. -/
def trimClass (n : Snap) (cls room : Nat) (l : List Ent) : List Ent :=
  (entOnus l).reverse.foldl (fun l o =>
    if entCount n l ≤ room then l
    else l.map (fun e => if e.onu = o.1 ∧ beyond e.ws = cls then { e with other := 0, poll := false } else e)) l

/-- Pass 1 for one telltale reservation (R145, R157): free segments, bursts, Allocs pinned with their bytes, unmet, clipped. cm is the credit
of its Alloc. -/
def pinOne (n : Snap) (fwi : List Nat) (cm : Nat → Nat) (a : List (Nat × Nat) × List (List MapEnt) × Nat × Nat) (t : Tell) :
    List (Nat × Nat) × List (List MapEnt) × Nat × Nat :=
  match n.allocs.find? (fun x => decide (x.1 = t.alloc)) with
  | none => (a.1, a.2.1, a.2.2.1 + 1, a.2.2.2)
  | some x =>
    let onu := alOnu x.2
    let held := fun (k : Nat) => if alDbru x.2 then k + 4 else k
    let len := n.len (alProfile x.2) false (cdiv (held t.size) n.unit)
    let fits := a.1.any (fun s => decide (s.1 ≤ t.start) && decide (t.start + len ≤ s.2))
    let full := decide (3 ≤ (a.2.1.filter (fun b => b.any (fun e => decide (e.onu = onu)))).length)
    if fits = false ∨ full = true then (a.1, a.2.1, a.2.2.1 + 1, a.2.2.2)
    else
      let g := min t.size (cm t.alloc)
      let e : MapEnt := { alloc := t.alloc, allocId := alId x.2, onu := onu, dbru := alDbru x.2, ploam := false, start := t.start,
                          size := cdiv (held g) n.unit, fwi := fwi.contains onu, profile := alProfile x.2, kind := 3, pay := g, fixed := 0, asg := 0 }
      (cutFree a.1 ((t.start : Int) - n.gu) ((t.start + len + n.gu : Nat) : Int), a.2.1 ++ [[e]], a.2.2.1, a.2.2.2 + (if g < t.size then 1 else 0))

/-- The structure of a Ratline plan (R153). -/
def planOut (fwi : List Nat) (p : Plan) : MapEnt :=
  { alloc := 0x20000, allocId := p.allocId, onu := p.onu.getD 0x10000, dbru := false, ploam := true, start := p.start, size := 0,
    fwi := match p.onu with
      | some o => fwi.contains o
      | none => false,
    profile := p.profile, kind := if p.onu.isSome then 2 else 1, pay := 0, fixed := 0, asg := 0 }

/-- The map of a snapshot (R145, R146): structures, telltale bursts placed, unmet, clipped, deferred bursts. dyn is the Allocs' dynamic
state, tells the reservations of the frame. -/
def buildMap (n : Snap) (dyn : Nat → AllocDyn) (fwi : List Nat) (tells : List Tell) : List MapEnt × Nat × Nat × Nat × Nat :=
  let ratl := n.plans.map (fun p => [planOut fwi p])
  let cm := fun (a : Nat) => match n.allocs.find? (fun x => decide (x.1 = a)) with
    | some x => ((dyn a).accrue x.2 n.ac).cm
    | none => 0
  let p1 := (sortBy (·.gate) (sortBy (·.alloc) tells)).foldl (pinOne n fwi cm) (n.free, [], 0, 0)
  let pinned := fun (a : Nat) => p1.2.1.foldl (fun k b => b.foldl (fun k e => if e.alloc = a then k + e.pay else k) k) 0
  let onuId := fun (o : Nat) => ((n.onus.find? (fun x => decide (x.1 = o))).map (·.2)).getD 0
  let l := (n.allocs.filter (fun x => (n.prof (alProfile x.2)).valid)).map (fun x => sizeEnt n (dyn x.1) (pinned x.1) (onuId (alOnu x.2)) x)
  let l := shareBoth n p1.1 l
  let room := 512 - ratl.length - p1.2.1.length
  let l := trimClass n 1 room (trimClass n 2 room l)
  let lay := (entOnus l).foldl (layOnu n fwi l) (p1.1, [], 0)
  let bursts := sortBy (fun (b : List MapEnt) => (b.map (·.start)).headD 0) (ratl ++ p1.2.1 ++ lay.2.1)
  (bursts.flatten, p1.2.1.length, p1.2.2.1, p1.2.2.2, lay.2.2)

/-! ### The checker (R147) -/

/-- The bursts of a map: each structure with StartTime 0xFFFF follows the one before it. -/
def mapBursts (m : List MapEnt) : List (List MapEnt) :=
  (m.foldl (fun (a : List (List MapEnt)) e =>
    if e.start = 0xFFFF then
      match a with
      | b :: r => (e :: b) :: r
      | [] => [[e]]
    else [e] :: a) []).reverse.map List.reverse

/-- A structure is well formed within the snapshot: valid profile, an eligible Alloc of its ONU, or a matching plan. -/
def structOk (n : Snap) (e : MapEnt) : Bool :=
  (n.prof e.profile).valid &&
    (if e.kind = 1 ∨ e.kind = 2 then n.plans.any (fun p => decide (p.allocId = e.allocId) && decide (p.start = e.start) && decide (p.profile = e.profile))
     else n.allocs.any (fun x => decide (alId x.2 = e.allocId) && decide (alOnu x.2 = e.onu)))

/-- A burst is well formed: it has a head, one ONU, PLOAMu on its head only, no Alloc-ID twice. -/
def burstOk (n : Snap) (b : List MapEnt) : Bool :=
  match b with
  | [] => true
  | h :: r => decide (h.start ≠ 0xFFFF) && r.all (fun e => decide (e.onu = h.onu) && !e.ploam) && b.all (structOk n) &&
    decide ((b.map (·.allocId)).eraseDups.length = b.length)

/-- Length of a burst of a map. -/
def Snap.burstUnits (n : Snap) (b : List MapEnt) : Nat :=
  match b with
  | [] => 0
  | h :: _ => n.len h.profile h.ploam (b.foldl (fun k e => k + e.size) 0)

/-- A burst as start and end in units. -/
def Snap.span (n : Snap) (b : List MapEnt) : Nat × Nat := ((b.map (·.start)).headD 0, (b.map (·.start)).headD 0 + n.burstUnits b)

/-- Consecutive spans keep the guard between them. -/
def guarded (gu : Nat) : List (Nat × Nat) → Bool
  | a :: b :: r => decide (a.2 + gu ≤ b.1) && guarded gu (b :: r)
  | _ => true

/-- The arrival of a span widened by the guard meets a reservation. -/
def meets (n : Snap) (x : Nat × Nat) (r : Int × Int) : Bool :=
  let lo := n.base + ((x.1 : Int) - n.gu) * n.ut
  let hi := n.base + ((x.2 : Int) + n.gu) * n.ut
  decide (lo < r.2) && decide (r.1 < hi)

/-- The checker's verdict on an agreed map (R147), before the copies are compared: 0 accepted, or the first rule's reason. -/
def checkMap (n : Snap) (m : List MapEnt) : Nat :=
  let bs := mapBursts m
  let eq := bs.filter (fun b => b.all (fun e => decide (e.kind = 0) || decide (e.kind = 3)))
  let spans := sortBy (·.1) (eq.map n.span)
  let over4 := bs.any (fun b => match b with
    | h :: _ => decide (h.kind ≠ 1) && decide (4 < (bs.filter (fun c => c.head?.map (·.onu) == some h.onu)).length)
    | [] => false)
  if m.length > 512 then 6
  else if bs.all (burstOk n) = false then 6
  else if spans.any (fun x => decide (n.flen - n.gu < x.2)) then 4
  else if over4 then 6
  else if guarded n.gu spans = false then 3
  else if spans.any (fun x => n.reserves.any (meets n x)) then 5
  else 0

/-! ### Builders, checker pairs and slices (R151) -/

/-- The builders of a slice. -/
def State.builders (s : State) (k : Nat) : List Nat :=
  [s.fld (F.halSlice_b0 k), s.fld (F.halSlice_b1 k), s.fld (F.halSlice_b2 k)].filter (· ≠ 0x1F)

/-- Gives a slice its builders. -/
def State.setBuilders (s : State) (k : Nat) (l : List Nat) : State :=
  let t := ((s.setFld (F.halSlice_b0 k) (l.getD 0 0x1F)).setFld (F.halSlice_b1 k) (l.getD 1 0x1F)).setFld (F.halSlice_b2 k) (l.getD 2 0x1F)
  t.setFld (F.halSlice_state k) (if s.fld (F.halSlice_state k) = 2 then 2 else if l.length = 3 then 0 else 1)

/-- Replacements act at the next build start of a slice. -/
def State.actSwaps (s : State) (k : Nat) : State :=
  let l := s.hal.swaps.filter (fun x => decide (x.1 = k))
  let t := { s with hal := { s.hal with swaps := s.hal.swaps.filter (fun x => decide (x.1 ≠ k)) } }
  l.foldl (fun (t : State) x =>
    if x.2.1 = 3 then t.setFld (F.halSlice_chk k) x.2.2 else t.setBuilders k ((t.builders k).set x.2.1 x.2.2)) t

/-- A slice builds no more maps (R151): its channels hold their last maps. -/
def State.loseSlice (s : State) (k : Nat) : State :=
  let t := (s.setFld (F.halSlice_state k) 2).setFld F.halSts_slice_lost (s.fld F.halSts_slice_lost ||| 2 ^ k)
  let t := (List.range 32).foldl (fun (t : State) i => t.setHal (32 * k + i) { t.halOf (32 * k + i) with builds := [] }) t
  t.post 0x0B07 [k]

/-- Spare builders that no slice uses or awaits, and that are not retired. -/
def State.spareBuilders (s : State) : List Nat :=
  [24, 25].filter (fun n => decide (s.fld F.halRet_retired / 2 ^ n % 2 = 0) && !((List.range 8).any (fun k => (s.builders k).contains n)) &&
    !(s.hal.swaps.any (fun x => decide (x.2.1 ≠ 3) && decide (x.2.2 = n))))

/-- The structural part of a builder's retirement (R151) with its event. -/
def State.retireBuilder (s : State) (n : Nat) : State :=
  let s := (List.range 8).foldl (fun (t : State) k => t.actSwaps k) s
  let s := s.setFld F.halRet_retired (s.fld F.halRet_retired ||| 2 ^ n)
  let s := s.setFld F.halSts_spare_bld s.spareBuilders.length
  match (List.range 8).find? (fun k => (s.builders k).contains n) with
  | none => s.post 0x0B05 [n]
  | some k =>
    let l := s.builders k
    let i := l.findIdx (· = n)
    if s.fld (F.halSlice_state k) = 2 then s.setBuilders k (l.filter (· ≠ n))
    else
      match s.spareBuilders with
      | sp :: r =>
        let t := { s with hal := { s.hal with swaps := s.hal.swaps ++ [(k, i, sp)] } }
        (t.setFld F.halSts_spare_bld r.length).post 0x0B05 [n]
      | [] =>
        if l.length = 3 then (s.setBuilders k (l.filter (· ≠ n))).post 0x0B05 [n]
        else (s.setBuilders k (l.filter (· ≠ n))).loseSlice k

/-- The structural part of a checker pair's retirement (R151) with its event. -/
def State.retireChecker (s : State) (n : Nat) : State :=
  let s := (List.range 8).foldl (fun (t : State) k => t.actSwaps k) s
  let s := s.setFld F.halCret_retired (s.fld F.halCret_retired ||| 2 ^ n)
  match (List.range 8).find? (fun k => decide (s.fld (F.halSlice_chk k) = n) && decide (s.fld (F.halSlice_state k) ≠ 2)) with
  | none => (if n = 8 then s.setFld F.halSts_spare_chk 0 else s).post 0x0B06 [n]
  | some k =>
    if s.flag F.halSts_spare_chk then
      (({ s with hal := { s.hal with swaps := s.hal.swaps ++ [(k, 3, 8)] } }).setFld F.halSts_spare_chk 0).post 0x0B06 [n]
    else s.loseSlice k

/-- An un-retired builder (R382) joins the free spares; a slice on two builders takes it back. -/
def State.unretireBuilder (s : State) (n : Nat) : State :=
  let s := s.setFld F.halRet_retired (s.fld F.halRet_retired &&& (0x3FFFFFF - 2 ^ n))
  match (List.range 8).find? (fun k => decide (s.fld (F.halSlice_state k) = 1)) with
  | some k => s.setBuilders k (s.builders k ++ [n])
  | none => s.setFld F.halSts_spare_bld (min 2 (s.fld F.halSts_spare_bld + 1))

/-- An un-retired checker pair joins the free spares. -/
def State.unretireChecker (s : State) (n : Nat) : State :=
  (s.setFld F.halCret_retired (s.fld F.halCret_retired &&& (0x1FF - 2 ^ n))).setFld F.halSts_spare_chk 1

/-- Faults that a disagreement counts (R149): the minority builder; with two builders left, both. -/
def State.builderFaults (s : State) (c n : Nat) : State :=
  let l := s.builders (c / 32)
  let who := if l.length = 3 then (if l.contains n then [n] else []) else l
  who.foldl (fun (t : State) b =>
    let (t, perm) := (t.count Cn.bldFault 0).ladder 5 b
    if perm then t.recordRetire 5 b else t) s

/-- A fault of a slice's checker pair (R149). -/
def State.checkerFault (s : State) (c : Nat) : State :=
  let n := s.fld (F.halSlice_chk (c / 32))
  let (t, perm) := (s.count Cn.chkFault 0).ladder 6 n
  if perm then t.recordRetire 6 n else t

/-! ### Build start (R133, R145, R153) -/

/-- Nominal response and calibration of a channel, and its equalisation point, in ticks (R115). -/
def State.ratBase (s : State) (c : Nat) : Int := (s.fld (F.pchRatResp_resp c) : Int) + signed 32 (s.fld (F.pchRatCal_cal c))

/-- The snapshot of a build of frame f, without its plans. -/
def State.snapOf (s : State) (c f : Nat) : Snap :=
  let mode := s.fld (F.pchMode_mode c)
  let rate := s.fld (F.pchMode_us_rate c)
  let h := s.halOf c
  let al := s.activeAllocs c
  let onus := (al.map (fun x => alOnu x.2)).eraseDups
  { chan := c, sfc := f, epoch := s.epoch, mode := mode, unit := mapUnit mode, ut := unitTicks mode rate, flen := frameUnits mode rate,
    gu := cdiv (s.fld (F.halChCfg_guard_bits c)) (mapUnit mode * 8),
    base := (f * ticksPerFrame : Nat) + s.ratBase c + s.fld (F.pchRatTeqd_teqd c),
    profs := (List.range 4).map (fun p => { slot := p, valid := s.flag (F.halBpCtl_valid c p), preamble := s.fld (F.halBpCtl_preamble c p),
                                            fec := s.flag (F.halBpCtl_fec c p) }),
    allocs := al, onus := onus.map (fun o => (o, (s.onuOf o).onuIdNow)),
    reserves := (s.hal.reserves.filter (fun r => decide (r.chan = c))).map (fun r => (r.lo, r.hi)), plans := [], planRes := [],
    due := onus.filter (fun o => h.ploamuReq.contains o || decide (Tbl.find h.ploamuAge o 255 + 1 ≥ s.fld (F.halChCfg_ploamu_frames c))),
    ac := s.fld (F.halChHold_ac_frames c), poll := s.fld (F.halChCfg_poll_frames c),
    cfg := [s.fld (F.pchPonidHi_ponid c) * 2 ^ 32 + s.fld (F.pchPonidLo_ponid c), s.fld (F.pchDsCfg_ploam_max c), s.fld (F.pchDsCfg_bp_period c)],
    poisoned := false }

/-- Plans one Ratline grant (R153): the start, whether it was cut to the reach, the reservation. -/
def planStart (n : Snap) (teqd : Nat) (spanLo spanHi : Int) (profile : Nat) : Nat × Bool × (Int × Int) :=
  let len := n.len profile true 0
  let s := (cdivInt ((teqd : Int) - spanLo) n.ut).toNat
  let cut := decide (0xFFFE - len < s)
  let s := min s (0xFFFE - len)
  let at0 : Int := n.base - teqd + (s * n.ut : Nat)
  (s, cut, (at0 + spanLo - (n.gu * n.ut : Nat), at0 + spanHi + (len * n.ut : Nat) + (n.gu * n.ut : Nat)))

/-- Adds a plan to the snapshot and its reservation to the channel. -/
def State.addPlan (a : State × Snap) (allocId : Nat) (onu : Option Nat) (spanLo spanHi : Int) (profile : Nat) : State × Snap :=
  let (s, n) := a
  let (st, cut, r) := planStart n (s.fld (F.pchRatTeqd_teqd n.chan)) spanLo spanHi profile
  let s := if cut then s.count Cn.discUnprotected n.chan else s
  ({ s with hal := { s.hal with reserves := s.hal.reserves ++ [{ chan := n.chan, lo := r.1, hi := r.2 }] } },
   { n with plans := n.plans ++ [{ allocId := allocId, onu := onu, start := st, profile := profile }], planRes := n.planRes ++ [r],
            reserves := n.reserves ++ [r] })

/-- Plans the discovery grant of an open window's frame, and one ranging grant for every measurement with tries left (R116, R120, R153). -/
def State.planAll (s : State) (n : Snap) : State × Snap :=
  let c := n.chan
  let d := s.discOf c
  let a := if d.opened ∧ d.planned < d.frames then
      let r := cdiv (s.fld (F.pchRatLost_rand_span_us c) * 3981312) 10
      State.addPlan (s.setDisc c { d with planned := d.planned + 1 }, n) 0x3FF none d.rtdMin ((d.rtdMax + r : Nat) : Int) d.profile
    else (s, n)
  let l := s.onu.filter (fun p => decide (p.2.chan = c) && decide (p.2.stNow = 3) && decide (p.2.st = 3))
  l.foldl (fun (a : State × Snap) p =>
    match p.2.meas with
    | some m =>
      if m.tries = 0 then a
      else
        let e : Nat := if p.2.prior = 2 then 0 else p.2.eqd * s.tpb c
        State.addPlan (a.1.setOnu p.1 { a.1.onuOf p.1 with meas := some { m with tries := m.tries - 1 } }, a.2) p.2.onuIdNow (some p.1)
          ((m.rtdMin + e : Nat) : Int) ((m.rtdMax + e : Nat) : Int) m.profile
    | none => a) a

/-- A poisoned Alloc context, or telltale reservation of it, that a read met (R152): the context is set not valid, its reservations on frame
f are lost. -/
def State.allocPoison (s : State) (a c f : Nat) : State :=
  let ws := s.record kAlc a
  let gone := s.hal.tells.filter (fun t => decide (t.alloc = a) && decide (t.chan = c) && decide (t.sfc = f))
  let s := { s with hal := { s.hal with tells := s.hal.tells.filter (fun t => !gone.contains t) } }
  let s := (s.countN Cn.ttLost c 0 gone.length).showTells
  let s := (s.setRecord kAlc a (match ws with
    | w :: r => (w % 2 ^ 31) :: r
    | [] => [])).cleanRec 3 kAlc a
  (s.momentFault (chRegion c)).post 0x0B08 [a]

/-- The Allocs of a channel that a build finds poisoned: bad is one whose word is found uncorrectable now. -/
def State.badAllocs (s : State) (c : Nat) (bad : Option Nat) : List Nat :=
  ((s.allocsOf c).map (·.1)).filter (fun a => decide (some a = bad) || s.poisoned 3 (Config.wordIx 3 kAlc a))

/-- MAP_BUILD_START (R133, R145, R152, R153): the build of the frame after next. bad: an Alloc context, or a telltale reservation of it, whose
read is uncorrectable. -/
def execMapBuildStart (s : State) (c : Chan) (bad : Option AllocIx) : Host.Outcome State Fault Refusal :=
  let c := c.toNat
  let f := (s.fld (F.pchSfcHi_sfc c) * 2 ^ 32 + s.fld (F.pchSfcLo_sfc c) + 2) % 2 ^ 51
  let h := s.halOf c
  if s.ch c ≠ chRunning ∨ s.flag (F.halChSts_stuck c) = true ∨ s.fld F.halSts_slice_lost / 2 ^ (c / 32) % 2 = 1 ∨
      h.builds.any (fun b => decide (b.snap.sfc = f)) = true ∨ h.verdicts.any (fun v => decide (v.sfc = f)) = true then .next s
  else
    let s := s.actSwaps (c / 32)
    let s := (s.onusOf c).foldl (fun (t : State) n => (t.readCtx n .clean).1) s
    let pois := s.badAllocs c (bad.map (·.toNat))
    let s := pois.foldl (fun (t : State) a => (t.readRec 3 kAlc a .uncorrectable).1.allocPoison a c f) s
    let s := { s with hal := { s.hal with
      reserves := s.hal.reserves.filter (fun r => decide (r.chan ≠ c) || decide (((f : Int) - 1) * ticksPerFrame ≤ r.hi)) } }
    let n := s.snapOf c f
    let tells := s.hal.tells.filter (fun t => decide (t.chan = c) && decide (t.sfc = f))
    let put := fun (t : State) (b : Build) => t.setHal c { t.halOf c with builds := (t.halOf c).builds ++ [b] }
    if pois ≠ [] then
      .next (put s { snap := { n with poisoned := true }, map := [], pins := 0, defer := 0 })
    else
      let (s, n) := s.planAll n
      let m := buildMap n s.allocDyn s.hal.fwi tells
      let s := { s with hal := { s.hal with tells := s.hal.tells.filter (fun t => !tells.contains t) } }
      let s := (s.showTells.countN Cn.ttUnmet c 0 m.2.2.1).countN Cn.ttClip c 0 m.2.2.2.1
      .next (put s { snap := n, map := m.1, pins := m.2.1, defer := m.2.2.2.2 })

/-! ### Verdicts (R147 to R154) -/

/-- An allocation structure's 64 bits (R135). -/
def mapWord (e : MapEnt) : Nat :=
  let hi := (e.allocId % 0x4000 * 4 + e.dbru.toNat * 2 + e.ploam.toNat) * 0x800000000 + e.start % 0x10000 * 0x80000 + e.size % 0x10000 * 8 +
    e.fwi.toNat * 4 + e.profile % 4
  hi * 0x2000 + Config.hec hi % 0x2000

/-- A structure that the builders delivered as 64 bits, read with the snapshot. -/
def Snap.entOf (n : Snap) (dyn : Nat → AllocDyn) (w : Nat) : MapEnt :=
  let e : MapEnt := { alloc := 0x20000, allocId := bits w 63 50, onu := 0x20000, dbru := decide (bits w 49 49 = 1), ploam := decide (bits w 48 48 = 1),
                      start := bits w 47 32, size := bits w 31 16, fwi := decide (bits w 15 15 = 1), profile := bits w 14 13, kind := 0,
                      pay := bits w 31 16 * n.unit - (if bits w 49 49 = 1 then 4 else 0), fixed := 0, asg := 0 }
  match n.plans.find? (fun p => decide (p.allocId = e.allocId) && decide (p.start = e.start)) with
  | some p => { e with onu := p.onu.getD 0x10000, kind := if p.onu.isSome then 2 else 1, pay := 0 }
  | none =>
    match n.allocs.find? (fun x => decide (alId x.2 = e.allocId)) with
    | some x => ((dyn x.1).accrue x.2 n.ac).shares x.2 { e with alloc := x.1, onu := alOnu x.2 }
    | none => if e.allocId = 0x3FF then { e with kind := 1 } else e

/-- The start of frame f of a channel (R68): seconds and nanoseconds. -/
def State.frameStart (s : State) (c f : Nat) : Nat × Nat :=
  let now := s.fld (F.pchSfcHi_sfc c) * 2 ^ 32 + s.fld (F.pchSfcLo_sfc c)
  let t := s.fld (F.pchFstartSec_sec c) * 1000000000 + s.fld (F.pchFstartNs_ns c) + (f + 2 ^ 51 - now) % 2 ^ 51 * 125000
  (t / 1000000000, t % 1000000000)

/-- The FRAME message of a verdict (R306). -/
def State.mirrorFrame (s : State) (c f ep : Nat) (held : Bool) (m : List MapEnt) : State :=
  let (sec, ns) := s.frameStart c f
  let l := if held then [] else m
  s.mirror 0x10 ([c * 2 ^ 56 + f, ep * 2 ^ 48 + l.length * 2 ^ 38 + held.toNat * 2 ^ 37 + ns,
                  s.fld (F.mateFeed_feed c) * 2 ^ 32 + sec % 2 ^ 32] ++ l.map mapWord)

/-- The plans of a rejected build are made again by later builds, and their reservations go (R148). -/
def State.undoPlans (s : State) (n : Snap) : State :=
  let c := n.chan
  let s := { s with hal := { s.hal with reserves := s.hal.reserves.filter (fun r => !(decide (r.chan = c) && n.planRes.contains (r.lo, r.hi))) } }
  n.plans.foldl (fun (t : State) p =>
    match p.onu with
    | none =>
      let d := t.discOf c
      if d.opened then t.setDisc c { d with planned := d.planned - 1 } else t
    | some o =>
      let x := t.onuOf o
      match x.meas with
      | some m => t.setOnu o { x with meas := some { m with tries := m.tries + 1 } }
      | none => t) s

/-- A rejected map (R148, R149): the frame is held. -/
def State.rejectMap (s : State) (c : Nat) (b : Build) (reason : Nat) : State :=
  let s := (s.undoPlans b.snap).countN Cn.ttLost c 0 b.pins
  let s := s.holdFrame c b.snap.sfc reason
  let h := s.halOf c
  let s := s.setHal c { h with verdicts := h.verdicts ++ [{ sfc := b.snap.sfc, map := none, reason := reason, epoch := b.snap.epoch, cfg := b.snap.cfg }] }
  s.mirrorFrame c b.snap.sfc b.snap.epoch true []

/-- An accepted map (R143, R147, R148). -/
def State.acceptMap (s : State) (c : Nat) (b : Build) (m : List MapEnt) : State :=
  let n := b.snap
  let s := (s.chargeMap n.sfc n.ac m n.allocs).agePloamu c m (n.onus.map (·.1))
  let s := ((s.count Cn.mapAccepted c).countN Cn.fixedDefer c 0 b.defer).countN Cn.rngTries c 0 (m.filter (fun e => decide (e.kind = 2))).length
  let s := (s.endEpisode c).setFld (F.halChSts_last_reason c) 0
  let h := s.halOf c
  let s := s.setHal c { h with
    verdicts := h.verdicts ++ [{ sfc := n.sfc, map := some m, reason := 0, epoch := n.epoch, cfg := n.cfg }], first := false, last := m,
    lastRes := n.planRes.map (fun (r : Int × Int) => (r.1 - (n.sfc * ticksPerFrame : Nat), r.2 - (n.sfc * ticksPerFrame : Nat))) }
  s.mirrorFrame c n.sfc n.epoch false m

/-- MAP_VERDICT (R147 to R154): the verdict on the oldest build of the channel. wrong: the builders agree on these structures in place of those
that R145 gives. -/
def execMapVerdict (s : State) (c : Chan) (wrong : Option (List (BitVec 64))) (d : Delivered) : Host.Outcome State Fault Refusal :=
  let c := c.toNat
  let h := s.halOf c
  match h.builds with
  | [] => .next s
  | b :: rest =>
    let s := s.setHal c { h with builds := rest }
    let lead := min d.lead 0xFFFF
    let s := s.setFld (F.halChLead_worst_lead c) (min lead (s.fld (F.halChLead_worst_lead c)))
    let m := match wrong with
      | none => b.map
      | some l => l.map (fun w => b.snap.entOf s.allocDyn w.toNat)
    if b.snap.poisoned then .next (s.rejectMap c b 8)
    else
      match d.minority with
      | some n => .next ((s.builderFaults c n).rejectMap c b 1)
      | none =>
        let r := checkMap b.snap m
        if r ≠ 0 then .next (s.rejectMap c b r)
        else if d.copiesDiffer then .next ((s.checkerFault c).rejectMap c b 7)
        else .next ((s.acceptMap c b m).setFld (F.halChLead_last_lead c) lead)

/-- MAP_LATE_DEADLINE (R133): a builder was not done at T_f - 62.5 µs for the next frame. -/
def execMapLateDeadline (s : State) (c : Chan) : Host.Outcome State Fault Refusal :=
  let c := c.toNat
  let f := (s.fld (F.pchSfcHi_sfc c) * 2 ^ 32 + s.fld (F.pchSfcLo_sfc c) + 1) % 2 ^ 51
  let h := s.halOf c
  match h.builds.find? (fun b => decide (b.snap.sfc = f)) with
  | some b => .next ((s.setHal c { h with builds := h.builds.filter (fun x => decide (x.snap.sfc ≠ f)) }).rejectMap c b 2)
  | none => .next s

/-! ### Status reports, telltales and the Alloc window -/

/-- STATUS_REPORT_TAKEN (R144): the oldest report for frame k sets B, less the grants of later frames, which it so accounts for. -/
def execStatusReportTaken (s : State) : Host.Outcome State Fault Refusal :=
  match s.hal.reports with
  | [] => .next s
  | (a, r, k) :: rest =>
    let s := { s with hal := { s.hal with reports := rest } }
    let d := s.allocDyn a
    let later := d.granted.foldl (fun n x => if k < x.1 then n + x.2 else n) 0
    .next (s.setAllocDyn a { d with b := r - later, granted := [] })

/-- Offsets in the cycle at which the gate of class c opens. -/
def openings (g : GateList) (c : Nat) : List Nat :=
  let n := g.entries.length
  let isOpen := fun (i : Nat) => decide ((g.entries.getD i (0, 0)).1 / 2 ^ c % 2 = 1)
  (List.range n).filterMap (fun i => if isOpen i && !isOpen ((i + n - 1) % n) then some ((g.entries.take i).foldl (fun k e => k + e.2) 0) else none)

/-- The latest gate opening of class c of uplink group u, in ns, at or before an instant. -/
def State.latestOpening (s : State) (u c limit : Nat) : Option Nat :=
  match (s.gatesOf u).cur with
  | none => none
  | some (g, start) =>
    let l := (openings g c).filterMap (fun o => if start + o ≤ limit then some (start + o + (limit - start - o) / max 1 g.cycle * max 1 g.cycle) else none)
    l.foldl (fun m x => match m with
      | some y => some (max x y)
      | none => some x) none

/-- Nanoseconds as ranging ticks, downward. -/
def ticksOfNs (n : Int) : Int := n * 3981312 / 10000

/-- Chooses the frame and start of a notice (R157): none where it cannot be met. r is the state as the notice's epoch sees the rigging. -/
def State.placeTell (s r : State) (c a : Nat) (ws : List Nat) (size earliest latest : Nat) : Option (Nat × Nat × Nat) :=
  let u := alTtUg ws
  let o := s.onuOf (alOnu ws)
  let mode := s.fld (F.pchMode_mode c)
  let rate := s.fld (F.pchMode_us_rate c)
  let ut := unitTicks mode rate
  match s.latestOpening u (alTtClass ws) (latest - cdiv (size * 8) (max 1 (s.portRate u))) with
  | none => none
  | some g =>
    let t0 : Int := (s.fld (F.pchFstartSec_sec c) * 1000000000 + s.fld (F.pchFstartNs_ns c) : Nat)
    let eqp := s.ratBase c + s.fld (F.pchRatTeqd_teqd c) - o.residue
    let target := ticksOfNs ((g : Int) - 48000 - t0) - eqp
    let k := target / (ticksPerFrame : Int)
    let p := alProfile ws
    let len := burstLen mode (mapUnit mode) (r.fld (F.halBpCtl_preamble c p)) (r.flag (F.halBpCtl_fec c p)) false
      (cdiv (size + (if alDbru ws then 4 else 0)) (mapUnit mode))
    let st := (target - k * ticksPerFrame) / (ut : Int) - len
    let arrive := k * ticksPerFrame + eqp + st * ut
    let need := ticksOfNs ((earliest : Int) + r.fld F.halTtCfg2_tt_onu_us * 1000 - t0) + ((o.rtd : Int) + o.f) / 2
    if k < 3 ∨ st < 0 ∨ arrive < need ∨ a ≥ 131072 then none
    else some ((s.fld (F.pchSfcHi_sfc c) * 2 ^ 32 + s.fld (F.pchSfcLo_sfc c) + k.toNat) % 2 ^ 51, g, st.toNat)

/-- A 16-bit seconds value as the full time nearest the time base (R155). -/
def State.fullSec (s : State) (x : Nat) : Nat :=
  ((s.tim.sec : Int) + (((x : Int) - (s.tim.sec : Int) + 32768) % 65536 - 32768)).toNat

/-- One record of a telltale frame (R155 to R157); kind 1 is a notice, 2 a cancel. -/
def State.takeTell (s : State) (ep kind : Nat) (b : List Nat) : State :=
  let num := fun (lo n : Nat) => beNat ((b.drop lo).take n)
  let c := num 0 1
  let id := num 2 2 % 0x4000
  let size := num 4 4
  let early := s.fullSec (num 8 2) * 1000000000 + num 10 4
  let late := s.fullSec (num 14 2) * 1000000000 + num 16 4
  let tag := num 20 2
  match (s.allocsOf c).find? (fun x => decide (alId x.2 = id)) with
  | none => s.count Cn.ttBad 0
  | some (a, ws) =>
    if s.ch c ≠ chRunning ∨ alTtEn ws = false ∨ s.activeOn c (alOnu ws) = false ∨ late < early ∨ s.nowNs + 1000000000 < late then s.count Cn.ttBad 0
    else if kind = 2 then
      let keep := fun (t : Tell) => !(decide (t.chan = c) && decide (t.alloc = a) && decide (t.tag = tag))
      (({ s with hal := { s.hal with tells := s.hal.tells.filter keep } }).showTells).count Cn.ttTaken 0
    else if s.hal.tells.length ≥ 4096 then
      let t := s.count Cn.ttFull 0
      if t.hal.fullSaid then t else ({ t with hal := { t.hal with fullSaid := true } }).post 0x0B09 []
    else if (s.hal.tells.filter (fun t => decide (t.alloc = a))).length ≥ 4 then s.count Cn.ttFull 0
    else
      let t := s.count Cn.ttTaken 0
      match t.placeTell (t.asOf ep) c a ws size early late with
      | none => t.count Cn.ttUnmet c
      | some (f, g, st) =>
        let x : Tell := { chan := c, alloc := a, tag := tag, size := size, sfc := f, gate := g, start := st }
        (({ t with hal := { t.hal with tells := t.hal.tells ++ [x] } }).showTells).count Cn.ttPlaced c

/-- TELLTALE_FRAME (R155): Halyard takes the oldest telltale frame; its payload ends with the FCS. -/
def execTelltaleFrame (s : State) : Host.Outcome State Fault Refusal :=
  match s.hal.frames with
  | [] => .next s
  | (_, p, ep) :: rest =>
    let s := { s with hal := { s.hal with frames := rest } }
    let kind := p.getD 1 0
    let count := p.getD 2 0
    if p.getD 0 0 ≠ 1 ∨ ¬ (kind = 1 ∨ kind = 2) ∨ count = 0 ∨ count > 16 ∨ p.length < 12 + 24 * count then .next (s.count Cn.ttBad 0)
    else .next ((List.range count).foldl (fun (t : State) i => t.takeTell ep kind ((p.drop (8 + 24 * i)).take 24)) s)

/-- Answers of the Alloc window. -/
def State.alcAnswer (s : State) (result : Nat) (ws : List Nat) : State :=
  (((((s.setFld F.halAlcCmd_result result).setFld F.halAlcData0 (wordOf ws 0)).setFld F.halAlcData1 (wordOf ws 1)).setFld F.halAlcData2
    (wordOf ws 2)).setFld F.halAlcData3 (wordOf ws 3)).setFld F.halAlcData4 (wordOf ws 4)

/-- Runs a command of the Alloc window for a master that may write. -/
def State.alcRun (s : State) (m : Master) (f : Nat → State) : Host.Outcome State Fault Refusal :=
  if mayWrite m ∧ s.released 7 = true then .next (f (s.fld F.halAlcAddr_index)) else .next s

/-- ALC_READ_APPLIED: op 1 of HAL_ALC_CMD (R321): a poisoned context is set not valid. -/
def execAlcReadApplied (s : State) (m : Master) (ecc : Ecc) : Host.Outcome State Fault Refusal :=
  s.alcRun m (fun a =>
    let (t, bad) := s.readRec 3 kAlc a ecc
    if bad then ((t.allocPoison a (alChan (t.record kAlc a)) (2 ^ 51)).alcAnswer 2 []).setFld F.halAlcData5 0
    else (t.alcAnswer 0 (t.record kAlc a)).setFld F.halAlcData5 (min (t.allocDyn a).b 0xFFFFFFFF))

/-- ALC_READ_STAGED: op 2. -/
def execAlcReadStaged (s : State) (m : Master) : Host.Outcome State Fault Refusal :=
  s.alcRun m (fun a => s.alcAnswer 0 (s.recordStaged kAlc a))

/-- ALC_WRITE_STAGED: op 3. -/
def execAlcWriteStaged (s : State) (m : Master) : Host.Outcome State Fault Refusal :=
  s.alcRun m (fun a =>
    (s.stageRec kAlc a [s.fld F.halAlcData0, s.fld F.halAlcData1, s.fld F.halAlcData2, s.fld F.halAlcData3, s.fld F.halAlcData4]).setFld
      F.halAlcCmd_result 0)

/-- ALC_CLEAR_DYNAMIC: op 4 (R143): the dynamic state is cleared at once. -/
def execAlcClearDynamic (s : State) (m : Master) : Host.Outcome State Fault Refusal :=
  s.alcRun m (fun a => (s.setAllocDyn a allocDyn0).setFld F.halAlcCmd_result 0)

end Sys2Proof.Machine
end

