-- ==== Sys2Proof/Machine/PonDown.lean ====
section
/-! DEFINITION. PON channels: the channel state machine, the PON frame, PLOAM queues, context updates and the flow window
(03_pon_downstream.md). XGEM encapsulation is in Xgem.lean. -/

namespace Sys2Proof.Machine

/-- A re-rig of the region is in progress (R58): its channels wait for RERIG_DONE. -/
def State.rerigging (s : State) (region : Nat) : Bool := decide (s.rigState = 6) && (decide (s.rig.region = region) || decide (s.rig.region = 0))

/-- Rows OFF of R65: with enable = 1 and tx_off = 0 the channel starts, or stands by when the mate role is standby. -/
def State.tryStart (s : State) (c : Nat) : State :=
  if s.ch c = chOff ∧ s.flag (F.pchCtrl_enable c) = true ∧ s.flag (F.pchCtrl_tx_off c) = false ∧ s.rerigging (chRegion c) = false then
    if s.mateStandby then s.standBy c
    else (s.setDs c { s.dsOf c with readyTimer := true }).moveCh c chStarting
  else s

/-- The rows of R65 for enable = 0 or tx_off = 1. -/
def State.heedOff (s : State) (c : Nat) : State :=
  let off := !(s.flag (F.pchCtrl_enable c)) || s.flag (F.pchCtrl_tx_off c)
  if off then
    if s.ch c = chStarting ∨ s.ch c = chFault then s.offCh c
    else if s.ch c = chRunning then s.setDs c { s.dsOf c with stopping := true }
    else if s.ch c = chStandby ∧ s.flag (F.pchCtrl_enable c) = false then s.offCh c
    else s
  else s

/-- CHANNEL_CTRL_WRITE (R65): PCH_CTRL takes enable and tx_off, and the channel follows its rows. -/
def execChannelCtrlWrite (s : State) (m : Master) (c : Chan) (enable txOff : Bool) : Host.Outcome State Fault Refusal :=
  if mayWrite m ∧ s.released 7 = true then
    let t := (s.setFld (F.pchCtrl_enable c.toNat) enable.toNat).setFld (F.pchCtrl_tx_off c.toNat) txOff.toNat
    .next ((t.heedOff c.toNat).tryStart c.toNat)
  else .next s

/-- PLOAM_FLUSH (PCH_CTRL ploam_flush): the queues are emptied and their messages returned as not sent. -/
def execPloamFlush (s : State) (m : Master) (c : Chan) : Host.Outcome State Fault Refusal :=
  if mayWrite m ∧ s.released 7 = true then .next (s.flushPloam c.toNat) else .next s

/-- The superframe counter of the time base (R67), rounded to the nearest 125 µs, halves upward. -/
def sfcOf (sec ns : Nat) : Nat := (sec * 8000 + (ns + 62500) / 125000) % 2 ^ 51

/-- FS frame capacity of a mode (R69). -/
def fsCap (mode : Nat) : Nat := if mode = 2 then 135432 else if mode = 1 then Config.fsCap50 else 0

/-- PON-ID, ploam_max and bp_period as the applied registers hold them (R73). -/
def State.frameCfg (s : State) (c : Nat) : List Nat :=
  [s.fld (F.pchPonidHi_ponid c) * 2 ^ 32 + s.fld (F.pchPonidLo_ponid c), s.fld (F.pchDsCfg_ploam_max c), s.fld (F.pchDsCfg_bp_period c)]

/-- The valid burst profile slots of a channel, rising. -/
def State.validProfiles (s : State) (c : Nat) : List Nat := [0, 1, 2, 3].filter (fun i => s.flag (F.halBpCtl_valid c i))

/-- The profile slot after the one last sent, in the rotation of R410. -/
def nextProfile (valid : List Nat) (last : Option Nat) : Option Nat :=
  match last with
  | none => valid.head?
  | some l => match valid.find? (fun i => decide (l < i)) with
    | some i => some i
    | none => valid.head?

/-- The fill of a PLOAM partition (R76): messages taken from the urgent, unicast and broadcast queues, and the rests. -/
def fillPloam (d : DsSt) (due : Bool) (pmax : Nat) : List Ploam × List Ploam × List Ploam × DsSt :=
  let reserve := if due ∨ d.broadcast ≠ [] then 1 else 0
  let nu := min d.urgent.length (pmax - reserve)
  let nn := min d.unicast.length (pmax - nu - reserve)
  let left := pmax - nu - nn - (if due then 1 else 0)
  let nb := min d.broadcast.length left
  (d.urgent.take nu, d.unicast.take nn, d.broadcast.take nb,
   { d with urgent := d.urgent.drop nu, unicast := d.unicast.drop nn, broadcast := d.broadcast.drop nb })

/-- A message as it leaves: its sequence number, from the ONU context's counter or the channel's broadcast counter, stands before its
content (R74). -/
def State.sendPloam (s : State) (c : Nat) (m : Ploam) : State × Ploam :=
  match m.onu with
  | some o =>
    let x := s.onuOf o
    (s.setOnu o { x with seqU := (x.seqU + 1) % 256 }, { m with content := x.seqU :: m.content })
  | none =>
    let d := s.dsOf c
    (s.setDs c { d with seqB := (d.seqB + 1) % 256 }, { m with content := d.seqB :: m.content })

/-- Sends messages in order. -/
def State.sendPloams (s : State) (c : Nat) : List Ploam → State × List Ploam
  | [] => (s, [])
  | m :: r =>
    let (t, x) := s.sendPloam c m
    let (u, l) := t.sendPloams c r
    (u, x :: l)

/-- An armed capture records the next map the channel sends (R149). -/
def State.captureMap (s : State) (c : Nat) (map : List MapEnt) (held : Bool) (reason ep : Nat) : State :=
  if s.hal.capArm = some c then
    let t := { s with hal := { s.hal with capArm := none, cap := map } }
    ((((t.setFld F.halCapSts_done 1).setFld F.halCapSts_held held.toNat).setFld F.halCapSts_reason reason).setFld F.halCapSts_epoch ep).setFld
      F.halCapSts_count map.length
  else s

/-- Starts one PON frame of a RUNNING channel with superframe counter sfc (R67 to R79): the payload of the frame before it is
completed with idle fill; the frame takes its map, or repeats the last one (R71), its PLOAM partition and Burst_Profile; the
continuation of a fragmented packet comes first in the payload. -/
def State.startFrame (s : State) (c sfc : Nat) (map : List MapEnt) (held : Bool) (reason ep : Nat) (cfg : List Nat) : State :=
  let d := s.dsOf c
  let s := s.countN Cn.dsIdleBytes c 0 d.space
  let pmax := wordOf cfg 1
  let bp := wordOf cfg 2
  let prof := if d.frames % bp = 0 then nextProfile (s.validProfiles c) d.bpLast else none
  let (mu, mn, mb, d) := fillPloam d prof.isSome pmax
  let s := (s.setDs c { d with bpLast := if prof.isSome then prof else d.bpLast }).showPloam c
  let (s, l1) := s.sendPloams c (mu ++ mn)
  let s := if prof.isSome then s.setDs c { s.dsOf c with seqB := ((s.dsOf c).seqB + 1) % 256 } else s
  let (s, l2) := s.sendPloams c mb
  let n := l1.length + l2.length + prof.toList.length
  let s := (s.count Cn.dsFrames c).countN Cn.dsPloam c 0 n
  let s := ((s.setFld (F.pchSfcLo_sfc c) sfc).setFld (F.pchSfcHi_sfc c) (sfc / 2 ^ 32)).setFld (F.pchFstartSec_sec c) s.tim.sec
  let s := s.setFld (F.pchFstartNs_ns c) s.tim.ns
  let s := (s.emit (.ponFrame c sfc map (l1 ++ l2) prof)).captureMap c map held reason ep
  let s := (map.foldl (fun (t : State) e => t.countN Cn.grantBytes e.alloc 0 e.pay) s).setFld (F.halChSts_holding c) held.toNat
  let cap := fsCap (s.fld (F.pchMode_mode c)) - 4 - 8 * map.length - 48 * n
  let d := s.dsOf c
  let d := { d with frames := d.frames + 1, map := map, heldCfg := cfg, ploamSent := l1 ++ l2, startSec := s.tim.sec, startFrac := s.tim.frac }
  match d.rest with
  | some r =>
    let k := 8 + 4 * cdiv r.left 4
    ((s.count Cn.dsXgem c).emit (.xgem c r.portId r.keyIx r.left true false)).setDs c { d with rest := none, space := cap - k }
  | none => s.setDs c { d with space := cap }

/-- CH_START_RUNNING (R65, R67): with the island running, the module ready and without TX_FAULT and the lane transmitter ready, a
STARTING channel enters RUNNING, sets its superframe counter from the time base and sends its first frame, whose map is empty. -/
def execChStartRunning (s : State) (c : Chan) : Host.Outcome State Fault Refusal :=
  let c := c.toNat
  if s.ch c = chStarting ∧ s.flag (F.pchCtrl_enable c) = true ∧ s.flag (F.pchCtrl_tx_off c) = false then
    let t := ((s.setFld (F.pchSts_ref_lock c) 1).setFld (F.pchSts_module_present c) 1).setFld (F.pchSts_tx_fault c) 0
    let t := (t.setFld (F.pchSts_laser_on c) 1).moveCh c chRunning
    let t := (t.recovered (chRegion c) 1 c).setDs c { t.dsOf c with readyTimer := false, frames := 0, map := [], space := 0 }
    let t := (t.setHal c halChInit).commitCtx c
    .next (t.startFrame c (sfcOf t.tim.sec t.tim.ns) [] false 0 t.epoch (t.frameCfg c))
  else .next s

/-- CH_READY_TIMEOUT (R65): the 2 s ready timer of a STARTING channel expires: FAULT with one fault counted. -/
def execChReadyTimeout (s : State) (c : Chan) : Host.Outcome State Fault Refusal :=
  if s.ch c.toNat = chStarting then .next (s.faultPort c.toNat) else .next s

/-- MODULE_TX_FAULT (R65): TX_FAULT is shown; a RUNNING channel enters FAULT and, where it was being turned off, goes on to OFF. -/
def execModuleTxFault (s : State) (c : Chan) : Host.Outcome State Fault Refusal :=
  let t := s.setFld (F.pchSts_tx_fault c.toNat) 1
  if s.ch c.toNat = chRunning then
    .next ((((t.setFld (F.pchDsAlm_tx_fault c.toNat) 1).post 0x0A02 [c.toNat]).faultPort c.toNat).heedOff c.toNat)
  else .next t

/-- MODULE_ABSENT (R65): the module is gone; a RUNNING channel enters FAULT and posts CH_TX_FAULT (R86). -/
def execModuleAbsent (s : State) (c : Chan) : Host.Outcome State Fault Refusal :=
  let t := s.setFld (F.pchSts_module_present c.toNat) 0
  if s.ch c.toNat = chRunning then
    .next ((((t.setFld (F.pchDsAlm_module_absent c.toNat) 1).post 0x0A02 [c.toNat]).faultPort c.toNat).heedOff c.toNat)
  else .next t

/-- A channel of a quad whose island leaves the running state (R65). -/
def State.refUnlock (s : State) (c : Nat) : State :=
  let t := s.setFld (F.pchSts_ref_lock c) 0
  if s.ch c = chRunning then
    (((t.setFld (F.pchDsAlm_ref_unlock c) 1).post 0x0A03 [c]).faultPort c).heedOff c
  else t

/-- QUAD_REF_UNLOCK (R65): every channel of the quad loses its reference; each that was RUNNING faults and posts its own events. -/
def execQuadRefUnlock (s : State) (q : Quad) : Host.Outcome State Fault Refusal :=
  let b := 4 * q.toNat
  .next ((((s.refUnlock b).refUnlock (b + 1)).refUnlock (b + 2)).refUnlock (b + 3))

/-- CH_FAULT_RETRY (R65): 50 ms after FAULT, with enable = 1, tx_off = 0 and a retry allowed, the channel returns to STARTING, or to STANDBY
while the mate role is standby. -/
def execChFaultRetry (s : State) (c : Chan) : Host.Outcome State Fault Refusal :=
  let c := c.toNat
  if s.ch c = chFault ∧ s.flag (F.pchCtrl_enable c) = true ∧ s.flag (F.pchCtrl_tx_off c) = false ∧ (s.dsOf c).retryOk = true then
    .next (if s.mateStandby then s.standBy c else (s.setDs c { s.dsOf c with readyTimer := true }).moveCh c chStarting)
  else .next s

/-- CH_FRAME_END_OFF (R65): the last bit of the frame in progress has left after the channel was turned off: laser off, OFF. -/
def execChFrameEndOff (s : State) (c : Chan) : Host.Outcome State Fault Refusal :=
  let c := c.toNat
  if s.ch c = chRunning ∧ (s.dsOf c).stopping = true then
    let t := s.countN Cn.dsIdleBytes c 0 (s.dsOf c).space
    .next ((t.offCh c).tryStart c)
  else .next s

/-- The frame of counter sfc has no verdict (R71, R134, R150, R151): whether it is held, and the reason. The frames after STARTING that no
build could serve are empty and not held. -/
def State.noVerdict (s : State) (c : Nat) : Bool × Nat :=
  let h := s.halOf c
  if s.fld F.halSts_slice_lost / 2 ^ (c / 32) % 2 = 1 then (true, 10)
  else if s.flag (F.halChSts_stuck c) then (true, s.fld (F.halChSts_last_reason c))
  else if h.first then (h.mirrored, if h.mirrored then 9 else 0)
  else (true, 2)

/-- PON_FRAME_START (R67): at a cadence boundary the channel's contexts put their updates in force; a RUNNING channel that is not being
turned off starts its next frame, one counter greater, with the map accepted for it or the map it sent last (R71). -/
def execPonFrameStart (s : State) (c : Chan) : Host.Outcome State Fault Refusal :=
  let c := c.toNat
  let t := (s.boundary c).usFrameEnd c
  if s.ch c = chRunning ∧ (s.dsOf c).stopping = false then
    let sfc := (s.fld (F.pchSfcHi_sfc c) * 2 ^ 32 + s.fld (F.pchSfcLo_sfc c) + 1) % 2 ^ 51
    let h := t.halOf c
    match h.verdicts.find? (fun v => v.sfc = sfc) with
    | some v =>
      let u := t.setHal c { h with verdicts := h.verdicts.filter (fun v => decide (v.sfc ≠ sfc)) }
      .next (match v.map with
        | some map => u.startFrame c sfc map false v.reason v.epoch v.cfg
        | none => u.startFrame c sfc (u.dsOf c).map true v.reason v.epoch v.cfg)
    | none =>
      let (held, r) := t.noVerdict c
      let u := if held then t.holdFrame c sfc r else t
      .next (u.startFrame c sfc (u.dsOf c).map held r u.epoch (u.frameCfg c))
  else .next t

/-- PLOAM_OFFER (R76): queued; refused when its queue is full; returned as not sent while the channel is not RUNNING. A message whose buffer is
poisoned is discarded and counted (R321). -/
def execPloamOffer (s : State) (c : Chan) (q : PloamQ) (msg : Ploam) (poison : Bool) : Host.Outcome State Fault Refusal :=
  let c := c.toNat
  let d := s.dsOf c
  let full := (s.returnPloam 2 c msg |>.setFld (F.pchDsAlm_ploam_overflow c) 1).post 0x0A05 [c]
  if poison then .next (s.count Cn.memPoisonMsg 0)
  else if s.ch c ≠ chRunning then .next (s.returnPloam 1 c msg)
  else
    match q with
    | .urgent => if d.urgent.length < 8 then .next ((s.setDs c { d with urgent := d.urgent ++ [msg] }).showPloam c) else .next full
    | .unicast => if d.unicast.length < 64 then .next ((s.setDs c { d with unicast := d.unicast ++ [msg] }).showPloam c) else .next full
    | .broadcast =>
      if d.broadcast.length < 16 then .next ((s.setDs c { d with broadcast := d.broadcast ++ [msg] }).showPloam c) else .next full

/-- The words of a flow record: DATA0, DATA1 and the channel it is bound to, plus 1 (0: bound to none). -/
def flwBound (ws : List Nat) (c : Nat) : Bool := wordOf ws 2 = c + 1

/-- Answers of the flow window. -/
def State.flwAnswer (s : State) (c result d0 d1 : Nat) : State :=
  ((s.setFld (F.pchFlwCmd_result c) result).setFld (F.pchFlwData0 c) d0).setFld (F.pchFlwData1 c) d1

/-- A read through the flow window of the words ws; the record may be poisoned (R78, R321). -/
def State.flwRead (s : State) (c ix : Nat) (ws : List Nat) (e : Ecc) : State :=
  if flwBound ws c then
    let (t, bad) := s.readRec 3 kFlw ix e
    if bad then
      (((t.setRecord kFlw ix []).cleanRec 3 kFlw ix).post 0x0A06 [c, ix]).flwAnswer c 2 0 0
    else t.flwAnswer c 0 (wordOf ws 0) (wordOf ws 1)
  else s.setFld (F.pchFlwCmd_result c) 1

/-- FLW_READ_APPLIED: op 1 of PCH_FLW_CMD. -/
def execFlwReadApplied (s : State) (m : Master) (c : Chan) (ecc : Ecc) : Host.Outcome State Fault Refusal :=
  let ix := s.fld (F.pchFlwAddr_flow c.toNat)
  if mayWrite m ∧ s.released 7 = true then .next (s.flwRead c.toNat ix (s.record kFlw ix) ecc) else .next s

/-- FLW_READ_STAGED: op 2 of PCH_FLW_CMD. While nothing is staged for the flow it reads the applied record. -/
def execFlwReadStaged (s : State) (m : Master) (c : Chan) : Host.Outcome State Fault Refusal :=
  let ix := s.fld (F.pchFlwAddr_flow c.toNat)
  if mayWrite m ∧ s.released 7 = true then
    match Tbl.find s.stagedRecs (recKey kFlw ix) none with
    | some ws =>
      if flwBound ws c.toNat then .next (s.flwAnswer c.toNat 0 (wordOf ws 0) (wordOf ws 1)) else .next (s.setFld (F.pchFlwCmd_result c.toNat) 1)
    | none => .next (s.flwRead c.toNat ix (s.record kFlw ix) .clean)
  else .next s

/-- FLW_WRITE_STAGED: op 3 of PCH_FLW_CMD stages the record and binds the flow to this channel. -/
def execFlwWriteStaged (s : State) (m : Master) (c : Chan) : Host.Outcome State Fault Refusal :=
  let ix := s.fld (F.pchFlwAddr_flow c.toNat)
  if mayWrite m ∧ s.released 7 = true then
    .next ((s.stageRec kFlw ix [s.fld (F.pchFlwData0 c.toNat), s.fld (F.pchFlwData1 c.toNat), c.toNat + 1]).setFld (F.pchFlwCmd_result c.toNat) 0)
  else .next s

end Sys2Proof.Machine
end

