-- ==== Sys2Proof/Machine/Lane.lean ====
section
/-! DEFINITION. Serial lanes, adaptation, Reef states, lane faults, and the Stay link's alignment (13_lanes_and_stay_link.md). -/

namespace Sys2Proof.Machine

/-- A lane of which nothing is pending. -/
def laneInit : LaneSt := { entering := none, queued := none, byHost := false, okRun := 0, run := 0, since := [16, 16, 16, 16, 16, 16, 16, 16], announce := false }

/-- An SLD lane in SEARCH. -/
def slInit : SlLane := { st := 0, good := 0, missed := 0, follow := 0, broken := 0, ix := 0, seq := 0, skewed := false }

def State.laneOf (s : State) (i : Nat) : LaneSt := Tbl.find s.lanes.lane i laneInit
def State.setLane (s : State) (i : Nat) (l : LaneSt) : State := { s with lanes := { s.lanes with lane := Tbl.put s.lanes.lane i laneInit l } }
def State.slOf (s : State) (k : Nat) : SlLane := Tbl.find s.lanes.sl k slInit
def State.setSl (s : State) (k : Nat) (l : SlLane) : State := { s with lanes := { s.lanes with sl := Tbl.put s.lanes.sl k slInit l } }

/-- LANE_STS state codes (R278). -/
def lnOff : Nat := 0
def lnReef2 : Nat := 1
def lnReef1 : Nat := 2
def lnAcquiring : Nat := 3
def lnLocked : Nat := 4
def lnRetired : Nat := 5

/-- The state of a lane. -/
def State.ln (s : State) (i : Nat) : Nat := s.fld (F.laneSts_state i)

/-- The logical position of ULN lane n in its group (R276). -/
def State.lanePos (s : State) (n : Nat) : Nat := (Tbl.find s.rig.run.lanePos n none).getD (n % 8)

/-- The uplink port that ULN lane n belongs to, if its port is bound (R277). -/
def State.portOfLane (s : State) (n : Nat) : Option Nat :=
  let u := n / 8
  let w := portWidth (s.ugOf u).1
  let p := 256 + 8 * u + s.lanePos n / w * w
  if s.portBound p then some p else none

/-- Acquisition from the last good set, or from the preset while there is none (R281). -/
def State.acquire (s : State) (i : Nat) (announce : Bool) : State :=
  let good := s.flag (F.laneSts_good_valid i)
  let t := s.setFld (F.laneCoef i 0) (if good then s.fld (F.laneGood i 0) else s.fld (F.lanePreset0 i))
  let t := t.setFld (F.laneCoef i 1) (if good then s.fld (F.laneGood i 1) else s.fld (F.lanePreset1 i))
  let t := (t.setFld (F.laneSts_state i) lnAcquiring).setFld (F.laneSts_frozen i) 0
  t.setLane i { t.laneOf i with entering := none, queued := none, byHost := false, okRun := 0, run := 0, announce := announce }

/-- An SLD lane is bound (R276, R294): the pair is rigged and the image binds it. -/
def State.sldBound (s : State) (k : Nat) : Bool := s.rig.run.mate.pairEn && decide (s.rig.run.slLanes / 2 ^ k % 2 = 1)

/-- The Stay link is electrically present (R294). -/
def State.slPresentNow (s : State) : Bool := (List.range 8).any (fun k => s.sldBound k && decide (s.ln (640 + k) = lnLocked))

/-- Reports presence; the last bound SLD lane leaving LOCKED posts SL_ABSENT (R294). -/
def State.showPresent (s : State) : State :=
  let was := s.flag F.laneSlSts_present
  let now := s.slPresentNow
  let t := s.setFld F.laneSlSts_present now.toNat
  if was && !now then t.post 0x0907 [] else t

/-- The lanes of a width code. -/
def widthLanes (w : Nat) : List Nat :=
  if w = 1 then [0, 1, 2, 3] else if w = 2 then [4, 5, 6, 7] else if w = 3 then [0, 1, 2, 3, 4, 5, 6, 7] else []

/-- Judges the link (R290): up when every lane of its width is in MF_LOCKED and aligned and the mate's mode agrees; the changes are
posted. -/
def State.judgeLink (s : State) : State :=
  let mf := (List.range 8).foldl (fun a k => a + (decide ((s.slOf k).st = 3)).toNat * 2 ^ k) 0
  let fr := (List.range 8).foldl (fun a k => a + (decide ((s.slOf k).st ≥ 2)).toNat * 2 ^ k) 0
  let ls := widthLanes s.lanes.width
  let up := s.flag F.laneSlCtrl_enable && !ls.isEmpty && !(s.flag F.laneSlSts_mode_mismatch) &&
    ls.all (fun k => decide ((s.slOf k).st = 3) && !(s.slOf k).skewed)
  let was := s.linkUp
  let t := ((s.setFld F.laneSlSts_mf_locked mf).setFld F.laneSlSts_framed fr).setFld F.laneSlSts_link_up up.toNat
  let t := t.setFld F.laneSlSts_width (if up then s.lanes.width else 0)
  if up && !was then t.post 0x0905 [ls.length]
  else if !up && was then (t.setFld F.laneSlAlm_link_down 1).post 0x0906 []
  else t

/-- An SLD lane leaves the link: its alignment starts over (R289). -/
def State.slLeave (s : State) (k : Nat) : State := (s.setSl k slInit).judgeLink

/-- A lane loses lock (R278): counted, and posted for a receive lane (R298). -/
def State.lockLost (s : State) (i : Nat) : State :=
  let t := (s.count Cn.laneLockLoss i).setFld (F.laneAlm_lock_lost i) 1
  if 256 ≤ i then t.post 0x0901 [i] else t

/-- A lane leaves LOCKED for ACQUIRING (R278). -/
def State.loseLock (s : State) (i : Nat) (announce : Bool) : State :=
  let t := (s.acquire i announce).lockLost i
  if 640 ≤ i ∧ i < 648 then (t.slLeave (i - 640)).showPresent else t

/-- The ladder class of a lane (R380). -/
def laneClass (i : Nat) : Nat := if i < 640 then 2 else 3

/-- The region of a lane (R42). -/
def laneRegion (i : Nat) : Nat := if i < 256 then chRegion i else if i < 512 then chRegion (i - 256) else if i < 640 then 0x200 + (i - 512) / 8 else 0

/-- Retires a lane (R284, R295, R381): it stops carrying data, an uplink lane's port is DOWN without a hold, the
record is queued, and the structural part is due as a device-initiated apply. -/
def State.retireLane (s : State) (i : Nat) : State :=
  let t := s.setFld (F.laneSts_state i) lnRetired
  let t := if 512 ≤ i ∧ i < 640 then
      (match s.portOfLane (i - 512) with
       | some p => t.portDownNow p
       | none => t)
    else if i < 648 then (t.slLeave (i - 640)).showPresent else t
  if s.isRetired (laneClass i) i then t
  else if i = 648 then t.recordRetire 3 i
  else (t.recordRetire (laneClass i) i).dueApply (laneClass i) i

/-- A fault of a ULN or SLD lane, SLCK included (R283): counted on its ladder; the lane is reset and acquires again, or is retired. -/
def State.laneFault (s : State) (i : Nat) : State :=
  let t := (s.setFld (F.laneAlm_fault i) 1).count Cn.laneFault i
  let (t, perm) := (t.noteFault (laneRegion i) (laneClass i) i).ladder (laneClass i) i
  let t := t.setFld (F.laneFaults_faults i) (t.faultList (laneClass i) i).length
  if perm then t.retireLane i else t.acquire i true

/-- What the host may request of a lane (R282). -/
def State.reefAllowed (s : State) (i reef : Nat) : Bool :=
  if s.ln i = lnRetired ∨ s.ln i = lnOff then false
  else if i < 512 then
    (decide (s.ch (i % 256) = chOff) || decide (s.ch (i % 256) = chFault)) && (decide (reef = 2) || decide (reef = 0))
  else if i < 640 then (s.portOfLane (i - 512)).isSome
  else !(s.flag F.laneSlCtrl_enable)

/-- Begins a granted request (R282). -/
def State.reefBegin (s : State) (i reef : Nat) : State :=
  let l := s.laneOf i
  if reef = 0 then
    if l.byHost then
      if i < 512 then (s.setFld (F.laneSts_state i) (laneOfCh (s.ch (i % 256)))).setLane i { l with byHost := false }
      else s.acquire i true
    else s
  else s.setLane i { l with entering := some reef }

/-- LANE_REEF_REQUEST (R282): refused, begun, or taken when the entry in progress ends. -/
def execLaneReefRequest (s : State) (m : Master) (i : LaneIx) (reef : BitVec 2) : Host.Outcome State Fault Refusal :=
  let i := i.val
  if mayWrite m ∧ s.released 6 = true ∧ reef ≠ 3 then
    let t := s.setFld (F.laneCtrl_reef i) reef.toNat
    if s.reefAllowed i reef.toNat then
      let l := s.laneOf i
      if l.entering.isSome then .next (t.setLane i { l with queued := some reef.toNat }) else .next (t.reefBegin i reef.toNat)
    else .next (t.setFld (F.laneAlm_reef_refused i) 1)
  else .next s

/-- LANE_REEF_ENTERED (R282): the entry in progress ends; a request that waited takes effect. The lane does not lose lock (R278), but an SLD lane
leaves the link (R289). -/
def execLaneReefEntered (s : State) (i : LaneIx) : Host.Outcome State Fault Refusal :=
  let i := i.val
  let l := s.laneOf i
  match l.entering with
  | none => .next s
  | some r =>
    let t := (s.setFld (F.laneSts_state i) (if r = 1 then lnReef1 else lnReef2)).setLane i { laneInit with byHost := true }
    let t := if s.ln i = lnLocked ∧ 640 ≤ i ∧ i < 648 then (t.slLeave (i - 640)).showPresent else t
    match l.queued with
    | some q => .next (t.reefBegin i q)
    | none => .next t

/-- LANE_RESTART (LANE_CTRL restart): the lane acquires again from its last good set and no fault is counted. -/
def execLaneRestart (s : State) (m : Master) (i : LaneIx) : Host.Outcome State Fault Refusal :=
  let i := i.val
  if mayWrite m ∧ s.released 6 = true then
    if s.ln i = lnLocked then .next (s.loseLock i true)
    else if s.ln i = lnAcquiring then .next (s.acquire i (s.laneOf i).announce)
    else .next s
  else .next s

/-- LANE_LOCK_ACQUIRED (R278): an ACQUIRING lane is LOCKED, which is posted after a fault or a Reef exit. -/
def execLaneLockAcquired (s : State) (i : LaneIx) : Host.Outcome State Fault Refusal :=
  let i := i.val
  if s.ln i = lnAcquiring then
    let t := (s.setFld (F.laneSts_state i) lnLocked).setFld (F.laneSts_sig_det i) 1
    let t := if (s.laneOf i).announce then (t.post 0x0902 [i]).recovered (laneRegion i) (laneClass i) i else t
    let t := t.setLane i { t.laneOf i with announce := false }
    if 640 ≤ i then .next t.showPresent else .next t
  else .next s

/-- The eight coefficients of a set (R280). -/
def coefs (w0 w1 : Nat) : List Int :=
  [(bits w0 31 27 : Nat), (bits w0 26 22 : Nat), signed 6 (bits w0 21 16), signed 5 (bits w0 15 11), signed 5 (bits w0 10 6), signed 5 (bits w0 5 1),
    signed 6 (bits w1 31 26), signed 6 (bits w1 25 20)]

/-- A step is a sign-sign step (R281): a coefficient that moves does so by 1, and none moved in the 15 windows before. -/
def coefStepOk (old new : List Int) (since : List Nat) : Bool :=
  (List.range 8).all (fun j => let d := new.getD j 0 - old.getD j 0
    decide (d = 0) || ((decide (d = 1) || decide (d = -1)) && decide (since.getD j 16 ≥ 16)))

/-- ADAPT_WINDOW (R279, R281): one window of a LOCKED ULN or SLD lane with trans transitions and figure of merit fom; c0 and c1 are the
coefficients after the window's sign-sign step, taken where every coefficient moves as R281 allows and without the bits the lane does not use (R280). -/
def execAdaptWindow (s : State) (i : LaneIx) (trans : BitVec 12) (fom : BitVec 8) (c0 c1 : Word) : Host.Outcome State Fault Refusal :=
  let i := i.val
  if 512 ≤ i ∧ i < 648 ∧ s.ln i = lnLocked then
    let td := 100 * trans.toNat / 4095
    let t := (s.setFld (F.laneFom_fom i) fom.toNat).setFld (F.laneFom_density i) td
    let t := t.setFld (F.laneFom_fom_min i) (min (s.fld (F.laneFom_fom_min i)) fom.toNat)
    let l : LaneSt := { t.laneOf i with since := (t.laneOf i).since.map (fun n => min 16 (n + 1)) }
    if s.flag (F.laneAdapt_adapt_en i) then
      if td < s.fld (F.laneAdapt_td_min i) then
        let t := if s.flag (F.laneSts_frozen i) then t
          else ((t.setFld (F.laneSts_frozen i) 1).count Cn.laneFreeze i).setFld (F.laneAlm_freeze i) 1
        .next (t.setLane i { l with okRun := 0, run := 0 })
      else if s.flag (F.laneSts_frozen i) then
        if l.okRun + 1 < 4 then .next (t.setLane i { l with okRun := l.okRun + 1 })
        else
          let t := (t.setFld (F.laneSts_frozen i) 0).setLane i { l with okRun := l.okRun + 1 }
          if fom.toNat < s.fld (F.laneFom_fom_good i) - s.fld (F.laneAdapt_restore_margin i) then
            let t := (t.setFld (F.laneCoef i 0) (s.fld (F.laneGood i 0))).setFld (F.laneCoef i 1) (s.fld (F.laneGood i 1))
            .next (((t.count Cn.laneRestore i).setFld (F.laneAlm_restore i) 1).post 0x0903 [i])
          else .next t
      else
        let old := coefs (s.fld (F.laneCoef i 0)) (s.fld (F.laneCoef i 1))
        let w0 := c0.toNat / 2 * 2
        let w1 := if i < 640 then c1.toNat / 2 ^ 20 * 2 ^ 20 else s.fld (F.laneCoef i 1)
        let new := coefs w0 w1
        let ok := coefStepOk old new l.since
        let t := if ok then (t.setFld (F.laneCoef i 0) w0).setFld (F.laneCoef i 1) w1 else t
        let l : LaneSt := if ok then { l with since := (List.range 8).map (fun j => if new.getD j 0 = old.getD j 0 then l.since.getD j 16 else 0) } else l
        if l.run + 1 = 1024 then
          let t := (t.setFld (F.laneGood i 0) (t.fld (F.laneCoef i 0))).setFld (F.laneGood i 1) (t.fld (F.laneCoef i 1))
          .next (((t.setFld (F.laneFom_fom_good i) fom.toNat).setFld (F.laneSts_good_valid i) 1).setLane i { l with run := 0 })
        else .next (t.setLane i { l with run := l.run + 1 })
    else .next (t.setLane i l)
  else .next s

/-- The SLD lanes that are LOCKED. -/
def State.lockedSld (s : State) : List Nat := [640, 641, 642, 643, 644, 645, 646, 647].filter (fun i => decide (s.ln i = lnLocked))

/-- LANE_LOCK_LOSS (R278, R283, R294): a lane leaves LOCKED. While its detector still sees a signal a ULN or SLD lane has a fault; a lane
of a channel counts on the channel's ladder; losing SLCK in forwarded-clock mode takes every SLD lane with it and stops island 80. -/
def execLaneLockLoss (s : State) (i : LaneIx) (signal : Bool) : Host.Outcome State Fault Refusal :=
  let i := i.val
  if s.ln i = lnLocked then
    if i < 512 then
      if s.ch (i % 256) = chRunning then .next ((s.lockLost i).faultPort (i % 256))
      else .next (s.loseLock i false)
    else
      let t := (s.setFld (F.laneSts_sig_det i) signal.toNat).loseLock i signal
      if i = 648 ∧ s.rig.run.mate.rateMatched = false then
        .next (s.lockedSld.foldl (fun (t : State) k => (t.loseLock k true).laneFault k) t)
      else if signal then .next (t.laneFault i) else .next t
  else .next s

/-- FOM_FAIL_TIMER (R283): a figure of merit below fom_fail for 10 ms on a LOCKED lane that is not frozen is a fault. -/
def execFomFailTimer (s : State) (i : LaneIx) : Host.Outcome State Fault Refusal :=
  let i := i.val
  if 512 ≤ i ∧ i < 648 ∧ s.ln i = lnLocked ∧ s.flag (F.laneSts_frozen i) = false ∧ s.fld (F.laneFom_fom i) < s.fld (F.laneAdapt_fom_fail i) then
    .next ((s.loseLock i true).laneFault i)
  else .next s

/-- The width the link comes up with (R295): all eight lanes, or the half that holds no retired lane. -/
def State.slWidth (s : State) : Nat :=
  let ok := fun (l : List Nat) => l.all (fun k => s.sldBound k && !s.isRetired 3 (640 + k))
  if ok [0, 1, 2, 3, 4, 5, 6, 7] then 3 else if ok [0, 1, 2, 3] then 1 else if ok [4, 5, 6, 7] then 2 else 0

/-- SL_ENABLE (LANE_SL_CTRL): enable = 1 brings the link up at its widest (R382): the SLD lanes and SLCK acquire. enable = 0 ends framing. -/
def execSlEnable (s : State) (m : Master) (enable : Bool) : Host.Outcome State Fault Refusal :=
  if mayWrite m ∧ s.released 6 = true then
    let t := s.setFld F.laneSlCtrl_enable enable.toNat
    if enable = s.flag F.laneSlCtrl_enable then .next t
    else
      let t := { t with lanes := { t.lanes with sl := [], width := if enable then t.slWidth else t.lanes.width } }
      let t := (t.setFld F.laneSlSts_mode_mismatch 0).setFld F.laneSlSts_mode t.rig.run.mate.rateMatched.toNat
      let wake := [640, 641, 642, 643, 644, 645, 646, 647, 648].filter (fun i => decide (t.ln i = lnReef1) || decide (t.ln i = lnReef2))
      let t := if enable then wake.foldl (fun (t : State) i => if i = 648 ∨ t.sldBound (i - 640) = true then t.acquire i true else t) t else t
      .next t.judgeLink
  else .next s

/-- Saturating count in 16 bits. -/
def satU16 (n : Nat) : Nat := min 65535 n

/-- SL_SYNC_BLOCK (R286 to R291): the block at lane k's expected position (any offset in SEARCH) is w; stuff stuffed bits did not break
their run, empty slots passed no block since the last sync block, and the lane is skew bit times from the earliest. -/
def execSlSyncBlock (s : State) (k : BitVec 3) (w : BitVec 64) (stuff empty : BitVec 8) (skew : BitVec 13) : Host.Outcome State Fault Refusal :=
  let k := k.toNat
  if s.flag F.laneSlCtrl_enable = true ∧ s.ln (640 + k) = lnLocked then
    let v := w.toNat
    let l := s.slOf k
    let word := decide (bits v 63 48 = 0xB53C)
    let hcs := decide (crc8 (beBytes 7 (v / 256)) = v % 256)
    let ok := word && hcs
    let ix := bits v 47 42
    let seq := bits v 35 8
    let follows := decide (ix = (l.ix + 1) % 64) && decide (seq = if l.ix = 63 then (l.seq + 1) % 2 ^ 28 else l.seq)
    let s := if word && !hcs && decide (l.st ≠ 0) then s.count Cn.slHcsErr k else s
    let s := if stuff ≠ 0 then (s.countN Cn.slStuffErr k 0 stuff.toNat).setFld F.laneSlAlm_stuff_err 1 else s
    let fill := bits v 38 37
    let s := if s.rig.run.mate.rateMatched then
        let s := (s.countN Cn.slFillDel 0 0 (if ok then fill else 0)).countN Cn.slFillIns 0 0 empty.toNat
        (s.setFld F.laneSlRm_del (satU16 (s.fld F.laneSlRm_del + (if ok then fill else 0)))).setFld F.laneSlRm_ins (satU16 (s.fld F.laneSlRm_ins + empty.toNat))
      else s
    let s := if ok && decide (fill ≠ s.rig.run.mate.rateMatched.toNat) then s.setFld F.laneSlSts_mode_mismatch 1
      else if ok then s.setFld F.laneSlSts_mode_mismatch 0 else s
    let far := decide (skew.toNat > 2048)
    let s := if far then s.setFld F.laneSlAlm_skew_err 1 else s
    let s := s.setFld F.laneSlSkew_skew (min 4095 skew.toNat)
    let h := if ok then { l with ix := ix, seq := seq, skewed := far } else { l with skewed := far }
    let s := if ok then s.setFld F.laneSlSeq_seq seq else s
    let n : SlLane :=
      if l.st = 0 then (if ok then { h with st := 1, good := 1, missed := 0, follow := 0, broken := 0 } else l)
      else if l.st = 1 then
        (if ok then (if l.good + 1 ≥ 3 then { h with st := 2, good := 0, missed := 0, follow := 0, broken := 0 } else { h with good := l.good + 1 })
         else slInit)
      else if !ok then (if l.missed + 1 ≥ 4 then slInit else { h with missed := l.missed + 1, follow := 0, broken := 0 })
      else if l.st = 2 then
        (if follows then (if l.follow + 1 ≥ 2 then { h with st := 3, missed := 0, follow := 0, broken := 0 } else { h with missed := 0, follow := l.follow + 1 })
         else { h with missed := 0, follow := 0 })
      else
        (if follows then { h with missed := 0, broken := 0 }
         else if l.broken + 1 ≥ 3 then { h with st := 2, missed := 0, follow := 0, broken := 0 } else { h with missed := 0, broken := l.broken + 1 })
    .next (s.setSl k n).judgeLink
  else .next s

end Sys2Proof.Machine
end

