-- ==== Sys2Proof/Machine/Time.lean ====
section
/-! DEFINITION. Time base, time stamps and time delivery (12_time_base.md): the clock and its steps, the pins, the time of day for the
ONUs, the digital PLLs. -/

namespace Sys2Proof.Machine

/-- The time base in units of 2^-32 ns, and the value at which it wraps (R258). -/
def State.tbu (s : State) : Nat := s.nowNs * 2 ^ 32 + s.tim.frac
def tbuMod : Nat := 2 ^ 48 * 1000000000 * 2 ^ 32

/-- The increment in force in the same units. -/
def State.incTbu (s : State) : Nat := s.tim.incNs * 2 ^ 32 + s.tim.incFrac

/-- The time base at a value. -/
def State.putTbu (s : State) (v : Int) : State :=
  let w := (v % (tbuMod : Int)).toNat
  { s with tim := { s.tim with sec := w / 2 ^ 32 / 1000000000, ns := w / 2 ^ 32 % 1000000000, frac := w % 2 ^ 32 } }

/-- A step of the time base advances gen (R260). -/
def State.stepTime (s : State) (v : Int) : State := (s.putTbu v).setFld F.timSts_gen (s.fld F.timSts_gen + 1)

/-- The TIM domain runs, and the master may write its registers. -/
def State.timWrite (s : State) (m : Master) : Bool := s.released 1 && mayWrite m

/-- TIME_BASE_TICK (R258). The device clock of the ladder's windows counts the same ticks. -/
def execTimeBaseTick (s : State) : Host.Outcome State Fault Refusal :=
  let s := { s with sup := { s.sup with tick := s.sup.tick + 1 } }
  if !s.released 1 then .next s
  else
    let f := s.tim.frac + s.tim.incFrac
    let n := s.tim.ns + s.tim.incNs + f / 2 ^ 32
    let over_ := decide (1000000000 ≤ n)
    .next { s with tim := { s.tim with
      frac := f % 2 ^ 32,
      ns := if over_ then n - 1000000000 else n,
      sec := if over_ then (s.tim.sec + 1) % 2 ^ 48 else s.tim.sec } }

/-! ### Setting the time base (R260) -/

/-- Results of TIM_SET_CMD. -/
def setCompleted : Nat := 0
def setBadArg : Nat := 1
def setTimeout : Nat := 2
def setCancelled : Nat := 3

/-- Ends a waiting SET_AT_PPS with a result, and posts TIM_SET_DONE with the result and gen. -/
def State.endSetAtPps (s : State) (r : Nat) : State :=
  let t := ((s.setFld F.timSetCmd_result r).setFld F.timSetCmd_busy 0).setFld F.timSts_set_pending 0
  ({ t with tim := { t.tim with setAtPps := none } }).post 0x0502 [r, t.fld F.timSts_gen]

/-- A new command cancels a waiting SET_AT_PPS. -/
def State.cancelSetAtPps (s : State) : State := if s.tim.setAtPps.isSome then s.endSetAtPps setCancelled else s

/-- The seconds in TIM_SET_SEC. -/
def State.setSec (s : State) : Nat := s.fld F.timSetSecHi_sec * 2 ^ 32 + s.fld F.timSetSecLo_sec

/-- SET (R260). -/
def execSet (s : State) (m : Master) : Host.Outcome State Fault Refusal :=
  if !s.timWrite m then .next s
  else
    let s := s.cancelSetAtPps
    let ns := s.fld F.timSetNs_ns
    if 1000000000 ≤ ns then .next (s.setFld F.timSetCmd_result setBadArg)
    else
      .next ((s.stepTime (((s.setSec * 1000000000 + ns) * 2 ^ 32 + s.fld F.timSetFrac_frac : Nat) : Int)).setFld F.timSetCmd_result setCompleted)

/-- ADJUST (R260): adds the signed nanoseconds and the fraction. -/
def execAdjust (s : State) (m : Master) : Host.Outcome State Fault Refusal :=
  if !s.timWrite m then .next s
  else
    let s := s.cancelSetAtPps
    let ns := s.fld F.timSetNs_ns
    if ns = 0x80000000 then .next (s.setFld F.timSetCmd_result setBadArg)
    else .next ((s.stepTime ((s.tbu : Int) + signed 32 ns * 2 ^ 32 + (s.fld F.timSetFrac_frac : Int))).setFld F.timSetCmd_result setCompleted)

/-- SET_AT_PPS (R260): the seconds are taken at the command write. -/
def execSetAtPps (s : State) (m : Master) : Host.Outcome State Fault Refusal :=
  if !s.timWrite m then .next s
  else
    let s := s.cancelSetAtPps
    let t := (s.setFld F.timSetCmd_busy 1).setFld F.timSts_set_pending 1
    .next { t with tim := { t.tim with setAtPps := some s.setSec } }

/-- SET_AT_PPS_TIMEOUT (R260): 2 s passed without an edge. -/
def execSetAtPpsTimeout (s : State) : Host.Outcome State Fault Refusal :=
  if s.tim.setAtPps.isSome then .next (s.endSetAtPps setTimeout) else .next s

/-- INC_COMMIT (R259): the held fraction and the nanoseconds written to TIM_INC_NS. -/
def execIncCommit (s : State) (m : Master) (ns : BitVec 4) : Host.Outcome State Fault Refusal :=
  if !s.timWrite m then .next s
  else if ns = 1 ∧ 0x99652BD4 ≤ s.tim.incHeld ∧ s.tim.incHeld ≤ 0x99CE075F then
    let t := (s.setFld F.timIncFrac_frac s.tim.incHeld).setFld F.timIncNs_ns ns.toNat
    .next { t with tim := { t.tim with incNs := ns.toNat, incFrac := s.tim.incHeld } }
  else .next ((s.setFld F.timSts_inc_rejected 1).post 0x0501 [])

/-! ### Reads with effects -/

/-- TIME_NOW_READ (R261): latches the fraction and the seconds of the same tick for the reader. -/
def execTimeNowRead (s : State) (m : Master) : Host.Outcome State Fault Refusal :=
  if !s.released 1 || !reaches m then .next (s.reply [0])
  else
    .next ((((s.latch m F.timNowFrac.addr s.tim.frac).latch m F.timNowSecLo.addr s.tim.sec).latch m F.timNowSecHi.addr
      (s.tim.sec / 2 ^ 32)).reply [s.tim.ns])

/-- SFC_READ (R68): a read of PCH_SFC_LO latches the three other registers of the same frame. -/
def execSfcRead (s : State) (m : Master) (c : Chan) : Host.Outcome State Fault Refusal :=
  let n := c.toNat
  if !s.released 7 || !reaches m then .next (s.reply [0])
  else
    .next ((((s.latch m (F.pchSfcHi n).addr (s.fld (F.pchSfcHi_sfc n))).latch m (F.pchFstartSec n).addr (s.fld (F.pchFstartSec_sec n))).latch m
      (F.pchFstartNs n).addr (s.fld (F.pchFstartNs_ns n))).reply [s.fld (F.pchSfcLo_sfc n)])

/-- TSQ_READ (R265): removes the oldest entry and latches its other words; an empty queue returns 0. -/
def execTsqRead (s : State) (m : Master) (u : Uplink) : Host.Outcome State Fault Refusal :=
  if !s.timWrite m then .next (s.reply [0])
  else
    match Tbl.find s.tim.tsq u.toNat [] with
    | [] => .next (s.reply [0])
    | e :: r =>
      let t := { s with tim := { s.tim with tsq := Tbl.put s.tim.tsq u.toNat [] r } }
      let t := t.setFld (F.timTsqSts_count u.toNat) r.length
      .next (((t.latch m (F.timTsqW1 u.toNat).addr e.w1).latch m (F.timTsqW2 u.toNat).addr e.w2).reply [e.w0])

/-- PPSI_READ (R268): latches TIM_PPSI_HI and clears its fresh bit. -/
def execPpsiRead (s : State) (m : Master) : Host.Outcome State Fault Refusal :=
  if !s.released 1 || !reaches m then .next (s.reply [0])
  else
    let hi := s.fld F.timPpsiHi_hi
    .next (((s.latch m F.timPpsiHi.addr hi).setFld F.timPpsiHi_hi (hi / 2 * 2)).reply [s.fld F.timPpsiNs_ns])

/-! ### Pins (R268) -/

/-- An instant of the time base in 2^-32 ns as a stamp, to the nearest 1/64 ns (R262). -/
def stampOf (v : Int) : Stamp :=
  let q := ((v + 2 ^ 25) / 2 ^ 26 % ((2 ^ 48 * 1000000000 * 64 : Nat) : Int)).toNat
  { ns := q / 64 % 1000000000, hi := q / 64 / 1000000000 % 2 ^ 16 * 65536 + q % 64 * 1024 }

/-- PPS_IN_EDGE (R263, R268): the edge is stamped, and completes a waiting SET_AT_PPS (R260). phase counts the 128 parts of the tick
that passed since the last tick. -/
def execPpsInEdge (s : State) (phase : BitVec 7) : Host.Outcome State Fault Refusal :=
  if !s.released 1 || !s.flag F.timCtrl_pps_in_en then .next s
  else
    let cal := signed 16 (s.fld F.timPpsCal_in_cal)
    let part := phase.toNat * s.incTbu / 128
    let x := stampOf (((s.tbu + part : Nat) : Int) - cal * 2 ^ 26)
    let t := ((s.setFld F.timPpsiNs_ns x.ns).setFld F.timPpsiHi_hi (x.hi + 1)).count Cn.ppsInEdges 0
    let t := { t with tim := { t.tim with ppsLost := false } }
    match t.tim.setAtPps with
    | none => .next t
    | some sec => .next ((t.stepTime (((sec * 1000000000 * 2 ^ 32 : Nat) : Int) - part + cal * 2 ^ 26)).endSetAtPps setCompleted)

/-- PPS_IN_LOSS (R268): posted once until an edge returns. -/
def execPpsInLoss (s : State) : Host.Outcome State Fault Refusal :=
  if !s.released 1 || !s.flag F.timCtrl_pps_in_en || s.tim.ppsLost then .next s
  else
    let t := s.setFld F.timSts_pps_in_loss 1
    .next (({ t with tim := { t.tim with ppsLost := true } }).post 0x0506 [])

/-- PPS_OUT_EDGE (R268): the pulse of the whole second that stands out_cal before the present instant. -/
def execPpsOutEdge (s : State) : Host.Outcome State Fault Refusal :=
  if !s.released 1 || !s.flag F.timCtrl_pps_out_en then .next s
  else
    let v := (s.tbu : Int) - signed 16 (s.fld F.timPpsCal_out_cal) * 2 ^ 26 + 500000000 * 2 ^ 32
    let sec := (v % (tbuMod : Int)).toNat / 2 ^ 32 / 1000000000
    let t := s.emit (.pps sec)
    .next { t with tim := { t.tim with ppsEdge := some sec } }

/-- The out_mode 1 message of an edge (R268). -/
def State.todMessage (s : State) (sec : Nat) : List Nat :=
  let body := [1, 14] ++ beBytes 6 sec ++ [s.fld F.timTodCfg_status, s.fld F.timSts_dplle * 4 + s.fld F.timSts_dplls, 0]
  [0xC3, 0x5A] ++ body ++ [body.foldl Nat.xor 0]

/-- The host's buffer, 32 bytes. -/
def State.todoBuf (s : State) : List Nat := (List.range 8).flatMap (fun n => leBytes 4 (s.reg (F.timTodoBuf n).addr).toNat)

/-- TOD_OUT_MESSAGE (R268): offset_ms after a PPS_OUT edge, the message of the mode that describes the edge. -/
def execTodOutMessage (s : State) : Host.Outcome State Fault Refusal :=
  match s.tim.ppsEdge with
  | none => .next s
  | some sec =>
    let t := { s with tim := { s.tim with ppsEdge := none } }
    let idle := decide (t.fld F.timTodCfg_baud = 3)
    if t.fld F.timTodCfg_out_mode = 1 then .next (if idle then t else t.emit (.tod (t.todMessage sec)))
    else if t.fld F.timTodCfg_out_mode = 2 then
      if t.flag F.timTodoLen_armed then
        .next (if idle then t else (t.setFld F.timTodoLen_armed 0).emit (.tod (t.todoBuf.take (t.fld F.timTodoLen_len))))
      else .next (t.count Cn.todoSkipped 0)
    else .next t

/-- TODO_ARM: a write of TIM_TODO_LEN sets len and armed. -/
def execTodoArm (s : State) (m : Master) (len : BitVec 6) : Host.Outcome State Fault Refusal :=
  if s.timWrite m then .next ((s.setFld F.timTodoLen_len len.toNat).setFld F.timTodoLen_armed 1) else .next s

/-- TOD_IN_BYTE (R268): enters the FIFO of 64 bytes, or sets overflow. -/
def execTodInByte (s : State) (b : Byte) : Host.Outcome State Fault Refusal :=
  if !s.released 1 then .next s
  else if s.tim.todi.length < 64 then
    let t := { s with tim := { s.tim with todi := s.tim.todi ++ [b.toNat] } }
    .next (t.setFld F.timTodiSts_bytes t.tim.todi.length)
  else .next ((s.setFld F.timTodiSts_overflow 1).count Cn.todiOverflow 0)

/-- TODI_READ (R268): removes one byte. -/
def execTodiRead (s : State) (m : Master) : Host.Outcome State Fault Refusal :=
  if !s.released 1 || !reaches m then .next (s.reply [0])
  else
    match s.tim.todi with
    | [] => .next (s.reply [0])
    | b :: r =>
      let t := { s with tim := { s.tim with todi := r } }
      .next ((t.setFld F.timTodiSts_bytes r.length).reply [256 + b])

/-! ### Time of day for the ONUs (R266) -/

/-- Results of TIM_TOD_CMD. -/
def todCompleted : Nat := 0
def todNotActive : Nat := 1
def todOutOfRange : Nat := 2
def todWrongChannel : Nat := 3

/-- k of a channel in 1/65,536: other values than 0x4000 to 0xC000 are taken as 0x8000. -/
def State.todK (s : State) (c : Nat) : Nat :=
  let k := s.fld (F.timTchK_k c)
  if 0x4000 ≤ k ∧ k ≤ 0xC000 then k else 0x8000

/-- TstampN in 1/64 ns (R266): d superframes after the last frame started on channel c, for a live residue of res ticks. A ranging tick is
1/398.1312 ns, so the residue term is a fraction over 65,536 × 3,981,312; the result is rounded once, halves upward. -/
def State.tstamp (s : State) (c d : Nat) (res : Int) : Nat :=
  let t := s.dsOf c
  let fs := (t.startSec * 1000000000 + s.fld (F.pchFstartNs_ns c)) * 2 ^ 32 + t.startFrac
  let base : Int := ((fs + d * (78125 * s.incTbu) : Nat) : Int) + signed 32 (s.fld (F.timTchCal_ds_cal c)) * 2 ^ 26
  let den : Int := 65536 * 3981312
  let num : Int := base * den - ((s.todK c : Nat) : Int) * res * 10000 * 2 ^ 32
  ((2 * num + den * 2 ^ 26) / (2 * den * 2 ^ 26) % ((2 ^ 48 * 1000000000 * 64 : Nat) : Int)).toNat

/-- TOD_CALC (R266): the first result that applies of WRONG_CHANNEL, NOT_ACTIVE and OUT_OF_RANGE, else the prediction and gen. -/
def execTodCalc (s : State) (m : Master) : Host.Outcome State Fault Refusal :=
  if !s.timWrite m then .next s
  else
    let c := s.fld F.timTodArg0_channel
    let o := s.onuOf (s.fld F.timTodArg0_onu)
    let last := s.fld (F.pchSfcHi_sfc c) * 2 ^ 32 + s.fld (F.pchSfcLo_sfc c)
    let n := s.fld F.timTodArg2_sfc * 2 ^ 32 + s.fld F.timTodArg1_sfc
    let d := (n + 2 ^ 51 - last) % 2 ^ 51
    if o.st ≠ 0 ∧ o.chan ≠ c then .next (s.setFld F.timTodCmd_result todWrongChannel)
    else if o.st ≠ 4 ∨ s.ch c ≠ chRunning then .next (s.setFld F.timTodCmd_result todNotActive)
    else if d = 0 ∨ 65535 < d then .next (s.setFld F.timTodCmd_result todOutOfRange)
    else
      let q := s.tstamp c d ((o.residue : Int) - o.f)
      let sec := q / 64 / 1000000000
      .next ((((((s.setFld F.timTodResSecLo_sec sec).setFld F.timTodResSecHi_sec (sec / 2 ^ 32)).setFld F.timTodResSecHi_gen
        (s.fld F.timSts_gen)).setFld F.timTodResNs_ns (q / 64 % 1000000000)).setFld F.timTodResSub_sub (q % 64)).setFld F.timTodCmd_result
        todCompleted)

/-! ### Digital PLLs (R269) -/

/-- States of a DPLL. -/
def dpFree : Nat := 0
def dpAcquiring : Nat := 1
def dpLocked : Nat := 2
def dpHoldover : Nat := 3

/-- The state field of DPLL-E or DPLL-S. -/
def dpFld (e : Bool) : Fld := if e then F.timSts_dplle else F.timSts_dplls

/-- The configuration selects a reference; force_ho. -/
def State.dpRef (s : State) (e : Bool) : Bool := if e then s.fld F.timDpllE_src ≠ 3 else s.fld F.timDpllS_ref ≠ 3
def State.dpForce (s : State) (e : Bool) : Bool := if e then s.flag F.timDpllE_force_ho else s.flag F.timDpllS_force_ho

/-- A DPLL enters HOLDOVER: TIM_DPLL_HOLDOVER carries which. -/
def State.dpHold (s : State) (e : Bool) : State := (s.setFld (dpFld e) dpHoldover).post 0x0504 [Config.eventWord 0x0504 e.toNat]

/-- The reserved bits of TIM_DPLL_S and TIM_DPLL_E. -/
def dpReserved (e : Bool) : Word := if e then 0x00FF00F3 else 0x7FFF00FC

/-- DPLL_CONFIG_WRITE (R269): acquisition restarts, or the DPLL runs free, or force_ho holds it over. -/
def execDpllConfigWrite (s : State) (m : Master) (e : Bool) (data : Word) : Host.Outcome State Fault Refusal :=
  if !s.timWrite m then .next s
  else if data &&& dpReserved e ≠ 0 then .fault .unpredictable
  else
    let t := s.setReg (if e then F.timDpllE.addr else F.timDpllS.addr) data
    if !t.dpRef e then .next (t.setFld (dpFld e) dpFree)
    else if t.dpForce e then .next ((t.setFld (dpFld e) dpAcquiring).dpHold e)
    else .next (t.setFld (dpFld e) dpAcquiring)

/-- DPLL_LOCK (R269): the phase error stayed below 2 ns for 10 s. -/
def execDpllLock (s : State) (e : Bool) : Host.Outcome State Fault Refusal :=
  if s.released 1 ∧ s.fld (dpFld e) = dpAcquiring then .next ((s.setFld (dpFld e) dpLocked).post 0x0505 [Config.eventWord 0x0505 e.toNat]) else .next s

/-- DPLL_REF_LOSS (R269). -/
def execDpllRefLoss (s : State) (e : Bool) : Host.Outcome State Fault Refusal :=
  if s.released 1 ∧ (s.fld (dpFld e) = dpAcquiring ∨ s.fld (dpFld e) = dpLocked) then .next (s.dpHold e) else .next s

/-- DPLL_REF_RETURN (R269): the reference was valid for 1 s; force_ho keeps the DPLL in HOLDOVER. -/
def execDpllRefReturn (s : State) (e : Bool) : Host.Outcome State Fault Refusal :=
  if s.released 1 ∧ s.fld (dpFld e) = dpHoldover ∧ s.dpRef e = true ∧ s.dpForce e = false then
    .next (s.setFld (dpFld e) dpAcquiring)
  else .next s

end Sys2Proof.Machine
end

