-- ==== Sys2Proof/Machine/Mate.lean ====
section
/-! DEFINITION. Mate pairs (14_mate_pairs.md): pair states, heartbeats and contest, the mirror, switch-over and return. -/

namespace Sys2Proof.Machine

/-- Pair states (R302). -/
def mpUnpaired : Nat := 0
def mpSeeking : Nat := 1
def mpSyncing : Nat := 2
def mpStandby : Nat := 3
def mpActive : Nat := 4
def mpContested : Nat := 5
def mpMismatch : Nat := 6
def mpReleasing : Nat := 7

def State.pair (s : State) : Nat := s.fld F.mateSts_state
def State.mateLast (s : State) : Nat := s.fld F.mateSts_mate_state
def State.lockout (s : State) : Bool := s.flag F.mateSts_lockout

/-- Ends the wait-to-restore timer and withdraws a revert request (R313). -/
def State.stopWtr (s : State) : State :=
  ({ s with mate := { s.mate with wtr := none, revert := false } }).setFld F.mateSts_wtr_running 0

/-- A change of pair state (R316). -/
def State.movePair (s : State) (st : Nat) : State :=
  let t := (s.setFld F.mateSts_state st).setFld F.mateSts_undecided 0
  let t := { t with mate := { t.mate with syncGot := false } }
  (if st = mpStandby then t else t.stopWtr).post 0x0701 [st]

/-- Sends SYNC_REQ (R306). -/
def State.syncReqOut (s : State) : State := if s.linkUp then (s.sendStay 0x17 [0]).count Cn.mateMsgTx 0x17 else s

/-- Enters SYNCING and asks for a bulk sync. -/
def State.toSyncing (s : State) : State := (s.movePair mpSyncing).syncReqOut

/-- Discards what the mirror holds (R302, R307): frame timing, ONU contexts, unicast and group keys, dynamic forwarding entries. Alloc credit
stays, since a sync does not carry it. -/
def State.discardMirror (s : State) : State :=
  let t := (s.shr.keys.map (·.1)).foldl (fun (t : State) n => t.dropKey (keyName 3 n)) s
  let t := (s.shr.grp.map (·.1)).foldl (fun (t : State) n => t.dropKey (keyName 4 n)) t
  let t := (t.fwd.slots.map (·.1)).foldl (fun (t : State) l =>
    match t.slot l with
    | some e => if e.static_ then t else t.clearSlot l
    | none => t) t
  { t with onu := [], shr := { t.shr with keys := [], grp := [] }, mate := { t.mate with frames := [], heldKeys := [] } }

/-- STANDBY to SYNCING (R302): sequence gap, tag failure or RESYNC. -/
def State.resync (s : State) : State := (s.discardMirror.toSyncing).post 0x0706 []

/-- The mate role becomes standby (R65, R303): the channels that run or start stand by. -/
def State.yieldAll (s : State) : State :=
  (List.range 256).foldl (fun (t : State) c => if t.ch c = chRunning ∨ t.ch c = chStarting then t.standBy c else t) s

/-! ### Time between the parts (R308) -/

/-- This part's time base in 1/64 ns. -/
def State.now64 (s : State) : Int := (s.nowNs * 64 + s.tim.frac / 2 ^ 26 : Nat)

/-- A 32-bit seconds value as the full value nearest this part's time base. -/
def State.near32 (s : State) (x : Nat) : Int := (s.tim.sec : Int) + (((x : Int) - (s.tim.sec : Int) + 2 ^ 31) % 2 ^ 32 - 2 ^ 31)

/-- An instant of the mate's time base in this part's, in 1/64 ns. -/
def State.fromMate (s : State) (sec ns : Nat) : Int := (s.near32 sec * 1000000000 + ns) * 64 - signed 32 (s.fld F.mateOfs_ofs)

/-- Ticks of R110 in 1/64 ns. -/
def ticks64 (t : Int) : Int := t * 640000 / 3981312

/-- k frames of this part's PON reference, in 1/64 ns. -/
def State.frames64 (s : State) (k : Nat) : Int := (k * 78125 * s.incTbu / 2 ^ 26 : Nat)

/-- Number of frames from a boundary to the first boundary at or after an instant. -/
def State.framesTo (s : State) (boundary at_ : Int) : Nat :=
  let d := at_ - boundary
  let k := (d * 2 ^ 26 / (78125 * s.incTbu : Nat)).toNat
  if boundary + s.frames64 k < at_ then k + 1 else k

/-! ### Entering ACTIVE (R303, R309) -/

/-- A channel leaves STANDBY with the mirrored frame timing: its next frame is the first at or after an instant. The registers of the frame last
started stand at the boundary before it, and the mirrored map is the one to repeat. -/
def State.leaveStandby (s : State) (c : Nat) (at_ : Int) (f : MirFrame) : State :=
  let k := s.framesTo f.boundary at_
  let sfc := (f.sfc + k + 2 ^ 51 - 1) % 2 ^ 51
  let t0 := (f.boundary + s.frames64 k - s.frames64 1) / 64
  let t := ((s.moveCh c chRunning).setPort c port0).setFld (F.pchSts_laser_on c) 1
  let t := (((t.setFld (F.pchSfcLo_sfc c) sfc).setFld (F.pchSfcHi_sfc c) (sfc / 2 ^ 32)).setFld (F.pchFstartSec_sec c)
    (t0 / 1000000000).toNat).setFld (F.pchFstartNs_ns c) (t0 % 1000000000).toNat
  let t := t.setDs c { t.dsOf c with frames := 0, space := 0, map := f.map, startSec := (t0 / 1000000000).toNat, startFrac := 0 }
  t.setHal c { halChInit with mirrored := true, last := f.map }

/-- The channel a part that becomes ACTIVE brings up. -/
def State.raiseCh (s : State) (at_ : Int) (c : Nat) : State :=
  if s.ch c = chStandby then
    match Tbl.find s.mate.frames c none with
    | some f => s.leaveStandby c at_ f
    | none => ((s.moveCh c chOff).setPort c port0).tryStart c
  else s

/-- The mask of enabled channels that are not RUNNING, as eight words, and their numbers. -/
def State.notRunning (s : State) : List Nat :=
  (List.range 256).filter (fun c => s.flag (F.pchCtrl_enable c) && decide (s.fld (F.pchMode_mode c) ≠ 0) && decide (s.ch c ≠ chRunning))
def maskWords (l : List Nat) : List Nat := (List.range 8).map (fun w => (l.filter (fun c => decide (c / 32 = w))).foldl (fun a c => a + 2 ^ (c % 32)) 0)

/-- The KEYS blobs held for the channels that satisfy p take effect (R250, R307), oldest first. -/
def State.takeKeys (s : State) (p : Nat → Bool) : State :=
  let t := { s with mate := { s.mate with heldKeys := s.mate.heldKeys.filter (fun x => !p x.1) } }
  (s.mate.heldKeys.filter (fun x => p x.1)).foldl (fun (t : State) x => (t.restoreBlob x.2).1) t

/-- Enters ACTIVE, with transmission from 10 µs after the present instant: channels leave STANDBY (R303), dynamic entries are fresh, Halyard
starts without backlog and telltales, contexts in ASSIGNED or RANGING go to IDLE (R309). Keys that still wait take effect (R307). -/
def State.enterActive (s : State) : State :=
  let at_ := s.now64 + 640000 + 64000 * (s.rig.run.mate.txOnUs : Int)
  let t := (s.movePair mpActive).takeKeys (fun _ => true)
  let t := { t with fwd := { t.fwd with slots := t.fwd.slots.map (fun x => (x.1, x.2.map (fun e => if e.static_ then e else { e with refreshed := true, age := 0 }))) },
                    hal := { t.hal with dyn := (t.hal.dyn.map (fun x => (x.1, { x.2 with b := 0, granted := [], lastPoll := 255 }))).filter (fun x => decide (x.2 ≠ allocDyn0)) } }
  let t := (List.range 256).foldl (fun (t : State) c => t.raiseCh at_ c) t
  ((t.onu.filter (fun p => decide (p.2.st = 2) || decide (p.2.st = 3))).map (·.1)).foldl (fun (t : State) n => t.toIdle n) t

/-- A switch-over into ACTIVE (R309): MATE_LAST, the counter and MATE_SWITCHOVER with the cause, the frames not sent and the mask. -/
def State.switchOver (s : State) (cause : Nat) : State :=
  let t := s.enterActive
  let firsts := (List.range 256).filterMap (fun c =>
    if s.ch c = chStandby ∧ t.ch c = chRunning then
      some (t.fld (F.pchFstartSec_sec c) * 1000000000 + t.fld (F.pchFstartNs_ns c) + 125000 - s.nowNs % (2 ^ 32 * 1000000000))
    else none)
  let planned := decide (4 ≤ cause) && decide (cause ≤ 7)
  let frames := if planned then 1 else t.free 4
  let t := if planned then t else t.tickFree
  let us := match firsts.min? with
    | some n => min 65535 (n / 1000)
    | none => 0
  let late := t.notRunning
  let t := ((t.setFld F.mateLast_cause cause).setFld F.mateLast_frames frames).setFld F.mateLast_time_us us
  let t := { t with mate := { t.mate with awaiting := late, handover := none } }
  (t.countN Cn.mateSwitchover 0 cause 1).post 0x0702 ([cause, frames] ++ maskWords late)

/-! ### Planned switch-over (R311) -/

/-- A planned switch-over starts: the boundary is the first PON frame boundary at least 250 µs ahead, and HANDOVER is sent. -/
def State.startHandover (s : State) (cause : Nat) : State :=
  let at_ := s.now64 + 250000 * 64
  let b := match (List.range 256).find? (fun c => decide (s.ch c = chRunning)) with
    | some c =>
      let f := (s.near32 (s.fld (F.pchFstartSec_sec c)) * 1000000000 + (s.fld (F.pchFstartNs_ns c) : Int)) * 64
      f + s.frames64 (s.framesTo f at_)
    | none => at_
  let sec := (b / 64 / 1000000000).toNat
  let ns := (b / 64 % 1000000000).toNat
  let t := (s.sendStay 0x16 [sec % 2 ^ 32 * 2 ^ 32 + ns]).count Cn.mateMsgTx 0x16
  { t with mate := { t.mate with handover := some { cause := cause, sec := sec, ns := ns, giving := true } } }

/-- The ACTIVE part may give control to its mate in STANDBY. -/
def State.mayGive (s : State) : Bool :=
  decide (s.pair = mpActive) && s.mate.hbValid && decide (s.mateLast = mpStandby) && s.mate.handover.isNone && s.linkUp

/-- A channel was retired on an ACTIVE part with sw_on_retire (R302). -/
def State.retiredGives (s : State) : State := if s.rig.run.mate.swOnRetire && s.mayGive then s.startHandover 6 else s

/-- HANDOVER_BOUNDARY (R311): the part that gives turns its lasers off and enters SYNCING, and a MANUAL completes; the part that takes enters
ACTIVE, but for lockout. -/
def execHandoverBoundary (s : State) : Host.Outcome State Fault Refusal :=
  match s.mate.handover with
  | none => .next s
  | some h =>
    let t := { s with mate := { s.mate with handover := none } }
    if h.giving then
      let t := if t.flag F.mateCmd_busy then (t.setFld F.mateCmd_busy 0).setFld F.mateCmd_result (if s.pair = mpActive then 0 else 1) else t
      .next (if s.pair = mpActive then t.toSyncing.yieldAll else t)
    else .next (if s.pair = mpStandby ∧ s.lockout = false then t.switchOver h.cause else t)

/-! ### Start of the pair, heartbeats and contest -/

/-- The end of start-up (R302): UNPAIRED, or SEEKING with MATE_STS showing the rigged precedence and preference. -/
def State.mateStart (s : State) : State :=
  let m := s.rig.run.mate
  let t := (s.setFld F.mateSts_own_prec m.prec).setFld F.mateSts_preferred m.preferred.toNat
  if m.pairEn then t.movePair mpSeeking else t

/-- Sends a heartbeat with a state (R293). -/
def State.heartbeat (s : State) (st : Nat) : State :=
  if s.rig.run.mate.pairEn && s.linkUp then
    let n := (s.mate.hbCount + 1) % 2 ^ 32
    let t := (s.sendStay 0x01
      [st * 2 ^ 56 + s.rig.run.mate.prec * 2 ^ 48 + s.epoch * 2 ^ 32 + s.mate.seqRx.getD 0, n * 2 ^ 32 + s.mate.revert.toNat * 2 ^ 31 + s.tim.ns]).count
      Cn.mateHbTx 0
    { t with mate := { t.mate with hbCount := n } }
  else s

/-- A part that begins a reset of its data-plane domains while ACTIVE: lasers off, then one heartbeat in RELEASING (R304). -/
def State.releasing (s : State) : State :=
  if s.pair = mpActive ∧ s.rig.run.mate.pairEn = true then
    ((List.range 256).foldl (fun (t : State) c => t.setFld (F.pchSts_laser_on c) 0) s).heartbeat mpReleasing
  else s

/-- HEARTBEAT_SEND (R304). -/
def execHeartbeatSend (s : State) : Host.Outcome State Fault Refusal := .next (s.heartbeat s.pair)

/-- A received message of type 0x01 or above (R292): nothing while the link is down; a failing tag, or an
unassigned type, discards it; a gap is counted. On a part in
STANDBY both start a resync (R302). -/
def State.mateRx (s : State) (h : MsgHdr) (f : State → State) : Host.Outcome State Fault Refusal :=
  if !s.linkUp then .next s
  else if !h.tagOk then
    let t := (s.count Cn.slTagErr 0).setFld F.laneSlAlm_tag_err 1
    .next (if s.pair = mpStandby then t.resync else t)
  else if !h.typOk then .next (s.count Cn.slBadType 0)
  else
    let gap := match s.mate.seqRx with
      | some p => decide (h.seq ≠ (p + 1) % 2 ^ 32)
      | none => false
    let t := ({ s with mate := { s.mate with seqRx := some h.seq } }).count Cn.slMsgRx 0
    let t := if gap then (t.count Cn.slSeqGap 0).setFld F.laneSlAlm_seq_gap 1 else t
    .next (f (if gap && decide (s.pair = mpStandby) then t.resync else t))

/-- The part applies the mirror (R302, R307): it is SYNCING or STANDBY. -/
def State.applies (s : State) : Bool := decide (s.pair = mpSyncing) || decide (s.pair = mpStandby)

/-- MISMATCH with its reason: 0 digest, 1 precedence, 2 flags (R300). A part that is ACTIVE stays ACTIVE and stops mirroring. -/
def State.mismatched (s : State) (why : Nat) : State :=
  if s.pair = mpSeeking ∨ s.pair = mpSyncing ∨ s.pair = mpStandby then
    (s.movePair mpMismatch).post 0x0707 [Config.eventWord 0x0707 why]
  else if s.pair = mpActive ∧ s.mate.mismatch = false then
    ({ s with mate := { s.mate with mismatch := true } }).post 0x0707 [Config.eventWord 0x0707 why]
  else s

/-- A valid heartbeat moves the pair state (R302). -/
def State.heed (s : State) (h : Heartbeat) : State :=
  if s.pair = mpSeeking then
    if h.st = mpActive then s.toSyncing
    else if h.st = mpSeeking ∧ h.prec = s.rig.run.mate.prec then s.mismatched 1
    else if h.st = mpSeeking ∧ h.prec < s.rig.run.mate.prec ∧ s.lockout = false then s.enterActive
    else s
  else if s.pair = mpStandby then
    if h.st = mpReleasing ∧ s.lockout = false then s.switchOver 3 else s
  else if s.pair = mpContested then
    if h.st = mpActive then s.toSyncing else s.movePair mpSeeking
  else if s.pair = mpActive ∧ h.revert = true ∧ s.mayGive = true then s.startHandover 5
  else s

/-- HEARTBEAT_RECEIVED (R293, R302, R304). -/
def execHeartbeatReceived (s : State) (h : Heartbeat) : Host.Outcome State Fault Refusal :=
  if !s.rig.run.mate.pairEn then .next s
  else
    s.mateRx h.hdr (fun s =>
      let t := (s.count Cn.mateHbRx 0).setFld F.mateHb_seq h.count
      let t := (t.setFld F.mateSts_mate_state h.st).setFld F.mateSts_mate_prec h.prec
      let t := { t with mate := { t.mate with hbValid := true, mateEpoch := h.epoch, mateRevert := h.revert,
                                              epochSaid := t.mate.epochSaid && decide (h.epoch ≠ t.epoch) } }
      t.heed h)

/-- HEARTBEAT_LOSS (R304, R305). -/
def execHeartbeatLoss (s : State) : Host.Outcome State Fault Refusal :=
  let p := s.pair
  if s.mate.hbValid = false ∨ ¬ (p = mpSeeking ∨ p = mpSyncing ∨ p = mpStandby ∨ p = mpActive) then .next s
  else
    let m := s.rig.run.mate
    let own := decide (p = mpActive) || decide (p = mpStandby)
    let mate := decide (s.mateLast = mpActive) || decide (s.mateLast = mpStandby)
    let ev := (List.range 256).any (fun c => s.flag (F.pchCtrl_enable c) && s.onu.any (fun x => decide (x.2.chan = c) && decide (x.2.st = 4)))
    let t := s.setFld F.mateHb_lost (s.fld F.mateHb_lost + m.hbMiss)
    let t := { t with mate := { t.mate with hbValid := false, wasActive := own, evidence := ev } }
    if own && !s.lockout && (!mate || decide (s.fld F.mateSts_mate_prec < m.prec)) then
      if p = mpActive then .next (t.post 0x0703 [Config.eventWord 0x0703 1])
      else .next ((t.post 0x0703 [Config.eventWord 0x0703 0]).switchOver 1)
    else
      let t := (t.movePair mpContested).post 0x0703 [Config.eventWord 0x0703 2]
      .next (if p = mpActive then t.yieldAll else t)

/-- CONTEST_TAKEOVER (R305): mate absence and quiet trees held for contest_ms. -/
def execContestTakeover (s : State) : Host.Outcome State Fault Refusal :=
  if s.pair = mpContested ∧ s.mate.wasActive = true ∧ s.lockout = false ∧ s.mate.evidence = true ∧ s.flag F.laneSlSts_present = false then
    .next (s.switchOver 2)
  else .next s

/-- MATE_UNDECIDED is posted once. -/
def State.undecided (s : State) : State := if s.flag F.mateSts_undecided then s else (s.setFld F.mateSts_undecided 1).post 0x0704 []

/-- CONTEST_TIMEOUT (R305). -/
def execContestTimeout (s : State) : Host.Outcome State Fault Refusal := .next (if s.pair = mpContested then s.undecided else s)

/-- SEEK_TIMEOUT (R302). -/
def execSeekTimeout (s : State) : Host.Outcome State Fault Refusal :=
  .next (if s.pair = mpSeeking ∧ s.flag F.laneSlSts_present = false then s.undecided else s)

/-! ### Commands of MATE_CMD -/

/-- Results of MATE_CMD. -/
def mrCompleted : Nat := 0
def mrNotReady : Nat := 1
def mrBadState : Nat := 2
def mrLockedOut : Nat := 3

/-- A command of MATE_CMD by a master that may write it, unless one runs (R405). -/
def State.mateRun (s : State) (m : Master) (f : State → State × Nat) : Host.Outcome State Fault Refusal :=
  if mayWrite m ∧ s.released 7 = true ∧ s.flag F.mateCmd_busy = false then
    let (t, r) := f s
    .next (t.setFld F.mateCmd_result r)
  else .next s

/-- MANUAL (R311): completes at the boundary. mateLockout: the mate has lockout set. -/
def execManual (s : State) (m : Master) (mateLockout : Bool) : Host.Outcome State Fault Refusal :=
  s.mateRun m (fun s =>
    if s.pair ≠ mpActive then (s, mrBadState)
    else if !s.mayGive then (s, mrNotReady)
    else if mateLockout then (s, mrLockedOut)
    else ((s.startHandover 4).setFld F.mateCmd_busy 1, mrCompleted))

/-- FORCE_ACTIVE (R302). -/
def execForceActive (s : State) (m : Master) : Host.Outcome State Fault Refusal :=
  s.mateRun m (fun s =>
    if s.mate.hbValid ∧ s.mateLast = mpActive then (s, mrBadState)
    else if s.pair = mpActive then (s, mrCompleted)
    else (s.switchOver 8, mrCompleted))

/-- LOCKOUT_SET (R302, R313). -/
def execLockoutSet (s : State) (m : Master) : Host.Outcome State Fault Refusal :=
  s.mateRun m (fun s =>
    if s.pair = mpActive then
      if s.mayGive then ((s.setFld F.mateSts_lockout 1).startHandover 7, mrCompleted) else (s, mrNotReady)
    else (s.stopWtr.setFld F.mateSts_lockout 1, mrCompleted))

/-- LOCKOUT_CLR. -/
def execLockoutClr (s : State) (m : Master) : Host.Outcome State Fault Refusal :=
  s.mateRun m (fun s => (s.setFld F.mateSts_lockout 0, mrCompleted))

/-- RESYNC (R302). -/
def execResync (s : State) (m : Master) : Host.Outcome State Fault Refusal :=
  s.mateRun m (fun s => if s.pair = mpStandby then (s.resync, mrCompleted) else (s, mrBadState))

/-- The timer of R313 ends: the revert bit of the heartbeats is set. -/
def State.askRevert (s : State) : State :=
  ({ s with mate := { s.mate with wtr := none, revert := true } }).setFld F.mateSts_wtr_running 0

/-- REVERT_NOW (R313). -/
def execRevertNow (s : State) (m : Master) : Host.Outcome State Fault Refusal :=
  s.mateRun m (fun s => if s.mate.wtr.isSome then (s.askRevert, mrCompleted) else (s, mrBadState))

/-- WTR_EXPIRY (R313). -/
def execWtrExpiry (s : State) : Host.Outcome State Fault Refusal := .next (if s.mate.wtr.isSome then s.askRevert else s)

/-- SYNCING to STANDBY (R302, R313): SYNC_DONE was received and a FRAME message is held for every channel with enable = 1. -/
def State.maySync (s : State) : State :=
  let m := s.rig.run.mate
  if s.pair = mpSyncing ∧ s.mate.syncGot = true ∧
      (List.range 256).all (fun c => !(s.flag (F.pchCtrl_enable c)) || (Tbl.find s.mate.frames c none).isSome) = true then
    let t := (s.movePair mpStandby).post 0x0705 []
    if m.revertive && m.preferred && !s.lockout && !s.mate.flagsBad && decide (s.mateLast = mpActive) then
      ({ t with mate := { t.mate with wtr := some t.sup.tick } }).setFld F.mateSts_wtr_running 1
    else t
  else s

/-! ### Mirror messages received (R306, R307) -/

/-- A mirror message of a type applied by a standby. -/
def State.mirrorRx (s : State) (h : MsgHdr) (typ : Nat) (f : State → State) : Host.Outcome State Fault Refusal :=
  s.mateRx h (fun s => if s.applies then f (s.count Cn.mateMsgRx typ) else s)

/-- A mirrored allocation structure with the Alloc context it names. -/
def mirEnt (unit : Nat) (a : MirAlloc) : MapEnt :=
  { alloc := a.alloc, allocId := a.allocId, onu := a.onu, dbru := a.dbru, ploam := a.ploam, start := a.start, size := a.size, fwi := a.fwi,
    profile := a.profile, kind := if a.allocId = 0x3FF then 1 else 0, pay := a.size * unit - (if a.dbru then 4 else 0), fixed := 0, asg := 0 }

/-- The mirrored entries with the shares they are charged by. -/
def State.mirShares (s : State) (n : Snap) (e : MapEnt) : MapEnt :=
  match n.allocs.find? (fun x => decide (x.1 = e.alloc)) with
  | some x => ((s.allocDyn x.1).accrue x.2 n.ac).shares x.2 e
  | none => e

/-- FRAME_MESSAGE (R307, R308): the map is checked and charged, and the frame's boundary kept. One arrives in each PON frame of a channel, so the
contexts and keys received for the channel before it take effect with it: their frame boundary has come. DESIGN CHOICE (log). -/
def execFrameMessage (s : State) (f : FrameMsg) : Host.Outcome State Fault Refusal :=
  s.mirrorRx f.hdr 0x10 (fun s =>
    let s := (s.commitCtx f.chan).takeKeys (fun c => decide (c = f.chan))
    let n := s.snapOf f.chan f.sfc
    let old := Tbl.find s.mate.frames f.chan none
    let m := if f.held then (match old with
        | some o => o.map
        | none => []) else (f.map.map (mirEnt n.unit)).map (s.mirShares n)
    let s := if !f.held && decide (checkMap n m ≠ 0) then s.count Cn.mateMapReject f.chan else s
    let s := s.chargeMap f.sfc n.ac m n.allocs
    let b := s.fromMate f.sec f.ns + ticks64 (f.feed - signed 32 (s.fld (F.mateFeed_feed f.chan)))
    let s := { s with mate := { s.mate with
      frames := Tbl.put s.mate.frames f.chan none (some { sfc := f.sfc, boundary := b, map := m, held := f.held }) } }
    s.maySync)

/-- ONU_MESSAGE (R127, R307): the context takes effect at the next PON frame boundary. -/
def execOnuMessage (s : State) (o : OnuMsg) : Host.Outcome State Fault Refusal :=
  s.mirrorRx o.hdr 0x11 (fun s =>
    let x := s.onuOf o.ctx
    (s.setOnu o.ctx { x with st := o.st, chan := o.chan, sn0 := o.sn0, sn1 := o.sn1, onuId := o.onuId, keyIx := o.keyIx, rtd := o.rtd,
                             eqd := o.eqd, residue := o.residue, f := o.f, presetValid := o.presetValid, preset := o.preset,
                             fomPreset := o.fomPreset, seqU := o.seqU }).cleanRec 3 kOnuCtx o.ctx)

/-- The channel whose frame boundary a KEYS blob waits for: that of its ONU context or group key state; none for a FREE context or another kind. -/
def State.blobChan (s : State) (b : List Nat) : Option Nat :=
  let ix := numAt b 8 4
  if numAt b 3 1 = 4 then some ix
  else if numAt b 3 1 = 3 ∧ (s.onuOf ix).st ≠ 0 then some (s.onuOf ix).chan
  else none

/-- KEYS_MESSAGE (R250, R307): the blob is restored at the next PON frame boundary of its channel; without a channel it is at once. -/
def execKeysMessage (s : State) (h : MsgHdr) (b : List Byte) : Host.Outcome State Fault Refusal :=
  s.mirrorRx h 0x12 (fun s =>
    let l := b.map (·.toNat)
    match s.blobChan l with
    | some c => { s with mate := { s.mate with heldKeys := s.mate.heldKeys ++ [(c, l)] } }
    | none => (s.restoreBlob l).1)

/-- One LEARN record (R306, R307). -/
def State.takeLearn (s : State) (r : LearnRec) : State :=
  let (s, _, f) := s.lookup r.part r.key s.epoch []
  let new : FwdEnt :=
    { key := r.key, flowEn := decide (bits r.w2 31 31 = 1), lag := decide (bits r.w2 30 30 = 1), dest := bits r.w2 29 21, flow := bits r.w2 17 0,
      static_ := false, pinned := false, refreshed := true, age := 0, moves := 0, win := 0, addP := false, delP := false, part := r.part,
      newIn := false, gone := false }
  match f with
  | none =>
    if r.op = 1 ∨ r.op = 2 then
      match s.insertEnt new with
      | (t, true) => t
      | (t, false) => t.count Cn.mateLearnFull 0
    else s
  | some (loc, e) =>
    if e.static_ then s
    else if r.op = 1 ∨ r.op = 2 then s.setSlot loc (some { e with flowEn := new.flowEn, lag := new.lag, dest := new.dest, flow := new.flow })
    else if r.op = 3 ∨ r.op = 4 then s.clearSlot loc
    else if r.op = 5 then s.setSlot loc (some { e with pinned := true })
    else if r.op = 6 then s.setSlot loc (some { e with pinned := false })
    else s

/-- LEARN_MESSAGE (R307): through the insertion procedure of R184. -/
def execLearnMessage (s : State) (h : MsgHdr) (recs : List LearnRec) : Host.Outcome State Fault Refusal :=
  s.mirrorRx h 0x13 (fun s => recs.foldl (fun (t : State) r => t.takeLearn r) s)

/-- HELLO_MESSAGE (R300, R302). -/
def execHelloMessage (s : State) (h : MsgHdr) (digest prec : Nat) (preferred : Bool) : Host.Outcome State Fault Refusal :=
  s.mateRx h (fun s =>
    let s := s.count Cn.mateMsgRx 0x14
    let m := s.rig.run.mate
    let bad := m.preferred == preferred
    let said := s.mate.flagsBad
    let s := { s with mate := { s.mate with flagsBad := bad } }
    let s := if bad && !said then s.post 0x0707 [Config.eventWord 0x0707 2] else s
    if digest ≠ s.rig.run.helloDigest then s.mismatched 0
    else if prec = m.prec then s.mismatched 1
    else if s.pair = mpMismatch then s.movePair mpSeeking
    else { s with mate := { s.mate with mismatch := false } })

/-- A stamp in 1/64 ns, within its 16 bits of seconds. -/
def stamp64 (t : Stamp) : Int := ((t.hi / 65536 * 1000000000 + t.ns) * 64 + t.hi / 1024 % 64 : Nat)

/-- The signed difference of two stamps. -/
def stampDiff (a b : Stamp) : Int :=
  let w : Int := (65536 * 1000000000 * 64 : Nat)
  (stamp64 a - stamp64 b + w / 2) % w - w / 2

/-- The mean of the kept values, rounded down. -/
def meanOf (l : List Int) : Int := if l.isEmpty then 0 else l.foldl (· + ·) 0 / (l.length : Int)

/-- A value that saturates at 32 bits, signed. -/
def sat32 (v : Int) : Int := if v > 2147483647 then 2147483647 else if v < -2147483648 then -2147483648 else v

/-- TIMING_MESSAGE (R308): d is this part's arrival stamp of the TIMING before less the departure it names; the offset and the mean latency
follow. -/
def execTimingMessage (s : State) (h : MsgHdr) (arrival departed : Stamp) (d : Int) : Host.Outcome State Fault Refusal :=
  s.mateRx h (fun s =>
    let s := s.count Cn.mateMsgRx 0x15
    let ds := match s.mate.lastArrival with
      | some a => (stampDiff a departed :: s.mate.ds).take 64
      | none => s.mate.ds
    let own := meanOf ds
    let t := { s with mate := { s.mate with ds := ds, lastArrival := some arrival, dMate := d } }
    let t := t.setFld F.mateOfs_ofs (unsigned 32 (sat32 ((d - own + signed 32 (t.fld F.mateAsym_asym)) / 2)))
    t.setFld F.mateLat_lat (unsigned 32 ((own + d) / 2)))

/-- HANDOVER_MESSAGE (R311, R313): the switch-over starts, and a revert request is withdrawn. The message names no cause: 5 when this part asked for the return, else one of 4, 6 and 7 the model leaves free. -/
def execHandoverMessage (s : State) (h : MsgHdr) (sec : Word) (ns : BitVec 30) : Host.Outcome State Fault Refusal :=
  s.mateRx h (fun s =>
    if s.pair = mpStandby then
      let s := s.count Cn.mateMsgRx 0x16
      let cause := if s.mate.revert then 5 else [4, 6, 7].getD (s.free 2 % 3) 4
      let b := s.fromMate sec.toNat ns.toNat / 64
      let t := if s.mate.revert then s else s.tickFree
      { t with mate := { t.mate with revert := false, handover := some { cause := cause, sec := (b / 1000000000).toNat, ns := (b % 1000000000).toNat, giving := false } } }
    else s)

/-! ### Mirror messages sent (R306) -/

/-- The two blocks of a LEARN record. -/
def learnBlocks (x : Nat × FwdEnt) : List Nat := [x.1 * 2 ^ 60 + x.2.part * 2 ^ 56 + entWord2 x.2, x.2.key]

/-- Sends dynamic entries as LEARN messages of at most 255 records. -/
def State.sendLearn (s : State) : Nat → List (Nat × FwdEnt) → State
  | 0, _ => s
  | n + 1, l => if l.isEmpty then s else (s.mirror 0x13 ((l.take 255).flatMap learnBlocks)).sendLearn n (l.drop 255)

/-- SYNC_REQ (R306): the ACTIVE part sends every ONU context that is not FREE, the keys, every dynamic entry, and SYNC_DONE. -/
def execSyncReq (s : State) (h : MsgHdr) : Host.Outcome State Fault Refusal :=
  s.mateRx h (fun s =>
    if s.mirroring then
      let s := s.count Cn.mateMsgRx 0x17
      let s := ((s.onu.filter (fun p => decide (p.2.st ≠ 0))).map (·.1)).foldl (fun (t : State) n => t.mirrorOnu n) s
      let s := (s.shr.keys.map (·.1)).foldl (fun (t : State) n => t.mirrorKeys 3 n) s
      let s := (s.shr.grp.map (·.1)).foldl (fun (t : State) n => t.mirrorKeys 4 n) s
      let dyn := s.fwd.slots.filterMap (fun x => match x.2 with
        | some e => if e.static_ then none else some (1, e)
        | none => none)
      let s := ({ s with mate := { s.mate with learnOut := [] } }).sendLearn dyn.length dyn
      s.mirror 0x17 [1]
    else s)

/-- SYNC_DONE (R302). -/
def execSyncDone (s : State) (h : MsgHdr) : Host.Outcome State Fault Refusal :=
  s.mateRx h (fun s =>
    if s.pair = mpSyncing then
      let s := s.count Cn.mateMsgRx 0x17
      ({ s with mate := { s.mate with syncGot := true } }).maySync
    else s)

/-- LEARN_MESSAGE_SEND (R306): the changes not yet sent, at most 255. -/
def execLearnMessageSend (s : State) : Host.Outcome State Fault Refusal :=
  if s.mirroring && s.linkUp && !s.mate.learnOut.isEmpty then
    let t := s.mirror 0x13 ((s.mate.learnOut.take 255).flatMap learnBlocks)
    .next { t with mate := { t.mate with learnOut := s.mate.learnOut.drop 255 } }
  else .next s

/-- HELLO_SEND (R306): the digest of the running image, the precedence and the flags. -/
def execHelloSend (s : State) : Host.Outcome State Fault Refusal :=
  let m := s.rig.run.mate
  if m.pairEn && s.linkUp then
    let d := s.rig.run.helloDigest
    let words := [320, 256, 192, 128, 64, 0].map (fun n => d / 2 ^ n % 2 ^ 64)
    .next ((s.sendStay 0x14 (words ++ [m.prec * 2 ^ 56 + (m.preferred.toNat + 2 * m.revertive.toNat + 4 * m.swOnRetire.toNat) * 2 ^ 48])).count
      Cn.mateMsgTx 0x14)
  else .next s

/-- TIMING_SEND (R306): the departure of the TIMING before, and this part's d. -/
def execTimingSend (s : State) (departure : Stamp) : Host.Outcome State Fault Refusal :=
  if s.rig.run.mate.pairEn && s.linkUp then
    let p := s.mate.lastDeparture.getD { ns := 0, hi := 0 }
    let t := (s.sendStay 0x15 [p.hi * 2 ^ 32 + p.ns, unsigned 64 (meanOf s.mate.ds)]).count Cn.mateMsgTx 0x15
    .next { t with mate := { t.mate with lastDeparture := some departure } }
  else .next s

/-- ONU_ROUND_ROBIN_SEND (R306). -/
def execOnuRoundRobinSend (s : State) (onu : Onu) : Host.Outcome State Fault Refusal := .next (s.mirrorOnu onu.toNat)

/-- EPOCH_DIFF_TIMER (R301): the epochs differed for 1 s without a break. -/
def execEpochDiffTimer (s : State) : Host.Outcome State Fault Refusal :=
  if s.mate.hbValid ∧ s.mate.mateEpoch ≠ s.epoch ∧ s.mate.epochSaid = false then
    .next (({ s with mate := { s.mate with epochSaid := true } }).post 0x0708 [])
  else .next s

/-- MATE_PATH_FAULT: 2 s after a switch-over a channel has not reached RUNNING. -/
def execMatePathFault (s : State) (c : Chan) : Host.Outcome State Fault Refusal :=
  let c := c.toNat
  if s.mate.awaiting.contains c then
    let t := { s with mate := { s.mate with awaiting := s.mate.awaiting.erase c } }
    .next (if s.ch c = chRunning then t else t.post 0x0709 [c])
  else .next s

end Sys2Proof.Machine
end

