-- ==== Sys2Proof/Machine/Mem.lean ====
section
/-! DEFINITION. Memory integrity: the merge buffers, the scrubber, the flip mask, the tracker's ageing, sparing, DRAM refresh, the flash
and reading the journal (15_memory_integrity.md). -/

namespace Sys2Proof.Machine

/-! ### Merge buffers -/

/-- A memory with a merge buffer (R320). -/
def mergeMem (mem : Nat) : Bool := decide (mem = 0) || (decide (0x10 ≤ mem) && decide (mem ≤ 0x13))

/-- Entries of a merge buffer. -/
def mergeCap (mem : Nat) : Nat := if mem = 0 then 16 else 64

/-- Bytes of a code word. -/
def wordBytes (mem : Nat) : Nat := if memClass mem = 9 then 64 else if mem = 0x01 ∨ mem = 0x02 then 16 else if mem = 0x07 then 4 else 8

/-- The merge buffer that serves a word: each set of 16 banks has its own, and each DRAM island. -/
def mergeSet (mem ix : Nat) : Nat := mem * 256 + (if mem = 0 then bankOf mem ix / 16 else 0)

/-- The memory exists in the running profile (R3, R317). -/
def State.memBound (s : State) (mem : Nat) : Bool :=
  if 0x10 ≤ mem then decide (mem ≤ 0x13) && decide (s.rig.run.drams / 2 ^ (mem - 0x10) % 2 = 1) else decide (mem ≤ 0x09)

/-- The words of a memory. -/
def wordsOf (mem : Nat) : Nat := banksOf mem * wordsPerBank mem

/-- Entries of a buffer and, behind its capacity, writers that wait for one, oldest first. -/
def State.mergeSetOf (s : State) (k : Nat) : List MergeEnt := s.mem.merge.filter (fun e => decide (mergeSet e.mem e.ix = k))

/-- The entry, or the waiting writer, of a word. -/
def State.mergeEnt (s : State) (mem ix : Nat) : Option MergeEnt := s.mem.merge.find? (fun e => decide (e.mem = mem) && decide (e.ix = ix))

/-- The word is held in a merge entry. -/
def State.mergeHeld (s : State) (mem ix : Nat) : Bool := ((s.mergeSetOf (mergeSet mem ix)).take (mergeCap mem)).any (fun e => decide (e.mem = mem) && decide (e.ix = ix))

def State.dropMerge (s : State) (mem ix : Nat) : State :=
  { s with mem := { s.mem with merge := s.mem.merge.filter (fun e => !(decide (e.mem = mem) && decide (e.ix = ix))) } }

def State.setMerge (s : State) (e : MergeEnt) : State :=
  { s with mem := { s.mem with merge := s.mem.merge.map (fun x => if x.mem = e.mem ∧ x.ix = e.ix then e else x) } }

/-- Every byte of the entry's word has been written. -/
def mergeFull (e : MergeEnt) : Bool := decide (wordBytes e.mem ≤ e.bytes.length)

/-- Writes an entry to its memory (R320): with a fresh code when every byte was written or the read was good or corrected, else with the
poison pattern, which is logged and counted unless the word was poisoned already. -/
def State.writeMerge (s : State) (e : MergeEnt) : State :=
  let t := s.dropMerge e.mem e.ix
  if mergeFull e then t.noteWrite e.mem e.ix
  else if t.poisoned e.mem e.ix then t
  else
    match e.read with
    | some .uncorrectable => (t.poisonWord e.mem e.ix 2).post 0x0601 [e.mem, e.ix, Config.ownerBlock e.mem e.ix, Config.ownerObject e.mem e.ix]
    | some .oneBit => ((t.noteWrite e.mem e.ix).count Cn.memCe e.mem).offerWeak e.mem e.ix
    | _ => t.noteWrite e.mem e.ix

/-- While a writer waits for an entry of a buffer, the oldest entry is written as soon as its read has returned. -/
def State.relieve (s : State) (k cap : Nat) : State :=
  match s.mergeSetOf k with
  | [] => s
  | e :: r => if cap ≤ r.length ∧ e.read.isSome = true then s.writeMerge e else s

/-- Byte positions a narrow write gives, those of the word only. -/
def mergeBytes (mem : Nat) (b : Table (Option Nat)) (l : List (BitVec 6 × Byte)) : Table (Option Nat) :=
  l.foldl (fun (t : Table (Option Nat)) x => if x.1.toNat < wordBytes mem then Tbl.put t x.1.toNat none (some x.2.toNat) else t) b

/-- NARROW_WRITE (R320): the bytes go into the word's entry, or take one; a full buffer makes the writer wait for its oldest entry. -/
def execNarrowWrite (s : State) (mem : BitVec 8) (ix : Word) (bytes : List (BitVec 6 × Byte)) : Host.Outcome State Fault Refusal :=
  let m := mem.toNat
  let i := ix.toNat
  if mergeMem m ∧ s.memBound m = true ∧ i < wordsOf m ∧ s.released (if m = 0 then 7 else 4) = true then
    match s.mergeEnt m i with
    | some e =>
      let e := { e with bytes := mergeBytes m e.bytes bytes }
      let t := s.setMerge e
      .next (if mergeFull e ∧ t.mergeHeld m i = true then t.writeMerge e else t)
    | none =>
      let e : MergeEnt := { mem := m, ix := i, bytes := mergeBytes m [] bytes, read := none, order := s.mem.order }
      let t := { s with mem := { s.mem with merge := s.mem.merge ++ [e], order := s.mem.order + 1 } }
      let t := if mergeFull e ∧ t.mergeHeld m i = true then t.writeMerge e else t
      .next (t.relieve (mergeSet m i) (mergeCap m))
  else .next s

/-- MERGE_READ_RETURN (R320): the read of an entry's word returns. -/
def execMergeReadReturn (s : State) (mem : BitVec 8) (ix : Word) (ecc : Ecc) : Host.Outcome State Fault Refusal :=
  let m := mem.toNat
  let i := ix.toNat
  match s.mergeEnt m i with
  | some e =>
    if e.read.isSome ∨ s.mergeHeld m i = false then .next s
    else
      let e := { e with read := some (s.eccOf m i ecc) }
      let t := s.setMerge e
      if mergeFull e then .next ((t.writeMerge e).relieve (mergeSet m i) (mergeCap m)) else .next (t.relieve (mergeSet m i) (mergeCap m))
  | none => .next s

/-- MERGE_ENTRY_TIMEOUT (R320): 1 µs after its read returned the entry is written. -/
def execMergeEntryTimeout (s : State) (mem : BitVec 8) (ix : Word) : Host.Outcome State Fault Refusal :=
  match s.mergeEnt mem.toNat ix.toNat with
  | some e => if e.read.isSome then .next (s.writeMerge e) else .next s
  | none => .next s

/-! ### Scrubber -/

/-- A master may write the registers of MEM, and MEM is out of reset. -/
def State.memMay (s : State) (m : Master) : Bool := mayWrite m && s.released 4

/-- Results of MEM_SCRUB_CMD. -/
def scrubAborted : Nat := 2
def scrubLate : Nat := 3
def scrubBadArg : Nat := 4

/-- SCRUB_START (R323): a START while a pass runs is lost; one with a bad range or memory completes BAD_ARG; else a pass begins. -/
def execScrubStart (s : State) (m : Master) (mem : BitVec 8) : Host.Outcome State Fault Refusal :=
  if s.memMay m then
    if s.mem.scrub.running then .next (s.setFld F.memSts_start_lost 1)
    else
      let t := s.setFld F.memScrubCmd_mem mem.toNat
      let a := t.fld F.memScrubStart_idx
      let b := t.fld F.memScrubEnd_idx
      if a ≤ b ∧ b < wordsOf mem.toNat ∧ t.memBound mem.toNat = true then
        let t := ((t.setFld F.memScrubCmd_result 0).setFld F.memScrubCmd_busy 1).setFld F.memSts_scrub_busy 1
        .next { t with mem := { t.mem with scrub := { mem := mem.toNat, first := a, last := b, next := a, done := 0,
                                                      number := (t.mem.scrub.number + 1) % 2 ^ 32, checked := 0, corrected := 0,
                                                      poisoned := 0, already := 0, skipped := 0, weakMade := 0, spares := 0, running := true,
                                                      ended := false, aborted := false, startTick := t.sup.tick } } }
      else .next (t.setFld F.memScrubCmd_result scrubBadArg)
  else .next s

/-- SCRUB_ABORT (R323): before the read of the end word it stops the pass; after it, it completes ABORT_LATE and has no effect. -/
def execScrubAbort (s : State) (m : Master) : Host.Outcome State Fault Refusal :=
  if s.memMay m then
    if s.mem.scrub.running ∧ s.mem.scrub.ended = false then
      .next { s with mem := { s.mem with scrub := { s.mem.scrub with ended := true, aborted := true } } }
    else if s.mem.scrub.number = 0 then .next s
    else .next (s.setFld F.memScrubCmd_result scrubLate)
  else .next s

/-- The pass moves on from its word. -/
def State.scrubNext (s : State) : State :=
  let c := s.mem.scrub
  { s with mem := { s.mem with scrub := { c with next := c.next + 1, ended := decide (c.last ≤ c.next) } } }

/-- The word is checked: it counts, and it is the last one checked. -/
def State.scrubChecked (s : State) (f : ScrubSt → ScrubSt) : State :=
  let c := s.mem.scrub
  ((({ s with mem := { s.mem with scrub := { f c with checked := c.checked + 1, done := c.next } } }).setFld F.memScrubPos_pos c.next)).scrubNext

/-- SCRUB_WORD (R322): the next word of the pass; rewritten says that a write of it was taken since the read. -/
def execScrubWord (s : State) (ecc : Ecc) (rewritten : Bool) : Host.Outcome State Fault Refusal :=
  let c := s.mem.scrub
  if c.running = true ∧ c.ended = false ∧ s.sup.reefed = false then
    let m := c.mem
    let i := c.next
    if s.mergeHeld m i then
      .next ({ s with mem := { s.mem with scrub := { c with skipped := c.skipped + 1 } } }).scrubNext
    else if s.poisoned m i then .next (s.scrubChecked (fun c => { c with already := c.already + 1 }))
    else
      let known := s.mem.tracker.any (fun e => decide (e.mem = m) && decide (e.ix = i))
      let made := if s.exempt || known then 0 else 1
      match s.eccOf m i ecc with
      | .clean => .next (s.scrubChecked id)
      | .oneBit =>
        if rewritten then .next (s.scrubChecked (fun c => { c with skipped := c.skipped + 1 }))
        else
          let t := ((s.setFlip m i 0).count Cn.memCe m).offerWeak m i
          let n := t.mem.copying.length - s.mem.copying.length
          .next (t.scrubChecked (fun c => { c with corrected := c.corrected + 1, weakMade := c.weakMade + made, spares := c.spares + n }))
      | .uncorrectable =>
        if rewritten then .next (s.scrubChecked (fun c => { c with skipped := c.skipped + 1 }))
        else
          let t := (s.poisonWord m i 1).post 0x0601 [m, i, Config.ownerBlock m i, Config.ownerObject m i]
          let n := t.mem.copying.length - s.mem.copying.length
          .next (t.scrubChecked (fun c => { c with poisoned := c.poisoned + 1, weakMade := c.weakMade + made, spares := c.spares + n }))
  else .next s

/-- The summary of a pass (R324). -/
def scrubSummary (c : ScrubSt) (us : Nat) : List Nat :=
  leBytes 2 1 ++ [c.mem, if c.aborted then 2 else 1] ++ leBytes 4 c.number ++ leBytes 4 c.first ++ leBytes 4 c.last ++ leBytes 4 c.done ++
    leBytes 4 c.checked ++ leBytes 4 c.corrected ++ leBytes 4 c.poisoned ++ leBytes 4 c.already ++ leBytes 4 c.skipped ++
    leBytes 2 c.weakMade ++ leBytes 2 c.spares ++ leBytes 4 us ++ List.replicate 16 0

/-- SCRUB_DONE (R324): the summary is written, and SCRUB_DONE posted with the completion. -/
def execScrubDone (s : State) (us : Word) : Host.Outcome State Fault Refusal :=
  let c := s.mem.scrub
  if c.running = true ∧ c.ended = true then
    let r := if c.aborted then scrubAborted else 1
    let a := s.fld F.memScrubSumHi_addr * 2 ^ 32 + s.fld F.memScrubSumLo_addr * 64
    let t := s.hostWrite a (scrubSummary c us.toNat)
    let t := ((t.setFld F.memScrubCmd_result r).setFld F.memScrubCmd_busy 0).setFld F.memSts_scrub_busy 0
    let t := { t with mem := { t.mem with scrub := { c with running := false } } }
    .next ((t.count Cn.scrubPasses c.mem).post 0x0602 [r])
  else .next s

/-! ### Flip mask, tracker, sparing -/

/-- FLIP_ARM (R325): only master identity 0x00 writes MEM_FLIP_CTRL; nbits 0 and 3 arm nothing. -/
def execFlipArm (s : State) (m : Master) (ctrl : Word) : Host.Outcome State Fault Refusal :=
  if m = 0 ∧ s.released 4 = true then
    let n := getBits ctrl 28 2
    let arm := decide (getBits ctrl 31 1 = 1) && (decide (n = 1) || decide (n = 2))
    .next (((s.setReg F.memFlipCtrl.addr ctrl).setFld F.memFlipCtrl_armed arm.toNat).setFld F.memSts_flip_armed arm.toNat)
  else .next s

/-- WEAK_ENTRY_AGE (R326): an entry uncorrected for weak_age minutes is freed. -/
def execWeakEntryAge (s : State) (mem : BitVec 8) (ix : Word) : Host.Outcome State Fault Refusal := .next (s.freeWeak mem.toNat ix.toNat)

/-- The copy of a bank or row has ended. -/
def State.endCopy (s : State) (mem bank : Nat) : State :=
  let t := { s with mem := { s.mem with copying := s.mem.copying.filter (fun x => decide (x ≠ (mem, bank))),
                                        spared := Tbl.put s.mem.spared mem 0 (Tbl.find s.mem.spared mem 0 + 1) } }
  t.count Cn.memSpared mem

/-- SPARE_COPY_DONE (R328): newly uncorrectable words are poisoned, correctable ones copied corrected; reads move to the spare, and the
bank's retirement is journalled, with MEM_SPARE_DONE when its record is written. -/
def execSpareCopyDone (s : State) (mem : BitVec 8) (bank : BitVec 8) (bad : List Word) : Host.Outcome State Fault Refusal :=
  let m := mem.toNat
  let b := bank.toNat
  if memClass m = 8 ∧ s.mem.copying.contains (m, b) = true then
    let inBank := fun (k : Nat) => decide (k / 0x100000000 = m) && decide (bankOf m (k % 0x100000000) = b)
    let flips := (s.mem.flipped.filter (fun x => inBank x.1 && decide (x.2 = 2))).map (fun x => x.1 % 0x100000000)
    let words := (bad.map (·.toNat)).filter (fun i => decide (bankOf m i = b)) ++ flips
    let t := words.foldl (fun (t : State) i => if t.poisoned m i then t
      else (t.poisonWord m i 4).post 0x0601 [m, i, Config.ownerBlock m i, Config.ownerObject m i]) s
    let t := { t with mem := { t.mem with flipped := t.mem.flipped.filter (fun x => !(inBank x.1)) } }
    .next ((t.endCopy m b).recordRetire 8 (bankObj m b))
  else .next s

/-- ROW_REMAP_DONE (R329): the row is served from its remap row; ppr says that its bank still has a repair resource. Without one the
mapping stays and is journalled. -/
def execRowRemapDone (s : State) (stack : BitVec 2) (row : BitVec 28) (ppr : Bool) : Host.Outcome State Fault Refusal :=
  let m := 0x10 + stack.toNat
  let r := row.toNat
  if s.mem.copying.contains (m, r) then
    let t := s.endCopy m r
    let t := { t with mem := { t.mem with rowMap := t.mem.rowMap ++ [(m, r)] } }
    let t := if ppr then t
      else
        let u := { t with sup := { t.sup with retired := insRet ⟨9, bankObj m r, t.tim.sec % 2 ^ 32⟩ t.sup.retired } }
        (u.countN Cn.retirements 0 9 1).jnlPersist 6 0x0604 9 (bankObj m r) [] .none
    .next (t.post 0x0604 [m, r])
  else .next s

/-- HPPR_DONE (R329): the repaired row serves again, and its remap row is free. -/
def execHpprDone (s : State) (stack : BitVec 2) (row : BitVec 28) : Host.Outcome State Fault Refusal :=
  let m := 0x10 + stack.toNat
  let r := row.toNat
  if s.mem.rowMap.contains (m, r) ∧ s.isRetired 9 (bankObj m r) = false then
    .next { s with mem := { s.mem with rowMap := s.mem.rowMap.filter (fun x => decide (x ≠ (m, r))),
                                       spared := Tbl.put s.mem.spared m 0 (Tbl.find s.mem.spared m 0 - 1),
                                       used := Tbl.put s.mem.used m 0 (Tbl.find s.mem.used m 0 - 1),
                                       ppr := Tbl.put s.mem.ppr m 0 (Tbl.find s.mem.ppr m 0 + 1) } }
  else .next s

/-! ### DRAM refresh and flash -/

/-- The refresh level a temperature alone calls for: 0 to 3 (R330). -/
def tempLevel (t : Int) : Nat := if 105 < t then 3 else if 95 < t then 2 else if 85 < t then 1 else 0

/-- The level after a reading (R330): up at once; down only at the level's own return temperature. -/
def nextLevel (cur : Nat) (t : Int) : Nat :=
  if cur ≤ tempLevel t then tempLevel t
  else if cur = 3 then (if t ≤ 92 then (if t ≤ 82 then 0 else 1) else if t ≤ 102 then 2 else 3)
  else if cur = 2 then (if t ≤ 82 then 0 else if t ≤ 92 then 1 else 2)
  else (if t ≤ 82 then 0 else cur)

/-- Refresh rate of a level, as MEM_DRAM_TEMP mult gives it. -/
def levelMult (l : Nat) : Nat := min l 2

/-- DRAM_TEMP_READ (R330). -/
def execDramTempRead (s : State) (stack : BitVec 2) (temp : BitVec 8) : Host.Outcome State Fault Refusal :=
  let k := stack.toNat
  if s.memBound (0x10 + k) ∧ s.released 4 = true then
    let m := s.fld (F.memDramTemp_mult k)
    let l := nextLevel (m + s.fld (F.memDramTemp_over k)) temp.toInt
    let t := ((s.setFld (F.memDramTemp_mult k) (levelMult l)).setFld (F.memDramTemp_over k) (if l = 3 then 1 else 0)).setFld
      (F.memDramTemp_temp k) temp.toNat
    .next (if levelMult l = m then t else t.post 0x0606 [k, levelMult l])
  else .next s

/-- The slots of the flash as a scan names them: 0 slot A, 1 slot B, 2 and 3 the certificate copies. -/
def State.scanned (s : State) (slot : Nat) : Bool :=
  if slot = 0 then decide (s.rig.slotA.st ≠ 0) else if slot = 1 then decide (s.rig.slotB.st ≠ 0) else true

/-- A slot's image fails R44 at its next verification. -/
def State.spoilSlot (s : State) (slot : Nat) : State :=
  if slot = 0 then
    ({ s with rig := { s.rig with slotA := { s.rig.slotA with img := { s.rig.slotA.img with hashesOk := false } } } }).setFld F.memFlashSts_ue_a 1
  else if slot = 1 then
    ({ s with rig := { s.rig with slotB := { s.rig.slotB with img := { s.rig.slotB.img with hashesOk := false } } } }).setFld F.memFlashSts_ue_b 1
  else s

/-- FLASH_SCAN (R332): a sector is read; corrected bits count, three or more make its block weak, an uncorrectable one spoils its slot. -/
def execFlashScan (s : State) (slot : BitVec 2) (block : BitVec 16) (corrected : BitVec 8) (bad : Bool) : Host.Outcome State Fault Refusal :=
  if s.scanned slot.toNat ∧ s.released 3 = true then
    let t := s.countN Cn.flashCorr 0 0 corrected.toNat
    let t := if 3 ≤ corrected.toNat ∧ t.mem.weakBlocks.contains block.toNat = false then
        { t with mem := { t.mem with weakBlocks := t.mem.weakBlocks ++ [block.toNat] } }
      else t
    .next (if bad then (t.spoilSlot slot.toNat).post 0x0608 [slot.toNat] else t)
  else .next s

/-- FLASH_REFRESH (R332): a weak block is rewritten; the refresh record is open only within this step. -/
def execFlashRefresh (s : State) (block : BitVec 16) : Host.Outcome State Fault Refusal :=
  if s.mem.weakBlocks.contains block.toNat ∧ s.released 3 = true then
    let t := { s with mem := { s.mem with weakBlocks := s.mem.weakBlocks.filter (· ≠ block.toNat) } }
    .next ((t.setFld F.memFlashSts_refreshed (min 65535 (t.fld F.memFlashSts_refreshed + 1))).post 0x0607 [block.toNat])
  else .next s

/-! ### Reading the journal -/

/-- The 64 bytes of a journal record (R333). -/
def jnlBytes (r : JnlRec) : List Nat :=
  let d := ((r.detail ++ List.replicate 8 0).take 8).flatMap (leBytes 4)
  let b := leBytes 4 r.typ ++ leBytes 4 r.seq ++ leBytes 4 r.sec ++ leBytes 4 r.ns ++ leBytes 2 r.code ++ leBytes 2 r.epoch ++ leBytes 4 r.cls ++
    leBytes 4 r.obj ++ d
  b ++ leBytes 4 (crc32c b)

/-- Word n of bytes, little-endian. -/
def leWord (b : List Nat) (n : Nat) : Nat := (b.getD (4 * n) 0) + (b.getD (4 * n + 1) 0) * 0x100 + (b.getD (4 * n + 2) 0) * 0x10000 + (b.getD (4 * n + 3) 0) * 0x1000000

/-- JNL_READ (R333): the record of sequence MEM_JNL_SEQ; crcOk says that its check passes. -/
def execJnlRead (s : State) (m : Master) (crcOk : Bool) : Host.Outcome State Fault Refusal :=
  if s.memMay m ∧ s.released 3 = true then
    match s.mem.jnl.find? (fun r => decide (r.seq = s.fld F.memJnlSeq_seq)) with
    | none => .next (s.setFld F.memJnlCmd_result 1)
    | some r =>
      if crcOk then
        let b := jnlBytes r
        .next (((List.range 16).foldl (fun (t : State) n => t.setFld (F.memJnlData_data n) (leWord b n)) s).setFld F.memJnlCmd_result 0)
      else .next ((s.count Cn.jnlBad 0).setFld F.memJnlCmd_result 2)
  else .next s

end Sys2Proof.Machine
end

