-- ==== Sys2Proof/Machine/Reset.lean ====
section
/-! DEFINITION. Reset domains (R372), what each kind of reset clears (R373), the order in which a reset is entered (R374), and the phases
of start-up up to the boot (R375, R46). -/

namespace Sys2Proof.Machine

/-! ### Domains -/

/-- The domain that keeps a counter (R372, R385): by the block of its key; the supply counters lie in AON. -/
def counterDomain (key : Nat) : Nat :=
  let b := key / 2 ^ 36
  if b = 1 then (if key / 2 ^ 28 % 256 < 3 then 0 else 2)
  else if b = 2 ∨ b = 3 ∨ b = 4 then 2
  else if b = 5 then 1
  else if b = 6 then 4
  else if b = 8 then 5
  else if b = 9 then 6
  else 7

/-- The domain that holds a memory (R317, R372). -/
def memDomain (key : Nat) : Nat :=
  let m := key / 0x100000000
  if m = 0x08 then 5 else if m = 0x09 then 3 else if 0x10 ≤ m then 4 else 7

/-- The domain that holds a resource's fault list (R381), by its key. -/
def faultDomain (key : Nat) : Nat :=
  let c := key / 0x100000000
  if c = 2 ∨ c = 3 then 6 else if c = 4 then 5 else 7

/-- What TIM holds beyond its registers. -/
def State.resetTim (s : State) : State := { s with tim := State.reset.tim }

/-- What HIF holds beyond its registers: the event queue, mailboxes and locks, DMA queue pairs, snapshots, the staging machine. The fused
hash, the running rigging and the flash slots are not among it. -/
def State.resetHif (s : State) : State :=
  { s with evq := State.reset.evq, mbx := State.reset.mbx, qp := [], snap := State.reset.snap, chain := [], latches := [], rxq := [],
           rig := { State.reset.rig with ownerHash := s.rig.ownerHash, run := s.rig.run, slotA := s.rig.slotA, slotB := s.rig.slotB },
           sup := { s.sup with unret := none, i2cWait := [], quiet := [0, 0, 0], slow := [false, false, false] } }

/-- What MAST holds: firmware's messages, the journal queues, and the list of retirements, which replay restores (R335). -/
def State.resetMast (s : State) : State :=
  { s with fw := [], mem := { s.mem with jnlP := [], jnlO := [], jnlWait := [], jnlDropSaid := false }, sup := { s.sup with retired := [] } }

/-- What MEM holds beyond its registers: the tracker, the log, the scrubber, spare banks and the row map, which replay restores. -/
def State.resetMem (s : State) : State :=
  { s with mem := { s.mem with ueLog := [], tracker := [], merge := [], scrub := State.reset.mem.scrub, order := 0, spared := [], used := [],
                               ppr := [], copying := [], rowMap := [] } }

/-- What SHR holds beyond its registers: the root key and the key stores. -/
def State.resetShr (s : State) : State := { s with shr := State.reset.shr }

/-- What LANE holds beyond its registers. -/
def State.resetLane (s : State) : State := { s with lanes := State.reset.lanes }

/-- What DATA holds beyond its registers: the channels, contexts, Halyard, the parser, the tables, the fabric, Sheet, the mate, and every
window record, applied or staged. -/
def State.resetData (s : State) : State :=
  { s with recs := [], stagedRecs := [], prevRegs := [], prevRecs := [], ds := [], us := [], disc := [], onu := [], hal := State.reset.hal,
           prs := State.reset.prs, fwd := State.reset.fwd, toParse := [], parsed := [], mate := State.reset.mate, fab := State.reset.fab,
           sht := State.reset.sht, rig := { s.rig with suspect := [], recovering := [] },
           sup := { s.sup with rerigDiscard := 0 } }

/-- The domains of a list enter reset (R372): their registers, counters and memories take their reset values, and they are held. -/
def State.resetDomains (s : State) (ds : List Nat) : State :=
  let keep := fun (d : Nat) => !(ds.contains d)
  let s := { s with
    regs := s.regs.filter (fun x => keep (domainOf x.1)), staged := s.staged.filter (fun x => keep (domainOf x.1)),
    stagedLog := s.stagedLog.filter (fun e => if e.isReg then keep (domainOf e.key) else keep 7),
    cnt := s.cnt.filter (fun x => keep (counterDomain x.1)),
    mem := { s.mem with poison := s.mem.poison.filter (fun x => keep (memDomain x.1)), flipped := s.mem.flipped.filter (fun x => keep (memDomain x.1)) },
    sup := { s.sup with faults := s.sup.faults.filter (fun x => keep (faultDomain x.1)), held := ds ++ s.sup.held.filter keep } }
  let s := if ds.contains 7 then s.resetData else s
  let s := if ds.contains 6 then s.resetLane else s
  let s := if ds.contains 5 then s.resetShr else s
  let s := if ds.contains 4 then s.resetMem else s
  let s := if ds.contains 3 then s.resetMast else s
  let s := if ds.contains 2 then s.resetHif else s
  if ds.contains 1 then s.resetTim else s

/-- Domains leave reset. -/
def State.releaseDomains (s : State) (ds : List Nat) : State := { s with sup := { s.sup with held := s.sup.held.filter (fun d => !(ds.contains d)) } }

/-! ### Flash slots -/

/-- RIG_BOOT follows the slot states, the fuse and the running slot (R46). -/
def State.showBoot (s : State) : State :=
  let slot := s.fld F.rigBoot_slot
  let run := if slot = 0 then s.rig.slotA.st else s.rig.slotB.st
  (((s.setFld F.rigBoot_state_a s.rig.slotA.st).setFld F.rigBoot_state_b s.rig.slotB.st).setFld F.rigBoot_owner_fused s.rig.ownerHash.isSome.toNat).setFld
    F.rigBoot_trial (if run = 2 ∧ s.flag F.rigBoot_no_image = false then 1 else 0)

/-- A slot: 0 A, 1 B. -/
def State.slotOf (s : State) (k : Nat) : Slot := if k = 0 then s.rig.slotA else s.rig.slotB

def State.setSlotRec (s : State) (k : Nat) (x : Slot) : State :=
  if k = 0 then { s with rig := { s.rig with slotA := x } } else { s with rig := { s.rig with slotB := x } }

/-- A slot takes a state, without a journal record. -/
def State.putSlotSt (s : State) (k st : Nat) : State := (s.setSlotRec k { s.slotOf k with st := st }).showBoot

/-- A slot changes its state, with its persistent record of type 3 (R333). -/
def State.slotTo (s : State) (k st : Nat) (act : JnlAct) : State := (s.putSlotSt k st).jnlPersist 3 0 0 k [st] act

/-- The image meets R44: header, owner signature, owner key, hashes and Oxgil signatures. -/
def State.meets (s : State) (i : Image) : Bool :=
  i.headerOk && i.ownerSigOk && i.hashesOk && i.oxgilOk && i.fwSigned &&
    (match s.rig.ownerHash with | some h => decide (h = i.ownerKey) | none => true)

/-! ### Entering reset -/

/-- The domains that each kind of reset resets (R373), by cause. -/
def kindDomains (cause : Nat) : List Nat := if cause = 2 ∨ cause = 3 ∨ cause = 4 then [7, 6, 5, 4, 3, 2] else [7, 6, 5, 4, 3, 2, 1]

/-- The record is live (R334): a retirement not undone, or a mapping not repaired. -/
def State.jnlLive (s : State) (r : JnlRec) : Bool := (decide (r.typ = 1) && s.isRetired r.cls r.obj) || (decide (r.typ = 6) && s.isRetired 9 r.obj)

/-- A record is written to the journal with the next sequence number (R333, R334); when the ring is full its oldest block is erased, its live
records copied forward. -/
def State.jnlPut (s : State) (r : JnlRec) : State :=
  let l := s.mem.jnl
  let l := if l.length < 1023 * s.mem.jnlBlocks then l else l.drop 1023 ++ (l.take 1023).filter s.jnlLive
  let l := l ++ [{ r with seq := s.mem.jnlSeq }]
  let t := { s with mem := { s.mem with jnl := l, jnlSeq := (s.mem.jnlSeq + 1) % 2 ^ 32 } }
  let t := if s.released 4 then t.count Cn.jnlRecords 0 else t
  (t.setFld F.memJnlNew_seq s.mem.jnlSeq).setFld F.memJnlOld_seq ((l.head?.map (·.seq)).getD 0)

/-- The journal takes records (R334): not below 16 good blocks. -/
def State.jnlTakes (s : State) : Bool := decide (16 ≤ s.mem.jnlBlocks)

/-- A host reset waits for queued persistent records (R374, step 3): those that R334 writes within 20 ms. -/
def State.hostResetWait (s : State) : State := 
  if s.released 3 && s.jnlTakes then ((s.mem.jnlP ++ s.mem.jnlWait).take 20).foldl (fun (t : State) r => t.jnlPut r) s else s

/-- Every laser is off and RELEASING is sent by an ACTIVE part (R374, steps 1 and 2). -/
def State.lasersOff (s : State) : State :=
  if s.released 7 then (List.range 256).foldl (fun (t : State) c => t.setFld (F.pchSts_laser_on c) 0) s.releasing else s

/-- Start-up begins with phase HIF once nothing holds it (R375): TIM and HIF are released. -/
def State.startUp (s : State) : State :=
  if s.sup.hold = 0 ∧ s.fld F.glbStart_phase = 0 then
    (((s.releaseDomains [1, 2]).setFld F.glbStart_phase 1).setFld F.glbPaceSts_reefed s.sup.reefed.toNat).showBoot
  else s

/-- A reset of a kind, in the order of R374; start-up follows when nothing holds it. -/
def State.kindReset (s : State) (cause : Nat) : State :=
  let s := s.lasersOff
  let s := if cause = 2 ∨ cause = 3 ∨ cause = 4 then s.hostResetWait else s
  (s.resetDomains (kindDomains cause)).setFld F.glbStart_cause cause

/-- Adds a reason for which start-up waits. -/
def State.addHold (s : State) (r : Nat) : State := if s.sup.hold / r % 2 = 1 then s else { s with sup := { s.sup with hold := s.sup.hold + r } }

/-- Removes a reason; start-up begins when none is left. -/
def State.dropHold (s : State) (r : Nat) : State :=
  if s.sup.hold / r % 2 = 1 then ({ s with sup := { s.sup with hold := s.sup.hold - r } }).startUp else s

/-- POWER_ON_RESET (R373): every domain; what the flash and the fuses hold stays. Start-up waits for PERST#. -/
def execPowerOnReset (s : State) : Host.Outcome State Fault Refusal :=
  let t := { State.reset with
    pending := s.pending, freeIx := s.freeIx, hostMem := s.hostMem, out := s.out, pktNo := s.pktNo,
    rig := { State.reset.rig with ownerHash := s.rig.ownerHash, slotA := s.rig.slotA, slotB := s.rig.slotB },
    sup := { State.reset.sup with gradeH := s.sup.gradeH },
    mem := { State.reset.mem with jnl := s.mem.jnl, jnlSeq := s.mem.jnlSeq, jnlBlocks := s.mem.jnlBlocks, weakBlocks := s.mem.weakBlocks } }
  .next ((t.setFld F.glbTherm_grade s.sup.gradeH.toNat).setFld F.glbThermCfg_thr_warn (if s.sup.gradeH then 110 else 100))

/-- SUPPLY_RESET (R368, R374): supplies below their reset level, and the reading of VDD_CORE. -/
def execSupplyReset (s : State) (supplies : BitVec 5) (mv : BitVec 16) : Host.Outcome State Fault Refusal :=
  let s := s.count Cn.supplyResets 0
  let s := (s.setFld F.glbSupSts_supply_reset 1).setFld F.glbSupVmin_vmin (min (s.fld F.glbSupVmin_vmin) mv.toNat)
  let s := { s with sup := { s.sup with vddCore := mv.toNat, holdMin := min s.sup.holdMin mv.toNat, supplyMask := supplies.toNat, supplyResetDue := true } }
  .next ((s.kindReset 1).addHold 1)

/-- SUPPLY_RESET_RELEASE (R374). -/
def execSupplyResetRelease (s : State) : Host.Outcome State Fault Refusal := .next (s.dropHold 1)

/-- PERST_ASSERT (R373). -/
def execPerstAssert (s : State) : Host.Outcome State Fault Refusal := .next ((s.kindReset 2).addHold 4)

/-- PERST_DEASSERT (R375). -/
def execPerstDeassert (s : State) : Host.Outcome State Fault Refusal := .next (s.dropHold 4)

/-- HOST_RESET (GLB_RST): master identity 0x00 only; start-up follows at once. -/
def execHostReset (s : State) (m : Master) : Host.Outcome State Fault Refusal :=
  if m = 0 ∧ s.released 2 = true then .next (s.kindReset 4).startUp else .next s

/-- PF_FLR (R347, R373). -/
def execPfFlr (s : State) : Host.Outcome State Fault Refusal :=
  if s.released 2 = true then .next (s.kindReset 3).startUp else .next s

/-! ### Thermal supervision -/

/-- The grade's maximum Tj (R377). -/
def State.gradeMax (s : State) : Int := if s.sup.gradeH then 115 else 105

/-- THERMAL_SENSOR_READ (R377): the hottest sensor. Each event is posted once per crossing with 3 °C of hysteresis; the critical level begins
a thermal reset, which holds until the part is cool (R378). -/
def execThermalSensorRead (s : State) (tj : BitVec 8) : Host.Outcome State Fault Refusal :=
  let t := tj.toInt
  let s := (s.setFld F.glbTherm_tj tj.toNat).setFld F.glbTherm_tj_max (unsigned 8 (max (signed 8 (s.fld F.glbTherm_tj_max)) t))
  let s := { s with sup := { s.sup with thermCrit := s.sup.thermCrit.map (fun x => max x t) } }
  let warn := signed 8 (s.fld F.glbThermCfg_thr_warn)
  let s := if warn < t ∧ s.sup.warned = false then ({ s with sup := { s.sup with warned := true } }).post 0x0124 []
    else if t < warn - 3 then { s with sup := { s.sup with warned := false } } else s
  let s := if s.gradeMax < t ∧ s.sup.maxed = false then ({ s with sup := { s.sup with maxed := true } }).post 0x0125 []
    else if t < s.gradeMax - 3 then { s with sup := { s.sup with maxed := false } } else s
  if s.gradeMax + 10 ≤ t ∧ s.sup.hold / 2 % 2 = 0 then
    let s := { s with sup := { s.sup with thermCrit := some t } }
    .next (((s.kindReset 6).addHold 2).count Cn.thermalResets 0)
  else .next s

/-- THERMAL_RESET_RELEASE (R378). -/
def execThermalResetRelease (s : State) : Host.Outcome State Fault Refusal := .next (s.dropHold 2)

end Sys2Proof.Machine
end

