-- ==== Sys2Proof/Machine/Sheet.lean ====
section
/-! DEFINITION. Sheet: selection and release (R225 to R229), the calendar wheel, gates, priority flow control, the node and queue
windows, poisoned nodes (10_sheet_scheduler.md), and the fault of a cipher lane (R253). -/

namespace Sys2Proof.Machine

/-- The children of a node (R221), in index order. -/
def State.children (s : State) (k : Nat) : List Nat :=
  let lvl := k / 0x100000
  let ix := k % 0x100000
  if lvl < 3 then
    ((s.recs.filter (fun x => decide (recKey kNode (nodeName (lvl + 1) 0) ≤ x.1) && decide (x.1 < recKey kNode (nodeName (lvl + 2) 0)) &&
      ndValid x.2 && decide (ndParent x.2 = ix))).map (fun x => x.1 - recKey kNode 0))
  else if lvl = 4 then (List.range 8).map (fun c => nodeName 5 (8 * ix + c))
  else []

/-- The egress queue of a leaf node. -/
def leafQueue (k : Nat) : Nat := if k / 0x100000 = 3 then k % 0x100000 else cqName (k % 0x100000)

/-- The head packet of a leaf's queue, once it is whole on die. -/
def State.headOf (s : State) (k : Nat) : Option QPkt :=
  let x := s.qOf (leafQueue k)
  match x.pkts with
  | q :: _ => if q.start + q.size ≤ x.d then some q else none
  | [] => none

/-- A leaf is eligible and competes (R225, R232, R234). -/
def State.leafReady (s : State) (k : Nat) : Bool :=
  match s.headOf k with
  | none => false
  | some q =>
    s.nodeReady k &&
    (if k / 0x100000 = 5 then
       let i := k % 0x100000
       !(s.pfcOf i).paused && s.gateFits (i / 8) (i % 8) q.pkt
     else true)

/-- A node is eligible (R225); the number bounds the levels below it. -/
def State.elig (s : State) : Nat → Nat → Bool
  | 0, _ => false
  | n + 1, k =>
    if k / 0x100000 = 3 ∨ k / 0x100000 = 5 then s.leafReady k
    else ndValid (s.node k) && s.nodeReady k && (s.children k).any (fun j => s.elig n j)

/-- A change that a choice makes to a node: 0 its deficit, 1 its round-robin pointer, 2 its DWRR pointer. -/
structure NodeUpd where
  node : Nat
  kind : Nat
  value : Nat
deriving DecidableEq, Repr

/-- A choice below a node (R225): the path from the node down to a queue, and the changes it makes. -/
structure Choice where
  path : List Nat
  upd : List NodeUpd
deriving DecidableEq, Repr

/-- The length of the packet at the end of a choice, counted at a node; an uplink packet as its MAC sends it. -/
def State.choiceLen (s : State) (k : Nat) (c : Choice) : Nat :=
  match c.path.getLast? with
  | none => 0
  | some leaf =>
    match s.headOf leaf with
    | none => 0
    | some q => countedLen (s.node k) (if leaf / 0x100000 = 5 then s.macLen (leaf % 0x100000 / 8) q.pkt else q.pkt.len)

/-- dwrr(s) of R225 over members with the counted length of their next packets: the member served and the deficits before it is charged.
A weight of 0, the reset value of a class queue, serves as 1. -/
def State.dwrr (s : State) (lens : List (Nat × Nat)) : Nat → Nat → Table Nat → Option (Nat × Nat × Table Nat)
  | 0, _, _ => none
  | n + 1, i, t =>
    match lens[i % lens.length]? with
    | none => none
    | some (k, l) =>
      let d := Tbl.find t k (s.dynOf k).deficit
      if l ≤ d then some (k, l, t)
      else s.dwrr lens n (i + 1) ((k, d + max 1 (ndWeight (s.node k)) * 512) :: Tbl.del t k)

/-- pick(n) of R225 below a node. -/
def State.choose (s : State) : Nat → Nat → Option Choice
  | 0, _ => none
  | n + 1, k =>
    if k / 0x100000 = 3 ∨ k / 0x100000 = 5 then some { path := [k], upd := [] }
    else
      let kids := s.children k
      let e := kids.filter (fun j => s.elig (n + 1) j)
      let loss := (kids.filter (fun j => !(e.contains j) && decide ((s.dynOf j).deficit ≠ 0))).map (fun j => NodeUpd.mk j 0 0)
      let c := e.filter s.committed
      let m := if c = [] then e else c
      let top := m.foldl (fun a j => max a (ndPrio (s.node j))) 0
      let m := m.filter (fun j => decide (ndPrio (s.node j) = top))
      if c ≠ [] then
        let j := match (s.dynOf k).rr with
          | none => m.head?
          | some r => match m.find? (fun x => decide (r < x)) with
            | some x => some x
            | none => m.head?
        match j with
        | none => none
        | some j => (s.choose n j).map (fun x => { path := k :: x.path, upd := loss ++ [⟨k, 1, j⟩] ++ x.upd })
      else
        let cs := m.filterMap (fun j => (s.choose n j).map (fun x => (j, x)))
        let i := match (s.dynOf k).ptr with
          | none => 0
          | some p => (cs.findIdx? (fun x => decide (p ≤ x.1))).getD 0
        match s.dwrr (cs.map (fun x => (x.1, s.choiceLen x.1 x.2))) (64 * cs.length + 64) i [] with
        | none => none
        | some (j, l, t) =>
          let ds := t.map (fun x => NodeUpd.mk x.1 0 x.2)
          let dj := Tbl.find t j (s.dynOf j).deficit - l
          (cs.find? (fun x => decide (x.1 = j))).map (fun x => { path := k :: x.2.path, upd := loss ++ ds ++ [⟨j, 0, dj⟩, ⟨k, 2, j⟩] ++ x.2.upd })

/-- Makes the changes of a choice. -/
def State.applyUpd (s : State) (l : List NodeUpd) : State :=
  l.foldl (fun (t : State) u =>
    let d := t.dynOf u.node
    t.setDyn u.node (if u.kind = 0 then { d with deficit := u.value } else if u.kind = 1 then { d with rr := some u.value } else { d with ptr := some u.value })) s

/-- Takes the head packet from a queue: its cells are freed; a cell that the next packet shares is charged to that packet. -/
def State.popHead (s : State) (q : Nat) : State :=
  let x := s.qOf q
  match x.pkts with
  | [] => s
  | [_] => s.setQ q egQ0
  | p :: n :: r =>
    let share := if (p.start + p.size) % 256 ≠ 0 ∧ p.cells ≠ 0 then 1 else 0
    s.setQ q { x with pkts := { n with cells := n.cells + share } :: r, head := p.start + p.size }

/-- The queues at or below a node. -/
def State.queuesBelow (s : State) : Nat → Nat → List Nat
  | 0, _ => []
  | n + 1, k => if k / 0x100000 = 3 ∨ k / 0x100000 = 5 then [leafQueue k] else (s.children k).flatMap (fun j => s.queuesBelow n j)

/-- Flushes a list of queues and counts their packets. -/
def State.flushAll (s : State) (l : List Nat) (c : Ctr) : State :=
  let (t, n) := l.foldl (fun (a : State × Nat) q => (let (t, k) := a.1.flushQueue q; (t, a.2 + k))) (s, 0)
  t.countN c 0 0 n

/-- A poisoned node (R237). -/
def State.nodePoison (s : State) (b : NodeBad) : State :=
  let k := nodeName b.level b.index
  match b.part with
  | .dynamic => (s.setDyn k nodeDyn0).post 0x0F04 [b.level, b.index, 0]
  | .record => s.post 0x0F04 [b.level, b.index, 0]
  | .both =>
    let qs := s.queuesBelow 4 k
    let ws := s.node k
    let ws := [wordOf ws 0 % 2 ^ 31] ++ ws.tail
    ((s.setRecord kNode k ws).flushAll qs Cn.shtPoisonFlush).post 0x0F04 [b.level, b.index, 1]

/-- Heads that exceed the longest window of a list applied after they were queued are dropped at the choice (R232, rule 3). -/
def State.dropOversize (s : State) (n c : Nat) : Nat → State
  | 0 => s
  | f + 1 =>
    match s.headOf (nodeName 5 (8 * n + c)) with
    | none => s
    | some q =>
      if s.gateOversize n c q.pkt then
        ((((s.popHead (cqName (8 * n + c))).oversize (8 * n + c)).dropped q.pkt).pfcOfPkt q.pkt false).dropOversize n c f
      else s

/-- A packet chosen leaves its queue (R226, R229, R235): the nodes of its path are charged; a packet with a poisoned byte (R321) or a byte
in a retired cell (R215) is dropped whole; the others go to the edge buffer or the MAC. -/
def State.release (s : State) (c : Choice) (q : QPkt) (poison retired : Bool) (e : Ecc) : State :=
  let leaf := c.path.getLastD 0
  let p := q.pkt
  let up := decide (leaf / 0x100000 = 5)
  let l := if up then s.macLen (leaf % 0x100000 / 8) p else p.len
  let s := s.applyUpd c.upd
  let s := (s.popHead (leafQueue leaf)).pfcOfPkt p false
  let s := c.path.foldl (fun (t : State) k => t.chargeNode l k) s
  let s := (c.path.tail).foldl (fun (t : State) k => if t.elig 4 k then t else t.setDyn k { t.dynOf k with deficit := 0 }) s
  if poison || p.poison then (s.count Cn.memPoisonDrop p.dest).dropped p
  else if retired && decide (s.fld F.fabSts_banks_retired ≠ 0) then (s.count Cn.fabRetireDrop 0).dropped p
  else
    let s := (s.countTx (leafQueue leaf) p.len).noteSojourn (leafQueue leaf) q.settle
    if up then s.toMac (leaf % 0x100000 / 8) p false e else s.toEdge p.dest p

/-- Picks from a top node (R225). -/
def State.pickFrom (s : State) (k : Nat) (poison retired : Bool) (e : Ecc) : State :=
  if s.elig 4 k then
    match s.choose 4 k with
    | none => s
    | some c =>
      match s.headOf (c.path.getLastD 0) with
      | none => s
      | some q => s.release c q poison retired e
  else s

/-- SHEET_PICK (R225, R229): a channel's edge buffer has room, or an uplink port's MAC can start a packet, and the port is UP; Sheet walks
its tree and releases one packet. poison and retired: its egress read finds a poisoned byte, or a cell of a retired bank; bad: a node found
poisoned; saEcc: what the read of the transmit SA finds. -/
def execSheetPick (s : State) (p : PortIx) (poison retired : Bool) (bad : Option NodeBad) (saEcc : Ecc) : Host.Outcome State Fault Refusal :=
  let d := p.toNat
  let s := match bad with
    | some b => s.nodePoison b
    | none => s
  if (s.portOf d).st ≠ 0 ∨ 384 ≤ d then .next s
  else if d < 256 then
    if s.edgeOpen d then .next (s.pickFrom (nodeName 0 d) poison retired saEcc) else .next s
  else if (s.inFlight (d - 256)).isSome then .next s
  else
    let n := d - 256
    let s := (List.range 8).foldl (fun (t : State) c => t.dropOversize n c (t.qOf (cqName (8 * n + c))).pkts.length) s
    .next (s.pickFrom (nodeName 4 n) poison retired saEcc)

/-- CALENDAR_SLOT (R227): the wheel reaches a slot; each of its nodes whose eligible time has passed may be served again. -/
def execCalendarSlot (s : State) (slot : BitVec 16) : Host.Outcome State Fault Refusal :=
  .next ((s.sht.node.filter (fun x => decide (x.2.wheel = some slot.toNat))).foldl (fun (t : State) x => t.enterWheel x.1) s)

/-- SHT_GATE_STS of a group: the entry in force and its gate states (R231). -/
def State.showGate (s : State) (u : Nat) : State :=
  match (s.gatesOf u).cur with
  | none => (s.setFld ((F.shtGateSts_entry).inst u) 0).setFld ((F.shtGateSts_gates).inst u) 0xFF
  | some (g, start) =>
    let pos := (((s.nowNs : Int) - (start : Int)) % ((max 1 g.cycle : Nat) : Int)).toNat
    let (i, _) := entryAt g.entries 0 pos
    (s.setFld ((F.shtGateSts_entry).inst u) i).setFld ((F.shtGateSts_gates).inst u) ((g.entries.getD i (0, 0)).1)

/-- GATE_ENTRY_CHANGE (R230): the next entry's gate states take effect. -/
def execGateEntryChange (s : State) (u : Uplink) : Host.Outcome State Fault Refusal := .next (s.showGate u.toNat)

/-- Sets a bit of a 16-bit field. -/
def State.setBit (s : State) (f : Fld) (n : Nat) (b : Bool) : State :=
  let v := s.fld f
  s.setFld f (v - v / 2 ^ n % 2 * 2 ^ n + b.toNat * 2 ^ n)

/-- GATE_LIST_ACTIVE (R231): the waiting list of a group has reached its cycle start. -/
def execGateListActive (s : State) (u : Uplink) : Host.Outcome State Fault Refusal :=
  let n := u.toNat
  match (s.gatesOf n).next with
  | some (g, start) =>
    if start ≤ s.nowNs then
      let t := ((s.setGates n { cur := some (g, start), next := none }).setBit F.shtSts_gates_pending n false)
      .next ((((t.setFld ((F.shtGateSts_active).inst n) 1).setFld ((F.shtGateSts_pending).inst n) 0).showGate n).post 0x0F01 [n])
    else .next s
  | none => .next s

/-- The gate lists at an apply instant (R231): a changed list waits for its first cycle start; an empty one opens every gate. -/
def State.gateApply (o s : State) (u : Nat) : State :=
  let g := s.gateRegs u
  if o.gateRegs u = g ∧ o.gateBase u = s.gateBase u then s
  else if g.entries = [] then
    (((s.setGates u gate0).setBit F.shtSts_gates_pending u false).setFld ((F.shtGateSts_active).inst u) 0).setFld ((F.shtGateSts_pending).inst u) 0
  else
    ((s.setGates u { s.gatesOf u with next := some (g, cycleStart (s.gateBase u) (max 1 g.cycle) s.nowNs) }).setBit F.shtSts_gates_pending u true).setFld
      ((F.shtGateSts_pending).inst u) 1

/-- A tat rescaled to a new rate (R236). -/
def rescale (tat now old new : Nat) : Nat := if tat > now ∧ new ≠ 0 ∧ old ≠ new then now + (tat - now) * old / new else tat

/-- Sheet at an apply instant (R236): o is the state before it. -/
def State.sheetApply (o s : State) : State :=
  let s := (List.range 16).foldl (fun (t : State) u => State.gateApply o t u) s
  let s := s.sht.node.foldl (fun (t : State) x =>
    let a := o.node x.1
    let b := t.node x.1
    let d := t.dynOf x.1
    if ndPir a = ndPir b ∧ ndCir a = ndCir b ∧ ndPbs a = ndPbs b then t
    else
      (t.setDyn x.1 { d with tatP := rescale d.tatP t.nowU (ndPir a) (ndPir b), tatC := rescale d.tatC t.nowU (ndCir a) (ndCir b) }).enterWheel x.1) s
  let gone := (s.fab.q.filter (fun x => decide (x.1 < 0x40000) && ndValid (o.node (nodeName 3 x.1)) && !(ndValid (s.node (nodeName 3 x.1))))).map (·.1)
  s.flushAll gone Cn.shtUnbindFlush

/-- PFC_REFRESH (R233): refresh_us has passed under XOFF; one frame carries every class of the port that XOFF holds. -/
def execPfcRefresh (s : State) (p : BitVec 7) : Host.Outcome State Fault Refusal :=
  let n := p.toNat
  let cs := (List.range 8).filter (fun c => (s.pfcOf (8 * n + c)).xoff)
  if cs = [] then .next s
  else
    .next (cs.foldl (fun (t : State) c => t.countN Cn.pfcTxXoff n c 1)
      (s.sendPfc n (cs.foldl (fun a c => a + 2 ^ c) 0) (s.fld F.shtPfcCfg_quanta)))

/-- SHT_STS pfc_storm of an uplink group follows its classes. -/
def State.showStorm (s : State) (u : Nat) : State :=
  s.setBit F.shtSts_pfc_storm u ((List.range 64).any (fun i => (s.pfcOf (64 * u + i)).storm))

/-- PFC_FRAME_RECEIVED (R234): each enabled class that has 802.1Qbb stops for its quanta, or competes again at quanta 0. -/
def execPfcFrameReceived (s : State) (p : BitVec 7) (en : Byte) (quanta : List (BitVec 16)) : Host.Outcome State Fault Refusal :=
  let n := p.toNat
  let cs := (List.range 8).filter (fun c => decide (en.toNat / 2 ^ c % 2 = 1))
  .next ((cs.foldl (fun (t : State) c =>
    if t.pfcEn n c then
      let stop := decide ((quanta.getD c 0).toNat ≠ 0)
      let x := t.pfcOf (8 * n + c)
      (t.setPfc (8 * n + c) { x with paused := stop, storm := x.storm && stop }).countN Cn.pfcRx n c 1
    else t.countN Cn.pfcRxIgnored n c 1) s).showStorm (n / 8))

/-- PFC_PAUSE_EXPIRY (R234): the class competes again. -/
def execPfcPauseExpiry (s : State) (p : BitVec 7) (c : BitVec 3) : Host.Outcome State Fault Refusal :=
  let k := 8 * p.toNat + c.toNat
  .next ((s.setPfc k { s.pfcOf k with paused := false, storm := false }).showStorm (p.toNat / 8))

/-- PFC_STORM (R234): the class has stayed stopped for longer than storm_ms; posted once. -/
def execPfcStorm (s : State) (p : BitVec 7) (c : BitVec 3) : Host.Outcome State Fault Refusal :=
  let k := 8 * p.toNat + c.toNat
  let x := s.pfcOf k
  if x.paused ∧ x.storm = false then .next (((s.setPfc k { x with storm := true }).showStorm (p.toNat / 8)).post 0x0F03 [p.toNat, c.toNat])
  else .next s

/-! ### Windows -/

/-- Nodes of a level (R221). -/
def levelCount (lvl : Nat) : Nat :=
  if lvl = 0 then 256 else if lvl = 1 then 65536 else if lvl = 2 then 524288 else if lvl = 3 then 262144 else if lvl = 4 then 128
  else if lvl = 5 then 1024 else 0

/-- The node SHT_NODE_ADDR names, none outside its level. -/
def State.winNode (s : State) : Option Nat :=
  let lvl := s.fld F.shtNodeAddr_level
  let ix := s.fld F.shtNodeAddr_index
  if ix < levelCount lvl then some (nodeName lvl ix) else none

/-- The node window's data registers. -/
def State.nodeData (s : State) (ws : List Nat) : State := (List.range 7).foldl (fun (t : State) i => t.setFld (F.shtNodeData i) (wordOf ws i)) s

/-- The masters that may use the windows of SHT. -/
def State.shtMay (s : State) (m : Master) : Bool := mayWrite m && s.released 7

/-- NODE_READ_APPLIED: op 1 of SHT_NODE_CMD. A poisoned record is handled under R237 (R321). -/
def execNodeReadApplied (s : State) (m : Master) (ecc : Ecc) (copyBad : Bool) : Host.Outcome State Fault Refusal :=
  if s.shtMay m then
    match s.winNode with
    | none => .next (s.setFld F.shtNodeCmd_result 1)
    | some k =>
      let (t, bad) := s.readRec 5 kNode k ecc
      if bad then
        let t := (t.cleanRec 5 kNode k).nodePoison { level := k / 0x100000, index := k % 0x100000, part := if copyBad then .both else .record }
        if copyBad then .next ((t.nodeData []).setFld F.shtNodeCmd_result 2) else .next ((t.nodeData (t.node k)).setFld F.shtNodeCmd_result 0)
      else .next ((t.nodeData (t.node k)).setFld F.shtNodeCmd_result 0)
  else .next s

/-- NODE_READ_STAGED: op 2. -/
def execNodeReadStaged (s : State) (m : Master) : Host.Outcome State Fault Refusal :=
  if s.shtMay m then
    match s.winNode with
    | none => .next (s.setFld F.shtNodeCmd_result 1)
    | some k => .next ((s.nodeData (s.nodeStaged k)).setFld F.shtNodeCmd_result 0)
  else .next s

/-- NODE_WRITE_STAGED: op 3. -/
def execNodeWriteStaged (s : State) (m : Master) : Host.Outcome State Fault Refusal :=
  if s.shtMay m then
    match s.winNode with
    | none => .next (s.setFld F.shtNodeCmd_result 1)
    | some k =>
      .next ((s.stageRec kNode k ((List.range 7).map (fun i => s.fld (F.shtNodeData i)))).setFld F.shtNodeCmd_result 0)
  else .next s

/-- NODE_ZERO_DATA: op 4. -/
def execNodeZeroData (s : State) (m : Master) : Host.Outcome State Fault Refusal :=
  if s.shtMay m then .next ((s.nodeData []).setFld F.shtNodeCmd_result 0) else .next s

/-- The queue SHT_QS_ADDR names. -/
def State.winQueue (s : State) : Nat := if s.flag F.shtQsAddr_kind then cqName (s.fld F.shtQsAddr_index) else s.fld F.shtQsAddr_index

/-- Latches the values of the queue window (R235). -/
def State.qsLatch (s : State) : State :=
  let q := s.winQueue
  let x := s.qsOf q
  (((s.setFld F.shtQsDepth_depth (min (s.qOf q).depth 0xFFFFFFFF)).setFld F.shtQsDmax_dmax x.dmax).setFld F.shtQsSoj_soj x.soj).setFld F.shtQsSmax_smax
    x.smax

/-- QS_READ: op 1 of SHT_QS_CMD. -/
def execQsRead (s : State) (m : Master) : Host.Outcome State Fault Refusal :=
  if s.shtMay m then .next s.qsLatch else .next s

/-- QS_READ_CLEAR: op 2: both maxima are cleared after they are latched. -/
def execQsReadClear (s : State) (m : Master) : Host.Outcome State Fault Refusal :=
  if s.shtMay m then .next (s.qsLatch.setQs s.winQueue { s.qsOf s.winQueue with dmax := 0, smax := 0 }) else .next s

/-! ### Cipher lanes -/

/-- The logical lane that runs on a physical lane. -/
def State.logicalOf (s : State) (p : Nat) : Option Nat :=
  (List.range 16).find? (fun l => s.flag (F.shrLane_in_use l) && decide (s.fld (F.shrLane_phys l) = p))

/-- The unit in a lane that faults is discarded and its packet counted (R253); a number it took stays used. -/
def State.dropUnit (s : State) (u : CipherUnit) : State :=
  match u with
  | .none => s
  | .ds c =>
    match (s.dsOf c.toNat).edge with
    | [] => s
    | p :: r => ((s.setDs c.toNat { s.dsOf c.toNat with edge := r }).count Cn.shrFaultDrop 0).dropped p
  | .us c =>
    match (s.usOf c.toNat).edge with
    | [] => s
    | _ :: r => (s.setUs c.toNat { s.usOf c.toNat with edge := r }).count Cn.shrFaultDrop 0
  | .tx p =>
    match s.inFlight p.toNat with
    | some (k, true, _) => (({ s with fab := { s.fab with sending := Tbl.put s.fab.sending p.toNat none none } }).count Cn.shrFaultDrop 0).dropped k
    | _ => s

/-- A spare physical lane that is neither retired nor in use (R252, R253). -/
def State.spareLane (s : State) : Option Nat :=
  (List.range 18).find? (fun p => decide (s.fld F.shrSts_retired / 2 ^ p % 2 = 0) && (decide (16 ≤ p) || decide (Tbl.find s.shr.repl p 0 ≠ 0)) &&
    !((List.range 16).any (fun l => s.flag (F.shrLane_in_use l) && decide (s.fld (F.shrLane_phys l) = p))))

/-- The fallback of a logical lane, while it is in service (R252, R253). -/
def State.fallbackOf (s : State) (l : Nat) : Option Nat :=
  match s.rig.run.cipher[l]? with
  | some x => if x.2 < 16 ∧ s.flag (F.shrLane_in_use x.2) = true then some x.2 else none
  | none => none

/-- The protective part of the retirement of a physical lane (R253): a free spare takes its logical lane; with none the lane stops serving. -/
def State.retireCipher (s : State) (p l : Nat) : State :=
  let s := s.setFld F.shrSts_retired (s.fld F.shrSts_retired + (1 - s.fld F.shrSts_retired / 2 ^ p % 2) * 2 ^ p)
  let s := match s.spareLane with
    | some q =>
      let t := ((s.setFld (F.shrLane_phys l) q).setFld (F.shrLane_faults l) 0).setFld F.shrSts_spares_free (s.fld F.shrSts_spares_free - 1)
      { t with shr := { t.shr with repl := Tbl.put t.shr.repl p 0 (q + 1) } }
    | none =>
      let t := s.setFld (F.shrLane_in_use l) 0
      if t.isRetired 4 p = false ∧ t.fallbackOf l ≠ none then t.dueApply 4 p else t
  s.recordRetire 4 p

/-- CIPHER_LANE_FAULT (R253): the unit in progress is discarded, the lane reset with an empty key cache, and one fault counted. -/
def execCipherLaneFault (s : State) (p : BitVec 5) (unit : CipherUnit) : Host.Outcome State Fault Refusal :=
  let p := p.toNat
  match s.logicalOf p with
  | none => .next s
  | some l =>
    let s := (s.dropUnit unit).count Cn.shrLaneFault p
    let s := { s with shr := { s.shr with cache := Tbl.put s.shr.cache p [] [] } }
    let (s, perm) := (s.noteFault 0 4 p).ladder 4 p
    let s := (s.recovered 0 4 p).setFld (F.shrLane_faults l) (s.faultList 4 p).length
    .next (if perm then s.retireCipher p l else s)

end Sys2Proof.Machine
end

