-- ==== Sys2Proof/Machine/Rig.lean ====
section
/-! DEFINITION. The staging machine, epochs and the drain, re-rigging, trim blobs, slots, trials and attestation
(02_rigging_and_epochs.md). -/

namespace Sys2Proof.Machine

/-! ### Structural sections -/

/-- Applies a change without events, counters, journal records or device-initiated applies, as replay does (R335). -/
def State.silently (s : State) (f : State → State) : State :=
  let t := f s
  { t with evq := s.evq, cnt := s.cnt, out := s.out,
           mem := { t.mem with jnlP := s.mem.jnlP, jnlO := s.mem.jnlO, jnlWait := s.mem.jnlWait, jnlSeq := s.mem.jnlSeq, jnlDropSaid := s.mem.jnlDropSaid },
           sup := { t.sup with retired := s.sup.retired }, rig := { t.rig with devApplies := s.rig.devApplies } }

/-- Runs f over the numbers below n. -/
def State.forAll (s : State) (n : Nat) (f : State → Nat → State) : State := (List.range n).foldl f s

/-- The channels of PON group g take their modes and initial PON-IDs (R62, R64); a retired channel stays RETIRED, one without a mode is
UNBOUND, and any other is OFF. -/
def State.bindGroup (s : State) (img : Image) (g : Nat) : State :=
  let bound := s.groupBound g
  let s := { s with rig := { s.rig with run := { s.rig.run with
    tree := Tbl.put s.rig.run.tree g (0, 0, 0, 0) (Tbl.find img.tree g (0, 0, 0, 0)) } } }
  s.forAll 8 (fun (t : State) n =>
    let c := 8 * g + n
    let m := if bound then Tbl.find img.modes c chanMode0 else chanMode0
    let t := ((t.setFld (F.pchMode_mode c) m.mode).setFld (F.pchMode_us_rate c) m.usRate).setFld (F.pchMode_paired c) m.paired.toNat
    let id := if m.mode = 0 then 0 else Tbl.find img.ponIds c 0
    let t := (t.setFld (F.pchPonidLo_ponid c) (id % 0x100000000)).setFld (F.pchPonidHi_ponid c) (id / 0x100000000)
    let st := if m.mode = 0 then chUnbound else if t.isRetired 1 c then chRetired else chOff
    (t.putCh c st).setFld (F.pchSts_ref_lock c) (if m.mode = 0 then 0 else 1))

/-- The state of ULN lane n under its group's record: RETIRED, OFF while no port uses it, else acquiring. -/
def State.bindUln (s : State) (n : Nat) : State :=
  let i := 512 + n
  if s.isRetired 2 i then s.setFld (F.laneSts_state i) lnRetired
  else if (s.portOfLane n).isSome then s.acquire i false
  else s.setFld (F.laneSts_state i) lnOff

/-- Uplink group u takes the host's record and its lanes' positions and polarities (R276, R277). -/
def State.bindUplink (s : State) (img : Image) (u : Nat) : State :=
  let r := if s.uplinkBound u then Tbl.find img.ugRec u (0, 0) else (0, 0)
  let mine := fun (i : Nat) => decide (512 + 8 * u ≤ i) && decide (i < 520 + 8 * u)
  let run := s.rig.run
  let run := { run with
    ugRec := Tbl.put run.ugRec u (0, 0) r,
    lanePos := (List.range 8).foldl (fun (t : Table (Option Nat)) j => Tbl.put t (8 * u + j) none (Tbl.find img.lanePos (8 * u + j) none)) run.lanePos,
    polarity := (List.range 8).foldl (fun (t : Table Nat) j => Tbl.put t (512 + 8 * u + j) 0 (Tbl.find img.polarity (512 + 8 * u + j) 0)) run.polarity }
  let s := { s with rig := { s.rig with run := run }, lanes := { s.lanes with hostUg := Tbl.put s.lanes.hostUg u (0, 0) r,
                                                                              lane := s.lanes.lane.filter (fun x => !(mine x.1)) } }
  s.forAll 8 (fun (t : State) j => t.bindUln (8 * u + j))

/-- The record of R284 for a group with a lane retired: the next narrower mode, with the ports whose every lane lay in a bound port of the
host's record and is not retired. -/
def State.narrowRec (s : State) (u : Nat) : Nat × Nat :=
  let m := (s.ugOf u).1
  let host := Tbl.find s.lanes.hostUg u (0, 0)
  let m' := if 0 < m ∧ m < 4 then m + 1 else m
  let w := portWidth m'
  let hw := portWidth host.1
  let laneAt := fun (l : Nat) => (List.range 8).find? (fun j => decide (s.lanePos (8 * u + j) = l))
  let good := fun (l : Nat) =>
    decide (host.2 / 2 ^ (l / hw * hw) % 2 = 1) &&
    (match laneAt l with
     | some j => !(s.isRetired 2 (512 + 8 * u + j))
     | none => false)
  (m', (List.range 8).foldl (fun a p => if p % w = 0 ∧ (List.range w).all (fun i => good (p + i)) = true then a + 2 ^ p else a) 0)

/-- Narrows uplink group u (R284): packets queued for the ports that are no more are flushed, and their links are lost; healthy lanes that
a port uses again acquire. -/
def State.narrowUplink (s : State) (u : Nat) : State :=
  let r := s.narrowRec u
  let old := (List.range 8).filter (fun p => s.portBound (256 + 8 * u + p))
  let was := (List.range 8).filter (fun j => (s.portOfLane (8 * u + j)).isSome)
  let t := { s with rig := { s.rig with run := { s.rig.run with ugRec := Tbl.put s.rig.run.ugRec u (0, 0) r } } }
  let gone := old.filter (fun p => !(t.portBound (256 + 8 * u + p)))
  let t := gone.foldl (fun (t : State) p =>
    let n := 8 * u + p
    let t := t.portDownNow (256 + n)
    if t.linkIsUp n then (t.setLink n false).lagLoss n else t) t
  (List.range 8).foldl (fun (t : State) j =>
    let n := 8 * u + j
    if t.isRetired 2 (512 + n) then t
    else if (t.portOfLane n).isSome then (if was.contains j then t else t.acquire (512 + n) false)
    else t.setFld (F.laneSts_state (512 + n)) lnOff) t

/-- The Stay link takes the width that its retired lanes leave (R295); SL_NARROWED when it narrows. -/
def State.narrowLink (s : State) (say : Bool) : State :=
  let w := s.slWidth
  let t := { s with lanes := { s.lanes with width := w } }
  let t := if say && decide (w ≠ s.lanes.width) && decide (w ≠ 0) then t.post 0x0908 [] else t
  t.judgeLink

/-- A retirement as replay restores it (R335), in the state its class's rule gives. -/
def State.restore (s : State) (e : RetEnt) : State :=
  s.silently (fun s =>
    if e.cls = 2 then s.narrowUplink ((e.obj - 512) / 8)
    else if e.cls = 4 then
      (match s.logicalOf e.obj with
       | some l =>
         let t := s.retireCipher e.obj l
         if t.flag (F.shrLane_in_use l) = false ∧ t.fallbackOf l ≠ none then { t with shr := { t.shr with moved := t.shr.moved ++ [l] } } else t
       | none => s.setFld F.shrSts_retired (s.fld F.shrSts_retired ||| 2 ^ e.obj))
    else if e.cls = 5 then (s.retireBuilder e.obj |> fun t => t.forAll 8 (fun (t : State) k => t.actSwaps k))
    else if e.cls = 6 then (s.retireChecker e.obj |> fun t => t.forAll 8 (fun (t : State) k => t.actSwaps k))
    else if e.cls = 10 then s.retireBank e.obj
    else s)

/-- The SLD lanes and SLCK: REEF2 when bound, OFF when not, RETIRED when retired (R278, R294). -/
def State.bindStay (s : State) : State :=
  s.forAll 9 (fun (t : State) k =>
    let bound := if k = 8 then t.rig.run.mate.pairEn && !t.rig.run.mate.rateMatched else t.sldBound k
    t.setFld (F.laneSts_state (640 + k)) (if t.isRetired 3 (640 + k) then lnRetired else if bound then lnReef2 else lnOff))

/-- The whole image's structural sections come into force (R375, R58), with the retirements that stand. -/
def State.bindAll (s : State) (img : Image) : State :=
  let s := { s with rig := { s.rig with run := img }, shr := { s.shr with moved := [] } }
  let s := s.forAll 32 (fun (t : State) g => t.bindGroup img g)
  let s := s.forAll 16 (fun (t : State) u => t.bindUplink img u)
  let s := s.bindStay
  let s := s.forAll 16 (fun (t : State) l => t.setFld (F.shrLane_in_use l) (if l < img.cipher.length then 1 else 0))
  let s := { s with lanes := { s.lanes with width := s.slWidth } }
  s.sup.retired.foldl (fun (t : State) e => t.restore e) s

/-! ### Epochs (R14, R57) -/

/-- The epoch advances: the new epoch is current, the old one previous and live, with the rigging it reads. -/
def State.advance (s : State) : State :=
  let e := s.epoch
  let t := { s with prevRegs := s.regs, prevRecs := s.recs }
  ((t.setFld F.rigEpoch_previous e).setFld F.rigEpoch_current ((e + 1) % 65536)).setFld F.rigSts_prev_live 1

/-- The previous epoch is live. -/
def State.prevLive (s : State) : Bool := s.flag F.rigSts_prev_live

/-- Packets and messages of epoch e before their settle point (R54). -/
def State.oldUnits (s : State) (e : Nat) : Bool :=
  s.toParse.any (fun x => x.2.any (fun p => decide (p.epoch = e))) || s.parsed.any (fun x => x.2.any (fun p => decide (p.epoch = e))) ||
  s.fab.voq.any (fun x => x.2.pkts.any (fun v => decide (v.pkt.epoch = e))) || s.fab.arrived.any (fun x => x.2.any (fun p => decide (p.epoch = e))) ||
  s.hal.frames.any (fun x => decide (x.2.2 = e))

/-- Maps of epoch e that are being built or wait for their frame (R54). -/
def State.oldFrames (s : State) (e : Nat) : Bool :=
  s.hal.ch.any (fun x => x.2.builds.any (fun b => decide (b.snap.epoch = e)) || x.2.verdicts.any (fun v => decide (v.epoch = e)))

/-- The class and the lane or bank of a device-initiated apply: its structural part with the event of its class (R284, R295, R253, R382). -/
def State.devPart (s : State) (cls obj : Nat) : State :=
  if cls = 2 then (s.narrowUplink ((obj - 512) / 8)).recovered (0x200 + (obj - 512) / 8) 2 obj |>.post 0x0904 [obj]
  else if cls = 3 then ((s.narrowLink true).recovered 0 3 obj).post 0x0904 [obj]
  else if cls = 4 then
    (match (List.range 16).find? (fun l => decide (s.fld (F.shrLane_phys l) = obj) && !(s.flag (F.shrLane_in_use l))) with
     | some l => ({ s with shr := { s.shr with moved := s.shr.moved ++ [l] } }).post 0x0803 [l]
     | none => s)
  else s.unretireBank obj

/-- The device-initiated apply that is next reaches its apply instant once nothing of the previous epoch is left (R53, R370): a set that was
checked or being checked returns to OPEN with recheck set. -/
def State.tryDeviceApply (s : State) : State :=
  match s.devNext with
  | none => s
  | some (cls, obj) =>
    if s.prevLive ∨ s.sup.reefed = true ∨ 4 ≤ s.rigState then s
    else
      let t := { s with rig := { s.rig with devApplies := s.rig.devApplies.tail } }
      let t := if t.rigState = 0 then t else (t.moveRig 0).setFld F.rigSts_recheck 1
      let t := t.advance
      ((t.post 0x0203 [t.epoch]).devPart cls obj).showBusy

/-- The apply instant of the host's set (R50): its entries become applied together, and it empties. -/
def State.applyInstant (s : State) : State :=
  let o := s
  let t := s.advance
  let t := { t with regs := mergeRegs t.regs t.staged, recs := mergeRecs t.recs t.stagedRecs }
  let t := o.stagedRecs.foldl (fun (t : State) x =>
    let k := x.1 / 0x10000000000
    let i := x.1 % 0x10000000000
    if k = kFlw ∨ k = kUfl ∨ k = kUonu ∨ k = kAlc then t.cleanRec 3 k i else if k = kNode then t.cleanRec 5 k i else t) t
  let t := State.sheetApply o t.fwdApply
  let t := t.emptyStaged
  let t := { t with rig := { t.rig with pre := [], fresh := true } }
  let t := ((t.setFld F.rigSts_state 0).complete cCompleted).showBusy
  (t.post 0x0202 [t.epoch]).tryDeviceApply

/-- A drain has ended while the machine is DRAINING: the apply instant, or ARMED (R50). -/
def State.drainedHost (s : State) : State := if s.rig.sched then (s.setFld F.rigSts_state 5).showBusy else s.applyInstant

/-- Nothing of the previous epoch is left (R55, R193); what waited for it follows. -/
def State.drained (s : State) (us : Nat) : State :=
  let t := ((s.setFld F.rigSts_prev_live 0).setFld F.rigDrainLast_last_us us).fwdDrained
  let t := { t with prevRegs := [], prevRecs := [] }
  if t.rigState = 4 then t.drainedHost else t.showBusy.tryDeviceApply

/-! ### Commands of the staging machine -/

/-- The master may write RIG_CMD (R49), and HIF is out of reset. -/
def State.rigMay (s : State) (m : Master) : Bool := mayWrite m && s.released 2

/-- A machine that entered OPEN at an apply instant forgets it when a command is taken (R50). -/
def State.stale (s : State) : State := { s with rig := { s.rig with fresh := false } }

/-- CHECK (R50). -/
def execCheck (s : State) (m : Master) : Host.Outcome State Fault Refusal :=
  if s.rigMay m then
    if s.rigState = 0 ∨ s.rigState = 2 ∨ s.rigState = 3 then .next (s.moveRig 1) else .next (s.complete cBadState)
  else .next s

/-- CHECK_DONE (R407): the verdict on the staged set as it stands, at most 256 violations recorded. -/
def execCheckDone (s : State) : Host.Outcome State Fault Refusal :=
  if s.rigState = 1 then
    let v := s.violations
    let t := { s with rig := { s.rig with viols := v.take 256 } }
    let t := (t.setFld F.rigSts_viol_count (min 256 v.length)).moveRig (if v = [] then 2 else 3)
    .next ((t.complete (if v = [] then cCompleted else cCheckFailed)).post 0x0201 [])
  else .next s

/-- The scheduled time, when R56 accepts it. -/
def State.schedOk (s : State) : Bool :=
  let ns := s.fld F.rigSchedNs_ns
  let t := (s.fld F.rigSchedSecHi_sec_hi * 2 ^ 32 + s.fld F.rigSchedSecLo_sec_lo) * 1000000000 + ns
  let lim := s.fld F.rigDrainLimit_limit_us * 1000 + 1000000
  decide (ns < 1000000000) && decide (s.nowNs + lim ≤ t) && decide (t ≤ s.nowNs + 3600000000000)

/-- APPLY (R50, R53, R56, R370): with no previous epoch live DRAINING ends at once. -/
def execApply (s : State) (m : Master) (sched : Bool) : Host.Outcome State Fault Refusal :=
  if s.rigMay m then
    if s.rigState ≠ 2 ∨ s.sup.reefed = true ∨ s.rig.devApplies ≠ [] then .next (s.stale.complete cBadState)
    else if sched && !s.schedOk then .next (s.complete cLateSchedule)
    else
      let t := { s with rig := { s.rig with sched := sched, schedSec := s.fld F.rigSchedSecHi_sec_hi * 2 ^ 32 + s.fld F.rigSchedSecLo_sec_lo,
                                            schedNs := s.fld F.rigSchedNs_ns } }
      let t := t.moveRig 4
      .next (if t.prevLive then t else t.drainedHost)
  else .next s

/-- ABORT (R50, R51). -/
def execAbort (s : State) (m : Master) : Host.Outcome State Fault Refusal :=
  if s.rigMay m then
    let st := s.rigState
    if st = 0 then .next (if s.rig.fresh then s.complete cAbortLate else s)
    else if st = 1 then .next ((s.moveRig 0).complete cAborted)
    else if st = 4 ∨ st = 5 then .next ((s.moveRig 2).complete cAborted).tryDeviceApply
    else if st = 6 then .next (s.complete cBadState)
    else .next (s.complete cAbortLate)
  else .next s

/-- DISCARD (R50): the staged set empties; in DRAINING, ARMED and REGION it is refused. -/
def execDiscard (s : State) (m : Master) : Host.Outcome State Fault Refusal :=
  if s.rigMay m then
    if 4 ≤ s.rigState then .next (s.complete cBadState)
    else
      let t := (s.fwdDiscard.emptyStaged.moveRig 0).complete cCompleted
      .next { t with rig := { t.rig with pre := [] } }
  else .next s

/-- DRAIN_END (R55): no unit of the previous epoch remains before its settle point. -/
def execDrainEnd (s : State) (us : BitVec 20) : Host.Outcome State Fault Refusal :=
  let e := s.fld F.rigEpoch_previous
  if s.prevLive = true ∧ s.oldUnits e = false ∧ s.oldFrames e = false then .next (s.drained us.toNat) else .next s

/-- Keeps what meets p in every list of a table, and counts what does not. -/
def keepUnits {α : Type} (t : Table (List α)) (p : α → Bool) : Table (List α) × Nat :=
  ((t.map (fun x => (x.1, x.2.filter p))).filter (fun x => !x.2.isEmpty), t.foldl (fun n x => n + (x.2.filter (fun y => !(p y))).length) 0)

/-- A virtual output queue without its packets of epoch e: the cells of what is left keep their ages. -/
def Voq.without (v : Voq) (e : Nat) : Voq :=
  let ps := v.pkts.filter (fun x => decide (x.pkt.epoch ≠ e))
  let n := cdiv (ps.foldl (fun a x => a + x.left) 0) 240
  { pkts := ps, ages := v.ages.drop (v.ages.length - n) }

/-- Drops every packet and message of epoch e before its settle point, and counts them in drain_discard (R55, R408). -/
def State.dropUnits (s : State) (e : Nat) : State :=
  let new := fun (p : Pkt) => decide (p.epoch ≠ e)
  let (a, na) := keepUnits s.toParse new
  let (b, nb) := keepUnits s.parsed new
  let (c, nc) := keepUnits s.fab.arrived new
  let voq := s.fab.voq.map (fun x => (x.1, x.2.without e))
  let nv := s.fab.voq.foldl (fun n x => n + (x.2.pkts.filter (fun v => !(new v.pkt))).length) 0
  let msg := s.hal.frames.filter (fun x => decide (x.2.2 ≠ e))
  let gone := (s.toParse ++ s.parsed ++ s.fab.arrived).flatMap (fun x => x.2.filter (fun p => !(new p))) ++
    s.fab.voq.flatMap (fun x => (x.2.pkts.filter (fun v => !(new v.pkt))).map (·.pkt))
  let t := { s with toParse := a, parsed := b, fab := { s.fab with arrived := c, voq := voq.filter (fun x => !x.2.pkts.isEmpty) },
                    hal := { s.hal with frames := msg } }
  (gone.foldl (fun (t : State) p => t.dropped p) t).countN Cn.drainDiscard 0 0 (na + nb + nc + nv + (s.hal.frames.length - msg.length))

/-- DRAIN_FORCED (R55): the drain limit is reached; PON frames are never dropped, and all have settled. -/
def execDrainForced (s : State) : Host.Outcome State Fault Refusal :=
  let e := s.fld F.rigEpoch_previous
  if s.prevLive = true ∧ s.oldFrames e = false then
    .next (((s.dropUnits e).post 0x0205 []).drained (s.fld F.rigDrainLimit_limit_us))
  else .next s

/-- SCHED_TIME_REACHED (R56, R370): the time base has reached the scheduled time of an ARMED apply. -/
def execSchedTimeReached (s : State) : Host.Outcome State Fault Refusal :=
  if s.rigState = 5 ∧ s.rig.schedSec * 1000000000 + s.rig.schedNs ≤ s.nowNs then
    if s.sup.reefed then .next (((s.moveRig 2).complete cAborted).post 0x0204 [Config.eventWord 0x0204 1])
    else .next s.applyInstant
  else .next s

/-! ### Re-rigging a region (R58) -/

/-- A channel of a region that is re-rigged stops: it is OFF, its port DOWN and flushed, and its contexts IDLE. -/
def State.stopCh (s : State) (c : Nat) : State :=
  let st := s.ch c
  if st = chUnbound ∨ st = chRetired then s
  else
    let t := if st = chOff then s else s.offCh c
    let t := t.portDownNow c
    ((t.onusOf c).filter (fun n => decide ((t.onuOf n).st ≠ 1))).foldl (fun (t : State) n => t.toIdle n) t

/-- Traffic of an uplink group that is re-rigged stops. -/
def State.stopUplink (s : State) (u : Nat) : State :=
  s.forAll 8 (fun (t : State) p =>
    let n := 8 * u + p
    if t.portBound (256 + n) then
      let t := t.portDownNow (256 + n)
      if t.linkIsUp n then (t.setLink n false).lagLoss n else t
    else t)

/-- RERIG (R50, R58, R370): the region's traffic stops at the command; region 0x0000 resets LANE and DATA (R374). -/
def execRerig (s : State) (m : Master) (region : BitVec 16) (slot : Bool) : Host.Outcome State Fault Refusal :=
  if s.rigMay m then
    let r := region.toNat
    let x := s.slotOf slot.toNat
    if s.rigState ≠ 0 ∨ s.stagedEmpty = false ∨ s.sup.reefed = true ∨ s.rig.devApplies ≠ [] ∨ s.fld F.glbStart_phase ≠ 6 then
      .next (s.complete cBadState)
    else if x.st = 0 ∨ s.meets x.img = false then .next (s.complete cSigFailed)
    else
      let v := s.rerigViolations x.img r
      if v ≠ [] then
        let t := { s with rig := { s.rig with viols := v.take 256 } }
        .next ((t.setFld F.rigSts_viol_count (min 256 v.length)).complete cCheckFailed)
      else
        let t := { s with rig := { s.rig with region := r, regionSlot := slot.toNat } }
        let t := t.moveRig 6
        .next (if r = 0 then t.lasersOff.resetDomains [7, 6]
          else if r < 0x200 then t.forAll 8 (fun (t : State) n => t.stopCh (8 * (r - 0x100) + n))
          else t.stopUplink (r - 0x200))
  else .next s

/-- A lost slice resumes when one of its groups is re-rigged and units are left for it (R382). -/
def State.resumeSlice (s : State) (k : Nat) : State :=
  if s.fld (F.halSlice_state k) = 2 then
    let sp := s.spareBuilders
    let l := (s.builders k ++ sp).take 3
    let own := decide (s.fld F.halCret_retired / 2 ^ s.fld (F.halSlice_chk k) % 2 = 0)
    if 2 ≤ l.length ∧ (own = true ∨ s.flag F.halSts_spare_chk = true) then
      let t := ((s.setFld (F.halSlice_state k) 0).setBuilders k l)
      let t := t.setFld F.halSts_spare_bld t.spareBuilders.length
      let t := if own then t else (t.setFld (F.halSlice_chk k) 8).setFld F.halSts_spare_chk 0
      t.setFld F.halSts_slice_lost (s.fld F.halSts_slice_lost - 2 ^ k)
    else s
  else s

/-- A PON group is back in service: its channels are OFF under the new sections and start when enabled (R65). -/
def State.startGroup (s : State) (img : Image) (g : Nat) : State :=
  let was := (List.range 8).map (fun n => s.ch (8 * g + n))
  let t := (s.bindGroup img g).resumeSlice (g / 4)
  t.forAll 8 (fun (t : State) n =>
    let c := 8 * g + n
    let t := if t.ch c = was.getD n 0 then t else t.post 0x0A01 [c, t.ch c]
    let t := (t.setFld (F.halChSts_stuck c) 0).setPort c port0
    t.tryStart c)

/-- The region is no longer suspect, and nothing of it is still recovering (R58, R39). -/
def State.clearSuspect (s : State) (r : Nat) : State :=
  { s with rig := { s.rig with suspect := s.rig.suspect.filter (· ≠ r), recovering := s.rig.recovering.filter (fun x => decide (x / 0x10000000000 ≠ r)) } }

/-- RERIG_DONE (R58): the region's sections are in force under a new epoch and the region is back in service. The epoch before it must have
drained (R53). -/
def execRerigDone (s : State) : Host.Outcome State Fault Refusal :=
  if s.rigState = 6 ∧ s.prevLive = false then
    let r := s.rig.region
    let img := (s.slotOf s.rig.regionSlot).img
    let t := s.advance
    let t := { t with rig := { t.rig with fresh := true } }
    let t := (t.setFld F.rigSts_state 0).complete cCompleted
    let t := if r = 0 then ((t.releaseDomains [6, 7]).bindAll img).mateStart
      else if r < 0x200 then t.startGroup img (r - 0x100)
      else (t.bindUplink img (r - 0x200)).forAll 8 (fun (t : State) p => t.setPort (256 + 8 * (r - 0x200) + p) port0)
    let t := (t.clearSuspect r).showBusy
    .next ((t.post 0x0206 [r]).tryDeviceApply)
  else .next s

/-! ### Locks and staging writes -/

/-- LOCK_WRITE (R59): writing 1 to a bit locks it; the device sets no lock on its own. -/
def execLockWrite (s : State) (m : Master) (bits : BitVec 16) : Host.Outcome State Fault Refusal :=
  if s.rigMay m then .next (s.setFld F.rigLock_lock (s.fld F.rigLock_lock ||| bits.toNat)) else .next s

/-! ### Trim blobs -/

/-- A violation that LOAD_TRIM finds in a record (R194, R52). -/
def State.preViolation (s : State) (r : TrimRecord) (code block object : Nat) : State :=
  { s with rig := { s.rig with pre := s.rig.pre ++ [{ code := code, block := block, stagedReg := false, section_ := r.section_, object := object }] } }

/-- Stages the word of a register from a trim record. -/
def State.trimReg (s : State) (r : TrimRecord) (f : Fld) (w : Nat) : State := s.enterReg f.addr (BitVec.ofNat 32 w) false r.section_

/-- Stages a list of registers and words. -/
def State.trimRegs (s : State) (r : TrimRecord) (l : List (Fld × Nat)) : State := l.foldl (fun (t : State) x => t.trimReg r x.1 x.2) s

/-- Places one record of section 0x0101 as the window operation would (R194). -/
def State.trimStatic (s : State) (r : TrimRecord) : State :=
  let w := wordOf r.words
  let p := w 0 % 256
  let op := w 0 / 256 % 256
  let k := w 1 + w 2 * 0x100000000
  if !(s.partOk p) then s.preViolation r vRef 0xD p
  else if op = 1 then
    let (t, x) := s.stageStatic p k (w 3) false r.section_
    if x = 0 then t else t.preViolation r vFull 0xD p
  else if op = 2 then
    let (t, x) := s.stageDelete p k false r.section_
    if x = 0 then t else t.preViolation r vRef 0xD p
  else s.preViolation r vRange 0xD p

/-- Places one record of section 0x0102 (R174). -/
def State.trimRule (s : State) (r : TrimRecord) : State :=
  let w := wordOf r.words
  if r.recType = 1 then
    let i := w 0 % 256
    if i < 32 then s.trimRegs r [(F.prsCmpSel_valid i, w 1), (F.prsCmpRange_lo i, w 2)] else s.preViolation r vCmp 0xC i
  else if r.recType = 2 then
    if w 0 < 65536 then s.enterRec (recKey kRule (w 0)) ((List.range 40).map (fun i => w (i + 1))) false r.section_ else s.preViolation r vRange 0xC (w 0)
  else if r.recType = 3 then s.trimRegs r [(F.prsDefault_class, w 0), (F.prsTrap_slow_en, w 1)]
  else s

/-- Nodes of a level (R222). -/
def levelSize (lvl : Nat) : Nat := if lvl = 0 then 256 else if lvl = 1 then 65536 else if lvl = 2 then 65536 else if lvl = 3 then 262144 else if lvl = 4 then 128 else if lvl = 5 then 1024 else 0

/-- Places one record of section 0x0103 or 0x0104 (10_sheet_scheduler.md, Registers). -/
def State.trimSheet (s : State) (r : TrimRecord) : State :=
  let w := wordOf r.words
  let u := w 0 % 256
  if r.sectType = 0x0104 then
    if r.recType = 1 then
      if u < 16 then
        s.trimRegs r ([((F.shtGateBaseLo_sec).inst u, w 1), ((F.shtGateBaseHi_sec).inst u, w 2), ((F.shtGateBaseNs_ns).inst u, w 3),
          ((F.shtGateCycle_cycle).inst u, w 4), ((F.shtGateLen_entries).inst u, w 5)] ++
          (List.range (min 256 (r.words.length - 6))).map (fun i => ((F.shtGclData_gates).inst (u * 256 + i), w (6 + i))))
      else s.preViolation r vRange 0xF u
    else s
  else if r.recType = 1 then
    if w 1 < levelSize (w 0 % 256) then
      s.enterRec (recKey kNode (nodeName (w 0 % 256) (w 1))) ((List.range 7).map (fun i => w (i + 2))) false r.section_
    else s.preViolation r vRange 0xF (w 1)
  else if r.recType = 2 then s.trimRegs r [(F.shtPfcCfg_quanta, w 0), (F.shtSojThr_thr_fl, w 1)]
  else if r.recType = 3 then
    if u < 16 then s.trimRegs r [((F.shtPfcSaLo_sa).inst u, w 1), ((F.shtPfcSaHi_sa).inst u, w 2)] else s.preViolation r vRange 0xF u
  else s

/-- Places one record of section 0x0105 (R140). -/
def State.trimHalyard (s : State) (r : TrimRecord) : State :=
  let w := wordOf r.words
  let c := w 0 % 256
  let p := w 0 / 256 % 256
  if r.recType = 1 then s.trimRegs r [(F.halChCfg_guard_bits c, w 1), (F.halChHold_hold_limit c, w 2)]
  else if r.recType = 2 then
    if p < 4 then
      s.trimRegs r [(F.halBpCtl_valid c p, w 1), (F.halBpPreLo_pre c p, w 2), (F.halBpPreHi_pre c p, w 3), (F.halBpDelLo_del c p, w 4),
        (F.halBpDelHi_del c p, w 5)]
    else s.preViolation r 0x0007 0xB c
  else if r.recType = 3 then
    if w 0 < 131072 then s.enterRec (recKey kAlc (w 0)) [w 1, w 2, w 3, w 4, w 5] false r.section_ else s.preViolation r vRange 0xB (w 0)
  else s

/-- Places one record of section 0x0106 (R383). -/
def State.trimTimers (s : State) (r : TrimRecord) : State :=
  let w := wordOf r.words
  let k := w 0 % 256
  if r.recType = 1 then
    if 1 ≤ k ∧ k ≤ 7 then s.trimReg r (F.glbLadder_allowance (k - 1)) (w 1) else s.preViolation r vRange 1 k
  else if r.recType = 2 then s.trimReg r F.fabHold_hold_ms (w 0)
  else if r.recType = 3 then s.trimReg r F.fwdFlap_flap_limit (w 0)
  else if r.recType = 4 then s.trimReg r F.memWeakCfg_weak_thr (w 0)
  else s

/-- Places one record of a trim blob (R45). -/
def State.trimRecord (s : State) (r : TrimRecord) : State :=
  if r.sectType = 0x0101 then s.trimStatic r
  else if r.sectType = 0x0102 then s.trimRule r
  else if r.sectType = 0x0103 ∨ r.sectType = 0x0104 then s.trimSheet r
  else if r.sectType = 0x0105 then s.trimHalyard r
  else if r.sectType = 0x0106 then s.trimTimers r
  else s

/-- LOAD_TRIM (R50): a staging write that reads a blob; discarded in DRAINING, ARMED and REGION. -/
def execLoadTrim (s : State) (m : Master) : Host.Outcome State Fault Refusal :=
  if s.rigMay m then
    if s.rig.loadTrimBusy then .next (s.complete cBadState)
    else if 4 ≤ s.rigState then .next (s.stagingWrite id)
    else .next ({ s with rig := { s.rig with loadTrimBusy := true } }).showBusy
  else .next s

/-- LOAD_TRIM_DONE (R50, R194): the records of the blob enter the staged set, or are lost as one staging write. -/
def execLoadTrimDone (s : State) (recs : List TrimRecord) : Host.Outcome State Fault Refusal :=
  if s.rig.loadTrimBusy then
    let t := ({ s with rig := { s.rig with loadTrimBusy := false } }).showBusy
    if 4 ≤ t.rigState then .next (t.stagingWrite id)
    else .next ((t.stagingWrite (fun (t : State) => recs.foldl (fun (t : State) r => t.trimRecord r) t)).complete cCompleted)
  else .next s

/-! ### Slots, trials and attestation -/

/-- The running slot. -/
def State.runSlot (s : State) : Nat := s.fld F.rigBoot_slot

/-- An image runs: a slot was booted. -/
def State.booted (s : State) : Bool := !(s.flag F.rigBoot_no_image) && decide (5 ≤ s.fld F.glbStart_phase) && decide (s.fld F.glbStart_phase ≠ 7)

/-- CONFIRM (R47): the TRYING slot becomes GOOD and its trial ends. -/
def execConfirm (s : State) (m : Master) : Host.Outcome State Fault Refusal :=
  if s.rigMay m then
    if s.booted = true ∧ (s.slotOf s.runSlot).st = 2 then
      let t := s.slotTo s.runSlot 3 .none
      .next (({ t with rig := { t.rig with trialStart := none } }).complete cCompleted)
    else .next (s.complete cBadState)
  else .next s

/-- TRIAL_EXPIRING (R47): 60 s of the trial are left. -/
def execTrialExpiring (s : State) : Host.Outcome State Fault Refusal :=
  if s.rig.trialStart.isSome then .next (s.post 0x0208 []) else .next s

/-- TRIAL_EXPIRY (R47): the slot is BAD; the reset follows its journal record (R334). -/
def execTrialExpiry (s : State) : Host.Outcome State Fault Refusal :=
  if s.rig.trialStart.isSome then
    let t := s.slotTo s.runSlot 4 .trialReset
    .next { t with rig := { t.rig with trialStart := none } }
  else .next s

/-- LOAD_SLOT (R48): the slot that is not running is EMPTY before the copy begins. -/
def execLoadSlot (s : State) (m : Master) : Host.Outcome State Fault Refusal :=
  if s.rigMay m then
    if s.rig.loadSlotBusy = true ∨ s.fld F.glbStart_phase < 4 then .next (s.complete cBadState)
    else
      let k := 1 - s.runSlot
      let t := if (s.slotOf k).st = 0 then s else s.slotTo k 0 .none
      let t := t.setFld (if k = 0 then F.memFlashSts_ue_a else F.memFlashSts_ue_b) 0
      .next ({ t with rig := { t.rig with loadSlotBusy := true } }).showBusy
  else .next s

/-- LOAD_SLOT_DONE (R48, R331): the copy as it stands in flash is verified, and the slot is NEW; or it stays EMPTY. -/
def execLoadSlotDone (s : State) (img : Image) (flashOk : Bool) : Host.Outcome State Fault Refusal :=
  if s.rig.loadSlotBusy then
    let k := 1 - s.runSlot
    let t := ({ s with rig := { s.rig with loadSlotBusy := false } }).showBusy
    if flashOk = false then .next (t.complete cFlashError)
    else if img.len > 62914560 ∨ t.meets img = false then .next (t.complete cSigFailed)
    else .next (((t.setSlotRec k { st := 0, img := img }).slotTo k 1 .none).complete cCompleted)
  else .next s

/-- FUSE_OWNER (R44): master identity 0x00 only; the hash of the key that signed the running image is fused for good. -/
def execFuseOwner (s : State) (m : Master) : Host.Outcome State Fault Refusal :=
  if m = 0 ∧ s.released 2 = true then
    if s.booted then
      let t := if s.rig.ownerHash.isSome then s else { s with rig := { s.rig with ownerHash := some s.rig.run.ownerKey } }
      .next (t.showBoot.complete cCompleted)
    else .next (s.complete cBadState)
  else .next s

/-- The fields of the report before its signature (R60), 224 bytes. -/
def State.report (s : State) : List Nat :=
  let r := s.rig.run
  leBytes 2 1 ++ leBytes 2 0x140 ++ [s.runSlot, s.sup.gradeH.toNat, r.profile % 256, s.rig.ownerHash.isSome.toNat + 2 * s.prevLive.toNat] ++
  leBytes 8 Config.deviceId ++ leBytes 4 r.serial ++ leBytes 2 s.epoch ++ leBytes 2 (if s.prevLive then s.fld F.rigEpoch_previous else 0) ++
  leBytes 8 (s.tim.sec % 2 ^ 48) ++ leBytes 4 s.tim.ns ++ leBytes 4 s.sup.retired.length ++
  (List.range 8).flatMap (fun i => leBytes 4 (s.fld (F.rigAttNonce_nonce i))) ++ beBytes 48 r.digest ++
  beBytes 48 (s.rig.ownerHash.getD r.ownerKey) ++ beBytes 48 r.fwDigest ++ leBytes 8 0

/-- ATTEST (R60): the report's fields are taken at the command's commit point. -/
def execAttest (s : State) (m : Master) : Host.Outcome State Fault Refusal :=
  if s.rigMay m then
    if s.rig.attestBusy then .next (s.complete cBadState)
    else .next ({ s with rig := { s.rig with attestBusy := true, attest := s.report } }).showBusy
  else .next s

/-- ATTEST_DONE (R60): the signed report stands in host memory. -/
def execAttestDone (s : State) : Host.Outcome State Fault Refusal :=
  if s.rig.attestBusy then
    let a := s.fld F.rigAttAddrHi_addr * 2 ^ 32 + s.fld F.rigAttAddrLo_addr * 64
    let sig := (Config.sign s.rig.attest ++ List.replicate 96 0).take 96
    let t := s.hostWrite a (s.rig.attest ++ sig)
    .next ((({ t with rig := { t.rig with attestBusy := false, attest := [] } }).showBusy.complete cCompleted).post 0x0209 [])
  else .next s

end Sys2Proof.Machine
end

