-- ==== Sys2Proof/Machine/I2c.lean ====
section
/-! DEFINITION. Module management: the 16 I2C masters (18_package_electrical.md R398). -/

namespace Sys2Proof.Machine

/-- Bytes 0 to n - 1 of GLB_I2C_DATA, byte 0 in bits [7:0]. -/
def State.i2cBytes (s : State) (i n : Nat) : List Nat := (leBytes 4 (s.fld (F.glbI2cData_data i))).take n

/-- The transaction of a master starts on its bus: op 1 sends the register offset and the data bytes, op 2 the offset, op 3 one byte. -/
def State.i2cStart (s : State) (i : Nat) : State :=
  let op := s.fld (F.glbI2cCmd_op i)
  s.emit (.i2c i op (s.fld (F.glbI2cCmd_dev i)) (s.fld (F.glbI2cCmd_reg i))
    (if op = 1 then s.i2cBytes i (s.fld (F.glbI2cCmd_count i) + 1) else []))

/-- A command of a master (R398, R405): discarded while busy, with cmd_lost set; it waits, with busy = 1, while VDD_AUX is low. The register
keeps op for the transaction's end; a read of it returns 0. -/
def State.i2cRun (s : State) (m : Master) (i op dev reg count : Nat) : State :=
  if mayWrite m ∧ s.released 2 = true then
    if s.flag (F.glbI2cCmd_busy i) then s.setFld (F.glbI2cCmd_cmd_lost i) 1
    else
      let t := ((((s.setFld (F.glbI2cCmd_dev i) dev).setFld (F.glbI2cCmd_reg i) reg).setFld (F.glbI2cCmd_count i) count).setFld
        (F.glbI2cCmd_op i) op).setFld (F.glbI2cCmd_busy i) 1
      if t.flag F.glbSupSts_aux_low then { t with sup := { t.sup with i2cWait := t.sup.i2cWait ++ [i] } }
      else t.i2cStart i
  else s

/-- The commands that waited for VDD_AUX start. -/
def State.i2cResume (s : State) : State :=
  s.sup.i2cWait.foldl (fun (t : State) i => t.i2cStart i) { s with sup := { s.sup with i2cWait := [] } }

/-- I2C_WRITE (R398): op 1. -/
def execI2cWrite (s : State) (m : Master) (i : BitVec 4) (dev : BitVec 7) (reg : BitVec 8) (count : BitVec 2) : Host.Outcome State Fault Refusal :=
  .next (s.i2cRun m i.toNat 1 dev.toNat reg.toNat count.toNat)

/-- I2C_READ (R398): op 2. -/
def execI2cRead (s : State) (m : Master) (i : BitVec 4) (dev : BitVec 7) (reg : BitVec 8) (count : BitVec 2) : Host.Outcome State Fault Refusal :=
  .next (s.i2cRun m i.toNat 2 dev.toNat reg.toNat count.toNat)

/-- I2C_WRITE_BYTE (R398): op 3. -/
def execI2cWriteByte (s : State) (m : Master) (i : BitVec 4) (dev : BitVec 7) (reg : BitVec 8) : Host.Outcome State Fault Refusal :=
  .next (s.i2cRun m i.toNat 3 dev.toNat reg.toNat (s.fld (F.glbI2cCmd_count i.toNat)))

/-- I2C_DONE (R398): the transaction that runs ends with a result; a read that is done gives DATA its count bytes. -/
def execI2cDone (s : State) (i : BitVec 4) (result : BitVec 2) (data : Word) : Host.Outcome State Fault Refusal :=
  let i := i.toNat
  if s.flag (F.glbI2cCmd_busy i) = true ∧ s.sup.i2cWait.contains i = false then
    let n := 8 * (s.fld (F.glbI2cCmd_count i) + 1)
    let t := if s.fld (F.glbI2cCmd_op i) = 2 ∧ result = 0 then
        s.setFld (F.glbI2cData_data i) (s.fld (F.glbI2cData_data i) / 2 ^ n * 2 ^ n + data.toNat % 2 ^ n) else s
    .next (((t.setFld (F.glbI2cCmd_result i) result.toNat).setFld (F.glbI2cCmd_busy i) 0).setFld (F.glbI2cCmd_op i) 0)
  else .next s

end Sys2Proof.Machine
end

