-- ==== Sys2Proof/Machine/Start.lean ====
section
/-! DEFINITION. The journal writer (R334), start-up (R375, R376), reefed hold (R369 to R371), the VDD_AUX supervisor, and un-retirement
(R382). -/

namespace Sys2Proof.Machine

/-! ### What follows a journal record (R334, R381, R382) -/

/-- Results of GLB_RET_CMD. -/
def rtNotRetired : Nat := 1
def rtBadArg : Nat := 2
def rtTestFailed : Nat := 3
def rtBadState : Nat := 4

/-- The structural part and the event of a retirement whose record is written; a part that other blocks must agree on is a device-initiated
apply, which carries the event (R381). -/
def State.retireActs (s : State) (cls obj : Nat) : State :=
  if cls = 1 then ((s.recovered (chRegion obj) 1 obj).post 0x0A04 [obj]).retiredGives
  else if cls = 2 then s.tryDeviceApply
  else if cls = 3 then (if obj = 648 then s.post 0x0904 [obj] else s.tryDeviceApply)
  else if cls = 4 then
    if Tbl.find s.shr.repl obj 0 ≠ 0 then s.post 0x0802 [obj, Tbl.find s.shr.repl obj 0 - 1]
    else if s.rig.devApplies.contains (4, obj) then s.tryDeviceApply
    else
      (match (List.range 16).find? (fun l => decide (s.fld (F.shrLane_phys l) = obj)) with
       | some l => s.post 0x0803 [l]
       | none => s)
  else if cls = 5 then s.retireBuilder obj
  else if cls = 6 then s.retireChecker obj
  else if cls = 8 then s.post 0x0604 [obj / 0x1000000, obj % 0x1000000]
  else if cls = 10 then (s.retireBank obj).post 0x0E09 [obj]
  else s

/-- The resource whose un-retirement record is written returns to service (R382). -/
def State.unretireActs (s : State) (cls obj : Nat) : State :=
  let s := { s with sup := { s.sup with retired := s.sup.retired.filter (fun r => !(decide (r.cls = cls) && decide (r.obj = obj))), unret := none } }
  let s := s.setFaultList cls obj []
  let s :=
    if cls = 1 then (if s.ch obj = chRetired then ((s.moveCh obj chOff).showRetries obj).tryStart obj else s)
    else if cls = 2 ∨ cls = 3 then (s.setFld (F.laneFaults_faults obj) 0).acquire obj true
    else if cls = 4 then
      let b := s.fld F.shrSts_retired / 2 ^ obj % 2
      let t := (s.setFld F.shrSts_retired (s.fld F.shrSts_retired - b * 2 ^ obj)).setFld F.shrSts_spares_free (min 3 (s.fld F.shrSts_spares_free + 1))
      { t with shr := { t.shr with repl := Tbl.put t.shr.repl obj 0 (obj + 1) } }
    else if cls = 5 then s.unretireBuilder obj
    else if cls = 6 then s.unretireChecker obj
    else if cls = 8 then
      let m := obj / 0x1000000
      let k := m * 256 + spareSet m (obj % 0x1000000)
      { s with mem := { s.mem with used := Tbl.put s.mem.used k 0 (Tbl.find s.mem.used k 0 - 1), spared := Tbl.put s.mem.spared m 0 (Tbl.find s.mem.spared m 0 - 1) } }
    else if cls = 10 then s.dueApply 266 obj
    else s
  let s := (s.countN Cn.unretirements 0 cls 1).post 0x0128 [cls, obj]
  ((s.setFld F.glbRetCmd_result 0).setFld F.glbRetCmd_busy 0).tryDeviceApply

/-- What waited for a record (R334). -/
def State.jnlActs (s : State) (r : JnlRec) : State :=
  match r.act with
  | .none => s
  | .retire => (s.retireActs r.cls r.obj).showBusy
  | .unretire => s.unretireActs r.cls r.obj
  | .trialReset => (s.kindReset 5).startUp

/-- The next record of the queues is written: the oldest persistent one before any ordinary one (R334). -/
def State.jnlNext (s : State) : State :=
  match s.mem.jnlP with
  | r :: p =>
    let t := s.jnlPut r
    let t := { t with mem := { t.mem with jnlP := p ++ s.mem.jnlWait.take 1, jnlWait := s.mem.jnlWait.drop 1 } }
    t.jnlActs r
  | [] =>
    match s.mem.jnlO with
    | r :: o =>
      let t := s.jnlPut r
      { t with mem := { t.mem with jnlO := o, jnlDropSaid := if o = [] then false else t.mem.jnlDropSaid } }
    | [] => s

/-- JOURNAL_WRITE (R334): verified says that the block took its erase and program; one that did not is bad and skipped. -/
def execJournalWrite (s : State) (verified : Bool) : Host.Outcome State Fault Refusal :=
  if s.released 3 = true ∧ s.jnlTakes = true ∧ (s.mem.jnlP ≠ [] ∨ s.mem.jnlO ≠ []) then
    if verified then .next s.jnlNext
    else
      let t := { s with mem := { s.mem with jnlBlocks := s.mem.jnlBlocks - 1 } }
      let n := t.fld F.memJnlSts_bad + 1
      let t := ((t.setFld F.memJnlSts_bad n).setFld F.memJnlSts_warn (if 64 < n then 1 else 0)).setFld F.memJnlSts_stopped
        (if t.mem.jnlBlocks < 16 then 1 else 0)
      .next (t.post 0x0609 [n])
  else .next s

/-! ### Start-up -/

/-- Replay of one record (R335). -/
def State.replayRec (s : State) (r : JnlRec) : State :=
  let l := s.sup.retired.filter (fun e => !(decide (e.cls = r.cls) && decide (e.obj = r.obj)))
  if r.typ = 1 ∨ r.typ = 6 then { s with sup := { s.sup with retired := insRet ⟨r.cls, r.obj, r.sec⟩ l } }
  else if r.typ = 2 then { s with sup := { s.sup with retired := l } }
  else s

/-- A spared bank or a mapped row that replay restores (R328, R329). -/
def State.restoreMem (s : State) (e : RetEnt) : State :=
  if e.cls = 8 then
    let m := e.obj / 0x1000000
    let t := s.useSpare m (e.obj % 0x1000000)
    { t with mem := { t.mem with spared := Tbl.put t.mem.spared m 0 (Tbl.find t.mem.spared m 0 + 1) } }
  else if e.cls = 9 then
    let m := 0x10 + e.obj / 0x10000000
    let t := s.useSpare m (e.obj % 0x10000000)
    { t with mem := { t.mem with spared := Tbl.put t.mem.spared m 0 (Tbl.find t.mem.spared m 0 + 1), rowMap := t.mem.rowMap ++ [(m, e.obj % 0x10000000)] } }
  else s

/-- The journal is replayed in the order of its records, without events (R335). -/
def State.replay (s : State) : State :=
  let t := s.mem.jnl.foldl (fun (t : State) r => t.replayRec r) { s with sup := { s.sup with retired := [] } }
  t.sup.retired.foldl (fun (t : State) e => t.restoreMem e) t

/-- A slot that boot selection may choose (R46): not EMPTY or BAD, and its image meets R44. -/
def State.cand (s : State) (k : Nat) : Bool := decide (1 ≤ (s.slotOf k).st) && decide ((s.slotOf k).st ≤ 3) && s.meets (s.slotOf k).img

/-- The slot of the highest serial number among two. -/
def State.higher (s : State) (a b : Bool) : Option Nat :=
  match a, b with
  | false, false => none
  | true, false => some 0
  | false, true => some 1
  | true, true => some (if (s.slotOf 0).img.serial < (s.slotOf 1).img.serial then 1 else 0)

/-- The persistent records of the boot are written before it goes on (R334). -/
def State.jnlFlush (s : State) : State :=
  (s.mem.jnlP ++ s.mem.jnlWait).foldl (fun (t : State) _ => if t.jnlTakes then t.jnlNext else t) s

/-- Boot selection (R46): the state after it, with RIG_BOOT, and the slot to boot. -/
def State.bootSelect (s : State) : State × Option Nat :=
  let drop := fun (k : Nat) => s.cand k && decide ((s.slotOf k).st = 2)
  let t := if drop 0 then s.slotTo 0 4 .none else s
  let t := if drop 1 then t.slotTo 1 4 .none else t
  let fell := drop 0 || drop 1 || decide (s.fld F.glbStart_cause = 5)
  let new := fun (k : Nat) => t.cand k && decide ((t.slotOf k).st = 1)
  match t.higher (new 0) (new 1) with
  | some k =>
    let t := t.slotTo k (if (t.slotOf k).img.trialS = 0 then 3 else 2) .none
    (((t.setFld F.rigBoot_slot k).setFld F.rigBoot_fallback fell.toNat).showBoot.jnlFlush, some k)
  | none =>
    match t.higher (t.cand 0) (t.cand 1) with
    | some k =>
      let t := t.slotTo k 3 .none
      (((t.setFld F.rigBoot_slot k).setFld F.rigBoot_fallback fell.toNat).showBoot.jnlFlush, some k)
    | none => (((t.setFld F.rigBoot_no_image 1).showBoot).jnlFlush, none)

/-- Phase IMAGE ends: the chosen image is the one that will run, or start-up halts with every domain but HIF held (R375). -/
def State.endImage (s : State) : State :=
  let (t, k) := s.bootSelect
  match k with
  | some k =>
    let img := (t.slotOf k).img
    let t := (({ t with rig := { t.rig with run := img } }).setFld F.rigImgSerial_serial img.serial).setFld F.glbStart_phase 4
    let t := t.releaseDomains [4]
    if t.flag F.rigBoot_fallback then ({ t with rig := { t.rig with fellBack := true } }).post 0x0207 [] else t
  | none => (t.resetDomains [7, 6, 5, 4, 3, 1]).setFld F.glbStart_phase 7

/-- The end of start-up (R376): the sections are in force as epoch 1, the trial countdown starts, and the events that waited are posted. -/
def State.endStart (s : State) : State :=
  let t := s.bindAll s.rig.run
  let t := ((t.setFld F.rigEpoch_current 1).setFld F.rigEpoch_previous 0).setFld F.rigSts_prev_live 0
  let t := (t.setFld F.glbStart_phase 6).mateStart
  let t := if (t.slotOf t.runSlot).st = 2 then { t with rig := { t.rig with trialStart := some t.sup.tick } } else t
  let t := if t.sup.supplyResetDue then
      ({ t with sup := { t.sup with supplyResetDue := false } }).post 0x0122 [t.sup.supplyMask, t.fld F.glbSupVmin_vmin]
    else t
  let t := match t.sup.thermCrit with
    | some x => ({ t with sup := { t.sup with thermCrit := none } }).post 0x0126 [unsigned 32 x]
    | none => t
  t.post 0x0123 [t.fld F.glbStart_cause]

/-- STARTUP_PHASE_END (R375): the phase's work is done ms milliseconds after start-up began. -/
def execStartupPhaseEnd (s : State) (ms : BitVec 16) : Host.Outcome State Fault Refusal :=
  let p := s.fld F.glbStart_phase
  let t := s.setFld F.glbStart_elapsed_ms ms.toNat
  if p = 1 then .next ((t.releaseDomains [3]).setFld F.glbStart_phase 2)
  else if p = 2 then .next (t.replay.setFld F.glbStart_phase 3)
  else if p = 3 then .next t.endImage
  else if p = 4 then .next ((t.releaseDomains [5, 6, 7]).setFld F.glbStart_phase 5)
  else if p = 5 then .next t.endStart
  else .next s

/-! ### Reefed hold -/

/-- REEF_ENTER (R369): VDD_CORE reads mv after the warning filter. -/
def execReefEnter (s : State) (mv : BitVec 16) : Host.Outcome State Fault Refusal :=
  if s.sup.reefed then .next s
  else
    let t := { s with sup := { s.sup with reefed := true, holdMin := mv.toNat, vddCore := mv.toNat } }
    let t := ((t.setFld F.glbPaceSts_reefed 1).setFld F.glbSupSts_reefed_seen 1).setFld F.glbSupReef_entries (min 255 (t.fld F.glbSupReef_entries + 1))
    let t := (t.setFld F.glbSupVmin_vmin (min (t.fld F.glbSupVmin_vmin) mv.toNat)).showBusy
    .next ((t.count Cn.reefEntries 0).post 0x0120 [])

/-- REEF_EXIT (R371, R411): low is the lowest reading since the last command of the supervisor, now the present one, ns the duration. The
device-initiated applies that waited follow at once (R370). -/
def execReefExit (s : State) (low now : BitVec 16) (ns : BitVec 40) : Host.Outcome State Fault Refusal :=
  if s.sup.reefed then
    let us := cdiv ns.toNat 1000
    let v := min s.sup.holdMin low.toNat
    let t := { s with sup := { s.sup with reefed := false, reefExit := some s.sup.tick, holdMin := 0xFFFF, vddCore := now.toNat } }
    let t := ((t.setFld F.glbPaceSts_reefed 0).setFld F.glbSupReef_last_us (min 0xFFFFFF us)).setFld F.glbSupVmin_vmin (min (t.fld F.glbSupVmin_vmin) v)
    let t := ((t.countN Cn.reefTimeUs 0 0 us).jnlPersist 5 0x0121 0 0 [v, us] .none).post 0x0121 [v, us]
    .next t.tryDeviceApply.showBusy
  else .next s

/-- VDD_AUX_LOW (R368). -/
def execVddAuxLow (s : State) : Host.Outcome State Fault Refusal :=
  if s.flag F.glbSupSts_aux_low then .next s else .next ((s.setFld F.glbSupSts_aux_low 1).post 0x0127 [])

/-- VDD_AUX_RESUME (R368, R398): the I2C masters resume, and the commands that waited start. -/
def execVddAuxResume (s : State) : Host.Outcome State Fault Refusal := .next (s.setFld F.glbSupSts_aux_low 0).i2cResume

/-! ### Un-retirement (R382) -/

/-- A command of GLB_RET_CMD is taken: master identity 0x00, and none runs (R405). -/
def State.retMay (s : State) (m : Master) : Bool := decide (m = 0) && s.released 2 && !(s.flag F.glbRetCmd_busy)

/-- The un-retirement record is queued; its write is the commit point. -/
def State.queueUnretire (s : State) (cls obj : Nat) : State := s.jnlPersist 2 0 cls obj [] .unretire

/-- UNRETIRE (R382). -/
def execUnretire (s : State) (m : Master) : Host.Outcome State Fault Refusal :=
  if s.retMay m then
    let cls := s.fld F.glbRetArg_class
    let obj := s.fld F.glbRetObj_obj
    let done := fun (r : Nat) => s.setFld F.glbRetCmd_result r
    if cls = 7 ∨ cls = 9 then .next (done rtBadArg)
    else if s.sup.reefed = true ∨ s.rig.devApplies ≠ [] then .next (done rtBadState)
    else if s.isRetired cls obj = false then .next (done rtNotRetired)
    else
      let t := ({ s with sup := { s.sup with unret := some (cls, obj) } }).setFld F.glbRetCmd_busy 1
      .next (if cls = 8 ∨ cls = 10 then t else t.queueUnretire cls obj)
  else .next s

/-- MARCH_TEST_DONE (R382): the bank passed, and the record is queued; or it stays retired, and nothing is written. -/
def execMarchTestDone (s : State) (passed : Bool) : Host.Outcome State Fault Refusal :=
  match s.sup.unret with
  | some (cls, obj) =>
    if (cls = 8 ∨ cls = 10) ∧ s.recordWaits cls obj = false then
      if passed then .next (s.queueUnretire cls obj)
      else .next ((({ s with sup := { s.sup with unret := none } }).setFld F.glbRetCmd_busy 0).setFld F.glbRetCmd_result rtTestFailed)
    else .next s
  | none => .next s

/-- RET_READ (GLB_RET_IDX): the selected entry of the list, ordered by class and then index. -/
def execRetRead (s : State) (m : Master) : Host.Outcome State Fault Refusal :=
  if s.retMay m then
    let e := s.sup.retired[s.fld F.glbRetIdx_idx]?
    let t := (s.setFld F.glbRetData0_valid e.isSome.toNat).setFld F.glbRetData0_class ((e.map (·.cls)).getD 0)
    .next (((t.setFld F.glbRetData1_index ((e.map (·.obj)).getD 0)).setFld F.glbRetData2_sec ((e.map (·.sec)).getD 0)).setFld F.glbRetCmd_result 0)
  else .next s

end Sys2Proof.Machine
end

