-- ==== Sys2Proof/Machine/View.lean ====
section
/-! DEFINITION. What a register reads (R6, R9, R10, R403): the staged value of an ST field, 0 for WO and reserved bits, and for registers
that show state held elsewhere the value computed from it. -/

namespace Sys2Proof.Machine

/-- The model's key of a register reached through a selector register: the selected instance stands above bit 31. -/
def State.selKey (s : State) (a : Nat) : Nat :=
  if a = 0x200021C then a + (s.fld F.shtGateSel_group * 256 + s.fld F.shtGclIdx_idx) * 0x100000000
  else if 0x2000204 ≤ a ∧ a ≤ 0x200022C ∧ a ≠ 0x2000218 then a + s.fld F.shtGateSel_group * 0x100000000
  else if 0x700204 ≤ a ∧ a ≤ 0x700218 then a + s.fld F.shrPortSel_port * 0x100000000
  else if a = 0x300404 then a + s.fld F.cntPermIdx_page * 0x100000000
  else a

/-- The faults of a resource in its ladder's present window (R379). -/
def State.faultsNow (s : State) (cls obj : Nat) : Nat :=
  ((s.faultList cls obj).filter (fun t => s.sup.tick - t < ticksOfSec (s.fld (F.glbLadder_window_s (cls - 1))))).length

/-- Bit n of a list of flags, as one number. -/
def bitsOf (l : List Bool) : Nat := l.foldr (fun b n => 2 * n + b.toNat) 0

/-! ### GLB and RIG -/

/-- The quad island runs (R23, R27): the data domain is out of reset, the reference is locked, and a bound channel is not retired. -/
def State.quadRuns (s : State) (q : Nat) : Bool :=
  s.released 7 && [4 * q, 4 * q + 1, 4 * q + 2, 4 * q + 3].any (fun c =>
    decide (s.fld (F.pchMode_mode c) ≠ 0) && decide (s.ch c ≠ chRetired) && s.flag (F.pchSts_ref_lock c))

/-- The uplink island runs: the group is bound and a lane of its ports is not retired. -/
def State.uplinkRuns (s : State) (u : Nat) : Bool :=
  s.released 7 && s.uplinkBound u && (List.range 8).any (fun i =>
    (s.portOfLane (8 * u + i)).isSome && decide (s.ln (512 + 8 * u + i) ≠ lnRetired))

/-- Island 80 runs (R27): pair_en, enable, and its clock present. -/
def State.stayRuns (s : State) : Bool :=
  s.released 6 && s.rig.run.mate.pairEn && s.flag F.laneSlCtrl_enable && (s.rig.run.mate.rateMatched || decide (s.ln 648 = lnLocked))

/-- GLB_ISL_RUN2: islands 64 to 87. -/
def State.islRun2 (s : State) : Nat :=
  bitsOf ((List.range 16).map s.uplinkRuns ++ [s.stayRuns] ++
    (List.range 4).map (fun d => s.released 4 && decide (s.rig.run.drams / 2 ^ d % 2 = 1)) ++ [true, true, true])

/-- The seconds left in the trial (R47), rounded up to whole seconds elapsed. -/
def State.trialLeft (s : State) : Nat :=
  match s.rig.trialStart with
  | some t => (s.slotOf s.runSlot).img.trialS - (s.sup.tick - t) / 625000000
  | none => 0

/-- The violation record that RIG_VIOL_IDX selects. -/
def State.violSel (s : State) : Violation :=
  s.rig.viols.getD (s.fld F.rigViolIdx_idx) { code := 0, block := 0, stagedReg := false, section_ := 0, object := 0 }

/-- Computed registers of GLB and RIG. -/
def State.showGlb (s : State) (a : Nat) : Option Nat :=
  if a = 0x198 then some s.sup.retired.length
  else if a = 0x240 then some (bitsOf ((List.range 32).map s.quadRuns))
  else if a = 0x244 then some (bitsOf ((List.range 32).map (fun q => s.quadRuns (32 + q))))
  else if a = 0x248 then some s.islRun2
  else if a = 0x400 then some (s.free 32)
  else if a = 0x100024 then some ((setBits (s.reg a) 16 16 s.trialLeft).toNat)
  else if a = 0x100034 then
    let v := s.violSel
    some (v.section_ % 256 * 2 ^ 24 + v.stagedReg.toNat * 2 ^ 23 + v.block % 128 * 2 ^ 16 + v.code % 2 ^ 16)
  else if a = 0x100038 then some s.violSel.object
  else none

/-! ### MBX and CNT -/

/-- The outbound queue of a side: word and writer. -/
def State.outQ (s : State) (c : Nat) (side : Bool) : List (Nat × Nat) := Tbl.find s.mbx.out (2 * c + side.toNat) []

/-- The master may use the side of a channel (R350): any on channels 0 and 1, else the bound identity. -/
def State.mayUse (s : State) (m : Master) (c : Nat) (side : Bool) : Bool :=
  if c < 2 then true
  else s.flag (F.mbxBind_valid (c - 2)) && decide (m.toNat = s.fld (if side then F.mbxBind_idb (c - 2) else F.mbxBind_ida (c - 2)))

/-- MBX_STS of a side as a master reads it. -/
def State.mbxSts (s : State) (m : Master) (c : Nat) (side : Bool) : Nat :=
  if s.mayUse m c side then
    let i := 2 * c + side.toNat
    Tbl.find s.mbx.src (64 * i + m.toNat) 0 * 2 ^ 18 + s.fld (F.mbxSts_peer_reset c side.toNat) * 2 ^ 17 + s.fld (F.mbxSts_ovf c side.toNat) * 2 ^ 16 +
      (8 - (s.outQ c side).length) * 2 ^ 8 + (s.outQ c (!side)).length
  else 0

/-- MBX_FLAG as a master reads it (R352). -/
def State.mbxFlag (s : State) (m : Master) : Nat :=
  let half := fun (side : Bool) => bitsOf ((List.range 16).map (fun c => s.mayUse m c side && decide (s.outQ c (!side) ≠ [])))
  half false + half true * 2 ^ 16

/-- The counter array that CNT_DIR_SEL names (R359). -/
def State.dirSel (s : State) : Option Ctr :=
  Cn.all.find? (fun c => decide (c.block = s.fld F.cntDirSel_block) && decide (c.num = s.fld F.cntDirSel_counter) && decide (c.pos = s.fld F.cntDirSel_pos))

/-- Computed registers of MBX and CNT. -/
def State.showMbx (s : State) (m : Master) (a : Nat) : Option Nat :=
  if a < 0x200400 then
    let d := a - 0x200000
    if d % 32 = 8 then some (s.mbxSts m (d / 64) (decide (d % 64 / 32 = 1))) else some 0
  else if a = 0x200400 then some (s.mbxFlag m)
  else if 0x200800 ≤ a ∧ a < 0x200900 then some 0
  else if a = 0x300204 then
    match s.dirSel with
    | some c => some (2 ^ 31 + c.index 0 % 2 ^ 21)
    | none => some 0
  else if a = 0x300208 then
    match s.dirSel with
    | some c => some ((decide (0 < c.index 0) && Tbl.find s.chain (c.index 0 - 1) false).toNat * 2 ^ 31 + c.wide.toNat * 2 ^ 30 + c.subs % 256 * 2 ^ 19 + c.insts % 2 ^ 19)
    | none => some 0
  else none

/-! ### TIM, MEM, MATE, SHR -/

/-- The tracker entry and the log entry that the index registers select. -/
def State.weakSel (s : State) : Option WeakEnt := s.mem.tracker[s.fld F.memWeakIdx_idx]?
def State.ueSel (s : State) : Option UeEnt := s.mem.ueLog[s.fld F.memUeIdx_idx]?

/-- Seconds left on the wait-to-restore timer. -/
def State.wtrLeft (s : State) : Nat :=
  match s.mate.wtr with
  | some t => s.rig.run.mate.wtrS - (s.sup.tick - t) / 625000000
  | none => 0

/-- Computed registers of TIM. -/
def State.showTim (s : State) (a : Nat) : Option Nat :=
  if a = 0x400010 then some s.tim.ns
  else if a = 0x400014 then some s.tim.frac
  else if a = 0x400018 then some (s.tim.sec % 2 ^ 32)
  else if a = 0x40001C then some (s.tim.sec / 2 ^ 32)
  else if a = 0x40005C then some 0
  else if 0x400400 ≤ a ∧ a < 0x400600 ∧ a % 32 = 4 then some 0
  else none

/-- Computed registers of MEM. -/
def State.showMem (s : State) (a : Nat) : Option Nat :=
  let mem := s.fld F.memSpareSel_mem
  if a = 0x500000 then
    some ((setBits (setBits (s.reg a) 30 1 (s.mem.scrub.running && s.sup.reefed).toNat) 16 7 s.mem.tracker.length).toNat)
  else if a = 0x500048 then
    match s.weakSel with
    | some e => some (2 ^ 31 + e.ue.toNat * 2 ^ 30 + e.mem % 256 * 2 ^ 16 + e.count % 16)
    | none => some 0
  else if a = 0x50004C then some ((s.weakSel.map (·.ix)).getD 0)
  else if a = 0x500050 then some (min 65535 ((s.weakSel.map (fun e => (s.sup.tick - e.last) / 37500000000)).getD 0))
  else if a = 0x500064 then
    match s.ueSel with
    | some e => some (2 ^ 31 + e.mem % 256 * 2 ^ 16 + e.owner % 256 * 2 ^ 8 + e.foundBy % 256)
    | none => some 0
  else if a = 0x500068 then some ((s.ueSel.map (·.ix)).getD 0)
  else if a = 0x50006C then some ((s.ueSel.map (·.obj)).getD 0)
  else if a = 0x500074 then
    if banksOf mem = 0 then some 0
    else
      let ppr := Tbl.find s.mem.ppr mem 0
      let sp := Tbl.find s.mem.spared mem 0
      some ((sparesOf mem - Tbl.find s.mem.used mem 0) % 2 ^ 16 * 2 ^ 16 + (if memClass mem = 9 then sp - ppr else sp) % 2 ^ 16)
  else if a = 0x500078 then some (Tbl.find s.mem.ppr mem 0)
  else none

/-! ### LANE, PCH, HAL -/

/-- Word k of response record PCH_RAT_DREC_IDX of a channel (R118): of the last eight records of the most recent window, oldest first. -/
def State.drec (s : State) (c k : Nat) : Nat :=
  let l := (s.discOf c).recs
  match (l.drop (l.length - 8))[s.fld (F.pchRatDrecIdx_idx c)]? with
  | none => 0
  | some r =>
    if k = 0 then r.ans.sn0 else if k = 1 then r.ans.sn1 else if k = 2 then r.ans.coarse % 2 ^ 32
    else 2 ^ 31 + r.frame % 16 * 2 ^ 24 + r.known.isSome.toNat * 2 ^ 18 + r.ans.profile % 4 * 2 ^ 16 + r.known.getD 0 % 2 ^ 16

/-- Active ONUs of a channel in LOBi. -/
def State.lobiCount (s : State) (c : Nat) : Nat :=
  (s.onu.filter (fun o => decide (o.2.chan = c) && (decide (o.2.st = 4)) && o.2.lobi)).length

/-- Measurements in progress on a channel (R120). -/
def State.rangingCount (s : State) (c : Nat) : Nat := (s.onu.filter (fun o => decide (o.2.chan = c) && o.2.meas.isSome)).length

/-- Computed registers of PCH. -/
def State.showPch (s : State) (a : Nat) : Option Nat :=
  let c := (a - 0x1000000) / 0x4000
  let o := (a - 0x1000000) % 0x4000
  if o = 0x004 then some ((setBits (s.reg a) 8 8 (min 255 (s.faultsNow 1 c))).toNat)
  else if o = 0x02C then some (fsCap (s.fld (F.pchMode_mode c)))
  else if o = 0x10C then some ((setBits (s.reg a) 16 9 (s.lobiCount c)).toNat)
  else if o = 0x214 then some ((setBits (s.reg a) 16 4 (s.rangingCount c)).toNat)
  else if 0x264 ≤ o ∧ o ≤ 0x270 then some (s.drec c ((o - 0x264) / 4))
  else none

/-- Computed registers of LANE and SHR. -/
def State.showLane (s : State) (a : Nat) : Option Nat :=
  if 0x700040 ≤ a ∧ a < 0x700080 then some ((setBits (s.reg a) 16 8 (min 255 (s.faultsNow 4 (getBits (s.reg a) 24 5)))).toNat)
  else if 0x800000 ≤ a ∧ a < 0x8A2400 ∧ a % 0x400 = 0x30 then
    let i := (a - 0x800000) / 0x400
    some (min 255 (s.faultsNow (laneClass i) i))
  else none

/-- Computed registers of HAL. -/
def State.showHal (s : State) (a : Nat) : Option Nat :=
  if 0x1400010 ≤ a ∧ a < 0x1400030 then
    let k := (a - 0x1400010) / 4
    if (List.range 32).any (fun i => decide (s.fld (F.pchMode_mode (32 * k + i)) ≠ 0)) then none
    else some ((setBits (s.reg a) 30 2 3).toNat)
  else if a = 0x14000CC then some (((s.hal.cap[s.fld F.halCapIdx_idx]?).map mapWord).getD 0 % 2 ^ 32)
  else if a = 0x14000D0 then some (((s.hal.cap[s.fld F.halCapIdx_idx]?).map mapWord).getD 0 / 2 ^ 32)
  else if 0x1410000 ≤ a ∧ a < 0x1420000 ∧ a % 0x100 = 0x08 then
    let c := (a - 0x1410000) / 0x100
    some ((setBits (setBits (s.reg a) 24 4 (min 15 (s.faultsNow 7 c))) 0 1 (decide ((s.halOf c).builds ≠ [])).toNat).toNat)
  else none

/-! ### PRS, FWD, FAB -/

/-- Computed registers of PRS. -/
def State.showPrs (s : State) (a : Nat) : Option Nat :=
  let mask := fun (l : List Nat) (base : Nat) => bitsOf ((List.range 32).map (fun i => l.contains (base + i)))
  if a = 0x1800008 then some ((s.recs.filter (fun x => decide (recKey kRule 0 ≤ x.1) && decide (x.1 < recKey kRule 65536) &&
      decide (recBits x.2 38 31 31 = 1))).length)
  else if a = 0x180000C then
    let g := s.rig.run.graph
    some (g.exts.length % 2048 * 2 ^ 21 + g.trans.length % 4096 * 2 ^ 9 + g.nodes.length % 512)
  else if a = 0x1800310 then some (mask (s.prs.ret.map (·.1)) 0)
  else if a = 0x1800314 then some (mask (s.prs.ret.map (·.1)) 32)
  else if a = 0x1800318 then some (mask s.prs.down 0)
  else if a = 0x180031C then some (mask s.prs.down 32)
  else none

/-- Computed registers of FWD. -/
def State.showFwdRegs (s : State) (a : Nat) : Option Nat :=
  let p := s.fld F.fwdPartSel_part
  let d := s.fld F.fwdPortSel_port
  if a = 0x1A00014 then some ((s.ovfLocs p).length % 2 ^ 15 * 2 ^ 15)
  else if a = 0x1A00018 then some ((s.fwd.slots.filter (fun x => match x.2 with | some e => decide (e.part = p) | none => false)).length)
  else if a = 0x1A00024 then
    let q := s.srcPart d
    some ((decide (q.1 ≠ 0xFF) && decide (s.owned d = q.2)).toNat * 2 ^ 31 + (if q.1 = 0xFF then 2 ^ 23 else q.1 % 16 * 2 ^ 24) + s.owned d % 2 ^ 20)
  else none

/-- Milliseconds left in a port's hold window (R210). -/
def State.holdLeft (s : State) (d : Nat) : Nat :=
  let p := s.portOf d
  if p.st = 1 then p.holdMs - (s.sup.tick - p.since) / 625000 else 0

/-- The port whose packets an egress queue holds: the class queue's port, or the destination of the flow queue's packets. -/
def queuePort (k : Nat) (x : EgQ) : Nat :=
  if 0x40000 ≤ k then 256 + (k - 0x40000) / 8
  else match x.pkts with
    | q :: _ => q.pkt.dest
    | [] => 0xFFFF

/-- Computed registers of FAB. -/
def State.showFab (s : State) (a : Nat) : Option Nat :=
  let k := s.fld F.fabPoolSel_pool
  let d := s.fld F.fabPortSel_port
  if a = 0x1C00000 then some ((setBits (s.reg a) 8 1 s.sup.reefed.toNat).toNat)
  else if a = 0x1C00044 then some ((s.fab.waiting.any (fun w => decide (w.first = k))).toNat * 2 ^ 31 + s.poolFree k % 2 ^ 21)
  else if a = 0x1C00048 then some (if k = 7 then 0x1FFFFF else min (s.poolOf k).low (s.poolFree k))
  else if a = 0x1C0004C then some ((s.poolSize k - (s.poolOf k).lost - (if k = 0 then 4096 * s.fld F.fabSts_banks_retired else 0)) % 2 ^ 21)
  else if a = 0x1C00054 then some (s.classUse (s.fld F.fabClassSel_class))
  else if a = 0x1C00058 then some s.sharedFree
  else if a = 0x1C00064 then some ((s.portOf d).st % 4 * 2 ^ 30 + s.holdLeft d % 2 ^ 14)
  else if a = 0x1C00068 then some (sumOf (fun x => if queuePort x.1 x.2 = d then x.2.dieCells else 0) s.fab.q)
  else none

/-! ### The view -/

/-- The value of a register that shows state held elsewhere, as a master reads it. -/
def State.shown (s : State) (m : Master) (a : Nat) : Option Nat :=
  if a < 0x200000 then s.showGlb a
  else if a < 0x400000 then s.showMbx m a
  else if a < 0x500000 then s.showTim a
  else if a < 0x600000 then s.showMem a
  else if a = 0x600008 then some s.wtrLeft
  else if a < 0x1000000 then s.showLane a
  else if a < 0x1400000 then s.showPch a
  else if a < 0x1800000 then s.showHal a
  else if a < 0x1A00000 then s.showPrs a
  else if a < 0x1C00000 then s.showFwdRegs a
  else if a < 0x2000000 then s.showFab a
  else none

/-- A master may read the register (R251: the command area of Shroud answers the master that issued the last command; R171: PRS is read by
the physical function and the Mast cores). -/
def State.mayRead (s : State) (m : Master) (a : Nat) : Bool :=
  if 0x700140 ≤ a ∧ a < 0x7001D0 then decide (s.shr.issuer = some m.toNat)
  else if 0x1800000 ≤ a ∧ a < 0x1A00000 then mayWrite m
  else true

/-- The fields of a register as a read returns them: ST fields from the staged set, WO and reserved bits 0 (R6, R9, R10). -/
def State.view (s : State) (m : Master) (a : Nat) : Word :=
  if s.released (domainOf a) = false then 0
  else
    match RegMap.row? a with
    | none => 0
    | some r =>
      if s.mayRead m a then
        let k := s.selKey a
        let w : Word := match s.shown m a with
          | some v => BitVec.ofNat 32 v
          | none => s.reg k
        let st : Word := BitVec.ofNat 32 (r.mask (fun x => decide (x = .st)))
        let rd : Word := BitVec.ofNat 32 (r.mask (fun x => decide (x ≠ .wo)))
        ((w &&& ~~~st) ||| (s.stagedReg k &&& st)) &&& rd
      else 0

end Sys2Proof.Machine
end

