-- ==== Sys2Proof/Machine/Xgem.lean ====
section
/-! DEFINITION. XGEM encapsulation (R77 to R82), firmware's context updates (R19, R80), the capture of maps (R149), and packets that come
in from an uplink (R28, R246). -/

namespace Sys2Proof.Machine

/-- Places a packet of which n bytes are payload at the front of the frame in progress: whole, as a first fragment, or not at all while the
rest of the frame is filled (R79). -/
def State.placeXgem (s : State) (c portId keyIx len : Nat) (stomped : Bool) (rest : List Pkt) : State :=
  let d := s.dsOf c
  let n := 8 + 4 * cdiv len 4
  if n ≤ d.space then
    ((s.setDs c { d with edge := rest, space := d.space - n }).count Cn.dsXgem c).emit (.xgem c portId keyIx len true stomped)
  else if 24 ≤ d.space then
    ((s.setDs c { d with edge := rest, space := 0,
                         rest := some { portId := portId, keyIx := keyIx, left := len - (d.space - 8) } }).count Cn.dsXgem c).emit
      (.xgem c portId keyIx (d.space - 8) false stomped)
  else (s.setDs c { d with space := 0 }).countN Cn.dsIdleBytes c 0 d.space

/-- The key index of a packet's record and the state after its key is used (R80, R240, R244), or the state with the packet dropped and
counted. -/
def State.dsCipher (s : State) (c : Nat) (ws : List Nat) (keyEcc : Ecc) : Except State (State × Nat) :=
  if recBits ws 1 1 1 = 0 then .ok (s, 0)
  else
    let cls := recBits ws 1 3 2
    let onu := recBits ws 0 31 16
    let st := if cls = 0 then stOnu else stGrp
    let ix := if cls = 0 then onu else c
    match s.cipher (c / 8) (keyName st ix) with
    | .error t => .error t
    | .ok (t, _) =>
      let (t, bad) := t.readStore st ix keyEcc
      let (i, present) := t.dsKey c cls onu
      if bad || !present then .error (t.count Cn.shrNoKey c) else .ok (t, i)

/-- XGEM_ENCAPSULATE (R77 to R82): the packet at the front of the channel's edge buffer. ecc: what the read of its flow record finds;
keyEcc: of its key record; edgeBad: the read of the edge buffer is uncorrectable after the frame has begun (R209). A packet whose frame finds
no room stays for the next PON frame. -/
def execXgemEncapsulate (s : State) (c : Chan) (ecc keyEcc : Ecc) (edgeBad : Bool) : Host.Outcome State Fault Refusal :=
  let c := c.toNat
  let d := s.dsOf c
  match d.edge with
  | [] => .next s
  | p :: rest =>
    if s.ch c ≠ chRunning then .next s
    else
      let ws := s.record kFlw p.flow
      let (s, bad) := s.readRec 3 kFlw p.flow ecc
      let drop := fun (t : State) => (t.setDs c { t.dsOf c with edge := rest }).dropped p
      if bad then .next (drop (((s.setRecord kFlw p.flow []).cleanRec 3 kFlw p.flow).post 0x0A06 [c, p.flow]))
      else
        let onu := recBits ws 0 31 16
        let live := decide (recBits ws 1 3 2 ≠ 0) || decide (2 ≤ (s.onuOf onu).stNow)
        if recBits ws 1 0 0 = 0 ∨ flwBound ws c = false ∨ live = false then .next (drop (s.count Cn.dsNoRecord c))
        else if p.len > s.fld (F.pchDsCfg_mtu c) then .next (drop (s.count Cn.dsOversize c))
        else
          match s.dsCipher c ws keyEcc with
          | .error t => .next (drop t)
          | .ok (t, i) =>
            let t := t.placeXgem c (recBits ws 0 15 0) i p.len edgeBad rest
            .next (if edgeBad && decide ((t.dsOf c).edge = rest) then t.count Cn.fabStomp c else t)

/-- CONTEXT_UPDATE (R19, R80, R135, R145): firmware gives an ONU context its active key index or forced-wake flag, or asks for a PLOAMu. A
message whose buffer is poisoned is discarded and counted (R321). -/
def execContextUpdate (s : State) (u : CtxUpdate) (poison : Bool) : Host.Outcome State Fault Refusal :=
  if poison then .next (s.count Cn.memPoisonMsg 0)
  else
  match u with
  | .onuKey n two =>
    let o := s.onuOf n.toNat
    if o.st = 0 then .next s else .next (s.setOnu n.toNat { o with keyIx := if two then 2 else 1 })
  | .onuWake n wake =>
    let l := s.hal.fwi.filter (· ≠ n.toNat)
    if (s.onuOf n.toNat).st = 0 then .next s
    else .next { s with hal := { s.hal with fwi := if wake then l ++ [n.toNat] else l } }
  | .onuPloamu n =>
    let o := s.onuOf n.toNat
    if o.st = 0 then .next s
    else
      let h := s.halOf o.chan
      .next (s.setHal o.chan { h with ploamuReq := h.ploamuReq.filter (· ≠ n.toNat) ++ [n.toNat] })

/-- MAP_CAPTURE_ARM (HAL_CAP_CTRL arm): the next map that the channel sends is captured. -/
def execMapCaptureArm (s : State) (m : Master) (c : Chan) : Host.Outcome State Fault Refusal :=
  if mayWrite m ∧ s.released 7 = true then
    let t := (s.setFld F.halCapCtrl_channel c.toNat).setFld F.halCapSts_done 0
    .next { t with hal := { t.hal with capArm := some c.toNat } }
  else .next s

/-- A packet with the next packet number, as it enters the core under the current epoch (R28). -/
def State.newPkt (s : State) (src : Nat) (bytes : List Nat) (stamp : Stamp) : State × Pkt :=
  ({ s with pktNo := s.pktNo + 1 },
   { num := s.pktNo, len := bytes.length, bytes := bytes, src := src, epoch := s.epoch, flow := noFlow, cls := 0, dest := 0, hash := 0,
     stamp := stamp, tsReq := none, master := 0, direct := false, host := false, macsec := false, poison := false, bad := false,
     entered := s.sup.tick, onu := 0 })

/-- Queues a packet for its source port's parser. -/
def State.queueParse (s : State) (p : Pkt) : State :=
  { s with toParse := Tbl.put s.toParse p.src [] (Tbl.find s.toParse p.src [] ++ [p]) }

/-- A PFC frame (R233, R234). -/
def isPfc (b : List Nat) : Bool :=
  decide (b.take 6 = [0x01, 0x80, 0xC2, 0, 0, 1]) && decide ((b.drop 12).take 4 = [0x88, 0x08, 0x01, 0x01])

/-- UPLINK_PACKET_INGRESS (R25, R28, R234, R246, R263): a packet of uplink port p crosses into the core, is stamped with the current epoch
and verified where MACsec is rigged. fits: the edge buffer can take it; sec: its SecTAG; ecc: what the read of the SA finds. While the
group is being re-rigged the arrival is dropped and counted (R58). A frame with a bad
FCS goes on, for cut-through may already have begun; on a secured port it cannot pass verification and is dropped. -/
def execUplinkPacketIngress (s : State) (p : BitVec 7) (bytes : List Byte) (fcsOk fits : Bool) (stamp : Stamp) (sec : Option MacRx) (ecc : Ecc) :
    Host.Outcome State Fault Refusal :=
  let n := p.toNat
  let b := bytes.map (·.toNat)
  if s.rerigging (0x200 + n / 8) then .next { s with sup := { s.sup with rerigDiscard := s.sup.rerigDiscard + 1 } }
  else if s.portBound (256 + n) = false then .next s
  else if fits = false then .next (s.count Cn.ulkEdgeDrop (n / 8))
  else if isPfc b then .next s
  else
    let t := calStamp stamp (signed 16 (s.fld (F.timUlat_rx_cal (n / 8))))
    let (s, k) := s.newPkt (256 + n) b t
    if s.secures n b then
      match s.verifyRx s n sec ecc with
      | (u, true) => .next (if fcsOk then u.queueParse { k with macsec := true } else u)
      | (u, false) => .next u
    else .next (s.queueParse { k with bad := !fcsOk })

end Sys2Proof.Machine
end

