-- ==== Sys2Proof/Machine/Host.lean ====
section
/-! DEFINITION. The host interface (16_host_mailboxes_counters.md R339 to R365): DMA queue pairs, the event queue, mailboxes, lock
registers, counter chains and snapshots. -/

namespace Sys2Proof.Machine

/-! ### Vectors -/

/-- Signals an MSI-X vector (R344, R348). Two signals of a vector of the physical function stand at least MBX_VEC_HOLD apart: one that falls
within the holdoff waits for its end. -/
def State.signal (s : State) (owner v : Nat) : State :=
  if owner ≠ 0 then s.emit (.msix owner v)
  else if Tbl.find s.evq.holding v false then { s with evq := { s.evq with waiting := Tbl.put s.evq.waiting v false true } }
  else
    let t := s.emit (.msix 0 v)
    if s.fld (F.mbxVecHold_us v) = 0 then t else { t with evq := { t.evq with holding := Tbl.put t.evq.holding v false true } }

/-- VECTOR_HOLDOFF_END (R348): the vector's holdoff ends; it is signalled once for the events that fell within it. -/
def execVectorHoldoffEnd (s : State) (v : BitVec 6) : Host.Outcome State Fault Refusal :=
  let v := v.toNat
  if Tbl.find s.evq.holding v false then
    let w := Tbl.find s.evq.waiting v false
    let t := { s with evq := { s.evq with holding := Tbl.put s.evq.holding v false false, waiting := Tbl.put s.evq.waiting v false false } }
    .next (if w then t.signal 0 v else t)
  else .next s

/-! ### The event queue -/

/-- The address that a pair of registers LO and HI holds, LO counting in units of 2^lo. -/
def State.addr64 (s : State) (lo hi : Fld) : Nat := s.fld hi * 2 ^ 32 + s.fld lo * 2 ^ lo.lo

/-- Entries of the ring that the host has not read (R349). -/
def State.evqUnread (s : State) : Nat := (s.fld F.mbxEvqTail_tail + 4096 - s.fld F.mbxEvqHead_head) % 4096

/-- The 32 bytes of an entry (R348). -/
def eventBytes (phase : Bool) (e : EventRec) : List Nat :=
  leBytes 2 e.code ++ [phase.toNat, 0] ++ leBytes 4 e.seq ++ leBytes 4 e.ns ++ leBytes 2 e.sec ++ leBytes 2 e.epoch ++
    (List.range 4).flatMap (fun i => leBytes 4 (e.data.getD i 0))

/-- Writes an entry into the ring and signals the vector of its code's high byte (R348). -/
def State.putEntry (s : State) (e : EventRec) : State :=
  let n := s.fld F.mbxEvqTail_tail
  let t := s.hostWrite (s.addr64 F.mbxEvqBaseLo_addr F.mbxEvqBaseHi_addr + 32 * n) (eventBytes s.evq.phase e)
  let t := t.setFld F.mbxEvqTail_tail ((n + 1) % 4096)
  let t := if n = 4095 then { t with evq := { t.evq with phase := !t.evq.phase } } else t
  let h := e.code / 256 % 64
  if t.flag (F.mbxEvqVec_en h) then t.signal 0 (t.fld (F.mbxEvqVec_vector h)) else t

/-- EVQ_OVERFLOW (R349): once a slot is free, the first entry after dropped events carries their number and the first dropped sequence
number; it is itself an event posted. -/
def State.flushOverflow (s : State) : State :=
  if s.flag F.mbxEvqCtrl_enable = true ∧ s.evq.dropped ≠ 0 ∧ s.evqUnread < 4094 then
    let data := [s.evq.dropped % 2 ^ 32, s.evq.firstDropped]
    let e := s.eventRec 0x0301 data
    let t := (s.count Cn.eventPosted 0x0301).jnlEvent 0x0301 data
    ({ t with evq := { t.evq with seq := (t.evq.seq + 1) % 2 ^ 32, dropped := 0, firstDropped := 0 } }).putEntry e
  else s

/-- EVENT_ENTRY_WRITE (R348, R349): the oldest event raised is written while fewer than 4,094 entries are unread, or dropped. -/
def execEventEntryWrite (s : State) : Host.Outcome State Fault Refusal :=
  match s.evq.raised with
  | [] => .next s
  | e :: rest =>
    let s := ({ s with evq := { s.evq with raised := rest } }).flushOverflow
    if s.evqUnread < 4094 then .next (s.putEntry e)
    else
      .next (({ s with evq := { s.evq with dropped := s.evq.dropped + 1,
                                           firstDropped := if s.evq.dropped = 0 then e.seq else s.evq.firstDropped } }).count Cn.evqDrop 0)

/-- EVQ_ENABLE (R349): the ring starts over, the kept events are written in order, and then one EVQ_OVERFLOW if any was dropped. A write of 1
while enable is 1 has no effect. -/
def execEvqEnable (s : State) (m : Master) : Host.Outcome State Fault Refusal :=
  if mayWrite m ∧ s.released 2 = true ∧ s.flag F.mbxEvqCtrl_enable = false then
    let t := ((s.setFld F.mbxEvqCtrl_enable 1).setFld F.mbxEvqHead_head 0).setFld F.mbxEvqTail_tail 0
    let t := { t with evq := { t.evq with phase := true, kept := [] } }
    .next (s.evq.kept.foldl (fun (t : State) e => t.putEntry e) t).flushOverflow
  else .next s

/-- EVQ_DISABLE (MBX_EVQ_CTRL, R349): entries stop at once; events not yet written, and those raised from now on, are kept. -/
def execEvqDisable (s : State) (m : Master) : Host.Outcome State Fault Refusal :=
  if mayWrite m ∧ s.released 2 = true ∧ s.flag F.mbxEvqCtrl_enable = true then
    let t := s.setFld F.mbxEvqCtrl_enable 0
    .next (s.evq.raised.foldl (fun (t : State) e => t.enqueueEvent e) { t with evq := { t.evq with raised := [] } })
  else .next s

/-- EVQ_HEAD_WRITE (R349): the host frees ring slots; a dropped run is then reported. -/
def execEvqHeadWrite (s : State) (m : Master) (head : BitVec 12) : Host.Outcome State Fault Refusal :=
  if mayWrite m ∧ s.released 2 = true then .next (s.setFld F.mbxEvqHead_head head.toNat).flushOverflow
  else .next s

/-! ### Queue pairs -/

/-- A pair's state when nothing is held of it. -/
def qpInit : QpSt := { txTail := 0, rxTail := 0, sinceWb := 0, stopping := false }
def State.qpOf (s : State) (q : Nat) : QpSt := Tbl.find s.qp q qpInit
def State.setQp (s : State) (q : Nat) (x : QpSt) : State := { s with qp := Tbl.put s.qp q qpInit x }

/-- The owner of a pair (R342). -/
def State.qpOwner (s : State) (q : Nat) : Nat := s.fld (F.mbxQpOwner_owner q)

/-- The pairs a master identity owns, in ascending order: its local pairs 0, 1 and so on. -/
def State.ownedQps (s : State) (m : Nat) : List Nat := (List.range 64).filter (fun q => decide (s.qpOwner q = m))

/-- The pair that a master names by an index: the physical function by its number, a virtual function by its local number (R340, R342). -/
def State.qpNamed (s : State) (m : Master) (q : Nat) : Option Nat :=
  if mayWrite m then some q
  else if 1 ≤ m.toNat ∧ m.toNat ≤ 0x10 ∧ q < 8 then (s.ownedQps m.toNat)[q]?
  else none

/-- Ring sizes (R343, R345). -/
def State.txSize (s : State) (q : Nat) : Nat := 2 ^ s.fld (F.mbxQpCfg_tx_log q)
def State.rxSize (s : State) (q : Nat) : Nat := 2 ^ s.fld (F.mbxQpCfg_rx_log q)

/-- The pair runs: enabled and not in ERROR (R346). -/
def State.qpRuns (s : State) (q : Nat) : Bool := s.flag (F.mbxQpCfg_enable q) && !(s.flag (F.mbxQpSts_error q))

/-- Signals a pair's vector to its owner. -/
def State.qpSignal (s : State) (q : Nat) : State := s.signal (s.qpOwner q) (s.fld (F.mbxQpCfg_vector q))

/-- TX_DOORBELL (R343): a tail within the ring advances the transmit ring. -/
def execTxDoorbell (s : State) (m : Master) (q : QpIx) (tail : BitVec 32) : Host.Outcome State Fault Refusal :=
  match s.qpNamed m q.toNat with
  | some k =>
    if s.released 2 = true ∧ tail.toNat % 4096 < s.txSize k then .next (s.setQp k { s.qpOf k with txTail := tail.toNat % 4096 }) else .next s
  | none => .next s

/-- RX_DOORBELL (R345): a tail within the ring posts receive descriptors. -/
def execRxDoorbell (s : State) (m : Master) (q : QpIx) (tail : BitVec 32) : Host.Outcome State Fault Refusal :=
  match s.qpNamed m q.toNat with
  | some k =>
    if s.released 2 = true ∧ tail.toNat % 4096 < s.rxSize k then .next (s.setQp k { s.qpOf k with rxTail := tail.toNat % 4096 }) else .next s
  | none => .next s

/-- The code of a failed host-memory access in MBX_QP_STS cause. -/
def accessCode : HostAccess → Nat
  | .ok => 0
  | .unsupported => 1
  | .abort => 2
  | .poisonedTlp => 3
  | .timeout => 4

/-- A host-memory access of a pair failed: the pair enters ERROR and DMA_QP_ERROR is posted (R346). -/
def State.qpError (s : State) (q : Nat) (a : HostAccess) : State :=
  ((s.setFld (F.mbxQpSts_error q) 1).setFld (F.mbxQpSts_cause q) (accessCode a)).post 0x0302 [q, accessCode a]

/-- DMA_QP_ERROR (R346): an access of a pair that runs fails. -/
def execDmaQpError (s : State) (q : QpIx) (cause : HostAccess) : Host.Outcome State Fault Refusal :=
  if s.qpRuns q.toNat = true ∧ cause ≠ .ok then .next (s.qpError q.toNat cause) else .next s

/-- QP_ENABLE (R346): a stopped pair starts. -/
def execQpEnable (s : State) (m : Master) (q : QpIx) : Host.Outcome State Fault Refusal :=
  match s.qpNamed m q.toNat with
  | some k =>
    if s.released 2 = true ∧ s.flag (F.mbxQpCfg_enable k) = false ∧ (s.qpOf k).stopping = false then
      .next ((((s.setFld (F.mbxQpCfg_enable k) 1).setFld (F.mbxQpSts_stopped k) 0).setFld (F.mbxQpSts_error k) 0).setFld (F.mbxQpSts_cause k) 0)
    else .next s
  | none => .next s

/-- Clears enable of a pair and begins to stop it (R346). -/
def State.qpStop (s : State) (q : Nat) : State :=
  if s.flag (F.mbxQpCfg_enable q) then (s.setFld (F.mbxQpCfg_enable q) 0).setQp q { s.qpOf q with stopping := true } else s

/-- QP_DISABLE (R346). -/
def execQpDisable (s : State) (m : Master) (q : QpIx) : Host.Outcome State Fault Refusal :=
  match s.qpNamed m q.toNat with
  | some k => .next (if s.released 2 then s.qpStop k else s)
  | none => .next s

/-- Address of a receive descriptor. -/
def State.rxDescAddr (s : State) (q i : Nat) : Nat := s.addr64 (F.mbxQpRxbaseLo_addr q) (F.mbxQpRxbaseHi_addr q) + 32 * i

/-- Returns n posted receive descriptors from index i on with done = 1, len = 0 and reason 0 (R346). -/
def State.returnRx (s : State) (q i : Nat) : Nat → State
  | 0 => s
  | n + 1 => (s.hostWrite (s.rxDescAddr q i + 8) [0, 0, 0, 1]).returnRx q ((i + 1) % s.rxSize q) n

/-- The end of a pair's stop (R346): posted receive descriptors are returned, both heads are 0, stopped is set. -/
def State.qpStopped (s : State) (q : Nat) : State :=
  if (s.qpOf q).stopping then
    let h := s.fld (F.mbxQpRxhead_head q)
    let t := s.returnRx q h (((s.qpOf q).rxTail + s.rxSize q - h) % s.rxSize q)
    let t := ((t.setFld (F.mbxQpTxhead_head q) 0).setFld (F.mbxQpRxhead_head q) 0).setFld (F.mbxQpSts_stopped q) 1
    t.setQp q { t.qpOf q with stopping := false, sinceWb := 0 }
  else s

/-- QP_STOP_DONE (R346). -/
def execQpStopDone (s : State) (q : QpIx) : Host.Outcome State Fault Refusal := .next (s.qpStopped q.toNat)

/-- QP_OWNER_WRITE (R342): assigns a disabled pair to the physical function or to a virtual function that owns fewer than eight. -/
def execQpOwnerWrite (s : State) (m : Master) (q : QpIx) (owner : Master) : Host.Outcome State Fault Refusal :=
  let k := q.toNat
  if mayWrite m ∧ s.released 2 = true ∧ s.fld F.rigLock_lock / 4 % 2 = 0 ∧ s.flag (F.mbxQpCfg_enable k) = false ∧ owner.toNat ≤ 0x10 ∧
      (owner.toNat = 0 ∨ ((s.ownedQps owner.toNat).filter (fun j => decide (j ≠ k))).length < 8) then
    .next (s.setFld (F.mbxQpOwner_owner k) owner.toNat)
  else .next s

/-! ### Packets to and from the host -/

/-- A descriptor that R343 drops: a field outside its encoding, a port that is not bound, or a port that the owner's kind 0 may not name. -/
def State.txBad (s : State) (q : Nat) (d : TxDesc) : Bool :=
  d.reserved || decide (2 < d.kind) || decide (d.len < 60) || decide (15996 < d.len) || decide (384 ≤ d.port) ||
  (decide (d.kind ≠ 2) && !(s.portBound d.port)) ||
  (decide (d.kind = 0) && decide (s.qpOwner q ≠ 0) &&
    !(decide (256 ≤ d.port) && decide (d.port < 320) && decide (s.fld (F.mbxQpCfg_ul_perm q) / 2 ^ ((d.port - 256) / 8) % 2 = 1)))

/-- The descriptor asks for a stamp and its packet goes to an uplink port (R264). -/
def txStamped (d : TxDesc) : Bool := d.tsReq && decide (d.kind = 1) && decide (256 ≤ d.port) && decide (d.port < 384)

/-- Sends the packet of a descriptor by its kind (R343, R345). -/
def State.txSend (s : State) (q : Nat) (d : TxDesc) : State :=
  let b := d.bytes.take d.len
  let (t, p) := s.newPkt d.port (b ++ frameFcs b) { ns := 0, hi := 0 }
  let p := { p with host := true, master := s.qpOwner q, tsReq := if d.tsReq then some d.tsId else none }
  if d.kind = 0 then t.queueParse p
  else if d.kind = 1 then
    let h := t.free 32
    t.tickFree.toFabric { p with direct := true, dest := d.port, cls := d.cls % 8, hash := h, flow := if d.port < 256 then d.flow % 2 ^ 18 else noFlow }
  else
    let n := d.flow / 2 ^ 16 % 2 ^ 16
    let o := t.onuOf n
    if o.st = 0 then t.tell 7 0 (n :: b)
    else
      let f := b ++ Config.omciMic ((t.keysOf n).msk.getD []) b
      let h := t.free 32
      t.tickFree.toFabric { p with src := o.chan, bytes := f, len := f.length, direct := true, dest := o.chan, cls := 0, hash := h, flow := d.flow % 2 ^ 18, tsReq := none }

/-- TX_DESCRIPTOR_FETCH (R28, R343, R344): the next descriptor is taken, stamped with the current epoch and sent or dropped; after one with
intr, and at least after every 32, the head is written back and the pair's vector signalled. d is what the device reads; acc how the
read ends. -/
def execTxDescriptorFetch (s : State) (q : QpIx) (d : TxDesc) (acc : HostAccess) : Host.Outcome State Fault Refusal :=
  let q := q.toNat
  let h := s.fld (F.mbxQpTxhead_head q)
  if s.qpRuns q = true ∧ h ≠ (s.qpOf q).txTail then
    if acc ≠ .ok then .next (s.qpError q acc)
    else
      let t := s.setFld (F.mbxQpTxhead_head q) ((h + 1) % s.txSize q)
      let t := if s.txBad q d then
          (let u := t.count Cn.dmaTxBad q
           if txStamped d then u.pushTsq ((d.port - 256) / 8) 1 ((d.port - 256) % 8) d.tsId { ns := 0, hi := 0 } else u)
        else (t.txSend q d).count Cn.dmaTxPkts q
      let n := (t.qpOf q).sinceWb + 1
      if d.intr ∨ 32 ≤ n then
        .next (((t.setQp q { t.qpOf q with sinceWb := 0 }).hostWrite (t.addr64 (F.mbxQpTxwbLo_addr q) (F.mbxQpTxwbHi_addr q))
          (leBytes 4 (t.fld (F.mbxQpTxhead_head q)))).qpSignal q)
      else .next (t.setQp q { t.qpOf q with sinceWb := n })
  else .next s

/-- Bytes 0x08 to 0x1F of a receive descriptor (R345). -/
def rxDescBytes (p : RxPkt) (bytes : List Nat) : List Nat :=
  leBytes 2 bytes.length ++ [p.reason % 256, 1 + 2 * p.parseErr.toNat + 4 * p.truncated.toNat] ++ leBytes 2 (p.port % 512 + p.cls % 8 * 4096) ++
    leBytes 2 p.epoch ++ leBytes 4 (if p.reason = 5 then p.onu * 65536 else p.flow) ++
    leBytes 4 (if 2 ≤ p.reason ∧ p.reason ≤ 4 then p.rule else 0) ++ leBytes 4 p.stamp.ns ++ leBytes 4 p.stamp.hi

/-- RX_PACKET_DELIVER (R345): the oldest packet bound for the pair's receive ring is written into the next posted descriptor, or discarded.
d is that descriptor as the host wrote it; micOk says whether an OMCI frame's MIC verifies; acc how the accesses end. -/
def execRxPacketDeliver (s : State) (q : QpIx) (d : RxDesc) (micOk : Bool) (acc : HostAccess) : Host.Outcome State Fault Refusal :=
  let q := q.toNat
  match Tbl.find s.rxq q [] with
  | [] => .next s
  | p :: rest =>
    let s := { s with rxq := Tbl.put s.rxq q [] rest }
    let omci := s.flag (F.mbxQpCfg_omci q) && decide (p.reason = 2)
    if omci = true ∧ micOk = false then .next (s.count Cn.omciMicErr 0)
    else
      let p := if omci then { p with reason := 5, bytes := p.bytes.dropLast.dropLast.dropLast.dropLast } else p
      let h := s.fld (F.mbxQpRxhead_head q)
      if s.qpRuns q = false ∨ h = (s.qpOf q).rxTail then .next (s.count Cn.dmaRxNobuf q)
      else if acc ≠ .ok then .next (s.qpError q acc)
      else if d.size < p.bytes.length then .next (s.count Cn.dmaRxToolong q)
      else
        let t := (s.hostWrite d.addr p.bytes).hostWrite (s.rxDescAddr q h + 8) (rxDescBytes p p.bytes)
        .next ((t.setFld (F.mbxQpRxhead_head q) ((h + 1) % s.rxSize q)).count Cn.dmaRxPkts q)

/-! ### Mailboxes -/

/-- Gives a side's outbound queue its words. -/
def State.setOutQ (s : State) (c : Nat) (side : Bool) (l : List (Nat × Nat)) : State :=
  { s with mbx := { s.mbx with out := Tbl.put s.mbx.out (2 * c + side.toNat) [] l } }

/-- MBX_TX_WRITE (R350, R351): appends a word to the side's outbound queue of 8, or sets ovf and counts mbx_ovf. -/
def execMbxTxWrite (s : State) (m : Master) (c : BitVec 4) (side : Bool) (w : Word) : Host.Outcome State Fault Refusal :=
  let c := c.toNat
  if s.released 2 = true ∧ s.mayUse m c side = true then
    let l := s.outQ c side
    if l.length < 8 then .next (s.setOutQ c side (l ++ [(w.toNat, m.toNat)]))
    else .next ((s.setFld (F.mbxSts_ovf c side.toNat) 1).count Cn.mbxOvf c)
  else .next s

/-- MBX_RX_READ (R351): removes and returns the oldest inbound word of the side, and records its writer for the reader. -/
def execMbxRxRead (s : State) (m : Master) (c : BitVec 4) (side : Bool) : Host.Outcome State Fault Refusal :=
  let c := c.toNat
  if s.released 2 = true ∧ s.mayUse m c side = true then
    match s.outQ c (!side) with
    | [] => .next (s.reply [0])
    | (w, k) :: rest =>
      let t := s.setOutQ c (!side) rest
      .next (({ t with mbx := { t.mbx with src := Tbl.put t.mbx.src (64 * (2 * c + side.toNat) + m.toNat) 0 k } }).reply [w])
  else .next (s.reply [0])

/-- Firmware on a Mast core serves the side (R350): side B of channels 0 and 1, and a side bound to the core. -/
def State.fwServes (s : State) (core c : Nat) (side : Bool) : Bool :=
  if c < 2 then side else s.flag (F.mbxBind_valid (c - 2)) && decide (s.fld (if side then F.mbxBind_idb (c - 2) else F.mbxBind_ida (c - 2)) = 0x20 + core)

/-- GET_INFO (R353, R354): firmware on a core takes the oldest request of a side it serves, with the words that follow its header, and answers
under the same tag: four words for type 0x01, type 0xFF and none for every other. It answers once its outbound queue has room. -/
def execGetInfo (s : State) (c : BitVec 4) (side : Bool) (core : BitVec 2) : Host.Outcome State Fault Refusal :=
  let c := c.toNat
  let k := 2 * c + side.toNat
  let me := 0x20 + core.toNat
  if s.released 2 = true ∧ s.released 3 = true ∧ s.fwServes core.toNat c side = true then
    let n := Tbl.find s.mbx.skip k 0
    let l := s.outQ c (!side)
    let put := fun (t : State) (l : List (Nat × Nat)) (n : Nat) =>
      let u := t.setOutQ c (!side) (l.drop n)
      { u with mbx := { u.mbx with skip := Tbl.put u.mbx.skip k 0 (n - l.length) } }
    if n ≠ 0 then .next (put s l n)
    else
      match l with
      | [] => .next s
      | (h, _) :: rest =>
        let get := decide (h / 2 ^ 24 = 1)
        if (s.outQ c side).length + (if get then 5 else 1) ≤ 8 then
          let im := s.rig.run
          let ans := if get then
              [s.free 8 * 2 ^ 24 + 4 * 2 ^ 16 + h % 2 ^ 16, im.fwVersion % 2 ^ 32, Config.ifVersion im.fwVersion % 2 ^ 32, 4, im.serial % 2 ^ 32]
            else [0xFF * 2 ^ 24 + h % 2 ^ 16]
          let t := if get then s.tickFree else s
          .next ((put t rest (h / 2 ^ 16 % 256)).setOutQ c side (s.outQ c side ++ ans.map (fun w => (w, me))))
        else .next s
  else .next s

/-- The channels, from 2 on, with a side bound to a master identity, and which side. -/
def State.boundTo (s : State) (id : Nat) : List (Nat × Bool) :=
  (List.range 14).flatMap (fun i =>
    if s.flag (F.mbxBind_valid i) then
      (if s.fld (F.mbxBind_ida i) = id then [(i + 2, false)] else []) ++ (if s.fld (F.mbxBind_idb i) = id then [(i + 2, true)] else [])
    else [])

/-- Empties both queues of a channel. -/
def State.emptyMbx (s : State) (c : Nat) : State :=
  let t := (s.setOutQ c false []).setOutQ c true []
  { t with mbx := { t.mbx with skip := Tbl.put (Tbl.put t.mbx.skip (2 * c) 0 0) (2 * c + 1) 0 0 } }

/-- Frees the lock registers that a master identity holds. -/
def State.freeLocks (s : State) (id : Nat) : State :=
  { s with mbx := { s.mbx with locks := s.mbx.locks.filter (fun x => decide (x.2 ≠ id + 1)) } }

/-- MAST_CORE_RESTART (R321, R355): the restarting core's channels are emptied, peer_reset is set on their other sides, its locks are freed. -/
def execMastCoreRestart (s : State) (core : BitVec 2) : Host.Outcome State Fault Refusal :=
  let id := 0x20 + core.toNat
  if s.released 3 then
    let b := s.boundTo id
    let t := s.post 0x060B [core.toNat]
    let t := b.foldl (fun (t : State) x => (t.emptyMbx x.1).setFld (F.mbxSts_peer_reset x.1 (!x.2).toNat) 1) t
    .next ((t.freeLocks id).post 0x0303 [bitsOf ((List.range 16).map (fun c => b.any (fun x => decide (x.1 = c))))])
  else .next s

/-! ### Function Level Reset of a virtual function -/

/-- VF_FLR (R347): the function's pairs stop, the mailboxes of its channels are emptied, its locks are freed. -/
def execVfFlr (s : State) (vf : BitVec 4) : Host.Outcome State Fault Refusal :=
  let id := vf.toNat + 1
  if s.released 2 then
    let t := (s.ownedQps id).foldl (fun (t : State) q => (t.qpStop q).qpStopped q) s
    let t := ((s.boundTo id).foldl (fun (t : State) x => t.emptyMbx x.1) t).freeLocks id
    .next { t with mbx := { t.mbx with flr := t.mbx.flr.filter (fun v => decide (v ≠ vf.toNat)) ++ [vf.toNat] } }
  else .next s

/-- FLR_DONE (R347): the sequence of a virtual function's reset ends. -/
def execFlrDone (s : State) (vf : BitVec 4) : Host.Outcome State Fault Refusal :=
  if s.mbx.flr.contains vf.toNat then
    .next (({ s with mbx := { s.mbx with flr := s.mbx.flr.filter (fun v => decide (v ≠ vf.toNat)) } }).post 0x0304 [vf.toNat])
  else .next s

/-! ### Lock registers -/

/-- The master identity that holds a lock register, plus 1; 0 when it is free. -/
def State.lockOf (s : State) (l : Nat) : Nat := Tbl.find s.mbx.locks l 0
def State.setLock (s : State) (l v : Nat) : State := { s with mbx := { s.mbx with locks := Tbl.put s.mbx.locks l 0 v } }

/-- LOCK_READ (R356): acquires a free lock, or reports its holder: 1 ACQUIRED, 2 HELD, 3 OWNED. -/
def execLockRead (s : State) (m : Master) (l : BitVec 6) : Host.Outcome State Fault Refusal :=
  let k := s.lockOf l.toNat
  if s.released 2 = false then .next (s.reply [0])
  else if k = 0 then .next ((s.setLock l.toNat (m.toNat + 1)).reply [2 ^ 30 + m.toNat])
  else if k = m.toNat + 1 then .next (s.reply [3 * 2 ^ 30 + m.toNat])
  else .next (s.reply [2 * 2 ^ 30 + (k - 1)])

/-- LOCK_RELEASE (R356): the holder frees the lock. -/
def execLockRelease (s : State) (m : Master) (l : BitVec 6) : Host.Outcome State Fault Refusal :=
  if s.released 2 = true ∧ s.lockOf l.toNat = m.toNat + 1 then .next (s.setLock l.toNat 0) else .next s

/-- LOCK_FORCE (R356): master identity 0x00 frees the lock whoever holds it. -/
def execLockForce (s : State) (m : Master) (l : BitVec 6) : Host.Outcome State Fault Refusal :=
  if s.released 2 = true ∧ m = 0 then .next (s.setLock l.toNat 0) else .next s

/-! ### Counter chains and snapshots -/

/-- The counter array that holds a slot, with the place in it. -/
def slotArray (i : Nat) : Option (Ctr × Nat) :=
  (Cn.all.find? (fun c => decide (c.index 0 ≤ i) && decide (i < c.index (c.off c.insts 0)))).map (fun c => (c, i - c.index 0))

/-- The slot is the low slot of a wide array's instance, whose chain bit is permanent (R360). -/
def wideLow (i : Nat) : Bool :=
  match slotArray i with
  | some (c, o) => c.wide && decide (o % 2 = 0)
  | none => false

/-- CHAIN_SET (R360): master identity 0x00 chains the slot of CNT_CHAIN_IDX to the next. -/
def execChainSet (s : State) (m : Master) : Host.Outcome State Fault Refusal :=
  let i := s.fld F.cntChainIdx_idx
  if m = 0 ∧ s.released 2 = true ∧ wideLow i = false then .next { s with chain := Tbl.put s.chain i false true } else .next s

/-- CHAIN_CLEAR (R360): the next slot counts its own event again; a clear of a wide array's low slot has no effect. -/
def execChainClear (s : State) (m : Master) : Host.Outcome State Fault Refusal :=
  let i := s.fld F.cntChainIdx_idx
  if m = 0 ∧ s.released 2 = true then .next { s with chain := Tbl.put s.chain i false false } else .next s

/-- A counter slot as R358 lays it out. -/
def State.slotValue (s : State) (i : Nat) : Nat :=
  match slotArray i with
  | some (c, o) => (s.chained c o).toNat * 2 ^ 63 + Tbl.find s.cnt (c.key o) 0
  | none => (Tbl.find s.chain i false).toNat * 2 ^ 63

/-- The extents that the registers hold, unused ones left out. -/
def State.snapExtents (s : State) : List Extent :=
  ((List.range 16).map (fun k => ({ kind := s.fld (F.cntSnapExtLo_kind k), first := s.fld (F.cntSnapExtLo_first k), count := s.fld (F.cntSnapExtHi_count k) } : Extent))).filter
    (fun e => decide (e.kind ≠ 0))

/-- An extent is valid and lies within the slots or within BAR0 (R362). -/
def Extent.ok (e : Extent) : Bool :=
  if e.kind = 1 then decide (1 ≤ e.count) && decide (e.first + e.count ≤ 2097152)
  else if e.kind = 2 then decide (1 ≤ e.count) && decide (e.count ≤ 1024) && decide (e.first + e.count ≤ 0x1000000)
  else false

/-- Bytes of an extent in the output. -/
def Extent.bytes (e : Extent) : Nat := e.count * (if e.kind = 1 then 8 else 4)

/-- The values of an extent at the cut, as a master reads registers, from offset off after the header. -/
def State.cutExtent (s : State) (m : Master) (off : Nat) (e : Extent) : List (Nat × Nat × Nat) :=
  (List.range e.count).map (fun j =>
    if e.kind = 1 then (off + 8 * j, 8, s.slotValue (e.first + j)) else (off + 4 * j, 4, (s.view m (4 * (e.first + j))).toNat))

/-- The values of all extents; each starts on a 64-byte boundary (R363). -/
def State.cutAll (s : State) (m : Master) (off : Nat) : List Extent → List (Nat × Nat × Nat)
  | [] => []
  | e :: r => s.cutExtent m off e ++ s.cutAll m ((off + e.bytes + 63) / 64 * 64) r

/-- The class queue's counter of oversize drops is read by an extent (R239). -/
def readsOversize (l : List Extent) (k : Nat) : Bool :=
  l.any (fun e => decide (e.kind = 1) && decide (e.first ≤ Cn.oversizeForGate.index k) && decide (Cn.oversizeForGate.index k < e.first + e.count))

/-- Result codes of CNT_SNAP_CMD. -/
def snCompleted : Nat := 1
def snAborted : Nat := 2
def snAbortLate : Nat := 3
def snBusy : Nat := 4
def snBadArg : Nat := 5

/-- SNAP_START (R362): takes a coherent cut of the extents and begins to write it. -/
def execSnapStart (s : State) (m : Master) : Host.Outcome State Fault Refusal :=
  if mayWrite m ∧ s.released 2 = true then
    let l := s.snapExtents
    if s.snap.running then .next (s.setFld F.cntSnapCmd_result snBusy)
    else if l = [] ∨ l.any (fun e => !e.ok) then .next (s.setFld F.cntSnapCmd_result snBadArg)
    else
      let n := (s.snap.number + 1) % 2 ^ 32
      let prev := if s.flag F.rigSts_prev_live then s.fld F.rigEpoch_previous else 0
      let t := { s with snap := { number := n, addr := s.addr64 F.cntSnapAddrLo_addr F.cntSnapAddrHi_addr, extents := l,
                                  cut := [s.epoch, prev, s.tim.sec, s.tim.ns, s.fld F.timSts_gen], body := s.cutAll m 0 l, running := true,
                                  aborted := false, lastDone := s.snap.lastDone },
                        sht := { s.sht with overSaid := s.sht.overSaid.filter (fun x => !(readsOversize l x.1)) } }
      .next (((t.setFld F.cntSnapCmd_busy 1).setFld F.cntSnapCmd_result 0).setFld F.cntSnapNum_num n)
  else .next s

/-- SNAP_ABORT (R362): stops a snapshot before its last byte; after it, it completes ABORT_LATE. -/
def execSnapAbort (s : State) (m : Master) : Host.Outcome State Fault Refusal :=
  if mayWrite m ∧ s.released 2 = true then
    if s.snap.running then .next { s with snap := { s.snap with aborted := true } }
    else if s.snap.lastDone then .next (s.setFld F.cntSnapCmd_result snAbortLate)
    else .next s
  else .next s

/-- The 64 bytes of the header (R363). -/
def SnapSt.header (n : SnapSt) (written : Nat) : List Nat :=
  let c := fun i => n.cut.getD i 0
  leBytes 4 0x50534E43 ++ leBytes 2 1 ++ [if n.aborted then 2 else 1, n.extents.length] ++ leBytes 4 n.number ++ leBytes 2 (c 0) ++ leBytes 2 (c 1) ++
    leBytes 8 (c 2) ++ leBytes 4 (c 3) ++ leBytes 2 (c 4) ++ [0, 0] ++ leBytes 8 written ++ List.replicate 24 0

/-- Writes the first words of the body that lie within n bytes, in the output's order; the bytes left over are of the next word. -/
def State.writeBody (s : State) (addr : Nat) : Nat → List (Nat × Nat × Nat) → State
  | _, [] => s
  | 0, _ => s
  | n, (o, w, v) :: r => (s.hostWrite (addr + 64 + o) ((leBytes w v).take n)).writeBody addr (n - w) r

/-- SNAP_DONE (R362, R363): the data are written, all of them or, after an ABORT, as many as were by then; the header is written last and
SNAP_DONE posted. -/
def execSnapDone (s : State) : Host.Outcome State Fault Refusal :=
  if s.snap.running then
    let n := s.snap
    let total := (n.body.map (fun x => x.2.1)).foldl (· + ·) 0
    let k := if n.aborted then s.free 64 % total else total
    let t := if n.aborted then s.tickFree else s
    let t := (t.writeBody n.addr k n.body).hostWrite n.addr (n.header k)
    let t := { t with snap := { t.snap with running := false, lastDone := true, body := [], cut := [], extents := [] } }
    let res := if n.aborted then snAborted else snCompleted
    .next ((((t.setFld F.cntSnapCmd_busy 0).setFld F.cntSnapCmd_result res).count Cn.snapDone 0).post 0x0401 [n.number, res])
  else .next s

end Sys2Proof.Machine
end

