-- ==== Sys2Proof/Machine/Pace.lean ====
section
/-! DEFINITION. The pace monitor (01_planes_and_pacing.md R32, R33). -/

namespace Sys2Proof.Machine

/-- Judges sentinel i of a window (R32): a sentinel that is slow while its status bit is 0 sets the bit and posts its event; one that was
slow and has not been for 16 windows posts PACE_RECOVERED, and its bit stays. -/
def State.paceJudge (s : State) (i : Nat) (bit : Fld) (slow : Bool) : State :=
  if slow then
    let t := { s with sup := { s.sup with quiet := s.sup.quiet.set i 0, slow := s.sup.slow.set i true } }
    if t.flag bit then t else (t.setFld bit 1).post (0x0101 + i) []
  else if s.sup.slow.getD i false then
    let n := s.sup.quiet.getD i 0 + 1
    if 16 ≤ n then
      ({ s with sup := { s.sup with quiet := s.sup.quiet.set i 0, slow := s.sup.slow.set i false } }).post 0x0104 [Config.eventWord 0x0104 i]
    else { s with sup := { s.sup with quiet := s.sup.quiet.set i n } }
  else s

/-- The readings of a window (GLB_PACE_FAB, GLB_PACE_PRS, GLB_PACE_HAL). -/
def State.paceRead (s : State) (fab prs lead : Nat) : State :=
  let t := (s.setFld F.glbPaceFab_cur_ps fab).setFld F.glbPaceFab_worst_ps (max fab (s.fld F.glbPaceFab_worst_ps))
  let t := (t.setFld F.glbPacePrs_cur_ps prs).setFld F.glbPacePrs_worst_ps (max prs (s.fld F.glbPacePrs_worst_ps))
  (t.setFld F.glbPaceHal_cur_lead lead).setFld F.glbPaceHal_worst_lead (min lead (s.fld F.glbPaceHal_worst_lead))

/-- PACE_WINDOW_END (R32): the window's mean cell slot and issue interval in ps, saturated, and its smallest lead in units of 100 ns, none
when no map was accepted in it. -/
def execPaceWindowEnd (s : State) (fab prs : BitVec 24) (lead : Option (BitVec 16)) : Host.Outcome State Fault Refusal :=
  if s.flag F.glbPaceCtrl_enable = true ∧ s.released 2 = true then
    let l := (lead.map (·.toNat)).getD 0xFFFF
    let t := s.paceRead (min 0xFFFF fab.toNat) (min 0xFFFF prs.toNat) l
    let t := t.paceJudge 0 F.glbPaceSts_slow_fab (decide (t.fld F.glbPaceThrFab_thr_ps < fab.toNat))
    let t := t.paceJudge 1 F.glbPaceSts_slow_prs (decide (t.fld F.glbPaceThrPrs_thr_ps < prs.toNat))
    .next (t.paceJudge 2 F.glbPaceSts_slow_hal (decide (l < t.fld F.glbPaceThrHal_thr_lead)))
  else .next s

end Sys2Proof.Machine
end

