-- ==== Sys2Proof/Machine/PonUp.lean ====
section
/-! DEFINITION. The upstream side of a PON channel (04_pon_upstream.md): bursts, packets, loss and rogue conditions, AIS, performance
seconds, and the upstream flow and ONU windows. -/

namespace Sys2Proof.Machine

/-- The channel is in LOS (R99). -/
def State.los (s : State) (c : Nat) : Bool := s.flag (F.pchUsSts_los c)

/-- Declares LOBi of an ONU (R99, R101 to R103). -/
def State.enterLobi (s : State) (c n : Nat) : State :=
  let o := s.onuOf n
  let t := s.setOnu n { o with lobi := true, lossSeen := true }
  if s.los c then t else t.post 0x0A12 [c, n, o.gasp.toNat]

/-- Clears LOBi of an ONU whose burst qualified its delimiter. -/
def State.leaveLobi (s : State) (c n : Nat) : State :=
  let o := s.onuOf n
  if o.lobi then
    let t := s.setOnu n { o with lobi := false }
    if s.los c then t else t.post 0x0A13 [c, n]
  else s

/-- The contexts of a channel in LOBi that may have an active ONU. -/
def State.lobiOf (s : State) (c : Nat) : List Nat := (s.onu.filter (fun p => p.2.chan = c ∧ p.2.st ≠ 0 ∧ p.2.lobi = true)).map (·.1)

/-- Clears LOS when RX_LOS is deasserted and a burst has qualified (R99, R101): ONU_LOBI follows for every ONU still in LOBi. -/
def State.leaveLos (s : State) (c : Nat) (rxLos : Bool) : State :=
  if s.los c ∧ rxLos = false then
    let t := (s.setFld (F.pchUsSts_los c) 0).post 0x0A11 [c]
    (t.lobiOf c).foldl (fun (t : State) n => t.post 0x0A12 [c, n, (t.onuOf n).gasp.toNat]) t
  else s

/-- A preset or PM state found poisoned is told (R92, R106). -/
def State.statePoison (s : State) (c n : Nat) : State :=
  ((s.setFld (F.pchUsAlm_state_poison c) 1).momentFault (chRegion c)).post 0x0A19 [c, n]

/-- Loads the preset of an ONU (R89 step 1, R92). -/
def State.loadPreset (s : State) (c n : Nat) (e : Ecc) : State :=
  if (s.onuOf n).presetValid then
    let (t, bad) := s.readRec 3 kPreset n e
    if bad then (((t.cleanRec 3 kPreset n).setOnu n { t.onuOf n with presetValid := false }).statePoison c n) else t
  else s

/-- Updates the preset at the end of a good burst (R91). -/
def State.takePreset (s : State) (c n : Nat) (b : Burst) : State :=
  let o := s.onuOf n
  if o.st = 0 ∨ b.bits < s.fld (F.pchUsAdapt_min_adapt c) * 256 then s
  else if o.presetValid = false ∨ b.fom + s.fld (F.pchUsAdapt_preset_margin c) ≥ o.fomPreset then
    s.setOnu n { o with preset := b.coef, fomPreset := b.fom, presetValid := true }
  else s.count Cn.usPresetReject n

/-- The code of an accepted upstream PLOAM type in a message to firmware, none for any other type (R94). -/
def upCode : UpType → Option Nat
  | .serialNumberOnu => some 1
  | .registration => some 2
  | .keyReport => some 3
  | .acknowledge => some 4
  | .sleepRequest => some 5
  | .powerConsumptionReport => some 6
  | .other => none

/-- The PLOAMu of a burst (R93, R94). -/
def State.takePloam (s : State) (c n : Nat) (p : PloamUp) : State :=
  if p.ok = false then (s.count Cn.usPloamMicCh c).count Cn.usPloamMicOnu n
  else
    match upCode p.typ with
    | none => s.count Cn.usPloamUnsup c
    | some k => s.tell 3 c ([n, k, s.nowNs] ++ p.content)

/-- The status report of an allocation (R93). -/
def State.takeDbru (s : State) (c a : Nat) (d : Option (Nat × Bool)) : State :=
  match d with
  | none => s
  | some (v, true) =>
    let sfc := s.fld (F.pchSfcHi_sfc c) * 2 ^ 32 + s.fld (F.pchSfcLo_sfc c)
    { s with hal := { s.hal with reports := s.hal.reports ++ [(a, v, sfc)] } }
  | some (_, false) => s.count Cn.usDbruErr c

/-- The open packet of an Alloc context. -/
def State.openOf (s : State) (c a : Nat) : Option OpenPkt := Tbl.find (s.usOf c).reasm a none

/-- Sets the open packet of an Alloc context. -/
def State.setOpen (s : State) (c a : Nat) (p : Option OpenPkt) : State :=
  let u := s.usOf c
  s.setUs c { u with reasm := Tbl.put u.reasm a none p }

/-- Discards the open packet of an Alloc context and counts it (R97). -/
def State.abortOpen (s : State) (c a : Nat) : State :=
  if (s.openOf c a).isSome then (s.setOpen c a none).count Cn.usReasmAbort c else s

/-- A packet whose last fragment has arrived (R93, R97): dropped and counted, or queued for the core in order. -/
def State.endPacket (s : State) (c : Nat) (p : UsPkt) (bad : Bool) : State :=
  if bad then s.count Cn.usFecDrop c
  else if p.bytes.length > s.fld (F.pchDsCfg_mtu c) then s.count Cn.usOversize c
  else if p.bytes.length < 64 then s.count Cn.usRunt c
  else
    let u := s.usOf c
    s.setUs c { u with edge := u.edge ++ [p] }

/-- One XGEM frame of an allocation; first tells whether it is the allocation's first in this burst (R97). Port-ID 0xFFFF is an idle
frame. -/
def State.takeFrame (s : State) (c n a : Nat) (first : Bool) (x : XFrame) : State :=
  let s := if first && !x.cont then s.abortOpen c a else s
  if x.portId = 0xFFFF then s
  else if x.cont then
    match s.openOf c a with
    | none => s
    | some q =>
      if first = false then s
      else
        let p := { q.pkt with bytes := q.pkt.bytes ++ x.bytes }
        let bad := q.bad || x.badCw
        if x.last then (s.setOpen c a none).endPacket c p bad
        else s.setOpen c a (some { pkt := p, age := q.age, bad := bad })
  else
    let p : UsPkt := { onu := n, portId := x.portId, keyIx := x.keyIx, bytes := x.bytes, stamp := x.stamp }
    if x.last then s.endPacket c p x.badCw
    else (s.abortOpen c a).setOpen c a (some { pkt := p, age := 0, bad := x.badCw })

/-- The XGEM frames of an allocation (R93): a header that fails its HEC ends the allocation. -/
def State.takeFrames (s : State) (c n a : Nat) (first : Bool) : List XFrame → State
  | [] => if first then s.abortOpen c a else s
  | x :: r => if x.hecOk then (s.takeFrame c n a first x).takeFrames c n a false r
              else (if first then s.abortOpen c a else s).count Cn.usXgemHec c

/-- Idle monitoring of an Alloc without status reports (R144): a good burst of it sets the backlog from the bytes granted in the map in force
and the idle XGEM bytes received, headers included. -/
def State.idleMonitor (s : State) (c a : Nat) (l : List XFrame) : State :=
  let ws := s.record kAlc a
  if alValid ws && !alDbru ws then
    let g := ((s.dsOf c).map.filter (fun e => decide (e.alloc = a))).foldl (fun n e => n + e.pay) 0
    let i := (l.filter (fun x => decide (x.portId = 0xFFFF))).foldl (fun n x => n + 8 + x.bytes.length) 0
    s.setAllocDyn a { s.allocDyn a with b := if i * 8 < g then 2 * g else g - i, granted := [] }
  else s

/-- One allocation of a burst. -/
def State.takeAlloc (s : State) (c n : Nat) (good : Bool) (x : BurstAlloc) : State :=
  let t := (s.takeDbru c x.alloc x.dbru).takeFrames c n x.alloc true x.frames
  if good then
    let t := t.idleMonitor c x.alloc x.frames
    match t.openOf c x.alloc with
    | some q => t.setOpen c x.alloc (some { q with age := 0 })
    | none => t
  else t

/-- A burst of the map that did not qualify its delimiter (R89 step 4, R99). -/
def State.missedBurst (s : State) (c n : Nat) (active : Bool) : State :=
  let s := (((s.count Cn.usMissedCh c).count Cn.usMissedOnu n).count Cn.usErroredCh c).count Cn.usErroredOnu n
  if active then
    let o := s.onuOf n
    let t := s.setOnu n { o with missed := o.missed + 1, granted := o.granted + 1, errored := o.errored + 1 }
    if o.lobi = false ∧ o.missed + 1 ≥ s.fld (F.pchUsCfg_lob_thr c) then t.enterLobi c n else t
  else s

/-- A burst of an active context whose delimiter qualified (R91, R93, R102, R122). -/
def State.activeBurst (s : State) (c n : Nat) (b : Burst) (good : Bool) : State :=
  let o := s.onuOf n
  let t := s.setOnu n { o with missed := 0, granted := o.granted + 1, errored := o.errored + (if good then 0 else 1),
                               gasp := if good then b.gasp else o.gasp }
  let t := if good then t.driftBurst c n b.err else t
  let t := match b.ploam with
    | some p => t.takePloam c n p
    | none => t
  b.allocs.foldl (fun (t : State) x => t.takeAlloc c n good x) t

/-- A burst whose delimiter qualified (R89 step 5, R90, R95, R99). -/
def State.heardBurst (s : State) (c n : Nat) (b : Burst) (active : Bool) : State :=
  let u := s.usOf c
  let s := s.setUs c { u with frameHeard := true }
  let s := (s.leaveLobi c n).leaveLos c b.rxLos
  let good := decide (b.fecUncorr = 0) && decide (b.bipBits = 0)
  let s := ((s.countN Cn.usBipBits n 0 b.bipBits).countN Cn.usFecCorr n 0 b.fecCorr).countN Cn.usFecUncorr n 0 b.fecUncorr
  let s := if good then s else (s.count Cn.usErroredCh c).count Cn.usErroredOnu n
  let s := if active then s.activeBurst c n b good else s.count Cn.usInactive c
  if good then s.takePreset c n b else s

/-- BURST_RECEIVE (R89 to R95, R99, R122 to R124): one expected burst of the map that the channel sent. A header that fails its HEC leaves
no qualified candidate, so the burst is missed. -/
def execBurstReceive (s : State) (c : Chan) (b : Burst) : Host.Outcome State Fault Refusal :=
  let c := c.toNat
  let n := b.onu
  if s.ch c ≠ chRunning then .next s
  else
    let s := (s.count Cn.usBurstsCh c).count Cn.usBurstsOnu n
    let s := (s.setUs c { s.usOf c with frameGranted := true }).setFld (F.pchUsSts_rx_los c) b.rxLos.toNat
    let (s, bad) := s.readCtx n b.ctxEcc
    let s := s.loadPreset c n b.presetEcc
    let active := !bad && decide ((s.onuOf n).stNow = 4) && decide ((s.onuOf n).chanNow = c)
    .next (if b.qualified && b.hdrOk then s.heardBurst c n b active else s.missedBurst c n active)

/-- The key index of an upstream packet is one that its record allows and its ONU context holds (R96). -/
def State.usKeyOk (s : State) (onu keyIx : Nat) (decrypt : Bool) : Bool :=
  if keyIx = 0 then !decrypt
  else decrypt && (if keyIx = 1 then (s.keysOf onu).k1.isSome else if keyIx = 2 then (s.keysOf onu).k2.isSome else false)

/-- A packet that its record admits (R96): decrypted where it is encrypted, then stamped with its flow for the parser. -/
def State.usAdmit (s : State) (c : Nat) (p : UsPkt) (flow : Nat) : State :=
  let go := fun (t : State) =>
    let (t, k) := t.newPkt c p.bytes p.stamp
    t.queueParse { k with flow := flow, onu := p.onu }
  if p.keyIx = 0 then go s
  else
    match s.cipher (c / 8) (keyName stOnu p.onu) with
    | .error t => t
    | .ok (t, _) => go t

/-- UPSTREAM_PACKET_INGRESS (R25, R96): the oldest packet of the channel's edge buffer crosses into the core. fits: the edge buffer could
take it; ecc: what the read of its flow record finds; keyEcc: of the ONU's key record. -/
def execUpstreamPacketIngress (s : State) (c : Chan) (fits : Bool) (ecc keyEcc : Ecc) : Host.Outcome State Fault Refusal :=
  let c := c.toNat
  let u := s.usOf c
  match u.edge with
  | [] => .next s
  | p :: rest =>
    let s := s.setUs c { u with edge := rest }
    if fits = false then .next (s.count Cn.usEdgeDrop c)
    else
      let ix := c * 65536 + p.portId
      let ws := s.record kUfl ix
      let (s, bad) := s.readRec 3 kUfl ix ecc
      if bad then
        .next (((((s.setRecord kUfl ix []).cleanRec 3 kUfl ix).setFld (F.pchUsAlm_flow_poison c) 1).momentFault (chRegion c)).post 0x0A16
          [c, p.portId])
      else if recBits ws 0 31 31 = 0 then .next (s.count Cn.usNoRecord c)
      else if recBits ws 1 15 0 ≠ p.onu then .next (s.count Cn.usPortMismatch c)
      else
        let (s, _) := if p.keyIx = 0 then (s, false) else s.readStore stOnu p.onu keyEcc
        if s.usKeyOk p.onu p.keyIx (decide (recBits ws 1 16 16 = 1)) then .next (s.usAdmit c p (recBits ws 0 17 0))
        else .next (s.count Cn.usKeyErr c)

/-- REASM_TIMEOUT (R97): eight PON frames have passed without a good burst of the Alloc context. -/
def execReasmTimeout (s : State) (c : Chan) (a : AllocIx) : Host.Outcome State Fault Refusal :=
  match s.openOf c.toNat a.toNat with
  | some q => .next (if 8 ≤ q.age then s.abortOpen c.toNat a.toNat else s)
  | none => .next s

/-- RX_LOS_HELD (R99, R103): RX_LOS was held for 250 µs (pin), or los_frames frames with grants were silent. -/
def execRxLosHeld (s : State) (c : Chan) (pin : Bool) : Host.Outcome State Fault Refusal :=
  let c := c.toNat
  let s := if pin then s.setFld (F.pchUsSts_rx_los c) 1 else s
  if s.ch c = chRunning ∧ s.los c = false ∧ (pin = true ∨ (s.usOf c).silent ≥ s.fld (F.pchUsCfg_los_frames c)) then
    let t := (s.setFld (F.pchUsSts_los c) 1).setFld (F.pchUsAlm_los c) 1
    .next ((t.onuMap (fun o => decide (o.chan = c)) (fun o => { o with lossSeen := true })).post 0x0A10 [c])
  else .next s

/-- ROGUE_OBSERVATION (R99, R100): energy in a gap between bursts (gap) or in a quiet window, after `passed` rogue-check windows without
any (255: or more). -/
def execRogueObservation (s : State) (c : Chan) (gap : Bool) (offset : BitVec 21) (passed : Byte) : Host.Outcome State Fault Refusal :=
  let c := c.toNat
  if s.ch c ≠ chRunning then .next s
  else
    let u := s.usOf c
    let win := (true :: (List.replicate passed.toNat false ++ u.rogueWin)).take (s.fld (F.pchRogueCfg_rogue_win c))
    let t := ((s.setUs c { u with rogueWin := win }).count Cn.usRogueObs c).setFld (F.pchRogueCap_kind c) (if gap then 2 else 1)
    let t := t.setFld (F.pchRogueCap_offset c) offset.toNat
    if s.flag (F.pchUsSts_rogue c) = false ∧ (win.filter (·)).length ≥ s.fld (F.pchRogueCfg_rogue_thr c) then
      let t := (t.setFld (F.pchUsSts_rogue c) 1).setFld (F.pchUsAlm_rogue c) 1
      .next (t.post 0x0A14 [c, t.fld (F.pchRogueCap c)])
    else .next t

/-- ROGUE_CLEAR (R99): clear_win rogue-check windows passed without an observation. -/
def execRogueClear (s : State) (c : Chan) : Host.Outcome State Fault Refusal :=
  let c := c.toNat
  if s.flag (F.pchUsSts_rogue c) then
    .next (((s.setUs c { s.usOf c with rogueWin := [] }).setFld (F.pchUsSts_rogue c) 0).post 0x0A15 [c])
  else .next s

/-- The ONU is under an AIS condition (R103, R112): LOBi, or a channel in LOS, FAULT or RETIRED with an ONU that is active or was until it
was lost; none in STANDBY and OFF. -/
def State.aisCond (s : State) (n : Nat) : Bool :=
  let o := s.onuOf n
  let st := s.ch o.chan
  decide (o.st ≠ 0) && decide (st ≠ chOff) && decide (st ≠ chStandby) && decide (st ≠ chUnbound) &&
    (o.lobi || ((decide (o.st = 4) || decide (o.st = 5)) && (s.los o.chan || decide (st = chFault) || decide (st = chRetired))))

/-- The lowest-numbered bound port of an uplink group (R224). -/
def State.firstPort (s : State) (u : Nat) : Nat :=
  match (List.range 8).find? (fun i => s.portBound (256 + 8 * u + i)) with
  | some i => 8 * u + i
  | none => 8 * u

/-- The AIS frame of a record (R104): words of the ONU window, and the source address. -/
def aisBytes (ws : List Nat) (sa : Nat) : List Nat :=
  let cls := recBits ws 0 22 20
  let mel := recBits ws 0 18 16
  let tag := fun (tpid vid : Nat) => beBytes 2 tpid ++ beBytes 2 (cls * 8192 + vid)
  let m := recBits ws 0 13 12
  let tags := if m = 1 then tag 0x8100 (recBits ws 0 11 0)
    else if m = 2 then tag 0x88A8 (recBits ws 0 11 0) ++ tag 0x8100 (recBits ws 1 11 0) else []
  let body := fitBytes 60 ([0x01, 0x80, 0xC2, 0, 0, 0x30 + mel] ++ beBytes 6 sa ++ tags ++ [0x89, 0x02] ++
    [mel * 32, 33, if recBits ws 0 15 15 = 1 then 6 else 4, 0])
  body ++ frameFcs body

/-- AIS_FRAME_TIMER (R104, R224): under an AIS condition one frame of the ONU's record enters its class queue, or is dropped and counted. -/
def execAisFrameTimer (s : State) (onu : Onu) : Host.Outcome State Fault Refusal :=
  let n := onu.toNat
  let ws := s.record kUonu n
  let c := (s.onuOf n).chan
  if s.aisCond n ∧ recBits ws 0 31 31 = 1 then
    let p := s.firstPort (recBits ws 0 27 24)
    let b := aisBytes ws (s.fld (F.pchAisSaHi_sa c) * 2 ^ 32 + s.fld (F.pchAisSaLo_sa c))
    let (t, k) := s.newPkt c b { ns := s.tim.ns, hi := s.tim.sec }
    let k := { k with cls := recBits ws 0 22 20, dest := 256 + p }
    match t.assignQueue t k with
    | .error u => .next (u.count Cn.aisDrop c)
    | .ok q =>
      if (t.portOf k.dest).st = 2 then .next (((t.count Cn.portDownDrop k.dest).dropped k).count Cn.aisDrop c)
      else
        let u := t.admitPkt t q k
        .next (u.count (if (u.qOf q).pkts.length > (t.qOf q).pkts.length then Cn.aisTx else Cn.aisDrop) c)
  else .next s

/-- The class of a monitored second (R105): 0 ok, 1 es, 2 ses. -/
def pmClass (o : OnuCtx) (sesPct : Nat) : Nat :=
  if o.lossSeen then 2
  else if o.granted > 0 ∧ o.errored * 100 ≥ sesPct * o.granted then 2
  else if 1 ≤ o.errored then 1 else 0

/-- Marks the newest ten pending seconds (oldest first in the list). -/
def markTen (l : List PmSec) (u : Bool) : List PmSec :=
  l.take (l.length - 10) ++ (l.drop (l.length - 10)).map (fun x => { x with unavail := u })

/-- Judges availability after a second was pushed (R106). -/
def State.pmJudge (s : State) (c n : Nat) (o : OnuCtx) : State :=
  let ten := o.pm.drop (o.pm.length - 10)
  let first := (ten.map (·.sec)).headD 0
  if ten.length = 10 ∧ o.unavail = false ∧ ten.all (fun x => decide (x.cls = 2)) = true then
    (s.setOnu n { o with pm := markTen o.pm true, unavail := true }).post 0x0A17 [c, n, first]
  else if ten.length = 10 ∧ o.unavail = true ∧ ten.all (fun x => decide (x.cls ≠ 2)) = true then
    (s.setOnu n { o with pm := markTen o.pm false, unavail := false }).post 0x0A18 [c, n, first]
  else s.setOnu n o

/-- Commits the oldest pending second when 11 are pending (R106). -/
def State.pmCommit (s : State) (n : Nat) : State :=
  let o := s.onuOf n
  match o.pm with
  | x :: r =>
    if o.pm.length = 11 then
      let t := s.setOnu n { o with pm := r }
      if x.unavail then t.count Cn.onuUas n
      else if x.cls = 2 then (t.count Cn.onuEs n).count Cn.onuSes n
      else if x.cls = 1 then t.count Cn.onuEs n else t
    else s
  | [] => s

/-- PM_SECOND_END (R105, R106): a time-base second has ended. throughout: the context was active, and the channel RUNNING, FAULT or RETIRED,
throughout it; ecc: what the read of the PM state finds. -/
def execPmSecondEnd (s : State) (onu : Onu) (throughout : Bool) (ecc : Ecc) : Host.Outcome State Fault Refusal :=
  let n := onu.toNat
  let c := (s.onuOf n).chan
  let st := s.ch c
  let (s, bad) := s.readRec 3 kPm n ecc
  let s := if bad then
      let o := s.onuOf n
      (((s.cleanRec 3 kPm n).countN Cn.pmLost c 0 o.pm.length).setOnu n { o with pm := [], unavail := false }).statePoison c n
    else s
  let o := s.onuOf n
  let fresh : OnuCtx := { o with granted := 0, errored := 0, lossSeen := o.lobi || s.los c || decide (st = chFault) || decide (st = chRetired) }
  if throughout = true ∧ o.stNow = 4 ∧ (st = chRunning ∨ st = chFault ∨ st = chRetired) then
    let x : PmSec := { cls := pmClass o (s.fld (F.pchUsCfg_ses_pct c)), unavail := o.unavail, sec := (s.tim.sec - 1) % 2 ^ 32 }
    .next ((s.pmJudge c n { fresh with pm := o.pm ++ [x] }).pmCommit n)
  else .next (if o.st = 0 then s else s.setOnu n fresh)

/-- Answers of the upstream flow window. -/
def State.uflAnswer (s : State) (c result : Nat) (ws : List Nat) : State :=
  ((s.setFld (F.pchUflCmd_result c) result).setFld (F.pchUflData0 c) (wordOf ws 0)).setFld (F.pchUflData1 c) (wordOf ws 1)

/-- A read of the applied record of a port-ID (R321): a poisoned record is set not valid. -/
def State.uflRead (s : State) (c ix : Nat) (e : Ecc) : State :=
  let ws := s.record kUfl ix
  let (t, bad) := s.readRec 3 kUfl ix e
  if bad then
    ((((t.setRecord kUfl ix []).cleanRec 3 kUfl ix).setFld (F.pchUsAlm_flow_poison c) 1).post 0x0A16 [c, ix % 65536]).uflAnswer c 2 []
  else t.uflAnswer c 0 ws

/-- UFL_READ_APPLIED: op 1 of PCH_UFL_CMD. -/
def execUflReadApplied (s : State) (m : Master) (c : Chan) (ecc : Ecc) : Host.Outcome State Fault Refusal :=
  let c := c.toNat
  if mayWrite m ∧ s.released 7 = true then .next (s.uflRead c (c * 65536 + s.fld (F.pchUflAddr_port_id c)) ecc) else .next s

/-- UFL_READ_STAGED: op 2. -/
def execUflReadStaged (s : State) (m : Master) (c : Chan) : Host.Outcome State Fault Refusal :=
  let c := c.toNat
  if mayWrite m ∧ s.released 7 = true then
    .next (s.uflAnswer c 0 (s.recordStaged kUfl (c * 65536 + s.fld (F.pchUflAddr_port_id c))))
  else .next s

/-- UFL_WRITE_STAGED: op 3. -/
def execUflWriteStaged (s : State) (m : Master) (c : Chan) : Host.Outcome State Fault Refusal :=
  let c := c.toNat
  if mayWrite m ∧ s.released 7 = true then
    .next ((s.stageRec kUfl (c * 65536 + s.fld (F.pchUflAddr_port_id c)) [s.fld (F.pchUflData0 c), s.fld (F.pchUflData1 c)]).setFld
      (F.pchUflCmd_result c) 0)
  else .next s

/-- The ONU window of a channel for a context (PCH_UONU_CMD): only for a master that may write, and result 1 for a context of another
channel. -/
def State.uonuRun (s : State) (m : Master) (c : Chan) (f : Nat → State) : Host.Outcome State Fault Refusal :=
  let n := s.fld (F.pchUonuAddr_onu c.toNat)
  if mayWrite m ∧ s.released 7 = true then
    if (s.onuOf n).st ≠ 0 ∧ (s.onuOf n).chan = c.toNat then .next (f n) else .next (s.setFld (F.pchUonuCmd_result c.toNat) 1)
  else .next s

/-- Answers of the ONU window: the AIS record of ws beside the live state of the context. -/
def State.uonuAnswer (s : State) (c n result : Nat) (ws : List Nat) (lobi : Bool) : State :=
  let o := s.onuOf n
  let t := (s.setFld (F.pchUonuCmd_result c) result).setFld (F.pchUonuData0 c) (wordOf ws 0)
  t.setFld (F.pchUonuData1 c)
    (recBits ws 1 11 0 + o.fomPreset % 256 * 2 ^ 16 + o.unavail.toNat * 2 ^ 29 + o.presetValid.toNat * 2 ^ 30 + lobi.toNat * 2 ^ 31)

/-- UONU_READ_APPLIED: op 1. A poisoned preset is handled as R92 says. -/
def execUonuReadApplied (s : State) (m : Master) (c : Chan) (ecc : Ecc) : Host.Outcome State Fault Refusal :=
  s.uonuRun m c (fun n =>
    let t := s.loadPreset c.toNat n ecc
    t.uonuAnswer c.toNat n (if (t.onuOf n).presetValid = (s.onuOf n).presetValid then 0 else 2) (t.record kUonu n) (t.onuOf n).lobi)

/-- UONU_READ_STAGED: op 2. -/
def execUonuReadStaged (s : State) (m : Master) (c : Chan) : Host.Outcome State Fault Refusal :=
  s.uonuRun m c (fun n => s.uonuAnswer c.toNat n 0 (s.recordStaged kUonu n) false)

/-- UONU_WRITE_STAGED: op 3 stages the AIS record. -/
def execUonuWriteStaged (s : State) (m : Master) (c : Chan) : Host.Outcome State Fault Refusal :=
  s.uonuRun m c (fun n =>
    (s.stageRec kUonu n [s.fld (F.pchUonuData0 c.toNat), s.fld (F.pchUonuData1_cvid c.toNat)]).setFld (F.pchUonuCmd_result c.toNat) 0)

/-- UONU_CLEAR_PRESET: op 4, at once (R91). -/
def execUonuClearPreset (s : State) (m : Master) (c : Chan) : Host.Outcome State Fault Refusal :=
  s.uonuRun m c (fun n => (s.setOnu n { s.onuOf n with presetValid := false }).setFld (F.pchUonuCmd_result c.toNat) 0)

end Sys2Proof.Machine
end

