-- ==== Sys2Proof/Machine/Ratline.lean ====
section
/-! DEFINITION. Ratline (05_ratline_ranging.md): discovery windows, context commands, ranging measurements, drift updates and losses. -/

namespace Sys2Proof.Machine

/-- Results of PCH_RAT_CMD. -/
def ratCompleted : Nat := 0
def ratBadState : Nat := 1
def ratBadArg : Nat := 2
def ratPoolEmpty : Nat := 3
def ratChFull : Nat := 4
def ratDupSn : Nat := 5
def ratIdInUse : Nat := 6
def ratWrongChannel : Nat := 7
def ratNotRunning : Nat := 8
def ratAborted : Nat := 9
def ratAbortLate : Nat := 10

/-- The arguments in a channel's register window (R129). -/
def State.windowArgs (s : State) (c : Nat) : RatArgs :=
  { ctx := s.fld (F.pchRatArg0_context c), onuId := s.fld (F.pchRatArg0_onu_id c), tries := s.fld (F.pchRatArg0_tries c),
    a1 := s.fld (F.pchRatArg1_arg c), a2 := s.fld (F.pchRatArg2_arg c), a3 := s.fld (F.pchRatArg3_arg c), poison := false }

/-- Reports a result: in PCH_RAT_CMD for the window, as a message for a firmware message. -/
def State.ratEnd (s : State) (via : Option Master) (c op ctx r : Nat) : State :=
  match via with
  | some _ => s.setFld (F.pchRatCmd_result c) r
  | none => s.tell 9 c [op, ctx, r]

/-- The arguments of a command: the window's registers, or the firmware message's own. -/
def State.ratArgs (s : State) (via : Option Master) (c : Nat) (args : RatArgs) : RatArgs :=
  match via with
  | some _ => s.windowArgs c
  | none => { args with ctx := args.ctx % 65536 }

/-- The window takes commands from masters that may write; a firmware message bypasses it (R129). -/
def State.ratOpen (s : State) (via : Option Master) : Bool :=
  match via with
  | some m => mayWrite m && s.released 7
  | none => true

/-- Runs a Ratline command (R127, R129): through the window only for a master that may write, with the window's arguments. A firmware message
whose buffer is poisoned is discarded and counted (R321). f answers the state and the result. -/
def State.ratRun (s : State) (via : Option Master) (c : Chan) (op : Nat) (args : RatArgs) (f : Nat → RatArgs → State × Nat) :
    Host.Outcome State Fault Refusal :=
  let c := c.toNat
  let a := s.ratArgs via c args
  if s.ratOpen via = false then .next s
  else if a.poison then .next (s.count Cn.memPoisonMsg 0)
  else if s.ch c = chStandby ∧ op ≠ 11 then .next (s.ratEnd via c op a.ctx ratNotRunning)
  else
    let (t, r) := f c a
    .next (t.ratEnd via c op a.ctx r)

/-- The context is bound to a channel other than c (R129). -/
def State.otherCh (s : State) (n c : Nat) : Bool := decide ((s.onuOf n).st ≠ 0) && decide ((s.onuOf n).chan ≠ c)

/-- Discovery engines in use. -/
def State.enginesUsed (s : State) : List Nat := (s.disc.filter (fun p => p.2.opened)).map (fun p => p.2.engine)

/-- GLB_RAT_POOL follows the engines (R116). -/
def State.showPool (s : State) : State :=
  let n := 64 - s.enginesUsed.length
  (s.setFld F.glbRatPool_free n).setFld F.glbRatPool_low_water (min n (s.fld F.glbRatPool_low_water))

/-- OPEN_DISC (R116). -/
def execOpenDisc (s : State) (via : Option Master) (c : Chan) (args : RatArgs) : Host.Outcome State Fault Refusal :=
  s.ratRun via c 1 args (fun c a =>
    let d := s.discOf c
    let used := s.enginesUsed
    if s.ch c ≠ chRunning then (s, ratNotRunning)
    else if bits a.a3 11 8 = 0 then (s, ratBadArg)
    else if d.opened then (s, ratBadState)
    else
      match (List.range 64).find? (fun e => !used.contains e) with
      | none => (s, ratPoolEmpty)
      | some e =>
        let t := s.setDisc c { opened := true, engine := e, rtdMin := a.a1, rtdMax := a.a2, profile := bits a.a3 1 0,
                               frames := bits a.a3 11 8, planned := 0, spent := 0, inFrame := 0, total := 0, recs := [], ended := false }
        (((t.setFld (F.pchRatDsts_open c) 1).setFld (F.pchRatDsts_engine c) e).setFld (F.pchRatDsts_records c) 0 |>.showPool, ratCompleted))

/-- Ends the open window with a completion (R119, R132): 1 COMPLETED, 2 ABORTED, 3 CH_LEFT; its engine is released. -/
def State.discEnd (s : State) (c comp : Nat) : State :=
  let d := s.discOf c
  let t := (s.setDisc c { d with opened := false, ended := true }).showPool
  let t := (t.setFld (F.pchRatDsts_open c) 0).setFld (F.pchRatDsts_last_comp c) comp
  (t.count Cn.discWindows c).post 0x0A20 [c, comp, d.total]

/-- CLOSE_DISC (R119): before the end of the search span of the last frame the window ends ABORTED. -/
def execCloseDisc (s : State) (via : Option Master) (c : Chan) (args : RatArgs) : Host.Outcome State Fault Refusal :=
  s.ratRun via c 2 args (fun c _ =>
    let d := s.discOf c
    if d.opened ∧ d.spent < d.frames then (s.discEnd c 2, ratAborted) else (s, ratAbortLate))

/-- CREATE (R111, R112). -/
def execCreate (s : State) (via : Option Master) (c : Chan) (args : RatArgs) : Host.Outcome State Fault Refusal :=
  s.ratRun via c 3 args (fun c a =>
    let o := s.onuOf a.ctx
    if s.otherCh a.ctx c then (s, ratWrongChannel)
    else if o.st ≠ 0 then (s, ratBadState)
    else if s.onu.any (fun p => decide (p.2.st ≠ 0) && decide (p.2.chan = c) && decide (p.2.sn0 = a.a1) && decide (p.2.sn1 = a.a2)) then
      (s, ratDupSn)
    else
      let t := s.setOnu a.ctx { onuInit with st := 1, chan := c, sn0 := a.a1, sn1 := a.a2, stNow := o.stNow, chanNow := o.chanNow,
                                             onuIdNow := o.onuIdNow, keyIxNow := o.keyIxNow }
      (((t.cleanRec 3 kOnuCtx a.ctx).setKeys a.ctx noKeys).dropKey (keyName stOnu a.ctx), ratCompleted))

/-- Contexts of a channel that hold an ONU-ID (R111). -/
def State.held (s : State) (c : Nat) : List OnuCtx := (s.onu.filter (fun p => decide (p.2.chan = c) && decide (2 ≤ p.2.st))).map (·.2)

/-- ASSIGN (R111, R112). -/
def execAssign (s : State) (via : Option Master) (c : Chan) (args : RatArgs) : Host.Outcome State Fault Refusal :=
  s.ratRun via c 4 args (fun c a =>
    let o := s.onuOf a.ctx
    if a.onuId > 1020 then (s, ratBadArg)
    else if s.otherCh a.ctx c then (s, ratWrongChannel)
    else if o.st ≠ 1 then (s, ratBadState)
    else if (s.held c).length ≥ 256 then (s, ratChFull)
    else if (s.held c).any (fun x => decide (x.onuId = a.onuId)) then (s, ratIdInUse)
    else (s.setOnu a.ctx { o with st := 2, onuId := a.onuId }, ratCompleted))

/-- Measurements in progress on a channel (R120). -/
def State.measuring (s : State) (c : Nat) : List Nat :=
  (s.onu.filter (fun p => decide (p.2.chan = c) && decide (p.2.st = 3) && p.2.meas.isSome)).map (·.1)

/-- RANGE (R112, R120). -/
def execRange (s : State) (via : Option Master) (c : Chan) (args : RatArgs) : Host.Outcome State Fault Refusal :=
  s.ratRun via c 5 args (fun c a =>
    let o := s.onuOf a.ctx
    if a.tries = 0 then (s, ratBadArg)
    else if s.otherCh a.ctx c then (s, ratWrongChannel)
    else if ¬ (o.st = 2 ∨ o.st = 4 ∨ o.st = 5) then (s, ratBadState)
    else if (s.measuring c).length ≥ 8 then (s, ratPoolEmpty)
    else
      (s.setOnu a.ctx { o.dropUpdate with prior := o.st, st := 3, presetValid := false, measured := false,
                                          meas := some { tries := a.tries, rtdMin := a.a1, rtdMax := a.a2, profile := bits a.a3 1 0 } },
       ratCompleted))

/-- ACTIVATE (R112). -/
def execActivate (s : State) (via : Option Master) (c : Chan) (args : RatArgs) : Host.Outcome State Fault Refusal :=
  s.ratRun via c 6 args (fun c a =>
    let o := s.onuOf a.ctx
    if s.otherCh a.ctx c then (s, ratWrongChannel)
    else if o.st = 3 ∧ o.measured = true then (s.setOnu a.ctx { o.dropUpdate with st := 4, f := 0, measured := false }, ratCompleted)
    else (s, ratBadState))

/-- SET_EQD (R112, R124): accepted with the stored proposal's equalisation delay; its frames count from the next boundary on. -/
def execSetEqd (s : State) (via : Option Master) (c : Chan) (args : RatArgs) : Host.Outcome State Fault Refusal :=
  s.ratRun via c 7 args (fun c a =>
    let o := s.onuOf a.ctx
    if s.otherCh a.ctx c then (s, ratWrongChannel)
    else
      match o.prop with
      | none => (s, ratBadState)
      | some (_, eqd, _) =>
        if o.st ≠ 4 ∨ o.update.isSome = true then (s, ratBadState)
        else if a.a1 ≠ eqd then (s, ratBadArg)
        else (s.setOnu a.ctx { o with update := some (s.fld (F.pchRatDrift_upd_frames c) + 1) }, ratCompleted))

/-- DEACTIVATE (R112). -/
def execDeactivate (s : State) (via : Option Master) (c : Chan) (args : RatArgs) : Host.Outcome State Fault Refusal :=
  s.ratRun via c 8 args (fun c a =>
    if s.otherCh a.ctx c then (s, ratWrongChannel)
    else if (s.onuOf a.ctx).st < 2 then (s, ratBadState)
    else (s.toIdle a.ctx, ratCompleted))

/-- RELEASE (R112). -/
def execRelease (s : State) (via : Option Master) (c : Chan) (args : RatArgs) : Host.Outcome State Fault Refusal :=
  s.ratRun via c 9 args (fun c a =>
    let o := s.onuOf a.ctx
    if s.otherCh a.ctx c then (s, ratWrongChannel)
    else if o.st ≠ 1 then (s, ratBadState)
    else
      (s.setOnu a.ctx { onuInit with stNow := o.stNow, chanNow := o.chanNow, onuIdNow := o.onuIdNow, keyIxNow := o.keyIxNow }, ratCompleted))

/-- ABORT_RANGE (R112): ABORT_LATE after the measurement's commit point (R51). -/
def execAbortRange (s : State) (via : Option Master) (c : Chan) (args : RatArgs) : Host.Outcome State Fault Refusal :=
  s.ratRun via c 10 args (fun c a =>
    let o := s.onuOf a.ctx
    if s.otherCh a.ctx c then (s, ratWrongChannel)
    else if o.st ≠ 3 then (s, ratBadState)
    else if o.meas = none then (s, ratAbortLate)
    else (s.endMeas a.ctx oAborted true, ratAborted))

/-- The eight words of PCH_RAT_RD0 to PCH_RAT_RD7. -/
def ratWords (o : OnuCtx) : List Nat :=
  let p := o.prop.getD (0, 0, 0)
  [o.st * 2 ^ 29 + o.update.isSome.toNat * 2 ^ 28 + o.drift.toNat * 2 ^ 27 + o.onuId % 1024 * 2 ^ 16 + o.chan % 256, o.sn0, o.sn1, o.rtd, o.eqd,
   unsigned 16 o.f * 2 ^ 16 + o.outcome % 8 * 2 ^ 13 + o.residue % 256, p.2.1, p.2.2]

/-- RAT_READ: command 11 of PCH_RAT_CMD, allowed in STANDBY (R127). -/
def execRatRead (s : State) (via : Option Master) (c : Chan) (args : RatArgs) (ecc : Ecc) : Host.Outcome State Fault Refusal :=
  s.ratRun via c 11 args (fun c a =>
    if s.otherCh a.ctx c then (s, ratWrongChannel)
    else
      let (t, _) := s.readCtx a.ctx ecc
      let w := ratWords (t.onuOf a.ctx)
      match via with
      | some _ => ((List.range 8).foldl (fun (t : State) i => t.setFld (F.pchRatRd c i) (wordOf w i)) t, ratCompleted)
      | none => (t.tell 10 c (a.ctx :: w), ratCompleted))

/-- The context of a channel with a serial number (R118). -/
def State.knownSn (s : State) (c sn0 sn1 : Nat) : Option Nat :=
  (s.onu.find? (fun p => decide (p.2.st ≠ 0) && decide (p.2.chan = c) && decide (p.2.sn0 = sn0) && decide (p.2.sn1 = sn1))).map (·.1)

/-- DISC_ANSWER (R117, R118): one qualified answer in the search span of the frame in progress. -/
def execDiscAnswer (s : State) (c : Chan) (a : DiscAnswer) : Host.Outcome State Fault Refusal :=
  let c := c.toNat
  let d := s.discOf c
  if d.opened ∧ d.spent < d.frames then
    if d.inFrame < 8 then
      let k := s.knownSn c a.sn0 a.sn1
      let t := s.setDisc c { d with inFrame := d.inFrame + 1, total := d.total + 1,
                                    recs := d.recs ++ [{ ans := a, frame := d.spent, known := k }] }
      .next (((t.count Cn.discResponses c).setFld (F.pchRatDsts_records c) (d.total + 1)).tell 4 c
        [a.sn0, a.sn1, a.coarse, a.profile, d.spent, k.getD 0x10000])
    else .next (s.count Cn.discOverflow c)
  else .next s

/-- DISC_SPAN_END (R117): the search span of one frame of the window ends; energy without a qualified answer counts once. -/
def execDiscSpanEnd (s : State) (c : Chan) (energy : Bool) : Host.Outcome State Fault Refusal :=
  let c := c.toNat
  let d := s.discOf c
  if d.opened ∧ d.spent < d.frames then
    let t := s.setDisc c { d with spent := d.spent + 1, inFrame := 0 }
    .next (if energy && decide (d.inFrame = 0) then t.count Cn.discCollision c else t)
  else .next s

/-- DISC_WINDOW_END (R116, R119): after its last span the window completes. -/
def execDiscWindowEnd (s : State) (c : Chan) : Host.Outcome State Fault Refusal :=
  let d := s.discOf c.toNat
  if d.opened ∧ d.spent = d.frames then .next (s.discEnd c.toNat 1) else .next s

/-- The equalisation delay in use for a measurement, in ticks (R115). -/
def State.eqdInUse (s : State) (o : OnuCtx) : Nat := if o.prior = 2 then 0 else o.eqd * s.tpb o.chan

/-- RANGE_MEASURED (R115, R120, R121): the Registration of a measured ONU qualified `offset` ticks after the zero position; content is its
PLOAMu. A candidate outside the span of R120 does not qualify. -/
def execRangeMeasured (s : State) (onu : Onu) (offset : Word) (content : List Byte) : Host.Outcome State Fault Refusal :=
  let n := onu.toNat
  let o := s.onuOf n
  match o.meas with
  | none => .next s
  | some m =>
    let rtd := (offset.toNat : Int) - s.eqdInUse o
    if o.st ≠ 3 ∨ s.ch o.chan ≠ chRunning ∨ rtd < m.rtdMin ∨ (m.rtdMax : Int) < rtd then .next s
    else
      let t := s.tell 3 o.chan ([n, 2, s.nowNs] ++ content.map (·.toNat))
      match eqdOf (s.fld (F.pchRatTeqd_teqd o.chan)) (s.tpb o.chan) rtd with
      | none => .next (t.endMeas n oOutOfReach true)
      | some (r, eqd, res) => .next ((t.setOnu n { o with rtd := r, eqd := eqd, residue := res, measured := true }).endMeas n oMeasured false)

/-- RANGE_TRIES_EXHAUSTED (R120): every try passed without a qualified candidate. -/
def execRangeTriesExhausted (s : State) (onu : Onu) : Host.Outcome State Fault Refusal :=
  let o := s.onuOf onu.toNat
  match o.meas with
  | none => .next s
  | some m => .next (if m.tries = 0 ∧ o.st = 3 then s.endMeas onu.toNat oNoResponse true else s)

/-- CH_LEFT_BOUNDARY (R119, R120): at the frame boundary after the channel left RUNNING its window and its measurements end CH_LEFT. -/
def execChLeftBoundary (s : State) (c : Chan) : Host.Outcome State Fault Refusal :=
  let c := c.toNat
  if s.ch c = chRunning then .next s
  else
    let t := if (s.discOf c).opened then s.discEnd c 3 else s
    .next ((s.measuring c).foldl (fun (t : State) n => t.endMeas n oChLeft true) t)

/-- RANGE_UPDATE_TIMEOUT (R124): upd_frames PON frames passed without a burst nearer the proposed position. -/
def execRangeUpdateTimeout (s : State) (onu : Onu) : Host.Outcome State Fault Refusal :=
  let o := s.onuOf onu.toNat
  if o.update = some 0 then .next ((s.setOnu onu.toNat o.dropUpdate).post 0x0A23 [o.chan, onu.toNat]) else .next s

/-- ONU_LOST (R112, R125): LOBi, or a channel not RUNNING, held for lost_ms. -/
def execOnuLost (s : State) (onu : Onu) : Host.Outcome State Fault Refusal :=
  let o := s.onuOf onu.toNat
  if o.st = 4 ∧ s.ch o.chan ≠ chStandby ∧ (o.lobi = true ∨ s.ch o.chan ≠ chRunning) then
    .next ((s.setOnu onu.toNat { o.dropUpdate with st := 5 }).post 0x0A24 [o.chan, onu.toNat])
  else .next s

end Sys2Proof.Machine
end

