-- ==== Sys2Proof/Machine/Reg.lean ====
section
/-! DEFINITION. Accesses to registers that have no command of their own (00_scope.md R5 to R11, R404, R405): writes, staged writes, reads,
reads of RC fields. -/

namespace Sys2Proof.Machine

/-- The BAR0 address that a master's access reaches (R15, R16, R340): the address itself for the physical function and the Mast cores; the
mailbox view for a virtual function, its queue-pair area indexed locally (R342); none otherwise. -/
def State.resolve (s : State) (m : Master) (a : Nat) : Option Nat :=
  if reaches m then some a
  else if 1 ≤ m.toNat ∧ m.toNat ≤ 0x10 ∧ a < 0x4000 then
    if a < 0x1000 then some (0x200000 + a)
    else if (a - 0x1000) / 0x40 < 8 then
      (s.ownedQps m.toNat)[(a - 0x1000) / 0x40]?.map (fun q => 0x201000 + 0x40 * q + a % 0x40)
    else none
  else none

/-! ### Writes -/

/-- The RIG_LOCK bit of the block that holds an address (R59): the blocks in the order of their R21 codes. -/
def lockBit (a : Nat) : Nat := if a < 0x200000 then a / 0x100000 else if a < 0x300000 then 2 else 3

/-- The bits of a register that a command of their own writes. -/
def ownBits (a : Nat) : Nat :=
  if a = 0x100080 ∨ a = 0x208008 ∨ a = 0x20800C ∨ a = 0x40003C ∨ a = 0x400054 ∨ a = 0x400080 ∨ a = 0x400084 ∨ a = 0x500030 ∨ a = 0x8A4000 ∨
      (0x204000 ≤ a ∧ a < 0x204100) ∨ (0x200800 ≤ a ∧ a < 0x200900) ∨ (0x800000 ≤ a ∧ a < 0x8A2400 ∧ a % 0x400 = 0) ∨
      (0x1000000 ≤ a ∧ a < 0x1400000 ∧ a % 0x4000 = 0) then 2 ^ 32 - 1
  else if 0x201000 ≤ a ∧ a < 0x202000 ∧ a % 0x40 = 0x18 then 2 ^ 31
  else 0

/-- An operation that runs uses the register, so a write to it is discarded (R405): whether, and the discarded-write flag of the block. -/
def State.inUse (s : State) (a : Nat) : Bool × Option Fld :=
  if a = 0x184 ∨ a = 0x19C then (s.sup.unret.isSome, none)
  else if 0x300 ≤ a ∧ a < 0x400 ∧ (a % 16 = 4 ∨ a % 16 = 8) then
    (s.flag (F.glbI2cCmd_busy ((a - 0x300) / 16)), some (F.glbI2cCmd_cmd_lost ((a - 0x300) / 16)))
  else if 0x100040 ≤ a ∧ a < 0x100068 then (s.rig.attestBusy, none)
  else if 0x100068 ≤ a ∧ a < 0x100074 then (s.rig.loadTrimBusy || s.rig.loadSlotBusy, none)
  else if a = 0x300008 ∨ a = 0x30000C ∨ (0x300100 ≤ a ∧ a < 0x300180) then (s.snap.running, none)
  else if a = 0x500010 ∨ (0x500014 ≤ a ∧ a ≤ 0x500020) then (s.mem.scrub.running, some F.memSts_start_lost)
  else (false, none)

/-- A master may write the register at all: the blocks' registers take writes from 0x00 and the Mast cores; the flip mask and CNT_PERM_DATA
from 0x00 only (R325, R361); GLB_RET_CMD from 0x00 only; the mailbox view also from the functions that own its parts. -/
def State.mayStore (s : State) (m : Master) (a : Nat) : Bool :=
  if a = 0x500030 ∨ a = 0x500034 ∨ a = 0x300404 ∨ a = 0x180 then decide (m = 0)
  else if 0x200000 ≤ a ∧ a < 0x200400 then
    s.mayUse m ((a - 0x200000) / 64) (decide ((a - 0x200000) % 64 / 32 = 1))
  else if 0x200400 ≤ a ∧ a < 0x204000 then true
  else mayWrite m

/-- A register's value as the device takes it (R55, R377): limits that the register's own text states. -/
def State.limited (s : State) (a : Nat) (w : Word) : Word :=
  if a = 0x10001C then BitVec.ofNat 32 (min 100000 (max 500 w.toNat))
  else if a = 0x124 ∧ signed 8 (w.toNat % 256) > s.gradeMax then BitVec.ofNat 32 s.gradeMax.toNat
  else w

/-- Stores a word into the live fields of a register (R6): RW and LK fields take it, LK ones while their block's lock bit is 0; a 1 clears a
W1C bit. WO data words are kept for the command that takes them; TIM_INC_FRAC holds its word until INC_COMMIT (R259). -/
def State.storeWord (s : State) (m : Master) (a : Nat) (r : RegRow) (w : Word) : State :=
  let k := s.selKey a
  let own : Word := BitVec.ofNat 32 (ownBits a)
  let bitsFor := fun (p : Access → Bool) => BitVec.ofNat 32 (r.mask p) &&& ~~~own
  let qp := decide (0x201000 ≤ a) && decide (a < 0x202000) && decide (a % 0x40 = 0x18)
  if a = 0x400038 then { s with tim := { s.tim with incHeld := w.toNat } }
  else if 0x700010 ≤ a ∧ a < 0x70002C then (if s.shr.root.isSome then s else s.setReg a w)
  else if qp = true ∧ s.flag (F.mbxQpCfg_enable ((a - 0x201000) / 0x40)) = true then s
  else
    let locked := decide (s.fld F.rigLock_lock / 2 ^ lockBit a % 2 = 1)
    let rw := bitsFor (fun x => decide (x = .rw) || (decide (x = .lk) && !locked))
    let rw := if qp = true ∧ m ≠ 0 then rw &&& 0xBFFF00FF else rw
    let w1c := bitsFor (fun x => decide (x = .w1c))
    let old := s.reg k
    let t := s.setReg k (s.limited a ((old &&& ~~~rw &&& ~~~(w &&& w1c)) ||| (w &&& rw)))
    t

/-- Enters a word into the ST fields of a register (R6, R9, R50); bits of other codes keep their value. -/
def State.stageWord (s : State) (a : Nat) (r : RegRow) (w : Word) : State :=
  let k := s.selKey a
  let st : Word := BitVec.ofNat 32 (r.mask (fun x => decide (x = .st)))
  if st = 0 then s
  else s.stagingWrite (fun t => t.enterReg k ((t.stagedReg k &&& ~~~st) ||| (w &&& st)) true 0)

/-- The reserved bits of a register (R10). -/
def RegRow.reserved (r : RegRow) : Word := ~~~(BitVec.ofNat 32 (r.mask (fun _ => true)))

/-- A register write completes; a completed write returns no data. -/
def State.done (s : State) : State := { s with resp := { ur := false, data := [] } }

/-- A 32-bit write to a BAR0 register (R6, R10, R12, R405): none when a reserved bit is not 0, whose result is unpredictable. -/
def State.writeWord (s : State) (m : Master) (a : Nat) (w : Word) : Option State :=
  match s.resolve m a with
  | none => some s
  | some a =>
    if s.released (domainOf a) = false ∨ s.mayStore m a = false then some s
    else
      match RegMap.row? a with
      | none => some s
      | some r =>
        if (0x200800 ≤ a ∧ a < 0x200900) = False ∧ w &&& r.reserved ≠ 0 then none
        else
          match s.inUse a with
          | (true, some f) => some (s.setFld f 1)
          | (true, none) => some s
          | (false, _) => some ((s.storeWord m a r w).stageWord a r w)

/-- REGISTER_WRITE (R5, R6, R10, R405): an aligned 32-bit write, or an aligned 64-bit one as its lower word and then its higher word; any
other size or alignment completes with Unsupported Request. -/
def execRegisterWrite (s : State) (m : Master) (addr : BitVec 26) (size : BitVec 4) (data : BitVec 64) : Host.Outcome State Fault Refusal :=
  let a := addr.toNat
  if size = 4 ∧ a % 4 = 0 then
    match s.writeWord m a (data.setWidth 32) with
    | some t => .next t.done
    | none => .fault .unpredictable
  else if size = 8 ∧ a % 8 = 0 then
    match s.writeWord m a (data.setWidth 32) with
    | some t =>
      match t.writeWord m (a + 4) ((data >>> 32).setWidth 32) with
      | some u => .next u.done
      | none => .fault .unpredictable
    | none => .fault .unpredictable
  else .next { s with resp := { ur := true, data := [] } }

/-- STAGING_WRITE (R9, R50): a write to the ST fields of a register enters the staged set. A write that holds nothing staged has no effect. -/
def execStagingWrite (s : State) (m : Master) (addr : BitVec 26) (data : Word) : Host.Outcome State Fault Refusal :=
  let a := addr.toNat
  if a % 4 ≠ 0 then .next { s with resp := { ur := true, data := [] } }
  else if mayWrite m = false ∨ s.released (domainOf a) = false then .next s.done
  else
    match RegMap.row? a with
    | none => .next s.done
    | some r => if data &&& r.reserved ≠ 0 then .fault .unpredictable else .next (s.stageWord a r data).done

/-! ### Reads -/

/-- The rows of registers that hold the lower word of a value of more than 32 bits, with the higher word in the next register (R11). -/
def lowRows : List Nat :=
  [0x100010, 0x100060, 0x100068, 0x201000, 0x201008, 0x201010, 0x208000, 0x300008, 0x400018, 0x400028, 0x4000B0, 0x50001C, 0x700208, 0x700210,
   0x1000010, 0x1000020, 0x1000118, 0x14000CC, 0x1410024, 0x141002C, 0x1800310, 0x1800318, 0x1A00044, 0x2000204, 0x2000228]

/-- The address holds a lower word (R11). -/
def isLow (a : Nat) : Bool :=
  match RegMap.row? a with
  | some r => lowRows.contains r.base || (decide (r.base = 0x800010 ∨ r.base = 0x800018) && decide (a % 8 = 0))
  | none => false

/-- A 32-bit read (R6, R11): a word latched for the master, used up by the read; else the register's value, and a lower word latches the
higher. -/
def State.readReg (s : State) (m : Master) (a : Nat) : State × Word :=
  match Tbl.find s.latches (latchKey m a) none with
  | some w => ({ s with latches := Tbl.del s.latches (latchKey m a) }, w)
  | none =>
    let v := s.view m a
    let t := if a = 0x400 then s.tickFree else s
    (if isLow a then t.latch m (a + 4) (t.view m (a + 4)).toNat else t, v)

/-- LOW_WORD_READ (R5, R11): a read of a register. The lower word of a two-word value latches the higher one for the reader; a read of the
higher word returns and uses up what was latched. -/
def execLowWordRead (s : State) (m : Master) (addr : BitVec 26) : Host.Outcome State Fault Refusal :=
  if addr.toNat % 4 ≠ 0 then .next { s with resp := { ur := true, data := [] } }
  else
    match s.resolve m addr.toNat with
    | none => .next (s.reply [0])
    | some a =>
      let r := s.readReg m a
      .next (r.1.reply [r.2.toNat])

/-- What an RC field of a register holds after a read has cleared it (R404): a count of events 0, a tracked extreme the quantity's present
value, an extreme of values that arise at events its reset value. -/
def State.clearRc (s : State) (a : Nat) : State :=
  if a = 0x1C00090 then s.setFld F.fabXbarErr_retries 0
  else if a = 0x8A400C then (s.setFld F.laneSlRm_del 0).setFld F.laneSlRm_ins 0
  else if a = 0x60001C then s.setFld F.mateHb_lost 0
  else if a = 0x118 then s.setFld F.glbSupReef_entries 0
  else if a = 0x260 then s.setFld F.glbRatPool_low_water (s.fld F.glbRatPool_free)
  else if a = 0x1400048 then s.setFld F.halTtSts_low_free (s.fld F.halTtSts_free)
  else if a = 0x1C00048 then
    let k := s.fld F.fabPoolSel_pool
    if k = 7 then s else s.setPool k { s.poolOf k with low := s.poolFree k }
  else if a = 0x114 then s.setFld F.glbSupVmin_vmin s.sup.vddCore
  else if a = 0x120 then s.setFld F.glbTherm_tj_max (s.fld F.glbTherm_tj)
  else if a = 0x204 then s.setFld F.glbPaceFab_worst_ps 0
  else if a = 0x208 then s.setFld F.glbPacePrs_worst_ps 0
  else if a = 0x20C then s.setFld F.glbPaceHal_worst_lead 0xFFFF
  else if 0x1410000 ≤ a ∧ a < 0x1420000 ∧ a % 0x100 = 0x0C then s.setFld (F.halChLead_worst_lead ((a - 0x1410000) / 0x100)) 0xFFFF
  else if 0x800000 ≤ a ∧ a < 0x8A2400 ∧ a % 0x400 = 8 then
    s.setFld (F.laneFom_fom_min ((a - 0x800000) / 0x400)) (s.fld (F.laneFom_fom ((a - 0x800000) / 0x400)))
  else s

/-- RC_FIELD_READ (R6, R8, R404): returns the register and clears its RC fields as their kind gives. -/
def execRcFieldRead (s : State) (m : Master) (addr : BitVec 26) : Host.Outcome State Fault Refusal :=
  let a := addr.toNat
  if a % 4 ≠ 0 then .next { s with resp := { ur := true, data := [] } }
  else if reaches m = false ∨ s.released (domainOf a) = false then .next (s.reply [0])
  else .next ((s.clearRc a).reply [(s.view m a).toNat])

end Sys2Proof.Machine
end

