-- ==== Sys2Proof/Machine/Dispatch.lean ====
section
/-! DEFINITION. The dispatch: one arm for each command. -/

namespace Sys2Proof.Machine

/-- The effect of a command on everything but the queue. -/
def exec (i : Instr) (s : State) : Host.Outcome State Fault Refusal :=
  match i with
  | .registerWrite m addr size data => Sys2Proof.Machine.execRegisterWrite s m addr size data
  | .rcFieldRead m addr => Sys2Proof.Machine.execRcFieldRead s m addr
  | .lowWordRead m addr => Sys2Proof.Machine.execLowWordRead s m addr
  | .lockWrite m bits => Sys2Proof.Machine.execLockWrite s m bits
  | .stagingWrite m addr data => Sys2Proof.Machine.execStagingWrite s m addr data
  | .check_ m => Sys2Proof.Machine.execCheck s m
  | .checkDone => Sys2Proof.Machine.execCheckDone s
  | .apply_ m sched => Sys2Proof.Machine.execApply s m sched
  | .abort_ m => Sys2Proof.Machine.execAbort s m
  | .discard m => Sys2Proof.Machine.execDiscard s m
  | .rerig m region slot => Sys2Proof.Machine.execRerig s m region slot
  | .rerigDone => Sys2Proof.Machine.execRerigDone s
  | .confirm m => Sys2Proof.Machine.execConfirm s m
  | .attest m => Sys2Proof.Machine.execAttest s m
  | .attestDone => Sys2Proof.Machine.execAttestDone s
  | .fuseOwner m => Sys2Proof.Machine.execFuseOwner s m
  | .loadTrim m => Sys2Proof.Machine.execLoadTrim s m
  | .loadSlot m => Sys2Proof.Machine.execLoadSlot s m
  | .loadSlotDone img flashOk => Sys2Proof.Machine.execLoadSlotDone s img flashOk
  | .drainEnd us => Sys2Proof.Machine.execDrainEnd s us
  | .drainForced => Sys2Proof.Machine.execDrainForced s
  | .schedTimeReached => Sys2Proof.Machine.execSchedTimeReached s
  | .trialExpiring => Sys2Proof.Machine.execTrialExpiring s
  | .trialExpiry => Sys2Proof.Machine.execTrialExpiry s
  | .powerOnReset => Sys2Proof.Machine.execPowerOnReset s
  | .supplyReset supplies mv => Sys2Proof.Machine.execSupplyReset s supplies mv
  | .supplyResetRelease => Sys2Proof.Machine.execSupplyResetRelease s
  | .perstAssert => Sys2Proof.Machine.execPerstAssert s
  | .hostReset m => Sys2Proof.Machine.execHostReset s m
  | .pfFlr => Sys2Proof.Machine.execPfFlr s
  | .startupPhaseEnd ms => Sys2Proof.Machine.execStartupPhaseEnd s ms
  | .thermalSensorRead tj => Sys2Proof.Machine.execThermalSensorRead s tj
  | .thermalResetRelease => Sys2Proof.Machine.execThermalResetRelease s
  | .reefEnter mv => Sys2Proof.Machine.execReefEnter s mv
  | .reefExit low now ns => Sys2Proof.Machine.execReefExit s low now ns
  | .vddAuxLow => Sys2Proof.Machine.execVddAuxLow s
  | .vddAuxResume => Sys2Proof.Machine.execVddAuxResume s
  | .unretire m => Sys2Proof.Machine.execUnretire s m
  | .marchTestDone passed => Sys2Proof.Machine.execMarchTestDone s passed
  | .retRead m => Sys2Proof.Machine.execRetRead s m
  | .paceWindowEnd fab prs lead => Sys2Proof.Machine.execPaceWindowEnd s fab prs lead
  | .channelCtrlWrite m c enable txOff => Sys2Proof.Machine.execChannelCtrlWrite s m c enable txOff
  | .ploamFlush m c => Sys2Proof.Machine.execPloamFlush s m c
  | .chStartRunning c => Sys2Proof.Machine.execChStartRunning s c
  | .chReadyTimeout c => Sys2Proof.Machine.execChReadyTimeout s c
  | .moduleTxFault c => Sys2Proof.Machine.execModuleTxFault s c
  | .moduleAbsent c => Sys2Proof.Machine.execModuleAbsent s c
  | .quadRefUnlock q => Sys2Proof.Machine.execQuadRefUnlock s q
  | .chFaultRetry c => Sys2Proof.Machine.execChFaultRetry s c
  | .chFrameEndOff c => Sys2Proof.Machine.execChFrameEndOff s c
  | .ponFrameStart c => Sys2Proof.Machine.execPonFrameStart s c
  | .mapCaptureArm m c => Sys2Proof.Machine.execMapCaptureArm s m c
  | .xgemEncapsulate c ecc keyEcc edgeBad => Sys2Proof.Machine.execXgemEncapsulate s c ecc keyEcc edgeBad
  | .ploamOffer c q msg poison => Sys2Proof.Machine.execPloamOffer s c q msg poison
  | .contextUpdate u poison => Sys2Proof.Machine.execContextUpdate s u poison
  | .flwReadApplied m c ecc => Sys2Proof.Machine.execFlwReadApplied s m c ecc
  | .flwReadStaged m c => Sys2Proof.Machine.execFlwReadStaged s m c
  | .flwWriteStaged m c => Sys2Proof.Machine.execFlwWriteStaged s m c
  | .burstReceive c b => Sys2Proof.Machine.execBurstReceive s c b
  | .upstreamPacketIngress c fits ecc keyEcc => Sys2Proof.Machine.execUpstreamPacketIngress s c fits ecc keyEcc
  | .reasmTimeout c a => Sys2Proof.Machine.execReasmTimeout s c a
  | .rxLosHeld c pin => Sys2Proof.Machine.execRxLosHeld s c pin
  | .rogueObservation c gap offset passed => Sys2Proof.Machine.execRogueObservation s c gap offset passed
  | .rogueClear c => Sys2Proof.Machine.execRogueClear s c
  | .aisFrameTimer onu => Sys2Proof.Machine.execAisFrameTimer s onu
  | .pmSecondEnd onu throughout ecc => Sys2Proof.Machine.execPmSecondEnd s onu throughout ecc
  | .uflReadApplied m c ecc => Sys2Proof.Machine.execUflReadApplied s m c ecc
  | .uflReadStaged m c => Sys2Proof.Machine.execUflReadStaged s m c
  | .uflWriteStaged m c => Sys2Proof.Machine.execUflWriteStaged s m c
  | .uonuReadApplied m c ecc => Sys2Proof.Machine.execUonuReadApplied s m c ecc
  | .uonuReadStaged m c => Sys2Proof.Machine.execUonuReadStaged s m c
  | .uonuWriteStaged m c => Sys2Proof.Machine.execUonuWriteStaged s m c
  | .uonuClearPreset m c => Sys2Proof.Machine.execUonuClearPreset s m c
  | .openDisc via c args => Sys2Proof.Machine.execOpenDisc s via c args
  | .closeDisc via c args => Sys2Proof.Machine.execCloseDisc s via c args
  | .create via c args => Sys2Proof.Machine.execCreate s via c args
  | .assign via c args => Sys2Proof.Machine.execAssign s via c args
  | .range_ via c args => Sys2Proof.Machine.execRange s via c args
  | .activate via c args => Sys2Proof.Machine.execActivate s via c args
  | .setEqd via c args => Sys2Proof.Machine.execSetEqd s via c args
  | .deactivate via c args => Sys2Proof.Machine.execDeactivate s via c args
  | .release via c args => Sys2Proof.Machine.execRelease s via c args
  | .abortRange via c args => Sys2Proof.Machine.execAbortRange s via c args
  | .ratRead via c args ecc => Sys2Proof.Machine.execRatRead s via c args ecc
  | .discAnswer c a => Sys2Proof.Machine.execDiscAnswer s c a
  | .discSpanEnd c energy => Sys2Proof.Machine.execDiscSpanEnd s c energy
  | .discWindowEnd c => Sys2Proof.Machine.execDiscWindowEnd s c
  | .rangeMeasured onu offset content => Sys2Proof.Machine.execRangeMeasured s onu offset content
  | .rangeTriesExhausted onu => Sys2Proof.Machine.execRangeTriesExhausted s onu
  | .chLeftBoundary c => Sys2Proof.Machine.execChLeftBoundary s c
  | .rangeUpdateTimeout onu => Sys2Proof.Machine.execRangeUpdateTimeout s onu
  | .onuLost onu => Sys2Proof.Machine.execOnuLost s onu
  | .mapBuildStart c bad => Sys2Proof.Machine.execMapBuildStart s c bad
  | .mapLateDeadline c => Sys2Proof.Machine.execMapLateDeadline s c
  | .mapVerdict c wrong d => Sys2Proof.Machine.execMapVerdict s c wrong d
  | .statusReportTaken => Sys2Proof.Machine.execStatusReportTaken s
  | .telltaleFrame => Sys2Proof.Machine.execTelltaleFrame s
  | .alcReadApplied m ecc => Sys2Proof.Machine.execAlcReadApplied s m ecc
  | .alcReadStaged m => Sys2Proof.Machine.execAlcReadStaged s m
  | .alcWriteStaged m => Sys2Proof.Machine.execAlcWriteStaged s m
  | .alcClearDynamic m => Sys2Proof.Machine.execAlcClearDynamic s m
  | .uplinkPacketIngress p bytes fcsOk fits stamp sec ecc => Sys2Proof.Machine.execUplinkPacketIngress s p bytes fcsOk fits stamp sec ecc
  | .packetParse src bad reads => Sys2Proof.Machine.execPacketParse s src bad reads
  | .learnProcess reads => Sys2Proof.Machine.execLearnProcess s reads
  | .agerVisit loc ecc shadowOk => Sys2Proof.Machine.execAgerVisit s loc ecc shadowOk
  | .readSlot m ecc shadowOk => Sys2Proof.Machine.execReadSlot s m ecc shadowOk
  | .lookup m reads => Sys2Proof.Machine.execLookup s m reads
  | .lookupStaged m => Sys2Proof.Machine.execLookupStaged s m
  | .insertStatic m => Sys2Proof.Machine.execInsertStatic s m
  | .deleteStatic m => Sys2Proof.Machine.execDeleteStatic s m
  | .deleteDynamic m => Sys2Proof.Machine.execDeleteDynamic s m
  | .unpin m => Sys2Proof.Machine.execUnpin s m
  | .flush m scope => Sys2Proof.Machine.execFlush s m scope
  | .ruleReadApplied m ecc copyBad => Sys2Proof.Machine.execRuleReadApplied s m ecc copyBad
  | .ruleReadStaged m => Sys2Proof.Machine.execRuleReadStaged s m
  | .ruleWriteStaged m => Sys2Proof.Machine.execRuleWriteStaged s m
  | .ruleZeroData m => Sys2Proof.Machine.execRuleZeroData s m
  | .lagReadApplied m ecc copyBad => Sys2Proof.Machine.execLagReadApplied s m ecc copyBad
  | .lagReadStaged m => Sys2Proof.Machine.execLagReadStaged s m
  | .lagWriteStaged m => Sys2Proof.Machine.execLagWriteStaged s m
  | .lagReturn l p => Sys2Proof.Machine.execLagReturn s l p
  | .fabricIngress src => Sys2Proof.Machine.execFabricIngress s src
  | .cellSlot retry lost => Sys2Proof.Machine.execCellSlot s retry lost
  | .egressEnqueue d late => Sys2Proof.Machine.execEgressEnqueue s d late
  | .spillBurstWrite f => Sys2Proof.Machine.execSpillBurstWrite s f
  | .refill f tagBad poison => Sys2Proof.Machine.execRefill s f tagBad poison
  | .bufferAlloc agent family size flow mayWait ptrBad => Sys2Proof.Machine.execBufferAlloc s agent family size flow mayWait ptrBad
  | .bufferFree agent pool ptr bitBad => Sys2Proof.Machine.execBufferFree s agent pool ptr bitBad
  | .portLinkLoss p => Sys2Proof.Machine.execPortLinkLoss s p
  | .portLinkUp p => Sys2Proof.Machine.execPortLinkUp s p
  | .portHoldTimeout p => Sys2Proof.Machine.execPortHoldTimeout s p
  | .sheetPick p poison retired bad saEcc => Sys2Proof.Machine.execSheetPick s p poison retired bad saEcc
  | .calendarSlot slot => Sys2Proof.Machine.execCalendarSlot s slot
  | .gateEntryChange u => Sys2Proof.Machine.execGateEntryChange s u
  | .gateListActive u => Sys2Proof.Machine.execGateListActive s u
  | .pfcRefresh p => Sys2Proof.Machine.execPfcRefresh s p
  | .pfcFrameReceived p en quanta => Sys2Proof.Machine.execPfcFrameReceived s p en quanta
  | .pfcPauseExpiry p c => Sys2Proof.Machine.execPfcPauseExpiry s p c
  | .pfcStorm p c => Sys2Proof.Machine.execPfcStorm s p c
  | .nodeReadApplied m ecc copyBad => Sys2Proof.Machine.execNodeReadApplied s m ecc copyBad
  | .nodeReadStaged m => Sys2Proof.Machine.execNodeReadStaged s m
  | .nodeWriteStaged m => Sys2Proof.Machine.execNodeWriteStaged s m
  | .nodeZeroData m => Sys2Proof.Machine.execNodeZeroData s m
  | .qsRead m => Sys2Proof.Machine.execQsRead s m
  | .qsReadClear m => Sys2Proof.Machine.execQsReadClear s m
  | .uplinkFrameSent p stamp => Sys2Proof.Machine.execUplinkFrameSent s p stamp
  | .rootLoad m data => Sys2Proof.Machine.execRootLoad s m data
  | .mskLoad m => Sys2Proof.Machine.execMskLoad s m
  | .keyLoad m ecc => Sys2Proof.Machine.execKeyLoad s m ecc
  | .keyClear m => Sys2Proof.Machine.execKeyClear s m
  | .groupGen m => Sys2Proof.Machine.execGroupGen s m
  | .groupExport m ecc => Sys2Proof.Machine.execGroupExport s m ecc
  | .groupActivate m => Sys2Proof.Machine.execGroupActivate s m
  | .groupKeySwitch c => Sys2Proof.Machine.execGroupKeySwitch s c
  | .caKekLoad m => Sys2Proof.Machine.execCaKekLoad s m
  | .saInstall m => Sys2Proof.Machine.execSaInstall s m
  | .saExport m ecc => Sys2Proof.Machine.execSaExport s m ecc
  | .saDelete m => Sys2Proof.Machine.execSaDelete s m
  | .setTxAn m => Sys2Proof.Machine.execSetTxAn s m
  | .saveClear m ecc => Sys2Proof.Machine.execSaveClear s m ecc
  | .saveWrapped m ecc => Sys2Proof.Machine.execSaveWrapped s m ecc
  | .restore m => Sys2Proof.Machine.execRestore s m
  | .pnRead m ecc => Sys2Proof.Machine.execPnRead s m ecc
  | .cipherLaneFault p unit => Sys2Proof.Machine.execCipherLaneFault s p unit
  | .set_ m => Sys2Proof.Machine.execSet s m
  | .adjust m => Sys2Proof.Machine.execAdjust s m
  | .setAtPps m => Sys2Proof.Machine.execSetAtPps s m
  | .ppsInEdge phase => Sys2Proof.Machine.execPpsInEdge s phase
  | .setAtPpsTimeout => Sys2Proof.Machine.execSetAtPpsTimeout s
  | .incCommit m ns => Sys2Proof.Machine.execIncCommit s m ns
  | .timeNowRead m => Sys2Proof.Machine.execTimeNowRead s m
  | .sfcRead m c => Sys2Proof.Machine.execSfcRead s m c
  | .tsqRead m u => Sys2Proof.Machine.execTsqRead s m u
  | .ppsiRead m => Sys2Proof.Machine.execPpsiRead s m
  | .ppsOutEdge => Sys2Proof.Machine.execPpsOutEdge s
  | .ppsInLoss => Sys2Proof.Machine.execPpsInLoss s
  | .todOutMessage => Sys2Proof.Machine.execTodOutMessage s
  | .todoArm m len => Sys2Proof.Machine.execTodoArm s m len
  | .todInByte b => Sys2Proof.Machine.execTodInByte s b
  | .todiRead m => Sys2Proof.Machine.execTodiRead s m
  | .todCalc m => Sys2Proof.Machine.execTodCalc s m
  | .dpllConfigWrite m e data => Sys2Proof.Machine.execDpllConfigWrite s m e data
  | .dpllLock e => Sys2Proof.Machine.execDpllLock s e
  | .dpllRefLoss e => Sys2Proof.Machine.execDpllRefLoss s e
  | .dpllRefReturn e => Sys2Proof.Machine.execDpllRefReturn s e
  | .laneReefRequest m k reef => Sys2Proof.Machine.execLaneReefRequest s m k reef
  | .laneRestart m k => Sys2Proof.Machine.execLaneRestart s m k
  | .laneReefEntered k => Sys2Proof.Machine.execLaneReefEntered s k
  | .laneLockAcquired k => Sys2Proof.Machine.execLaneLockAcquired s k
  | .adaptWindow k toggles fom c0 c1 => Sys2Proof.Machine.execAdaptWindow s k toggles fom c0 c1
  | .laneLockLoss k signal => Sys2Proof.Machine.execLaneLockLoss s k signal
  | .fomFailTimer k => Sys2Proof.Machine.execFomFailTimer s k
  | .slEnable m enable => Sys2Proof.Machine.execSlEnable s m enable
  | .slSyncBlock k w stuff empty skew => Sys2Proof.Machine.execSlSyncBlock s k w stuff empty skew
  | .heartbeatSend => Sys2Proof.Machine.execHeartbeatSend s
  | .heartbeatReceived h => Sys2Proof.Machine.execHeartbeatReceived s h
  | .heartbeatLoss => Sys2Proof.Machine.execHeartbeatLoss s
  | .contestTakeover => Sys2Proof.Machine.execContestTakeover s
  | .contestTimeout => Sys2Proof.Machine.execContestTimeout s
  | .seekTimeout => Sys2Proof.Machine.execSeekTimeout s
  | .manual m mateLockout => Sys2Proof.Machine.execManual s m mateLockout
  | .forceActive m => Sys2Proof.Machine.execForceActive s m
  | .lockoutSet m => Sys2Proof.Machine.execLockoutSet s m
  | .lockoutClr m => Sys2Proof.Machine.execLockoutClr s m
  | .resync m => Sys2Proof.Machine.execResync s m
  | .revertNow m => Sys2Proof.Machine.execRevertNow s m
  | .frameMessage f => Sys2Proof.Machine.execFrameMessage s f
  | .onuMessage o => Sys2Proof.Machine.execOnuMessage s o
  | .keysMessage h b => Sys2Proof.Machine.execKeysMessage s h b
  | .learnMessage h recs => Sys2Proof.Machine.execLearnMessage s h recs
  | .helloMessage h digest prec preferred => Sys2Proof.Machine.execHelloMessage s h digest prec preferred
  | .timingMessage h arrival departed d => Sys2Proof.Machine.execTimingMessage s h arrival departed d
  | .handoverMessage h sec ns => Sys2Proof.Machine.execHandoverMessage s h sec ns
  | .syncReq h => Sys2Proof.Machine.execSyncReq s h
  | .syncDone h => Sys2Proof.Machine.execSyncDone s h
  | .learnMessageSend => Sys2Proof.Machine.execLearnMessageSend s
  | .helloSend => Sys2Proof.Machine.execHelloSend s
  | .timingSend departure => Sys2Proof.Machine.execTimingSend s departure
  | .onuRoundRobinSend onu => Sys2Proof.Machine.execOnuRoundRobinSend s onu
  | .handoverBoundary => Sys2Proof.Machine.execHandoverBoundary s
  | .wtrExpiry => Sys2Proof.Machine.execWtrExpiry s
  | .epochDiffTimer => Sys2Proof.Machine.execEpochDiffTimer s
  | .matePathFault c => Sys2Proof.Machine.execMatePathFault s c
  | .scrubStart m mem => Sys2Proof.Machine.execScrubStart s m mem
  | .scrubAbort m => Sys2Proof.Machine.execScrubAbort s m
  | .scrubWord ecc rewritten => Sys2Proof.Machine.execScrubWord s ecc rewritten
  | .scrubDone us => Sys2Proof.Machine.execScrubDone s us
  | .narrowWrite mem ix bytes => Sys2Proof.Machine.execNarrowWrite s mem ix bytes
  | .mergeReadReturn mem ix ecc => Sys2Proof.Machine.execMergeReadReturn s mem ix ecc
  | .mergeEntryTimeout mem ix => Sys2Proof.Machine.execMergeEntryTimeout s mem ix
  | .flipArm m ctrl => Sys2Proof.Machine.execFlipArm s m ctrl
  | .weakEntryAge mem ix => Sys2Proof.Machine.execWeakEntryAge s mem ix
  | .spareCopyDone mem bank bad => Sys2Proof.Machine.execSpareCopyDone s mem bank bad
  | .hpprDone stack row => Sys2Proof.Machine.execHpprDone s stack row
  | .dramTempRead stack temp => Sys2Proof.Machine.execDramTempRead s stack temp
  | .flashScan slot block corrected bad => Sys2Proof.Machine.execFlashScan s slot block corrected bad
  | .flashRefresh block => Sys2Proof.Machine.execFlashRefresh s block
  | .journalWrite verified => Sys2Proof.Machine.execJournalWrite s verified
  | .jnlRead m crcOk => Sys2Proof.Machine.execJnlRead s m crcOk
  | .mastCoreRestart core => Sys2Proof.Machine.execMastCoreRestart s core
  | .txDoorbell m q tail => Sys2Proof.Machine.execTxDoorbell s m q tail
  | .rxDoorbell m q tail => Sys2Proof.Machine.execRxDoorbell s m q tail
  | .txDescriptorFetch q d acc => Sys2Proof.Machine.execTxDescriptorFetch s q d acc
  | .rxPacketDeliver q d micOk acc => Sys2Proof.Machine.execRxPacketDeliver s q d micOk acc
  | .dmaQpError q cause => Sys2Proof.Machine.execDmaQpError s q cause
  | .qpEnable m q => Sys2Proof.Machine.execQpEnable s m q
  | .qpDisable m q => Sys2Proof.Machine.execQpDisable s m q
  | .qpStopDone q => Sys2Proof.Machine.execQpStopDone s q
  | .qpOwnerWrite m q owner => Sys2Proof.Machine.execQpOwnerWrite s m q owner
  | .vfFlr vf => Sys2Proof.Machine.execVfFlr s vf
  | .flrDone vf => Sys2Proof.Machine.execFlrDone s vf
  | .eventEntryWrite => Sys2Proof.Machine.execEventEntryWrite s
  | .vectorHoldoffEnd v => Sys2Proof.Machine.execVectorHoldoffEnd s v
  | .evqEnable m => Sys2Proof.Machine.execEvqEnable s m
  | .evqDisable m => Sys2Proof.Machine.execEvqDisable s m
  | .evqHeadWrite m head => Sys2Proof.Machine.execEvqHeadWrite s m head
  | .mbxTxWrite m c side w => Sys2Proof.Machine.execMbxTxWrite s m c side w
  | .mbxRxRead m c side => Sys2Proof.Machine.execMbxRxRead s m c side
  | .getInfo c side core => Sys2Proof.Machine.execGetInfo s c side core
  | .lockRead m l => Sys2Proof.Machine.execLockRead s m l
  | .lockRelease m l => Sys2Proof.Machine.execLockRelease s m l
  | .lockForce m l => Sys2Proof.Machine.execLockForce s m l
  | .chainSet m => Sys2Proof.Machine.execChainSet s m
  | .chainClear m => Sys2Proof.Machine.execChainClear s m
  | .snapStart m => Sys2Proof.Machine.execSnapStart s m
  | .snapAbort m => Sys2Proof.Machine.execSnapAbort s m
  | .snapDone => Sys2Proof.Machine.execSnapDone s
  | .i2cWrite m k dev reg count => Sys2Proof.Machine.execI2cWrite s m k dev reg count
  | .i2cRead m k dev reg count => Sys2Proof.Machine.execI2cRead s m k dev reg count
  | .i2cWriteByte m k dev reg => Sys2Proof.Machine.execI2cWriteByte s m k dev reg
  | .i2cDone k result data => Sys2Proof.Machine.execI2cDone s k result data
  | .perstDeassert => Sys2Proof.Machine.execPerstDeassert s
  | .timeBaseTick => Sys2Proof.Machine.execTimeBaseTick s
  | .loadTrimDone recs => Sys2Proof.Machine.execLoadTrimDone s recs
  | .rowRemapDone stack row ppr => Sys2Proof.Machine.execRowRemapDone s stack row ppr

end Sys2Proof.Machine
end

