-- ==== Sys2Proof/Safety.lean ====
section
/-! DEFINITION. The terms the claims use: what a command leaves unchanged, and what a sound state of the block is. -/

namespace Sys2Proof.Safety

open Sys2Proof.Machine

/-- The parts of a state, one for each field of State. -/
inductive Part where
  | pending | regs | staged | recs | stagedRecs | stagedLog | latches | resp | freeIx | hostMem
  | cnt | chain | evq | mbx | qp | snap | rig | sup | tim | mem
  | ds | us | disc | onu | hal | prevRegs | prevRecs | prs | fwd | toParse
  | parsed | rxq | pktNo | mate | lanes | shr | fab | sht | fw | out
deriving DecidableEq, Repr

/-- A part is the same in two states. -/
def Part.Same (s t : State) : Part → Prop
  | .pending => t.pending = s.pending
  | .regs => t.regs = s.regs
  | .staged => t.staged = s.staged
  | .recs => t.recs = s.recs
  | .stagedRecs => t.stagedRecs = s.stagedRecs
  | .stagedLog => t.stagedLog = s.stagedLog
  | .latches => t.latches = s.latches
  | .resp => t.resp = s.resp
  | .freeIx => t.freeIx = s.freeIx
  | .hostMem => t.hostMem = s.hostMem
  | .cnt => t.cnt = s.cnt
  | .chain => t.chain = s.chain
  | .evq => t.evq = s.evq
  | .mbx => t.mbx = s.mbx
  | .qp => t.qp = s.qp
  | .snap => t.snap = s.snap
  | .rig => t.rig = s.rig
  | .sup => t.sup = s.sup
  | .tim => t.tim = s.tim
  | .mem => t.mem = s.mem
  | .ds => t.ds = s.ds
  | .us => t.us = s.us
  | .disc => t.disc = s.disc
  | .onu => t.onu = s.onu
  | .hal => t.hal = s.hal
  | .prevRegs => t.prevRegs = s.prevRegs
  | .prevRecs => t.prevRecs = s.prevRecs
  | .prs => t.prs = s.prs
  | .fwd => t.fwd = s.fwd
  | .toParse => t.toParse = s.toParse
  | .parsed => t.parsed = s.parsed
  | .rxq => t.rxq = s.rxq
  | .pktNo => t.pktNo = s.pktNo
  | .mate => t.mate = s.mate
  | .lanes => t.lanes = s.lanes
  | .shr => t.shr = s.shr
  | .fab => t.fab = s.fab
  | .sht => t.sht = s.sht
  | .fw => t.fw = s.fw
  | .out => t.out = s.out

/-- Every part of the state but the listed ones is unchanged. -/
def FrameBut (l : List Part) (s t : State) : Prop := ∀ p, p ∉ l → p.Same s t

/-- Every register but the listed ones reads as before. -/
def RegsBut (l : List Nat) (s t : State) : Prop := ∀ a, a ∉ l → t.reg a = s.reg a

/-- Two fields share no bit. -/
def Apart (f g : Fld) : Prop := g.addr ≠ f.addr ∨ g.lo + g.width ≤ f.lo ∨ f.lo + f.width ≤ g.lo

/-- Every register bit outside the listed fields reads as before: any field apart from them has its value. -/
def FldsBut (l : List Fld) (s t : State) : Prop := ∀ g, (∀ f ∈ l, Apart f g) → t.fld g = s.fld g

/-- An event with its data is posted in passing from s to t (R348, R349): the event queue, the counters of the event and the journal are as
posting it at s leaves them. -/
def Posted (s t : State) (code : Nat) (data : List Nat) : Prop :=
  t.evq = (s.post code data).evq ∧ t.cnt = (s.post code data).cnt ∧ t.mem = (s.post code data).mem

/-- A byte of host memory as the device left it; none where it never wrote. -/
def hostByte (s : State) (a : Nat) : Option Byte := Tbl.find s.hostMem a none

/-- Host memory holds the bytes from an address on. -/
def HostHas (s : State) (a : Nat) (l : List Nat) : Prop := ∀ j, j < l.length → hostByte s (a + j) = some (BitVec.ofNat 8 (l.getD j 0))

/-- Every byte of host memory outside the n bytes at address a is as before. -/
def HostBut (a n : Nat) (s t : State) : Prop := ∀ x, x < a ∨ a + n ≤ x → hostByte t x = hostByte s x

/-- A Ratline command through the window or a firmware message is taken with arguments a: it may be sent, its buffer is clean and the channel is
not in STANDBY (R127, R129, R321). -/
def RatTaken (s : State) (via : Option Master) (k : Nat) (args a : RatArgs) : Prop :=
  s.ratOpen via = true ∧ s.ratArgs via k args = a ∧ a.poison = false ∧ s.ch k ≠ 4

/-- A Ratline command reports result r: in PCH_RAT_CMD, or in the completion message to firmware. -/
def RatSays (s t : State) (via : Option Master) (k op ctx r : Nat) : Prop :=
  match via with
  | some _ => t.fld (F.pchRatCmd_result k) = r ∧ t.fw = s.fw
  | none => t.fw = s.fw ++ [{ kind := 9, chan := k, words := [op, ctx, r] }]

/-- The slots of a list hold neither poison nor a flipped bit. -/
def SlotsClean (s : State) (l : List Nat) : Prop :=
  ∀ x ∈ l, s.poisoned (slotWord x).1 (slotWord x).2 = false ∧ Tbl.find s.mem.flipped (memKey (slotWord x).1 (slotWord x).2) 0 = 0

/-- A command of the SHR window may run for master m: it may write SHR, whose domain is out of reset. -/
def ShrOpen (s : State) (m : Master) : Prop := mayWrite m = true ∧ s.released 5 = true

/-- A record holds neither poison nor a flipped bit. -/
def RecClean (s : State) (mem kind ix : Nat) : Prop :=
  s.poisoned mem (Config.wordIx mem kind ix) = false ∧ Tbl.find s.mem.flipped (memKey mem (Config.wordIx mem kind ix)) 0 = 0

/-- A command x of the SHR window ends with result r and no other effect but that its master is noted (R251). -/
def ShrEnds (x : Instr) (m : Master) (s : State) (r : Nat) : Prop :=
  ∃ t, exec x s = .next t ∧ t.fld F.shrCmd_result = r ∧ t.shr = { s.shr with issuer := some m.toNat } ∧ FldsBut [F.shrCmd_result] s t ∧ FrameBut [.regs, .shr] s t

/-- A key command x completes: Shroud becomes h but for its caches, of which P tells; a mirroring part sends one KEYS message (R306). -/
def ShrDone (x : Instr) (m : Master) (s : State) (h : ShrSt) (P : State → Prop) : Prop :=
  ∃ t, exec x s = .next t ∧ t.fld F.shrCmd_result = 0 ∧ t.shr = { h with issuer := some m.toNat, cache := t.shr.cache } ∧ P t ∧ FldsBut [F.shrCmd_result] s t ∧
    (s.mirroring = false ∨ s.linkUp = false ∨ s.shr.root = none → FrameBut [.regs, .shr] s t) ∧
    (s.mirroring = true → s.linkUp = true → s.shr.root ≠ none → (∃ b, b.length = 16 ∧ t.out = s.out ++ [.stay 0x12 s.mate.seqTx b]) ∧
      t.mate = { s.mate with seqTx := (s.mate.seqTx + 1) % 2 ^ 32 } ∧ FrameBut [.regs, .shr, .freeIx, .cnt, .mate, .out] s t)

/-- A Stay message is received in sequence, its tag good and its type assigned, while the link is up (R292). -/
def MsgInOrder (s : State) (h : MsgHdr) : Prop :=
  s.linkUp = true ∧ h.tagOk = true ∧ h.typOk = true ∧ ∀ p, s.mate.seqRx = some p → h.seq = (p + 1) % 2 ^ 32

/-- The host memory written so far keeps its canonical form. -/
def HostMemOk (s : State) : Prop := Tbl.wf s.hostMem (fun _ => none) = true

/-- The counters keep their canonical form and each holds 48 bits (R357). -/
def CountersOk (s : State) : Prop :=
  Tbl.wf s.cnt (fun _ => 0) = true ∧ ∀ k : Nat, Tbl.find s.cnt k 0 < 2 ^ 48

/-- The invariant that every command keeps. -/
def Inv (s : State) : Prop := HostMemOk s ∧ CountersOk s

end Sys2Proof.Safety
end

