-- ==== Sys2Proof/Certificates/Slice0/Obligations.lean ====
section
/-! DEFINITION. The statements for the provers, one definition each, in the order of OBLIGATIONS.json. -/

open Sys2Proof Sys2Proof.Machine Sys2Proof.Safety

/-- A step of a state with command c at the front of its queue is exec of c on the state with the queue's rest; with an empty queue the block idles and the state stands (the model's choice, log entry 1). -/
def Obligations.stepRunsFront : Prop :=
  (∀ (c : Instr) (l : List Instr) (s : State), step { s with pending := c :: l } = exec c { s with pending := l }) ∧ (∀ s : State, s.pending = [] → step s = .next s)

/-- No command changes the queue or the grade, and none is refused. The fused owner hash, once there, never changes, and only FUSE_OWNER makes it (R44, R60). The only stop is the unpredictable result of a nonzero reserved bit (R12), in a write of a register, of staged fields or of a DPLL's configuration; a write whose word is 0 never stops. Where a clause rests on a reading or a choice of the model, it is one of log entries 5, 29. -/
def Obligations.whatNoCommandChanges : Prop :=
  (∀ (c : Instr) (s : State) (r : Refusal), exec c s ≠ .refused r) ∧
  (∀ (c : Instr) (s : State) (f : Fault), exec c s = .fault f → f = .unpredictable ∧
    ((∃ m a n d, c = .registerWrite m a n d ∧ d ≠ 0) ∨ (∃ m a d, c = .stagingWrite m a d ∧ d ≠ 0) ∨ (∃ m e d, c = .dpllConfigWrite m e d ∧ d ≠ 0))) ∧
  (∀ (c : Instr) (s t : State), exec c s = .next t → t.pending = s.pending ∧ t.sup.gradeH = s.sup.gradeH ∧
    (s.rig.ownerHash ≠ none → t.rig.ownerHash = s.rig.ownerHash) ∧ ((∀ m, c ≠ .fuseOwner m) → t.rig.ownerHash = s.rig.ownerHash))

/-- The state after reset: no command waits; every domain but AON is held in reset (R373); the time base reads 0 with the nominal increment (R258); no event, counter, memory byte, table entry or packet is there (R349, R357); the registers hold the reset values that the register tables give, of which some are named here (R403); and the invariant of the next statement holds. Where a clause rests on a reading or a choice of the model, it is one of log entries 6, 7. -/
def Obligations.resetState : Prop :=
  let s := State.reset
  s.pending = [] ∧ (∀ d, 1 ≤ d → d ≤ 7 → s.released d = false) ∧ s.released 0 = true ∧
  s.tim.sec = 0 ∧ s.tim.ns = 0 ∧ s.tim.frac = 0 ∧ s.tim.incNs = 1 ∧ s.tim.incFrac = 0x99999999 ∧
  s.hostMem = [] ∧ s.cnt = [] ∧ s.evq.raised = [] ∧ s.evq.seq = 0 ∧ s.out = [] ∧ s.onu = [] ∧ s.fwd.slots = [] ∧ s.recs = [] ∧ s.staged = [] ∧ s.shr.root = none ∧ s.sup.retired = [] ∧
  (∀ x ∈ [(0x114, 0xFFFF), (0x144, 0x000A0003), (0x10001C, 0x3E8), (0x400038, 0x99999999), (0x500040, 0x003C0004), (0x700000, 0x00080000), (0x700044, 0x01000000), (0x70000C, 0x18),
    (0x80000C, 0x1008800C), (0x800020, 0x84200000), (0x800028, 0xC80), (0x1A00000, 3), (0x1A00008, 0x03E80008), (0x2000010, 0x0014FFFF), (0x600000, 0), (0x1000010, 0)],
    (s.reg x.1).toNat = x.2) ∧ Inv s

/-- From every state in which the counters hold at most 48 bits each, in canonical form (R357, R358), and the host memory that the device wrote is in its canonical form (R341), every step that answers a next state keeps both, whatever the command. Where a clause rests on a reading or a choice of the model, it is one of log entries 12, 57. -/
def Obligations.stepKeepsInv : Prop := ∀ s t : State, Inv s → step s = .next t → Inv t

/-- No register is allocated in the ULK range, 0x0280_0000 to 0x03FF_FFFF. A read of any aligned address in it returns 0, and a write of any aligned word or pair of words changes nothing, staged or live. The lock bit that guards a register is never bit 15 of RIG_LOCK, so that bit has no effect. -/
def Obligations.ulkRangeIsEmpty : Prop :=
  (∀ (m : Master) (a : BitVec 26) (s : State), 0x2800000 ≤ a.toNat → a.toNat % 4 = 0 → RegMap.row? a.toNat = none ∧
    (∃ t, exec (.rcFieldRead m a) s = .next t ∧ t.resp = { ur := false, data := [0] } ∧ FrameBut [.resp] s t) ∧
    (Tbl.find s.latches (latchKey m a.toNat) none = none → ∃ t, exec (.lowWordRead m a) s = .next t ∧ t.resp = { ur := false, data := [0] } ∧ FrameBut [.resp] s t) ∧
    (∀ d, exec (.registerWrite m a 4 d) s = .next { s with resp := { ur := false, data := [] } }) ∧
    (∀ d, a.toNat % 8 = 0 → exec (.registerWrite m a 8 d) s = .next { s with resp := { ur := false, data := [] } }) ∧
    (∀ d, exec (.stagingWrite m a d) s = .next { s with resp := { ur := false, data := [] } })) ∧
  (∀ a : Nat, lockBit a ≠ 15)

/-- REGISTER_WRITE. An access of another size or alignment than R5 allows completes with Unsupported Request and changes nothing else. An aligned 32-bit write, from a master that may write, of a register whose domain is out of reset: an address where no register is allocated
ignores it (R10); a 1 to a reserved bit is unpredictable, and the model stops (R12); a register that a running operation uses discards it (R405); TIM_INC_FRAC only holds the value (R259); RIG_DRAIN_LIMIT takes the nearest value in its range (R55); every
other register without ST fields takes, bit by bit, the written value in its RW fields and in its LK fields while their lock bit is 0, clears a W1C bit on a 1, and keeps the rest (R6), apart from the fields a command of their own
writes. A 64-bit write is its lower word's write and then its higher word's (R5). Registers and parts that are not named do not change. Where a clause rests on a reading or a choice of the model, it is one of log entries 5, 14, 17. -/
def Obligations.registerWrite : Prop :=
  (∀ (m : Master) (a : BitVec 26) (n : BitVec 4) (d : BitVec 64) (s : State), ¬ (n = 4 ∧ a.toNat % 4 = 0) → ¬ (n = 8 ∧ a.toNat % 8 = 0) →
    exec (.registerWrite m a n d) s = .next { s with resp := { ur := true, data := [] } }) ∧
  (∀ (m : Master) (a : BitVec 26) (d : BitVec 64) (s : State), a.toNat % 4 = 0 → mayWrite m = true → s.released (domainOf a.toNat) = true →
    s.mayStore m a.toNat = true →
    let w : Word := d.setWidth 32
    (RegMap.row? a.toNat = none → exec (.registerWrite m a 4 d) s = .next s.done) ∧
    (∀ r, RegMap.row? a.toNat = some r → ¬ (0x200800 ≤ a.toNat ∧ a.toNat < 0x200900) →
      (w &&& r.reserved ≠ 0 → exec (.registerWrite m a 4 d) s = .fault .unpredictable) ∧
      (w &&& r.reserved = 0 →
        ((s.inUse a.toNat).1 = true → ∃ t, exec (.registerWrite m a 4 d) s = .next t ∧
          (∀ f, (s.inUse a.toNat).2 = some f → t = (s.setFld f 1).done) ∧ ((s.inUse a.toNat).2 = none → t = s.done)) ∧
        ((s.inUse a.toNat).1 = false →
          (a.toNat = 0x400038 → exec (.registerWrite m a 4 d) s = .next { s with tim := { s.tim with incHeld := w.toNat }, resp := { ur := false, data := [] } }) ∧
          (a.toNat = 0x10001C → ∃ t, exec (.registerWrite m a 4 d) s = .next t ∧ (t.reg 0x10001C).toNat = min 100000 (max 500 w.toNat) ∧
            RegsBut [0x10001C] s t ∧ FrameBut [.regs, .resp] s t) ∧
          (RegRow.mask r (fun x => decide (x = .st)) = 0 → ownBits a.toNat = 0 → a.toNat ≠ 0x400038 → a.toNat ≠ 0x10001C → a.toNat ≠ 0x124 →
            ¬ (0x700010 ≤ a.toNat ∧ a.toNat < 0x70002C) → ¬ (0x201000 ≤ a.toNat ∧ a.toNat < 0x202000) →
            ∃ t, exec (.registerWrite m a 4 d) s = .next t ∧
              (∀ i, i < 32 → (t.reg (s.selKey a.toNat)).getLsbD i =
                if (BitVec.ofNat 32 (r.mask (fun x => decide (x = .rw) || (decide (x = .lk) && !decide (s.fld F.rigLock_lock / 2 ^ lockBit a.toNat % 2 = 1))))).getLsbD i = true
                  then w.getLsbD i
                else if (BitVec.ofNat 32 (r.mask (fun x => decide (x = .w1c)))).getLsbD i = true then (s.reg (s.selKey a.toNat)).getLsbD i && !w.getLsbD i
                else (s.reg (s.selKey a.toNat)).getLsbD i) ∧
              RegsBut [s.selKey a.toNat] s t ∧ FrameBut [.regs, .resp] s t))))) ∧
  (∀ (m : Master) (a : BitVec 26) (d : BitVec 64) (s : State), a.toNat % 8 = 0 → a.toNat + 4 < 2 ^ 26 →
    exec (.registerWrite m a 8 d) s = (match exec (.registerWrite m a 4 d) s with
      | .next t => exec (.registerWrite m (a + 4) 4 (d >>> 32)) { t with resp := s.resp }
      | .fault r => .fault r
      | .refused r => .refused r))

/-- STAGING_WRITE, from a master that may write, to an allocated register whose domain is out of reset, with reserved bits 0. While the staging machine is in OPEN, CHECKED or FAILED the ST fields of the register have the written value in the staged set and its other bits their
staged value; the machine is in OPEN; every register but RIG_STS keeps its applied value, and no other part of the state changes but the staged set: the data plane sees nothing (R17). In CHECKING the check also
completes ABORTED. In DRAINING, ARMED and REGION the write is lost: stage_write_lost is set, RIG_STAGE_LOST is posted, and the staged set stands (R50). Where a clause rests on a reading or a choice of the model, it is one of log entries 5, 20. -/
def Obligations.stagingWrite : Prop := ∀ (m : Master) (a : BitVec 26) (w : Word) (s : State) (r : RegRow), a.toNat % 4 = 0 → mayWrite m = true →
  s.released (domainOf a.toNat) = true → RegMap.row? a.toNat = some r → w &&& r.reserved = 0 → RegRow.mask r (fun x => decide (x = .st)) ≠ 0 →
  let k := s.selKey a.toNat
  let st : Word := BitVec.ofNat 32 (r.mask (fun x => decide (x = .st)))
  (s.rigState < 4 ∨ s.rigState = 7 → ∃ t, exec (.stagingWrite m a w) s = .next t ∧
    t.stagedReg k = ((s.stagedReg k &&& ~~~st) ||| (w &&& st)) ∧ (∀ j, j ≠ k → Tbl.find t.staged j none = Tbl.find s.staged j none) ∧
    t.fld F.rigSts_state = 0 ∧ (s.rigState = 1 → t.fld F.rigSts_completion = 2) ∧ (s.rigState ≠ 1 → t.fld F.rigSts_completion = s.fld F.rigSts_completion) ∧
    FldsBut [F.rigSts_state, F.rigSts_busy, F.rigSts_completion] s t ∧ FrameBut [.regs, .staged, .stagedLog, .rig, .resp] s t ∧
    t.rig = { s.rig with fresh := false }) ∧
  (s.rigState = 4 ∨ s.rigState = 5 ∨ s.rigState = 6 → ∃ t, exec (.stagingWrite m a w) s = .next t ∧ t.fld F.rigSts_stage_write_lost = 1 ∧
    Posted s t 0x020A [] ∧ FldsBut [F.rigSts_stage_write_lost] s t ∧ FrameBut [.regs, .evq, .cnt, .mem, .resp] s t)

/-- LOW_WORD_READ and RC_FIELD_READ answer a next state for every address. A read at an address not aligned to 4 bytes completes with Unsupported Request. A master that reaches BAR0 reads the word latched for it, which is used up (R11), and otherwise the register's view; the lower word
of a two-word value latches the view of the higher one. The read of an RC field returns the view and clears the fields as R404 gives: here a count, a tracked lowest value, and a worst value of events. An address where no register is allocated, as every one of the ULK range (R402), reads 0. A read changes no
other part of the state. Where a clause rests on a reading or a choice of the model, it is one of log entries 13, 14, 15, 16. -/
def Obligations.registerReads : Prop :=
  (∀ (m : Master) (a : BitVec 26) (s : State), a.toNat % 4 ≠ 0 →
    exec (.lowWordRead m a) s = .next { s with resp := { ur := true, data := [] } } ∧
    exec (.rcFieldRead m a) s = .next { s with resp := { ur := true, data := [] } }) ∧
  (∀ (m : Master) (a : BitVec 26) (s : State), a.toNat % 4 = 0 → reaches m = true →
    (∀ w, Tbl.find s.latches (latchKey m a.toNat) none = some w → ∃ t, exec (.lowWordRead m a) s = .next t ∧ t.resp = { ur := false, data := [w] } ∧
      Tbl.find t.latches (latchKey m a.toNat) none = none ∧ FrameBut [.latches, .resp] s t) ∧
    (Tbl.find s.latches (latchKey m a.toNat) none = none → ∃ t, exec (.lowWordRead m a) s = .next t ∧ t.resp = { ur := false, data := [s.view m a.toNat] } ∧
      (isLow a.toNat = true → Tbl.find t.latches (latchKey m (a.toNat + 4)) none = some (s.view m (a.toNat + 4))) ∧
      (isLow a.toNat = false → t.latches = s.latches) ∧ FrameBut [.latches, .resp, .freeIx] s t) ∧
    (s.released (domainOf a.toNat) = true → ∃ t, exec (.rcFieldRead m a) s = .next t ∧ t.resp = { ur := false, data := [s.view m a.toNat] } ∧
      (a.toNat = F.mateHb_lost.addr → t.fld F.mateHb_lost = 0 ∧ FldsBut [F.mateHb_lost] s t) ∧
      (a.toNat = F.glbRatPool_low_water.addr → t.fld F.glbRatPool_low_water = s.fld F.glbRatPool_free ∧ FldsBut [F.glbRatPool_low_water] s t) ∧
      (a.toNat = F.glbPaceHal_worst_lead.addr → t.fld F.glbPaceHal_worst_lead = 0xFFFF ∧ FldsBut [F.glbPaceHal_worst_lead] s t) ∧
      FrameBut [.regs, .resp, .fab] s t)) ∧
  (∀ (m : Master) (a : Nat) (s : State), 0x2800000 ≤ a → RegMap.row? a = none ∧ s.view m a = 0)

/-- The commands of the channel state machine. CHANNEL_CTRL_WRITE keeps enable and tx_off: from OFF with enable alone set, the mate role not standby and no re-rig, the channel is STARTING; from STARTING and FAULT, turned off, it is OFF at once with the laser off; from RUNNING, turned off, it finishes its frame, and CH_FRAME_END_OFF leads to OFF; RETIRED and UNBOUND do not move. CH_START_RUNNING
sets the superframe counter from the time base rounded to the nearest 125 µs, halves upward, with the laser on and an empty map. The ready timer's end, TX_FAULT, an absent module and a reference unlock end in FAULT with the laser off, or RETIRED when the ladder says so, each alarm set; each quad channel that was not RUNNING keeps its state. CH_FAULT_RETRY leads from FAULT to STARTING where a retry is allowed. PLOAM_FLUSH empties the queues and
returns their messages. A command in a state that the table does not list does not move the channel; from another master it has no effect. Where a clause rests on a reading or a choice of the model, it is one of log entries 3, 31, 62. -/
def Obligations.channelStates : Prop :=
  (∀ (m : Master) (c : Chan) (e o : Bool) (s : State), mayWrite m = true → s.released 7 = true → let k := c.toNat
    (s.ch k = 1 → e = true → o = false → s.rerigging (chRegion k) = false → s.mateStandby = false → ∃ t, exec (.channelCtrlWrite m c e o) s = .next t ∧ t.ch k = 2 ∧
      t.flag (F.pchCtrl_enable k) = true ∧ t.flag (F.pchCtrl_tx_off k) = false ∧ (t.dsOf k).readyTimer = true ∧ Posted s t 0x0A01 [k, 2] ∧
      FldsBut [F.pchCtrl_enable k, F.pchCtrl_tx_off k, F.pchSts_state k, F.laneSts_state k, F.laneSts_state (256 + k)] s t ∧ FrameBut [.regs, .ds, .evq, .cnt, .mem] s t) ∧
    (e = false ∨ o = true → s.ch k = 2 ∨ s.ch k = 5 → ∃ t, exec (.channelCtrlWrite m c e o) s = .next t ∧ t.ch k = 1 ∧ t.fld (F.pchSts_laser_on k) = 0 ∧
      t.flag (F.pchCtrl_enable k) = e ∧ t.flag (F.pchCtrl_tx_off k) = o ∧ (t.dsOf k).map = [] ∧ FrameBut [.regs, .cnt, .evq, .rig, .mem, .ds, .us, .hal, .fw] s t) ∧
    (e = false ∨ o = true → s.ch k = 3 → ∃ t, exec (.channelCtrlWrite m c e o) s = .next t ∧ t.ch k = 3 ∧ t.dsOf k = { s.dsOf k with stopping := true } ∧
      FldsBut [F.pchCtrl_enable k, F.pchCtrl_tx_off k] s t ∧ FrameBut [.regs, .ds] s t) ∧
    (s.ch k = 0 ∨ s.ch k = 6 ∨ (s.ch k = 1 ∧ (e = false ∨ o = true)) → ∃ t, exec (.channelCtrlWrite m c e o) s = .next t ∧ t.ch k = s.ch k ∧
      t.flag (F.pchCtrl_enable k) = e ∧ t.flag (F.pchCtrl_tx_off k) = o ∧ FldsBut [F.pchCtrl_enable k, F.pchCtrl_tx_off k] s t ∧ FrameBut [.regs] s t) ∧
    (∃ t, exec (.ploamFlush m c) s = .next t ∧ (t.dsOf k).urgent = [] ∧ (t.dsOf k).unicast = [] ∧ (t.dsOf k).broadcast = [] ∧
      t.fw.length = s.fw.length + (s.dsOf k).urgent.length + (s.dsOf k).unicast.length + (s.dsOf k).broadcast.length ∧
      FldsBut [F.pchPloamSts_urgent k, F.pchPloamSts_unicast k, F.pchPloamSts_broadcast k] s t ∧ FrameBut [.regs, .ds, .fw] s t)) ∧
  (∀ (m : Master) (c : Chan) (e o : Bool) (s : State), mayWrite m = false → exec (.channelCtrlWrite m c e o) s = .next s ∧ exec (.ploamFlush m c) s = .next s) ∧
  (∀ (c : Chan) (s : State), let k := c.toNat
    (s.ch k = 2 → s.flag (F.pchCtrl_enable k) = true → s.flag (F.pchCtrl_tx_off k) = false → ∃ t, exec (.chStartRunning c) s = .next t ∧ t.ch k = 3 ∧
      t.flag (F.pchSts_laser_on k) = true ∧ t.fld (F.pchSfcHi_sfc k) * 2 ^ 32 + t.fld (F.pchSfcLo_sfc k) = (s.tim.sec * 8000 + (s.tim.ns + 62500) / 125000) % 2 ^ 51 ∧
      t.fld (F.pchFstartSec_sec k) = s.tim.sec % 2 ^ 32 ∧ (t.dsOf k).map = [] ∧ (t.dsOf k).frames = 1) ∧
    (s.ch k ≠ 2 → exec (.chStartRunning c) s = .next s ∧ exec (.chReadyTimeout c) s = .next s) ∧
    (s.ch k = 2 → ∃ t, exec (.chReadyTimeout c) s = .next t ∧ t.ch k = (if (s.ladder 1 k).2 then 6 else 5) ∧ t.fld (F.pchSts_laser_on k) = 0) ∧
    (s.ch k = 3 → s.flag (F.pchCtrl_enable k) = true → s.flag (F.pchCtrl_tx_off k) = false →
      (∃ t, exec (.moduleTxFault c) s = .next t ∧ t.ch k = (if (s.ladder 1 k).2 then 6 else 5) ∧ t.fld (F.pchSts_laser_on k) = 0 ∧
        t.flag (F.pchSts_tx_fault k) = true ∧ t.flag (F.pchDsAlm_tx_fault k) = true) ∧
      (∃ t, exec (.moduleAbsent c) s = .next t ∧ t.ch k = (if (s.ladder 1 k).2 then 6 else 5) ∧ t.fld (F.pchSts_laser_on k) = 0 ∧
        t.flag (F.pchSts_module_present k) = false ∧ t.flag (F.pchDsAlm_module_absent k) = true)) ∧
    (s.ch k ≠ 3 → exec (.moduleTxFault c) s = .next (s.setFld (F.pchSts_tx_fault k) 1) ∧ exec (.moduleAbsent c) s = .next (s.setFld (F.pchSts_module_present k) 0) ∧
      exec (.chFrameEndOff c) s = .next s) ∧
    (s.ch k = 5 → s.flag (F.pchCtrl_enable k) = true → s.flag (F.pchCtrl_tx_off k) = false → (s.dsOf k).retryOk = true → s.mateStandby = false →
      ∃ t, exec (.chFaultRetry c) s = .next t ∧ t.ch k = 2 ∧ Posted s t 0x0A01 [k, 2] ∧
        FldsBut [F.pchSts_state k, F.laneSts_state k, F.laneSts_state (256 + k)] s t ∧ FrameBut [.regs, .ds, .evq, .cnt, .mem] s t) ∧
    (s.ch k ≠ 5 ∨ (s.dsOf k).retryOk = false → exec (.chFaultRetry c) s = .next s) ∧
    (s.ch k = 3 → (s.dsOf k).stopping = true → s.flag (F.pchCtrl_enable k) = false → ∃ t, exec (.chFrameEndOff c) s = .next t ∧ t.ch k = 1 ∧
      t.fld (F.pchSts_laser_on k) = 0 ∧ (t.dsOf k).stopping = false ∧ FrameBut [.regs, .cnt, .evq, .rig, .mem, .ds, .us, .hal, .fw] s t) ∧
    (s.ch k = 3 → (s.dsOf k).stopping = false → exec (.chFrameEndOff c) s = .next s)) ∧
  (∀ (q : Quad) (s : State), ∃ t, exec (.quadRefUnlock q) s = .next t ∧ ∀ i, i < 4 → let k := 4 * q.toNat + i
    t.flag (F.pchSts_ref_lock k) = false ∧ (s.ch k ≠ 3 → t.ch k = s.ch k) ∧ (s.ch k = 3 → t.fld (F.pchSts_laser_on k) = 0 ∧ t.ch k ≠ 3 ∧ t.flag (F.pchDsAlm_ref_unlock k) = true))

/-- PON_FRAME_START of a RUNNING channel that is not being turned off sends its next frame, one counter greater, modulo 2^51, with the accepted map of that counter (R67, R71), or with no verdict repeats the map it sent last and reports the hold; otherwise it only puts the contexts' updates in force. The PLOAM partition (R76) takes at most ploam_max messages, in order from each queue, and a waiting broadcast always gets a slot. PLOAM_OFFER queues a message
at the end of its queue of 8, 64 or 16, refuses it on a full queue with ploam_overflow and its event, and returns it while the channel is not RUNNING. The flow window reads an applied record that is bound to its channel, answers 1 for another, and stages a write, from a master that may write. Where a clause rests on a reading or a choice of the model, it is one of log entries 61, 63, 68. -/
def Obligations.framesPloamFlows : Prop :=
  (∀ (c : Chan) (s : State), let k := c.toNat; let f := (s.fld (F.pchSfcHi_sfc k) * 2 ^ 32 + s.fld (F.pchSfcLo_sfc k) + 1) % 2 ^ 51
    (s.ch k ≠ 3 ∨ (s.dsOf k).stopping = true → exec (.ponFrameStart c) s = .next ((s.boundary k).usFrameEnd k)) ∧
    (s.ch k = 3 → (s.dsOf k).stopping = false →
      (∀ v map, (s.halOf k).verdicts.find? (fun v => v.sfc = f) = some v → v.map = some map → ∃ t pl prof, exec (.ponFrameStart c) s = .next t ∧
        t.ch k = 3 ∧ t.fld (F.pchSfcHi_sfc k) * 2 ^ 32 + t.fld (F.pchSfcLo_sfc k) = f ∧ t.fld (F.pchFstartNs_ns k) = s.tim.ns % 2 ^ 30 ∧ (t.dsOf k).map = map ∧
        (t.dsOf k).frames = (s.dsOf k).frames + 1 ∧ Output.ponFrame k f map pl prof ∈ t.out ∧ t.flag (F.halChSts_holding k) = false) ∧
      ((s.halOf k).verdicts.find? (fun v => v.sfc = f) = none → (s.halOf k).first = false → s.flag (F.halChSts_stuck k) = false →
        s.fld F.halSts_slice_lost / 2 ^ (k / 32) % 2 = 0 → ∃ t pl prof, exec (.ponFrameStart c) s = .next t ∧ t.ch k = 3 ∧
        t.fld (F.pchSfcHi_sfc k) * 2 ^ 32 + t.fld (F.pchSfcLo_sfc k) = f ∧ (t.dsOf k).map = (s.dsOf k).map ∧ Output.ponFrame k f (s.dsOf k).map pl prof ∈ t.out ∧
        t.flag (F.halChSts_holding k) = true ∧ t.fld (F.halChSts_last_reason k) = 2))) ∧
  (∀ (d : DsSt) (due : Bool) (n : Nat), 1 ≤ n → let r := fillPloam d due n
    r.1.length + r.2.1.length + r.2.2.1.length + due.toNat ≤ n ∧ r.1 ++ r.2.2.2.urgent = d.urgent ∧ r.2.1 ++ r.2.2.2.unicast = d.unicast ∧
    r.2.2.1 ++ r.2.2.2.broadcast = d.broadcast ∧ (due = true ∨ d.broadcast ≠ [] → 1 ≤ r.2.2.1.length + due.toNat) ∧
    (due = false → d.broadcast = [] → r.1.length + r.2.1.length = min n (d.urgent.length + d.unicast.length))) ∧
  (∀ (c : Chan) (x : Ploam) (s : State), let k := c.toNat
    (∀ q, exec (.ploamOffer c q x true) s = .next (s.count Cn.memPoisonMsg 0)) ∧
    (s.ch k ≠ 3 → ∀ q, exec (.ploamOffer c q x false) s = .next (s.returnPloam 1 k x)) ∧
    (s.ch k = 3 →
      ((s.dsOf k).urgent.length < 8 → ∃ t, exec (.ploamOffer c .urgent x false) s = .next t ∧ t.dsOf k = { s.dsOf k with urgent := (s.dsOf k).urgent ++ [x] } ∧
        FldsBut [F.pchPloamSts_urgent k, F.pchPloamSts_unicast k, F.pchPloamSts_broadcast k] s t ∧ FrameBut [.regs, .ds] s t) ∧
      ((s.dsOf k).unicast.length < 64 → ∃ t, exec (.ploamOffer c .unicast x false) s = .next t ∧ t.dsOf k = { s.dsOf k with unicast := (s.dsOf k).unicast ++ [x] } ∧
        FldsBut [F.pchPloamSts_urgent k, F.pchPloamSts_unicast k, F.pchPloamSts_broadcast k] s t ∧ FrameBut [.regs, .ds] s t) ∧
      ((s.dsOf k).broadcast.length < 16 → ∃ t, exec (.ploamOffer c .broadcast x false) s = .next t ∧ t.dsOf k = { s.dsOf k with broadcast := (s.dsOf k).broadcast ++ [x] } ∧
        FldsBut [F.pchPloamSts_urgent k, F.pchPloamSts_unicast k, F.pchPloamSts_broadcast k] s t ∧ FrameBut [.regs, .ds] s t) ∧
      (8 ≤ (s.dsOf k).urgent.length → ∃ t, exec (.ploamOffer c .urgent x false) s = .next t ∧ t.flag (F.pchDsAlm_ploam_overflow k) = true ∧ Posted s t 0x0A05 [k] ∧
        t.fw = (s.returnPloam 2 k x).fw ∧ FldsBut [F.pchDsAlm_ploam_overflow k] s t ∧ FrameBut [.regs, .fw, .evq, .cnt, .mem] s t))) ∧
  (∀ (m : Master) (c : Chan) (s : State), let k := c.toNat; let ix := s.fld (F.pchFlwAddr_flow k)
    (mayWrite m = false → ∀ e, exec (.flwReadApplied m c e) s = .next s ∧ exec (.flwReadStaged m c) s = .next s ∧ exec (.flwWriteStaged m c) s = .next s) ∧
    (mayWrite m = true → s.released 7 = true →
      (flwBound (s.record kFlw ix) k = false → ∀ e, exec (.flwReadApplied m c e) s = .next (s.setFld (F.pchFlwCmd_result k) 1)) ∧
      (flwBound (s.record kFlw ix) k = true → s.poisoned 3 (Config.wordIx 3 kFlw ix) = false → Tbl.find s.mem.flipped (memKey 3 (Config.wordIx 3 kFlw ix)) 0 = 0 →
        ∃ t, exec (.flwReadApplied m c .clean) s = .next t ∧ t.fld (F.pchFlwCmd_result k) = 0 ∧ t.fld (F.pchFlwData0 k) = wordOf (s.record kFlw ix) 0 % 2 ^ 32 ∧
          t.fld (F.pchFlwData1 k) = wordOf (s.record kFlw ix) 1 % 2 ^ 32 ∧ FldsBut [F.pchFlwCmd_result k, F.pchFlwData0 k, F.pchFlwData1 k] s t ∧ FrameBut [.regs] s t) ∧
      (∀ ws, Tbl.find s.stagedRecs (recKey kFlw ix) none = some ws → flwBound ws k = true → ∃ t, exec (.flwReadStaged m c) s = .next t ∧
        t.fld (F.pchFlwCmd_result k) = 0 ∧ t.fld (F.pchFlwData0 k) = wordOf ws 0 % 2 ^ 32 ∧ t.fld (F.pchFlwData1 k) = wordOf ws 1 % 2 ^ 32 ∧
        FldsBut [F.pchFlwCmd_result k, F.pchFlwData0 k, F.pchFlwData1 k] s t ∧ FrameBut [.regs] s t) ∧
      (s.rigState < 4 → ∃ t, exec (.flwWriteStaged m c) s = .next t ∧
        t.recordStaged kFlw ix = [s.fld (F.pchFlwData0 k), s.fld (F.pchFlwData1 k), k + 1] ∧ t.recs = s.recs ∧ t.rigState = 0 ∧ t.fld (F.pchFlwCmd_result k) = 0)))

/-- XGEM_ENCAPSULATE takes the packet at the front of the edge buffer of a RUNNING channel whose flow record reads well: with the record not valid or bound to another channel it is dropped and counted ds_no_record; else longer than mtu it is dropped and counted ds_oversize; else, not encrypted, it is sent whole where its frame fits, as a first fragment where 24 bytes or more are left, and waits for the next frame otherwise
(R78, R79). CONTEXT_UPDATE gives a context that is not FREE its key index, forced wake or PLOAMu request; a poisoned message is discarded and counted (R321). MAP_CAPTURE_ARM arms the capture of one channel. UPLINK_PACKET_INGRESS takes a packet of a bound port into the core with the next number and the current epoch (R28); where the edge buffer has no room it is dropped and counted, and during a re-rig of the group discarded. Where a clause rests on a reading or a choice of the model, it is one of log entries 34, 62. -/
def Obligations.encapsulation : Prop :=
  (∀ (c : Chan) (e2 : Ecc) (b : Bool) (p : Pkt) (r : List Pkt) (s : State), let k := c.toNat; let ws := s.record kFlw p.flow; let w := Config.wordIx 3 kFlw p.flow
    (s.dsOf k).edge = p :: r → s.ch k = 3 → s.poisoned 3 w = false → Tbl.find s.mem.flipped (memKey 3 w) 0 = 0 → p.tsReq = none →
      (recBits ws 1 0 0 = 0 ∨ flwBound ws k = false → ∃ t, exec (.xgemEncapsulate c .clean e2 b) s = .next t ∧ t.dsOf k = { s.dsOf k with edge := r } ∧
        t.cnt = (s.count Cn.dsNoRecord k).cnt ∧ FrameBut [.ds, .cnt] s t) ∧
      (recBits ws 1 0 0 = 1 → flwBound ws k = true → recBits ws 1 3 2 ≠ 0 ∨ 2 ≤ (s.onuOf (recBits ws 0 31 16)).stNow →
        (s.fld (F.pchDsCfg_mtu k) < p.len → ∃ t, exec (.xgemEncapsulate c .clean e2 b) s = .next t ∧ t.dsOf k = { s.dsOf k with edge := r } ∧
          t.cnt = (s.count Cn.dsOversize k).cnt ∧ FrameBut [.ds, .cnt] s t) ∧
        (p.len ≤ s.fld (F.pchDsCfg_mtu k) → recBits ws 1 1 1 = 0 → let n := 8 + 4 * ((p.len + 3) / 4)
          (n ≤ (s.dsOf k).space → b = false → ∃ t, exec (.xgemEncapsulate c .clean e2 b) s = .next t ∧ t.dsOf k = { s.dsOf k with edge := r, space := (s.dsOf k).space - n } ∧
            t.out = s.out ++ [.xgem k (recBits ws 0 15 0) 0 p.len true false] ∧ t.cnt = (s.count Cn.dsXgem k).cnt ∧ FrameBut [.ds, .cnt, .out] s t) ∧
          ((s.dsOf k).space < n → 24 ≤ (s.dsOf k).space → b = false → ∃ t, exec (.xgemEncapsulate c .clean e2 b) s = .next t ∧
            t.dsOf k = { s.dsOf k with edge := r, space := 0, rest := some { portId := recBits ws 0 15 0, keyIx := 0, left := p.len - ((s.dsOf k).space - 8) } } ∧
            t.out = s.out ++ [.xgem k (recBits ws 0 15 0) 0 ((s.dsOf k).space - 8) false false] ∧ FrameBut [.ds, .cnt, .out] s t) ∧
          ((s.dsOf k).space < n → (s.dsOf k).space < 24 → b = false → ∃ t, exec (.xgemEncapsulate c .clean e2 b) s = .next t ∧
            t.dsOf k = { s.dsOf k with space := 0 } ∧ t.cnt = (s.countN Cn.dsIdleBytes k 0 (s.dsOf k).space).cnt ∧ FrameBut [.ds, .cnt] s t)))) ∧
  (∀ (c : Chan) (e1 e2 : Ecc) (b : Bool) (s : State), (s.dsOf c.toNat).edge = [] ∨ s.ch c.toNat ≠ 3 → exec (.xgemEncapsulate c e1 e2 b) s = .next s) ∧
  (∀ (n : Onu) (f : Bool) (s : State), (∀ u, exec (.contextUpdate u true) s = .next (s.count Cn.memPoisonMsg 0)) ∧
    ((s.onuOf n.toNat).st = 0 → exec (.contextUpdate (.onuKey n f) false) s = .next s ∧ exec (.contextUpdate (.onuWake n f) false) s = .next s ∧
      exec (.contextUpdate (.onuPloamu n) false) s = .next s) ∧
    ((s.onuOf n.toNat).st ≠ 0 →
      (∃ t, exec (.contextUpdate (.onuKey n f) false) s = .next t ∧ t.onuOf n.toNat = { s.onuOf n.toNat with keyIx := if f then 2 else 1 } ∧
        (∀ j, j ≠ n.toNat → t.onuOf j = s.onuOf j) ∧ FrameBut [.onu] s t) ∧
      (∃ t, exec (.contextUpdate (.onuWake n f) false) s = .next t ∧ (n.toNat ∈ t.hal.fwi ↔ f = true) ∧ (∀ j, j ≠ n.toNat → (j ∈ t.hal.fwi ↔ j ∈ s.hal.fwi)) ∧
        FrameBut [.hal] s t) ∧
      (∃ t, exec (.contextUpdate (.onuPloamu n) false) s = .next t ∧ n.toNat ∈ (t.halOf (s.onuOf n.toNat).chan).ploamuReq ∧ FrameBut [.hal] s t))) ∧
  (∀ (m : Master) (c : Chan) (s : State), (mayWrite m = false → exec (.mapCaptureArm m c) s = .next s) ∧
    (mayWrite m = true → s.released 7 = true → ∃ t, exec (.mapCaptureArm m c) s = .next t ∧ t.hal = { s.hal with capArm := some c.toNat } ∧
      t.fld F.halCapCtrl_channel = c.toNat ∧ t.flag F.halCapSts_done = false ∧ FldsBut [F.halCapCtrl_channel, F.halCapSts_done] s t ∧ FrameBut [.regs, .hal] s t)) ∧
  (∀ (p : BitVec 7) (by_ : List Byte) (ok fits : Bool) (st : Stamp) (sec : Option MacRx) (e : Ecc) (s : State), let n := p.toNat; let l := by_.map (·.toNat)
    (s.rerigging (0x200 + n / 8) = true → exec (.uplinkPacketIngress p by_ ok fits st sec e) s = .next { s with sup := { s.sup with rerigDiscard := s.sup.rerigDiscard + 1 } }) ∧
    (s.rerigging (0x200 + n / 8) = false →
      (s.portBound (256 + n) = false → exec (.uplinkPacketIngress p by_ ok fits st sec e) s = .next s) ∧
      (s.portBound (256 + n) = true → fits = false → exec (.uplinkPacketIngress p by_ ok fits st sec e) s = .next (s.count Cn.ulkEdgeDrop (n / 8))) ∧
      (s.portBound (256 + n) = true → fits = true → isPfc l = false → s.secures n l = false → ∃ t k, exec (.uplinkPacketIngress p by_ ok fits st sec e) s = .next t ∧
        Tbl.find t.toParse (256 + n) [] = Tbl.find s.toParse (256 + n) [] ++ [k] ∧ (∀ j, j ≠ 256 + n → Tbl.find t.toParse j [] = Tbl.find s.toParse j []) ∧
        k.num = s.pktNo ∧ t.pktNo = s.pktNo + 1 ∧ k.bytes = l ∧ k.src = 256 + n ∧ k.epoch = s.epoch ∧ k.bad = !ok ∧ k.host = false ∧ FrameBut [.toParse, .pktNo] s t)))

/-- BURST_RECEIVE on a channel that is not RUNNING has no effect. For an active context that reads well, a burst that does not qualify adds one to the run of missed bursts and to the second's granted and errored bursts, and at lob_thr declares LOBi, posted while the channel is not in LOS (R99); one that qualifies ends the run and LOBi, and a good one sets
the dying gasp (R102). A heard burst of a context that is not active is counted and its contents discarded (R95). UPSTREAM_PACKET_INGRESS takes the oldest packet of the edge buffer: dropped where it does not fit, with no valid record, another ONU's record, or a key index that the record does not allow (R96), each under its counter; else it enters the core with the record's flow, the next number and the current epoch.
REASM_TIMEOUT discards an open packet after eight frames without a good burst, and keeps a younger one (R97). Where a clause rests on a reading or a choice of the model, it is one of log entries 64, 65. -/
def Obligations.burstsAndPackets : Prop :=
  (∀ (c : Chan) (b : Burst) (s : State), s.ch c.toNat ≠ 3 → exec (.burstReceive c b) s = .next s) ∧
  (∀ (c : Chan) (b : Burst) (s : State), let k := c.toNat; let n := b.onu; let o := s.onuOf n; let w := Config.wordIx 3 kOnuCtx n
    s.ch k = 3 → s.poisoned 3 w = false → Tbl.find s.mem.flipped (memKey 3 w) 0 = 0 → b.ctxEcc = .clean → o.presetValid = false →
    (o.stNow = 4 → o.chanNow = k → b.qualified = false ∨ b.hdrOk = false →
      (o.lobi = true ∨ o.missed + 1 < s.fld (F.pchUsCfg_lob_thr k) → ∃ t, exec (.burstReceive c b) s = .next t ∧
        t.onuOf n = { o with missed := o.missed + 1, granted := o.granted + 1, errored := o.errored + 1 } ∧ (∀ j, j ≠ n → t.onuOf j = s.onuOf j) ∧
        (t.usOf k).frameGranted = true ∧ t.hal = s.hal ∧ t.fw = s.fw ∧ FldsBut [F.pchUsSts_rx_los k] s t ∧ FrameBut [.regs, .cnt, .us, .onu] s t) ∧
      (o.lobi = false → s.fld (F.pchUsCfg_lob_thr k) ≤ o.missed + 1 → ∃ t, exec (.burstReceive c b) s = .next t ∧
        (t.onuOf n).lobi = true ∧ (t.onuOf n).missed = o.missed + 1 ∧ (s.los k = true → t.evq = s.evq) ∧
        (s.los k = false → t.evq = (s.post 0x0A12 [k, n, o.gasp.toNat]).evq) ∧ FldsBut [F.pchUsSts_rx_los k] s t ∧ FrameBut [.regs, .cnt, .us, .onu, .evq, .mem] s t)) ∧
    (o.stNow = 4 → o.chanNow = k → b.qualified = true → b.hdrOk = true → ∃ t, exec (.burstReceive c b) s = .next t ∧ (t.onuOf n).missed = 0 ∧ (t.onuOf n).lobi = false ∧
      (t.usOf k).frameHeard = true ∧ (b.fecUncorr = 0 → b.bipBits = 0 → (t.onuOf n).gasp = b.gasp ∧ (t.onuOf n).errored = o.errored)) ∧
    (o.stNow ≠ 4 ∨ o.chanNow ≠ k → b.qualified = true → b.hdrOk = true → ∃ t, exec (.burstReceive c b) s = .next t ∧ t.fw = s.fw ∧ t.hal = s.hal ∧
      (t.usOf k).edge = (s.usOf k).edge ∧ (t.usOf k).reasm = (s.usOf k).reasm)) ∧
  (∀ (c : Chan) (f : Bool) (e e2 : Ecc) (s : State), (s.usOf c.toNat).edge = [] → exec (.upstreamPacketIngress c f e e2) s = .next s) ∧
  (∀ (c : Chan) (e2 : Ecc) (p : UsPkt) (r : List UsPkt) (s : State), let k := c.toNat; let ix := k * 65536 + p.portId; let ws := s.record kUfl ix; let w := Config.wordIx 3 kUfl ix
    (s.usOf k).edge = p :: r →
      (∀ e, ∃ t, exec (.upstreamPacketIngress c false e e2) s = .next t ∧ t.usOf k = { s.usOf k with edge := r } ∧ t.cnt = (s.count Cn.usEdgeDrop k).cnt ∧ FrameBut [.us, .cnt] s t) ∧
      (s.poisoned 3 w = false → Tbl.find s.mem.flipped (memKey 3 w) 0 = 0 → ∃ t, exec (.upstreamPacketIngress c true .clean e2) s = .next t ∧ t.usOf k = { s.usOf k with edge := r } ∧
        (recBits ws 0 31 31 = 0 → t.cnt = (s.count Cn.usNoRecord k).cnt ∧ FrameBut [.us, .cnt] s t) ∧
        (recBits ws 0 31 31 = 1 → recBits ws 1 15 0 ≠ p.onu → t.cnt = (s.count Cn.usPortMismatch k).cnt ∧ FrameBut [.us, .cnt] s t) ∧
        (recBits ws 0 31 31 = 1 → recBits ws 1 15 0 = p.onu → p.keyIx = 0 →
          (recBits ws 1 16 16 = 1 → t.cnt = (s.count Cn.usKeyErr k).cnt ∧ FrameBut [.us, .cnt] s t) ∧
          (recBits ws 1 16 16 = 0 → FrameBut [.us, .pktNo, .toParse] s t ∧ t.pktNo = s.pktNo + 1 ∧ ∃ q, Tbl.find t.toParse k [] = Tbl.find s.toParse k [] ++ [q] ∧
            q.num = s.pktNo ∧ q.bytes = p.bytes ∧ q.src = k ∧ q.flow = recBits ws 0 17 0 ∧ q.epoch = s.epoch ∧ q.onu = p.onu)))) ∧
  (∀ (c : Chan) (a : AllocIx) (s : State), (s.openOf c.toNat a.toNat = none → exec (.reasmTimeout c a) s = .next s) ∧
    ∀ q, s.openOf c.toNat a.toNat = some q → (q.age < 8 → exec (.reasmTimeout c a) s = .next s) ∧
      (8 ≤ q.age → ∃ t, exec (.reasmTimeout c a) s = .next t ∧ t.openOf c.toNat a.toNat = none ∧ t.cnt = (s.count Cn.usReasmAbort c.toNat).cnt ∧ FrameBut [.us, .cnt] s t))

/-- RX_LOS_HELD on a RUNNING channel that is not in LOS, by the pin or after los_frames silent frames, declares LOS with its alarm and posts CH_LOS (R99, R103); otherwise nothing but rx_los changes. ROGUE_OBSERVATION counts and captures the observation, and declares Rogue once rogue_thr fall within rogue_win windows; ROGUE_CLEAR clears it and posts. AIS_FRAME_TIMER makes one frame of the ONU's record under an AIS condition, counted as sent or
dropped, of 64 bytes to the multicast address of its MEL, and none otherwise (R104). PM_SECOND_END classifies a monitored second by R105 and pends it; the tenth severely errored one in a row makes the ONU unavailable, marks the ten and posts ONU_UNAVAILABLE with the first; the eleventh pending second is committed (R106); a second that is not monitored is not classified. Where a clause rests on a reading or a choice of the model, it is one of log entries 66, 67. -/
def Obligations.lossRogueAisPm : Prop :=
  (∀ (c : Chan) (pin : Bool) (s : State), let k := c.toNat
    (s.ch k ≠ 3 ∨ s.los k = true ∨ (pin = false ∧ (s.usOf k).silent < s.fld (F.pchUsCfg_los_frames k)) → ∃ t, exec (.rxLosHeld c pin) s = .next t ∧ t.los k = s.los k ∧
      FldsBut [F.pchUsSts_rx_los k] s t ∧ FrameBut [.regs] s t) ∧
    (s.ch k = 3 → s.los k = false → pin = true ∨ s.fld (F.pchUsCfg_los_frames k) ≤ (s.usOf k).silent → ∃ t, exec (.rxLosHeld c pin) s = .next t ∧ t.los k = true ∧
      t.flag (F.pchUsAlm_los k) = true ∧ Posted s t 0x0A10 [k] ∧ FldsBut [F.pchUsSts_rx_los k, F.pchUsSts_los k, F.pchUsAlm_los k] s t ∧
      FrameBut [.regs, .onu, .evq, .cnt, .mem] s t)) ∧
  (∀ (c : Chan) (gap : Bool) (o : BitVec 21) (x : Byte) (s : State), let k := c.toNat
    let win := (true :: (List.replicate x.toNat false ++ (s.usOf k).rogueWin)).take (s.fld (F.pchRogueCfg_rogue_win k))
    (s.ch k ≠ 3 → exec (.rogueObservation c gap o x) s = .next s) ∧
    (s.ch k = 3 → ∃ t, exec (.rogueObservation c gap o x) s = .next t ∧ (t.usOf k).rogueWin = win ∧ t.fld (F.pchRogueCap_kind k) = (if gap then 2 else 1) ∧
      t.fld (F.pchRogueCap_offset k) = o.toNat ∧
      t.flag (F.pchUsSts_rogue k) = (s.flag (F.pchUsSts_rogue k) || decide (s.fld (F.pchRogueCfg_rogue_thr k) ≤ (win.filter (·)).length)) ∧
      (s.flag (F.pchUsSts_rogue k) = true → t.evq = s.evq) ∧
      FldsBut [F.pchRogueCap_kind k, F.pchRogueCap_offset k, F.pchUsSts_rogue k, F.pchUsAlm_rogue k] s t ∧ FrameBut [.regs, .us, .evq, .cnt, .mem] s t) ∧
    (s.flag (F.pchUsSts_rogue k) = true → ∃ t, exec (.rogueClear c) s = .next t ∧ t.flag (F.pchUsSts_rogue k) = false ∧ Posted s t 0x0A15 [k] ∧
      FldsBut [F.pchUsSts_rogue k] s t ∧ FrameBut [.regs, .us, .evq, .cnt, .mem] s t) ∧
    (s.flag (F.pchUsSts_rogue k) = false → exec (.rogueClear c) s = .next s)) ∧
  (∀ (n : Onu) (s : State), (s.aisCond n.toNat = false ∨ recBits (s.record kUonu n.toNat) 0 31 31 = 0 → exec (.aisFrameTimer n) s = .next s) ∧
    (s.aisCond n.toNat = true → recBits (s.record kUonu n.toNat) 0 31 31 = 1 → ∃ (u : State) (b : Bool), u.pktNo = s.pktNo + 1 ∧ u.onu = s.onu ∧
      exec (.aisFrameTimer n) s = .next (u.count (if b then Cn.aisTx else Cn.aisDrop) (s.onuOf n.toNat).chan))) ∧
  (∀ (ws : List Nat) (sa : Nat), (aisBytes ws sa).length = 64 ∧ (aisBytes ws sa).take 6 = [0x01, 0x80, 0xC2, 0, 0, 0x30 + recBits ws 0 18 16]) ∧
  (∀ (o : OnuCtx) (p : Nat), (o.lossSeen = true → pmClass o p = 2) ∧
    (o.lossSeen = false → 0 < o.granted → p * o.granted ≤ o.errored * 100 → pmClass o p = 2) ∧
    (o.lossSeen = false → o.errored * 100 < p * o.granted → 1 ≤ o.errored → pmClass o p = 1) ∧ (o.lossSeen = false → o.errored = 0 → 1 ≤ p → pmClass o p = 0)) ∧
  (∀ (n : Onu) (b : Bool) (s : State), let o := s.onuOf n.toNat; let k := o.chan; let w := Config.wordIx 3 kPm n.toNat; let x := pmClass o (s.fld (F.pchUsCfg_ses_pct k))
    s.poisoned 3 w = false → Tbl.find s.mem.flipped (memKey 3 w) 0 = 0 →
      (b = false ∨ o.stNow ≠ 4 ∨ (s.ch k ≠ 3 ∧ s.ch k ≠ 5 ∧ s.ch k ≠ 6) → o.st ≠ 0 → ∃ t, exec (.pmSecondEnd n b .clean) s = .next t ∧ (t.onuOf n.toNat).pm = o.pm ∧
        (t.onuOf n.toNat).granted = 0 ∧ (t.onuOf n.toNat).errored = 0 ∧ FrameBut [.onu] s t) ∧
      (b = true → o.stNow = 4 → s.ch k = 3 ∨ s.ch k = 5 ∨ s.ch k = 6 →
        let p : PmSec := { cls := x, unavail := o.unavail, sec := (s.tim.sec - 1) % 2 ^ 32 }
        (o.pm.length < 9 → ∃ t, exec (.pmSecondEnd n b .clean) s = .next t ∧ (t.onuOf n.toNat).pm = o.pm ++ [p] ∧ (t.onuOf n.toNat).unavail = o.unavail ∧
          (t.onuOf n.toNat).granted = 0 ∧ (t.onuOf n.toNat).errored = 0 ∧ FrameBut [.onu] s t) ∧
        (o.pm.length = 9 → o.unavail = false → x = 2 → (∀ y ∈ o.pm, y.cls = 2) → ∃ t, exec (.pmSecondEnd n b .clean) s = .next t ∧ (t.onuOf n.toNat).unavail = true ∧
          (∀ y ∈ (t.onuOf n.toNat).pm, y.unavail = true) ∧ Posted s t 0x0A17 [k, n.toNat, ((o.pm.head?).map (·.sec)).getD 0] ∧ FrameBut [.onu, .evq, .cnt, .mem] s t) ∧
        (∀ y r, o.pm = y :: r → r.length = 9 → o.unavail = false → x = 0 → ∃ t, exec (.pmSecondEnd n b .clean) s = .next t ∧ (t.onuOf n.toNat).pm = r ++ [p] ∧
          t.cnt = (if y.unavail then s.count Cn.onuUas n.toNat else if y.cls = 2 then (s.count Cn.onuEs n.toNat).count Cn.onuSes n.toNat
            else if y.cls = 1 then s.count Cn.onuEs n.toNat else s).cnt ∧ FrameBut [.onu, .cnt] s t)))

/-- The commands of PCH_UFL_CMD and PCH_UONU_CMD, from a master that may write PCH out of reset; from another they have no effect. A read of the applied flow record that is not poisoned shows its words with result 0; one found poisoned answers result 2 with zeros, is set not valid, and posts US_FLOW_POISON. A read staged shows the staged record, or the applied one. A write staged enters the staged set and changes no applied
record. The ONU window answers result 1 for a context that is not on the channel; its reads show the AIS record's first word and the context's preset; clear preset acts at once (R91). Where a clause rests on a reading or a choice of the model, it is one of log entries 4, 80. -/
def Obligations.upstreamWindows : Prop :=
  (∀ (m : Master) (c : Chan) (s : State), mayWrite m = false → (∀ e, exec (.uflReadApplied m c e) s = .next s ∧ exec (.uonuReadApplied m c e) s = .next s) ∧
    exec (.uflReadStaged m c) s = .next s ∧ exec (.uflWriteStaged m c) s = .next s ∧ exec (.uonuReadStaged m c) s = .next s ∧
    exec (.uonuWriteStaged m c) s = .next s ∧ exec (.uonuClearPreset m c) s = .next s) ∧
  (∀ (m : Master) (c : Chan) (s : State), mayWrite m = true → s.released 7 = true → let k := c.toNat; let ix := k * 65536 + s.fld (F.pchUflAddr_port_id k)
    let w := Config.wordIx 3 kUfl ix
    (s.poisoned 3 w = false → Tbl.find s.mem.flipped (memKey 3 w) 0 = 0 → ∃ t, exec (.uflReadApplied m c .clean) s = .next t ∧ t.fld (F.pchUflCmd_result k) = 0 ∧
      t.fld (F.pchUflData0 k) = wordOf (s.record kUfl ix) 0 % 2 ^ 32 ∧ t.fld (F.pchUflData1 k) = wordOf (s.record kUfl ix) 1 % 2 ^ 32 ∧
      FldsBut [F.pchUflCmd_result k, F.pchUflData0 k, F.pchUflData1 k] s t ∧ FrameBut [.regs] s t) ∧
    (s.poisoned 3 w = true → s.flag F.memFlipCtrl_armed = false → ∃ t, exec (.uflReadApplied m c .clean) s = .next t ∧ t.fld (F.pchUflCmd_result k) = 2 ∧
      t.fld (F.pchUflData0 k) = 0 ∧ t.fld (F.pchUflData1 k) = 0 ∧ t.record kUfl ix = [] ∧ t.flag (F.pchUsAlm_flow_poison k) = true ∧ t.poisoned 3 w = false ∧
      t.evq = (s.post 0x0A16 [k, s.fld (F.pchUflAddr_port_id k)]).evq) ∧
    (∃ t, exec (.uflReadStaged m c) s = .next t ∧ t.fld (F.pchUflCmd_result k) = 0 ∧ t.fld (F.pchUflData0 k) = wordOf (s.recordStaged kUfl ix) 0 % 2 ^ 32 ∧
      t.fld (F.pchUflData1 k) = wordOf (s.recordStaged kUfl ix) 1 % 2 ^ 32 ∧ FldsBut [F.pchUflCmd_result k, F.pchUflData0 k, F.pchUflData1 k] s t ∧ FrameBut [.regs] s t) ∧
    (s.rigState < 4 → ∃ t, exec (.uflWriteStaged m c) s = .next t ∧ t.recordStaged kUfl ix = [s.fld (F.pchUflData0 k), s.fld (F.pchUflData1 k)] ∧ t.recs = s.recs ∧ t.rigState = 0)) ∧
  (∀ (m : Master) (c : Chan) (s : State), mayWrite m = true → s.released 7 = true → let k := c.toNat; let n := s.fld (F.pchUonuAddr_onu k)
    ((s.onuOf n).st = 0 ∨ (s.onuOf n).chan ≠ k → let t := s.setFld (F.pchUonuCmd_result k) 1
      (∀ e, exec (.uonuReadApplied m c e) s = .next t) ∧ exec (.uonuReadStaged m c) s = .next t ∧ exec (.uonuWriteStaged m c) s = .next t ∧
      exec (.uonuClearPreset m c) s = .next t) ∧
    ((s.onuOf n).st ≠ 0 → (s.onuOf n).chan = k →
      ((s.onuOf n).presetValid = false → ∀ e, ∃ t, exec (.uonuReadApplied m c e) s = .next t ∧ t.fld (F.pchUonuCmd_result k) = 0 ∧
        t.fld (F.pchUonuData0 k) = wordOf (s.record kUonu n) 0 % 2 ^ 32 ∧ t.flag (F.pchUonuData1_lobi k) = (s.onuOf n).lobi ∧
        FldsBut [F.pchUonuCmd_result k, F.pchUonuData0 k, F.pchUonuData1 k] s t ∧ FrameBut [.regs] s t) ∧
      (∃ t, exec (.uonuReadStaged m c) s = .next t ∧ t.fld (F.pchUonuCmd_result k) = 0 ∧ t.fld (F.pchUonuData0 k) = wordOf (s.recordStaged kUonu n) 0 % 2 ^ 32 ∧
        t.flag (F.pchUonuData1_lobi k) = false ∧ FrameBut [.regs] s t) ∧
      (s.rigState < 4 → ∃ t, exec (.uonuWriteStaged m c) s = .next t ∧ t.recordStaged kUonu n = [s.fld (F.pchUonuData0 k), s.fld (F.pchUonuData1_cvid k)] ∧
        t.recs = s.recs ∧ t.fld (F.pchUonuCmd_result k) = 0) ∧
      (∃ t, exec (.uonuClearPreset m c) s = .next t ∧ t.onuOf n = { s.onuOf n with presetValid := false } ∧ (∀ j, j ≠ n → t.onuOf j = s.onuOf j) ∧
        t.fld (F.pchUonuCmd_result k) = 0 ∧ FldsBut [F.pchUonuCmd_result k] s t ∧ FrameBut [.regs, .onu] s t)))

/-- The eleven Ratline commands, each through the window or as a firmware message. From a master that may not write, none has an effect; a firmware message whose buffer is poisoned is discarded and counted; on a channel in STANDBY every one but RAT_READ reports NOT_RUNNING and changes nothing else (R127). A command with a context bound to another channel reports WRONG_CHANNEL and
changes nothing else, once its arguments are within their encodings (R409): tries 0, frames 0 or an ONU-ID above 1,020 reports BAD_ARG. In a state that R112 does not list for it, a command reports BAD_STATE; SET_EQD with an eqd other than the stored proposal's reports BAD_ARG; a ninth measurement reports POOL_EMPTY, a 257th ONU-ID CH_FULL, a second context with the serial number DUP_SN and with the ONU-ID ID_IN_USE. Where a clause rests on a reading or a choice of the model, it is one of log entries 68, 69. -/
def Obligations.ratlineRefusals : Prop :=
  let all : List (Nat × (Option Master → Chan → RatArgs → Instr)) := [(1, .openDisc), (2, .closeDisc), (3, .create), (4, .assign), (5, .range_), (6, .activate), (7, .setEqd),
    (8, .deactivate), (9, .release), (10, .abortRange), (11, fun v c a => .ratRead v c a .clean)]
  (∀ p ∈ all, ∀ (c : Chan) (args : RatArgs) (s : State), let k := c.toNat
    (∀ m, mayWrite m = false → exec (p.2 (some m) c args) s = .next s) ∧
    (args.poison = true → exec (p.2 none c args) s = .next (s.count Cn.memPoisonMsg 0)) ∧
    (∀ via, s.ratOpen via = true → (s.ratArgs via k args).poison = false → s.ch k = 4 → p.1 ≠ 11 → ∃ t, exec (p.2 via c args) s = .next t ∧
      RatSays s t via k p.1 (s.ratArgs via k args).ctx 8 ∧ FldsBut [F.pchRatCmd_result k] s t ∧ FrameBut [.regs, .fw] s t)) ∧
  (∀ (via : Option Master) (c : Chan) (args a : RatArgs) (s : State), let k := c.toNat; let o := s.onuOf a.ctx; RatTaken s via k args a →
    let turned := fun (x : Instr) (op r : Nat) => ∃ t, exec x s = .next t ∧ RatSays s t via k op a.ctx r ∧ FldsBut [F.pchRatCmd_result k] s t ∧ FrameBut [.regs, .fw] s t
    (s.ch k ≠ 3 → turned (.openDisc via c args) 1 8) ∧ (s.ch k = 3 → bits a.a3 11 8 = 0 → turned (.openDisc via c args) 1 2) ∧
    (s.ch k = 3 → bits a.a3 11 8 ≠ 0 → (s.discOf k).opened = true → turned (.openDisc via c args) 1 1) ∧
    (s.ch k = 3 → bits a.a3 11 8 ≠ 0 → (s.discOf k).opened = false → (∀ e, e < 64 → e ∈ s.enginesUsed) → turned (.openDisc via c args) 1 3) ∧
    (1020 < a.onuId → turned (.assign via c args) 4 2) ∧ (a.tries = 0 → turned (.range_ via c args) 5 2) ∧
    (s.otherCh a.ctx k = true →
      turned (.create via c args) 3 7 ∧ (a.onuId ≤ 1020 → turned (.assign via c args) 4 7) ∧ (a.tries ≠ 0 → turned (.range_ via c args) 5 7) ∧ turned (.activate via c args) 6 7 ∧
      turned (.setEqd via c args) 7 7 ∧ turned (.deactivate via c args) 8 7 ∧ turned (.release via c args) 9 7 ∧ turned (.abortRange via c args) 10 7 ∧
      ∀ e, turned (.ratRead via c args e) 11 7) ∧
    (s.otherCh a.ctx k = false →
      (o.st ≠ 0 → turned (.create via c args) 3 1) ∧
      (o.st = 0 → (∃ p ∈ s.onu, p.2.st ≠ 0 ∧ p.2.chan = k ∧ p.2.sn0 = a.a1 ∧ p.2.sn1 = a.a2) → turned (.create via c args) 3 5) ∧
      (a.onuId ≤ 1020 → (o.st ≠ 1 → turned (.assign via c args) 4 1) ∧
        (o.st = 1 → 256 ≤ (s.held k).length → turned (.assign via c args) 4 4) ∧
        (o.st = 1 → (s.held k).length < 256 → (∃ x ∈ s.held k, x.onuId = a.onuId) → turned (.assign via c args) 4 6)) ∧
      (a.tries ≠ 0 → (o.st < 2 ∨ o.st = 3 ∨ 5 < o.st → turned (.range_ via c args) 5 1) ∧
        (o.st = 2 ∨ o.st = 4 ∨ o.st = 5 → 8 ≤ (s.measuring k).length → turned (.range_ via c args) 5 3)) ∧
      (o.st ≠ 3 ∨ o.measured = false → turned (.activate via c args) 6 1) ∧
      (o.prop = none ∨ o.st ≠ 4 ∨ o.update.isSome = true → turned (.setEqd via c args) 7 1) ∧
      (∀ p, o.prop = some p → o.st = 4 → o.update = none → a.a1 ≠ p.2.1 → turned (.setEqd via c args) 7 2) ∧
      (o.st < 2 → turned (.deactivate via c args) 8 1) ∧ (o.st ≠ 1 → turned (.release via c args) 9 1) ∧ (o.st ≠ 3 → turned (.abortRange via c args) 10 1)))

/-- OPEN_DISC on a RUNNING channel, with 1 to 15 frames, no window open and an engine free takes the lowest free engine of 64 and opens a window with the arguments and no record (R116). DISC_ANSWER in a frame of the window makes one record, with the frame number and the context of the serial number where one on the channel has it, counts it and sends it to firmware; a ninth answer of a frame counts disc_overflow only (R118).
DISC_SPAN_END ends one frame's span and counts disc_collision once for energy without an answer (R117). CLOSE_DISC before the last span's end ends the window ABORTED, after it reports ABORT_LATE with no effect (R119). DISC_WINDOW_END after the last span completes the window COMPLETED, and CH_LEFT_BOUNDARY on a channel not RUNNING CH_LEFT: the engine is released, discovery windows are counted and DISC_WINDOW is posted with the channel, the completion and the number of records. Where a clause rests on a reading or a choice of the model, it is one of log entry 69. -/
def Obligations.discoveryWindows : Prop :=
  (∀ (via : Option Master) (c : Chan) (args a : RatArgs) (s : State), let k := c.toNat; let d := s.discOf k; RatTaken s via k args a →
    (∀ e, s.ch k = 3 → bits a.a3 11 8 ≠ 0 → d.opened = false → e < 64 → e ∉ s.enginesUsed → (∀ j, j < e → j ∈ s.enginesUsed) →
      ∃ t, exec (.openDisc via c args) s = .next t ∧ RatSays s t via k 1 a.ctx 0 ∧
        t.discOf k = { opened := true, engine := e, rtdMin := a.a1, rtdMax := a.a2, profile := bits a.a3 1 0, frames := bits a.a3 11 8, planned := 0, spent := 0, inFrame := 0,
                       total := 0, recs := [], ended := false } ∧ (∀ j, j ≠ k → t.discOf j = s.discOf j) ∧ t.flag (F.pchRatDsts_open k) = true ∧
        t.fld (F.pchRatDsts_engine k) = e ∧ t.fld (F.pchRatDsts_records k) = 0 ∧
        FldsBut [F.pchRatCmd_result k, F.pchRatDsts_open k, F.pchRatDsts_engine k, F.pchRatDsts_records k, F.glbRatPool_free, F.glbRatPool_low_water] s t ∧
        FrameBut [.regs, .disc, .fw] s t) ∧
    (d.opened = true → d.spent < d.frames → ∃ t, exec (.closeDisc via c args) s = .next t ∧ RatSays s t via k 2 a.ctx 9 ∧
      t.discOf k = { d with opened := false, ended := true } ∧ t.flag (F.pchRatDsts_open k) = false ∧ t.fld (F.pchRatDsts_last_comp k) = 2 ∧
      Posted (s.count Cn.discWindows k) t 0x0A20 [k, 2, d.total] ∧
      FldsBut [F.pchRatCmd_result k, F.pchRatDsts_open k, F.pchRatDsts_last_comp k, F.glbRatPool_free, F.glbRatPool_low_water] s t ∧
      FrameBut [.regs, .cnt, .evq, .mem, .disc, .fw] s t) ∧
    (d.opened = false ∨ d.frames ≤ d.spent → ∃ t, exec (.closeDisc via c args) s = .next t ∧ RatSays s t via k 2 a.ctx 10 ∧
      FldsBut [F.pchRatCmd_result k] s t ∧ FrameBut [.regs, .fw] s t)) ∧
  (∀ (c : Chan) (s : State), let k := c.toNat; let d := s.discOf k
    (d.opened = true → d.spent < d.frames →
      (∀ a, d.inFrame < 8 → d.total < 255 → ∃ t, exec (.discAnswer c a) s = .next t ∧
        t.discOf k = { d with inFrame := d.inFrame + 1, total := d.total + 1, recs := d.recs ++ [{ ans := a, frame := d.spent, known := s.knownSn k a.sn0 a.sn1 }] } ∧
        t.fw = s.fw ++ [{ kind := 4, chan := k, words := [a.sn0, a.sn1, a.coarse, a.profile, d.spent, (s.knownSn k a.sn0 a.sn1).getD 0x10000] }] ∧
        t.cnt = (s.count Cn.discResponses k).cnt ∧ t.fld (F.pchRatDsts_records k) = d.total + 1 ∧ t.onu = s.onu ∧
        FldsBut [F.pchRatDsts_records k] s t ∧ FrameBut [.regs, .cnt, .disc, .fw] s t) ∧
      (∀ a, 8 ≤ d.inFrame → exec (.discAnswer c a) s = .next (s.count Cn.discOverflow k)) ∧
      (∀ e, ∃ t, exec (.discSpanEnd c e) s = .next t ∧ t.discOf k = { d with spent := d.spent + 1, inFrame := 0 } ∧
        t.cnt = (if e = true ∧ d.inFrame = 0 then (s.count Cn.discCollision k).cnt else s.cnt) ∧ FrameBut [.cnt, .disc] s t) ∧
      exec (.discWindowEnd c) s = .next s) ∧
    (d.opened = false → (∀ a, exec (.discAnswer c a) s = .next s) ∧ (∀ e, exec (.discSpanEnd c e) s = .next s) ∧ exec (.discWindowEnd c) s = .next s) ∧
    (d.opened = true → d.spent = d.frames → ∃ t, exec (.discWindowEnd c) s = .next t ∧ t.discOf k = { d with opened := false, ended := true } ∧
      t.flag (F.pchRatDsts_open k) = false ∧ t.fld (F.pchRatDsts_last_comp k) = 1 ∧ Posted (s.count Cn.discWindows k) t 0x0A20 [k, 1, d.total] ∧
      FldsBut [F.pchRatDsts_open k, F.pchRatDsts_last_comp k, F.glbRatPool_free, F.glbRatPool_low_water] s t ∧ FrameBut [.regs, .cnt, .evq, .mem, .disc] s t) ∧
    (s.ch k = 3 → exec (.chLeftBoundary c) s = .next s) ∧
    (s.ch k ≠ 3 → ∃ t, exec (.chLeftBoundary c) s = .next t ∧ (t.discOf k).opened = false ∧ (d.opened = true → t.fld (F.pchRatDsts_last_comp k) = 3) ∧
      (∀ n, n ∉ s.measuring k → t.onuOf n = s.onuOf n) ∧
      (∀ n ∈ s.measuring k, (s.onuOf n).meas.isSome = true → t.onuOf n = { s.onuOf n with meas := none, outcome := 4, st := (s.onuOf n).prior }) ∧
      FldsBut [F.pchRatDsts_open k, F.pchRatDsts_last_comp k, F.glbRatPool_free, F.glbRatPool_low_water] s t ∧ FrameBut [.regs, .cnt, .evq, .mem, .disc, .onu] s t))

/-- A context command that is taken on a context of its channel and finds it in a state R112 lists for it reports COMPLETED and changes that context only: CREATE binds a FREE context to the channel and serial number, IDLE, without keys, preset, PM state, drift filter or results, key index 1; ASSIGN gives an IDLE one its ONU-ID; RANGE starts a measurement with the arguments, remembers the prior state, clears the preset and drops
proposal, update and drift flag; ACTIVATE after MEASURED makes it ACTIVE with drift filter 0; SET_EQD with the proposal's eqd starts the update; RELEASE frees an IDLE one. DEACTIVATE returns an ASSIGNED, ACTIVE or LOST context to IDLE without ONU-ID, pending PM seconds, proposal, update and drift flag, and in RANGING with a measurement also ends it ABORTED with RANGE_DONE; ABORT_RANGE ends a measurement ABORTED with RANGE_DONE and returns to the prior state, and reports ABORT_LATE
with no effect when none is in progress. RAT_READ gives the context's eight words in the window or in a message. What a frame boundary has yet to put in force (R112) stays. Where a clause rests on a reading or a choice of the model, it is one of log entry 69. -/
def Obligations.contextCommands : Prop :=
  (∀ (via : Option Master) (c : Chan) (args a : RatArgs) (s : State), let k := c.toNat; let n := a.ctx; let o := s.onuOf n; RatTaken s via k args a → s.otherCh n k = false →
    let done := fun (x : Instr) (op : Nat) (o' : OnuCtx) => ∃ t, exec x s = .next t ∧ RatSays s t via k op n 0 ∧ t.onuOf n = o' ∧ (∀ j, j ≠ n → t.onuOf j = s.onuOf j) ∧
      FldsBut [F.pchRatCmd_result k] s t ∧ FrameBut [.regs, .onu, .fw] s t
    let now := fun (o' : OnuCtx) => { o' with stNow := o.stNow, chanNow := o.chanNow, onuIdNow := o.onuIdNow, keyIxNow := o.keyIxNow }
    (o.st = 0 → (∀ p ∈ s.onu, p.2.st ≠ 0 → p.2.chan = k → p.2.sn0 = a.a1 → p.2.sn1 ≠ a.a2) → ∃ t, exec (.create via c args) s = .next t ∧ RatSays s t via k 3 n 0 ∧
      t.onuOf n = now { onuInit with st := 1, chan := k, sn0 := a.a1, sn1 := a.a2 } ∧ (∀ j, j ≠ n → t.onuOf j = s.onuOf j) ∧ t.keysOf n = noKeys ∧
      (∀ j, j ≠ n → t.keysOf j = s.keysOf j) ∧ FrameBut [.regs, .onu, .fw, .mem, .shr] s t) ∧
    (a.onuId ≤ 1020 → o.st = 1 → (s.held k).length < 256 → (∀ x ∈ s.held k, x.onuId ≠ a.onuId) → done (.assign via c args) 4 { o with st := 2, onuId := a.onuId }) ∧
    (a.tries ≠ 0 → o.st = 2 ∨ o.st = 4 ∨ o.st = 5 → (s.measuring k).length < 8 → done (.range_ via c args) 5 { o with drift := false, prop := none, update := none, prior := o.st, st := 3, presetValid := false, measured := false, meas := some { tries := a.tries, rtdMin := a.a1, rtdMax := a.a2, profile := bits a.a3 1 0 } }) ∧
    (o.st = 3 → o.measured = true → done (.activate via c args) 6 { o with drift := false, prop := none, update := none, st := 4, f := 0, measured := false }) ∧
    (∀ p, o.prop = some p → o.st = 4 → o.update = none → a.a1 = p.2.1 → done (.setEqd via c args) 7 { o with update := some (s.fld (F.pchRatDrift_upd_frames k) + 1) }) ∧
    (2 ≤ o.st → o.meas = none → done (.deactivate via c args) 8 { o with drift := false, prop := none, update := none, st := 1, onuId := 0, measured := false, lobi := false, missed := 0, gasp := false, granted := 0, errored := 0, lossSeen := false, pm := [], unavail := false }) ∧
    (2 ≤ o.st → o.meas.isSome = true → ∃ t, exec (.deactivate via c args) s = .next t ∧ RatSays s t via k 8 n 0 ∧ (t.onuOf n).st = 1 ∧ (t.onuOf n).onuId = 0 ∧
      (t.onuOf n).meas = none ∧ (t.onuOf n).outcome = 3 ∧ (t.onuOf n).pm = [] ∧ (t.onuOf n).update = none ∧ (∀ j, j ≠ n → t.onuOf j = s.onuOf j) ∧
      Posted s t 0x0A21 [o.chan, n, 3] ∧ FldsBut [F.pchRatCmd_result k] s t ∧ FrameBut [.regs, .onu, .fw, .evq, .cnt, .mem] s t) ∧
    (o.st = 1 → done (.release via c args) 9 (now onuInit)) ∧
    (o.st = 3 → o.meas.isSome = true → ∃ t, exec (.abortRange via c args) s = .next t ∧ RatSays s t via k 10 n 9 ∧
      t.onuOf n = { o with meas := none, outcome := 3, st := o.prior } ∧ (∀ j, j ≠ n → t.onuOf j = s.onuOf j) ∧ Posted s t 0x0A21 [o.chan, n, 3] ∧
      FldsBut [F.pchRatCmd_result k] s t ∧ FrameBut [.regs, .onu, .fw, .evq, .cnt, .mem] s t) ∧
    (o.st = 3 → o.meas = none → ∃ t, exec (.abortRange via c args) s = .next t ∧ RatSays s t via k 10 n 10 ∧ FldsBut [F.pchRatCmd_result k] s t ∧ FrameBut [.regs, .fw] s t)) ∧
  (∀ (via : Option Master) (c : Chan) (args a : RatArgs) (s : State), let k := c.toNat; let n := a.ctx; let o := s.onuOf n
    s.ratOpen via = true → s.ratArgs via k args = a → a.poison = false → s.otherCh n k = false → o.st ≠ 0 → s.poisoned 3 (Config.wordIx 3 kOnuCtx n) = false →
      Tbl.find s.mem.flipped (memKey 3 (Config.wordIx 3 kOnuCtx n)) 0 = 0 → ∃ t, exec (.ratRead via c args .clean) s = .next t ∧ FrameBut [.regs, .fw] s t ∧
        (via = none → t.fw = s.fw ++ [{ kind := 10, chan := k, words := n :: ratWords o }, { kind := 9, chan := k, words := [11, n, 0] }]) ∧
        (via ≠ none → (∀ i, i < 8 → t.fld (F.pchRatRd k i) = wordOf (ratWords o) i % 2 ^ 32) ∧ t.fld (F.pchRatCmd_result k) = 0 ∧ t.fw = s.fw))

/-- RANGE_MEASURED of a context in RANGING with a measurement on a RUNNING channel: the round-trip delay is the offset less the equalisation delay in use, 0 from ASSIGNED (R115); outside the measurement's span nothing changes; above teqd the measurement ends OUT_OF_REACH and nothing is stored; else rtd, eqd = (teqd − rtd) div tpb and the residue are stored and it ends MEASURED, in RANGING, with RANGE_DONE, and the PLOAMu goes to firmware (R121).
RANGE_TRIES_EXHAUSTED with no try left ends it NO_RESPONSE. RANGE_UPDATE_TIMEOUT of an update with no frame left drops proposal, update and drift flag and posts its event (R124). ONU_LOST moves an ACTIVE context in LOBi, or whose channel is neither RUNNING nor in STANDBY, to LOST with its event (R125). Otherwise these commands change nothing. The drift filter's step (R122) and the equalisation delay (R121) are as the spec's formulas give. Where a clause rests on a reading or a choice of the model, it is one of log entries 69, 70. -/
def Obligations.rangingResults : Prop :=
  (∀ (n : Onu) (x : Word) (b : List Byte) (s : State), let o := s.onuOf n.toNat; let k := o.chan
    let rtd := (x.toNat : Int) - (if o.prior = 2 then 0 else o.eqd * s.tpb k : Nat); let teqd := s.fld (F.pchRatTeqd_teqd k)
    let fw := s.fw ++ [{ kind := 3, chan := k, words := [n.toNat, 2, s.nowNs] ++ b.map (·.toNat) }]
    (o.meas = none ∨ o.st ≠ 3 ∨ s.ch k ≠ 3 → exec (.rangeMeasured n x b) s = .next s) ∧
    (∀ m, o.meas = some m → o.st = 3 → s.ch k = 3 →
      (rtd < m.rtdMin ∨ m.rtdMax < rtd → exec (.rangeMeasured n x b) s = .next s) ∧
      (m.rtdMin ≤ rtd → rtd ≤ m.rtdMax → teqd < rtd → ∃ t, exec (.rangeMeasured n x b) s = .next t ∧ t.onuOf n.toNat = { o with meas := none, outcome := 2, st := o.prior } ∧ t.fw = fw ∧
        (∀ j, j ≠ n.toNat → t.onuOf j = s.onuOf j) ∧ Posted (s.count Cn.rngOutOfReach k) t 0x0A21 [k, n.toNat, 2] ∧ FrameBut [.onu, .fw, .evq, .cnt, .mem] s t) ∧
      (m.rtdMin ≤ rtd → rtd ≤ m.rtdMax → rtd ≤ teqd → ∃ t, exec (.rangeMeasured n x b) s = .next t ∧
        t.onuOf n.toNat = { o with meas := none, outcome := 0, measured := true, rtd := rtd.toNat, eqd := (teqd - rtd.toNat) / s.tpb k, residue := (teqd - rtd.toNat) % s.tpb k } ∧
        t.fw = fw ∧ (∀ j, j ≠ n.toNat → t.onuOf j = s.onuOf j) ∧ Posted s t 0x0A21 [k, n.toNat, 0] ∧ FrameBut [.onu, .fw, .evq, .cnt, .mem] s t) ∧
      (m.tries = 0 → ∃ t, exec (.rangeTriesExhausted n) s = .next t ∧ t.onuOf n.toNat = { o with meas := none, outcome := 1, st := o.prior } ∧
        (∀ j, j ≠ n.toNat → t.onuOf j = s.onuOf j) ∧ Posted (s.count Cn.rngNoResponse k) t 0x0A21 [k, n.toNat, 1] ∧ FrameBut [.onu, .evq, .cnt, .mem] s t) ∧
      (m.tries ≠ 0 → exec (.rangeTriesExhausted n) s = .next s)) ∧
    (o.meas = none → exec (.rangeTriesExhausted n) s = .next s) ∧
    (o.update = some 0 → ∃ t, exec (.rangeUpdateTimeout n) s = .next t ∧ t.onuOf n.toNat = { o with drift := false, prop := none, update := none } ∧
      (∀ j, j ≠ n.toNat → t.onuOf j = s.onuOf j) ∧ Posted s t 0x0A23 [k, n.toNat] ∧ FrameBut [.onu, .evq, .cnt, .mem] s t) ∧
    (o.update ≠ some 0 → exec (.rangeUpdateTimeout n) s = .next s) ∧
    (o.st = 4 → s.ch k ≠ 4 → o.lobi = true ∨ s.ch k ≠ 3 → ∃ t, exec (.onuLost n) s = .next t ∧ t.onuOf n.toNat = { o with drift := false, prop := none, update := none, st := 5 } ∧
      (∀ j, j ≠ n.toNat → t.onuOf j = s.onuOf j) ∧ Posted s t 0x0A24 [k, n.toNat] ∧ FrameBut [.onu, .evq, .cnt, .mem] s t) ∧
    (o.st ≠ 4 ∨ s.ch k = 4 ∨ (o.lobi = false ∧ s.ch k = 3) → exec (.onuLost n) s = .next s)) ∧
  (∀ f e : Int, let g := f + (e - f).tdiv 16; driftStep f e = if 32767 < g then 32767 else if g < -32768 then -32768 else g) ∧
  (∀ (teqd tpb : Nat) (rtd : Int), (rtd < 0 ∨ teqd < rtd → eqdOf teqd tpb rtd = none) ∧
    (∀ d : Nat, rtd = d → d ≤ teqd → 0 < tpb → ∃ q r, eqdOf teqd tpb rtd = some (d, q, r) ∧ d + q * tpb + r = teqd ∧ r < tpb)) ∧
  (∀ (s : State) (k : Nat), s.tpb k = if s.fld (F.pchMode_mode k) = 2 then 40 else match s.fld (F.pchMode_us_rate k) with | 0 => 32 | 1 => 16 | _ => 8)

/-- CHECK, CHECK_DONE, APPLY, ABORT and DISCARD (R50), from a master that may write RIG with the host domain out of reset. CHECK starts the checker in OPEN, CHECKED and FAILED, and completes BAD_STATE elsewhere. The verdict leads from CHECKING to CHECKED, or to FAILED with
the violations recorded, at most 256, and posts CHECK_DONE. APPLY completes BAD_STATE unless the machine is CHECKED, no device-initiated apply is pending (R53) and the device is not in reefed hold (R370); LATE_SCHEDULE when the scheduled time fails R56; else it drains while the previous epoch is live, and with none live
reaches the apply instant at once, or ARMED when it is scheduled. ABORT stops a check, a drain and an armed apply with completion ABORTED, completes ABORT_LATE after a verdict and after an apply instant, and BAD_STATE in REGION; in OPEN otherwise it has no effect. DISCARD empties the staged set and completes, and is refused BAD_STATE in DRAINING, ARMED and REGION.
A command from any other master has no effect (R49). Where a clause rests on a reading or a choice of the model, it is one of log entries 20, 21. -/
def Obligations.stagingMachine : Prop :=
  (∀ (m : Master) (s : State), mayWrite m = true → s.released 2 = true →
    (s.rigState = 0 ∨ s.rigState = 2 ∨ s.rigState = 3 → ∃ t, exec (.check_ m) s = .next t ∧ t.rigState = 1 ∧ t.flag F.rigSts_busy = true ∧
      t.rig = { s.rig with fresh := false } ∧ FldsBut [F.rigSts_state, F.rigSts_busy] s t ∧ FrameBut [.regs, .rig] s t) ∧
    (s.rigState = 1 ∨ 4 ≤ s.rigState → exec (.check_ m) s = .next (s.complete 5)) ∧
    (s.rigState ≠ 2 ∨ s.sup.reefed = true ∨ s.rig.devApplies ≠ [] → ∀ b, ∃ t, exec (.apply_ m b) s = .next t ∧ t.fld F.rigSts_completion = 5 ∧
      t.rig = { s.rig with fresh := false } ∧ FldsBut [F.rigSts_completion] s t ∧ FrameBut [.regs, .rig] s t) ∧
    (s.rigState = 2 → s.sup.reefed = false → s.rig.devApplies = [] →
      (s.schedOk = false → exec (.apply_ m true) s = .next (s.complete 6)) ∧
      (∀ b, (b = true → s.schedOk = true) → s.prevLive = true → ∃ t, exec (.apply_ m b) s = .next t ∧ t.rigState = 4 ∧ t.rig.sched = b ∧
        t.rig.schedNs = s.fld F.rigSchedNs_ns ∧ t.rig.schedSec = s.fld F.rigSchedSecHi_sec_hi * 2 ^ 32 + s.fld F.rigSchedSecLo_sec_lo ∧
        FldsBut [F.rigSts_state, F.rigSts_busy] s t ∧ FrameBut [.regs, .rig] s t) ∧
      (s.schedOk = true → s.prevLive = false → ∃ t, exec (.apply_ m true) s = .next t ∧ t.rigState = 5 ∧ t.rig.sched = true ∧
        FldsBut [F.rigSts_state, F.rigSts_busy] s t ∧ FrameBut [.regs, .rig] s t) ∧
      (s.prevLive = false → ∃ u, exec (.apply_ m false) s = .next u.applyInstant ∧ u.rigState = 4 ∧ u.staged = s.staged ∧
        FldsBut [F.rigSts_state, F.rigSts_busy] s u ∧ FrameBut [.regs, .rig] s u)) ∧
    (s.rigState = 1 → ∃ t, exec (.abort_ m) s = .next t ∧ t.rigState = 0 ∧ t.fld F.rigSts_completion = 2 ∧
      FldsBut [F.rigSts_state, F.rigSts_busy, F.rigSts_completion] s t ∧ FrameBut [.regs, .rig] s t) ∧
    (s.rigState = 4 ∨ s.rigState = 5 → s.rig.devApplies = [] → ∃ t, exec (.abort_ m) s = .next t ∧ t.rigState = 2 ∧ t.fld F.rigSts_completion = 2 ∧
      FldsBut [F.rigSts_state, F.rigSts_busy, F.rigSts_completion] s t ∧ FrameBut [.regs, .rig] s t) ∧
    (s.rigState = 2 ∨ s.rigState = 3 ∨ (s.rigState = 0 ∧ s.rig.fresh = true) → exec (.abort_ m) s = .next (s.complete 3)) ∧
    (s.rigState = 0 → s.rig.fresh = false → exec (.abort_ m) s = .next s) ∧
    (s.rigState = 6 → exec (.abort_ m) s = .next (s.complete 5)) ∧
    (s.rigState < 4 → ∃ t, exec (.discard m) s = .next t ∧ t.staged = [] ∧ t.stagedRecs = [] ∧ t.stagedLog = [] ∧ t.rigState = 0 ∧
      t.fld F.rigSts_completion = 1) ∧
    (4 ≤ s.rigState → exec (.discard m) s = .next (s.complete 5))) ∧
  (∀ s : State, s.rigState = 1 → ∃ t, exec .checkDone s = .next t ∧ t.rig = { s.rig with viols := s.violations.take 256, fresh := false } ∧
    t.fld F.rigSts_viol_count = min 256 s.violations.length ∧
    (s.violations = [] → t.rigState = 2 ∧ t.fld F.rigSts_completion = 1) ∧ (s.violations ≠ [] → t.rigState = 3 ∧ t.fld F.rigSts_completion = 4) ∧
    Posted s t 0x0201 [] ∧ FldsBut [F.rigSts_viol_count, F.rigSts_state, F.rigSts_busy, F.rigSts_completion] s t ∧
    FrameBut [.regs, .rig, .evq, .cnt, .mem] s t) ∧
  (∀ (m : Master) (b : Bool) (s : State), mayWrite m = false →
    exec (.check_ m) s = .next s ∧ exec (.apply_ m b) s = .next s ∧ exec (.abort_ m) s = .next s ∧ exec (.discard m) s = .next s)

/-- Advancing makes the next epoch current, modulo 65,536, and the old one previous and live, and keeps what the previous epoch reads (R14, R57). DRAIN_END, once nothing of the previous epoch is left before its settle point, and DRAIN_FORCED, which first drops the packets and messages
that are left and posts DRAIN_FORCED, end the drain: the previous epoch is not live, the duration is shown, and a machine in DRAINING goes to its apply instant, or to ARMED when scheduled (R55). The scheduled time of an ARMED apply leads to the apply instant, or under reefed hold back to CHECKED, ABORTED,
with SCHED_CANCELLED (R56, R370). RERIG completes BAD_STATE unless the machine is OPEN with an empty staged set and nothing pending; SIG_FAILED when the slot does not meet R44; CHECK_FAILED on violations; else the machine is in REGION and the region's traffic stops (R58). RERIG_DONE, once the previous epoch has drained,
completes with the region in service. Where a clause rests on a reading or a choice of the model, it is one of log entries 20, 22, 24. -/
def Obligations.epochsAndDrain : Prop :=
  (∀ s : State, s.advance.epoch = (s.epoch + 1) % 65536 ∧ s.advance.fld F.rigEpoch_previous = s.epoch ∧ s.advance.prevLive = true ∧
    s.advance.prevRegs = s.regs ∧ s.advance.prevRecs = s.recs ∧
    FldsBut [F.rigEpoch_previous, F.rigEpoch_current, F.rigSts_prev_live] s s.advance ∧ FrameBut [.regs, .prevRegs, .prevRecs] s s.advance) ∧
  (∀ (us : BitVec 20) (s : State), s.prevLive = true →
    (s.oldUnits (s.fld F.rigEpoch_previous) = false → s.oldFrames (s.fld F.rigEpoch_previous) = false →
      exec (.drainEnd us) s = .next (s.drained us.toNat)) ∧
    (s.oldUnits (s.fld F.rigEpoch_previous) = true ∨ s.oldFrames (s.fld F.rigEpoch_previous) = true → exec (.drainEnd us) s = .next s) ∧
    (s.oldFrames (s.fld F.rigEpoch_previous) = false → ∃ u, exec .drainForced s = .next (u.drained (s.fld F.rigDrainLimit_limit_us)) ∧
      u = (s.dropUnits (s.fld F.rigEpoch_previous)).post 0x0205 [] ∧ u.oldUnits (s.fld F.rigEpoch_previous) = false)) ∧
  (∀ s : State, s.rigState = 5 → s.rig.schedSec * 1000000000 + s.rig.schedNs ≤ s.nowNs →
    (s.sup.reefed = false → exec .schedTimeReached s = .next s.applyInstant) ∧
    (s.sup.reefed = true → ∃ t, exec .schedTimeReached s = .next t ∧ t.rigState = 2 ∧ t.fld F.rigSts_completion = 2 ∧
      Posted s t 0x0204 [Config.eventWord 0x0204 1] ∧ FldsBut [F.rigSts_state, F.rigSts_busy, F.rigSts_completion] s t ∧
      FrameBut [.regs, .rig, .evq, .cnt, .mem] s t)) ∧
  (∀ s : State, s.nowNs < s.rig.schedSec * 1000000000 + s.rig.schedNs → exec .schedTimeReached s = .next s) ∧
  (∀ (m : Master) (r : BitVec 16) (k : Bool) (s : State), mayWrite m = true → s.released 2 = true →
    (s.rigState ≠ 0 ∨ s.stagedEmpty = false ∨ s.sup.reefed = true ∨ s.rig.devApplies ≠ [] ∨ s.fld F.glbStart_phase ≠ 6 →
      exec (.rerig m r k) s = .next (s.complete 5)) ∧
    (s.rigState = 0 → s.stagedEmpty = true → s.sup.reefed = false → s.rig.devApplies = [] → s.fld F.glbStart_phase = 6 →
      ((s.slotOf k.toNat).st = 0 ∨ s.meets (s.slotOf k.toNat).img = false → exec (.rerig m r k) s = .next (s.complete 7)) ∧
      ((s.slotOf k.toNat).st ≠ 0 → s.meets (s.slotOf k.toNat).img = true →
        (s.rerigViolations (s.slotOf k.toNat).img r.toNat ≠ [] → ∃ t, exec (.rerig m r k) s = .next t ∧ t.fld F.rigSts_completion = 4 ∧
          t.rig.viols = (s.rerigViolations (s.slotOf k.toNat).img r.toNat).take 256 ∧ FldsBut [F.rigSts_viol_count, F.rigSts_completion] s t ∧
          FrameBut [.regs, .rig] s t) ∧
        (s.rerigViolations (s.slotOf k.toNat).img r.toNat = [] → ∃ u, u.rigState = 6 ∧ u.rig.region = r.toNat ∧ u.rig.regionSlot = k.toNat ∧
          FldsBut [F.rigSts_state, F.rigSts_busy] s u ∧ FrameBut [.regs, .rig] s u ∧
          exec (.rerig m r k) s = .next (if r.toNat = 0 then u.lasersOff.resetDomains [7, 6]
            else if r.toNat < 0x200 then u.forAll 8 (fun (t : State) n => t.stopCh (8 * (r.toNat - 0x100) + n)) else u.stopUplink (r.toNat - 0x200)))))) ∧
  (∀ s : State, s.rigState = 6 → s.prevLive = true → exec .rerigDone s = .next s) ∧
  (∀ s : State, s.rigState = 6 → s.prevLive = false → ∃ u v : State, exec .rerigDone s = .next v.tryDeviceApply ∧
    u.epoch = (s.epoch + 1) % 65536 ∧ u.fld F.rigEpoch_previous = s.epoch ∧ u.prevLive = true ∧ u.rigState = 0 ∧ u.fld F.rigSts_completion = 1 ∧ u.rig.fresh = true ∧
    FrameBut [.regs, .prevRegs, .prevRecs, .rig] s u ∧ s.rig.region ∉ v.rig.suspect ∧
    v = (((if s.rig.region = 0 then ((u.releaseDomains [6, 7]).bindAll (s.slotOf s.rig.regionSlot).img).mateStart
      else if s.rig.region < 0x200 then u.startGroup (s.slotOf s.rig.regionSlot).img (s.rig.region - 0x100)
      else (u.bindUplink (s.slotOf s.rig.regionSlot).img (s.rig.region - 0x200)).forAll 8
        (fun (t : State) p => t.setPort (256 + 8 * (s.rig.region - 0x200) + p) port0)).clearSuspect s.rig.region).showBusy).post 0x0206 [s.rig.region])

/-- The commands that act beside the staging machine, from a master that may write RIG with the host domain out of reset. LOCK_WRITE sets lock bits and clears none (R59). LOAD_TRIM runs until LOAD_TRIM_DONE stages its records; in DRAINING, ARMED and REGION it is a staging write that is lost. CONFIRM makes a TRYING slot GOOD and ends its trial, and completes BAD_STATE otherwise; a trial's
last 60 s are posted; its expiry makes the slot BAD with a journal record that a reset follows (R47). LOAD_SLOT empties the slot that is not running; its end makes it NEW with the image when the image meets R44, else SIG_FAILED, or FLASH_ERROR (R48). FUSE_OWNER, from master identity 0x00 only, fuses the running image's owner key when none is fused, and never changes a fused one (R44).
ATTEST takes the report's fields, and its end writes 320 bytes to host memory and posts ATTEST_DONE (R60). Where a clause rests on a reading or a choice of the model, it is one of log entry 27. -/
def Obligations.slotsAndAttestation : Prop :=
  (∀ (m : Master) (s : State), mayWrite m = true → s.released 2 = true →
    (∀ b : BitVec 16, ∃ t, exec (.lockWrite m b) s = .next t ∧ t.fld F.rigLock_lock = s.fld F.rigLock_lock ||| b.toNat ∧
      FldsBut [F.rigLock_lock] s t ∧ FrameBut [.regs] s t) ∧
    (s.rig.loadTrimBusy = false → s.rigState < 4 → ∃ t, exec (.loadTrim m) s = .next t ∧ t.rig = { s.rig with loadTrimBusy := true } ∧
      t.flag F.rigSts_busy = true ∧ FldsBut [F.rigSts_busy] s t ∧ FrameBut [.regs, .rig] s t) ∧
    (s.rig.loadTrimBusy = false → s.rigState = 4 ∨ s.rigState = 5 ∨ s.rigState = 6 → ∃ t, exec (.loadTrim m) s = .next t ∧
      t.flag F.rigSts_stage_write_lost = true ∧ Posted s t 0x020A [] ∧ FldsBut [F.rigSts_stage_write_lost] s t ∧
      FrameBut [.regs, .evq, .cnt, .mem] s t) ∧
    (s.booted = true → (s.slotOf s.runSlot).st = 2 → ∃ t, exec (.confirm m) s = .next t ∧ (t.slotOf s.runSlot).st = 3 ∧ t.rig.trialStart = none ∧
      t.fld F.rigSts_completion = 1 ∧ FrameBut [.regs, .rig, .mem] s t) ∧
    ((s.slotOf s.runSlot).st ≠ 2 → exec (.confirm m) s = .next (s.complete 5)) ∧
    (s.rig.loadSlotBusy = false → 4 ≤ s.fld F.glbStart_phase → ∃ t, exec (.loadSlot m) s = .next t ∧ (t.slotOf (1 - s.runSlot)).st = 0 ∧
      t.rig.loadSlotBusy = true ∧ t.flag F.rigSts_busy = true ∧ t.slotOf s.runSlot = s.slotOf s.runSlot ∧ FrameBut [.regs, .rig, .mem] s t) ∧
    (s.rig.attestBusy = false → ∃ t, exec (.attest m) s = .next t ∧ t.rig = { s.rig with attestBusy := true, attest := s.report } ∧
      t.flag F.rigSts_busy = true ∧ FldsBut [F.rigSts_busy] s t ∧ FrameBut [.regs, .rig] s t) ∧
    (s.rig.attestBusy = true → exec (.attest m) s = .next (s.complete 5))) ∧
  (∀ (rs : List TrimRecord) (s : State), s.rig.loadTrimBusy = true → s.rigState < 4 → ∃ u, u.rig.loadTrimBusy = false ∧
    FldsBut [F.rigSts_busy] s u ∧ FrameBut [.regs, .rig] s u ∧
    exec (.loadTrimDone rs) s = .next ((u.stagingWrite (fun (t : State) => rs.foldl (fun (t : State) r => t.trimRecord r) t)).complete 1)) ∧
  (∀ s : State, s.rig.trialStart.isSome = true → (exec .trialExpiring s = .next (s.post 0x0208 [])) ∧
    ∃ t, exec .trialExpiry s = .next t ∧ (t.slotOf s.runSlot).st = 4 ∧ t.rig.trialStart = none ∧ FrameBut [.regs, .rig, .mem] s t) ∧
  (∀ (i : Image) (s : State), s.rig.loadSlotBusy = true →
    (∃ t, exec (.loadSlotDone i false) s = .next t ∧ t.fld F.rigSts_completion = 8 ∧ t.rig = { s.rig with loadSlotBusy := false } ∧
      FldsBut [F.rigSts_busy, F.rigSts_completion] s t ∧ FrameBut [.regs, .rig] s t) ∧
    (s.meets i = false → ∃ t, exec (.loadSlotDone i true) s = .next t ∧ t.fld F.rigSts_completion = 7 ∧ t.rig = { s.rig with loadSlotBusy := false } ∧
      FldsBut [F.rigSts_busy, F.rigSts_completion] s t ∧ FrameBut [.regs, .rig] s t) ∧
    (s.meets i = true → i.len ≤ 62914560 → ∃ t, exec (.loadSlotDone i true) s = .next t ∧ t.slotOf (1 - s.runSlot) = { st := 1, img := i } ∧
      t.slotOf s.runSlot = s.slotOf s.runSlot ∧ t.fld F.rigSts_completion = 1 ∧ t.rig.loadSlotBusy = false ∧ FrameBut [.regs, .rig, .mem] s t)) ∧
  (∀ (m : Master) (s : State),
    (m ≠ 0 → exec (.fuseOwner m) s = .next s) ∧
    (s.released 2 = true → s.booted = true → ∃ t, exec (.fuseOwner 0) s = .next t ∧
      t.rig = { s.rig with ownerHash := some (s.rig.ownerHash.getD s.rig.run.ownerKey) } ∧ t.flag F.rigBoot_owner_fused = true ∧
      t.fld F.rigSts_completion = 1 ∧ FrameBut [.regs, .rig] s t)) ∧
  (∀ s : State, s.rig.attestBusy = true → ∃ t, exec .attestDone s = .next t ∧ t.rig = { s.rig with attestBusy := false, attest := [] } ∧
    t.hostMem = (s.hostWrite (s.fld F.rigAttAddrHi_addr * 2 ^ 32 + s.fld F.rigAttAddrLo_addr * 64)
      (s.rig.attest ++ (Config.sign s.rig.attest ++ List.replicate 96 0).take 96)).hostMem ∧
    t.fld F.rigSts_completion = 1 ∧ Posted s t 0x0209 [] ∧ FldsBut [F.rigSts_busy, F.rigSts_completion] s t ∧
    FrameBut [.regs, .rig, .hostMem, .evq, .cnt, .mem] s t)

/-- MAP_BUILD_START of a RUNNING channel that is not stuck, whose slice builds maps and which has no build or verdict of the frame after next yet adds one build of that frame, with the epoch of now, and, unless an Alloc it reads is poisoned, the map that R145's procedure gives for its snapshot; otherwise it changes nothing. MAP_VERDICT decides the oldest build: poisoned rejects with 8, a disagreement with 1, a broken rule of the checker with the first such reason, a checker disagreement with 7, and
else the map is accepted: it waits for its frame, becomes the channel's last map, the episode ends and map_accepted counts. A rejection leaves a verdict without a map, its reason in HAL_CH_STS and one count of map_held under it (R148, R149). MAP_LATE_DEADLINE rejects the build of the next frame with 2. Without a build these change nothing. Map units and burst lengths are as R136 and R137 give. Where a clause rests on a reading or a choice of the model, it is one of log entries 71, 72, 74. -/
def Obligations.mapBuilds : Prop :=
  (∀ (c : Chan) (bad : Option AllocIx) (s : State), let k := c.toNat; let f := (s.fld (F.pchSfcHi_sfc k) * 2 ^ 32 + s.fld (F.pchSfcLo_sfc k) + 2) % 2 ^ 51; let h := s.halOf k
    (s.ch k ≠ 3 ∨ s.flag (F.halChSts_stuck k) = true ∨ s.fld F.halSts_slice_lost / 2 ^ (k / 32) % 2 = 1 ∨ (∃ b ∈ h.builds, b.snap.sfc = f) ∨ (∃ v ∈ h.verdicts, v.sfc = f) →
      exec (.mapBuildStart c bad) s = .next s) ∧
    (s.ch k = 3 → s.flag (F.halChSts_stuck k) = false → s.fld F.halSts_slice_lost / 2 ^ (k / 32) % 2 = 0 → (∀ b ∈ h.builds, b.snap.sfc ≠ f) → (∀ v ∈ h.verdicts, v.sfc ≠ f) →
      ∃ t b, exec (.mapBuildStart c bad) s = .next t ∧ (t.halOf k).builds = h.builds ++ [b] ∧ (t.halOf k).verdicts = h.verdicts ∧ b.snap.chan = k ∧ b.snap.sfc = f ∧
        b.snap.epoch = s.epoch ∧ b.snap.mode = s.fld (F.pchMode_mode k) ∧ (b.snap.poisoned = true → b.map = []) ∧
        (∀ a, bad = some a → a.toNat ∈ (s.allocsOf k).map (·.1) → b.snap.poisoned = true) ∧
        (b.snap.poisoned = false → b.map = (buildMap b.snap s.allocDyn s.hal.fwi (s.hal.tells.filter (fun t => decide (t.chan = k) && decide (t.sfc = f)))).1))) ∧
  (∀ (c : Chan) (w : Option (List (BitVec 64))) (d : Delivered) (s : State), let k := c.toNat; let h := s.halOf k
    (h.builds = [] → exec (.mapVerdict c w d) s = .next s) ∧
    (∀ b r, h.builds = b :: r →
      let m := match w with | none => b.map | some l => l.map (fun x => b.snap.entOf s.allocDyn x.toNat)
      let held := fun (reason : Nat) => ∃ t, exec (.mapVerdict c w d) s = .next t ∧ t.fld (F.halChSts_last_reason k) = reason ∧ (t.halOf k).last = h.last ∧
        (t.halOf k).verdicts = h.verdicts ++ [{ sfc := b.snap.sfc, map := none, reason := reason, epoch := b.snap.epoch, cfg := b.snap.cfg }]
      (b.snap.poisoned = true → held 8) ∧
      (b.snap.poisoned = false → d.minority.isSome = true → held 1) ∧
      (b.snap.poisoned = false → d.minority = none → checkMap b.snap m ≠ 0 → held (checkMap b.snap m)) ∧
      (b.snap.poisoned = false → d.minority = none → checkMap b.snap m = 0 → d.copiesDiffer = true → held 7) ∧
      (b.snap.poisoned = false → d.minority = none → checkMap b.snap m = 0 → d.copiesDiffer = false → ∃ t, exec (.mapVerdict c w d) s = .next t ∧
        (t.halOf k).builds = r ∧ (t.halOf k).last = m ∧ (t.halOf k).len = 0 ∧ (t.halOf k).first = false ∧ t.fld (F.halChSts_last_reason k) = 0 ∧ t.fld (F.halChSts_hold_len k) = 0 ∧
        (t.halOf k).verdicts = h.verdicts ++ [{ sfc := b.snap.sfc, map := some m, reason := 0, epoch := b.snap.epoch, cfg := b.snap.cfg }] ∧
        t.fld (F.halChLead_last_lead k) = min d.lead 65535 ∧ t.fld (F.halChLead_worst_lead k) = min (min d.lead 65535) (s.fld (F.halChLead_worst_lead k)) ∧
        FldsBut [F.halChLead_worst_lead k, F.halChLead_last_lead k, F.halChSts_hold_len k, F.halChSts_last_reason k] s t ∧
        FrameBut [.regs, .hal, .cnt, .evq, .mem, .rig, .mate, .out] s t))) ∧
  (∀ (c : Chan) (s : State), let k := c.toNat; let h := s.halOf k; let f := (s.fld (F.pchSfcHi_sfc k) * 2 ^ 32 + s.fld (F.pchSfcLo_sfc k) + 1) % 2 ^ 51
    ((∀ b ∈ h.builds, b.snap.sfc ≠ f) → exec (.mapLateDeadline c) s = .next s) ∧
    (∀ b, h.builds.find? (fun b => decide (b.snap.sfc = f)) = some b → ∃ t, exec (.mapLateDeadline c) s = .next t ∧ t.fld (F.halChSts_last_reason k) = 2 ∧
      (t.halOf k).verdicts = h.verdicts ++ [{ sfc := b.snap.sfc, map := none, reason := 2, epoch := b.snap.epoch, cfg := b.snap.cfg }] ∧ (t.halOf k).last = h.last ∧
      ∀ x ∈ (t.halOf k).builds, x.snap.sfc ≠ f)) ∧
  (∀ mode rate, unitTicks mode rate * frameUnits mode rate = ticksPerFrame) ∧
  (∀ (unit pre units : Nat) (p : Bool), 0 < unit → let n := 4 + (if p then 48 else 0) + units * unit + 4; let up := fun (a b : Nat) => (a + b - 1) / b
    burstLen 2 unit pre true p units = up (pre + 8 + n + 32 * up n 216) unit ∧ burstLen 2 unit pre false p units = up (pre + 8 + n) unit ∧
    ∀ f, burstLen 1 unit pre f p units = up (pre + 8 + n + 336 * up n 1824) unit)

/-- Whatever map the builders deliver, right or wrong: when MAP_VERDICT accepts one, it has at most 512 structures, each of its bursts is well formed under the build's snapshot, no ONU but in discovery has more than four bursts, and of its equalised bursts (all but the discovery and ranging grants) each ends at or before the frame length less the guard, any two keep the guard between them, and none, widened by the guard, meets a reservation (R147). -/
def Obligations.acceptedMapsSafe : Prop :=
  ∀ (c : Chan) (w : Option (List (BitVec 64))) (d : Delivered) (s t : State) (v : Verdict) (m : List MapEnt), exec (.mapVerdict c w d) s = .next t →
    v ∈ (t.halOf c.toNat).verdicts → v ∉ (s.halOf c.toNat).verdicts → v.map = some m → ∃ b, (s.halOf c.toNat).builds.head? = some b ∧ v.sfc = b.snap.sfc ∧
      m.length ≤ 512 ∧ (∀ x ∈ mapBursts m, burstOk b.snap x = true) ∧
      (∀ x ∈ mapBursts m, ∀ e ∈ x.head?, e.kind ≠ 1 → ((mapBursts m).filter (fun y => y.head?.map (·.onu) == some e.onu)).length ≤ 4) ∧
      let eq := (mapBursts m).filter (fun b => b.all (fun e => decide (e.kind = 0) || decide (e.kind = 3)))
      (∀ x ∈ eq, (b.snap.span x).2 ≤ b.snap.flen - b.snap.gu ∧ ∀ r ∈ b.snap.reserves, meets b.snap (b.snap.span x) r = false) ∧
      eq.Pairwise (fun x y => (b.snap.span x).2 + b.snap.gu ≤ (b.snap.span y).1 ∨ (b.snap.span y).2 + b.snap.gu ≤ (b.snap.span x).1)

/-- STATUS_REPORT_TAKEN takes the oldest report: the backlog becomes the report less the grants of accepted maps of later frames, at least 0, and nothing remains unreported (R144). TELLTALE_FRAME takes the oldest telltale frame: a wrong version, kind, count or length counts tt_bad and discards it whole; else its records are taken in order. A record whose Alloc is unknown or not eligible, or whose times break R155, counts tt_bad only; a cancel removes the reservations with its channel, Alloc-ID and tag; a notice that finds 4,096 reservations, or 4 of its
Alloc, counts tt_full and makes none (R156); else it counts tt_taken, and either tt_unmet, with none made, or tt_placed with one reservation more (R157). ALC_READ_APPLIED of a context whose word reads well answers its applied words and its backlog, ALC_READ_STAGED its staged words, ALC_WRITE_STAGED stages HAL_ALC_DATA0 to 4, ALC_CLEAR_DYNAMIC clears its dynamic state at once (R143); from another master they have no effect. Where a clause rests on a reading or a choice of the model, it is one of log entries 71, 73, 83. -/
def Obligations.reportsTelltalesAllocs : Prop :=
  (∀ s : State, (s.hal.reports = [] → exec .statusReportTaken s = .next s) ∧
    (∀ a r k rest, s.hal.reports = (a, r, k) :: rest → let d := s.allocDyn a; let later := (d.granted.filter (fun x => decide (k < x.1))).foldl (fun n x => n + x.2) 0
      ∃ t, exec .statusReportTaken s = .next t ∧ t.allocDyn a = { d with b := r - later, granted := [] } ∧ (∀ j, j ≠ a → t.allocDyn j = s.allocDyn j) ∧
        t.hal = { s.hal with reports := rest, dyn := t.hal.dyn } ∧ FrameBut [.hal] s t) ∧
    (s.hal.frames = [] → exec .telltaleFrame s = .next s) ∧
    (∀ x p ep rest, s.hal.frames = (x, p, ep) :: rest → let s' := { s with hal := { s.hal with frames := rest } }
      (p.getD 0 0 ≠ 1 ∨ (p.getD 1 0 ≠ 1 ∧ p.getD 1 0 ≠ 2) ∨ p.getD 2 0 = 0 ∨ 16 < p.getD 2 0 ∨ p.length < 12 + 24 * p.getD 2 0 →
        exec .telltaleFrame s = .next (s'.count Cn.ttBad 0)) ∧
      (p.getD 0 0 = 1 → p.getD 1 0 = 1 ∨ p.getD 1 0 = 2 → 1 ≤ p.getD 2 0 → p.getD 2 0 ≤ 16 → 12 + 24 * p.getD 2 0 ≤ p.length →
        exec .telltaleFrame s = .next ((List.range (p.getD 2 0)).foldl (fun t i => t.takeTell ep (p.getD 1 0) ((p.drop (8 + 24 * i)).take 24)) s')))) ∧
  (∀ (s : State) (ep kind : Nat) (b : List Nat), let num := fun lo n => beNat ((b.drop lo).take n); let c := num 0 1
    let early := s.fullSec (num 8 2) * 1000000000 + num 10 4; let late := s.fullSec (num 14 2) * 1000000000 + num 16 4
    ((s.allocsOf c).find? (fun x => decide (alId x.2 = num 2 2 % 0x4000)) = none → s.takeTell ep kind b = s.count Cn.ttBad 0) ∧
    (∀ a ws, (s.allocsOf c).find? (fun x => decide (alId x.2 = num 2 2 % 0x4000)) = some (a, ws) →
      (s.ch c ≠ 3 ∨ alTtEn ws = false ∨ s.activeOn c (alOnu ws) = false ∨ late < early ∨ s.nowNs + 1000000000 < late → s.takeTell ep kind b = s.count Cn.ttBad 0) ∧
      (s.ch c = 3 → alTtEn ws = true → s.activeOn c (alOnu ws) = true → early ≤ late → late ≤ s.nowNs + 1000000000 →
        (kind = 2 → (s.takeTell ep kind b).hal.tells = s.hal.tells.filter (fun t => !(decide (t.chan = c) && decide (t.alloc = a) && decide (t.tag = num 20 2)))) ∧
        (kind ≠ 2 → 4096 ≤ s.hal.tells.length → (s.takeTell ep kind b).hal.tells = s.hal.tells ∧ (s.hal.fullSaid = true → s.takeTell ep kind b = s.count Cn.ttFull 0)) ∧
        (kind ≠ 2 → s.hal.tells.length < 4096 → 4 ≤ (s.hal.tells.filter (fun t => decide (t.alloc = a))).length → s.takeTell ep kind b = s.count Cn.ttFull 0) ∧
        (kind ≠ 2 → s.hal.tells.length < 4096 → (s.hal.tells.filter (fun t => decide (t.alloc = a))).length < 4 → let t0 := s.count Cn.ttTaken 0
          (t0.placeTell (t0.asOf ep) c a ws (num 4 4) early late = none → s.takeTell ep kind b = t0.count Cn.ttUnmet c) ∧
          (∀ f g st, t0.placeTell (t0.asOf ep) c a ws (num 4 4) early late = some (f, g, st) → (s.takeTell ep kind b).cnt = (t0.count Cn.ttPlaced c).cnt ∧
            (s.takeTell ep kind b).hal.tells = s.hal.tells ++ [{ chan := c, alloc := a, tag := num 20 2, size := num 4 4, sfc := f, gate := g, start := st }]))))) ∧
  (∀ (m : Master) (s : State), mayWrite m = false → (∀ e, exec (.alcReadApplied m e) s = .next s) ∧ exec (.alcReadStaged m) s = .next s ∧ exec (.alcWriteStaged m) s = .next s ∧
    exec (.alcClearDynamic m) s = .next s) ∧
  (∀ (m : Master) (s : State), let a := s.fld F.halAlcAddr_index; let data := [F.halAlcData0, F.halAlcData1, F.halAlcData2, F.halAlcData3, F.halAlcData4]
    mayWrite m = true → s.released 7 = true →
    (s.poisoned 3 (Config.wordIx 3 kAlc a) = false → Tbl.find s.mem.flipped (memKey 3 (Config.wordIx 3 kAlc a)) 0 = 0 → ∃ t, exec (.alcReadApplied m .clean) s = .next t ∧
      t.fld F.halAlcCmd_result = 0 ∧ (∀ p ∈ data.zipIdx, t.fld p.1 = wordOf (s.record kAlc a) p.2 % 2 ^ 32) ∧ t.fld F.halAlcData5 = min (s.allocDyn a).b 0xFFFFFFFF ∧
      FldsBut (F.halAlcCmd_result :: F.halAlcData5 :: data) s t ∧ FrameBut [.regs] s t) ∧
    (∃ t, exec (.alcReadStaged m) s = .next t ∧ t.fld F.halAlcCmd_result = 0 ∧ (∀ p ∈ data.zipIdx, t.fld p.1 = wordOf (s.recordStaged kAlc a) p.2 % 2 ^ 32) ∧
      FldsBut (F.halAlcCmd_result :: data) s t ∧ FrameBut [.regs] s t) ∧
    (s.rigState < 4 → ∃ t, exec (.alcWriteStaged m) s = .next t ∧ t.recordStaged kAlc a = data.map s.fld ∧ t.recs = s.recs ∧ t.rigState = 0 ∧ t.fld F.halAlcCmd_result = 0) ∧
    (∃ t, exec (.alcClearDynamic m) s = .next t ∧ t.allocDyn a = allocDyn0 ∧ (∀ j, j ≠ a → t.allocDyn j = s.allocDyn j) ∧ t.fld F.halAlcCmd_result = 0 ∧
      FldsBut [F.halAlcCmd_result] s t ∧ FrameBut [.regs, .hal] s t))

/-- TELLTALE_FRAME keeps at most 4,096 reservations, and at most 4 for each Alloc, where they are kept before. A notice for an Alloc that may take one, which finds 4,096 reservations or finds 4 of its Alloc, leaves them as they are and is counted as tt_full; one that finds room in both is counted as tt_taken, and where a burst can be placed it is held as well. -/
def Obligations.telltaleStoreLimits : Prop :=
  (∀ s : State, let kept := fun (t : State) => t.hal.tells.length ≤ 4096 ∧ ∀ a, (t.hal.tells.filter (fun x => decide (x.alloc = a))).length ≤ 4
    kept s → ∃ t, exec .telltaleFrame s = .next t ∧ kept t) ∧
  (∀ (s : State) (ep : Nat) (b : List Nat) (a : Nat) (ws : List Nat), let num := fun lo n => beNat ((b.drop lo).take n); let c := num 0 1
    let early := s.fullSec (num 8 2) * 1000000000 + num 10 4; let late := s.fullSec (num 14 2) * 1000000000 + num 16 4; let t := s.takeTell ep 1 b
    let mine := (s.hal.tells.filter (fun x => decide (x.alloc = a))).length
    (s.allocsOf c).find? (fun x => decide (alId x.2 = num 2 2 % 0x4000)) = some (a, ws) → s.ch c = 3 → alTtEn ws = true → s.activeOn c (alOnu ws) = true → early ≤ late →
      late ≤ s.nowNs + 1000000000 →
      (4096 ≤ s.hal.tells.length ∨ 4 ≤ mine → t.hal.tells = s.hal.tells ∧ (∀ n, n < 2 ^ 48 - 1 → s.counter Cn.ttFull 0 0 = n → s.hal.fullSaid = true ∨ s.hal.tells.length < 4096 → t.counter Cn.ttFull 0 0 = n + 1)) ∧
      (s.hal.tells.length < 4096 → mine < 4 → (∀ n, n < 2 ^ 48 - 1 → s.counter Cn.ttTaken 0 0 = n → t.counter Cn.ttTaken 0 0 = n + 1) ∧
        let u := s.count Cn.ttTaken 0
        (u.placeTell (u.asOf ep) c a ws (num 4 4) early late = none → t.hal.tells = s.hal.tells) ∧
        (∀ f g st, u.placeTell (u.asOf ep) c a ws (num 4 4) early late = some (f, g, st) → t.hal.tells.length = s.hal.tells.length + 1)))

/-- PACKET_PARSE takes the oldest waiting packet of a source port and reads the rigging of its epoch (R174). A telltale frame goes to Halyard; a slow-protocol frame goes to its receive queue and counts trap_slow (R164). A packet that uses a poisoned word is dropped and counted: the word is rewritten from its copy with PRS_POISON_FIXED, or, its copy poisoned too, a rule is made not valid with PRS_ENTRY_LOST (R175). Every other packet is walked, matched and decided on (R171): without a rule and with parse_err and err_drop it is dropped and
counted; the rule that decides is the valid matching rule of the lowest index (R169); it is counted and its verdict drops the packet, sends it to the rule's receive queue (2), or to the rule's destination where that can take packets (4), and else counts fwd_dest_retired. The hash of the two directions of a conversation is one (R172). With no packet waiting nothing changes. Where a clause rests on a reading or a choice of the model, it is one of log entries 75, 77. -/
def Obligations.packetParsing : Prop :=
  (∀ (src : PortIx) (bad : Option PrsBad) (rd : List SlotRead) (s : State), let n := src.toNat
    (Tbl.find s.toParse n [] = [] → exec (.packetParse src bad rd) s = .next s) ∧
    (∀ p rest, Tbl.find s.toParse n [] = p :: rest → let b := { s with toParse := Tbl.put s.toParse n [] rest }; let r := b.asOf p.epoch
      (r.isTelltale p = true → exec (.packetParse src bad rd) s =
        .next { b with hal := { b.hal with frames := b.hal.frames ++ [((p.src - 256) / 8, p.bytes.drop (etherAfterTags p.bytes).2, p.epoch)] } }) ∧
      (r.isTelltale p = false → r.isSlow p = true → ∃ t x, exec (.packetParse src bad rd) s = .next t ∧ let q := r.fld F.prsTrap_slow_q
        Tbl.find t.rxq q [] = Tbl.find s.rxq q [] ++ [x] ∧ x.reason = 1 ∧ x.port = p.src ∧ x.bytes = p.bytes ∧ t.cnt = (s.count Cn.trapSlow (p.src - 256)).cnt ∧
        FrameBut [.toParse, .rxq, .cnt] s t) ∧
      (r.isTelltale p = false → r.isSlow p = false →
        (∀ x, bad = some x → x.copyBad = false → exec (.packetParse src bad rd) s = .next ((b.post 0x0C01 [x.table, x.ix]).count Cn.prsPoisonDrop 0)) ∧
        (∀ x, bad = some x → x.copyBad = true → x.table = 4 → ∃ t, exec (.packetParse src bad rd) s = .next t ∧ recBits (t.record kRule x.ix) 38 31 31 = 0 ∧
          (∀ j, j ≠ x.ix → t.record kRule j = s.record kRule j) ∧ t.parsed = s.parsed ∧ t.rxq = s.rxq ∧ FrameBut [.toParse, .recs, .prevRecs, .cnt, .evq, .mem] s t) ∧
        (bad = none → ∃ s0, exec (.packetParse src bad rd) s = .next (s0.decide_ r p (parseKey s.rig.run.graph p) rd) ∧ s0.toParse = b.toParse ∧
          FrameBut [.toParse, .prs, .cnt] s s0)))) ∧
  (∀ (s r : State) (p : Pkt) (k : PKey) (rd : List SlotRead),
    (r.findRule (keyBits k p) (r.cmpResult k p) = none → k.perr = true → r.flag F.prsDefault_err_drop = true →
      s.decide_ r p k rd = (s.count Cn.ruleMiss 0).count Cn.prsErrDrop 0) ∧
    (∀ ix ws, r.findRule (keyBits k p) (r.cmpResult k p) = some (ix, ws) → let t := s.decide_ r p k rd; let q := recBits ws 39 5 0
      let d := if recBits ws 39 25 25 = 1 then 0x8000 + recBits ws 39 21 16 else recBits ws 39 24 16
      (recBits ws 38 30 28 = 1 → t = s.count Cn.ruleHit ix) ∧
      (recBits ws 38 30 28 = 2 → ∃ x, Tbl.find t.rxq q [] = Tbl.find s.rxq q [] ++ [x] ∧ (∀ j, j ≠ q → Tbl.find t.rxq j [] = Tbl.find s.rxq j []) ∧ x.reason = 2 ∧ x.rule = ix ∧
        x.bytes = p.bytes ∧ t.cnt = (s.count Cn.ruleHit ix).cnt ∧ FrameBut [.rxq, .cnt] s t) ∧
      (recBits ws 38 30 28 = 4 → s.destOk r d = true → ∃ x, Tbl.find t.parsed p.src [] = Tbl.find s.parsed p.src [] ++ [x] ∧ x.dest = d ∧ x.num = p.num ∧ x.bytes = p.bytes ∧
        x.flow = (if recBits ws 38 21 21 = 1 then recBits ws 38 17 0 else noFlow) ∧ x.cls = (if recBits ws 38 27 27 = 1 then recBits ws 38 26 24 else r.defaultClass k) ∧
        FrameBut [.parsed, .cnt, .fwd, .regs] s t) ∧
      (recBits ws 38 30 28 = 4 → s.destOk r d = false → t.parsed = s.parsed ∧ FrameBut [.cnt, .fwd, .regs] s t))) ∧
  (∀ (s : State) (key cmp ix : Nat) (ws : List Nat), Tbl.wf s.recs (fun _ => []) = true →
    (s.findRule key cmp = some (ix, ws) ↔ ix < 2 ^ 40 ∧ s.record kRule ix = ws ∧ ruleMatch ws key cmp = true ∧ ∀ j, j < ix → ruleMatch (s.record kRule j) key cmp = false)) ∧
  (∀ (s : State) (a b : PKey) (f : Nat), b.val 1 = a.val 2 → b.val 2 = a.val 1 → b.val 3 = a.val 4 → b.val 4 = a.val 3 → b.val 6 = a.val 7 → b.val 7 = a.val 6 →
    (∀ c ∈ [5, 8, 9, 14, 17, 20], b.val c = a.val c) → s.hashOf b f = s.hashOf a f)

/-- From a master that may write: the reads of the rule window put the applied or the staged words of the rule PRS_RULE_ADDR names into its data registers, words beyond the record as 0, the write stages words 0 to 39 of them, op 4 zeroes all 48; the LAG window does the same with the one word of the slot group that PRS_LAG_ADDR names; each completes with result 0. An applied read of an uncorrectable word is repaired from its copy, and with the copy bad answers 0 and result 2, the rule then not valid (R175).
From any other master none has an effect. Where a clause rests on a reading or a choice of the model, it is one of log entries 4, 75. -/
def Obligations.ruleLagWindows : Prop :=
  (∀ (m : Master) (s : State), mayWrite m = false → (∀ e b, exec (.ruleReadApplied m e b) s = .next s ∧ exec (.lagReadApplied m e b) s = .next s) ∧ exec (.ruleReadStaged m) s = .next s ∧
    exec (.ruleWriteStaged m) s = .next s ∧ exec (.ruleZeroData m) s = .next s ∧ exec (.lagReadStaged m) s = .next s ∧ exec (.lagWriteStaged m) s = .next s) ∧
  (∀ (m : Master) (s : State), mayWrite m = true → s.released 7 = true → let ix := s.fld F.prsRuleAddr_index; let g := s.fld F.prsLagAddr_lag * 64 + s.fld F.prsLagAddr_group
    let shows := fun (x : Instr) (ws : List Nat) => ∃ t, exec x s = .next t ∧ (∀ i, i < 48 → t.fld (F.prsRuleData i) = wordOf ws i % 2 ^ 32) ∧ t.fld F.prsRuleCmd_result = 0 ∧
      FldsBut (F.prsRuleCmd_result :: (List.range 48).map F.prsRuleData) s t ∧ FrameBut [.regs] s t
    let showsLag := fun (x : Instr) (ws : List Nat) => ∃ t, exec x s = .next t ∧ t.fld F.prsLagData = wordOf ws 0 % 2 ^ 32 ∧ t.fld F.prsLagCmd_result = 0 ∧
      FldsBut [F.prsLagCmd_result, F.prsLagData] s t ∧ FrameBut [.regs] s t
    (∀ b, shows (.ruleReadApplied m .clean b) (s.record kRule ix) ∧ showsLag (.lagReadApplied m .clean b) (s.record kLag g)) ∧
    shows (.ruleReadStaged m) (s.recordStaged kRule ix) ∧ showsLag (.lagReadStaged m) (s.recordStaged kLag g) ∧ shows (.ruleZeroData m) [] ∧
    (s.rigState < 4 →
      (∃ t, exec (.ruleWriteStaged m) s = .next t ∧ t.recordStaged kRule ix = (List.range 40).map (fun i => s.fld (F.prsRuleData i)) ∧ t.recs = s.recs ∧ t.rigState = 0 ∧
        t.fld F.prsRuleCmd_result = 0) ∧
      (∃ t, exec (.lagWriteStaged m) s = .next t ∧ t.recordStaged kLag g = [s.fld F.prsLagData] ∧ t.recs = s.recs ∧ t.rigState = 0 ∧ t.fld F.prsLagCmd_result = 0)) ∧
    (∃ t, exec (.ruleReadApplied m .uncorrectable false) s = .next t ∧ (∀ i, i < 48 → t.fld (F.prsRuleData i) = wordOf (s.record kRule ix) i % 2 ^ 32) ∧
      t.fld F.prsRuleCmd_result = 0 ∧ Posted s t 0x0C01 [4, ix]) ∧
    (∃ t, exec (.ruleReadApplied m .uncorrectable true) s = .next t ∧ (∀ i, i < 48 → t.fld (F.prsRuleData i) = 0) ∧ t.fld F.prsRuleCmd_result = 2 ∧
      recBits (t.record kRule ix) 38 31 31 = 0 ∧ Posted s t 0x0C02 [4, ix]) ∧
    (∃ t, exec (.lagReadApplied m .uncorrectable true) s = .next t ∧ t.fld F.prsLagData = 0 ∧ t.fld F.prsLagCmd_result = 2 ∧ Posted s t 0x0C02 [5, 4 * g]))

/-- A packet of verdict Continue or Copy, without a static guard on its partition and with clean slots (R183): a source port without a partition drops it and counts fwd_no_part; a hit counts fwd_hit and sends it to the entry's destination with the rule's flow, else the entry's, else none, unless that is its own source port (fwd_hairpin) or can take no packets (fwd_dest_retired); a miss counts fwd_miss and drops it, sends it to the partition's receive queue, or to miss_dest. A learn request waits in a queue of 8,192 in arrival order; a full queue discards it and counts learn_queue_drop (R188).
Both candidate buckets lie within the partition (R181). Where a clause rests on a reading or a choice of the model, it is one of log entries 76, 77. -/
def Obligations.forwardingDecision : Prop :=
  (∀ (s r : State) (p : Pkt) (k : PKey) (lf : Nat), let part := (s.srcPart p.src).1; let q := s.fwdPart part; let t := s.forward r p k lf []
    (part = 0xFF → t = s.count Cn.fwdNoPart 0) ∧
    (part ≠ 0xFF → q.staticGuard = false → q.kind = 2 → k.val 13 ≠ 1 → q.miss = 0 → t = s.count Cn.fwdMiss part) ∧
    (∀ key, part ≠ 0xFF → q.staticGuard = false → lookupKey q.kind k = some key → SlotsClean s (s.lookupLocs part key) →
      let f := s.findEnt part key (s.entVisible p.epoch) (s.lookupLocs part key)
      FrameBut [.cnt, .fwd, .regs, .parsed, .rxq] s t ∧ t.fwd.slots = s.fwd.slots ∧
      (f = none → q.miss = 0 → t.parsed = s.parsed ∧ t.rxq = s.rxq) ∧
      (f = none → q.miss = 1 → ∃ x, Tbl.find t.rxq q.missQ [] = Tbl.find s.rxq q.missQ [] ++ [x] ∧ x.reason = 4 ∧ x.bytes = p.bytes ∧ t.parsed = s.parsed) ∧
      (f = none → q.miss = 2 → q.missLag = false → s.portUsable q.missDest = true → q.missDest < 0x8000 →
        Tbl.find t.parsed p.src [] = Tbl.find s.parsed p.src [] ++ [{ p with dest := q.missDest }]) ∧
      (∀ l e, f = some (l, e) → let d := if e.lag then 0x8000 + e.dest else e.dest
        (d = p.src → q.hairpin = false → t.parsed = s.parsed ∧ t.rxq = s.rxq) ∧ (¬ (d = p.src ∧ q.hairpin = false) → s.destOk r d = false → t.parsed = s.parsed ∧ t.rxq = s.rxq) ∧
        (¬ (d = p.src ∧ q.hairpin = false) → s.destOk r d = true → t.rxq = s.rxq ∧
          Tbl.find t.parsed p.src [] = Tbl.find s.parsed p.src [] ++ [{ p with dest := d, flow := if p.flow ≠ noFlow then p.flow else if e.flowEn then e.flow else noFlow }])))) ∧
  (∀ (s : State) (x : LearnReq), (s.fwd.queue.length < 8192 → (s.raiseLearn x).fwd.queue = s.fwd.queue ++ [x] ∧ FrameBut [.fwd, .regs] s (s.raiseLearn x)) ∧
    (8192 ≤ s.fwd.queue.length → s.raiseLearn x = s.count Cn.learnQueueDrop 0)) ∧
  (∀ (q : FwdPart) (k : Nat), 1 ≤ q.log2 → q.base % 2 ^ q.log2 = 0 → let b := fwdBuckets q k
    b.1 ≠ b.2 ∧ q.base ≤ b.1 ∧ b.1 < q.base + 2 ^ q.log2 ∧ q.base ≤ b.2 ∧ b.2 < q.base + 2 ^ q.log2)

/-- LEARN_PROCESS, on a part whose mate role is not standby, takes the oldest request; with clean slots: an unknown key is entered as a refreshed dynamic entry in the lowest free slot of its first candidate bucket, else of its second, unless the port owns max_learn entries, which counts learn_limit and enters nothing (R184, R189); a known key of the same destination is refreshed with the request's flow; a static entry of another destination stays, as does a pinned one, counted; any other moves while the flap window allows (R190), else is pinned with FWD_FLAP_PIN.
AGER_VISIT of an ageing partition clears refreshed, removes a dynamic entry at age 3 and counts aged, else raises its age; a static entry stays (R191). An empty queue, a standby role, an empty slot, a stopped ager or a partition without ageing changes nothing. No other slot changes. Where a clause rests on a reading or a choice of the model, it is one of log entry 77. -/
def Obligations.learningAgeing : Prop :=
  (∀ (rd : List SlotRead) (s : State), s.fwd.queue = [] ∨ s.mateStandby = true → exec (.learnProcess rd) s = .next s) ∧
  (∀ (rd : List SlotRead) (s : State), ∃ t, exec (.learnProcess rd) s = .next t ∧ FrameBut [.regs, .cnt, .evq, .sup, .mem, .fwd, .mate] s t) ∧
  (∀ (s : State) (r : LearnReq) (q : List LearnReq), s.fwd.queue = r :: q → s.mateStandby = false → SlotsClean s (s.lookupLocs r.part r.key) →
    ∃ t, exec (.learnProcess []) s = .next t ∧ t.fwd.queue = q ∧
      (s.findEnt r.part r.key (s.entVisible s.epoch) (s.lookupLocs r.part r.key) = none → let ml := (s.srcPart r.src).2; let b := fwdBuckets (s.fwdPart r.part) r.key
        (ml ≠ 0 → ml ≤ s.owned r.src → ∀ l, t.slot l = s.slot l) ∧
        (ml = 0 ∨ s.owned r.src < ml → ∀ l, s.freeIn b.1 = some l ∨ (s.freeIn b.1 = none ∧ s.freeIn b.2 = some l) →
          t.slot l = some { key := r.key, flowEn := r.flowEn, lag := r.lag, dest := r.dest, flow := r.flow, static_ := false, pinned := false, refreshed := true, age := 0, moves := 0, win := 0,
                            addP := false, delP := false, part := r.part, newIn := false, gone := false } ∧ (∀ j, j ≠ l → t.slot j = s.slot j) ∧ t.cnt = (s.count Cn.learnNew r.part).cnt)) ∧
      (∀ l e, s.findEnt r.part r.key (s.entVisible s.epoch) (s.lookupLocs r.part r.key) = some (l, e) → let mv := if e.win = s.flapWin then e.moves else 0
        (∀ j, j ≠ l → t.slot j = s.slot j) ∧
        (e.lag = r.lag → e.dest = r.dest → t.slot l = some (if e.static_ then { e with refreshed := true } else { e with refreshed := true, flowEn := r.flowEn, flow := r.flow })) ∧
        (¬ (e.lag = r.lag ∧ e.dest = r.dest) → e.static_ = true → t.slot l = some e ∧ t.cnt = (s.count Cn.learnStaticConflict r.part).cnt) ∧
        (¬ (e.lag = r.lag ∧ e.dest = r.dest) → e.static_ = false → e.pinned = true → t.slot l = some e ∧ t.cnt = (s.count Cn.learnPinned r.part).cnt) ∧
        (¬ (e.lag = r.lag ∧ e.dest = r.dest) → e.static_ = false → e.pinned = false →
          (mv < s.fld F.fwdFlap_flap_limit → t.slot l = some { e with win := s.flapWin, moves := mv + 1, lag := r.lag, dest := r.dest, flowEn := r.flowEn, flow := r.flow, refreshed := true } ∧
            t.cnt = (s.count Cn.learnMove r.part).cnt) ∧
          (s.fld F.fwdFlap_flap_limit ≤ mv → t.slot l = some { e with win := s.flapWin, moves := mv, pinned := true })))) ∧
  (∀ (x : BitVec 21) (s : State), (s.slot x.toNat = none ∨ s.flag F.fwdCtrl_ager_en = false ∨ s.mateStandby = true → ∀ e b, exec (.agerVisit x e b) s = .next s) ∧
    (∀ e, s.slot x.toNat = some e → s.flag F.fwdCtrl_ager_en = true → s.mateStandby = false →
      ((s.fwdPart e.part).ageS = 0 → ∀ c b, exec (.agerVisit x c b) s = .next s) ∧
      (0 < (s.fwdPart e.part).ageS → SlotsClean s [x.toNat] → ∃ t, exec (.agerVisit x .clean true) s = .next t ∧
        (x.toNat < 0x100000 → (∀ j, j ≠ x.toNat → t.slot j = s.slot j) ∧ t.slot x.toNat = (if e.static_ then some e else if e.refreshed then some { e with refreshed := false, age := 0 }
          else if e.age = 3 then none else some { e with age := e.age + 1 })) ∧
        (x.toNat < 0x100000 → e.static_ = true → t = s) ∧
        (0x100000 ≤ x.toNat → e.static_ = true → ∀ d, s.freeIn (fwdBuckets (s.fwdPart e.part) e.key).1 = some d → d < 0x100000 → t.slot d = some e ∧ t.slot x.toNat = none ∧
          ∀ j, j ≠ d → j ≠ x.toNat → t.slot j = s.slot j))))

/-- The eight operations of the table window, from a master that may write. READ_SLOT shows the words of the slot FWD_ADDR names, 0 when it is free. The key operations use the partition and the key of the window; an unused partition completes with 5. LOOKUP and LOOKUP_STAGED show a found entry and its location with 0, else the two candidate buckets with 1. INSERT_STATIC, with room in a candidate bucket, takes a slot with add_pending and completes with 0; DELETE_STATIC marks the applied static entry del_pending with 0, and with no such entry completes with 1; in DRAINING, ARMED and REGION
both complete with 6 and change no slot (R193). DELETE_DYNAMIC and UNPIN act at once on a dynamic entry with 0, and complete with 4 on a static one and 1 on none. FLUSH removes exactly the dynamic entries of its scope (R192). From another master none has an effect. Where a clause rests on a reading or a choice of the model, it is one of log entries 4, 77. -/
def Obligations.tableWindow : Prop :=
  (∀ (m : Master) (s : State), s.fwdMay m = false → (∀ e b, exec (.readSlot m e b) s = .next s) ∧ (∀ rd, exec (.lookup m rd) s = .next s) ∧ exec (.lookupStaged m) s = .next s ∧
    exec (.insertStatic m) s = .next s ∧ exec (.deleteStatic m) s = .next s ∧ exec (.deleteDynamic m) s = .next s ∧ exec (.unpin m) s = .next s ∧ ∀ x, exec (.flush m x) s = .next s) ∧
  (∀ (m : Master) (s : State), s.fwdMay m = true → let p := s.winPart; let key := s.winKey; let locs := s.lookupLocs p key; let b := fwdBuckets (s.fwdPart p) key
    let shown := fun (t : State) (f : Option (Nat × FwdEnt)) =>
      (∀ l e, f = some (l, e) → t.fld F.fwdRes = entWord2 e % 2 ^ 32 ∧ t.fld F.fwdState = entWord3 e % 2 ^ 32 ∧ t.fld F.fwdCmd_result = 0 ∧ (t.flag F.fwdAddr_ovf = true ↔ 0x100000 ≤ l) ∧
        t.fld F.fwdAddr_location = (if 0x100000 ≤ l then l - 0x100000 else l) % 2 ^ 20) ∧
      (f = none → t.fld F.fwdKeyLo = b.1 % 2 ^ 32 ∧ t.fld F.fwdKeyHi = b.2 % 2 ^ 32 ∧ t.fld F.fwdCmd_result = 1) ∧
      FldsBut [F.fwdRes, F.fwdState, F.fwdCmd_result, F.fwdAddr_ovf, F.fwdAddr_location, F.fwdKeyLo, F.fwdKeyHi] s t ∧ FrameBut [.regs] s t
    let turned := fun (x : Instr) (r : Nat) => ∃ t, exec x s = .next t ∧ t.fld F.fwdCmd_result = r ∧ FldsBut [F.fwdCmd_result] s t ∧ FrameBut [.regs] s t
    (SlotsClean s [s.fwdLoc] → ∃ t, exec (.readSlot m .clean true) s = .next t ∧ t.fld F.fwdCmd_result = 0 ∧ FrameBut [.regs] s t ∧
      (s.slot s.fwdLoc = none → t.fld F.fwdKeyLo = 0 ∧ t.fld F.fwdKeyHi = 0 ∧ t.fld F.fwdRes = 0 ∧ t.fld F.fwdState = 0) ∧
      (∀ e, s.slot s.fwdLoc = some e → t.fld F.fwdKeyLo = e.key % 2 ^ 32 ∧ t.fld F.fwdKeyHi = e.key / 2 ^ 32 % 2 ^ 32 ∧ t.fld F.fwdRes = entWord2 e % 2 ^ 32 ∧
        t.fld F.fwdState = entWord3 e % 2 ^ 32)) ∧
    (s.partOk p = false → (∀ rd, turned (.lookup m rd) 5) ∧ turned (.lookupStaged m) 5 ∧ turned (.deleteDynamic m) 5 ∧ turned (.unpin m) 5 ∧
      (s.stageLost = false → turned (.insertStatic m) 5 ∧ turned (.deleteStatic m) 5)) ∧
    (s.stageLost = true → (∃ t, exec (.insertStatic m) s = .next t ∧ t.fld F.fwdCmd_result = 6 ∧ t.fwd = s.fwd) ∧ ∃ t, exec (.deleteStatic m) s = .next t ∧ t.fld F.fwdCmd_result = 6 ∧ t.fwd = s.fwd) ∧
    (s.partOk p = true →
      (SlotsClean s locs → ∃ t, exec (.lookup m []) s = .next t ∧ shown t (s.findEnt p key (s.entVisible s.epoch) locs)) ∧
      (∃ t, exec (.lookupStaged m) s = .next t ∧ shown t ((s.findEnt p key (fun e => e.addP) locs).or (s.findEnt p key (fun e => !e.delP && !e.gone) locs))) ∧
      (∀ l, s.stageLost = false → SlotsClean s (bucketLocs b.1 ++ bucketLocs b.2) → s.findEnt p key (fun _ => true) locs = none →
        s.freeIn b.1 = some l ∨ (s.freeIn b.1 = none ∧ s.freeIn b.2 = some l) → ∃ t e, exec (.insertStatic m) s = .next t ∧ t.slot l = some e ∧ e.key = key ∧ e.part = p ∧
          e.static_ = true ∧ e.addP = true ∧ e.dest = bits (s.fld F.fwdRes) 29 21 ∧ e.flow = bits (s.fld F.fwdRes) 17 0 ∧ t.fld F.fwdCmd_result = 0 ∧ ∀ j, j ≠ l → t.slot j = s.slot j) ∧
      (s.stageLost = false → s.findEnt p key (fun e => e.static_ && e.addP) locs = none →
        (∀ l e, s.findEnt p key (fun e => e.static_ && !e.addP && !e.gone) locs = some (l, e) → ∃ t, exec (.deleteStatic m) s = .next t ∧ t.slot l = some { e with delP := true } ∧
          t.fld F.fwdCmd_result = 0 ∧ ∀ j, j ≠ l → t.slot j = s.slot j) ∧
        (s.findEnt p key (fun e => e.static_ && !e.addP && !e.gone) locs = none → ∃ t, exec (.deleteStatic m) s = .next t ∧ t.fld F.fwdCmd_result = 1 ∧ ∀ j, t.slot j = s.slot j)) ∧
      (s.findEnt p key (fun _ => true) locs = none → turned (.deleteDynamic m) 1 ∧ turned (.unpin m) 1) ∧
      (∀ l e, s.findEnt p key (fun _ => true) locs = some (l, e) → (e.static_ = true → turned (.deleteDynamic m) 4 ∧ turned (.unpin m) 4) ∧
        (e.static_ = false → (∃ t, exec (.deleteDynamic m) s = .next t ∧ t.slot l = none ∧ t.fld F.fwdCmd_result = 0 ∧ ∀ j, j ≠ l → t.slot j = s.slot j) ∧
          ∃ t, exec (.unpin m) s = .next t ∧ t.slot l = some { e with pinned := false } ∧ t.fld F.fwdCmd_result = 0 ∧ ∀ j, j ≠ l → t.slot j = s.slot j))) ∧
    (∀ x : BitVec 2, x ≠ 3 → x = 2 ∨ s.partOk p = true → ∃ t, exec (.flush m x) s = .next t ∧ t.fld F.fwdCmd_result = 0 ∧ ∀ l e, s.slot l = some e →
      t.slot l = if e.static_ = false ∧ (x = 2 ∨ (e.part = p ∧ (x = 0 ∨ (e.lag = false ∧ e.dest = bits (s.fld F.fwdRes) 29 21)))) then none else some e))

/-- FABRIC_INGRESS packs the oldest parsed packet of a source port, with its 8-byte header, into cells of 240 bytes in the VOQ of its input, output, class and lane, or drops it whole, counted, where its cells would pass FAB_VOQ_CAP for the output or fill the ingress partition (R199, R201). A packet for a LAG takes the slot's member while that is valid, up and not awaiting return, else the member its hash picks among those that are up, else the slot's port (R173). CELL_SLOT advances the slot; every round of the arbiter keeps each input and each output in at most one pair, each a request (R200); the
pair moves 240 bytes of its VOQ's stream, and packets whole at the output arrive there in order; a cell that fails its CRC stays, counted (R202). LAG_RETURN gives a returning member its slots back once no packet before its markers is queued, and posts it. Where a clause rests on a reading or a choice of the model, it is one of log entries 76, 78. -/
def Obligations.fabricCrossing : Prop :=
  (∀ (src : PortIx) (s : State), let n := src.toNat
    (Tbl.find s.parsed n [] = [] → exec (.fabricIngress src) s = .next s) ∧
    (∀ p rest, Tbl.find s.parsed n [] = p :: rest → let b := { s with parsed := Tbl.put s.parsed n [] rest }; let r := b.asOf p.epoch
      let key := fun (e : Nat) => voqKey (if p.direct then e else fabPort p.src) e (p.cls % 8) (p.hash / 256 % 4)
      (p.dest < 0x8000 → let e := fabPort p.dest; let v := s.voqOf (key e); let n := (v.bytes + 8 + p.len + 239) / 240 - v.ages.length
        (r.fld F.fabVoqCap_cap < s.voqFor e + n → exec (.fabricIngress src) s = .next ((b.count Cn.voqCapDrop e).dropped p)) ∧
        (s.voqFor e + n ≤ r.fld F.fabVoqCap_cap → s.rig.run.buf.ingress < s.voqCells + n → exec (.fabricIngress src) s = .next ((b.count Cn.ingressFullDrop 0).dropped p)) ∧
        (s.voqFor e + n ≤ r.fld F.fabVoqCap_cap → s.voqCells + n ≤ s.rig.run.buf.ingress → ∃ t, exec (.fabricIngress src) s = .next t ∧
          t.voqOf (key e) = { pkts := v.pkts ++ [{ pkt := p, left := 8 + p.len, lost := false }], ages := v.ages ++ List.replicate n s.fab.slot } ∧
          (∀ j, j ≠ key e → t.voqOf j = s.voqOf j) ∧ FrameBut [.parsed, .fab] s t)) ∧
      (0x8000 ≤ p.dest → let q := 256 + (b.lagSelect r (p.dest - 0x8000) p.hash).2; ∃ t, exec (.fabricIngress src) s = .next t ∧ FrameBut [.parsed, .fab, .cnt, .tim, .regs, .evq, .mem] s t ∧
        ((∀ j, t.voqOf j = s.voqOf j) ∨ ∃ x ∈ (t.voqOf (key (fabPort q))).pkts, x.pkt = { p with dest := q })))) ∧
  (∀ (s r : State) (l h : Nat), let b := r.lagSlot l (h % 256); let up := (r.lagMembers l).filter s.linkIsUp; let ok := 128 ≤ b ∧ s.linkIsUp (b % 128) = true ∧ (l, b % 128) ∉ s.prs.ret
    (ok → s.lagSelect r l h = (s, b % 128)) ∧ (¬ ok → up = [] → s.lagSelect r l h = (s.count Cn.lagNoMember l, b % 128)) ∧
    (¬ ok → up ≠ [] → (s.lagSelect r l h).2 = up.getD (h / 65536 % 256 % up.length) 0 ∧ s.linkIsUp (s.lagSelect r l h).2 = true)) ∧
  (∀ (rt ls : List (BitVec 6)) (s : State), ∃ t, exec (.cellSlot rt ls) s = .next t ∧ t.fab.slot = s.fab.slot + 1 ∧ FrameBut [.regs, .cnt, .evq, .tim, .mem, .fab] s t) ∧
  (∀ (s : State) (k i e : Nat) (v : Voq) (rest done : List VPkt), s.fab.voq = [(k, v)] → v.ages ≠ [] → i < 48 → e < 48 → k / 32 = i * 64 + e → takeBytes false 240 v.pkts = (rest, done) →
    (∀ x ∈ done, x.lost = false) →
    (∃ t, exec (.cellSlot [] []) s = .next t ∧ t.voqOf k = { pkts := rest, ages := v.ages.tail } ∧ t.cnt = (s.count Cn.fabCells i).cnt ∧
      (∀ d, Tbl.find t.fab.arrived d [] = Tbl.find s.fab.arrived d [] ++ (done.filter (fun x => decide (x.pkt.dest = d))).map (·.pkt)) ∧ FrameBut [.cnt, .fab] s t) ∧
    ∃ t, exec (.cellSlot [BitVec.ofNat 6 i] []) s = .next t ∧ t.voqOf k = v ∧ t.fab.arrived = s.fab.arrived ∧ (s.fab.retries.length < 255 → t.cnt = (s.count Cn.xbarRetry i).cnt)) ∧
  (∀ (req : List (Nat × Nat × Nat)) (f : Bool) (m : List (Nat × Nat)) (gp ap : Table Nat), (m.map (·.1)).Nodup → (m.map (·.2)).Nodup → let w := (arbRound req f m gp ap).1
    (w.map (·.1)).Nodup ∧ (w.map (·.2)).Nodup ∧ (∀ x ∈ m, x ∈ w) ∧ ∀ x ∈ w, x ∈ m ∨ ∃ a, (x.1, x.2, a) ∈ req) ∧
  (∀ (l : BitVec 6) (p : BitVec 7) (s : State), let w := s.fab.marks.any (fun m => decide (m.1 = l.toNat) && decide (m.2.1 = p.toNat) && (s.qOf m.2.2.1).pkts.any (fun k => m.2.2.2.contains k.pkt.num))
    ((l.toNat, p.toNat) ∉ s.prs.ret ∨ w = true → exec (.lagReturn l p) s = .next s) ∧
    ((l.toNat, p.toNat) ∈ s.prs.ret → w = false → ∃ t, exec (.lagReturn l p) s = .next t ∧ (l.toNat, p.toNat) ∉ t.prs.ret ∧ (∀ x, x ≠ (l.toNat, p.toNat) → (x ∈ t.prs.ret ↔ x ∈ s.prs.ret)) ∧
      Posted s t 0x0C04 [l.toNat, p.toNat] ∧ FrameBut [.prs, .fab, .evq, .cnt, .mem] s t))

/-- EGRESS_ENQUEUE takes the oldest packet that waits at an egress port: for a channel without flow index, or whose flow node is not valid, it is dropped and counted; for a port that is DOWN it is dropped and counted; one for an uplink port that is stored, not cut through, of a class with room in its guarantee joins the end of its class queue with its length and 8 bytes more; above guarantee and cap, and without PFC, it is dropped and counted admit_drop (R204). A victim of push-out is the tail packet of a lower class above its guarantee, on die and not lossless. SPILL_BURST_WRITE writes a complete
burst of 64 staged bytes to the queue's current segment, or to a new one of the size R207 gives, and otherwise changes nothing. REFILL reads bytes from the first segment into the on-die part while that holds fewer than refill_thr cells; a wrong tag discards the DRAM part with its packets (R214). Where a clause rests on a reading or a choice of the model, it is one of log entry 78. -/
def Obligations.egressQueues : Prop :=
  (∀ (d : PortIx) (late : Bool) (s : State), let n := d.toNat
    (Tbl.find s.fab.arrived n [] = [] → exec (.egressEnqueue d late) s = .next s) ∧
    (∀ p rest, Tbl.find s.fab.arrived n [] = p :: rest → p.tsReq = none → let r := s.asOf p.epoch
      let lost := fun (c : Ctr) => ∃ t, exec (.egressEnqueue d late) s = .next t ∧ t.cnt = (s.count c p.dest).cnt ∧ t.fab.q = s.fab.q ∧ Tbl.find t.fab.arrived n [] = rest ∧ FrameBut [.fab, .cnt] s t
      (p.dest < 256 → p.flow = noFlow → lost Cn.shtNoFlow) ∧
      (p.dest < 256 → p.flow ≠ noFlow → ndValid (r.node (nodeName 3 p.flow)) = false → lost Cn.shtNoNode) ∧
      (256 ≤ p.dest → (s.gatesOf ((p.dest - 256) / 8)).cur = none → (s.portOf p.dest).st = 2 → lost Cn.portDownDrop) ∧
      (256 ≤ p.dest → (s.gatesOf ((p.dest - 256) / 8)).cur = none → (s.portOf p.dest).st ≠ 2 → r.flag F.fabCtCfg_ct_ulk = false → p.bad = false →
        let c := p.cls % 8; let q := 0x40000 + (8 * (p.dest - 256) + c); let x := s.qOf q; let n' := cdiv (x.tail + (p.len + 8)) 256 - cdiv x.tail 256; x.d = x.tail →
        (s.classUse c + n' ≤ s.guar c → ∃ t, exec (.egressEnqueue d late) s = .next t ∧ (∀ j, j ≠ q → t.qOf j = s.qOf j) ∧ t.qOf q = { x with
            pkts := x.pkts ++ [{ pkt := p, start := x.tail, size := p.len + 8, cells := n', room := none, settle := s.nowNs }], d := x.tail + (p.len + 8), e := x.tail + (p.len + 8),
            tail := x.tail + (p.len + 8) } ∧ FrameBut [.fab, .cnt, .sht, .out] s t) ∧
        (s.guar c < s.classUse c + n' → s.rig.run.buf.cap.getD c 0 < s.classUse c + n' → p.host = true ∨ p.src < 256 → ∃ t, exec (.egressEnqueue d late) s = .next t ∧ t.fab.q = s.fab.q ∧
          t.cnt = (s.countN Cn.admitDrop 0 c 1).cnt ∧ FrameBut [.fab, .cnt] s t)))) ∧
  (∀ (s : State) (c q : Nat), s.victim c = some q → ∃ x ∈ s.fab.q, x.1 = q ∧ ∃ k p, k < c ∧ x.2.tail ≤ x.2.d ∧ x.2.pkts.getLast? = some p ∧ p.room = none ∧ p.pkt.cls % 8 = k ∧
    s.guar k < s.classUse k) ∧
  (∀ (f : FlowIx) (s : State), let x := s.qOf f.toNat; let room := (x.segs.getLast?.map (fun g => g.room)).getD 0
    (x.tail - x.e < 64 ∨ (∃ w ∈ s.fab.waiting, w.agent = spillAgent f.toNat) → exec (.spillBurstWrite f) s = .next s) ∧
    (64 ≤ x.tail - x.e → (∀ w ∈ s.fab.waiting, w.agent ≠ spillAgent f.toNat) →
      (∀ g l, x.segs = l ++ [g] → 64 ≤ g.room → ∃ t, exec (.spillBurstWrite f) s = .next t ∧ (∀ j, j ≠ f.toNat → t.qOf j = s.qOf j) ∧ FrameBut [.fab] s t ∧
        t.qOf f.toNat = { x with segs := l ++ [{ g with held := g.held + 64, room := g.room - 64 }], e := x.e + 64 }) ∧
      (∀ t' k ptr, room < 64 → s.alloc 2 (segSize (x.e - x.d)) f.toNat (spillAgent f.toNat) true false = (t', some (k, ptr)) → ∃ t, exec (.spillBurstWrite f) s = .next t ∧
        t.qOf f.toNat = { x with segs := x.segs ++ [{ pool := k, ptr := ptr, count := (t'.poolOf k).count, held := 64, room := bufBytes k - 128 }], e := x.e + 64 }))) ∧
  (∀ d : Nat, segSize d = if d < 16 * 1024 then 2 * 1024 else if d < 128 * 1024 then 8 * 1024 else if d < 1024 * 1024 then 32 * 1024 else 128 * 1024) ∧
  (∀ (f : FlowIx) (s : State), let x := s.qOf f.toNat
    (x.segs = [] → x.e ≠ x.d ∨ x.tail ≤ x.d → ∀ a b, exec (.refill f a b) s = .next s) ∧
    (∀ g rest, x.segs = g :: rest →
      (s.fld F.fabSpillCfg_refill_thr ≤ x.dieCells → (∀ q, x.pkts.head? = some q → q.start + q.size ≤ x.d) → ∀ a b, exec (.refill f a b) s = .next s) ∧
      (x.dieCells < s.fld F.fabSpillCfg_refill_thr →
        (∀ b, ∃ t, exec (.refill f true b) s = .next t ∧ (t.qOf f.toNat).segs = [] ∧ (t.qOf f.toNat).pkts.map (·.pkt) =
          ((x.pkts.filter (fun q => decide (q.start + q.size ≤ x.d))) ++ x.pkts.filter (fun q => decide (x.e ≤ q.start))).map (·.pkt)) ∧
        (Tbl.find s.fab.tags (g.pool * 2 ^ 48 + g.ptr) (0, 0) = (f.toNat, g.count) → let k := min (min (256 - x.d % 256) g.held) (x.e - x.d)
          k < g.held → x.d + k < x.e → s.classUse (x.classAt x.d) + 1 ≤ s.guar (x.classAt x.d) → ∃ t, exec (.refill f false false) s = .next t ∧ (t.qOf f.toNat).d = x.d + k ∧
          (t.qOf f.toNat).segs = { g with held := g.held - k } :: rest ∧ (t.qOf f.toNat).e = x.e ∧ (t.qOf f.toNat).tail = x.tail ∧
          (t.qOf f.toNat).pkts.map (·.pkt.num) = x.pkts.map (·.pkt.num) ∧ (∀ j, j ≠ f.toNat → t.qOf j = s.qOf j) ∧ FrameBut [.fab] s t))))

/-- BUFFER_ALLOC takes the pointer on top of the smallest pool of the family whose buffers hold the size; with no such pool it gives none; with every pool at or above it empty, a requester that may wait waits in arrival order and counts spar_wait, any other counts spar_no_buf (R212). BUFFER_FREE puts a pointer that is out on top of its pool; a double free, or in the 128 KiB pool a pointer out of range or off its boundary, is not pushed, counted and posted (R213). PORT_LINK_LOSS of an UP port, of a channel in OFF or FAULT or an uplink port, leads to HOLDING with its hold time and, for a
channel, PORT_HOLD; PORT_LINK_UP returns a HOLDING or DOWN port to UP; PORT_HOLD_TIMEOUT of a HOLDING port leads to DOWN, flushes its queues and, for a channel, its edge buffer (R210). In other states these leave the port as it is. Where a clause rests on a reading or a choice of the model, it is one of log entries 76, 78. -/
def Obligations.poolsPorts : Prop :=
  (∀ (a : Byte) (fam : BitVec 2) (size : BitVec 18) (f : FlowIx) (w b : Bool) (s : State),
    ((familyPools fam.toNat).filter (fun k => decide (size.toNat ≤ bufBytes k)) = [] → exec (.bufferAlloc a fam size f w b) s = .next s) ∧
    (∀ k ks, (familyPools fam.toNat).filter (fun k => decide (size.toNat ≤ bufBytes k)) = k :: ks →
      (∀ x r, (s.poolOf k).top = x :: r → ∃ t, exec (.bufferAlloc a fam size f w false) s = .next t ∧ (t.poolOf k).top = r ∧ t.fab.granted = s.fab.granted ++ [(a.toNat, k, x)] ∧
        (t.poolOf k).count = ((s.poolOf k).count + 1) % 2 ^ 32 ∧ (k ≠ 6 → (t.poolOf k).used = x :: (s.poolOf k).used) ∧
        (3 ≤ k → Tbl.find t.fab.tags (k * 2 ^ 48 + x) (0, 0) = (f.toNat, (t.poolOf k).count)) ∧ (∀ j, j ≠ k → t.poolOf j = s.poolOf j) ∧ FrameBut [.fab] s t) ∧
      ((∀ j ∈ k :: ks, (s.poolOf j).top = [] ∧ s.poolSize j ≤ (s.poolOf j).fresh) → exec (.bufferAlloc a fam size f false b) s = .next (s.count Cn.sparNoBuf k) ∧
        ∃ t, exec (.bufferAlloc a fam size f true b) s = .next t ∧ t.fab.waiting = s.fab.waiting ++ [{ agent := a.toNat, first := k }] ∧ t.fab.granted = s.fab.granted ∧
          FrameBut [.fab, .cnt, .evq, .mem] s t))) ∧
  (∀ (a : Byte) (k : BitVec 3) (x : BitVec 36) (bad : Bool) (s : State), let j := k.toNat; let p := s.poolOf j
    (j = 7 → exec (.bufferFree a k x bad) s = .next s) ∧
    (j < 6 → x.toNat ∉ p.used → exec (.bufferFree a k x false) s = .next ((s.count Cn.sparDoubleFree 0).post 0x0E04 [j, x.toNat, a.toNat])) ∧
    (j = 6 → x.toNat % 131072 ≠ 0 ∨ s.poolSize 6 ≤ x.toNat / 131072 → exec (.bufferFree a k x bad) s = .next ((s.count Cn.sparBadPtr 0).post 0x0E05 [6, x.toNat, a.toNat])) ∧
    ((j < 6 ∧ x.toNat ∈ p.used) ∨ (j = 6 ∧ x.toNat % 131072 = 0 ∧ x.toNat / 131072 < s.poolSize 6) → s.fab.waiting = [] → ∃ t, exec (.bufferFree a k x bad) s = .next t ∧
      (t.poolOf j).top = x.toNat :: p.top ∧ (t.poolOf j).used = p.used.erase x.toNat ∧ (∀ i, i ≠ j → t.poolOf i = s.poolOf i) ∧ FrameBut [.fab] s t)) ∧
  (∀ (p : PortIx) (s : State), let d := p.toNat
    ((d < 256 ∧ s.ch d ≠ 1 ∧ s.ch d ≠ 5) ∨ 384 ≤ d → exec (.portLinkLoss p) s = .next s) ∧ ((d < 256 ∧ s.ch d ≠ 3) ∨ 384 ≤ d → exec (.portLinkUp p) s = .next s) ∧
    (d < 256 → s.ch d = 1 ∨ s.ch d = 5 → ((s.portOf d).st ≠ 0 → exec (.portLinkLoss p) s = .next s) ∧
      ((s.portOf d).st = 0 → ∃ t, exec (.portLinkLoss p) s = .next t ∧ t.portOf d = { st := 1, since := s.sup.tick, holdMs := s.fld F.fabHold_hold_ms } ∧
        (∀ j, j ≠ d → t.portOf j = s.portOf j) ∧ Posted s t 0x0E01 [d] ∧ FrameBut [.fab, .evq, .cnt, .mem] s t)) ∧
    (d < 256 → s.ch d = 3 → (s.portOf d).st = 1 → ∃ t, exec (.portLinkUp p) s = .next t ∧ t.portOf d = port0 ∧ (∀ j, j ≠ d → t.portOf j = s.portOf j) ∧ Posted s t 0x0E02 [d] ∧
      FrameBut [.fab, .evq, .cnt, .mem] s t) ∧
    (256 ≤ d → d < 384 →
      (∃ t, exec (.portLinkLoss p) s = .next t ∧ t.linkIsUp (d - 256) = false ∧ (∀ j, j < 128 → j ≠ d - 256 → t.linkIsUp j = s.linkIsUp j) ∧
        (t.portOf d).st = (if (s.portOf d).st = 0 then 1 else (s.portOf d).st) ∧ (∀ j, j ≠ d → t.portOf j = s.portOf j) ∧ FrameBut [.regs, .prs, .fab, .evq, .cnt, .mem] s t) ∧
      (∃ t, exec (.portLinkUp p) s = .next t ∧ t.linkIsUp (d - 256) = true ∧ (∀ j, j < 128 → j ≠ d - 256 → t.linkIsUp j = s.linkIsUp j) ∧ t.portOf d = port0 ∧
        (∀ j, j ≠ d → t.portOf j = s.portOf j) ∧ FrameBut [.regs, .prs, .fab, .evq, .cnt, .mem] s t)) ∧
    ((s.portOf d).st ≠ 1 → exec (.portHoldTimeout p) s = .next s) ∧
    ((s.portOf d).st = 1 → ∃ t, exec (.portHoldTimeout p) s = .next t ∧ (t.portOf d).st = 2 ∧ (∀ j, j ≠ d → t.portOf j = s.portOf j) ∧ (∀ q ∈ s.queuesOf d, (t.qOf q).pkts = []) ∧
      (d < 256 → (t.dsOf d).edge = [])))

/-- SHEET_PICK changes nothing for a port that is not UP, a channel not RUNNING or with 48 KiB or more in its edge buffer, or an uplink port that is sending (R229). What Sheet chooses ends in a queue that is ready: its head is whole on die, its node meets its peak condition, and a class queue is not paused and fits its window; at the top node a child with committed credit goes before one without, and among those it chooses from none has a higher priority (R225). An uplink port whose one waiting packet is ready, without gates and not secured, sends it and its queue is empty. A released packet
charges each node of its path: tat becomes the greater of tat and now plus its cost, and a node past its peak allowance enters the calendar wheel (R226, R227). CALENDAR_SLOT takes a node whose eligible time has passed off the wheel, and enters another again. Where a clause rests on a reading or a choice of the model, it is one of log entry 79. -/
def Obligations.sheetSelection : Prop :=
  (∀ (p : PortIx) (a b : Bool) (e : Ecc) (s : State), let d := p.toNat
    (s.portOf d).st ≠ 0 ∨ 384 ≤ d ∨ (d < 256 ∧ (s.ch d ≠ 3 ∨ 49152 ≤ s.edgeBytes d)) ∨ (256 ≤ d ∧ (s.inFlight (d - 256)).isSome = true) → exec (.sheetPick p a b none e) s = .next s) ∧
  (∀ (s : State) (k : Nat) (c : Choice), k / 0x100000 = 0 ∨ k / 0x100000 = 4 → s.choose 4 k = some c → c.path.head? = some k ∧
    (∀ j, c.path.getLast? = some j → s.leafReady j = true) ∧
    ∀ j r, c.path = k :: j :: r → j ∈ s.children k ∧ s.elig 4 j = true ∧ ∀ i ∈ s.children k, s.elig 4 i = true →
      (s.committed i = true → s.committed j = true) ∧ (s.committed i = s.committed j → ndPrio (s.node i) ≤ ndPrio (s.node j))) ∧
  (∀ (p : BitVec 7) (c : Nat) (q : QPkt) (x : EgQ) (e : Ecc) (s : State), let n := p.toNat; let i := 8 * n + c; c < 8 → s.qOf (cqName i) = x → x.pkts = [q] → q.start + q.size ≤ x.d →
    (∀ j, j < 8 → j ≠ c → (s.qOf (cqName (8 * n + j))).pkts = []) → (s.portOf (256 + n)).st = 0 → s.inFlight n = none → (s.gatesOf (n / 8)).cur = none → (s.pfcOf i).paused = false →
    s.nodeReady (nodeName 4 n) = true → ndValid (s.node (nodeName 4 n)) = true → s.nodeReady (nodeName 5 i) = true → q.pkt.len ≤ 16000 → q.pkt.poison = false → s.secures n q.pkt.bytes = false →
    ∃ t, exec (.sheetPick (BitVec.ofNat 9 (256 + n)) false false none e) s = .next t ∧ t.inFlight n = some (q.pkt, false, false) ∧ t.qOf (cqName i) = egQ0 ∧
      (∀ j, j ≠ cqName i → t.qOf j = s.qOf j) ∧ (∀ j, j ≠ n → t.inFlight j = s.inFlight j) ∧ FrameBut [.fab, .sht, .cnt, .out] s t) ∧
  (∀ (s : State) (l k : Nat), let t := s.chargeNode l k; let ws := s.node k; let n := countedLen ws l; let up := fun (a b : Nat) => (a + b - 1) / b
    (ndPir ws ≠ 0 → (t.dynOf k).tatP = max (s.dynOf k).tatP s.nowU + up (n * 2048000000) (ndPir ws)) ∧ (ndPir ws = 0 → (t.dynOf k).tatP = (s.dynOf k).tatP ∧ (t.dynOf k).wheel = none) ∧
    (ndCir ws ≠ 0 → (t.dynOf k).tatC = max (s.dynOf k).tatC s.nowU + up (n * 2048000000) (ndCir ws)) ∧ (ndCir ws = 0 → (t.dynOf k).tatC = (s.dynOf k).tatC) ∧
    ((t.dynOf k).wheel = none ↔ ndPir ws = 0 ∨ (t.dynOf k).tatP ≤ s.nowU + up (ndPbs ws * 2048000000) (ndPir ws)) ∧
    (∀ w, (t.dynOf k).wheel = some w → w = ((t.dynOf k).tatP - up (ndPbs ws * 2048000000) (ndPir ws)) / (128 * 256) % 65536) ∧
    (∀ j, j ≠ k → t.dynOf j = s.dynOf j) ∧ FrameBut [.sht] s t) ∧
  (∀ (x : BitVec 16) (s : State), ∃ t, exec (.calendarSlot x) s = .next t ∧ FrameBut [.sht] s t ∧ ∀ k,
    ((s.dynOf k).wheel = some x.toNat → t.dynOf k = { s.dynOf k with wheel := if s.peakOk k then none else some (s.wheelSlot k) }) ∧
    ((∀ p ∈ s.sht.node, p.1 = k → p.2.wheel ≠ some x.toNat) → t.dynOf k = s.dynOf k))

/-- GATE_LIST_ACTIVE puts the waiting list of a group in force once its cycle start has come and posts it; GATE_ENTRY_CHANGE shows the entry in force and its gates, all open without a list. A list's first cycle start is base plus a whole number of cycles, the first at or after the apply instant and not before base (R231). PFC_REFRESH sends one frame for the classes that XOFF holds, if any (R233). A received PFC frame stops each enabled class that has 802.1Qbb, or lets it go at quanta 0, counted, and only counts the others; PFC_PAUSE_EXPIRY lets the class compete again; PFC_STORM marks a stopped class and posts
it once (R234). UPLINK_FRAME_SENT ends the frame that a port is sending and puts it out; with a stamp asked for by the host, an entry joins the group's queue of 64, or is dropped and counted (R265). Where a clause rests on a reading or a choice of the model, it is one of log entry 79. -/
def Obligations.sheetGatesPfc : Prop :=
  (∀ (u : Uplink) (s : State), let n := u.toNat
    ((s.gatesOf n).next = none ∨ (∃ g st, (s.gatesOf n).next = some (g, st) ∧ s.nowNs < st) → exec (.gateListActive u) s = .next s) ∧
    (∀ g st, (s.gatesOf n).next = some (g, st) → st ≤ s.nowNs → ∃ t, exec (.gateListActive u) s = .next t ∧ t.gatesOf n = { cur := some (g, st), next := none } ∧
      (∀ j, j ≠ n → t.gatesOf j = s.gatesOf j) ∧ t.flag ((F.shtGateSts_active).inst n) = true ∧ t.flag ((F.shtGateSts_pending).inst n) = false ∧
      t.fld F.shtSts_gates_pending / 2 ^ n % 2 = 0 ∧ Posted s t 0x0F01 [n] ∧ FrameBut [.regs, .sht, .evq, .cnt, .mem] s t) ∧
    (∃ t, exec (.gateEntryChange u) s = .next t ∧ FrameBut [.regs] s t ∧ FldsBut [(F.shtGateSts_entry).inst n, (F.shtGateSts_gates).inst n] s t ∧
      ((s.gatesOf n).cur = none → t.fld ((F.shtGateSts_entry).inst n) = 0 ∧ t.fld ((F.shtGateSts_gates).inst n) = 0xFF) ∧
      (∀ g st i o, (s.gatesOf n).cur = some (g, st) → st ≤ s.nowNs → 0 < g.cycle → entryAt g.entries 0 ((s.nowNs - st) % g.cycle) = (i, o) → i < 256 →
        t.fld ((F.shtGateSts_entry).inst n) = i ∧ t.fld ((F.shtGateSts_gates).inst n) = (g.entries.getD i (0, 0)).1 % 256))) ∧
  (∀ base cycle now : Nat, 0 < cycle → let x := cycleStart base cycle now; base ≤ x ∧ now ≤ x ∧ (x - base) % cycle = 0 ∧ (x = base ∨ x < now + cycle)) ∧
  (∀ (p : BitVec 7) (s : State), let n := p.toNat
    ((∀ c, c < 8 → (s.pfcOf (8 * n + c)).xoff = false) → exec (.pfcRefresh p) s = .next s) ∧
    ((∃ c, c < 8 ∧ (s.pfcOf (8 * n + c)).xoff = true) → ∃ t en qs, exec (.pfcRefresh p) s = .next t ∧ t.out = s.out ++ [.pfc n en qs (s.pfcSa n)] ∧
      (∀ c, c < 8 → (en / 2 ^ c % 2 = 1 ↔ (s.pfcOf (8 * n + c)).xoff = true) ∧ qs.getD c 0 = if (s.pfcOf (8 * n + c)).xoff then s.fld F.shtPfcCfg_quanta else 0) ∧
      FrameBut [.cnt, .out] s t) ∧
    (∀ (en : Byte) (qs : List (BitVec 16)), ∃ t, exec (.pfcFrameReceived p en qs) s = .next t ∧ FrameBut [.regs, .cnt, .sht] s t ∧ (∀ j, j / 8 ≠ n → t.pfcOf j = s.pfcOf j) ∧
      ∀ c, c < 8 → let x := s.pfcOf (8 * n + c); let stop := decide ((qs.getD c 0).toNat ≠ 0)
        t.pfcOf (8 * n + c) = if en.toNat / 2 ^ c % 2 = 1 ∧ s.pfcEn n c = true then { x with paused := stop, storm := x.storm && stop } else x) ∧
    (∀ c : BitVec 3, let k := 8 * n + c.toNat; let x := s.pfcOf k
      (∃ t, exec (.pfcPauseExpiry p c) s = .next t ∧ t.pfcOf k = { x with paused := false, storm := false } ∧ (∀ j, j ≠ k → t.pfcOf j = s.pfcOf j) ∧ FrameBut [.regs, .sht] s t) ∧
      (x.paused = false ∨ x.storm = true → exec (.pfcStorm p c) s = .next s) ∧
      (x.paused = true → x.storm = false → ∃ t, exec (.pfcStorm p c) s = .next t ∧ t.pfcOf k = { x with storm := true } ∧ (∀ j, j ≠ k → t.pfcOf j = s.pfcOf j) ∧
        t.fld F.shtSts_pfc_storm / 2 ^ (n / 8) % 2 = 1 ∧ Posted s t 0x0F03 [n, c.toNat] ∧ FrameBut [.regs, .cnt, .evq, .mem, .sht] s t)) ∧
    (∀ st : Stamp, (s.inFlight n = none → exec (.uplinkFrameSent p st) s = .next s) ∧
      (∀ k sec bad, s.inFlight n = some (k, sec, bad) → ∃ t, exec (.uplinkFrameSent p st) s = .next t ∧ t.inFlight n = none ∧ (∀ j, j ≠ n → t.inFlight j = s.inFlight j) ∧
        t.out = s.out ++ [.uplink n k sec bad] ∧
        (k.tsReq = none ∨ k.host = false → FrameBut [.fab, .out] s t) ∧
        (∀ id, k.tsReq = some id → k.host = true → let u := n / 8; let l := Tbl.find s.tim.tsq u []; let x := calStamp st (signed 16 (s.fld (F.timUlat_tx_cal u)))
          (l.length < 64 → Tbl.find t.tim.tsq u [] = l ++ [{ w0 := 2 ^ 31 + (if bad then 2 else 0) * 2 ^ 28 + n % 8 * 2 ^ 25 + id % 65536, w1 := x.ns, w2 := x.hi / 1024 * 1024 }] ∧
            t.fld (F.timTsqSts_count u) = l.length + 1 ∧ t.cnt = (s.count Cn.tsqEntries u).cnt) ∧
          (64 ≤ l.length → t.tim = s.tim ∧ t.flag (F.timTsqSts_ovf u) = true)))))

/-- From a master that may use them: with an index outside its level the node window's operations report 1 and change nothing else; NODE_READ_APPLIED of a clean word and NODE_READ_STAGED put the applied or the staged words of the node into the data registers, NODE_WRITE_STAGED stages the seven words, NODE_ZERO_DATA zeroes them; QS_READ latches the depth, the largest depth, the sojourn and the largest sojourn of the queue it names, and QS_READ_CLEAR also clears both maxima (R235). From any other master none has an effect. An unwritten node has its reset record (R223). Where a clause rests on a reading or a choice of the model, it is one of log entries 4, 79. -/
def Obligations.sheetWindows : Prop :=
  (∀ (m : Master) (s : State), s.shtMay m = false → (∀ e b, exec (.nodeReadApplied m e b) s = .next s) ∧ exec (.nodeReadStaged m) s = .next s ∧ exec (.nodeWriteStaged m) s = .next s ∧
    exec (.nodeZeroData m) s = .next s ∧ exec (.qsRead m) s = .next s ∧ exec (.qsReadClear m) s = .next s) ∧
  (∀ (m : Master) (s : State), s.shtMay m = true →
    let shows := fun (x : Instr) (ws : List Nat) => ∃ t, exec x s = .next t ∧ (∀ i, i < 7 → t.fld (F.shtNodeData i) = wordOf ws i % 2 ^ 32) ∧
      t.fld F.shtNodeCmd_result = 0 ∧ FldsBut (F.shtNodeCmd_result :: (List.range 7).map F.shtNodeData) s t ∧ FrameBut [.regs] s t;
    (s.winNode = none → (∀ e b, exec (.nodeReadApplied m e b) s = .next (s.setFld F.shtNodeCmd_result 1)) ∧ exec (.nodeReadStaged m) s = .next (s.setFld F.shtNodeCmd_result 1) ∧
      exec (.nodeWriteStaged m) s = .next (s.setFld F.shtNodeCmd_result 1)) ∧
    shows (.nodeZeroData m) [] ∧
    (∀ k, s.winNode = some k →
      (s.poisoned 5 (Config.wordIx 5 kNode k) = false → Tbl.find s.mem.flipped (memKey 5 (Config.wordIx 5 kNode k)) 0 = 0 → ∀ b, shows (.nodeReadApplied m .clean b) (s.node k)) ∧
      shows (.nodeReadStaged m) (s.nodeStaged k) ∧
      (s.rigState < 4 → ∃ t, exec (.nodeWriteStaged m) s = .next t ∧ t.recordStaged kNode k = (List.range 7).map (fun i => s.fld (F.shtNodeData i)) ∧ t.recs = s.recs ∧ t.rigState = 0 ∧
        t.fld F.shtNodeCmd_result = 0)) ∧
    (let q := s.winQueue
    let x := s.qsOf q
    let latched := fun (t : State) => t.fld F.shtQsDepth_depth = min (s.qOf q).depth 0xFFFFFFFF ∧ t.fld F.shtQsDmax_dmax = x.dmax % 2 ^ 32 ∧
        t.fld F.shtQsSoj_soj = x.soj % 2 ^ 32 ∧ t.fld F.shtQsSmax_smax = x.smax % 2 ^ 32 ∧ FldsBut [F.shtQsDepth_depth, F.shtQsDmax_dmax, F.shtQsSoj_soj, F.shtQsSmax_smax] s t;
      (∃ t, exec (.qsRead m) s = .next t ∧ latched t ∧ FrameBut [.regs] s t) ∧
      ∃ t, exec (.qsReadClear m) s = .next t ∧ latched t ∧ t.qsOf q = { x with dmax := 0, smax := 0 } ∧ (∀ j, j ≠ q → t.qsOf j = s.qsOf j) ∧ FrameBut [.regs, .sht] s t)) ∧
  (∀ (s : State) (lvl ix : Nat), ix < 0x100000 → s.record kNode (nodeName lvl ix) = [] → let ws := s.node (nodeName lvl ix)
    (lvl = 0 → wordOf ws 0 = 0x80000001) ∧ (lvl = 4 → wordOf ws 0 = 0x80140001) ∧ (lvl = 5 → ndPrio ws = ix % 8 ∧ ndValid ws = false) ∧ (lvl = 1 ∨ lvl = 2 ∨ lvl = 3 → ws = []))

/-- A command of the SHR window from a master that may not write SHR, or with the SHR domain held, changes nothing. ROOT_LOAD makes the root valid once: the eight words, first byte first, SHR_KCV from the class 0x0005 key, no wrapped saves, SHR_ROOT_LOADED posted; a valid root stays (R240). MSK_LOAD, KEY_LOAD, KEY_CLEAR, GROUP_GEN, GROUP_EXPORT, GROUP_ACTIVATE and
CA_KEK_LOAD end BAD_ARG for an index or sub that does not exist, then NO_ROOT for those that need a key, then by R245 (the order is the model's DESIGN CHOICE, log entry 37), and else complete: the record or generation is written and no other, its key leaves every lane's cache, and a mirroring part sends one KEYS message (R306). GROUP_EXPORT returns the group key under the ONU's KEK. A poisoned ONU key record is cleared and
posted, and KEY_LOAD ends POISONED (R254). GROUP_KEY_SWITCH makes the chosen index active (R245). Where a clause rests on a reading or a choice of the model, it is one of log entries 33, 35, 37. -/
def Obligations.shroudKeys : Prop :=
  (∀ (m : Master) (e : Ecc) (w : Word) (s : State) (c : Instr), mayWrite m = false ∨ s.released 5 = false →
    c ∈ [Instr.rootLoad m w, .mskLoad m, .keyLoad m e, .keyClear m, .groupGen m, .groupExport m e, .groupActivate m, .caKekLoad m, .saInstall m, .saExport m e, .saDelete m,
      .setTxAn m, .saveClear m e, .saveWrapped m e, .restore m, .pnRead m e] → exec c s = .next s) ∧
  (∀ (m : Master) (w : Word) (s : State), ShrOpen s m →
    (s.shr.root ≠ none → exec (.rootLoad m w) s = .next s) ∧
    (s.shr.root = none → ∃ t k, exec (.rootLoad m w) s = .next t ∧ t.shr = { s.shr with root := some k } ∧ k.length = 32 ∧
      (∀ i, i < 7 → (k.drop (4 * i)).take 4 = beBytes 4 (s.fld (F.shrRoot i))) ∧ k.drop 28 = beBytes 4 w.toNat ∧ t.flag F.shrSts_root_valid = true ∧
      t.fld F.shrKcv_kcv = beNat ((kdf k 5 [] 16).take 4) ∧ t.fld F.shrWrapCnt_count = 0 ∧ Posted s t 0x0801 [t.fld F.shrKcv_kcv] ∧
      FldsBut [F.shrRoot 7, F.shrSts_root_valid, F.shrKcv_kcv, F.shrWrapCnt_count] s t ∧ FrameBut [.regs, .shr, .cnt, .evq, .mem] s t)) ∧
  (∀ (m : Master) (s : State), ShrOpen s m →
    let n := s.shrIx
    let i := s.shrSub
    let rooted := s.shr.root ≠ none
    let ix := i = 1 ∨ i = 2
    let drops := fun (st : Nat) (t : State) => ∀ p, keyName st n ∉ Tbl.find t.shr.cache p []
    let keys := fun (x : Instr) (k : OnuKeys) => ShrDone x m s (s.setKeys n k).shr (drops 3)
    let grp := fun (x : Instr) (g : GroupKeys) => ShrDone x m s (s.setGrp n g).shr
    (65536 ≤ n → ShrEnds (.mskLoad m) m s 2) ∧ (n < 65536 → ¬ rooted → ShrEnds (.mskLoad m) m s 3) ∧
    (n < 65536 → rooted → keys (.mskLoad m) { s.keysOf n with msk := some (s.shrBytes 0 16) }) ∧
    (∀ e, 65536 ≤ n ∨ ¬ ix → ShrEnds (.keyLoad m e) m s 2) ∧ (∀ e, n < 65536 → ix → ¬ rooted → ShrEnds (.keyLoad m e) m s 3) ∧
    (n < 65536 → ix → rooted → RecClean s 0x10 19 n →
      ((s.keysOf n).msk = none → ShrEnds (.keyLoad m .clean) m s 8) ∧
      (∀ k, (s.keysOf n).msk = some k → (s.activeKey n = some i → ShrEnds (.keyLoad m .clean) m s 1) ∧
        (s.activeKey n ≠ some i → let d := fitBytes 16 (Config.aesDec (Config.onuKek k) (s.shrBytes 0 16))
          keys (.keyLoad m .clean) (if i = 1 then { s.keysOf n with k1 := some d } else { s.keysOf n with k2 := some d })))) ∧
    (∀ e, n < 65536 → ix → rooted → s.poisoned 0x10 (Config.wordIx 0x10 19 n) = true → s.flag F.memFlipCtrl_armed = false →
      ∃ t, exec (.keyLoad m e) s = .next t ∧ t.fld F.shrCmd_result = 7 ∧ t.keysOf n = noKeys ∧ (∀ j, j ≠ n → t.keysOf j = s.keysOf j) ∧
        t.poisoned 0x10 (Config.wordIx 0x10 19 n) = false ∧ t.evq = (s.post 0x0806 [3, n]).evq ∧ FldsBut [F.shrCmd_result] s t ∧ FrameBut [.regs, .shr, .mem, .evq, .cnt] s t) ∧
    (65536 ≤ n ∨ 2 < i → ShrEnds (.keyClear m) m s 2) ∧
    (n < 65536 → i = 0 → ((s.onuOf n).st = 4 → ShrEnds (.keyClear m) m s 1) ∧ ((s.onuOf n).st ≠ 4 → keys (.keyClear m) noKeys)) ∧
    (n < 65536 → ix → (s.activeKey n = some i → ShrEnds (.keyClear m) m s 1) ∧
      (s.activeKey n ≠ some i → keys (.keyClear m) (if i = 1 then { s.keysOf n with k1 := none } else { s.keysOf n with k2 := none }))) ∧
    (256 ≤ n ∨ ¬ ix → ShrEnds (.groupGen m) m s 2 ∧ ShrEnds (.groupActivate m) m s 2) ∧
    (n < 256 → ix → (¬ rooted → ShrEnds (.groupGen m) m s 3) ∧
      (rooted → (s.grpOf n).active = i ∨ (s.grpOf n).next = some i → ShrEnds (.groupGen m) m s 1) ∧
      (rooted → (s.grpOf n).active ≠ i → (s.grpOf n).next ≠ some i → let v := some (s.fld (F.shrArg 1))
        grp (.groupGen m) (if i = 1 then { s.grpOf n with gen1 := v } else { s.grpOf n with gen2 := v }) (drops 4)) ∧
      ((s.grpOf n).gen i = none → ShrEnds (.groupActivate m) m s 1) ∧
      ((s.grpOf n).gen i ≠ none → grp (.groupActivate m) { s.grpOf n with next := some i } (fun t => t.shr.cache = s.shr.cache))) ∧
    (let o := s.fld (F.shrArg 1)
    (∀ e, 256 ≤ n ∨ ¬ ix ∨ 65536 ≤ o → ShrEnds (.groupExport m e) m s 2) ∧ (∀ e, n < 256 → ix → o < 65536 → ¬ rooted → ShrEnds (.groupExport m e) m s 3) ∧
    (n < 256 → ix → o < 65536 → rooted → RecClean s 0x10 19 o →
      ((s.keysOf o).msk = none ∨ (s.grpOf n).gen i = none → ShrEnds (.groupExport m .clean) m s 8) ∧
      ∀ k g, (s.keysOf o).msk = some k → (s.grpOf n).gen i = some g → ∃ t, exec (.groupExport m .clean) s = .next t ∧ t.fld F.shrCmd_result = 0 ∧
        t.shrBytes 0 16 = fitBytes 16 (Config.aesEnc (Config.onuKek k) (kdf s.root 1 ([n, i, 0, 0] ++ beBytes 4 g) 16)) ∧
        t.shr = { s.shr with issuer := some m.toNat } ∧ FldsBut (F.shrCmd_result :: (List.range 4).map F.shrData) s t ∧ FrameBut [.regs, .shr] s t)) ∧
    (128 ≤ n ∨ ¬ ix → ShrEnds (.caKekLoad m) m s 2) ∧ (n < 128 → ix → ¬ rooted → ShrEnds (.caKekLoad m) m s 3) ∧
    (n < 128 → ix → rooted → ∃ t, exec (.caKekLoad m) s = .next t ∧ t.fld F.shrCmd_result = 0 ∧ Tbl.find t.shr.ca n none = some (s.shrBytes 0 (if i = 1 then 16 else 32)) ∧
      (∀ j, j ≠ n → Tbl.find t.shr.ca j none = Tbl.find s.shr.ca j none) ∧ drops 0 t ∧ t.shr = { s.shr with issuer := some m.toNat, ca := t.shr.ca, cache := t.shr.cache } ∧
      FldsBut [F.shrCmd_result] s t ∧ FrameBut [.regs, .shr] s t)) ∧
  (∀ (c : Chan) (s : State), let g := s.grpOf c.toNat
    (g.next = none → exec (.groupKeySwitch c) s = .next s) ∧
    (∀ i, g.next = some i → ∃ t, exec (.groupKeySwitch c) s = .next t ∧ t.grpOf c.toNat = { g with active := i, next := none } ∧
      (∀ j, j ≠ c.toNat → t.grpOf j = s.grpOf j) ∧ t.shr = { s.shr with grp := t.shr.grp } ∧ FrameBut [.shr] s t))

/-- From a master that may write SHR: SA_INSTALL fills an empty slot from its operands and ends BAD_STATE for a valid one; SA_DELETE empties a slot, and ends BAD_STATE for the one tx_an names; SET_TX_AN selects an installed SA; SA_EXPORT returns the SAK wrapped under the KEK of the SA's CA record (R248). SAVE_CLEAR returns the 128-byte blob of an exportable context and
NOT_EXPORTABLE for another; SAVE_WRAPPED returns it wrapped with a fresh nonce, which the nonce record repeats, and counts it; RESTORE checks the blob in the order of R250 and writes its context: a channel's group key state as saved, a transmit SA with next_pn moved on by the gap; PN_READ puts an SA's packet number into the nonce record (R250, R251). The results of an argument out of range, of a missing root and of an empty
slot come in the order of the model (DESIGN CHOICE, log entry 37). CIPHER_LANE_FAULT empties the lane's cache and changes no other; beyond the allowance it retires the lane, and the free spare P16 takes its logical lane; a lane that serves no logical lane has no effect (R252, R253). Where a clause rests on a reading or a choice of the model, it is one of log entries 33, 34, 36, 37. -/
def Obligations.shroudSasBlobsLanes : Prop :=
  (∀ (m : Master) (s : State), ShrOpen s m →
    let n := s.shrIx
    let rx := decide (s.shrSub % 2 = 1)
    let st := if rx then 2 else 1
    let drops := fun (t : State) => ∀ p, keyName st n ∉ Tbl.find t.shr.cache p []
    let keep := fun (t : State) => (∀ b j, (b, j) ≠ (rx, n) → t.saOf b j = s.saOf b j) ∧ t.shr.root = s.shr.root ∧ t.shr.keys = s.shr.keys ∧ t.shr.ca = s.shr.ca ∧ t.shr.grp = s.shr.grp ∧
      t.shr.repl = s.shr.repl ∧ t.shr.moved = s.shr.moved ∧ t.shr.issuer = some m.toNat
    (slotOk rx n = false → ShrEnds (.saInstall m) m s 2 ∧ ShrEnds (.saDelete m) m s 2 ∧ ∀ e, ShrEnds (.pnRead m e) m s 2) ∧
    (slotOk rx n = true → (s.saOf rx n).isSome = true → ShrEnds (.saInstall m) m s 1) ∧
    (slotOk rx n = true → s.saOf rx n = none → ShrEnds (.saDelete m) m s 8 ∧ ∃ t, exec (.saInstall m) s = .next t ∧ t.fld F.shrCmd_result = 0 ∧ keep t ∧ drops t ∧
      t.saOf rx n = some { port := if rx then n / 16 else n / 4, an := n % 4, sc := if rx then n / 4 % 4 else 0, replay := decide (s.fld (F.shrArg 3) / 256 % 2 = 1), exportable := decide (s.shrSub / 2 % 2 = 1), keyNo := s.fld (F.shrArg 1), ssci := s.fld (F.shrArg 2), salt := s.shrBytes 0 12, pn := beNat (s.shrBytes 12 8), member := s.shrBytes 20 12, ca := s.fld (F.shrArg 3) % 128, thrSaid := false, exhausted := false } ∧
      (rx = true → Tbl.find t.shr.sci (n / 4) 0 = beNat (s.shrBytes 32 8) ∧ FldsBut [F.shrCmd_result] s t) ∧
      (∀ j, j ≠ n / 4 ∨ rx = false → Tbl.find t.shr.sci j 0 = Tbl.find s.shr.sci j 0) ∧
      FldsBut [F.shrCmd_result, (F.shrPortSts_pn_thr_hit).inst (n / 4), (F.shrPortSts_pn_exhausted).inst (n / 4)] s t ∧ FrameBut [.regs, .shr] s t) ∧
    (slotOk rx n = true → (s.saOf rx n).isSome = true →
      let named := rx = false ∧ s.flag ((F.shrPortSts_tx_valid).inst (n / 4)) = true ∧ s.fld ((F.shrPortSts_tx_an).inst (n / 4)) = n % 4
      (named → ShrEnds (.saDelete m) m s 1) ∧
      (¬ named → ∃ t, exec (.saDelete m) s = .next t ∧ t.fld F.shrCmd_result = 0 ∧ keep t ∧ drops t ∧ t.saOf rx n = none ∧ t.shr.sci = s.shr.sci ∧
        FldsBut [F.shrCmd_result] s t ∧ FrameBut [.regs, .shr] s t)) ∧
    (slotOk rx n = true → RecClean s 0x08 (16 + st) n → (s.saOf rx n = none → ShrEnds (.pnRead m .clean) m s 8) ∧
      ∀ a, s.saOf rx n = some a → ∃ t, exec (.pnRead m .clean) s = .next t ∧ t.fld F.shrCmd_result = 0 ∧ t.fld (F.shrNrec 0) = (1 + st) % 4 * 2 ^ 24 + n ∧
        t.fld (F.shrNrec 1) = a.pn / 2 ^ 32 % 2 ^ 32 ∧ t.fld (F.shrNrec 2) = a.pn % 2 ^ 32 ∧ t.fld (F.shrNrec 3) = 0 ∧ t.shr = { s.shr with issuer := some m.toNat } ∧
        FldsBut (F.shrCmd_result :: (List.range 4).map F.shrNrec) s t ∧ FrameBut [.regs, .shr] s t) ∧
    (128 ≤ n ∨ 3 < s.shrSub → ShrEnds (.setTxAn m) m s 2) ∧
    (n < 128 → s.shrSub ≤ 3 → (s.saOf false (4 * n + s.shrSub) = none → ShrEnds (.setTxAn m) m s 8) ∧
      (∀ a, s.saOf false (4 * n + s.shrSub) = some a → ∃ t, exec (.setTxAn m) s = .next t ∧ t.fld F.shrCmd_result = 0 ∧ t.fld ((F.shrPortSts_tx_an).inst n) = s.shrSub ∧
        t.flag ((F.shrPortSts_tx_valid).inst n) = true ∧ t.flag ((F.shrPortSts_pn_thr_hit).inst n) = a.thrSaid ∧ t.flag ((F.shrPortSts_pn_exhausted).inst n) = a.exhausted ∧
        t.shr = { s.shr with issuer := some m.toNat } ∧ FldsBut [F.shrCmd_result, (F.shrPortSts_tx_an).inst n, (F.shrPortSts_tx_valid).inst n, (F.shrPortSts_pn_thr_hit).inst n,
          (F.shrPortSts_pn_exhausted).inst n] s t ∧ FrameBut [.regs, .shr] s t)) ∧
    (∀ e, (512 ≤ n → ShrEnds (.saExport m e) m s 2) ∧ (n < 512 → s.shr.root = none → ShrEnds (.saExport m e) m s 3) ∧
      (n < 512 → s.shr.root ≠ none → s.saOf false n = none → ShrEnds (.saExport m e) m s 8)) ∧
    (∀ a, n < 512 → s.shr.root ≠ none → s.saOf false n = some a → RecClean s 0x10 16 a.ca → (Tbl.find s.shr.ca a.ca none = none → ShrEnds (.saExport m .clean) m s 8) ∧
      ∀ kek, Tbl.find s.shr.ca a.ca none = some kek → ∃ t, exec (.saExport m .clean) s = .next t ∧ t.fld F.shrCmd_result = 0 ∧
        t.shrBytes 0 40 = fitBytes 40 (Config.keyWrap kek (kdf s.root 2 ([a.port, 0, 0, 0] ++ fitBytes 12 a.member ++ beBytes 4 a.keyNo) 32)) ∧
        t.shr = { s.shr with issuer := some m.toNat } ∧ FldsBut (F.shrCmd_result :: (List.range 10).map F.shrData) s t ∧ FrameBut [.regs, .shr] s t)) ∧
  (∀ (m : Master) (s : State), ShrOpen s m →
    let n := s.shrIx
    let k := s.shrSub
    let kcv := s.fld F.shrKcv_kcv
    (∀ e, ctxOk k n = false → ShrEnds (.saveClear m e) m s 2 ∧ ShrEnds (.saveWrapped m e) m s 2) ∧
    (∀ e, ctxOk k n = true → s.shr.root = none → ShrEnds (.saveWrapped m e) m s 3) ∧
    (ctxOk k n = true → RecClean s (storeMem k) (16 + k) n →
      (s.ctxBody k n = none → ShrEnds (.saveClear m .clean) m s 8 ∧ (s.shr.root ≠ none → ShrEnds (.saveWrapped m .clean) m s 8)) ∧
      (∀ b x, s.ctxBody k n = some (b, x) →
        (x = false → ShrEnds (.saveClear m .clean) m s 4) ∧
        (x = true → ∃ t, exec (.saveClear m .clean) s = .next t ∧ t.fld F.shrCmd_result = 0 ∧
          t.shrBytes 0 128 = [0x53, 0x48, 1, k, 2, 0, 0, 0] ++ beBytes 4 n ++ beBytes 4 kcv ++ List.replicate 16 0 ++ fitBytes 80 b ++ List.replicate 16 0 ∧
          t.shr = { s.shr with issuer := some m.toNat } ∧ FldsBut (F.shrCmd_result :: (List.range 32).map F.shrData) s t ∧ FrameBut [.regs, .shr] s t) ∧
        (s.shr.root ≠ none → ∃ t no, exec (.saveWrapped m .clean) s = .next t ∧ t.fld F.shrCmd_result = 0 ∧ no.length = 12 ∧
          (let head := [0x53, 0x48, 1, k, 1 + 2 * x.toNat, 0, 0, 0] ++ beBytes 4 n ++ beBytes 4 kcv ++ no ++ [0, 0, 0, 0]
          t.shrBytes 0 128 = head ++ fitBytes 80 (Config.gcmText s.kwk no head (fitBytes 80 b)) ++ fitBytes 16 (Config.gcmTag s.kwk no head (fitBytes 80 b))) ∧
          t.fld (F.shrNrec 0) = 2 ^ 24 + n ∧ (∀ j, j < 3 → t.fld (F.shrNrec (1 + j)) = beNat ((no.drop (4 * j)).take 4)) ∧
          t.fld F.shrWrapCnt_count = min (s.fld F.shrWrapCnt_count + 1) 0xFFFFFFFF ∧ (s.fld F.shrWrapCnt_count + 1 = 2 ^ 31 → t.flag F.shrSts_wrap_limit = true ∧ Posted s t 0x0807 []) ∧
          (s.fld F.shrWrapCnt_count + 1 ≠ 2 ^ 31 → FrameBut [.regs, .shr, .freeIx] s t) ∧ t.shr = { s.shr with issuer := some m.toNat } ∧
          FldsBut ([F.shrCmd_result, F.shrWrapCnt_count, F.shrSts_wrap_limit] ++ (List.range 32).map F.shrData ++ (List.range 4).map F.shrNrec) s t ∧
          FrameBut [.regs, .shr, .freeIx, .cnt, .evq, .mem] s t)))) ∧
  (∀ (m : Master) (s : State), ShrOpen s m →
    let b := s.shrBytes 0 128
    let kind := numAt b 3 1
    let ix := numAt b 8 4
    let wrapped := numAt b 4 1 % 2 = 1
    let sound := b.take 2 = [0x53, 0x48] ∧ numAt b 2 1 = 1 ∧ ctxOk kind ix = true
    (¬ sound → ShrEnds (.restore m) m s 2) ∧ (sound → ¬ wrapped → kind = 1 ∨ kind = 3 → ShrEnds (.restore m) m s 2) ∧
    (sound → wrapped → (s.shr.root = none → ShrEnds (.restore m) m s 3) ∧ (s.shr.root ≠ none → numAt b 12 4 ≠ s.fld F.shrKcv_kcv → ShrEnds (.restore m) m s 6) ∧
      (s.shr.root ≠ none → numAt b 12 4 = s.fld F.shrKcv_kcv → let open_ := Config.gcmOpen s.kwk ((b.drop 16).take 12) (b.take 32) ((b.drop 32).take 80) (b.drop 112)
        (open_ = none → ShrEnds (.restore m) m s 5) ∧
        (∀ p, open_ = some p → kind = 1 → ∃ t a, exec (.restore m) s = .next t ∧ t.fld F.shrCmd_result = 0 ∧ t.saOf false ix = some a ∧ a.port = ix / 4 ∧ a.an = ix % 4 ∧
          a.pn = min (numAt (fitBytes 80 p) 24 8 + 2 ^ s.fld F.shrCfg_pn_gap_log) (2 ^ 64 - 1) ∧ a.keyNo = numAt (fitBytes 80 p) 4 4 ∧ (∀ j, j ≠ ix → t.saOf false j = s.saOf false j) ∧
          t.shr.rx = s.shr.rx ∧ t.shr.keys = s.shr.keys ∧ t.shr.grp = s.shr.grp ∧ FrameBut [.regs, .shr, .mem] s t))) ∧
    (∀ c g, b = blobOf 4 2 c (s.fld F.shrKcv_kcv) [] (grpBody c g) [] → c < 256 → g.active < 256 → (∀ v, g.gen1 = some v ∨ g.gen2 = some v → 0 < v ∧ v < 2 ^ 32) →
      ∃ t, exec (.restore m) s = .next t ∧ t.fld F.shrCmd_result = 0 ∧ t.grpOf c = { g with next := none } ∧ (∀ j, j ≠ c → t.grpOf j = s.grpOf j) ∧ t.shr.tx = s.shr.tx ∧
        t.shr.rx = s.shr.rx ∧ t.shr.keys = s.shr.keys ∧ FrameBut [.regs, .shr, .mem] s t)) ∧
  (∀ (x : BitVec 5) (s : State), let p := x.toNat
    ((∀ l, l < 16 → s.flag (F.shrLane_in_use l) = false ∨ s.fld (F.shrLane_phys l) ≠ p) → ∀ u, exec (.cipherLaneFault x u) s = .next s) ∧
    (∀ l, s.logicalOf p = some l →
      ((s.ladder 4 p).2 = false → ∃ t, exec (.cipherLaneFault x .none) s = .next t ∧ t.shr = { s.shr with cache := Tbl.put s.shr.cache p [] [] } ∧
        FldsBut [F.shrLane_faults l] s t ∧ FrameBut [.regs, .cnt, .evq, .rig, .sup, .mem, .shr] s t) ∧
      ((s.ladder 4 p).2 = true → p < 16 → s.isRetired 4 p = false → (∀ j, j < 16 → Tbl.find s.shr.repl j 0 = 0 ∧ s.fld (F.shrLane_phys j) ≠ 16) →
        s.fld F.shrSts_retired / 2 ^ 16 % 2 = 0 → s.fld F.shrSts_retired / 2 ^ p % 2 = 0 → 0 < s.fld F.shrSts_spares_free → ∃ t, exec (.cipherLaneFault x .none) s = .next t ∧
          t.fld (F.shrLane_phys l) = 16 ∧ t.flag (F.shrLane_in_use l) = true ∧ t.fld F.shrSts_retired = s.fld F.shrSts_retired + 2 ^ p ∧
          t.fld F.shrSts_spares_free = s.fld F.shrSts_spares_free - 1 ∧ t.isRetired 4 p = true ∧ (∀ j, j ≠ p → Tbl.find t.shr.cache j [] = Tbl.find s.shr.cache j []) ∧
          Tbl.find t.shr.cache p [] = [] ∧ FldsBut [F.shrLane_faults l, F.shrLane_phys l, F.shrSts_retired, F.shrSts_spares_free] s t ∧
          FrameBut [.regs, .cnt, .evq, .rig, .sup, .mem, .shr] s t)))

/-- LANE_REEF_REQUEST of a master that may write LANE is refused with reef_refused for an OFF or RETIRED lane, for a lane of a channel in STANDBY, STARTING, RUNNING or RETIRED and for a Stay link lane while enable = 1; granted, it begins, or waits for the entry in progress (R282). LANE_REEF_ENTERED ends the entry. LANE_LOCK_ACQUIRED locks an ACQUIRING lane, posted after a fault or a Reef exit. LANE_RESTART,
LANE_LOCK_LOSS and FOM_FAIL_TIMER act on a LOCKED lane only: it acquires again from its last good set, or the preset without one; with a signal, or at the timer, a fault counts, and one beyond the allowance retires an uplink lane (R278, R281, R283, R284); in forwarded-clock mode the loss of SLCK takes every SLD lane out of LOCKED (R294). ADAPT_WINDOW follows R281. SL_ENABLE starts alignment over, and SL_SYNC_BLOCK moves a lane as the
table of R289 gives; the link is up when every lane of its width is aligned (R290). Where a clause rests on a reading or a choice of the model, it is one of log entries 39, 40, 41. -/
def Obligations.lanesAndStayLink : Prop :=
  (∀ (m : Master) (k : LaneIx) (reef : BitVec 2) (s : State), let i := k.val; let l := s.laneOf i; let r := reef.toNat
    (mayWrite m = false ∨ s.released 6 = false ∨ reef = 3 → exec (.laneReefRequest m k reef) s = .next s) ∧
    (mayWrite m = true → s.released 6 = true → reef ≠ 3 →
      (s.ln i = 0 ∨ s.ln i = 5 ∨ (i < 512 ∧ (s.ch (i % 256) ≠ 1 ∧ s.ch (i % 256) ≠ 5 ∨ reef = 1)) ∨ (640 ≤ i ∧ s.flag F.laneSlCtrl_enable = true) → s.reefAllowed i r = false) ∧
      (s.reefAllowed i r = false → ∃ t, exec (.laneReefRequest m k reef) s = .next t ∧ t.fld (F.laneCtrl_reef i) = r ∧ t.flag (F.laneAlm_reef_refused i) = true ∧
        FldsBut [F.laneCtrl_reef i, F.laneAlm_reef_refused i] s t ∧ FrameBut [.regs] s t) ∧
      (s.reefAllowed i r = true → ∃ t, exec (.laneReefRequest m k reef) s = .next t ∧ t.fld (F.laneCtrl_reef i) = r ∧ FrameBut [.regs, .lanes] s t ∧ (∀ j, j ≠ i → t.laneOf j = s.laneOf j) ∧
        (l.entering ≠ none → t.laneOf i = { l with queued := some r } ∧ FldsBut [F.laneCtrl_reef i] s t) ∧
        (l.entering = none → r ≠ 0 → t.laneOf i = { l with entering := some r } ∧ FldsBut [F.laneCtrl_reef i] s t) ∧
        (l.entering = none → r = 0 → l.byHost = false → t.laneOf i = l ∧ FldsBut [F.laneCtrl_reef i] s t) ∧
        (l.entering = none → r = 0 → l.byHost = true → 512 ≤ i → t.ln i = 3 ∧ (t.laneOf i).byHost = false)))) ∧
  (∀ (k : LaneIx) (s : State), let i := k.val; let l := s.laneOf i
    (l.entering = none → exec (.laneReefEntered k) s = .next s) ∧
    (∀ r, l.entering = some r → l.queued = none → i < 640 ∨ i = 648 ∨ s.ln i ≠ 4 → ∃ t, exec (.laneReefEntered k) s = .next t ∧ t.ln i = (if r = 1 then 2 else 1) ∧
      t.laneOf i = { laneInit with byHost := true } ∧ (∀ j, j ≠ i → t.laneOf j = s.laneOf j) ∧ FldsBut [F.laneSts_state i] s t ∧ FrameBut [.regs, .lanes] s t) ∧
    (∀ r, l.entering = some r → l.queued = none → 640 ≤ i → i < 648 → s.ln i = 4 → ∃ t, exec (.laneReefEntered k) s = .next t ∧ t.ln i = (if r = 1 then 2 else 1) ∧ (t.slOf (i - 640)).st = 0)) ∧
  (∀ (k : LaneIx) (s : State), let i := k.val
    (s.ln i ≠ 3 → exec (.laneLockAcquired k) s = .next s) ∧
    (s.ln i = 3 → ∃ t, exec (.laneLockAcquired k) s = .next t ∧ t.ln i = 4 ∧ t.flag (F.laneSts_sig_det i) = true ∧ t.laneOf i = { s.laneOf i with announce := false } ∧
      ((s.laneOf i).announce = true → i < 640 → Posted s t 0x0902 [i]) ∧ ((s.laneOf i).announce = false → i < 640 → FrameBut [.regs, .lanes] s t) ∧
      (640 ≤ i → i < 648 → s.sldBound (i - 640) = true → t.flag F.laneSlSts_present = true) ∧
      FldsBut [F.laneSts_state i, F.laneSts_sig_det i, F.laneSlSts_present] s t ∧ FrameBut [.regs, .lanes, .evq, .cnt, .mem, .rig] s t)) ∧
  (∀ (m : Master) (k : LaneIx) (sig : Bool) (s : State), let i := k.val
    let good := s.flag (F.laneSts_good_valid i)
    let again := fun (t : State) => t.ln i = 3 ∧ t.flag (F.laneSts_frozen i) = false ∧
      t.fld (F.laneCoef i 0) = (if good then s.fld (F.laneGood i 0) else s.fld (F.lanePreset0 i)) ∧ t.fld (F.laneCoef i 1) = (if good then s.fld (F.laneGood i 1) else s.fld (F.lanePreset1 i)) ∧
      t.flag (F.laneAlm_lock_lost i) = true
    let regs := [F.laneCoef i 0, F.laneCoef i 1, F.laneSts_state i, F.laneSts_frozen i, F.laneSts_sig_det i, F.laneAlm_lock_lost i]
    (mayWrite m = false ∨ s.released 6 = false ∨ (s.ln i ≠ 3 ∧ s.ln i ≠ 4) → exec (.laneRestart m k) s = .next s) ∧
    (mayWrite m = true → s.released 6 = true → s.ln i = 4 → i < 640 → ∃ t, exec (.laneRestart m k) s = .next t ∧ again t ∧ t.sup = s.sup ∧
      FldsBut regs s t ∧ FrameBut [.regs, .lanes, .cnt, .evq, .mem] s t ∧ (i < 256 → t.evq = s.evq ∧ t.cnt = (s.count Cn.laneLockLoss i).cnt)) ∧
    (s.ln i ≠ 4 → exec (.laneLockLoss k sig) s = .next s ∧ exec (.fomFailTimer k) s = .next s) ∧
    (s.ln i = 4 → 512 ≤ i → i < 640 → (∃ t, exec (.laneLockLoss k false) s = .next t ∧ again t ∧ t.flag (F.laneSts_sig_det i) = false ∧ (t.laneOf i).announce = false ∧ t.sup = s.sup ∧
        FldsBut regs s t ∧ FrameBut [.regs, .lanes, .cnt, .evq, .mem] s t) ∧
      ((s.ladder 2 i).2 = false → (∃ t, exec (.laneLockLoss k true) s = .next t ∧ again t ∧ t.flag (F.laneAlm_fault i) = true ∧ (t.laneOf i).announce = true ∧
          FldsBut ([F.laneAlm_fault i, F.laneFaults_faults i] ++ regs) s t ∧ FrameBut [.regs, .lanes, .cnt, .evq, .mem, .rig, .sup] s t) ∧
        (s.flag (F.laneSts_frozen i) = false → s.fld (F.laneFom_fom i) < s.fld (F.laneAdapt_fom_fail i) → ∃ t, exec (.fomFailTimer k) s = .next t ∧ again t ∧
          t.flag (F.laneAlm_fault i) = true ∧ FldsBut ([F.laneAlm_fault i, F.laneFaults_faults i] ++ regs) s t ∧ FrameBut [.regs, .lanes, .cnt, .evq, .mem, .rig, .sup] s t)) ∧
      ((s.ladder 2 i).2 = true → s.portOfLane (i - 512) = none → ∃ t, exec (.laneLockLoss k true) s = .next t ∧ t.ln i = 5 ∧ t.isRetired 2 i = true)) ∧
    (s.flag (F.laneSts_frozen i) = true ∨ s.fld (F.laneAdapt_fom_fail i) ≤ s.fld (F.laneFom_fom i) ∨ i < 512 ∨ i = 648 → exec (.fomFailTimer k) s = .next s) ∧
    (i = 648 → s.ln i = 4 → s.rig.run.mate.rateMatched = false → ∃ t, exec (.laneLockLoss k sig) s = .next t ∧ (∀ j, j < 8 → t.ln (640 + j) ≠ 4) ∧
      ((∃ j, j < 8 ∧ s.ln (640 + j) = 4) → t.flag F.laneSlSts_present = false))) ∧
  (∀ (k : LaneIx) (tr : BitVec 12) (fom : BitVec 8) (c0 c1 : Word) (s : State), let i := k.val; let l := s.laneOf i; let td := 100 * tr.toNat / 4095
    let frozen := s.flag (F.laneSts_frozen i)
    let held := fun (t : State) => t.fld (F.laneCoef i 0) = s.fld (F.laneCoef i 0) ∧ t.fld (F.laneCoef i 1) = s.fld (F.laneCoef i 1)
    let shows := [F.laneFom_fom i, F.laneFom_density i, F.laneFom_fom_min i]
    (i < 512 ∨ i = 648 ∨ s.ln i ≠ 4 → exec (.adaptWindow k tr fom c0 c1) s = .next s) ∧
    (512 ≤ i → i < 648 → s.ln i = 4 → ∃ t, exec (.adaptWindow k tr fom c0 c1) s = .next t ∧ t.fld (F.laneFom_fom i) = fom.toNat ∧ t.fld (F.laneFom_density i) = td ∧
      t.fld (F.laneFom_fom_min i) = min (s.fld (F.laneFom_fom_min i)) fom.toNat ∧ (∀ j, j ≠ i → t.laneOf j = s.laneOf j) ∧
      FldsBut (shows ++ [F.laneSts_frozen i, F.laneAlm_freeze i, F.laneAlm_restore i, F.laneCoef i 0, F.laneCoef i 1, F.laneGood i 0, F.laneGood i 1, F.laneFom_fom_good i, F.laneSts_good_valid i]) s t ∧
      FrameBut [.regs, .lanes, .cnt, .evq, .mem] s t ∧
      (s.flag (F.laneAdapt_adapt_en i) = false → FldsBut shows s t ∧ FrameBut [.regs, .lanes] s t) ∧
      (s.flag (F.laneAdapt_adapt_en i) = true →
        (td < s.fld (F.laneAdapt_td_min i) → held t ∧ t.flag (F.laneSts_frozen i) = true ∧ (t.laneOf i).okRun = 0 ∧ (t.laneOf i).run = 0 ∧ t.evq = s.evq ∧
          (frozen = false → t.flag (F.laneAlm_freeze i) = true ∧ t.cnt = (s.count Cn.laneFreeze i).cnt) ∧ (frozen = true → t.cnt = s.cnt)) ∧
        (s.fld (F.laneAdapt_td_min i) ≤ td → frozen = true →
          (l.okRun < 3 → held t ∧ t.flag (F.laneSts_frozen i) = true ∧ (t.laneOf i).okRun = l.okRun + 1 ∧ FrameBut [.regs, .lanes] s t) ∧
          (3 ≤ l.okRun → t.flag (F.laneSts_frozen i) = false ∧
            (s.fld (F.laneFom_fom_good i) ≤ fom.toNat + s.fld (F.laneAdapt_restore_margin i) → held t ∧ FrameBut [.regs, .lanes] s t) ∧
            (fom.toNat + s.fld (F.laneAdapt_restore_margin i) < s.fld (F.laneFom_fom_good i) → t.fld (F.laneCoef i 0) = s.fld (F.laneGood i 0) ∧
              t.fld (F.laneCoef i 1) = s.fld (F.laneGood i 1) ∧ t.flag (F.laneAlm_restore i) = true ∧ t.evq = (s.post 0x0903 [i]).evq))) ∧
        (s.fld (F.laneAdapt_td_min i) ≤ td → frozen = false → FrameBut [.regs, .lanes] s t ∧ t.flag (F.laneSts_frozen i) = false ∧
          (∀ j, j < 8 → let a := (coefs (s.fld (F.laneCoef i 0)) (s.fld (F.laneCoef i 1))).getD j 0; let b := (coefs (t.fld (F.laneCoef i 0)) (t.fld (F.laneCoef i 1))).getD j 0
            b = a ∨ ((b = a + 1 ∨ b = a - 1) ∧ (t.laneOf i).since.getD j 16 = 0)) ∧
          (l.run = 1023 → t.fld (F.laneGood i 0) = t.fld (F.laneCoef i 0) ∧ t.fld (F.laneGood i 1) = t.fld (F.laneCoef i 1) ∧ t.fld (F.laneFom_fom_good i) = fom.toNat ∧
            t.flag (F.laneSts_good_valid i) = true ∧ (t.laneOf i).run = 0) ∧
          (l.run ≠ 1023 → t.fld (F.laneGood i 0) = s.fld (F.laneGood i 0) ∧ t.fld (F.laneGood i 1) = s.fld (F.laneGood i 1) ∧ (t.laneOf i).run = l.run + 1))))) ∧
  (∀ (m : Master) (en : Bool) (s : State),
    (mayWrite m = false ∨ s.released 6 = false → exec (.slEnable m en) s = .next s) ∧
    (mayWrite m = true → s.released 6 = true → ∃ t, exec (.slEnable m en) s = .next t ∧ t.flag F.laneSlCtrl_enable = en ∧
      (en = s.flag F.laneSlCtrl_enable → FldsBut [F.laneSlCtrl_enable] s t ∧ FrameBut [.regs] s t) ∧
      (en ≠ s.flag F.laneSlCtrl_enable → t.linkUp = false ∧ (∀ j, t.slOf j = slInit) ∧ t.lanes.width = (if en then s.slWidth else s.lanes.width) ∧
        (s.linkUp = true → t.flag F.laneSlAlm_link_down = true ∧ t.evq = (s.post 0x0906 []).evq) ∧ (s.linkUp = false → t.evq = s.evq) ∧
        (∀ j, j < 8 → en = true → s.sldBound j = true → s.ln (640 + j) = 1 ∨ s.ln (640 + j) = 2 → t.ln (640 + j) = 3) ∧ FrameBut [.regs, .lanes, .evq, .cnt, .mem] s t))) ∧
  (∀ (x : BitVec 3) (w : BitVec 64) (stuff empty : BitVec 8) (skew : BitVec 13) (s : State), let k := x.toNat; let l := s.slOf k; let v := w.toNat
    let ok := v / 2 ^ 48 = 0xB53C ∧ crc8 (beBytes 7 (v / 256)) = v % 256
    let ix := v / 2 ^ 42 % 64
    let seq := v / 256 % 2 ^ 28
    let follows := ix = (l.ix + 1) % 64 ∧ seq = if l.ix = 63 then (l.seq + 1) % 2 ^ 28 else l.seq
    (s.flag F.laneSlCtrl_enable = false ∨ s.ln (640 + k) ≠ 4 → exec (.slSyncBlock x w stuff empty skew) s = .next s) ∧
    (s.flag F.laneSlCtrl_enable = true → s.ln (640 + k) = 4 → ∃ t, exec (.slSyncBlock x w stuff empty skew) s = .next t ∧ (∀ j, j ≠ k → t.slOf j = s.slOf j) ∧
      (l.st = 0 → (t.slOf k).st = if ok then 1 else 0) ∧
      (l.st = 1 → (¬ ok → (t.slOf k).st = 0) ∧ (ok → (t.slOf k).st = if 2 ≤ l.good then 2 else 1)) ∧
      (2 ≤ l.st → ¬ ok → (3 ≤ l.missed → (t.slOf k).st = 0) ∧ (l.missed < 3 → (t.slOf k).st = l.st ∧ (t.slOf k).missed = l.missed + 1)) ∧
      (l.st = 2 → ok → (t.slOf k).st = if follows ∧ 1 ≤ l.follow then 3 else 2) ∧ (l.st = 3 → ok → (t.slOf k).st = if ¬ follows ∧ 2 ≤ l.broken then 2 else 3) ∧
      (ok → l.st ≠ 0 → (t.slOf k).st ≠ 0 ∧ (t.slOf k).ix = ix ∧ (t.slOf k).seq = seq ∧ t.fld F.laneSlSeq_seq = seq ∧ (t.slOf k).skewed = decide (2048 < skew.toNat)) ∧
      (t.linkUp = true ↔ widthLanes s.lanes.width ≠ [] ∧ t.flag F.laneSlSts_mode_mismatch = false ∧ ∀ j ∈ widthLanes s.lanes.width, (t.slOf j).st = 3 ∧ (t.slOf j).skewed = false) ∧
      (ok → t.flag F.laneSlSts_mode_mismatch = decide (v / 2 ^ 37 % 4 ≠ s.rig.run.mate.rateMatched.toNat)) ∧
      FrameBut [.regs, .lanes, .cnt, .evq, .mem] s t ∧ t.lanes.lane = s.lanes.lane))

/-- HEARTBEAT_SEND sends the heartbeat of R293. One received in sequence updates what is known of the mate, and moves the pair state only as the rows of R302 say; HEARTBEAT_LOSS decides by R305; CONTEST_TAKEOVER, CONTEST_TIMEOUT and SEEK_TIMEOUT act in their state only. The commands of MATE_CMD have no effect from a master that may not write MATE or while one runs; MANUAL ends BAD_STATE on a part not ACTIVE (DESIGN CHOICE, log entry 44), NOT_READY without a mate in STANDBY, LOCKED_OUT, or
starts a planned switch-over at a boundary at least 250 µs ahead; FORCE_ACTIVE, LOCKOUT_SET, LOCKOUT_CLR, RESYNC, REVERT_NOW and WTR_EXPIRY act as R302 and R313 give. HANDOVER_MESSAGE is kept by a part in STANDBY; HANDOVER_BOUNDARY makes the giving part SYNCING with no channel running and the taking part ACTIVE (R311). EPOCH_DIFF_TIMER and MATE_PATH_FAULT post once (R301, R316). Where a clause rests on a reading or a choice of the model, it is one of log entries 43, 44, 45, 47. -/
def Obligations.mateRoles : Prop :=
  (∀ s : State, (s.rig.run.mate.pairEn = false ∨ s.linkUp = false → exec .heartbeatSend s = .next s) ∧
    (s.rig.run.mate.pairEn = true → s.linkUp = true → let n := (s.mate.hbCount + 1) % 2 ^ 32
      ∃ t, exec .heartbeatSend s = .next t ∧ t.out = s.out ++ [.stay 1 s.mate.seqTx [s.pair * 2 ^ 56 + s.rig.run.mate.prec * 2 ^ 48 + s.epoch * 2 ^ 32 + s.mate.seqRx.getD 0,
          n * 2 ^ 32 + s.mate.revert.toNat * 2 ^ 31 + s.tim.ns]] ∧
        t.mate = { s.mate with seqTx := (s.mate.seqTx + 1) % 2 ^ 32, hbCount := n } ∧ FrameBut [.cnt, .mate, .out] s t)) ∧
  (∀ (h : Heartbeat) (s : State), (s.rig.run.mate.pairEn = false ∨ s.linkUp = false → exec (.heartbeatReceived h) s = .next s) ∧
    (s.rig.run.mate.pairEn = true → s.linkUp = true → h.hdr.tagOk = false → s.pair ≠ 3 → ∃ t, exec (.heartbeatReceived h) s = .next t ∧ t.flag F.laneSlAlm_tag_err = true ∧
      t.cnt = (s.count Cn.slTagErr 0).cnt ∧ FldsBut [F.laneSlAlm_tag_err] s t ∧ FrameBut [.regs, .cnt] s t) ∧
    (s.rig.run.mate.pairEn = true → MsgInOrder s h.hdr → ∃ t, exec (.heartbeatReceived h) s = .next t ∧ t.mate.hbValid = true ∧
      (s.pair = 0 ∨ s.pair = 2 ∨ s.pair = 6 → t.fld F.mateSts_mate_state = h.st % 16 ∧ t.fld F.mateSts_mate_prec = h.prec % 256 ∧ t.fld F.mateHb_seq = h.count % 2 ^ 16 ∧
        t.mate.mateEpoch = h.epoch ∧ t.mate.seqRx = some h.hdr.seq ∧ FldsBut [F.mateSts_mate_state, F.mateSts_mate_prec, F.mateHb_seq] s t ∧ FrameBut [.regs, .cnt, .mate] s t) ∧
      (s.pair = 1 → t.pair = if h.st = 4 then 2 else if h.st = 1 ∧ h.prec = s.rig.run.mate.prec then 6
        else if h.st = 1 ∧ h.prec < s.rig.run.mate.prec ∧ s.lockout = false then 4 else 1) ∧
      (s.pair = 3 → (h.st = 7 ∧ s.lockout = false → t.pair = 4 ∧ t.fld F.mateLast_cause = 3) ∧ (¬ (h.st = 7 ∧ s.lockout = false) → t.pair = 3 ∧ FrameBut [.regs, .cnt, .mate] s t)) ∧
      (s.pair = 5 → t.pair = if h.st = 4 then 2 else 1) ∧
      (s.pair = 4 → t.pair = 4 ∧ (h.revert = true → h.st = 3 → s.mate.handover = none → ∃ o, t.mate.handover = some o ∧ o.cause = 5 ∧ o.giving = true) ∧
        (h.revert = false → t.mate.handover = s.mate.handover ∧ FrameBut [.regs, .cnt, .mate] s t)))) ∧
  (∀ s : State, let q := s.pair; let m := s.rig.run.mate
    let own := q = 3 ∨ q = 4
    let take := own ∧ s.lockout = false ∧ ((s.mateLast ≠ 3 ∧ s.mateLast ≠ 4) ∨ s.fld F.mateSts_mate_prec < m.prec)
    (s.mate.hbValid = false ∨ q = 0 ∨ 5 ≤ q → exec .heartbeatLoss s = .next s) ∧
    (s.mate.hbValid = true → 1 ≤ q → q ≤ 4 → ∃ t, exec .heartbeatLoss s = .next t ∧ t.mate.hbValid = false ∧
      (take → q = 4 → t.pair = 4 ∧ t.fld F.mateHb_lost = (s.fld F.mateHb_lost + m.hbMiss) % 2 ^ 16 ∧ FldsBut [F.mateHb_lost] s t ∧
        Posted s t 0x0703 [Config.eventWord 0x0703 1] ∧ FrameBut [.regs, .mate, .evq, .cnt, .mem] s t) ∧
      (take → q = 3 → t.pair = 4 ∧ t.fld F.mateLast_cause = 1) ∧
      (¬ take → t.pair = 5 ∧ (t.mate.wasActive = true ↔ own) ∧
        (t.mate.evidence = true ↔ ∃ c, c < 256 ∧ s.flag (F.pchCtrl_enable c) = true ∧ ∃ x ∈ s.onu, x.2.chan = c ∧ x.2.st = 4) ∧
        (q ≠ 4 → FrameBut [.regs, .mate, .evq, .cnt, .mem] s t) ∧ (q = 4 → ∀ c, c < 256 → t.ch c ≠ 2 ∧ t.ch c ≠ 3)))) ∧
  (∀ s : State, let may := s.pair = 5 ∧ s.mate.wasActive = true ∧ s.lockout = false ∧ s.mate.evidence = true ∧ s.flag F.laneSlSts_present = false
    (¬ may → exec .contestTakeover s = .next s) ∧ (may → ∃ t, exec .contestTakeover s = .next t ∧ t.pair = 4 ∧ t.fld F.mateLast_cause = 2) ∧
    (∀ x, (x = Instr.contestTimeout ∧ s.pair = 5) ∨ (x = Instr.seekTimeout ∧ s.pair = 1 ∧ s.flag F.laneSlSts_present = false) →
      (s.flag F.mateSts_undecided = true → exec x s = .next s) ∧ (s.flag F.mateSts_undecided = false → ∃ t, exec x s = .next t ∧ t.flag F.mateSts_undecided = true ∧
        Posted s t 0x0704 [] ∧ FldsBut [F.mateSts_undecided] s t ∧ FrameBut [.regs, .evq, .cnt, .mem] s t)) ∧
    (s.pair ≠ 5 → exec .contestTimeout s = .next s) ∧ (s.pair ≠ 1 ∨ s.flag F.laneSlSts_present = true → exec .seekTimeout s = .next s)) ∧
  (∀ (m : Master) (b : Bool) (s : State), let q := s.pair
    let gives := q = 4 ∧ s.mate.hbValid = true ∧ s.mateLast = 3 ∧ s.mate.handover = none ∧ s.linkUp = true
    let ends := fun (x : Instr) (r : Nat) => ∃ t, exec x s = .next t ∧ t.fld F.mateCmd_result = r ∧ FldsBut [F.mateCmd_result] s t ∧ FrameBut [.regs] s t
    (mayWrite m = false ∨ s.released 7 = false ∨ s.flag F.mateCmd_busy = true →
      ∀ x ∈ [Instr.manual m b, .forceActive m, .lockoutSet m, .lockoutClr m, .resync m, .revertNow m], exec x s = .next s) ∧
    (mayWrite m = true → s.released 7 = true → s.flag F.mateCmd_busy = false →
      (q ≠ 4 → ends (.manual m b) 2) ∧ (q = 4 → ¬ gives → ends (.manual m b) 1 ∧ ends (.lockoutSet m) 1) ∧ (gives → ends (.manual m true) 3) ∧
      (gives → ∃ t o, exec (.manual m false) s = .next t ∧ t.flag F.mateCmd_busy = true ∧ t.fld F.mateCmd_result = 0 ∧ t.mate.handover = some o ∧ o.cause = 4 ∧ o.giving = true ∧
        o.ns < 1000000000 ∧ (0 < s.incTbu → s.now64 + 250000 * 64 < ((o.sec * 1000000000 + o.ns + 1) * 64 : Nat)) ∧
        t.out = s.out ++ [.stay 0x16 s.mate.seqTx [o.sec % 2 ^ 32 * 2 ^ 32 + o.ns]] ∧ FldsBut [F.mateCmd_busy, F.mateCmd_result] s t ∧ FrameBut [.regs, .cnt, .mate, .out] s t) ∧
      (s.mate.hbValid = true → s.mateLast = 4 → ends (.forceActive m) 2) ∧ (¬ (s.mate.hbValid = true ∧ s.mateLast = 4) → q = 4 → ends (.forceActive m) 0) ∧
      (¬ (s.mate.hbValid = true ∧ s.mateLast = 4) → q ≠ 4 → ∃ t, exec (.forceActive m) s = .next t ∧ t.fld F.mateCmd_result = 0 ∧ t.pair = 4 ∧ t.fld F.mateLast_cause = 8) ∧
      (gives → ∃ t o, exec (.lockoutSet m) s = .next t ∧ t.fld F.mateCmd_result = 0 ∧ t.lockout = true ∧ t.mate.handover = some o ∧ o.cause = 7 ∧ o.giving = true ∧
        FldsBut [F.mateCmd_result, F.mateSts_lockout] s t ∧ FrameBut [.regs, .cnt, .mate, .out] s t) ∧
      (q ≠ 4 → ∃ t, exec (.lockoutSet m) s = .next t ∧ t.fld F.mateCmd_result = 0 ∧ t.lockout = true ∧ t.mate = { s.mate with wtr := none, revert := false } ∧
        t.flag F.mateSts_wtr_running = false ∧ FldsBut [F.mateCmd_result, F.mateSts_lockout, F.mateSts_wtr_running] s t ∧ FrameBut [.regs, .mate] s t) ∧
      (∃ t, exec (.lockoutClr m) s = .next t ∧ t.fld F.mateCmd_result = 0 ∧ t.lockout = false ∧ FldsBut [F.mateCmd_result, F.mateSts_lockout] s t ∧ FrameBut [.regs] s t) ∧
      (q ≠ 3 → ends (.resync m) 2) ∧ (q = 3 → ∃ t, exec (.resync m) s = .next t ∧ t.fld F.mateCmd_result = 0 ∧ t.pair = 2 ∧ t.onu = [] ∧ t.shr.keys = [] ∧ t.shr.grp = [] ∧ t.mate.frames = []) ∧
      (s.mate.wtr = none → ends (.revertNow m) 2) ∧
      (s.mate.wtr ≠ none → ∃ t, exec (.revertNow m) s = .next t ∧ t.fld F.mateCmd_result = 0 ∧ t.mate = { s.mate with wtr := none, revert := true } ∧
        t.flag F.mateSts_wtr_running = false ∧ FldsBut [F.mateCmd_result, F.mateSts_wtr_running] s t ∧ FrameBut [.regs, .mate] s t)) ∧
    (s.mate.wtr = none → exec .wtrExpiry s = .next s) ∧ (s.mate.wtr ≠ none → ∃ t, exec .wtrExpiry s = .next t ∧ t.mate = { s.mate with wtr := none, revert := true } ∧
      t.flag F.mateSts_wtr_running = false ∧ FldsBut [F.mateSts_wtr_running] s t ∧ FrameBut [.regs, .mate] s t)) ∧
  (∀ (h : MsgHdr) (sec : Word) (ns : BitVec 30) (s : State), (s.linkUp = false → exec (.handoverMessage h sec ns) s = .next s) ∧
    (MsgInOrder s h → ∃ t, exec (.handoverMessage h sec ns) s = .next t ∧ FrameBut [.cnt, .mate, .freeIx] s t ∧ (s.pair ≠ 3 → t.mate.handover = s.mate.handover) ∧
      (s.pair = 3 → let b := s.fromMate sec.toNat ns.toNat / 64
        ∃ o, t.mate.handover = some o ∧ o.sec = (b / 1000000000).toNat ∧ o.ns = (b % 1000000000).toNat ∧ o.giving = false ∧ (s.mate.revert = true → o.cause = 5) ∧
          (s.mate.revert = false → o.cause = 4 ∨ o.cause = 6 ∨ o.cause = 7) ∧ t.mate.revert = false))) ∧
  (∀ s : State, (s.mate.handover = none → exec .handoverBoundary s = .next s) ∧
    (∀ h, s.mate.handover = some h →
      (h.giving = true → s.pair = 4 → ∃ t, exec .handoverBoundary s = .next t ∧ t.pair = 2 ∧ t.mate.handover = none ∧ t.flag F.mateCmd_busy = false ∧
        (s.flag F.mateCmd_busy = true → t.fld F.mateCmd_result = 0) ∧ ∀ c, c < 256 → t.ch c ≠ 2 ∧ t.ch c ≠ 3) ∧
      (h.giving = true → s.pair ≠ 4 → ∃ t, exec .handoverBoundary s = .next t ∧ t.mate = { s.mate with handover := none } ∧ t.flag F.mateCmd_busy = false ∧
        (s.flag F.mateCmd_busy = true → t.fld F.mateCmd_result = 1) ∧ FldsBut [F.mateCmd_busy, F.mateCmd_result] s t ∧ FrameBut [.regs, .mate] s t) ∧
      (h.giving = false → s.pair = 3 → s.lockout = false → ∃ t, exec .handoverBoundary s = .next t ∧ t.pair = 4 ∧ t.mate.handover = none ∧ t.fld F.mateLast_cause = h.cause % 16 ∧
        (4 ≤ h.cause → h.cause ≤ 7 → t.fld F.mateLast_frames = 1)) ∧
      (h.giving = false → s.pair ≠ 3 ∨ s.lockout = true → exec .handoverBoundary s = .next { s with mate := { s.mate with handover := none } }))) ∧
  (∀ (c : Chan) (s : State), let told := s.mate.hbValid = true ∧ s.mate.mateEpoch ≠ s.epoch ∧ s.mate.epochSaid = false
    (¬ told → exec .epochDiffTimer s = .next s) ∧ (told → ∃ t, exec .epochDiffTimer s = .next t ∧ t.mate = { s.mate with epochSaid := true } ∧ Posted s t 0x0708 [] ∧
      FrameBut [.mate, .evq, .cnt, .mem] s t) ∧
    (c.toNat ∉ s.mate.awaiting → exec (.matePathFault c) s = .next s) ∧
    (c.toNat ∈ s.mate.awaiting → ∃ t, exec (.matePathFault c) s = .next t ∧ t.mate = { s.mate with awaiting := s.mate.awaiting.erase c.toNat } ∧
      (s.ch c.toNat = 3 → FrameBut [.mate] s t) ∧ (s.ch c.toNat ≠ 3 → Posted s t 0x0709 [c.toNat]) ∧ FrameBut [.mate, .evq, .cnt, .mem] s t))

/-- A message while the link is down has no effect; one whose tag fails changes nothing but its alarm and count on a part not in STANDBY, and starts a resync on one in STANDBY (R292, R302). In sequence, a part in SYNCING or STANDBY keeps the frame timing of a FRAME message with its boundary in its own time base (R308), writes the ONU context of an ONU message, whose state in force waits for the boundary, holds a KEYS
blob for the boundary of its channel, and applies LEARN records to dynamic entries only (R307); in another state it applies none. HELLO compares digest and precedence (R300, R302); TIMING gives the offset; SYNC_REQ is answered with SYNC_DONE last, and SYNC_DONE completes the sync (R302). LEARN_MESSAGE_SEND, HELLO_SEND, TIMING_SEND and ONU_ROUND_ROBIN_SEND send their message while the link is up. Where a clause rests on a reading or a choice of the model, it is one of log entries 42, 46, 47. -/
def Obligations.mateMirror : Prop :=
  (∀ (f : FrameMsg) (o : OnuMsg) (h : MsgHdr) (b : List Byte) (l : List LearnRec) (d p : Nat) (v : Bool) (st : Stamp) (x : Int) (s : State) (c : Instr) (g : MsgHdr),
    (c, g) ∈ [(Instr.frameMessage f, f.hdr), (.onuMessage o, o.hdr), (.keysMessage h b, h), (.learnMessage h l, h), (.helloMessage h d p v, h), (.timingMessage h st st x, h),
      (.syncReq h, h), (.syncDone h, h)] →
    (s.linkUp = false → exec c s = .next s) ∧
    (s.linkUp = true → g.tagOk = false → s.pair ≠ 3 → ∃ t, exec c s = .next t ∧ t.flag F.laneSlAlm_tag_err = true ∧ t.cnt = (s.count Cn.slTagErr 0).cnt ∧
      FldsBut [F.laneSlAlm_tag_err] s t ∧ FrameBut [.regs, .cnt] s t) ∧
    (s.linkUp = true → g.tagOk = false → s.pair = 3 → ∃ t, exec c s = .next t ∧ t.pair = 2 ∧ t.onu = [] ∧ t.mate.frames = []) ∧
    (s.linkUp = true → g.tagOk = true → g.typOk = false → ∃ t, exec c s = .next t ∧ t.cnt = (s.count Cn.slBadType 0).cnt ∧ FrameBut [.cnt] s t)) ∧
  (∀ (f : FrameMsg) (o : OnuMsg) (b : List Byte) (l : List LearnRec) (h : MsgHdr) (s : State) (c : Instr) (g : MsgHdr), MsgInOrder s g → s.pair ≠ 2 → s.pair ≠ 3 →
    (c, g) ∈ [(Instr.frameMessage f, f.hdr), (.onuMessage o, o.hdr), (.keysMessage h b, h), (.learnMessage h l, h)] →
    ∃ t, exec c s = .next t ∧ t.mate = { s.mate with seqRx := some g.seq } ∧ FrameBut [.cnt, .mate] s t) ∧
  (∀ (f : FrameMsg) (s : State), MsgInOrder s f.hdr → s.pair = 2 ∨ s.pair = 3 → ∃ t x, exec (.frameMessage f) s = .next t ∧ Tbl.find t.mate.frames f.chan none = some x ∧
    x.sfc = f.sfc ∧ x.boundary = s.fromMate f.sec f.ns + ticks64 (f.feed - signed 32 (s.fld (F.mateFeed_feed f.chan))) ∧ x.held = f.held ∧
    (f.held = false → x.map.length = f.map.length) ∧ (f.held = true → x.map = ((Tbl.find s.mate.frames f.chan none).map (·.map)).getD []) ∧
    (∀ j, j ≠ f.chan → Tbl.find t.mate.frames j none = Tbl.find s.mate.frames j none) ∧ (s.pair = 3 → t.pair = 3) ∧
    (∀ n, (s.onuOf n).chan = f.chan → (t.onuOf n).stNow = (s.onuOf n).st)) ∧
  (∀ (o : OnuMsg) (s : State), MsgInOrder s o.hdr → s.pair = 2 ∨ s.pair = 3 → ∃ t, exec (.onuMessage o) s = .next t ∧
    t.onuOf o.ctx = { s.onuOf o.ctx with st := o.st, chan := o.chan, sn0 := o.sn0, sn1 := o.sn1, onuId := o.onuId, keyIx := o.keyIx, rtd := o.rtd, eqd := o.eqd, residue := o.residue, f := o.f, presetValid := o.presetValid, preset := o.preset, fomPreset := o.fomPreset, seqU := o.seqU } ∧
    (∀ j, j ≠ o.ctx → t.onuOf j = s.onuOf j) ∧ FrameBut [.regs, .cnt, .mate, .onu, .mem] s t) ∧
  (∀ (h : MsgHdr) (b : List Byte) (s : State), MsgInOrder s h → s.pair = 2 ∨ s.pair = 3 → let l := b.map (·.toNat)
    (∀ c, s.blobChan l = some c → ∃ t, exec (.keysMessage h b) s = .next t ∧ t.mate = { s.mate with seqRx := some h.seq, heldKeys := s.mate.heldKeys ++ [(c, l)] } ∧ FrameBut [.cnt, .mate] s t) ∧
    (s.blobChan l = none → ∃ u : State, exec (.keysMessage h b) s = .next (u.restoreBlob l).1 ∧ FrameBut [.cnt, .mate] s u)) ∧
  (∀ (h : MsgHdr) (r : LearnRec) (s : State), MsgInOrder s h → s.pair = 2 ∨ s.pair = 3 → SlotsClean s (s.lookupLocs r.part r.key) →
    ∃ t, exec (.learnMessage h [r]) s = .next t ∧ FrameBut [.regs, .cnt, .mate, .fwd, .mem, .evq] s t ∧
      (∀ loc e, s.findEnt r.part r.key (s.entVisible s.epoch) (s.lookupLocs r.part r.key) = some (loc, e) →
        (e.static_ = true → t.fwd.slots = s.fwd.slots) ∧
        (e.static_ = false → (r.op = 1 ∨ r.op = 2 → t.slot loc = some { e with flowEn := decide (r.w2 / 2 ^ 31 % 2 = 1), lag := decide (r.w2 / 2 ^ 30 % 2 = 1), dest := r.w2 / 2 ^ 21 % 512, flow := r.w2 % 2 ^ 18 }) ∧
          (r.op = 3 ∨ r.op = 4 → t.slot loc = none) ∧ (r.op = 5 → t.slot loc = some { e with pinned := true }) ∧ (r.op = 6 → t.slot loc = some { e with pinned := false }) ∧
          ∀ j, j ≠ loc → t.slot j = s.slot j)) ∧
      (s.findEnt r.part r.key (s.entVisible s.epoch) (s.lookupLocs r.part r.key) = none →
        (r.op ≠ 1 → r.op ≠ 2 → t.fwd = s.fwd) ∧
        (∀ loc, r.op = 1 → s.freeIn (fwdBuckets (s.fwdPart r.part) r.key).1 = some loc → ∃ e, t.slot loc = some e ∧ e.key = r.key ∧ e.part = r.part ∧ e.static_ = false ∧
          e.dest = r.w2 / 2 ^ 21 % 512 ∧ ∀ j, j ≠ loc → t.slot j = s.slot j))) ∧
  (∀ (h : MsgHdr) (digest prec : Nat) (pf : Bool) (s : State), MsgInOrder s h → let bad := digest ≠ s.rig.run.helloDigest ∨ prec = s.rig.run.mate.prec
    ∃ t, exec (.helloMessage h digest prec pf) s = .next t ∧ FrameBut [.regs, .cnt, .mate, .evq, .mem] s t ∧ t.mate.flagsBad = (s.rig.run.mate.preferred == pf) ∧
      (bad → s.pair = 1 ∨ s.pair = 2 ∨ s.pair = 3 → t.pair = 6) ∧ (bad → s.pair = 4 → t.pair = 4 ∧ t.mate.mismatch = true) ∧
      (¬ bad → s.pair = 6 → t.pair = 1) ∧ (¬ bad → s.pair ≠ 6 → t.pair = s.pair ∧ t.mate.mismatch = false)) ∧
  (∀ (h : MsgHdr) (arr dep : Stamp) (d : Int) (s : State), MsgInOrder s h → ∃ t, exec (.timingMessage h arr dep d) s = .next t ∧
    t.mate.ds = (match s.mate.lastArrival with
      | some a => (stampDiff a dep :: s.mate.ds).take 64
      | none => s.mate.ds) ∧
    t.mate.lastArrival = some arr ∧ t.fld F.mateOfs_ofs = unsigned 32 (sat32 ((d - meanOf t.mate.ds + signed 32 (s.fld F.mateAsym_asym)) / 2)) ∧
    t.fld F.mateLat_lat = unsigned 32 ((meanOf t.mate.ds + d) / 2) ∧ FldsBut [F.mateOfs_ofs, F.mateLat_lat] s t ∧ FrameBut [.regs, .cnt, .mate] s t) ∧
  (∀ (h : MsgHdr) (s : State), MsgInOrder s h →
    (s.mirroring = false → ∃ t, exec (.syncReq h) s = .next t ∧ t.mate = { s.mate with seqRx := some h.seq } ∧ FrameBut [.cnt, .mate] s t) ∧
    (s.mirroring = true → ∃ t n, exec (.syncReq h) s = .next t ∧ t.out.getLast? = some (.stay 0x17 n [1]) ∧ t.mate.learnOut = [] ∧ FrameBut [.freeIx, .cnt, .mate, .out] s t) ∧
    (s.pair ≠ 2 → ∃ t, exec (.syncDone h) s = .next t ∧ t.mate = { s.mate with seqRx := some h.seq } ∧ FrameBut [.cnt, .mate] s t) ∧
    (s.pair = 2 → let whole := ∀ c, c < 256 → s.flag (F.pchCtrl_enable c) = true → Tbl.find s.mate.frames c none ≠ none
      ∃ t, exec (.syncDone h) s = .next t ∧ FrameBut [.regs, .cnt, .mate, .evq, .mem] s t ∧ (whole → t.pair = 3) ∧ (¬ whole → t.pair = 2 ∧ t.mate.syncGot = true ∧ FrameBut [.cnt, .mate] s t))) ∧
  (∀ (st : Stamp) (onu : Onu) (s : State),
    (s.mirroring = false ∨ s.linkUp = false → exec .learnMessageSend s = .next s ∧ exec (.onuRoundRobinSend onu) s = .next s) ∧ (s.mate.learnOut = [] → exec .learnMessageSend s = .next s) ∧
    (s.rig.run.mate.pairEn = false ∨ s.linkUp = false → exec .helloSend s = .next s ∧ exec (.timingSend st) s = .next s) ∧
    (s.mirroring = true → s.linkUp = true →
      (s.mate.learnOut ≠ [] → ∃ t, exec .learnMessageSend s = .next t ∧ t.out = s.out ++ [.stay 0x13 s.mate.seqTx ((s.mate.learnOut.take 255).flatMap learnBlocks)] ∧
        t.mate = { s.mate with seqTx := (s.mate.seqTx + 1) % 2 ^ 32, learnOut := s.mate.learnOut.drop 255 } ∧ FrameBut [.cnt, .mate, .out] s t) ∧
      (∃ t, exec (.onuRoundRobinSend onu) s = .next t ∧ t.out = s.out ++ [.stay 0x11 s.mate.seqTx (onuBlocks onu.toNat (s.onuOf onu.toNat))] ∧
        t.mate = { s.mate with seqTx := (s.mate.seqTx + 1) % 2 ^ 32 } ∧ FrameBut [.cnt, .mate, .out] s t)) ∧
    (s.rig.run.mate.pairEn = true → s.linkUp = true → (∃ t b, exec .helloSend s = .next t ∧ b.length = 7 ∧ t.out = s.out ++ [.stay 0x14 s.mate.seqTx b] ∧
        t.mate = { s.mate with seqTx := (s.mate.seqTx + 1) % 2 ^ 32 } ∧ FrameBut [.cnt, .mate, .out] s t) ∧
      ∃ t, exec (.timingSend st) s = .next t ∧ t.out = s.out ++ [.stay 0x15 s.mate.seqTx [(s.mate.lastDeparture.getD { ns := 0, hi := 0 }).hi * 2 ^ 32 + (s.mate.lastDeparture.getD { ns := 0, hi := 0 }).ns,
          unsigned 64 (meanOf s.mate.ds)]] ∧
        t.mate = { s.mate with seqTx := (s.mate.seqTx + 1) % 2 ^ 32, lastDeparture := some st } ∧ FrameBut [.cnt, .mate, .out] s t))

/-- A read of a code word (R318): poisoned gives the poison and changes nothing; clean gives the data; one bit in error, and no flip stored, is corrected and counted; two are poisoned, counted and logged first. NARROW_WRITE (R320) takes an entry for the word, or adds its bytes to the entry that holds it; MERGE_READ_RETURN notes what the read found; MERGE_ENTRY_TIMEOUT writes the entry:
with a fresh code after a good read, with the poison pattern, logged, after an uncorrectable one. FLIP_ARM (R325), by master identity 0x00 with nbits 1 or 2, arms the next qualifying write, and no other master does. WEAK_ENTRY_AGE frees the word's tracker entry and no other (R326). Where a clause rests on a reading or a choice of the model, it is one of log entries 80, 81. -/
def Obligations.codesAndMerge : Prop :=
  (∀ (m i : Nat) (e : Ecc) (s : State),
    (s.poisoned m i = true → s.readWord m i e = (s, true)) ∧
    (s.poisoned m i = false → Tbl.find s.mem.flipped (memKey m i) 0 = 0 → e = .clean → s.readWord m i e = (s, false)) ∧
    (s.poisoned m i = false → Tbl.find s.mem.flipped (memKey m i) 0 = 0 → e = .oneBit → (s.readWord m i e).2 = false ∧
      (s.readWord m i e).1.mem.poison = s.mem.poison ∧ (s.exempt = true → (s.readWord m i e).1.cnt = ((s.count Cn.memCe m).countN Cn.ladderReef 0 (memClass m) 1).cnt)) ∧
    (s.poisoned m i = false → e = .uncorrectable → (s.readWord m i e).2 = true ∧ (s.readWord m i e).1.poisoned m i = true ∧
      (∀ n j, memKey n j ≠ memKey m i → (s.readWord m i e).1.poisoned n j = s.poisoned n j) ∧
      (s.readWord m i e).1.mem.ueLog = (⟨m, i, Config.ownerBlock m i, Config.ownerObject m i, 3⟩ :: s.mem.ueLog).take 16)) ∧
  (∀ (mem : BitVec 8) (ix : Word) (b : List (BitVec 6 × Byte)) (s : State), let m := mem.toNat; let i := ix.toNat
    (mergeMem m = false ∨ s.memBound m = false ∨ wordsOf m ≤ i → exec (.narrowWrite mem ix b) s = .next s) ∧
    (mergeMem m = true → s.memBound m = true → i < wordsOf m → s.released (if m = 0 then 7 else 4) = true →
      (s.mergeEnt m i = none → (s.mergeSetOf (mergeSet m i)).length < mergeCap m → (mergeBytes m [] b).length < wordBytes m →
        ∃ t, exec (.narrowWrite mem ix b) s = .next t ∧ t.mem = { s.mem with merge := s.mem.merge ++ [⟨m, i, mergeBytes m [] b, none, s.mem.order⟩], order := s.mem.order + 1 } ∧
          FrameBut [.mem] s t) ∧
      (∀ e, s.mergeEnt m i = some e → (mergeBytes m e.bytes b).length < wordBytes m →
        ∃ t, exec (.narrowWrite mem ix b) s = .next t ∧ t.mergeEnt m i = some { e with bytes := mergeBytes m e.bytes b } ∧
          (∀ n j, (n, j) ≠ (m, i) → t.mergeEnt n j = s.mergeEnt n j) ∧ FrameBut [.mem] s t))) ∧
  (∀ (mem : BitVec 8) (ix : Word) (c : Ecc) (s : State), let m := mem.toNat; let i := ix.toNat
    (s.mergeEnt m i = none → exec (.mergeReadReturn mem ix c) s = .next s ∧ exec (.mergeEntryTimeout mem ix) s = .next s) ∧
    (∀ e, s.mergeEnt m i = some e →
      (e.read = none → s.mergeHeld m i = true → e.bytes.length < wordBytes m → (s.mergeSetOf (mergeSet m i)).length ≤ mergeCap m →
        ∃ t, exec (.mergeReadReturn mem ix c) s = .next t ∧ t.mergeEnt m i = some { e with read := some (s.eccOf m i c) } ∧ FrameBut [.mem] s t) ∧
      (e.read = none → exec (.mergeEntryTimeout mem ix) s = .next s) ∧
      (e.read = some .clean → s.poisoned m i = false → s.flag F.memFlipCtrl_armed = false → ∃ t, exec (.mergeEntryTimeout mem ix) s = .next t ∧
        t.mergeEnt m i = none ∧ t.poisoned m i = false ∧ FrameBut [.mem] s t) ∧
      (e.read = some .uncorrectable → e.bytes.length < wordBytes m → s.poisoned m i = false → ∃ t, exec (.mergeEntryTimeout mem ix) s = .next t ∧
        t.mergeEnt m i = none ∧ t.poisoned m i = true ∧ t.mem.ueLog.head? = some ⟨m, i, Config.ownerBlock m i, Config.ownerObject m i, 2⟩))) ∧
  (∀ (ctrl : Word) (s : State), s.released 4 = true → ∃ t, exec (.flipArm 0 ctrl) s = .next t ∧
    t.flag F.memFlipCtrl_armed = (decide (getBits ctrl 31 1 = 1) && (decide (getBits ctrl 28 2 = 1) || decide (getBits ctrl 28 2 = 2))) ∧
    t.flag F.memSts_flip_armed = t.flag F.memFlipCtrl_armed ∧ t.fld F.memFlipCtrl_bit_a = getBits ctrl 8 10 ∧ t.fld F.memFlipCtrl_bit_b = getBits ctrl 18 10 ∧
    t.fld F.memFlipCtrl_mem = getBits ctrl 0 8 ∧ FldsBut [F.memFlipCtrl, F.memSts_flip_armed] s t ∧ FrameBut [.regs] s t) ∧
  (∀ (m : Master) (ctrl : Word) (s : State), m ≠ 0 → exec (.flipArm m ctrl) s = .next s) ∧
  (∀ (mem : BitVec 8) (ix : Word) (s : State), ∃ t, exec (.weakEntryAge mem ix) s = .next t ∧ FrameBut [.mem] s t ∧
    (∀ e, e ∈ t.mem.tracker ↔ e ∈ s.mem.tracker ∧ ¬(e.mem = mem.toNat ∧ e.ix = ix.toNat)))

/-- SCRUB_START, SCRUB_ABORT, SCRUB_WORD and SCRUB_DONE (R322 to R324), the first two from a master that may write MEM out of reset. A START while a pass runs is lost; with a bad range or memory it completes BAD_ARG; else a pass with the next number begins at its first word. An ABORT before the end word stops the pass, and after it completes ABORT_LATE. A word that is held in a merge entry is skipped; one already poisoned, or clean, is
checked; an uncorrectable one is poisoned and counted, unless rewritten since its read; the end word ends the pass. In reefed hold, or with none running, no word is read. At the end the summary of 64 bytes is written, the result shown, busy cleared and SCRUB_DONE posted with the completion. Where a clause rests on a reading or a choice of the model, it is one of log entry 81. -/
def Obligations.scrubber : Prop :=
  (∀ (m : Master) (mem : BitVec 8) (s : State), mayWrite m = true → s.released 4 = true →
    (s.mem.scrub.running = true → exec (.scrubStart m mem) s = .next (s.setFld F.memSts_start_lost 1)) ∧
    (s.mem.scrub.running = false →
      let ok := s.fld F.memScrubStart_idx ≤ s.fld F.memScrubEnd_idx ∧ s.fld F.memScrubEnd_idx < wordsOf mem.toNat ∧ s.memBound mem.toNat = true
      (¬ok → ∃ t, exec (.scrubStart m mem) s = .next t ∧ t.fld F.memScrubCmd_result = 4 ∧ t.mem = s.mem ∧
        FldsBut [F.memScrubCmd_mem, F.memScrubCmd_result] s t ∧ FrameBut [.regs] s t) ∧
      (ok → ∃ t, exec (.scrubStart m mem) s = .next t ∧ t.flag F.memScrubCmd_busy = true ∧ t.flag F.memSts_scrub_busy = true ∧ t.fld F.memScrubCmd_result = 0 ∧
        t.fld F.memScrubCmd_mem = mem.toNat ∧ t.mem.scrub.running = true ∧ t.mem.scrub.ended = false ∧ t.mem.scrub.mem = mem.toNat ∧
        t.mem.scrub.first = s.fld F.memScrubStart_idx ∧ t.mem.scrub.next = s.fld F.memScrubStart_idx ∧ t.mem.scrub.last = s.fld F.memScrubEnd_idx ∧
        t.mem.scrub.number = (s.mem.scrub.number + 1) % 2 ^ 32 ∧ t.mem.scrub.checked = 0 ∧ t.mem = { s.mem with scrub := t.mem.scrub } ∧
        FldsBut [F.memScrubCmd_mem, F.memScrubCmd_result, F.memScrubCmd_busy, F.memSts_scrub_busy] s t ∧ FrameBut [.regs, .mem] s t)) ∧
    (s.mem.scrub.running = true → s.mem.scrub.ended = false → exec (.scrubAbort m) s =
      .next { s with mem := { s.mem with scrub := { s.mem.scrub with ended := true, aborted := true } } }) ∧
    (s.mem.scrub.running = false ∨ s.mem.scrub.ended = true → s.mem.scrub.number ≠ 0 → exec (.scrubAbort m) s = .next (s.setFld F.memScrubCmd_result 3))) ∧
  (∀ (e : Ecc) (w : Bool) (s : State), let c := s.mem.scrub
    (c.running = false ∨ c.ended = true ∨ s.sup.reefed = true → exec (.scrubWord e w) s = .next s) ∧
    (c.running = true → c.ended = false → s.sup.reefed = false →
      (s.mergeHeld c.mem c.next = true → exec (.scrubWord e w) s =
        .next { s with mem := { s.mem with scrub := { c with skipped := c.skipped + 1, next := c.next + 1, ended := decide (c.last ≤ c.next) } } }) ∧
      (s.mergeHeld c.mem c.next = false → s.poisoned c.mem c.next = true → ∃ t, exec (.scrubWord e w) s = .next t ∧ t.fld F.memScrubPos_pos = c.next % 2 ^ 32 ∧
        t.mem = { s.mem with scrub := { c with already := c.already + 1, checked := c.checked + 1, done := c.next, next := c.next + 1, ended := decide (c.last ≤ c.next) } } ∧
        FldsBut [F.memScrubPos_pos] s t ∧ FrameBut [.regs, .mem] s t) ∧
      (s.mergeHeld c.mem c.next = false → s.poisoned c.mem c.next = false → s.eccOf c.mem c.next e = .clean → ∃ t, exec (.scrubWord e w) s = .next t ∧
        t.mem = { s.mem with scrub := { c with checked := c.checked + 1, done := c.next, next := c.next + 1, ended := decide (c.last ≤ c.next) } } ∧
        FldsBut [F.memScrubPos_pos] s t ∧ FrameBut [.regs, .mem] s t) ∧
      (s.mergeHeld c.mem c.next = false → s.poisoned c.mem c.next = false → s.eccOf c.mem c.next e = .uncorrectable →
        (w = true → ∃ t, exec (.scrubWord e w) s = .next t ∧ t.mem.poison = s.mem.poison ∧ t.mem.scrub.skipped = c.skipped + 1 ∧ t.mem.scrub.poisoned = c.poisoned ∧
          FrameBut [.regs, .mem] s t) ∧
        (w = false → ∃ t, exec (.scrubWord e w) s = .next t ∧ t.poisoned c.mem c.next = true ∧ t.mem.scrub.poisoned = c.poisoned + 1 ∧
          t.mem.scrub.checked = c.checked + 1 ∧ t.mem.scrub.next = c.next + 1 ∧
          t.mem.ueLog.head? = some ⟨c.mem, c.next, Config.ownerBlock c.mem c.next, Config.ownerObject c.mem c.next, 1⟩)))) ∧
  (∀ (us : Word) (s : State), let c := s.mem.scrub; let a := s.fld F.memScrubSumHi_addr * 2 ^ 32 + s.fld F.memScrubSumLo_addr * 64
    (c.running = false ∨ c.ended = false → exec (.scrubDone us) s = .next s) ∧
    (c.running = true → c.ended = true → ∃ u : State, exec (.scrubDone us) s = .next (u.post 0x0602 [if c.aborted then 2 else 1]) ∧
      HostHas u a (scrubSummary c us.toNat) ∧ HostBut a 64 s u ∧ u.fld F.memScrubCmd_result = (if c.aborted then 2 else 1) ∧ u.flag F.memScrubCmd_busy = false ∧
      u.mem = { s.mem with scrub := { c with running := false } } ∧ u.cnt = (s.count Cn.scrubPasses c.mem).cnt ∧
      FldsBut [F.memScrubCmd_result, F.memScrubCmd_busy, F.memSts_scrub_busy] s u ∧ FrameBut [.regs, .mem, .cnt, .hostMem] s u))

/-- SPARE_COPY_DONE and ROW_REMAP_DONE end a copy that runs, with the bank's retirement queued or the row mapped, and MEM_SPARE_DONE for the row (R328, R329); HPPR_DONE frees a remap row. DRAM_TEMP_READ on a bound stack shows the temperature and sets the refresh rate, and posts only a change of rate (R330). FLASH_SCAN counts corrected bits, lists a block
of three or more as weak, and on an uncorrectable sector spoils the slot and posts FLASH_UE; FLASH_REFRESH rewrites a weak block, counted and posted (R332). JNL_READ fills the data words with the record of the sequence number, or answers not found, or CRC failed, which is counted (R333). A command for a copy, block or bank that is not there has no effect. Where a clause rests on a reading or a choice of the model, it is one of log entries 32, 82. -/
def Obligations.sparesFlashJournal : Prop :=
  (∀ (mem b : BitVec 8) (bad : List Word) (s : State),
    (s.mem.copying.contains (mem.toNat, b.toNat) = false → exec (.spareCopyDone mem b bad) s = .next s) ∧
    (memClass mem.toNat = 8 → s.mem.copying.contains (mem.toNat, b.toNat) = true → bad = [] → s.mem.flipped = [] →
      s.isRetired 8 (bankObj mem.toNat b.toNat) = false → ∃ t, exec (.spareCopyDone mem b bad) s = .next t ∧
        t.isRetired 8 (bankObj mem.toNat b.toNat) = true ∧ t.mem.copying.contains (mem.toNat, b.toNat) = false ∧
        Tbl.find t.mem.spared mem.toNat 0 = Tbl.find s.mem.spared mem.toNat 0 + 1 ∧ t.mem.poison = s.mem.poison ∧ FrameBut [.sup, .mem, .cnt] s t)) ∧
  (∀ (k : BitVec 2) (r : BitVec 28) (ppr : Bool) (s : State), let m := 0x10 + k.toNat
    (s.mem.copying.contains (m, r.toNat) = false → exec (.rowRemapDone k r ppr) s = .next s) ∧
    (s.mem.copying.contains (m, r.toNat) = true → ∃ u : State, exec (.rowRemapDone k r ppr) s = .next (u.post 0x0604 [m, r.toNat]) ∧
      u.mem.rowMap = s.mem.rowMap ++ [(m, r.toNat)] ∧ u.mem.copying.contains (m, r.toNat) = false ∧ (ppr = true → u.sup = s.sup) ∧
      (ppr = false → u.isRetired 9 (bankObj m r.toNat) = true) ∧ FrameBut [.sup, .mem, .cnt] s u)) ∧
  (∀ (k : BitVec 2) (r : BitVec 28) (s : State), let m := 0x10 + k.toNat
    (s.mem.rowMap.contains (m, r.toNat) = true → s.isRetired 9 (bankObj m r.toNat) = false → ∃ t, exec (.hpprDone k r) s = .next t ∧
      t.mem.rowMap.contains (m, r.toNat) = false ∧ Tbl.find t.mem.used m 0 = Tbl.find s.mem.used m 0 - 1 ∧ Tbl.find t.mem.ppr m 0 = Tbl.find s.mem.ppr m 0 + 1 ∧
      FrameBut [.mem] s t) ∧
    (s.mem.rowMap.contains (m, r.toNat) = false ∨ s.isRetired 9 (bankObj m r.toNat) = true → exec (.hpprDone k r) s = .next s)) ∧
  (∀ (k : BitVec 2) (x : BitVec 8) (s : State), s.released 4 = true → s.memBound (0x10 + k.toNat) = true →
    let l := nextLevel (s.fld (F.memDramTemp_mult k.toNat) + s.fld (F.memDramTemp_over k.toNat)) x.toInt
    ∃ t, exec (.dramTempRead k x) s = .next t ∧ t.fld (F.memDramTemp_mult k.toNat) = min l 2 ∧ t.flag (F.memDramTemp_over k.toNat) = decide (l = 3) ∧
      t.fld (F.memDramTemp_temp k.toNat) = x.toNat ∧ (min l 2 = s.fld (F.memDramTemp_mult k.toNat) → t.evq = s.evq) ∧
      (min l 2 ≠ s.fld (F.memDramTemp_mult k.toNat) → Posted s t 0x0606 [k.toNat, min l 2]) ∧
      FldsBut [F.memDramTemp_mult k.toNat, F.memDramTemp_over k.toNat, F.memDramTemp_temp k.toNat] s t ∧ FrameBut [.regs, .evq, .cnt, .mem] s t) ∧
  (∀ x : Int, (x ≤ 82 → ∀ c, nextLevel c x = 0) ∧ (85 < x → x ≤ 92 → nextLevel 0 x = 1 ∧ nextLevel 3 x = 1) ∧
    (95 < x → x ≤ 102 → ∀ c, c ≤ 3 → nextLevel c x = 2) ∧ (105 < x → ∀ c, c ≤ 3 → nextLevel c x = 3)) ∧
  (∀ (k : BitVec 2) (b : BitVec 16) (n : BitVec 8) (s : State), s.released 3 = true → s.scanned k.toNat = true →
    (∃ t, exec (.flashScan k b n false) s = .next t ∧ t.cnt = (s.countN Cn.flashCorr 0 0 n.toNat).cnt ∧
      (3 ≤ n.toNat → b.toNat ∈ t.mem.weakBlocks) ∧ (n.toNat < 3 → t.mem = s.mem) ∧ FrameBut [.cnt, .mem] s t) ∧
    (k = 0 → ∃ t, exec (.flashScan k b n true) s = .next t ∧ t.flag F.memFlashSts_ue_a = true ∧ t.rig.slotA.img.hashesOk = false ∧ t.meets t.rig.slotA.img = false ∧
      FldsBut [F.memFlashSts_ue_a] s t ∧ FrameBut [.regs, .rig, .evq, .cnt, .mem] s t) ∧
    (k = 1 → ∃ t, exec (.flashScan k b n true) s = .next t ∧ t.flag F.memFlashSts_ue_b = true ∧ t.rig.slotB.img.hashesOk = false ∧
      FldsBut [F.memFlashSts_ue_b] s t ∧ FrameBut [.regs, .rig, .evq, .cnt, .mem] s t)) ∧
  (∀ (b : BitVec 16) (s : State), s.released 3 = true →
    (b.toNat ∈ s.mem.weakBlocks → ∃ u : State, exec (.flashRefresh b) s = .next (u.post 0x0607 [b.toNat]) ∧ b.toNat ∉ u.mem.weakBlocks ∧
      u.fld F.memFlashSts_refreshed = min 65535 (s.fld F.memFlashSts_refreshed + 1) ∧ FldsBut [F.memFlashSts_refreshed] s u ∧ FrameBut [.regs, .mem] s u) ∧
    (b.toNat ∉ s.mem.weakBlocks → exec (.flashRefresh b) s = .next s)) ∧
  (∀ (m : Master) (s : State), mayWrite m = true → s.released 4 = true → s.released 3 = true →
    (s.mem.jnl.find? (fun r => decide (r.seq = s.fld F.memJnlSeq_seq)) = none → ∀ c, exec (.jnlRead m c) s = .next (s.setFld F.memJnlCmd_result 1)) ∧
    (∀ r, s.mem.jnl.find? (fun r => decide (r.seq = s.fld F.memJnlSeq_seq)) = some r →
      (∃ t, exec (.jnlRead m true) s = .next t ∧ t.fld F.memJnlCmd_result = 0 ∧ (∀ n, n < 16 → t.fld (F.memJnlData_data n) = leWord (jnlBytes r) n % 2 ^ 32) ∧
        FldsBut (F.memJnlCmd_result :: (List.range 16).map F.memJnlData_data) s t ∧ FrameBut [.regs] s t) ∧
      (∃ t, exec (.jnlRead m false) s = .next t ∧ t.fld F.memJnlCmd_result = 2 ∧ t.cnt = (s.count Cn.jnlBad 0).cnt ∧ FldsBut [F.memJnlCmd_result] s t ∧
        FrameBut [.regs, .cnt] s t)))

/-- EVENT_ENTRY_WRITE, EVQ_ENABLE, EVQ_DISABLE, EVQ_HEAD_WRITE and VECTOR_HOLDOFF_END (R348, R349). While fewer than 4,094 entries are unread and none was dropped, the oldest event raised is written as its 32 bytes at the tail, the tail
advances, and the phase inverts after the last entry of a lap. With 4,094 unread it is dropped and counted, and the first dropped number is noted. Enabling from 0 writes the kept events, at most 256, in order from the start of the ring in phase 1; while enable is 1 it has no effect. Disabling stops entries and keeps the events
that were not written while at most 256 are kept. Freeing slots after a dropped run writes EVQ_OVERFLOW with the number dropped and the first dropped sequence number. The end of a vector's holdoff signals it once when an event fell within it. Host memory outside an entry's 32 bytes, and what is not named, does not change. Where a clause rests on a reading or a choice of the model, it is one of log entry 51. -/
def Obligations.eventQueue : Prop :=
  (∀ s : State, s.evq.raised = [] → exec .eventEntryWrite s = .next s) ∧
  (∀ (s : State) (e : EventRec) (r : List EventRec), s.evq.raised = e :: r →
    let a := s.addr64 F.mbxEvqBaseLo_addr F.mbxEvqBaseHi_addr + 32 * s.fld F.mbxEvqTail_tail
    (s.evqUnread < 4094 → s.evq.dropped = 0 → ∃ t, exec .eventEntryWrite s = .next t ∧
      HostHas t a (eventBytes s.evq.phase e) ∧ HostBut a 32 s t ∧ t.fld F.mbxEvqTail_tail = (s.fld F.mbxEvqTail_tail + 1) % 4096 ∧
      t.evq.raised = r ∧ t.evq.phase = (s.evq.phase ^^ decide (s.fld F.mbxEvqTail_tail = 4095)) ∧
      t.evq = { s.evq with raised := r, phase := t.evq.phase, holding := t.evq.holding, waiting := t.evq.waiting } ∧
      FldsBut [F.mbxEvqTail_tail] s t ∧ FrameBut [.regs, .evq, .hostMem, .out] s t) ∧
    (4094 ≤ s.evqUnread → ∃ t, exec .eventEntryWrite s = .next t ∧
      t.evq = { s.evq with raised := r, dropped := s.evq.dropped + 1, firstDropped := if s.evq.dropped = 0 then e.seq else s.evq.firstDropped } ∧
      t.cnt = (s.count Cn.evqDrop 0).cnt ∧ FrameBut [.evq, .cnt] s t)) ∧
  (∀ (m : Master) (s : State), mayWrite m = true → s.released 2 = true →
    (s.flag F.mbxEvqCtrl_enable = false → s.evq.dropped = 0 → s.evq.kept.length ≤ 256 → ∃ t, exec (.evqEnable m) s = .next t ∧
      t.flag F.mbxEvqCtrl_enable = true ∧ t.fld F.mbxEvqHead_head = 0 ∧ t.fld F.mbxEvqTail_tail = s.evq.kept.length ∧ t.evq.phase = true ∧ t.evq.kept = [] ∧
      (∀ n (h : n < s.evq.kept.length), HostHas t (s.addr64 F.mbxEvqBaseLo_addr F.mbxEvqBaseHi_addr + 32 * n) (eventBytes true s.evq.kept[n])) ∧
      HostBut (s.addr64 F.mbxEvqBaseLo_addr F.mbxEvqBaseHi_addr) (32 * s.evq.kept.length) s t ∧
      FldsBut [F.mbxEvqCtrl_enable, F.mbxEvqHead_head, F.mbxEvqTail_tail] s t ∧ FrameBut [.regs, .evq, .hostMem, .out] s t) ∧
    (s.flag F.mbxEvqCtrl_enable = true → exec (.evqEnable m) s = .next s) ∧
    (s.flag F.mbxEvqCtrl_enable = true → s.evq.kept.length + s.evq.raised.length ≤ 256 → ∃ t, exec (.evqDisable m) s = .next t ∧
      t.flag F.mbxEvqCtrl_enable = false ∧ t.evq = { s.evq with raised := [], kept := s.evq.kept ++ s.evq.raised } ∧
      FldsBut [F.mbxEvqCtrl_enable] s t ∧ FrameBut [.regs, .evq] s t) ∧
    (∀ h : BitVec 12, s.evq.dropped = 0 ∨ s.flag F.mbxEvqCtrl_enable = false → ∃ t, exec (.evqHeadWrite m h) s = .next t ∧
      t.fld F.mbxEvqHead_head = h.toNat ∧ FldsBut [F.mbxEvqHead_head] s t ∧ FrameBut [.regs] s t) ∧
    (∀ h : BitVec 12, s.evq.dropped ≠ 0 → s.flag F.mbxEvqCtrl_enable = true → (s.fld F.mbxEvqTail_tail + 4096 - h.toNat) % 4096 < 4094 →
      let a := s.addr64 F.mbxEvqBaseLo_addr F.mbxEvqBaseHi_addr + 32 * s.fld F.mbxEvqTail_tail
      ∃ t, exec (.evqHeadWrite m h) s = .next t ∧ t.fld F.mbxEvqHead_head = h.toNat ∧ t.evq.dropped = 0 ∧
        t.fld F.mbxEvqTail_tail = (s.fld F.mbxEvqTail_tail + 1) % 4096 ∧
        HostHas t a (eventBytes s.evq.phase (s.eventRec 0x0301 [s.evq.dropped % 2 ^ 32, s.evq.firstDropped])) ∧ HostBut a 32 s t ∧
        FldsBut [F.mbxEvqHead_head, F.mbxEvqTail_tail] s t ∧ FrameBut [.regs, .evq, .cnt, .mem, .hostMem, .out] s t)) ∧
  (∀ (v : BitVec 6) (s : State), Tbl.find s.evq.holding v.toNat false = true →
    (Tbl.find s.evq.waiting v.toNat false = true → ∃ t, exec (.vectorHoldoffEnd v) s = .next t ∧ t.out = s.out ++ [.msix 0 v.toNat] ∧
      Tbl.find t.evq.waiting v.toNat false = false ∧ Tbl.find t.evq.holding v.toNat false = decide (s.fld (F.mbxVecHold_us v.toNat) ≠ 0) ∧
      FrameBut [.evq, .out] s t) ∧
    (Tbl.find s.evq.waiting v.toNat false = false → ∃ t, exec (.vectorHoldoffEnd v) s = .next t ∧
      Tbl.find t.evq.holding v.toNat false = false ∧ FrameBut [.evq] s t)) ∧
  (∀ (v : BitVec 6) (s : State), Tbl.find s.evq.holding v.toNat false = false → exec (.vectorHoldoffEnd v) s = .next s)

/-- TX_DOORBELL and RX_DOORBELL move the tail of the pair that the master names to a place within its ring, and have no effect at or beyond the ring size or where the master names no pair. QP_ENABLE starts a stopped pair without error. QP_DISABLE clears enable, and QP_STOP_DONE ends the stop: both heads are 0 and stopped is set (R346).
A failed host-memory access puts a pair that runs into ERROR with its cause and posts DMA_QP_ERROR. QP_OWNER_WRITE assigns a disabled pair, unless RIG_LOCK bit 2 is set, the owner lies outside its encoding or a virtual function owns eight others (R342). What is not named does not change. Where a clause rests on a reading or a choice of the model, it is one of log entries 52, 53. -/
def Obligations.queuePairs : Prop :=
  (∀ (m : Master) (q : QpIx) (tail : BitVec 32) (s : State), s.released 2 = true →
    (∀ k, s.qpNamed m q.toNat = some k →
      (tail.toNat % 4096 < s.txSize k → ∃ t, exec (.txDoorbell m q tail) s = .next t ∧ t.qpOf k = { s.qpOf k with txTail := tail.toNat % 4096 } ∧
        (∀ j, j ≠ k → t.qpOf j = s.qpOf j) ∧ FrameBut [.qp] s t) ∧
      (s.txSize k ≤ tail.toNat % 4096 → exec (.txDoorbell m q tail) s = .next s) ∧
      (tail.toNat % 4096 < s.rxSize k → ∃ t, exec (.rxDoorbell m q tail) s = .next t ∧ t.qpOf k = { s.qpOf k with rxTail := tail.toNat % 4096 } ∧
        (∀ j, j ≠ k → t.qpOf j = s.qpOf j) ∧ FrameBut [.qp] s t) ∧
      (s.rxSize k ≤ tail.toNat % 4096 → exec (.rxDoorbell m q tail) s = .next s) ∧
      (k < 64 → s.flag (F.mbxQpCfg_enable k) = false → (s.qpOf k).stopping = false → ∃ t, exec (.qpEnable m q) s = .next t ∧
        t.flag (F.mbxQpCfg_enable k) = true ∧ t.fld (F.mbxQpSts_stopped k) = 0 ∧ t.fld (F.mbxQpSts_error k) = 0 ∧ t.fld (F.mbxQpSts_cause k) = 0 ∧
        FldsBut [F.mbxQpCfg_enable k, F.mbxQpSts_stopped k, F.mbxQpSts_error k, F.mbxQpSts_cause k] s t ∧ FrameBut [.regs] s t) ∧
      (k < 64 → s.flag (F.mbxQpCfg_enable k) = true → exec (.qpEnable m q) s = .next s ∧ ∃ t, exec (.qpDisable m q) s = .next t ∧
        t.flag (F.mbxQpCfg_enable k) = false ∧ t.qpOf k = { s.qpOf k with stopping := true } ∧ (∀ j, j ≠ k → t.qpOf j = s.qpOf j) ∧
        FldsBut [F.mbxQpCfg_enable k] s t ∧ FrameBut [.regs, .qp] s t)) ∧
    (s.qpNamed m q.toNat = none → exec (.txDoorbell m q tail) s = .next s ∧ exec (.rxDoorbell m q tail) s = .next s ∧
      exec (.qpEnable m q) s = .next s ∧ exec (.qpDisable m q) s = .next s)) ∧
  (∀ (q : QpIx) (s : State), (s.qpOf q.toNat).stopping = true → ∃ t, exec (.qpStopDone q) s = .next t ∧
    t.fld (F.mbxQpTxhead_head q.toNat) = 0 ∧ t.fld (F.mbxQpRxhead_head q.toNat) = 0 ∧ t.fld (F.mbxQpSts_stopped q.toNat) = 1 ∧
    (t.qpOf q.toNat).stopping = false ∧ FldsBut [F.mbxQpTxhead_head q.toNat, F.mbxQpRxhead_head q.toNat, F.mbxQpSts_stopped q.toNat] s t ∧
    (s.fld (F.mbxQpRxhead_head q.toNat) = (s.qpOf q.toNat).rxTail → t.hostMem = s.hostMem) ∧ FrameBut [.regs, .qp, .hostMem] s t) ∧
  (∀ (q : QpIx) (s : State), (s.qpOf q.toNat).stopping = false → exec (.qpStopDone q) s = .next s) ∧
  (∀ (q : QpIx) (c : HostAccess) (s : State),
    (s.qpRuns q.toNat = true → c ≠ .ok → ∃ t, exec (.dmaQpError q c) s = .next t ∧ t.flag (F.mbxQpSts_error q.toNat) = true ∧
      t.fld (F.mbxQpSts_cause q.toNat) = accessCode c ∧ t.qpRuns q.toNat = false ∧ Posted s t 0x0302 [q.toNat, accessCode c] ∧
      FldsBut [F.mbxQpSts_error q.toNat, F.mbxQpSts_cause q.toNat] s t ∧ FrameBut [.regs, .evq, .cnt, .mem] s t) ∧
    (s.qpRuns q.toNat = false ∨ c = .ok → exec (.dmaQpError q c) s = .next s)) ∧
  (∀ (m : Master) (q : QpIx) (o : Master) (s : State), mayWrite m = true → s.released 2 = true →
    let room := o.toNat = 0 ∨ ((s.ownedQps o.toNat).filter (fun j => decide (j ≠ q.toNat))).length < 8
    (s.fld F.rigLock_lock / 4 % 2 = 0 → s.flag (F.mbxQpCfg_enable q.toNat) = false → o.toNat ≤ 0x10 → room → ∃ t, exec (.qpOwnerWrite m q o) s = .next t ∧
      t.qpOwner q.toNat = o.toNat ∧ FldsBut [F.mbxQpOwner_owner q.toNat] s t ∧ FrameBut [.regs] s t) ∧
    (s.fld F.rigLock_lock / 4 % 2 = 1 ∨ s.flag (F.mbxQpCfg_enable q.toNat) = true ∨ 0x10 < o.toNat ∨ ¬room → exec (.qpOwnerWrite m q o) s = .next s))

/-- TX_DESCRIPTOR_FETCH and RX_PACKET_DELIVER (R343 to R346). A running pair whose head is not its tail takes the next descriptor: the head advances around the ring; a descriptor outside its encoding is dropped and counted dma_tx_bad; one of kind 0 or 1 sends its bytes with the FCS appended, stamped with the current epoch,
to the parser of its port or into the fabric at its port, and counts dma_tx_pkts. A pair that does not run, or whose head is its tail, takes nothing; a failed read is DMA_QP_ERROR. A packet bound for a receive ring is written to the next posted buffer, then its descriptor with done = 1, and counted; with no descriptor it is
discarded and counted dma_rx_nobuf, and longer than its buffer dma_rx_toolong. On an omci pair a punted frame whose MIC fails is discarded and counted omci_mic_err. Where a clause rests on a reading or a choice of the model, it is one of log entries 53, 54. -/
def Obligations.packetsHost : Prop :=
  (∀ (q : QpIx) (d : TxDesc) (a : HostAccess) (s : State), let k := q.toNat; let h := s.fld (F.mbxQpTxhead_head k)
    (s.qpRuns k = false ∨ h = (s.qpOf k).txTail → exec (.txDescriptorFetch q d a) s = .next s) ∧
    (s.qpRuns k = true → h ≠ (s.qpOf k).txTail → a ≠ .ok → ∃ t, exec (.txDescriptorFetch q d a) s = .next t ∧ t.flag (F.mbxQpSts_error k) = true ∧
      Posted s t 0x0302 [k, accessCode a] ∧ FldsBut [F.mbxQpSts_error k, F.mbxQpSts_cause k] s t ∧ FrameBut [.regs, .evq, .cnt, .mem] s t) ∧
    (s.qpRuns k = true → h ≠ (s.qpOf k).txTail → a = .ok → d.intr = false → (s.qpOf k).sinceWb < 31 →
      (s.txBad k d = true → txStamped d = false → ∃ t, exec (.txDescriptorFetch q d a) s = .next t ∧
        t.fld (F.mbxQpTxhead_head k) = (h + 1) % s.txSize k ∧ t.cnt = (s.count Cn.dmaTxBad k).cnt ∧
        (t.qpOf k).sinceWb = (s.qpOf k).sinceWb + 1 ∧ FldsBut [F.mbxQpTxhead_head k] s t ∧ FrameBut [.regs, .qp, .cnt] s t) ∧
      (s.txBad k d = false → d.kind = 0 → ∃ t p, exec (.txDescriptorFetch q d a) s = .next t ∧
        t.fld (F.mbxQpTxhead_head k) = (h + 1) % s.txSize k ∧ t.cnt = (s.count Cn.dmaTxPkts k).cnt ∧ t.pktNo = s.pktNo + 1 ∧
        Tbl.find t.toParse d.port [] = Tbl.find s.toParse d.port [] ++ [p] ∧ (∀ j, j ≠ d.port → Tbl.find t.toParse j [] = Tbl.find s.toParse j []) ∧
        p.num = s.pktNo ∧ p.bytes = d.bytes.take d.len ++ frameFcs (d.bytes.take d.len) ∧ p.src = d.port ∧ p.epoch = s.epoch ∧ p.host = true ∧ p.direct = false ∧
        p.master = s.qpOwner k ∧ p.tsReq = (if d.tsReq then some d.tsId else none) ∧
        FldsBut [F.mbxQpTxhead_head k] s t ∧ FrameBut [.regs, .qp, .cnt, .pktNo, .toParse] s t) ∧
      (s.txBad k d = false → d.kind = 1 → ∃ t p, exec (.txDescriptorFetch q d a) s = .next t ∧
        t.fld (F.mbxQpTxhead_head k) = (h + 1) % s.txSize k ∧ t.cnt = (s.count Cn.dmaTxPkts k).cnt ∧ t.pktNo = s.pktNo + 1 ∧
        Tbl.find t.parsed d.port [] = Tbl.find s.parsed d.port [] ++ [p] ∧ (∀ j, j ≠ d.port → Tbl.find t.parsed j [] = Tbl.find s.parsed j []) ∧
        p.bytes = d.bytes.take d.len ++ frameFcs (d.bytes.take d.len) ∧ p.epoch = s.epoch ∧ p.host = true ∧ p.direct = true ∧ p.dest = d.port ∧ p.cls = d.cls % 8 ∧
        (d.port < 256 → p.flow = d.flow % 2 ^ 18) ∧ FldsBut [F.mbxQpTxhead_head k] s t ∧ FrameBut [.regs, .qp, .cnt, .pktNo, .parsed, .freeIx] s t))) ∧
  (∀ (q : QpIx) (d : RxDesc) (mic : Bool) (a : HostAccess) (s : State), let k := q.toNat; let h := s.fld (F.mbxQpRxhead_head k)
    (Tbl.find s.rxq k [] = [] → exec (.rxPacketDeliver q d mic a) s = .next s) ∧
    (∀ p r, Tbl.find s.rxq k [] = p :: r →
      (s.flag (F.mbxQpCfg_omci k) = true → p.reason = 2 → mic = false → ∃ t, exec (.rxPacketDeliver q d mic a) s = .next t ∧
        Tbl.find t.rxq k [] = r ∧ t.cnt = (s.count Cn.omciMicErr 0).cnt ∧ FrameBut [.rxq, .cnt] s t) ∧
      (s.flag (F.mbxQpCfg_omci k) = false →
        (s.qpRuns k = false ∨ h = (s.qpOf k).rxTail → ∃ t, exec (.rxPacketDeliver q d mic a) s = .next t ∧ Tbl.find t.rxq k [] = r ∧
          t.cnt = (s.count Cn.dmaRxNobuf k).cnt ∧ FrameBut [.rxq, .cnt] s t) ∧
        (s.qpRuns k = true → h ≠ (s.qpOf k).rxTail → a = .ok →
          (d.size < p.bytes.length → ∃ t, exec (.rxPacketDeliver q d mic a) s = .next t ∧ Tbl.find t.rxq k [] = r ∧
            t.cnt = (s.count Cn.dmaRxToolong k).cnt ∧ FrameBut [.rxq, .cnt] s t) ∧
          (p.bytes.length ≤ d.size → ∃ t, exec (.rxPacketDeliver q d mic a) s = .next t ∧ Tbl.find t.rxq k [] = r ∧
            t.cnt = (s.count Cn.dmaRxPkts k).cnt ∧ t.fld (F.mbxQpRxhead_head k) = (h + 1) % s.rxSize k ∧
            HostHas t (s.rxDescAddr k h + 8) (rxDescBytes p p.bytes) ∧
            (∀ x, (x < d.addr ∨ d.addr + p.bytes.length ≤ x) → (x < s.rxDescAddr k h + 8 ∨ s.rxDescAddr k h + 32 ≤ x) → hostByte t x = hostByte s x) ∧
            ((d.addr + p.bytes.length ≤ s.rxDescAddr k h + 8 ∨ s.rxDescAddr k h + 32 ≤ d.addr) → HostHas t d.addr p.bytes) ∧
            FldsBut [F.mbxQpRxhead_head k] s t ∧ FrameBut [.regs, .rxq, .cnt, .hostMem] s t)))))

/-- MBX_TX_WRITE, MBX_RX_READ, GET_INFO, MAST_CORE_RESTART, VF_FLR and FLR_DONE. A write by a master that may use the side appends the word with its writer's identity, or with 8 unread words discards it, sets ovf and counts mbx_ovf (R351). A read removes and returns the oldest inbound word and records its writer; of an empty queue, or by a master
that may not use the side, it returns 0 and changes nothing else. Firmware answers GET_INFO under its tag with four words, and any other type with 0xFF, both of them its own words, once it has room (R354). A core's restart empties its channels, sets peer_reset on their other sides and frees its locks, and posts MBX_PEER_RESET (R355). VF_FLR frees the function's locks and runs until FLR_DONE is posted (R347). Where a clause rests on a reading or a choice of the model, it is one of log entry 55. -/
def Obligations.mailboxes : Prop :=
  (∀ (m : Master) (c : BitVec 4) (d : Bool) (w : Word) (s : State), s.released 2 = true → s.mayUse m c.toNat d = true →
    ((s.outQ c.toNat d).length < 8 → ∃ t, exec (.mbxTxWrite m c d w) s = .next t ∧ t.outQ c.toNat d = s.outQ c.toNat d ++ [(w.toNat, m.toNat)] ∧
      (∀ x y, (x, y) ≠ (c.toNat, d) → t.outQ x y = s.outQ x y) ∧ FrameBut [.mbx] s t) ∧
    (8 ≤ (s.outQ c.toNat d).length → ∃ t, exec (.mbxTxWrite m c d w) s = .next t ∧ t.flag (F.mbxSts_ovf c.toNat d.toNat) = true ∧
      t.cnt = (s.count Cn.mbxOvf c.toNat).cnt ∧ FldsBut [F.mbxSts_ovf c.toNat d.toNat] s t ∧ FrameBut [.regs, .cnt] s t) ∧
    (s.outQ c.toNat (!d) = [] → exec (.mbxRxRead m c d) s = .next (s.reply [0])) ∧
    (∀ v k r, s.outQ c.toNat (!d) = (v, k) :: r → ∃ t, exec (.mbxRxRead m c d) s = .next t ∧ t.resp = { ur := false, data := [BitVec.ofNat 32 v] } ∧
      t.outQ c.toNat (!d) = r ∧ t.outQ c.toNat d = s.outQ c.toNat d ∧ Tbl.find t.mbx.src (64 * (2 * c.toNat + d.toNat) + m.toNat) 0 = k ∧ FrameBut [.mbx, .resp] s t)) ∧
  (∀ (m : Master) (c : BitVec 4) (d : Bool) (w : Word) (s : State), s.released 2 = true → s.mayUse m c.toNat d = false →
    exec (.mbxTxWrite m c d w) s = .next s ∧ exec (.mbxRxRead m c d) s = .next (s.reply [0])) ∧
  (∀ (c : BitVec 4) (d : Bool) (k : BitVec 2) (s : State), s.released 2 = true → s.released 3 = true → s.fwServes k.toNat c.toNat d = true →
    Tbl.find s.mbx.skip (2 * c.toNat + d.toNat) 0 = 0 → ∀ h w r, s.outQ c.toNat (!d) = (h, w) :: r →
      (h / 2 ^ 24 = 1 → (s.outQ c.toNat d).length ≤ 3 → ∃ t x, exec (.getInfo c d k) s = .next t ∧
        t.outQ c.toNat d = s.outQ c.toNat d ++ ([x * 2 ^ 24 + 4 * 2 ^ 16 + h % 2 ^ 16, s.rig.run.fwVersion % 2 ^ 32, Config.ifVersion s.rig.run.fwVersion % 2 ^ 32,
          4, s.rig.run.serial % 2 ^ 32].map (fun v => (v, 0x20 + k.toNat))) ∧
        t.outQ c.toNat (!d) = r.drop (h / 2 ^ 16 % 256) ∧ FrameBut [.mbx, .freeIx] s t) ∧
      (h / 2 ^ 24 ≠ 1 → (s.outQ c.toNat d).length ≤ 7 → ∃ t, exec (.getInfo c d k) s = .next t ∧
        t.outQ c.toNat d = s.outQ c.toNat d ++ [(0xFF * 2 ^ 24 + h % 2 ^ 16, 0x20 + k.toNat)] ∧
        t.outQ c.toNat (!d) = r.drop (h / 2 ^ 16 % 256) ∧ FrameBut [.mbx] s t)) ∧
  (∀ (k : BitVec 2) (s : State), s.released 3 = true → ∃ t, exec (.mastCoreRestart k) s = .next t ∧
    (∀ c d, (c, d) ∈ s.boundTo (0x20 + k.toNat) → t.outQ c false = [] ∧ t.outQ c true = [] ∧ t.flag (F.mbxSts_peer_reset c (!d).toNat) = true) ∧
    (∀ l, t.lockOf l ≠ 0x20 + k.toNat + 1) ∧ FrameBut [.regs, .evq, .cnt, .mem, .mbx] s t) ∧
  (∀ (v : BitVec 4) (s : State), s.released 2 = true → ∃ t, exec (.vfFlr v) s = .next t ∧
    (∀ c d, (c, d) ∈ s.boundTo (v.toNat + 1) → t.outQ c false = [] ∧ t.outQ c true = []) ∧
    (∀ l, t.lockOf l ≠ v.toNat + 1 + 1) ∧ v.toNat ∈ t.mbx.flr ∧ FrameBut [.regs, .hostMem, .mbx, .qp] s t) ∧
  (∀ (v : BitVec 4) (s : State), (v.toNat ∈ s.mbx.flr → ∃ t, exec (.flrDone v) s = .next t ∧ v.toNat ∉ t.mbx.flr ∧
      Posted s t 0x0304 [v.toNat] ∧ FrameBut [.evq, .cnt, .mem, .mbx] s t) ∧
    (v.toNat ∉ s.mbx.flr → exec (.flrDone v) s = .next s))

/-- With the host domain out of reset: a read of a free lock acquires it for the reader and answers ACQUIRED; of a lock the reader holds OWNED, of another's HELD with the holder, both without effect. The holder's release frees it, another master's has no effect. Master identity 0x00 forces it free, and no other master does (R356). CHAIN_SET by
master identity 0x00 chains the named slot to the next and CHAIN_CLEAR unchains it, but never the low slot of a wide array, whose chain bit is permanent (R360). Where a clause rests on a reading or a choice of the model, it is one of log entry 57. -/
def Obligations.locksAndChains : Prop :=
  (∀ (m : Master) (l : BitVec 6) (s : State), s.released 2 = true →
    (s.lockOf l.toNat = 0 → ∃ t, exec (.lockRead m l) s = .next t ∧ t.lockOf l.toNat = m.toNat + 1 ∧ (∀ j, j ≠ l.toNat → t.lockOf j = s.lockOf j) ∧
      t.resp = { ur := false, data := [BitVec.ofNat 32 (2 ^ 30 + m.toNat)] } ∧ FrameBut [.mbx, .resp] s t) ∧
    (s.lockOf l.toNat = m.toNat + 1 → exec (.lockRead m l) s = .next (s.reply [3 * 2 ^ 30 + m.toNat])) ∧
    (s.lockOf l.toNat ≠ 0 → s.lockOf l.toNat ≠ m.toNat + 1 → exec (.lockRead m l) s = .next (s.reply [2 * 2 ^ 30 + (s.lockOf l.toNat - 1)])) ∧
    (s.lockOf l.toNat = m.toNat + 1 → ∃ t, exec (.lockRelease m l) s = .next t ∧ t.lockOf l.toNat = 0 ∧ (∀ j, j ≠ l.toNat → t.lockOf j = s.lockOf j) ∧
      FrameBut [.mbx] s t) ∧
    (s.lockOf l.toNat ≠ m.toNat + 1 → exec (.lockRelease m l) s = .next s) ∧
    (m = 0 → ∃ t, exec (.lockForce m l) s = .next t ∧ t.lockOf l.toNat = 0 ∧ (∀ j, j ≠ l.toNat → t.lockOf j = s.lockOf j) ∧ FrameBut [.mbx] s t) ∧
    (m ≠ 0 → exec (.lockForce m l) s = .next s)) ∧
  (∀ (m : Master) (s : State), s.released 2 = true → let k := s.fld F.cntChainIdx_idx
    (m = 0 → ∃ t, exec (.chainSet m) s = .next t ∧ Tbl.find t.chain k false = (!(wideLow k) || Tbl.find s.chain k false) ∧
      (∀ j, j ≠ k → Tbl.find t.chain j false = Tbl.find s.chain j false) ∧ FrameBut [.chain] s t) ∧
    (m = 0 → ∃ t, exec (.chainClear m) s = .next t ∧ Tbl.find t.chain k false = false ∧
      (∀ j, j ≠ k → Tbl.find t.chain j false = Tbl.find s.chain j false) ∧ FrameBut [.chain] s t) ∧
    (m ≠ 0 → exec (.chainSet m) s = .next s ∧ exec (.chainClear m) s = .next s)) ∧
  (∀ (c : Ctr) (n : Nat) (s : State), c.wide = true → n % 2 = 0 → s.chained c n = true)

/-- SNAP_START, SNAP_ABORT and SNAP_DONE (R362, R363), the first two from a master that may write CNT with the host domain out of reset. A START while a snapshot runs completes BUSY, and one without a valid extent or with one outside the slots or BAR0 completes BAD_ARG; else the cut of all extents at this instant is taken, the number advances and the snapshot is busy.
An ABORT stops one that runs, and completes ABORT_LATE after the last one has ended. The end writes the header last, with its magic, the completion and the number, shows the result, clears busy, counts snap_done and posts SNAP_DONE; without an abort every value of the body precedes it. Where a clause rests on a reading or a choice of the model, it is one of log entry 56. -/
def Obligations.snapshots : Prop :=
  (∀ (m : Master) (s : State), mayWrite m = true → s.released 2 = true →
    (s.snap.running = true → ∃ t, exec (.snapStart m) s = .next t ∧ t.fld F.cntSnapCmd_result = 4 ∧ FldsBut [F.cntSnapCmd_result] s t ∧ FrameBut [.regs] s t) ∧
    (s.snap.running = false → (s.snapExtents = [] ∨ ∃ e ∈ s.snapExtents, e.ok = false) → ∃ t, exec (.snapStart m) s = .next t ∧
      t.fld F.cntSnapCmd_result = 5 ∧ FldsBut [F.cntSnapCmd_result] s t ∧ FrameBut [.regs] s t) ∧
    (s.snap.running = false → s.snapExtents ≠ [] → (∀ e ∈ s.snapExtents, e.ok = true) → ∃ t, exec (.snapStart m) s = .next t ∧
      t.snap.running = true ∧ t.snap.aborted = false ∧ t.snap.extents = s.snapExtents ∧ t.snap.body = s.cutAll m 0 s.snapExtents ∧
      t.snap.number = (s.snap.number + 1) % 2 ^ 32 ∧ t.fld F.cntSnapNum_num = (s.snap.number + 1) % 2 ^ 32 ∧
      t.snap.cut = [s.epoch, if s.flag F.rigSts_prev_live then s.fld F.rigEpoch_previous else 0, s.tim.sec, s.tim.ns, s.fld F.timSts_gen] ∧
      t.flag F.cntSnapCmd_busy = true ∧ t.fld F.cntSnapCmd_result = 0 ∧
      FldsBut [F.cntSnapCmd_busy, F.cntSnapCmd_result, F.cntSnapNum_num] s t ∧ FrameBut [.regs, .snap, .sht] s t) ∧
    (s.snap.running = true → exec (.snapAbort m) s = .next { s with snap := { s.snap with aborted := true } }) ∧
    (s.snap.running = false → s.snap.lastDone = true → ∃ t, exec (.snapAbort m) s = .next t ∧ t.fld F.cntSnapCmd_result = 3 ∧
      FldsBut [F.cntSnapCmd_result] s t ∧ FrameBut [.regs] s t)) ∧
  (∀ s : State, s.snap.running = false → exec .snapDone s = .next s) ∧
  (∀ s : State, s.snap.running = true → ∃ t, exec .snapDone s = .next t ∧ t.snap.running = false ∧ t.flag F.cntSnapCmd_busy = false ∧
    t.fld F.cntSnapCmd_result = (if s.snap.aborted then 2 else 1) ∧
    HostHas t s.snap.addr (leBytes 4 0x50534E43 ++ leBytes 2 1 ++ [if s.snap.aborted then 2 else 1, s.snap.extents.length] ++ leBytes 4 s.snap.number) ∧
    (s.snap.aborted = false → (s.snap.body.map (fun x => (x.1, x.1 + x.2.1))).Pairwise (fun x y => x.2 ≤ y.1) →
      (∀ x ∈ s.snap.body, HostHas t (s.snap.addr + 64 + x.1) (leBytes x.2.1 x.2.2))) ∧
    (∀ x, x < s.snap.addr → hostByte t x = hostByte s x) ∧
    t.evq = ((s.count Cn.snapDone 0).post 0x0401 [s.snap.number, if s.snap.aborted then 2 else 1]).evq ∧
    t.cnt = ((s.count Cn.snapDone 0).post 0x0401 [s.snap.number, if s.snap.aborted then 2 else 1]).cnt ∧
    FldsBut [F.cntSnapCmd_busy, F.cntSnapCmd_result] s t ∧ FrameBut [.regs, .snap, .hostMem, .cnt, .evq, .mem, .freeIx] s t)

/-- POWER_ON_RESET, SUPPLY_RESET, PERST_ASSERT, HOST_RESET and PF_FLR (R373, R374). After each, every register of a domain that its kind resets reads its reset value, GLB_START apart, which shows the cause; the registers of the other domains keep theirs, but for what the command records in AON. The domains are in reset; a host reset by GLB_RST or by a Function Level Reset
releases TIM and HIF at once and is in phase HIF when nothing holds start-up (R375). The time base runs on through a host reset and restarts otherwise. A power-on reset keeps only what the flash and the fuses hold and what is outside the device. Only master identity 0x00 resets through GLB_RST, and a held host domain takes neither of the two. Where a clause rests on a reading or a choice of the model, it is one of log entries 28, 29. -/
def Obligations.resetKinds : Prop :=
  (∀ s : State, ∃ t, exec .perstAssert s = .next t ∧ (∀ d, 2 ≤ d → d ≤ 7 → t.released d = false) ∧ t.fld F.glbStart_cause = 2 ∧
    (∀ a, 2 ≤ domainOf a → a ≠ F.glbStart_cause.addr → t.reg a = RegMap.reset a) ∧ (∀ a, domainOf a ≤ 1 → t.reg a = s.reg a) ∧
    t.tim = s.tim ∧ t.shr = State.reset.shr ∧ t.evq = State.reset.evq ∧ t.sup.hold / 4 % 2 = 1 ∧ t.sup.reefed = s.sup.reefed ∧
    t.rig.ownerHash = s.rig.ownerHash ∧ t.pending = s.pending) ∧
  (∀ (v : BitVec 5) (mv : BitVec 16) (s : State), ∃ t, exec (.supplyReset v mv) s = .next t ∧ (∀ d, 1 ≤ d → d ≤ 7 → t.released d = false) ∧
    t.fld F.glbStart_cause = 1 ∧ (∀ a, 1 ≤ domainOf a → a ≠ F.glbStart_cause.addr → t.reg a = RegMap.reset a) ∧
    t.flag F.glbSupSts_supply_reset = true ∧ t.fld F.glbSupVmin_vmin = min (s.fld F.glbSupVmin_vmin) mv.toNat ∧
    (∀ a, domainOf a = 0 → a ≠ F.glbSupSts_supply_reset.addr → a ≠ F.glbSupVmin_vmin.addr → t.reg a = s.reg a) ∧
    t.tim = State.reset.tim ∧ t.sup.hold / 1 % 2 = 1 ∧ t.sup.supplyMask = v.toNat ∧ t.sup.supplyResetDue = true ∧ t.sup.reefed = s.sup.reefed ∧
    t.sup.tick = s.sup.tick ∧ t.rig.ownerHash = s.rig.ownerHash ∧ t.pending = s.pending) ∧
  (∀ s : State, s.released 2 = true → s.sup.hold = 0 →
    (∃ t, exec (.hostReset 0) s = .next t ∧ t.fld F.glbStart_cause = 4 ∧ t.fld F.glbStart_phase = 1 ∧ t.released 1 = true ∧ t.released 2 = true ∧
      (∀ d, 3 ≤ d → d ≤ 7 → t.released d = false) ∧ t.tim = s.tim ∧ (∀ a, 3 ≤ domainOf a → t.reg a = RegMap.reset a) ∧
      t.flag F.glbPaceSts_reefed = s.sup.reefed ∧ t.pending = s.pending) ∧
    (∃ t, exec .pfFlr s = .next t ∧ t.fld F.glbStart_cause = 3 ∧ t.fld F.glbStart_phase = 1 ∧ t.released 1 = true ∧ t.released 2 = true ∧
      (∀ d, 3 ≤ d → d ≤ 7 → t.released d = false) ∧ t.tim = s.tim ∧ (∀ a, 3 ≤ domainOf a → t.reg a = RegMap.reset a) ∧ t.pending = s.pending)) ∧
  (∀ (m : Master) (s : State), m ≠ 0 ∨ s.released 2 = false → exec (.hostReset m) s = .next s) ∧
  (∀ s : State, s.released 2 = false → exec .pfFlr s = .next s) ∧
  (∀ s : State, ∃ t, exec .powerOnReset s = .next t ∧ (∀ d, 1 ≤ d → d ≤ 7 → t.released d = false) ∧ t.fld F.glbStart_cause = 0 ∧
    (∀ a, a ≠ F.glbTherm_grade.addr → a ≠ F.glbThermCfg_thr_warn.addr → t.reg a = RegMap.reset a) ∧ t.flag F.glbTherm_grade = s.sup.gradeH ∧
    t.fld F.glbThermCfg_thr_warn = (if s.sup.gradeH then 110 else 100) ∧ t.sup = { State.reset.sup with gradeH := s.sup.gradeH } ∧
    t.rig = { State.reset.rig with ownerHash := s.rig.ownerHash, slotA := s.rig.slotA, slotB := s.rig.slotB } ∧
    t.mem = { State.reset.mem with jnl := s.mem.jnl, jnlSeq := s.mem.jnlSeq, jnlBlocks := s.mem.jnlBlocks, weakBlocks := s.mem.weakBlocks } ∧
    t.pending = s.pending ∧ t.freeIx = s.freeIx ∧ t.hostMem = s.hostMem ∧ t.out = s.out ∧ t.pktNo = s.pktNo ∧
    FrameBut [.pending, .regs, .freeIx, .hostMem, .rig, .sup, .mem, .pktNo, .out] State.reset t)

/-- SUPPLY_RESET_RELEASE, PERST_DEASSERT and THERMAL_RESET_RELEASE end their own reason for waiting, and have no effect where it does not stand; when the last one ends before start-up has begun, TIM and HIF leave reset and phase HIF begins (R375). THERMAL_SENSOR_READ shows the hottest sensor and the highest since the last read; above the warning level, and above the grade's maximum,
it posts an event once until Tj has fallen by more than 3 °C below the level; at 10 °C above the grade's maximum, unless a thermal reset holds already, a thermal reset with cause 6 begins and is counted (R377, R378). What is not named does not change. Where a clause rests on a reading or a choice of the model, it is one of log entries 28, 30. -/
def Obligations.startHolds : Prop :=
  (∀ (s : State) (c : Instr) (r : Nat), (c, r) ∈ [(Instr.supplyResetRelease, 1), (Instr.thermalResetRelease, 2), (Instr.perstDeassert, 4)] →
    (s.sup.hold / r % 2 = 0 → exec c s = .next s) ∧
    (s.sup.hold / r % 2 = 1 → s.sup.hold ≠ r ∨ s.fld F.glbStart_phase ≠ 0 → exec c s = .next { s with sup := { s.sup with hold := s.sup.hold - r } }) ∧
    (s.sup.hold = r → s.fld F.glbStart_phase = 0 → ∃ t, exec c s = .next t ∧ t.sup.hold = 0 ∧ t.fld F.glbStart_phase = 1 ∧
      t.released 1 = true ∧ t.released 2 = true ∧ (∀ d, d ≠ 1 → d ≠ 2 → t.released d = s.released d) ∧ t.flag F.glbPaceSts_reefed = s.sup.reefed ∧
      FldsBut [F.glbStart_phase, F.glbPaceSts_reefed, F.rigBoot_state_a, F.rigBoot_state_b, F.rigBoot_owner_fused, F.rigBoot_trial] s t ∧
      FrameBut [.regs, .sup] s t)) ∧
  (∀ (tj : BitVec 8) (s : State),
    (tj.toInt < s.gradeMax + 10 ∨ s.sup.hold / 2 % 2 = 1 → ∃ t, exec (.thermalSensorRead tj) s = .next t ∧ t.fld F.glbTherm_tj = tj.toNat ∧
      signed 8 (t.fld F.glbTherm_tj_max) = max (signed 8 (s.fld F.glbTherm_tj_max)) tj.toInt ∧
      t.sup.warned = (decide (signed 8 (s.fld F.glbThermCfg_thr_warn) < tj.toInt) || (s.sup.warned && !(decide (tj.toInt < signed 8 (s.fld F.glbThermCfg_thr_warn) - 3)))) ∧
      t.sup.maxed = (decide (s.gradeMax < tj.toInt) || (s.sup.maxed && !(decide (tj.toInt < s.gradeMax - 3)))) ∧
      ((s.sup.warned = true ∨ tj.toInt ≤ signed 8 (s.fld F.glbThermCfg_thr_warn)) → (s.sup.maxed = true ∨ tj.toInt ≤ s.gradeMax) → t.evq = s.evq) ∧
      (s.sup.warned = false → signed 8 (s.fld F.glbThermCfg_thr_warn) < tj.toInt → (s.sup.maxed = true ∨ tj.toInt ≤ s.gradeMax) → Posted s t 0x0124 []) ∧
      ((s.sup.warned = true ∨ tj.toInt ≤ signed 8 (s.fld F.glbThermCfg_thr_warn)) → s.sup.maxed = false → s.gradeMax < tj.toInt → Posted s t 0x0125 []) ∧
      FldsBut [F.glbTherm_tj, F.glbTherm_tj_max] s t ∧ FrameBut [.regs, .sup, .evq, .cnt, .mem] s t) ∧
    (s.gradeMax + 10 ≤ tj.toInt → s.sup.hold / 2 % 2 = 0 → ∃ t, exec (.thermalSensorRead tj) s = .next t ∧ (∀ d, 1 ≤ d → d ≤ 7 → t.released d = false) ∧
      t.fld F.glbStart_cause = 6 ∧ t.sup.hold / 2 % 2 = 1 ∧ t.sup.thermCrit = some tj.toInt ∧ t.fld F.glbTherm_tj = tj.toNat ∧
      (∀ a, 1 ≤ domainOf a → a ≠ F.glbStart_cause.addr → t.reg a = RegMap.reset a) ∧ t.counter Cn.thermalResets 0 0 = 1 ∧ t.tim = State.reset.tim))

/-- JOURNAL_WRITE with MAST out of reset and at least 16 good blocks (R334): the oldest persistent record before any ordinary one is written with the next sequence number, and what waited for it follows; a block that fails verification is retired, counted and posted, and below 16 the writer stops. STARTUP_PHASE_END (R375): phase HIF leads to FLASH with MAST released; FLASH to IMAGE with
the retirements as the journal's records leave them (R335); IMAGE to MEMORY with the image of a slot that boot selection chose, or to HALTED with all but HIF and AON held when no slot meets R46; MEMORY to RIG with the rest released; RIG to DONE, with epoch 1 current, START_DONE posted last with the cause. In other phases it has no effect. Where a clause rests on a reading or a choice of the model, it is one of log entries 27, 28, 32. -/
def Obligations.journalAndStartUp : Prop :=
  (∀ s : State, s.released 3 = true → 16 ≤ s.mem.jnlBlocks →
    (∀ r p, s.mem.jnlP = r :: p → ∃ u : State, exec (.journalWrite true) s = .next (u.jnlActs r) ∧ u.mem.jnlP = p ++ s.mem.jnlWait.take 1 ∧
      u.mem.jnlWait = s.mem.jnlWait.drop 1 ∧ u.mem.jnlSeq = (s.mem.jnlSeq + 1) % 2 ^ 32 ∧ u.mem.jnl.getLast? = some { r with seq := s.mem.jnlSeq } ∧
      (s.mem.jnl.length < 1023 * s.mem.jnlBlocks → u.mem.jnl = s.mem.jnl ++ [{ r with seq := s.mem.jnlSeq }]) ∧
      u.cnt = (if s.released 4 then s.count Cn.jnlRecords 0 else s).cnt ∧ FldsBut [F.memJnlNew_seq, F.memJnlOld_seq] s u ∧ FrameBut [.regs, .mem, .cnt] s u) ∧
    (∀ r o, s.mem.jnlP = [] → s.mem.jnlO = r :: o → ∃ t, exec (.journalWrite true) s = .next t ∧ t.mem.jnlO = o ∧ t.mem.jnlP = [] ∧
      t.mem.jnlSeq = (s.mem.jnlSeq + 1) % 2 ^ 32 ∧ t.mem.jnl.getLast? = some { r with seq := s.mem.jnlSeq } ∧
      FldsBut [F.memJnlNew_seq, F.memJnlOld_seq] s t ∧ FrameBut [.regs, .mem, .cnt] s t) ∧
    (s.mem.jnlP = [] → s.mem.jnlO = [] → exec (.journalWrite true) s = .next s ∧ exec (.journalWrite false) s = .next s) ∧
    (s.mem.jnlP ≠ [] ∨ s.mem.jnlO ≠ [] → s.fld F.memJnlSts_bad + 1 < 2 ^ 16 → ∃ u : State,
      exec (.journalWrite false) s = .next (u.post 0x0609 [s.fld F.memJnlSts_bad + 1]) ∧ u.mem = { s.mem with jnlBlocks := s.mem.jnlBlocks - 1 } ∧
      u.fld F.memJnlSts_bad = s.fld F.memJnlSts_bad + 1 ∧ u.flag F.memJnlSts_stopped = decide (s.mem.jnlBlocks = 16) ∧
      FldsBut [F.memJnlSts_bad, F.memJnlSts_warn, F.memJnlSts_stopped] s u ∧ FrameBut [.regs, .mem] s u)) ∧
  (∀ (b : Bool) (s : State), s.released 3 = false ∨ s.mem.jnlBlocks < 16 → exec (.journalWrite b) s = .next s) ∧
  (∀ (ms : BitVec 16) (s : State),
    (s.fld F.glbStart_phase = 0 ∨ s.fld F.glbStart_phase = 6 ∨ s.fld F.glbStart_phase = 7 → exec (.startupPhaseEnd ms) s = .next s) ∧
    (s.fld F.glbStart_phase = 1 → ∃ t, exec (.startupPhaseEnd ms) s = .next t ∧ t.fld F.glbStart_phase = 2 ∧ t.fld F.glbStart_elapsed_ms = ms.toNat ∧
      t.released 3 = true ∧ (∀ d, d ≠ 3 → t.released d = s.released d) ∧ FldsBut [F.glbStart_phase, F.glbStart_elapsed_ms] s t ∧ FrameBut [.regs, .sup] s t) ∧
    (s.fld F.glbStart_phase = 2 → ∃ t, exec (.startupPhaseEnd ms) s = .next t ∧ t.fld F.glbStart_phase = 3 ∧ t.fld F.glbStart_elapsed_ms = ms.toNat ∧
      (∀ l r, s.mem.jnl = l ++ [r] → (r.typ = 1 ∨ r.typ = 6 → t.isRetired r.cls r.obj = true) ∧ (r.typ = 2 → t.isRetired r.cls r.obj = false)) ∧
      (s.mem.jnl = [] → t.sup.retired = []) ∧ FldsBut [F.glbStart_phase, F.glbStart_elapsed_ms] s t ∧ FrameBut [.regs, .sup, .mem] s t) ∧
    (s.fld F.glbStart_phase = 3 → s.mem.jnlP = [] → s.mem.jnlWait = [] → s.cand 0 = false → s.cand 1 = false → ∃ t, exec (.startupPhaseEnd ms) s = .next t ∧ t.fld F.glbStart_phase = 7 ∧
      t.flag F.rigBoot_no_image = true ∧ (∀ d, d = 1 ∨ (3 ≤ d ∧ d ≤ 7) → t.released d = false) ∧ t.released 2 = s.released 2) ∧
    (s.fld F.glbStart_phase = 3 → s.mem.jnlP = [] → s.mem.jnlWait = [] → s.fld F.glbStart_cause ≠ 5 → ∀ k, k < 2 → s.cand k = true → (s.slotOf k).st = 3 →
      s.cand (1 - k) = false → ∃ t, exec (.startupPhaseEnd ms) s = .next t ∧ t.fld F.glbStart_phase = 4 ∧ t.rig.run = (s.slotOf k).img ∧
        t.fld F.rigBoot_slot = k ∧ t.flag F.rigBoot_fallback = false ∧ t.fld F.rigImgSerial_serial = (s.slotOf k).img.serial % 2 ^ 32 ∧ t.released 4 = true ∧ t.evq = s.evq) ∧
    (s.fld F.glbStart_phase = 4 → ∃ t, exec (.startupPhaseEnd ms) s = .next t ∧ t.fld F.glbStart_phase = 5 ∧ t.fld F.glbStart_elapsed_ms = ms.toNat ∧
      t.released 5 = true ∧ t.released 6 = true ∧ t.released 7 = true ∧ FldsBut [F.glbStart_phase, F.glbStart_elapsed_ms] s t ∧ FrameBut [.regs, .sup] s t) ∧
    (s.fld F.glbStart_phase = 5 → ∃ u : State, exec (.startupPhaseEnd ms) s = .next (u.post 0x0123 [s.fld F.glbStart_cause]) ∧ u.fld F.glbStart_phase = 6 ∧
      u.epoch = 1 ∧ u.prevLive = false ∧ u.fld F.glbStart_elapsed_ms = ms.toNat))

/-- REEF_ENTER sets reefed, counts the entry, keeps the lowest VDD_CORE and posts REEF_ENTER; REEF_EXIT clears it, shows the duration rounded up to µs, queues the supply record of type 5 and posts REEF_EXIT with the minimum and the duration; each has no effect where reefed hold stands, or does not. VDD_AUX_LOW and VDD_AUX_RESUME set and clear aux_low, with one event, and let waiting I2C commands start.
UNRETIRE by master identity 0x00 with no command running is refused BAD_ARG for classes 7 and 9, BAD_STATE in reefed hold or with a device-initiated apply pending, NOT_RETIRED for a resource in service; else it is busy, and queues its record, for classes 8 and 10 once MARCH_TEST_DONE has passed; a failed test ends TEST_FAILED. RET_READ shows the selected entry of the list. Where a clause rests on a reading or a choice of the model, it is one of log entries 30, 31, 58. -/
def Obligations.reefAndUnretire : Prop :=
  (∀ (mv : BitVec 16) (s : State),
    (s.sup.reefed = true → exec (.reefEnter mv) s = .next s) ∧
    (s.sup.reefed = false → ∃ u : State, exec (.reefEnter mv) s = .next (u.post 0x0120 []) ∧ u.sup = { s.sup with reefed := true, holdMin := mv.toNat, vddCore := mv.toNat } ∧
      u.flag F.glbPaceSts_reefed = true ∧ u.flag F.glbSupSts_reefed_seen = true ∧ u.fld F.glbSupReef_entries = min 255 (s.fld F.glbSupReef_entries + 1) ∧
      u.fld F.glbSupVmin_vmin = min (s.fld F.glbSupVmin_vmin) mv.toNat ∧ u.cnt = (s.count Cn.reefEntries 0).cnt ∧
      FldsBut [F.glbPaceSts_reefed, F.glbSupSts_reefed_seen, F.glbSupReef_entries, F.glbSupVmin_vmin, F.rigSts_busy] s u ∧ FrameBut [.regs, .sup, .cnt] s u)) ∧
  (∀ (low now : BitVec 16) (ns : BitVec 40) (s : State), let v := min s.sup.holdMin low.toNat; let us := (ns.toNat + 999) / 1000
    (s.sup.reefed = false → exec (.reefExit low now ns) s = .next s) ∧
    (s.sup.reefed = true → ∃ u : State, exec (.reefExit low now ns) s = .next ((u.post 0x0121 [v, us]).tryDeviceApply.showBusy) ∧
      u.sup = { s.sup with reefed := false, reefExit := some s.sup.tick, holdMin := 0xFFFF, vddCore := now.toNat } ∧ u.flag F.glbPaceSts_reefed = false ∧
      u.fld F.glbSupReef_last_us = min 0xFFFFFF us ∧ u.fld F.glbSupVmin_vmin = min (s.fld F.glbSupVmin_vmin) v ∧
      u.cnt = (s.countN Cn.reefTimeUs 0 0 us).cnt ∧ u.mem = (s.jnlPersist 5 0x0121 0 0 [v, us] .none).mem ∧
      FldsBut [F.glbPaceSts_reefed, F.glbSupReef_last_us, F.glbSupVmin_vmin] s u ∧ FrameBut [.regs, .sup, .cnt, .mem] s u)) ∧
  (∀ s : State, (s.flag F.glbSupSts_aux_low = true → exec .vddAuxLow s = .next s) ∧
    (s.flag F.glbSupSts_aux_low = false → ∃ t, exec .vddAuxLow s = .next t ∧ t.flag F.glbSupSts_aux_low = true ∧ Posted s t 0x0127 [] ∧
      FldsBut [F.glbSupSts_aux_low] s t ∧ FrameBut [.regs, .evq, .cnt, .mem] s t) ∧
    ∃ t, exec .vddAuxResume s = .next t ∧ t.flag F.glbSupSts_aux_low = false ∧ t.sup = { s.sup with i2cWait := [] } ∧
      (s.sup.i2cWait = [] → t.out = s.out) ∧ FldsBut [F.glbSupSts_aux_low] s t ∧ FrameBut [.regs, .sup, .out] s t) ∧
  (∀ s : State, s.released 2 = true → s.flag F.glbRetCmd_busy = false →
    let c := s.fld F.glbRetArg_class
    let o := s.fld F.glbRetObj_obj
    (c = 7 ∨ c = 9 → exec (.unretire 0) s = .next (s.setFld F.glbRetCmd_result 2)) ∧
    (c ≠ 7 → c ≠ 9 → (s.sup.reefed = true ∨ s.rig.devApplies ≠ [] → exec (.unretire 0) s = .next (s.setFld F.glbRetCmd_result 4)) ∧
      (s.sup.reefed = false → s.rig.devApplies = [] → (s.isRetired c o = false → exec (.unretire 0) s = .next (s.setFld F.glbRetCmd_result 1)) ∧
        (s.isRetired c o = true → ∃ t, exec (.unretire 0) s = .next t ∧ t.flag F.glbRetCmd_busy = true ∧ t.sup = { s.sup with unret := some (c, o) } ∧
          (c = 8 ∨ c = 10 → t.mem = s.mem) ∧ (c ≠ 8 → c ≠ 10 → t.mem = (s.jnlPersist 2 0 c o [] .unretire).mem) ∧
          FldsBut [F.glbRetCmd_busy] s t ∧ FrameBut [.regs, .sup, .mem] s t))) ∧
    (∃ t, exec (.retRead 0) s = .next t ∧ FrameBut [.regs] s t ∧ t.fld F.glbRetCmd_result = 0 ∧
      FldsBut [F.glbRetData0_valid, F.glbRetData0_class, F.glbRetData1_index, F.glbRetData2_sec, F.glbRetCmd_result] s t ∧
      (∀ e, s.sup.retired[s.fld F.glbRetIdx_idx]? = some e → t.flag F.glbRetData0_valid = true ∧ t.fld F.glbRetData0_class = e.cls % 256 ∧
        t.fld F.glbRetData1_index = e.obj % 2 ^ 32 ∧ t.fld F.glbRetData2_sec = e.sec % 2 ^ 32) ∧
      (s.sup.retired.length ≤ s.fld F.glbRetIdx_idx → t.flag F.glbRetData0_valid = false))) ∧
  (∀ (m : Master) (s : State), m ≠ 0 ∨ s.released 2 = false ∨ s.flag F.glbRetCmd_busy = true →
    exec (.unretire m) s = .next s ∧ exec (.retRead m) s = .next s) ∧
  (∀ s : State, (s.sup.unret = none → ∀ b, exec (.marchTestDone b) s = .next s) ∧
    ∀ c o, s.sup.unret = some (c, o) → c = 8 ∨ c = 10 → s.recordWaits c o = false →
      exec (.marchTestDone true) s = .next (s.jnlPersist 2 0 c o [] .unretire) ∧
      ∃ t, exec (.marchTestDone false) s = .next t ∧ t.fld F.glbRetCmd_result = 3 ∧ t.flag F.glbRetCmd_busy = false ∧ t.sup = { s.sup with unret := none } ∧
        FldsBut [F.glbRetCmd_busy, F.glbRetCmd_result] s t ∧ FrameBut [.regs, .sup] s t)

/-- One time-base tick (R258) answers a next state. While the TIM domain is out of reset, a time base whose nanoseconds and fraction are in
range stays in range, and its value in units of 2^-32 ns grows by exactly the increment in force, modulo 2^48 seconds; while the domain is held in
reset the time base stands. Nothing else changes but the device clock, which counts the tick. Where a clause rests on a reading or a choice of the model, it is one of log entry 48. -/
def Obligations.timeTick : Prop := ∀ s : State, ∃ t, exec .timeBaseTick s = .next t ∧
  t.sup = { s.sup with tick := s.sup.tick + 1 } ∧ FrameBut [.sup, .tim] s t ∧
  (s.released 1 = false → t.tim = s.tim) ∧
  (s.released 1 = true → s.tim.ns < 1000000000 → s.tim.frac < 2 ^ 32 → s.tim.incNs = 1 → s.tim.incFrac < 2 ^ 32 → s.tim.sec < 2 ^ 48 →
    t.tim = { s.tim with sec := t.tim.sec, ns := t.tim.ns, frac := t.tim.frac } ∧
    t.tim.ns < 1000000000 ∧ t.tim.frac < 2 ^ 32 ∧ t.tbu = (s.tbu + s.incTbu) % tbuMod)

/-- TIM_SET_CMD and TIM_INC_NS (R259, R260), for a master that may write TIM with the domain out of reset. With no SET_AT_PPS waiting: SET with
nanoseconds in range loads the time base from its operands, completes and advances gen; with nanoseconds out of range it completes BAD_ARG and changes nothing
else. ADJUST adds the signed nanoseconds and the fraction, modulo 2^48 seconds, and advances gen; with 0x8000_0000 it completes BAD_ARG. SET_AT_PPS takes its seconds and waits.
While SET_AT_PPS waits, each of the three first ends it CANCELLED with TIM_SET_DONE, and then runs. SET_AT_PPS_TIMEOUT ends it TIMEOUT without advancing gen. A commit of an
increment in range puts it in force and shows it; one out of range sets inc_rejected, posts TIM_INC_REJECT and keeps the old increment. The frame: registers and
parts that are not named do not change. A command from another master, or with the domain held, changes nothing. Where a clause rests on a reading or a choice of the model, it is one of log entry 48. -/
def Obligations.timeSetting : Prop :=
  (∀ (m : Master) (s : State), s.released 1 = true → mayWrite m = true → s.tim.setAtPps = none →
    (s.fld F.timSetNs_ns < 1000000000 → ∃ t, exec (.set_ m) s = .next t ∧
      t.tim = { s.tim with sec := s.fld F.timSetSecHi_sec * 2 ^ 32 + s.fld F.timSetSecLo_sec, ns := s.fld F.timSetNs_ns, frac := s.fld F.timSetFrac_frac } ∧
      t.fld F.timSts_gen = (s.fld F.timSts_gen + 1) % 2 ^ 16 ∧ t.fld F.timSetCmd_result = 0 ∧
      FldsBut [F.timSts_gen, F.timSetCmd_result] s t ∧ FrameBut [.regs, .tim] s t) ∧
    (1000000000 ≤ s.fld F.timSetNs_ns → ∃ t, exec (.set_ m) s = .next t ∧ t.fld F.timSetCmd_result = 1 ∧
      FldsBut [F.timSetCmd_result] s t ∧ FrameBut [.regs] s t) ∧
    (s.fld F.timSetNs_ns ≠ 0x80000000 → ∃ t, exec (.adjust m) s = .next t ∧
      t.tbu = (((s.tbu : Int) + signed 32 (s.fld F.timSetNs_ns) * 2 ^ 32 + (s.fld F.timSetFrac_frac : Int)) % (tbuMod : Int)).toNat ∧
      t.tim = { s.tim with sec := t.tim.sec, ns := t.tim.ns, frac := t.tim.frac } ∧
      t.fld F.timSts_gen = (s.fld F.timSts_gen + 1) % 2 ^ 16 ∧ t.fld F.timSetCmd_result = 0 ∧
      FldsBut [F.timSts_gen, F.timSetCmd_result] s t ∧ FrameBut [.regs, .tim] s t) ∧
    (s.fld F.timSetNs_ns = 0x80000000 → ∃ t, exec (.adjust m) s = .next t ∧ t.fld F.timSetCmd_result = 1 ∧
      FldsBut [F.timSetCmd_result] s t ∧ FrameBut [.regs] s t) ∧
    (∃ t, exec (.setAtPps m) s = .next t ∧
      t.tim = { s.tim with setAtPps := some (s.fld F.timSetSecHi_sec * 2 ^ 32 + s.fld F.timSetSecLo_sec) } ∧
      t.fld F.timSetCmd_busy = 1 ∧ t.fld F.timSts_set_pending = 1 ∧ FldsBut [F.timSetCmd_busy, F.timSts_set_pending] s t ∧ FrameBut [.regs, .tim] s t)) ∧
  (∀ (s : State) (r sec : Nat), s.tim.setAtPps = some sec → r < 4 →
    (s.endSetAtPps r).tim = { s.tim with setAtPps := none } ∧ (s.endSetAtPps r).fld F.timSetCmd_result = r ∧
    (s.endSetAtPps r).fld F.timSetCmd_busy = 0 ∧ (s.endSetAtPps r).fld F.timSts_set_pending = 0 ∧
    Posted s (s.endSetAtPps r) 0x0502 [r, s.fld F.timSts_gen] ∧
    FldsBut [F.timSetCmd_result, F.timSetCmd_busy, F.timSts_set_pending] s (s.endSetAtPps r) ∧
    FrameBut [.regs, .tim, .evq, .cnt, .mem] s (s.endSetAtPps r)) ∧
  (∀ (m : Master) (s : State) (sec : Nat), s.released 1 = true → mayWrite m = true → s.tim.setAtPps = some sec →
    exec (.set_ m) s = exec (.set_ m) (s.endSetAtPps 3) ∧ exec (.adjust m) s = exec (.adjust m) (s.endSetAtPps 3) ∧
    exec (.setAtPps m) s = exec (.setAtPps m) (s.endSetAtPps 3)) ∧
  (∀ (s : State) (sec : Nat), s.tim.setAtPps = some sec → exec .setAtPpsTimeout s = .next (s.endSetAtPps 2)) ∧
  (∀ (m : Master) (s : State), s.released 1 = true → mayWrite m = true →
    (0x99652BD4 ≤ s.tim.incHeld → s.tim.incHeld ≤ 0x99CE075F → ∃ t, exec (.incCommit m 1) s = .next t ∧
      t.tim = { s.tim with incNs := 1, incFrac := s.tim.incHeld } ∧ t.fld F.timIncFrac_frac = s.tim.incHeld ∧ t.fld F.timIncNs_ns = 1 ∧
      FldsBut [F.timIncFrac_frac, F.timIncNs_ns] s t ∧ FrameBut [.regs, .tim] s t) ∧
    (∀ ns : BitVec 4, (ns ≠ 1 ∨ s.tim.incHeld < 0x99652BD4 ∨ 0x99CE075F < s.tim.incHeld) → ∃ t, exec (.incCommit m ns) s = .next t ∧
      t.fld F.timSts_inc_rejected = 1 ∧ Posted s t 0x0501 [] ∧ FldsBut [F.timSts_inc_rejected] s t ∧
      FrameBut [.regs, .evq, .cnt, .mem] s t)) ∧
  (∀ (m : Master) (ns : BitVec 4) (s : State), s.released 1 = false ∨ mayWrite m = false →
    exec (.set_ m) s = .next s ∧ exec (.adjust m) s = .next s ∧ exec (.setAtPps m) s = .next s ∧ exec (.incCommit m ns) s = .next s)

/-- The reads of the time base with effects. A read of TIM_NOW_NS latches the fraction and the seconds of the same tick for its master (R261); one of PCH_SFC_LO latches the
three registers of the same frame (R68); one of TIM_TSQ_W0 takes the oldest entry out and latches its other words, and on an empty queue returns 0 and changes nothing (R265); one of TIM_PPSI_NS
latches TIM_PPSI_HI and clears its fresh bit; one of TIM_TODI_DATA removes a byte (R268). Registers that are not named do not change. Where a clause rests on a reading or a choice of the model, it is one of log entries 15, 16. -/
def Obligations.timeReads : Prop :=
  (∀ (m : Master) (s : State), s.released 1 = true → reaches m = true → ∃ t, exec (.timeNowRead m) s = .next t ∧
    t.resp = { ur := false, data := [BitVec.ofNat 32 s.tim.ns] } ∧
    Tbl.find t.latches (latchKey m F.timNowFrac.addr) none = some (BitVec.ofNat 32 s.tim.frac) ∧
    Tbl.find t.latches (latchKey m F.timNowSecLo.addr) none = some (BitVec.ofNat 32 s.tim.sec) ∧
    Tbl.find t.latches (latchKey m F.timNowSecHi.addr) none = some (BitVec.ofNat 32 (s.tim.sec / 2 ^ 32)) ∧ FrameBut [.resp, .latches] s t) ∧
  (∀ (m : Master) (c : Chan) (s : State), s.released 7 = true → reaches m = true → ∃ t, exec (.sfcRead m c) s = .next t ∧
    t.resp = { ur := false, data := [s.reg (F.pchSfcLo c.toNat).addr] } ∧
    Tbl.find t.latches (latchKey m (F.pchSfcHi c.toNat).addr) none = some (BitVec.ofNat 32 (s.fld (F.pchSfcHi_sfc c.toNat))) ∧
    Tbl.find t.latches (latchKey m (F.pchFstartSec c.toNat).addr) none = some (s.reg (F.pchFstartSec c.toNat).addr) ∧
    Tbl.find t.latches (latchKey m (F.pchFstartNs c.toNat).addr) none = some (BitVec.ofNat 32 (s.fld (F.pchFstartNs_ns c.toNat))) ∧
    FrameBut [.resp, .latches] s t) ∧
  (∀ (m : Master) (u : Uplink) (s : State), s.released 1 = true → mayWrite m = true →
    (Tbl.find s.tim.tsq u.toNat [] = [] → exec (.tsqRead m u) s = .next (s.reply [0])) ∧
    (∀ e r, Tbl.find s.tim.tsq u.toNat [] = e :: r → ∃ t, exec (.tsqRead m u) s = .next t ∧
      t.resp = { ur := false, data := [BitVec.ofNat 32 e.w0] } ∧ t.tim = { s.tim with tsq := Tbl.put s.tim.tsq u.toNat [] r } ∧
      t.fld (F.timTsqSts_count u.toNat) = r.length % 2 ^ 7 ∧
      Tbl.find t.latches (latchKey m (F.timTsqW1 u.toNat).addr) none = some (BitVec.ofNat 32 e.w1) ∧
      Tbl.find t.latches (latchKey m (F.timTsqW2 u.toNat).addr) none = some (BitVec.ofNat 32 e.w2) ∧
      FldsBut [F.timTsqSts_count u.toNat] s t ∧ FrameBut [.resp, .latches, .tim, .regs] s t)) ∧
  (∀ (m : Master) (u : Uplink) (s : State), s.released 1 = true → mayWrite m = false → exec (.tsqRead m u) s = .next (s.reply [0])) ∧
  (∀ (m : Master) (s : State), s.released 1 = true → reaches m = true → ∃ t, exec (.ppsiRead m) s = .next t ∧
    t.resp = { ur := false, data := [s.reg F.timPpsiNs.addr] } ∧
    Tbl.find t.latches (latchKey m F.timPpsiHi.addr) none = some (s.reg F.timPpsiHi.addr) ∧ t.fld F.timPpsiHi_hi = s.fld F.timPpsiHi_hi / 2 * 2 ∧
    FldsBut [F.timPpsiHi_hi] s t ∧ FrameBut [.resp, .latches, .regs] s t) ∧
  (∀ (m : Master) (s : State), s.released 1 = true → reaches m = true →
    (s.tim.todi = [] → exec (.todiRead m) s = .next (s.reply [0])) ∧
    (∀ b r, s.tim.todi = b :: r → ∃ t, exec (.todiRead m) s = .next t ∧
      t.resp = { ur := false, data := [BitVec.ofNat 32 (256 + b)] } ∧ t.tim = { s.tim with todi := r } ∧
      t.fld F.timTodiSts_bytes = r.length % 2 ^ 7 ∧ FldsBut [F.timTodiSts_bytes] s t ∧ FrameBut [.resp, .tim, .regs] s t))

/-- The pins of the time base (R268), with the TIM domain out of reset. An edge on PPS_IN while enabled is counted and stamped at the tick's value plus its phase less in_cal, and is fresh; while SET_AT_PPS waits it
completes that command, so that the edge less in_cal reads the seconds taken (R260). The loss of PPS_IN is posted once until an edge returns. An edge of PPS_OUT while enabled gives a pulse, of which a message will tell.
A ToD message follows the mode: the device's own bytes, the host's buffer once for each arming, or todo_skipped. Arming takes the length. A byte on TOD_IN enters the FIFO of 64 or sets
overflow and is counted. The frame: registers and parts that are not named do not change.
The two DPLLs (R269), e naming which, with the TIM domain out of reset: a write of the configuration stores it and gives FREE_RUN when it selects no reference, HOLDOVER with its event when force_ho is set, else ACQUIRING; a write
of a 1 to a reserved bit is unpredictable (R12) and stops the model. A lock leads from ACQUIRING to LOCKED and posts TIM_DPLL_LOCKED; the loss of the reference leads from ACQUIRING or LOCKED to HOLDOVER and posts TIM_DPLL_HOLDOVER; its return leads from
HOLDOVER to ACQUIRING unless force_ho holds it (the model's reading, a log entry). TOD_CALC (R266) gives the first result of WRONG_CHANNEL, NOT_ACTIVE, OUT_OF_RANGE that applies, else the prediction with gen, and 0. Where a clause rests on a reading or a choice of the model, it is one of log entries 48, 49, 50. -/
def Obligations.timePinsPlls : Prop :=
  (∀ (ph : BitVec 7) (s : State), s.released 1 = true → s.flag F.timCtrl_pps_in_en = true →
    let x := stampOf (((s.tbu + ph.toNat * s.incTbu / 128 : Nat) : Int) - signed 16 (s.fld F.timPpsCal_in_cal) * 2 ^ 26)
    (s.tim.setAtPps = none → ∃ t, exec (.ppsInEdge ph) s = .next t ∧ t.fld F.timPpsiNs_ns = x.ns % 2 ^ 32 ∧ t.fld F.timPpsiHi_hi = (x.hi + 1) % 2 ^ 32 ∧
      t.tim = { s.tim with ppsLost := false } ∧ t.cnt = (s.count Cn.ppsInEdges 0).cnt ∧
      FldsBut [F.timPpsiNs_ns, F.timPpsiHi_hi] s t ∧ FrameBut [.regs, .tim, .cnt] s t) ∧
    (∀ sec, s.tim.setAtPps = some sec → ∃ t, exec (.ppsInEdge ph) s = .next t ∧ t.fld F.timPpsiNs_ns = x.ns % 2 ^ 32 ∧ t.fld F.timPpsiHi_hi = (x.hi + 1) % 2 ^ 32 ∧
      t.tbu = ((((sec * 1000000000 * 2 ^ 32 : Nat) : Int) - ((ph.toNat * s.incTbu / 128 : Nat) : Int) + signed 16 (s.fld F.timPpsCal_in_cal) * 2 ^ 26) %
        (tbuMod : Int)).toNat ∧ t.tim.setAtPps = none ∧ t.fld F.timSts_gen = (s.fld F.timSts_gen + 1) % 2 ^ 16 ∧ t.fld F.timSetCmd_result = 0 ∧
      t.fld F.timSetCmd_busy = 0 ∧ t.fld F.timSts_set_pending = 0 ∧
      FldsBut [F.timPpsiNs_ns, F.timPpsiHi_hi, F.timSts_gen, F.timSetCmd_result, F.timSetCmd_busy, F.timSts_set_pending] s t ∧
      FrameBut [.regs, .tim, .cnt, .evq, .mem] s t)) ∧
  (∀ s : State, s.released 1 = true → s.flag F.timCtrl_pps_in_en = true → s.tim.ppsLost = false → ∃ t, exec .ppsInLoss s = .next t ∧
    t.fld F.timSts_pps_in_loss = 1 ∧ t.tim = { s.tim with ppsLost := true } ∧ Posted s t 0x0506 [] ∧ FldsBut [F.timSts_pps_in_loss] s t ∧
    FrameBut [.regs, .tim, .cnt, .evq, .mem] s t) ∧
  (∀ s : State, s.tim.ppsLost = true ∨ s.flag F.timCtrl_pps_in_en = false → exec .ppsInLoss s = .next s) ∧
  (∀ s : State, s.released 1 = true → s.flag F.timCtrl_pps_out_en = true → ∃ t sec, exec .ppsOutEdge s = .next t ∧ t.out = s.out ++ [.pps sec] ∧
    t.tim = { s.tim with ppsEdge := some sec } ∧ FrameBut [.out, .tim] s t) ∧
  (∀ (s : State) (sec : Nat), s.tim.ppsEdge = some sec →
    (s.fld F.timTodCfg_out_mode = 1 → s.fld F.timTodCfg_baud ≠ 3 → ∃ t, exec .todOutMessage s = .next t ∧
      (∃ l : List Nat, l.length = 14 ∧ t.out = s.out ++ [.tod l] ∧ l.take 4 = [0xC3, 0x5A, 1, 14] ∧ (l.drop 4).take 6 = beBytes 6 sec ∧
        l.getD 13 0 = ((l.drop 2).take 11).foldl Nat.xor 0) ∧ t.tim = { s.tim with ppsEdge := none } ∧ FrameBut [.out, .tim] s t) ∧
    (s.fld F.timTodCfg_out_mode = 2 → s.fld F.timTodCfg_baud ≠ 3 → s.flag F.timTodoLen_armed = true → ∃ t, exec .todOutMessage s = .next t ∧
      t.out = s.out ++ [.tod (s.todoBuf.take (s.fld F.timTodoLen_len))] ∧ t.fld F.timTodoLen_armed = 0 ∧ t.tim = { s.tim with ppsEdge := none } ∧
      FldsBut [F.timTodoLen_armed] s t ∧ FrameBut [.out, .tim, .regs] s t) ∧
    (s.fld F.timTodCfg_out_mode = 2 → s.flag F.timTodoLen_armed = false → ∃ t, exec .todOutMessage s = .next t ∧
      t.cnt = (s.count Cn.todoSkipped 0).cnt ∧ t.tim = { s.tim with ppsEdge := none } ∧ FrameBut [.tim, .cnt] s t)) ∧
  (∀ (m : Master) (n : BitVec 6) (s : State), s.released 1 = true → mayWrite m = true → ∃ t, exec (.todoArm m n) s = .next t ∧
    t.fld F.timTodoLen_len = n.toNat ∧ t.fld F.timTodoLen_armed = 1 ∧ FldsBut [F.timTodoLen_len, F.timTodoLen_armed] s t ∧ FrameBut [.regs] s t) ∧
  (∀ (b : Byte) (s : State), s.released 1 = true →
    (s.tim.todi.length < 64 → ∃ t, exec (.todInByte b) s = .next t ∧ t.tim = { s.tim with todi := s.tim.todi ++ [b.toNat] } ∧
      t.fld F.timTodiSts_bytes = s.tim.todi.length + 1 ∧ FldsBut [F.timTodiSts_bytes] s t ∧ FrameBut [.regs, .tim] s t) ∧
    (64 ≤ s.tim.todi.length → ∃ t, exec (.todInByte b) s = .next t ∧ t.fld F.timTodiSts_overflow = 1 ∧ t.cnt = (s.count Cn.todiOverflow 0).cnt ∧
      FldsBut [F.timTodiSts_overflow] s t ∧ FrameBut [.regs, .cnt] s t)) ∧
  (∀ (m : Master) (e : Bool) (d : Word) (s : State), s.released 1 = true → mayWrite m = true →
    (d &&& dpReserved e ≠ 0 → exec (.dpllConfigWrite m e d) s = .fault .unpredictable) ∧
    (d &&& dpReserved e = 0 → ∃ t, exec (.dpllConfigWrite m e d) s = .next t ∧ t.reg (if e then F.timDpllE.addr else F.timDpllS.addr) = d ∧
      (t.dpRef e = false → t.fld (dpFld e) = 0) ∧ (t.dpRef e = true → t.dpForce e = false → t.fld (dpFld e) = 1) ∧
      (t.dpRef e = true → t.dpForce e = true → t.fld (dpFld e) = 3 ∧ Posted s t 0x0504 [Config.eventWord 0x0504 e.toNat]) ∧
      FldsBut [dpFld e, if e then F.timDpllE else F.timDpllS] s t ∧ FrameBut [.regs, .evq, .cnt, .mem] s t)) ∧
  (∀ (e : Bool) (s : State), s.released 1 = true →
    (s.fld (dpFld e) = 1 → ∃ t, exec (.dpllLock e) s = .next t ∧ t.fld (dpFld e) = 2 ∧ Posted s t 0x0505 [Config.eventWord 0x0505 e.toNat] ∧
      FldsBut [dpFld e] s t ∧ FrameBut [.regs, .evq, .cnt, .mem] s t) ∧
    (s.fld (dpFld e) = 1 ∨ s.fld (dpFld e) = 2 → ∃ t, exec (.dpllRefLoss e) s = .next t ∧ t.fld (dpFld e) = 3 ∧
      Posted s t 0x0504 [Config.eventWord 0x0504 e.toNat] ∧ FldsBut [dpFld e] s t ∧ FrameBut [.regs, .evq, .cnt, .mem] s t) ∧
    (s.fld (dpFld e) = 3 → s.dpRef e = true → s.dpForce e = false → ∃ t, exec (.dpllRefReturn e) s = .next t ∧ t.fld (dpFld e) = 1 ∧
      FldsBut [dpFld e] s t ∧ FrameBut [.regs] s t)) ∧
  (∀ (m : Master) (s : State), s.released 1 = true → mayWrite m = true →
    let c := s.fld F.timTodArg0_channel
    let o := s.onuOf (s.fld F.timTodArg0_onu)
    let d := (s.fld F.timTodArg2_sfc * 2 ^ 32 + s.fld F.timTodArg1_sfc + 2 ^ 51 -
      (s.fld (F.pchSfcHi_sfc c) * 2 ^ 32 + s.fld (F.pchSfcLo_sfc c))) % 2 ^ 51
    let q := s.tstamp c d ((o.residue : Int) - o.f)
    ∃ t, exec (.todCalc m) s = .next t ∧ FrameBut [.regs] s t ∧
      (o.st ≠ 0 ∧ o.chan ≠ c → t.fld F.timTodCmd_result = 3 ∧ FldsBut [F.timTodCmd_result] s t) ∧
      ((o.st = 0 ∨ o.chan = c) → (o.st ≠ 4 ∨ s.ch c ≠ chRunning) → t.fld F.timTodCmd_result = 1 ∧ FldsBut [F.timTodCmd_result] s t) ∧
      (o.st = 4 → o.chan = c → s.ch c = chRunning → (d = 0 ∨ 65535 < d) → t.fld F.timTodCmd_result = 2 ∧ FldsBut [F.timTodCmd_result] s t) ∧
      (o.st = 4 → o.chan = c → s.ch c = chRunning → 0 < d → d ≤ 65535 → t.fld F.timTodCmd_result = 0 ∧
        t.fld F.timTodResSecLo_sec = q / 64 / 1000000000 % 2 ^ 32 ∧ t.fld F.timTodResSecHi_sec = q / 64 / 1000000000 / 2 ^ 32 % 2 ^ 16 ∧
        t.fld F.timTodResSecHi_gen = s.fld F.timSts_gen ∧ t.fld F.timTodResNs_ns = q / 64 % 1000000000 ∧ t.fld F.timTodResSub_sub = q % 64 ∧
        FldsBut [F.timTodResSecLo_sec, F.timTodResSecHi_sec, F.timTodResSecHi_gen, F.timTodResNs_ns, F.timTodResSub_sub, F.timTodCmd_result] s t))

/-- PACE_WINDOW_END (R32) answers a next state for every state and reading. While the monitor is enabled and the host domain is out of reset, the readings of the window are shown
saturated, the worst readings follow them, and the Halyard lead reads 0xFFFF when no map was accepted in the window; a fabric or parser sentinel whose reading exceeds
its threshold, or a Halyard sentinel whose lead is below its own, has its status bit set afterwards; a sentinel whose bit is 1 already, or that is within its threshold, keeps its bit; when all three bits
are 1 and none has recovered, no event is posted. Only the readings, the status bits, the sentinels' history and the event path change. With the monitor disabled nothing changes. Where a clause rests on a reading or a choice of the model, it is one of log entry 59. -/
def Obligations.paceWindow : Prop := ∀ (fab prs : BitVec 24) (lead : Option (BitVec 16)) (s : State),
  (s.flag F.glbPaceCtrl_enable = true → s.released 2 = true →
    let l := (lead.map (·.toNat)).getD 0xFFFF
    ∃ t, exec (.paceWindowEnd fab prs lead) s = .next t ∧
      t.fld F.glbPaceFab_cur_ps = min 0xFFFF fab.toNat ∧ t.fld F.glbPaceFab_worst_ps = max (min 0xFFFF fab.toNat) (s.fld F.glbPaceFab_worst_ps) ∧
      t.fld F.glbPacePrs_cur_ps = min 0xFFFF prs.toNat ∧ t.fld F.glbPacePrs_worst_ps = max (min 0xFFFF prs.toNat) (s.fld F.glbPacePrs_worst_ps) ∧
      t.fld F.glbPaceHal_cur_lead = l ∧ t.fld F.glbPaceHal_worst_lead = min l (s.fld F.glbPaceHal_worst_lead) ∧
      t.flag F.glbPaceSts_slow_fab = (s.flag F.glbPaceSts_slow_fab || decide (s.fld F.glbPaceThrFab_thr_ps < fab.toNat)) ∧
      t.flag F.glbPaceSts_slow_prs = (s.flag F.glbPaceSts_slow_prs || decide (s.fld F.glbPaceThrPrs_thr_ps < prs.toNat)) ∧
      t.flag F.glbPaceSts_slow_hal = (s.flag F.glbPaceSts_slow_hal || decide (l < s.fld F.glbPaceThrHal_thr_lead)) ∧
      (s.sup.slow = [false, false, false] → fab.toNat ≤ s.fld F.glbPaceThrFab_thr_ps → prs.toNat ≤ s.fld F.glbPaceThrPrs_thr_ps →
        s.fld F.glbPaceThrHal_thr_lead ≤ l → t.evq = s.evq) ∧
      (s.sup.slow = [false, false, false] → s.flag F.glbPaceSts_slow_fab = false → s.fld F.glbPaceThrFab_thr_ps < fab.toNat →
        prs.toNat ≤ s.fld F.glbPaceThrPrs_thr_ps → s.fld F.glbPaceThrHal_thr_lead ≤ l → Posted s t 0x0101 []) ∧
      FldsBut [F.glbPaceFab, F.glbPacePrs, F.glbPaceHal, F.glbPaceSts_slow_fab, F.glbPaceSts_slow_prs, F.glbPaceSts_slow_hal] s t ∧
      FrameBut [.regs, .sup, .evq, .cnt, .mem] s t) ∧
  (s.flag F.glbPaceCtrl_enable = false → exec (.paceWindowEnd fab prs lead) s = .next s)

/-- I2C_WRITE, I2C_READ and I2C_WRITE_BYTE (R398), from a master that may write GLB with the host domain out of reset: an idle I2C master takes the command, shows its fields and becomes busy; with VDD_AUX present the transaction
starts on its bus, with the bytes of DATA for a write; while VDD_AUX is low it waits, busy. A busy one discards the command and sets cmd_lost (R405). I2C_DONE ends a transaction that runs: its result is shown, busy
clears, and a read that is done gives DATA its count bytes and keeps the others. Registers and parts that are not named do not change. Where a clause rests on a reading or a choice of the model, it is one of log entry 58. -/
def Obligations.i2cMasters : Prop :=
  (∀ (m : Master) (i : BitVec 4) (dev : BitVec 7) (reg : BitVec 8) (n : BitVec 2) (s : State), mayWrite m = true → s.released 2 = true →
    let k := i.toNat
    (s.flag (F.glbI2cCmd_busy k) = false → s.flag F.glbSupSts_aux_low = false →
      (∃ t, exec (.i2cWrite m i dev reg n) s = .next t ∧ t.flag (F.glbI2cCmd_busy k) = true ∧ t.fld (F.glbI2cCmd_dev k) = dev.toNat ∧
        t.fld (F.glbI2cCmd_reg k) = reg.toNat ∧ t.fld (F.glbI2cCmd_count k) = n.toNat ∧
        t.out = s.out ++ [.i2c k 1 dev.toNat reg.toNat (s.i2cBytes k (n.toNat + 1))] ∧
        FldsBut [F.glbI2cCmd_dev k, F.glbI2cCmd_reg k, F.glbI2cCmd_count k, F.glbI2cCmd_op k, F.glbI2cCmd_busy k] s t ∧ FrameBut [.regs, .out] s t) ∧
      (∃ t, exec (.i2cRead m i dev reg n) s = .next t ∧ t.flag (F.glbI2cCmd_busy k) = true ∧ t.fld (F.glbI2cCmd_dev k) = dev.toNat ∧
        t.fld (F.glbI2cCmd_reg k) = reg.toNat ∧ t.fld (F.glbI2cCmd_count k) = n.toNat ∧ t.out = s.out ++ [.i2c k 2 dev.toNat reg.toNat []] ∧
        FldsBut [F.glbI2cCmd_dev k, F.glbI2cCmd_reg k, F.glbI2cCmd_count k, F.glbI2cCmd_op k, F.glbI2cCmd_busy k] s t ∧ FrameBut [.regs, .out] s t) ∧
      (∃ t, exec (.i2cWriteByte m i dev reg) s = .next t ∧ t.flag (F.glbI2cCmd_busy k) = true ∧ t.fld (F.glbI2cCmd_dev k) = dev.toNat ∧
        t.fld (F.glbI2cCmd_reg k) = reg.toNat ∧ t.out = s.out ++ [.i2c k 3 dev.toNat reg.toNat []] ∧
        FldsBut [F.glbI2cCmd_dev k, F.glbI2cCmd_reg k, F.glbI2cCmd_op k, F.glbI2cCmd_busy k] s t ∧ FrameBut [.regs, .out] s t)) ∧
    (s.flag (F.glbI2cCmd_busy k) = false → s.flag F.glbSupSts_aux_low = true → ∃ t, exec (.i2cRead m i dev reg n) s = .next t ∧
      t.flag (F.glbI2cCmd_busy k) = true ∧ t.out = s.out ∧ t.sup = { s.sup with i2cWait := s.sup.i2cWait ++ [k] } ∧ FrameBut [.regs, .sup] s t) ∧
    (s.flag (F.glbI2cCmd_busy k) = true →
      exec (.i2cWrite m i dev reg n) s = .next (s.setFld (F.glbI2cCmd_cmd_lost k) 1) ∧
      exec (.i2cRead m i dev reg n) s = .next (s.setFld (F.glbI2cCmd_cmd_lost k) 1) ∧
      exec (.i2cWriteByte m i dev reg) s = .next (s.setFld (F.glbI2cCmd_cmd_lost k) 1))) ∧
  (∀ (i : BitVec 4) (r : BitVec 2) (d : Word) (s : State), s.flag (F.glbI2cCmd_busy i.toNat) = true → s.sup.i2cWait.contains i.toNat = false →
    let k := i.toNat
    ∃ t, exec (.i2cDone i r d) s = .next t ∧ t.fld (F.glbI2cCmd_result k) = r.toNat ∧ t.flag (F.glbI2cCmd_busy k) = false ∧
      (s.fld (F.glbI2cCmd_op k) = 2 → r = 0 → ∀ j, j < 4 → (leBytes 4 (t.fld (F.glbI2cData_data k))).getD j 0 =
        if j ≤ s.fld (F.glbI2cCmd_count k) then (leBytes 4 d.toNat).getD j 0 else (leBytes 4 (s.fld (F.glbI2cData_data k))).getD j 0) ∧
      ((s.fld (F.glbI2cCmd_op k) ≠ 2 ∨ r ≠ 0) → t.fld (F.glbI2cData_data k) = s.fld (F.glbI2cData_data k)) ∧
      FldsBut [F.glbI2cData k, F.glbI2cCmd_result k, F.glbI2cCmd_busy k, F.glbI2cCmd_op k] s t ∧ FrameBut [.regs] s t)
end

