-- ==== Sys2Proof/Laws/Table.lean ====
section
/-! SUPPORT. Laws of sparse tables: what a key reads after a write, and that a write keeps the canonical form. -/

namespace Sys2Proof.Machine

variable {α : Type}

theorem Tbl.del_cons (p : Nat × α) (r : Table α) (k : Nat) :
    Tbl.del (p :: r) k = if p.1 = k then Tbl.del r k else p :: Tbl.del r k := by
  by_cases h : p.1 = k <;> simp [Tbl.del, h]

theorem Tbl.find_del_same (t : Table α) (k : Nat) (d : α) : Tbl.find (Tbl.del t k) k d = d := by
  induction t with
  | nil => rfl
  | cons p r ih =>
    rw [Tbl.del_cons]
    split
    · exact ih
    · next h => simp [Tbl.find, h, ih]

theorem Tbl.find_del_other (t : Table α) {k j : Nat} (d : α) (h : j ≠ k) : Tbl.find (Tbl.del t k) j d = Tbl.find t j d := by
  induction t with
  | nil => rfl
  | cons p r ih =>
    rw [Tbl.del_cons]
    split
    · next hp => simp [Tbl.find, ih, show p.1 ≠ j from fun e => h (e ▸ hp)]
    · simp [Tbl.find, ih]

theorem Tbl.find_ins_same (t : Table α) (k : Nat) (d v : α) (h : ∀ p ∈ t, p.1 ≠ k) : Tbl.find (Tbl.ins t k v) k d = v := by
  induction t with
  | nil => simp [Tbl.ins, Tbl.find]
  | cons p r ih =>
    have hp : p.1 ≠ k := h p (by simp)
    have hr : ∀ q ∈ r, q.1 ≠ k := fun q hq => h q (by simp [hq])
    simp only [Tbl.ins]
    split <;> simp [Tbl.find, hp, ih hr]

theorem Tbl.find_ins_other (t : Table α) {k j : Nat} (d v : α) (h : j ≠ k) : Tbl.find (Tbl.ins t k v) j d = Tbl.find t j d := by
  induction t with
  | nil => simp [Tbl.ins, Tbl.find, h.symm]
  | cons p r ih =>
    simp only [Tbl.ins]
    split <;> simp [Tbl.find, h.symm, ih]

theorem Tbl.del_keys (t : Table α) (k : Nat) : ∀ p ∈ Tbl.del t k, p.1 ≠ k := by
  intro p hp
  simpa [Tbl.del] using (List.mem_filter.mp hp).2

theorem Tbl.mem_ins (t : Table α) (k : Nat) (v : α) (p : Nat × α) : p ∈ Tbl.ins t k v ↔ p = (k, v) ∨ p ∈ t := by
  induction t with
  | nil => simp [Tbl.ins]
  | cons q r ih =>
    simp only [Tbl.ins]
    split
    · simp
    · simp [ih, or_left_comm]

theorem Tbl.pairwise_ins (t : Table α) (k : Nat) (v : α) (h : t.Pairwise (fun p q => p.1 < q.1)) (hk : ∀ p ∈ t, p.1 ≠ k) :
    (Tbl.ins t k v).Pairwise (fun p q => p.1 < q.1) := by
  induction t with
  | nil => simp [Tbl.ins]
  | cons q r ih =>
    have hq : q.1 ≠ k := hk q (by simp)
    simp only [Tbl.ins]
    split
    · next hlt =>
      refine List.pairwise_cons.mpr ⟨?_, h⟩
      intro p hp
      rcases List.mem_cons.mp hp with rfl | hp
      · exact hlt
      · exact lt_trans hlt ((List.pairwise_cons.mp h).1 p hp)
    · next hlt =>
      refine List.pairwise_cons.mpr ⟨?_, ih (List.pairwise_cons.mp h).2 (fun p hp => hk p (by simp [hp]))⟩
      intro p hp
      rcases (Tbl.mem_ins r k v p).mp hp with rfl | hp
      · show q.1 < k; omega
      · exact (List.pairwise_cons.mp h).1 p hp

variable [DecidableEq α]

/-- A key reads the value just written to it. -/
@[simp] theorem Tbl.find_put_same (t : Table α) (k : Nat) (d v : α) : Tbl.find (Tbl.put t k d v) k d = v := by
  unfold Tbl.put
  split
  · next h => rw [Tbl.find_del_same, h]
  · exact Tbl.find_ins_same _ _ _ _ (Tbl.del_keys t k)

/-- Another key reads as before. -/
theorem Tbl.find_put_other (t : Table α) {k j : Nat} (d e v : α) (h : j ≠ k) :
    Tbl.find (Tbl.put t k d v) j e = Tbl.find t j e := by
  unfold Tbl.put
  split
  · exact Tbl.find_del_other t e h
  · rw [Tbl.find_ins_other _ _ _ h, Tbl.find_del_other t e h]

theorem Tbl.find_put (t : Table α) (k j : Nat) (d v : α) :
    Tbl.find (Tbl.put t k d v) j d = if j = k then v else Tbl.find t j d := by
  split
  · next h => subst h; simp
  · next h => exact Tbl.find_put_other t d d v h

/-- Every write keeps the canonical form. -/
theorem Tbl.wf_put (t : Table α) (d : Nat → α) (k : Nat) (v : α) (h : Tbl.wf t d = true) : Tbl.wf (Tbl.put t k (d k) v) d = true := by
  simp only [Tbl.wf, Bool.and_eq_true, decide_eq_true_eq, List.all_eq_true] at *
  obtain ⟨hp, hd⟩ := h
  have hp' : (Tbl.del t k).Pairwise (fun p q => p.1 < q.1) := hp.filter _
  have hd' : ∀ p ∈ Tbl.del t k, p.2 ≠ d p.1 := fun p m => hd p (List.mem_of_mem_filter m)
  unfold Tbl.put
  split
  · exact ⟨hp', hd'⟩
  · next hv =>
    refine ⟨Tbl.pairwise_ins _ _ _ hp' (Tbl.del_keys t k), ?_⟩
    intro p m
    rcases (Tbl.mem_ins _ k v p).mp m with rfl | m
    · exact hv
    · exact hd' p m

theorem Tbl.wf_nil (d : Nat → α) : Tbl.wf ([] : Table α) d = true := rfl

end Sys2Proof.Machine
end

