-- ==== Sys2Proof/Laws/State.lean ====
section
/-! SUPPORT. What each named operation leaves of each field of the state: one lemma for each field and each operation. -/

namespace Sys2Proof.Machine

variable (s : State)

@[simp] theorem State.setReg_pending (a : Nat) (w : Word) : (s.setReg a w).pending = s.pending := (rfl)
@[simp] theorem State.setReg_staged (a : Nat) (w : Word) : (s.setReg a w).staged = s.staged := (rfl)
@[simp] theorem State.setReg_recs (a : Nat) (w : Word) : (s.setReg a w).recs = s.recs := (rfl)
@[simp] theorem State.setReg_stagedRecs (a : Nat) (w : Word) : (s.setReg a w).stagedRecs = s.stagedRecs := (rfl)
@[simp] theorem State.setReg_stagedLog (a : Nat) (w : Word) : (s.setReg a w).stagedLog = s.stagedLog := (rfl)
@[simp] theorem State.setReg_latches (a : Nat) (w : Word) : (s.setReg a w).latches = s.latches := (rfl)
@[simp] theorem State.setReg_resp (a : Nat) (w : Word) : (s.setReg a w).resp = s.resp := (rfl)
@[simp] theorem State.setReg_freeIx (a : Nat) (w : Word) : (s.setReg a w).freeIx = s.freeIx := (rfl)
@[simp] theorem State.setReg_hostMem (a : Nat) (w : Word) : (s.setReg a w).hostMem = s.hostMem := (rfl)
@[simp] theorem State.setReg_cnt (a : Nat) (w : Word) : (s.setReg a w).cnt = s.cnt := (rfl)
@[simp] theorem State.setReg_chain (a : Nat) (w : Word) : (s.setReg a w).chain = s.chain := (rfl)
@[simp] theorem State.setReg_evq (a : Nat) (w : Word) : (s.setReg a w).evq = s.evq := (rfl)
@[simp] theorem State.setReg_mbx (a : Nat) (w : Word) : (s.setReg a w).mbx = s.mbx := (rfl)
@[simp] theorem State.setReg_qp (a : Nat) (w : Word) : (s.setReg a w).qp = s.qp := (rfl)
@[simp] theorem State.setReg_snap (a : Nat) (w : Word) : (s.setReg a w).snap = s.snap := (rfl)
@[simp] theorem State.setReg_rig (a : Nat) (w : Word) : (s.setReg a w).rig = s.rig := (rfl)
@[simp] theorem State.setReg_sup (a : Nat) (w : Word) : (s.setReg a w).sup = s.sup := (rfl)
@[simp] theorem State.setReg_tim (a : Nat) (w : Word) : (s.setReg a w).tim = s.tim := (rfl)
@[simp] theorem State.setReg_mem (a : Nat) (w : Word) : (s.setReg a w).mem = s.mem := (rfl)
@[simp] theorem State.setReg_ds (a : Nat) (w : Word) : (s.setReg a w).ds = s.ds := (rfl)
@[simp] theorem State.setReg_us (a : Nat) (w : Word) : (s.setReg a w).us = s.us := (rfl)
@[simp] theorem State.setReg_disc (a : Nat) (w : Word) : (s.setReg a w).disc = s.disc := (rfl)
@[simp] theorem State.setReg_onu (a : Nat) (w : Word) : (s.setReg a w).onu = s.onu := (rfl)
@[simp] theorem State.setReg_hal (a : Nat) (w : Word) : (s.setReg a w).hal = s.hal := (rfl)
@[simp] theorem State.setReg_prevRegs (a : Nat) (w : Word) : (s.setReg a w).prevRegs = s.prevRegs := (rfl)
@[simp] theorem State.setReg_prevRecs (a : Nat) (w : Word) : (s.setReg a w).prevRecs = s.prevRecs := (rfl)
@[simp] theorem State.setReg_prs (a : Nat) (w : Word) : (s.setReg a w).prs = s.prs := (rfl)
@[simp] theorem State.setReg_fwd (a : Nat) (w : Word) : (s.setReg a w).fwd = s.fwd := (rfl)
@[simp] theorem State.setReg_toParse (a : Nat) (w : Word) : (s.setReg a w).toParse = s.toParse := (rfl)
@[simp] theorem State.setReg_parsed (a : Nat) (w : Word) : (s.setReg a w).parsed = s.parsed := (rfl)
@[simp] theorem State.setReg_rxq (a : Nat) (w : Word) : (s.setReg a w).rxq = s.rxq := (rfl)
@[simp] theorem State.setReg_pktNo (a : Nat) (w : Word) : (s.setReg a w).pktNo = s.pktNo := (rfl)
@[simp] theorem State.setReg_mate (a : Nat) (w : Word) : (s.setReg a w).mate = s.mate := (rfl)
@[simp] theorem State.setReg_lanes (a : Nat) (w : Word) : (s.setReg a w).lanes = s.lanes := (rfl)
@[simp] theorem State.setReg_shr (a : Nat) (w : Word) : (s.setReg a w).shr = s.shr := (rfl)
@[simp] theorem State.setReg_fab (a : Nat) (w : Word) : (s.setReg a w).fab = s.fab := (rfl)
@[simp] theorem State.setReg_sht (a : Nat) (w : Word) : (s.setReg a w).sht = s.sht := (rfl)
@[simp] theorem State.setReg_fw (a : Nat) (w : Word) : (s.setReg a w).fw = s.fw := (rfl)
@[simp] theorem State.setReg_out (a : Nat) (w : Word) : (s.setReg a w).out = s.out := (rfl)

@[simp] theorem State.setReg_released_at (a : Nat) (w : Word) (x : Nat) : (s.setReg a w).released x = s.released x := (rfl)

@[simp] theorem State.setFld_pending (f : Fld) (v : Nat) : (s.setFld f v).pending = s.pending := (rfl)
@[simp] theorem State.setFld_staged (f : Fld) (v : Nat) : (s.setFld f v).staged = s.staged := (rfl)
@[simp] theorem State.setFld_recs (f : Fld) (v : Nat) : (s.setFld f v).recs = s.recs := (rfl)
@[simp] theorem State.setFld_stagedRecs (f : Fld) (v : Nat) : (s.setFld f v).stagedRecs = s.stagedRecs := (rfl)
@[simp] theorem State.setFld_stagedLog (f : Fld) (v : Nat) : (s.setFld f v).stagedLog = s.stagedLog := (rfl)
@[simp] theorem State.setFld_latches (f : Fld) (v : Nat) : (s.setFld f v).latches = s.latches := (rfl)
@[simp] theorem State.setFld_resp (f : Fld) (v : Nat) : (s.setFld f v).resp = s.resp := (rfl)
@[simp] theorem State.setFld_freeIx (f : Fld) (v : Nat) : (s.setFld f v).freeIx = s.freeIx := (rfl)
@[simp] theorem State.setFld_hostMem (f : Fld) (v : Nat) : (s.setFld f v).hostMem = s.hostMem := (rfl)
@[simp] theorem State.setFld_cnt (f : Fld) (v : Nat) : (s.setFld f v).cnt = s.cnt := (rfl)
@[simp] theorem State.setFld_chain (f : Fld) (v : Nat) : (s.setFld f v).chain = s.chain := (rfl)
@[simp] theorem State.setFld_evq (f : Fld) (v : Nat) : (s.setFld f v).evq = s.evq := (rfl)
@[simp] theorem State.setFld_mbx (f : Fld) (v : Nat) : (s.setFld f v).mbx = s.mbx := (rfl)
@[simp] theorem State.setFld_qp (f : Fld) (v : Nat) : (s.setFld f v).qp = s.qp := (rfl)
@[simp] theorem State.setFld_snap (f : Fld) (v : Nat) : (s.setFld f v).snap = s.snap := (rfl)
@[simp] theorem State.setFld_rig (f : Fld) (v : Nat) : (s.setFld f v).rig = s.rig := (rfl)
@[simp] theorem State.setFld_sup (f : Fld) (v : Nat) : (s.setFld f v).sup = s.sup := (rfl)
@[simp] theorem State.setFld_tim (f : Fld) (v : Nat) : (s.setFld f v).tim = s.tim := (rfl)
@[simp] theorem State.setFld_mem (f : Fld) (v : Nat) : (s.setFld f v).mem = s.mem := (rfl)
@[simp] theorem State.setFld_ds (f : Fld) (v : Nat) : (s.setFld f v).ds = s.ds := (rfl)
@[simp] theorem State.setFld_us (f : Fld) (v : Nat) : (s.setFld f v).us = s.us := (rfl)
@[simp] theorem State.setFld_disc (f : Fld) (v : Nat) : (s.setFld f v).disc = s.disc := (rfl)
@[simp] theorem State.setFld_onu (f : Fld) (v : Nat) : (s.setFld f v).onu = s.onu := (rfl)
@[simp] theorem State.setFld_hal (f : Fld) (v : Nat) : (s.setFld f v).hal = s.hal := (rfl)
@[simp] theorem State.setFld_prevRegs (f : Fld) (v : Nat) : (s.setFld f v).prevRegs = s.prevRegs := (rfl)
@[simp] theorem State.setFld_prevRecs (f : Fld) (v : Nat) : (s.setFld f v).prevRecs = s.prevRecs := (rfl)
@[simp] theorem State.setFld_prs (f : Fld) (v : Nat) : (s.setFld f v).prs = s.prs := (rfl)
@[simp] theorem State.setFld_fwd (f : Fld) (v : Nat) : (s.setFld f v).fwd = s.fwd := (rfl)
@[simp] theorem State.setFld_toParse (f : Fld) (v : Nat) : (s.setFld f v).toParse = s.toParse := (rfl)
@[simp] theorem State.setFld_parsed (f : Fld) (v : Nat) : (s.setFld f v).parsed = s.parsed := (rfl)
@[simp] theorem State.setFld_rxq (f : Fld) (v : Nat) : (s.setFld f v).rxq = s.rxq := (rfl)
@[simp] theorem State.setFld_pktNo (f : Fld) (v : Nat) : (s.setFld f v).pktNo = s.pktNo := (rfl)
@[simp] theorem State.setFld_mate (f : Fld) (v : Nat) : (s.setFld f v).mate = s.mate := (rfl)
@[simp] theorem State.setFld_lanes (f : Fld) (v : Nat) : (s.setFld f v).lanes = s.lanes := (rfl)
@[simp] theorem State.setFld_shr (f : Fld) (v : Nat) : (s.setFld f v).shr = s.shr := (rfl)
@[simp] theorem State.setFld_fab (f : Fld) (v : Nat) : (s.setFld f v).fab = s.fab := (rfl)
@[simp] theorem State.setFld_sht (f : Fld) (v : Nat) : (s.setFld f v).sht = s.sht := (rfl)
@[simp] theorem State.setFld_fw (f : Fld) (v : Nat) : (s.setFld f v).fw = s.fw := (rfl)
@[simp] theorem State.setFld_out (f : Fld) (v : Nat) : (s.setFld f v).out = s.out := (rfl)

@[simp] theorem State.setFld_released_at (f : Fld) (v : Nat) (x : Nat) : (s.setFld f v).released x = s.released x := (rfl)

@[simp] theorem State.tickFree_pending : (s.tickFree).pending = s.pending := (rfl)
@[simp] theorem State.tickFree_regs : (s.tickFree).regs = s.regs := (rfl)
@[simp] theorem State.tickFree_staged : (s.tickFree).staged = s.staged := (rfl)
@[simp] theorem State.tickFree_recs : (s.tickFree).recs = s.recs := (rfl)
@[simp] theorem State.tickFree_stagedRecs : (s.tickFree).stagedRecs = s.stagedRecs := (rfl)
@[simp] theorem State.tickFree_stagedLog : (s.tickFree).stagedLog = s.stagedLog := (rfl)
@[simp] theorem State.tickFree_latches : (s.tickFree).latches = s.latches := (rfl)
@[simp] theorem State.tickFree_resp : (s.tickFree).resp = s.resp := (rfl)
@[simp] theorem State.tickFree_hostMem : (s.tickFree).hostMem = s.hostMem := (rfl)
@[simp] theorem State.tickFree_cnt : (s.tickFree).cnt = s.cnt := (rfl)
@[simp] theorem State.tickFree_chain : (s.tickFree).chain = s.chain := (rfl)
@[simp] theorem State.tickFree_evq : (s.tickFree).evq = s.evq := (rfl)
@[simp] theorem State.tickFree_mbx : (s.tickFree).mbx = s.mbx := (rfl)
@[simp] theorem State.tickFree_qp : (s.tickFree).qp = s.qp := (rfl)
@[simp] theorem State.tickFree_snap : (s.tickFree).snap = s.snap := (rfl)
@[simp] theorem State.tickFree_rig : (s.tickFree).rig = s.rig := (rfl)
@[simp] theorem State.tickFree_sup : (s.tickFree).sup = s.sup := (rfl)
@[simp] theorem State.tickFree_tim : (s.tickFree).tim = s.tim := (rfl)
@[simp] theorem State.tickFree_mem : (s.tickFree).mem = s.mem := (rfl)
@[simp] theorem State.tickFree_ds : (s.tickFree).ds = s.ds := (rfl)
@[simp] theorem State.tickFree_us : (s.tickFree).us = s.us := (rfl)
@[simp] theorem State.tickFree_disc : (s.tickFree).disc = s.disc := (rfl)
@[simp] theorem State.tickFree_onu : (s.tickFree).onu = s.onu := (rfl)
@[simp] theorem State.tickFree_hal : (s.tickFree).hal = s.hal := (rfl)
@[simp] theorem State.tickFree_prevRegs : (s.tickFree).prevRegs = s.prevRegs := (rfl)
@[simp] theorem State.tickFree_prevRecs : (s.tickFree).prevRecs = s.prevRecs := (rfl)
@[simp] theorem State.tickFree_prs : (s.tickFree).prs = s.prs := (rfl)
@[simp] theorem State.tickFree_fwd : (s.tickFree).fwd = s.fwd := (rfl)
@[simp] theorem State.tickFree_toParse : (s.tickFree).toParse = s.toParse := (rfl)
@[simp] theorem State.tickFree_parsed : (s.tickFree).parsed = s.parsed := (rfl)
@[simp] theorem State.tickFree_rxq : (s.tickFree).rxq = s.rxq := (rfl)
@[simp] theorem State.tickFree_pktNo : (s.tickFree).pktNo = s.pktNo := (rfl)
@[simp] theorem State.tickFree_mate : (s.tickFree).mate = s.mate := (rfl)
@[simp] theorem State.tickFree_lanes : (s.tickFree).lanes = s.lanes := (rfl)
@[simp] theorem State.tickFree_shr : (s.tickFree).shr = s.shr := (rfl)
@[simp] theorem State.tickFree_fab : (s.tickFree).fab = s.fab := (rfl)
@[simp] theorem State.tickFree_sht : (s.tickFree).sht = s.sht := (rfl)
@[simp] theorem State.tickFree_fw : (s.tickFree).fw = s.fw := (rfl)
@[simp] theorem State.tickFree_out : (s.tickFree).out = s.out := (rfl)

@[simp] theorem State.tickFree_reg_at (x : Nat) : (s.tickFree).reg x = s.reg x := (rfl)
@[simp] theorem State.tickFree_fld_at (x : Fld) : (s.tickFree).fld x = s.fld x := (rfl)
@[simp] theorem State.tickFree_flag_at (x : Fld) : (s.tickFree).flag x = s.flag x := (rfl)
@[simp] theorem State.tickFree_released_at (x : Nat) : (s.tickFree).released x = s.released x := (rfl)

@[simp] theorem State.emit_pending (o : Output) : (s.emit o).pending = s.pending := (rfl)
@[simp] theorem State.emit_regs (o : Output) : (s.emit o).regs = s.regs := (rfl)
@[simp] theorem State.emit_staged (o : Output) : (s.emit o).staged = s.staged := (rfl)
@[simp] theorem State.emit_recs (o : Output) : (s.emit o).recs = s.recs := (rfl)
@[simp] theorem State.emit_stagedRecs (o : Output) : (s.emit o).stagedRecs = s.stagedRecs := (rfl)
@[simp] theorem State.emit_stagedLog (o : Output) : (s.emit o).stagedLog = s.stagedLog := (rfl)
@[simp] theorem State.emit_latches (o : Output) : (s.emit o).latches = s.latches := (rfl)
@[simp] theorem State.emit_resp (o : Output) : (s.emit o).resp = s.resp := (rfl)
@[simp] theorem State.emit_freeIx (o : Output) : (s.emit o).freeIx = s.freeIx := (rfl)
@[simp] theorem State.emit_hostMem (o : Output) : (s.emit o).hostMem = s.hostMem := (rfl)
@[simp] theorem State.emit_cnt (o : Output) : (s.emit o).cnt = s.cnt := (rfl)
@[simp] theorem State.emit_chain (o : Output) : (s.emit o).chain = s.chain := (rfl)
@[simp] theorem State.emit_evq (o : Output) : (s.emit o).evq = s.evq := (rfl)
@[simp] theorem State.emit_mbx (o : Output) : (s.emit o).mbx = s.mbx := (rfl)
@[simp] theorem State.emit_qp (o : Output) : (s.emit o).qp = s.qp := (rfl)
@[simp] theorem State.emit_snap (o : Output) : (s.emit o).snap = s.snap := (rfl)
@[simp] theorem State.emit_rig (o : Output) : (s.emit o).rig = s.rig := (rfl)
@[simp] theorem State.emit_sup (o : Output) : (s.emit o).sup = s.sup := (rfl)
@[simp] theorem State.emit_tim (o : Output) : (s.emit o).tim = s.tim := (rfl)
@[simp] theorem State.emit_mem (o : Output) : (s.emit o).mem = s.mem := (rfl)
@[simp] theorem State.emit_ds (o : Output) : (s.emit o).ds = s.ds := (rfl)
@[simp] theorem State.emit_us (o : Output) : (s.emit o).us = s.us := (rfl)
@[simp] theorem State.emit_disc (o : Output) : (s.emit o).disc = s.disc := (rfl)
@[simp] theorem State.emit_onu (o : Output) : (s.emit o).onu = s.onu := (rfl)
@[simp] theorem State.emit_hal (o : Output) : (s.emit o).hal = s.hal := (rfl)
@[simp] theorem State.emit_prevRegs (o : Output) : (s.emit o).prevRegs = s.prevRegs := (rfl)
@[simp] theorem State.emit_prevRecs (o : Output) : (s.emit o).prevRecs = s.prevRecs := (rfl)
@[simp] theorem State.emit_prs (o : Output) : (s.emit o).prs = s.prs := (rfl)
@[simp] theorem State.emit_fwd (o : Output) : (s.emit o).fwd = s.fwd := (rfl)
@[simp] theorem State.emit_toParse (o : Output) : (s.emit o).toParse = s.toParse := (rfl)
@[simp] theorem State.emit_parsed (o : Output) : (s.emit o).parsed = s.parsed := (rfl)
@[simp] theorem State.emit_rxq (o : Output) : (s.emit o).rxq = s.rxq := (rfl)
@[simp] theorem State.emit_pktNo (o : Output) : (s.emit o).pktNo = s.pktNo := (rfl)
@[simp] theorem State.emit_mate (o : Output) : (s.emit o).mate = s.mate := (rfl)
@[simp] theorem State.emit_lanes (o : Output) : (s.emit o).lanes = s.lanes := (rfl)
@[simp] theorem State.emit_shr (o : Output) : (s.emit o).shr = s.shr := (rfl)
@[simp] theorem State.emit_fab (o : Output) : (s.emit o).fab = s.fab := (rfl)
@[simp] theorem State.emit_sht (o : Output) : (s.emit o).sht = s.sht := (rfl)
@[simp] theorem State.emit_fw (o : Output) : (s.emit o).fw = s.fw := (rfl)

@[simp] theorem State.emit_reg_at (o : Output) (x : Nat) : (s.emit o).reg x = s.reg x := (rfl)
@[simp] theorem State.emit_fld_at (o : Output) (x : Fld) : (s.emit o).fld x = s.fld x := (rfl)
@[simp] theorem State.emit_flag_at (o : Output) (x : Fld) : (s.emit o).flag x = s.flag x := (rfl)
@[simp] theorem State.emit_released_at (o : Output) (x : Nat) : (s.emit o).released x = s.released x := (rfl)

@[simp] theorem State.tell_pending (k c : Nat) (ws : List Nat) : (s.tell k c ws).pending = s.pending := (rfl)
@[simp] theorem State.tell_regs (k c : Nat) (ws : List Nat) : (s.tell k c ws).regs = s.regs := (rfl)
@[simp] theorem State.tell_staged (k c : Nat) (ws : List Nat) : (s.tell k c ws).staged = s.staged := (rfl)
@[simp] theorem State.tell_recs (k c : Nat) (ws : List Nat) : (s.tell k c ws).recs = s.recs := (rfl)
@[simp] theorem State.tell_stagedRecs (k c : Nat) (ws : List Nat) : (s.tell k c ws).stagedRecs = s.stagedRecs := (rfl)
@[simp] theorem State.tell_stagedLog (k c : Nat) (ws : List Nat) : (s.tell k c ws).stagedLog = s.stagedLog := (rfl)
@[simp] theorem State.tell_latches (k c : Nat) (ws : List Nat) : (s.tell k c ws).latches = s.latches := (rfl)
@[simp] theorem State.tell_resp (k c : Nat) (ws : List Nat) : (s.tell k c ws).resp = s.resp := (rfl)
@[simp] theorem State.tell_freeIx (k c : Nat) (ws : List Nat) : (s.tell k c ws).freeIx = s.freeIx := (rfl)
@[simp] theorem State.tell_hostMem (k c : Nat) (ws : List Nat) : (s.tell k c ws).hostMem = s.hostMem := (rfl)
@[simp] theorem State.tell_cnt (k c : Nat) (ws : List Nat) : (s.tell k c ws).cnt = s.cnt := (rfl)
@[simp] theorem State.tell_chain (k c : Nat) (ws : List Nat) : (s.tell k c ws).chain = s.chain := (rfl)
@[simp] theorem State.tell_evq (k c : Nat) (ws : List Nat) : (s.tell k c ws).evq = s.evq := (rfl)
@[simp] theorem State.tell_mbx (k c : Nat) (ws : List Nat) : (s.tell k c ws).mbx = s.mbx := (rfl)
@[simp] theorem State.tell_qp (k c : Nat) (ws : List Nat) : (s.tell k c ws).qp = s.qp := (rfl)
@[simp] theorem State.tell_snap (k c : Nat) (ws : List Nat) : (s.tell k c ws).snap = s.snap := (rfl)
@[simp] theorem State.tell_rig (k c : Nat) (ws : List Nat) : (s.tell k c ws).rig = s.rig := (rfl)
@[simp] theorem State.tell_sup (k c : Nat) (ws : List Nat) : (s.tell k c ws).sup = s.sup := (rfl)
@[simp] theorem State.tell_tim (k c : Nat) (ws : List Nat) : (s.tell k c ws).tim = s.tim := (rfl)
@[simp] theorem State.tell_mem (k c : Nat) (ws : List Nat) : (s.tell k c ws).mem = s.mem := (rfl)
@[simp] theorem State.tell_ds (k c : Nat) (ws : List Nat) : (s.tell k c ws).ds = s.ds := (rfl)
@[simp] theorem State.tell_us (k c : Nat) (ws : List Nat) : (s.tell k c ws).us = s.us := (rfl)
@[simp] theorem State.tell_disc (k c : Nat) (ws : List Nat) : (s.tell k c ws).disc = s.disc := (rfl)
@[simp] theorem State.tell_onu (k c : Nat) (ws : List Nat) : (s.tell k c ws).onu = s.onu := (rfl)
@[simp] theorem State.tell_hal (k c : Nat) (ws : List Nat) : (s.tell k c ws).hal = s.hal := (rfl)
@[simp] theorem State.tell_prevRegs (k c : Nat) (ws : List Nat) : (s.tell k c ws).prevRegs = s.prevRegs := (rfl)
@[simp] theorem State.tell_prevRecs (k c : Nat) (ws : List Nat) : (s.tell k c ws).prevRecs = s.prevRecs := (rfl)
@[simp] theorem State.tell_prs (k c : Nat) (ws : List Nat) : (s.tell k c ws).prs = s.prs := (rfl)
@[simp] theorem State.tell_fwd (k c : Nat) (ws : List Nat) : (s.tell k c ws).fwd = s.fwd := (rfl)
@[simp] theorem State.tell_toParse (k c : Nat) (ws : List Nat) : (s.tell k c ws).toParse = s.toParse := (rfl)
@[simp] theorem State.tell_parsed (k c : Nat) (ws : List Nat) : (s.tell k c ws).parsed = s.parsed := (rfl)
@[simp] theorem State.tell_rxq (k c : Nat) (ws : List Nat) : (s.tell k c ws).rxq = s.rxq := (rfl)
@[simp] theorem State.tell_pktNo (k c : Nat) (ws : List Nat) : (s.tell k c ws).pktNo = s.pktNo := (rfl)
@[simp] theorem State.tell_mate (k c : Nat) (ws : List Nat) : (s.tell k c ws).mate = s.mate := (rfl)
@[simp] theorem State.tell_lanes (k c : Nat) (ws : List Nat) : (s.tell k c ws).lanes = s.lanes := (rfl)
@[simp] theorem State.tell_shr (k c : Nat) (ws : List Nat) : (s.tell k c ws).shr = s.shr := (rfl)
@[simp] theorem State.tell_fab (k c : Nat) (ws : List Nat) : (s.tell k c ws).fab = s.fab := (rfl)
@[simp] theorem State.tell_sht (k c : Nat) (ws : List Nat) : (s.tell k c ws).sht = s.sht := (rfl)
@[simp] theorem State.tell_out (k c : Nat) (ws : List Nat) : (s.tell k c ws).out = s.out := (rfl)

@[simp] theorem State.tell_reg_at (k c : Nat) (ws : List Nat) (x : Nat) : (s.tell k c ws).reg x = s.reg x := (rfl)
@[simp] theorem State.tell_fld_at (k c : Nat) (ws : List Nat) (x : Fld) : (s.tell k c ws).fld x = s.fld x := (rfl)
@[simp] theorem State.tell_flag_at (k c : Nat) (ws : List Nat) (x : Fld) : (s.tell k c ws).flag x = s.flag x := (rfl)
@[simp] theorem State.tell_released_at (k c : Nat) (ws : List Nat) (x : Nat) : (s.tell k c ws).released x = s.released x := (rfl)

@[simp] theorem State.reply_pending (d : List Nat) : (s.reply d).pending = s.pending := (rfl)
@[simp] theorem State.reply_regs (d : List Nat) : (s.reply d).regs = s.regs := (rfl)
@[simp] theorem State.reply_staged (d : List Nat) : (s.reply d).staged = s.staged := (rfl)
@[simp] theorem State.reply_recs (d : List Nat) : (s.reply d).recs = s.recs := (rfl)
@[simp] theorem State.reply_stagedRecs (d : List Nat) : (s.reply d).stagedRecs = s.stagedRecs := (rfl)
@[simp] theorem State.reply_stagedLog (d : List Nat) : (s.reply d).stagedLog = s.stagedLog := (rfl)
@[simp] theorem State.reply_latches (d : List Nat) : (s.reply d).latches = s.latches := (rfl)
@[simp] theorem State.reply_freeIx (d : List Nat) : (s.reply d).freeIx = s.freeIx := (rfl)
@[simp] theorem State.reply_hostMem (d : List Nat) : (s.reply d).hostMem = s.hostMem := (rfl)
@[simp] theorem State.reply_cnt (d : List Nat) : (s.reply d).cnt = s.cnt := (rfl)
@[simp] theorem State.reply_chain (d : List Nat) : (s.reply d).chain = s.chain := (rfl)
@[simp] theorem State.reply_evq (d : List Nat) : (s.reply d).evq = s.evq := (rfl)
@[simp] theorem State.reply_mbx (d : List Nat) : (s.reply d).mbx = s.mbx := (rfl)
@[simp] theorem State.reply_qp (d : List Nat) : (s.reply d).qp = s.qp := (rfl)
@[simp] theorem State.reply_snap (d : List Nat) : (s.reply d).snap = s.snap := (rfl)
@[simp] theorem State.reply_rig (d : List Nat) : (s.reply d).rig = s.rig := (rfl)
@[simp] theorem State.reply_sup (d : List Nat) : (s.reply d).sup = s.sup := (rfl)
@[simp] theorem State.reply_tim (d : List Nat) : (s.reply d).tim = s.tim := (rfl)
@[simp] theorem State.reply_mem (d : List Nat) : (s.reply d).mem = s.mem := (rfl)
@[simp] theorem State.reply_ds (d : List Nat) : (s.reply d).ds = s.ds := (rfl)
@[simp] theorem State.reply_us (d : List Nat) : (s.reply d).us = s.us := (rfl)
@[simp] theorem State.reply_disc (d : List Nat) : (s.reply d).disc = s.disc := (rfl)
@[simp] theorem State.reply_onu (d : List Nat) : (s.reply d).onu = s.onu := (rfl)
@[simp] theorem State.reply_hal (d : List Nat) : (s.reply d).hal = s.hal := (rfl)
@[simp] theorem State.reply_prevRegs (d : List Nat) : (s.reply d).prevRegs = s.prevRegs := (rfl)
@[simp] theorem State.reply_prevRecs (d : List Nat) : (s.reply d).prevRecs = s.prevRecs := (rfl)
@[simp] theorem State.reply_prs (d : List Nat) : (s.reply d).prs = s.prs := (rfl)
@[simp] theorem State.reply_fwd (d : List Nat) : (s.reply d).fwd = s.fwd := (rfl)
@[simp] theorem State.reply_toParse (d : List Nat) : (s.reply d).toParse = s.toParse := (rfl)
@[simp] theorem State.reply_parsed (d : List Nat) : (s.reply d).parsed = s.parsed := (rfl)
@[simp] theorem State.reply_rxq (d : List Nat) : (s.reply d).rxq = s.rxq := (rfl)
@[simp] theorem State.reply_pktNo (d : List Nat) : (s.reply d).pktNo = s.pktNo := (rfl)
@[simp] theorem State.reply_mate (d : List Nat) : (s.reply d).mate = s.mate := (rfl)
@[simp] theorem State.reply_lanes (d : List Nat) : (s.reply d).lanes = s.lanes := (rfl)
@[simp] theorem State.reply_shr (d : List Nat) : (s.reply d).shr = s.shr := (rfl)
@[simp] theorem State.reply_fab (d : List Nat) : (s.reply d).fab = s.fab := (rfl)
@[simp] theorem State.reply_sht (d : List Nat) : (s.reply d).sht = s.sht := (rfl)
@[simp] theorem State.reply_fw (d : List Nat) : (s.reply d).fw = s.fw := (rfl)
@[simp] theorem State.reply_out (d : List Nat) : (s.reply d).out = s.out := (rfl)

@[simp] theorem State.reply_reg_at (d : List Nat) (x : Nat) : (s.reply d).reg x = s.reg x := (rfl)
@[simp] theorem State.reply_fld_at (d : List Nat) (x : Fld) : (s.reply d).fld x = s.fld x := (rfl)
@[simp] theorem State.reply_flag_at (d : List Nat) (x : Fld) : (s.reply d).flag x = s.flag x := (rfl)
@[simp] theorem State.reply_released_at (d : List Nat) (x : Nat) : (s.reply d).released x = s.released x := (rfl)

@[simp] theorem State.latch_pending (m : Master) (a v : Nat) : (s.latch m a v).pending = s.pending := (rfl)
@[simp] theorem State.latch_regs (m : Master) (a v : Nat) : (s.latch m a v).regs = s.regs := (rfl)
@[simp] theorem State.latch_staged (m : Master) (a v : Nat) : (s.latch m a v).staged = s.staged := (rfl)
@[simp] theorem State.latch_recs (m : Master) (a v : Nat) : (s.latch m a v).recs = s.recs := (rfl)
@[simp] theorem State.latch_stagedRecs (m : Master) (a v : Nat) : (s.latch m a v).stagedRecs = s.stagedRecs := (rfl)
@[simp] theorem State.latch_stagedLog (m : Master) (a v : Nat) : (s.latch m a v).stagedLog = s.stagedLog := (rfl)
@[simp] theorem State.latch_resp (m : Master) (a v : Nat) : (s.latch m a v).resp = s.resp := (rfl)
@[simp] theorem State.latch_freeIx (m : Master) (a v : Nat) : (s.latch m a v).freeIx = s.freeIx := (rfl)
@[simp] theorem State.latch_hostMem (m : Master) (a v : Nat) : (s.latch m a v).hostMem = s.hostMem := (rfl)
@[simp] theorem State.latch_cnt (m : Master) (a v : Nat) : (s.latch m a v).cnt = s.cnt := (rfl)
@[simp] theorem State.latch_chain (m : Master) (a v : Nat) : (s.latch m a v).chain = s.chain := (rfl)
@[simp] theorem State.latch_evq (m : Master) (a v : Nat) : (s.latch m a v).evq = s.evq := (rfl)
@[simp] theorem State.latch_mbx (m : Master) (a v : Nat) : (s.latch m a v).mbx = s.mbx := (rfl)
@[simp] theorem State.latch_qp (m : Master) (a v : Nat) : (s.latch m a v).qp = s.qp := (rfl)
@[simp] theorem State.latch_snap (m : Master) (a v : Nat) : (s.latch m a v).snap = s.snap := (rfl)
@[simp] theorem State.latch_rig (m : Master) (a v : Nat) : (s.latch m a v).rig = s.rig := (rfl)
@[simp] theorem State.latch_sup (m : Master) (a v : Nat) : (s.latch m a v).sup = s.sup := (rfl)
@[simp] theorem State.latch_tim (m : Master) (a v : Nat) : (s.latch m a v).tim = s.tim := (rfl)
@[simp] theorem State.latch_mem (m : Master) (a v : Nat) : (s.latch m a v).mem = s.mem := (rfl)
@[simp] theorem State.latch_ds (m : Master) (a v : Nat) : (s.latch m a v).ds = s.ds := (rfl)
@[simp] theorem State.latch_us (m : Master) (a v : Nat) : (s.latch m a v).us = s.us := (rfl)
@[simp] theorem State.latch_disc (m : Master) (a v : Nat) : (s.latch m a v).disc = s.disc := (rfl)
@[simp] theorem State.latch_onu (m : Master) (a v : Nat) : (s.latch m a v).onu = s.onu := (rfl)
@[simp] theorem State.latch_hal (m : Master) (a v : Nat) : (s.latch m a v).hal = s.hal := (rfl)
@[simp] theorem State.latch_prevRegs (m : Master) (a v : Nat) : (s.latch m a v).prevRegs = s.prevRegs := (rfl)
@[simp] theorem State.latch_prevRecs (m : Master) (a v : Nat) : (s.latch m a v).prevRecs = s.prevRecs := (rfl)
@[simp] theorem State.latch_prs (m : Master) (a v : Nat) : (s.latch m a v).prs = s.prs := (rfl)
@[simp] theorem State.latch_fwd (m : Master) (a v : Nat) : (s.latch m a v).fwd = s.fwd := (rfl)
@[simp] theorem State.latch_toParse (m : Master) (a v : Nat) : (s.latch m a v).toParse = s.toParse := (rfl)
@[simp] theorem State.latch_parsed (m : Master) (a v : Nat) : (s.latch m a v).parsed = s.parsed := (rfl)
@[simp] theorem State.latch_rxq (m : Master) (a v : Nat) : (s.latch m a v).rxq = s.rxq := (rfl)
@[simp] theorem State.latch_pktNo (m : Master) (a v : Nat) : (s.latch m a v).pktNo = s.pktNo := (rfl)
@[simp] theorem State.latch_mate (m : Master) (a v : Nat) : (s.latch m a v).mate = s.mate := (rfl)
@[simp] theorem State.latch_lanes (m : Master) (a v : Nat) : (s.latch m a v).lanes = s.lanes := (rfl)
@[simp] theorem State.latch_shr (m : Master) (a v : Nat) : (s.latch m a v).shr = s.shr := (rfl)
@[simp] theorem State.latch_fab (m : Master) (a v : Nat) : (s.latch m a v).fab = s.fab := (rfl)
@[simp] theorem State.latch_sht (m : Master) (a v : Nat) : (s.latch m a v).sht = s.sht := (rfl)
@[simp] theorem State.latch_fw (m : Master) (a v : Nat) : (s.latch m a v).fw = s.fw := (rfl)
@[simp] theorem State.latch_out (m : Master) (a v : Nat) : (s.latch m a v).out = s.out := (rfl)

@[simp] theorem State.latch_reg_at (m : Master) (a v : Nat) (x : Nat) : (s.latch m a v).reg x = s.reg x := (rfl)
@[simp] theorem State.latch_fld_at (m : Master) (a v : Nat) (x : Fld) : (s.latch m a v).fld x = s.fld x := (rfl)
@[simp] theorem State.latch_flag_at (m : Master) (a v : Nat) (x : Fld) : (s.latch m a v).flag x = s.flag x := (rfl)
@[simp] theorem State.latch_released_at (m : Master) (a v : Nat) (x : Nat) : (s.latch m a v).released x = s.released x := (rfl)

@[simp] theorem State.setRecord_pending (k i : Nat) (ws : List Nat) : (s.setRecord k i ws).pending = s.pending := (rfl)
@[simp] theorem State.setRecord_regs (k i : Nat) (ws : List Nat) : (s.setRecord k i ws).regs = s.regs := (rfl)
@[simp] theorem State.setRecord_staged (k i : Nat) (ws : List Nat) : (s.setRecord k i ws).staged = s.staged := (rfl)
@[simp] theorem State.setRecord_stagedRecs (k i : Nat) (ws : List Nat) : (s.setRecord k i ws).stagedRecs = s.stagedRecs := (rfl)
@[simp] theorem State.setRecord_stagedLog (k i : Nat) (ws : List Nat) : (s.setRecord k i ws).stagedLog = s.stagedLog := (rfl)
@[simp] theorem State.setRecord_latches (k i : Nat) (ws : List Nat) : (s.setRecord k i ws).latches = s.latches := (rfl)
@[simp] theorem State.setRecord_resp (k i : Nat) (ws : List Nat) : (s.setRecord k i ws).resp = s.resp := (rfl)
@[simp] theorem State.setRecord_freeIx (k i : Nat) (ws : List Nat) : (s.setRecord k i ws).freeIx = s.freeIx := (rfl)
@[simp] theorem State.setRecord_hostMem (k i : Nat) (ws : List Nat) : (s.setRecord k i ws).hostMem = s.hostMem := (rfl)
@[simp] theorem State.setRecord_cnt (k i : Nat) (ws : List Nat) : (s.setRecord k i ws).cnt = s.cnt := (rfl)
@[simp] theorem State.setRecord_chain (k i : Nat) (ws : List Nat) : (s.setRecord k i ws).chain = s.chain := (rfl)
@[simp] theorem State.setRecord_evq (k i : Nat) (ws : List Nat) : (s.setRecord k i ws).evq = s.evq := (rfl)
@[simp] theorem State.setRecord_mbx (k i : Nat) (ws : List Nat) : (s.setRecord k i ws).mbx = s.mbx := (rfl)
@[simp] theorem State.setRecord_qp (k i : Nat) (ws : List Nat) : (s.setRecord k i ws).qp = s.qp := (rfl)
@[simp] theorem State.setRecord_snap (k i : Nat) (ws : List Nat) : (s.setRecord k i ws).snap = s.snap := (rfl)
@[simp] theorem State.setRecord_rig (k i : Nat) (ws : List Nat) : (s.setRecord k i ws).rig = s.rig := (rfl)
@[simp] theorem State.setRecord_sup (k i : Nat) (ws : List Nat) : (s.setRecord k i ws).sup = s.sup := (rfl)
@[simp] theorem State.setRecord_tim (k i : Nat) (ws : List Nat) : (s.setRecord k i ws).tim = s.tim := (rfl)
@[simp] theorem State.setRecord_mem (k i : Nat) (ws : List Nat) : (s.setRecord k i ws).mem = s.mem := (rfl)
@[simp] theorem State.setRecord_ds (k i : Nat) (ws : List Nat) : (s.setRecord k i ws).ds = s.ds := (rfl)
@[simp] theorem State.setRecord_us (k i : Nat) (ws : List Nat) : (s.setRecord k i ws).us = s.us := (rfl)
@[simp] theorem State.setRecord_disc (k i : Nat) (ws : List Nat) : (s.setRecord k i ws).disc = s.disc := (rfl)
@[simp] theorem State.setRecord_onu (k i : Nat) (ws : List Nat) : (s.setRecord k i ws).onu = s.onu := (rfl)
@[simp] theorem State.setRecord_hal (k i : Nat) (ws : List Nat) : (s.setRecord k i ws).hal = s.hal := (rfl)
@[simp] theorem State.setRecord_prevRegs (k i : Nat) (ws : List Nat) : (s.setRecord k i ws).prevRegs = s.prevRegs := (rfl)
@[simp] theorem State.setRecord_prevRecs (k i : Nat) (ws : List Nat) : (s.setRecord k i ws).prevRecs = s.prevRecs := (rfl)
@[simp] theorem State.setRecord_prs (k i : Nat) (ws : List Nat) : (s.setRecord k i ws).prs = s.prs := (rfl)
@[simp] theorem State.setRecord_fwd (k i : Nat) (ws : List Nat) : (s.setRecord k i ws).fwd = s.fwd := (rfl)
@[simp] theorem State.setRecord_toParse (k i : Nat) (ws : List Nat) : (s.setRecord k i ws).toParse = s.toParse := (rfl)
@[simp] theorem State.setRecord_parsed (k i : Nat) (ws : List Nat) : (s.setRecord k i ws).parsed = s.parsed := (rfl)
@[simp] theorem State.setRecord_rxq (k i : Nat) (ws : List Nat) : (s.setRecord k i ws).rxq = s.rxq := (rfl)
@[simp] theorem State.setRecord_pktNo (k i : Nat) (ws : List Nat) : (s.setRecord k i ws).pktNo = s.pktNo := (rfl)
@[simp] theorem State.setRecord_mate (k i : Nat) (ws : List Nat) : (s.setRecord k i ws).mate = s.mate := (rfl)
@[simp] theorem State.setRecord_lanes (k i : Nat) (ws : List Nat) : (s.setRecord k i ws).lanes = s.lanes := (rfl)
@[simp] theorem State.setRecord_shr (k i : Nat) (ws : List Nat) : (s.setRecord k i ws).shr = s.shr := (rfl)
@[simp] theorem State.setRecord_fab (k i : Nat) (ws : List Nat) : (s.setRecord k i ws).fab = s.fab := (rfl)
@[simp] theorem State.setRecord_sht (k i : Nat) (ws : List Nat) : (s.setRecord k i ws).sht = s.sht := (rfl)
@[simp] theorem State.setRecord_fw (k i : Nat) (ws : List Nat) : (s.setRecord k i ws).fw = s.fw := (rfl)
@[simp] theorem State.setRecord_out (k i : Nat) (ws : List Nat) : (s.setRecord k i ws).out = s.out := (rfl)

@[simp] theorem State.setRecord_reg_at (k i : Nat) (ws : List Nat) (x : Nat) : (s.setRecord k i ws).reg x = s.reg x := (rfl)
@[simp] theorem State.setRecord_fld_at (k i : Nat) (ws : List Nat) (x : Fld) : (s.setRecord k i ws).fld x = s.fld x := (rfl)
@[simp] theorem State.setRecord_flag_at (k i : Nat) (ws : List Nat) (x : Fld) : (s.setRecord k i ws).flag x = s.flag x := (rfl)
@[simp] theorem State.setRecord_released_at (k i : Nat) (ws : List Nat) (x : Nat) : (s.setRecord k i ws).released x = s.released x := (rfl)

@[simp] theorem State.setPoison_pending (m i : Nat) (b : Bool) : (s.setPoison m i b).pending = s.pending := (rfl)
@[simp] theorem State.setPoison_regs (m i : Nat) (b : Bool) : (s.setPoison m i b).regs = s.regs := (rfl)
@[simp] theorem State.setPoison_staged (m i : Nat) (b : Bool) : (s.setPoison m i b).staged = s.staged := (rfl)
@[simp] theorem State.setPoison_recs (m i : Nat) (b : Bool) : (s.setPoison m i b).recs = s.recs := (rfl)
@[simp] theorem State.setPoison_stagedRecs (m i : Nat) (b : Bool) : (s.setPoison m i b).stagedRecs = s.stagedRecs := (rfl)
@[simp] theorem State.setPoison_stagedLog (m i : Nat) (b : Bool) : (s.setPoison m i b).stagedLog = s.stagedLog := (rfl)
@[simp] theorem State.setPoison_latches (m i : Nat) (b : Bool) : (s.setPoison m i b).latches = s.latches := (rfl)
@[simp] theorem State.setPoison_resp (m i : Nat) (b : Bool) : (s.setPoison m i b).resp = s.resp := (rfl)
@[simp] theorem State.setPoison_freeIx (m i : Nat) (b : Bool) : (s.setPoison m i b).freeIx = s.freeIx := (rfl)
@[simp] theorem State.setPoison_hostMem (m i : Nat) (b : Bool) : (s.setPoison m i b).hostMem = s.hostMem := (rfl)
@[simp] theorem State.setPoison_cnt (m i : Nat) (b : Bool) : (s.setPoison m i b).cnt = s.cnt := (rfl)
@[simp] theorem State.setPoison_chain (m i : Nat) (b : Bool) : (s.setPoison m i b).chain = s.chain := (rfl)
@[simp] theorem State.setPoison_evq (m i : Nat) (b : Bool) : (s.setPoison m i b).evq = s.evq := (rfl)
@[simp] theorem State.setPoison_mbx (m i : Nat) (b : Bool) : (s.setPoison m i b).mbx = s.mbx := (rfl)
@[simp] theorem State.setPoison_qp (m i : Nat) (b : Bool) : (s.setPoison m i b).qp = s.qp := (rfl)
@[simp] theorem State.setPoison_snap (m i : Nat) (b : Bool) : (s.setPoison m i b).snap = s.snap := (rfl)
@[simp] theorem State.setPoison_rig (m i : Nat) (b : Bool) : (s.setPoison m i b).rig = s.rig := (rfl)
@[simp] theorem State.setPoison_sup (m i : Nat) (b : Bool) : (s.setPoison m i b).sup = s.sup := (rfl)
@[simp] theorem State.setPoison_tim (m i : Nat) (b : Bool) : (s.setPoison m i b).tim = s.tim := (rfl)
@[simp] theorem State.setPoison_ds (m i : Nat) (b : Bool) : (s.setPoison m i b).ds = s.ds := (rfl)
@[simp] theorem State.setPoison_us (m i : Nat) (b : Bool) : (s.setPoison m i b).us = s.us := (rfl)
@[simp] theorem State.setPoison_disc (m i : Nat) (b : Bool) : (s.setPoison m i b).disc = s.disc := (rfl)
@[simp] theorem State.setPoison_onu (m i : Nat) (b : Bool) : (s.setPoison m i b).onu = s.onu := (rfl)
@[simp] theorem State.setPoison_hal (m i : Nat) (b : Bool) : (s.setPoison m i b).hal = s.hal := (rfl)
@[simp] theorem State.setPoison_prevRegs (m i : Nat) (b : Bool) : (s.setPoison m i b).prevRegs = s.prevRegs := (rfl)
@[simp] theorem State.setPoison_prevRecs (m i : Nat) (b : Bool) : (s.setPoison m i b).prevRecs = s.prevRecs := (rfl)
@[simp] theorem State.setPoison_prs (m i : Nat) (b : Bool) : (s.setPoison m i b).prs = s.prs := (rfl)
@[simp] theorem State.setPoison_fwd (m i : Nat) (b : Bool) : (s.setPoison m i b).fwd = s.fwd := (rfl)
@[simp] theorem State.setPoison_toParse (m i : Nat) (b : Bool) : (s.setPoison m i b).toParse = s.toParse := (rfl)
@[simp] theorem State.setPoison_parsed (m i : Nat) (b : Bool) : (s.setPoison m i b).parsed = s.parsed := (rfl)
@[simp] theorem State.setPoison_rxq (m i : Nat) (b : Bool) : (s.setPoison m i b).rxq = s.rxq := (rfl)
@[simp] theorem State.setPoison_pktNo (m i : Nat) (b : Bool) : (s.setPoison m i b).pktNo = s.pktNo := (rfl)
@[simp] theorem State.setPoison_mate (m i : Nat) (b : Bool) : (s.setPoison m i b).mate = s.mate := (rfl)
@[simp] theorem State.setPoison_lanes (m i : Nat) (b : Bool) : (s.setPoison m i b).lanes = s.lanes := (rfl)
@[simp] theorem State.setPoison_shr (m i : Nat) (b : Bool) : (s.setPoison m i b).shr = s.shr := (rfl)
@[simp] theorem State.setPoison_fab (m i : Nat) (b : Bool) : (s.setPoison m i b).fab = s.fab := (rfl)
@[simp] theorem State.setPoison_sht (m i : Nat) (b : Bool) : (s.setPoison m i b).sht = s.sht := (rfl)
@[simp] theorem State.setPoison_fw (m i : Nat) (b : Bool) : (s.setPoison m i b).fw = s.fw := (rfl)
@[simp] theorem State.setPoison_out (m i : Nat) (b : Bool) : (s.setPoison m i b).out = s.out := (rfl)

@[simp] theorem State.setPoison_reg_at (m i : Nat) (b : Bool) (x : Nat) : (s.setPoison m i b).reg x = s.reg x := (rfl)
@[simp] theorem State.setPoison_fld_at (m i : Nat) (b : Bool) (x : Fld) : (s.setPoison m i b).fld x = s.fld x := (rfl)
@[simp] theorem State.setPoison_flag_at (m i : Nat) (b : Bool) (x : Fld) : (s.setPoison m i b).flag x = s.flag x := (rfl)
@[simp] theorem State.setPoison_released_at (m i : Nat) (b : Bool) (x : Nat) : (s.setPoison m i b).released x = s.released x := (rfl)

@[simp] theorem State.countAt_pending (c : Ctr) (o n : Nat) : (s.countAt c o n).pending = s.pending := by unfold State.countAt; dsimp only; split <;> rfl
@[simp] theorem State.countAt_regs (c : Ctr) (o n : Nat) : (s.countAt c o n).regs = s.regs := by unfold State.countAt; dsimp only; split <;> rfl
@[simp] theorem State.countAt_staged (c : Ctr) (o n : Nat) : (s.countAt c o n).staged = s.staged := by unfold State.countAt; dsimp only; split <;> rfl
@[simp] theorem State.countAt_recs (c : Ctr) (o n : Nat) : (s.countAt c o n).recs = s.recs := by unfold State.countAt; dsimp only; split <;> rfl
@[simp] theorem State.countAt_stagedRecs (c : Ctr) (o n : Nat) : (s.countAt c o n).stagedRecs = s.stagedRecs := by unfold State.countAt; dsimp only; split <;> rfl
@[simp] theorem State.countAt_stagedLog (c : Ctr) (o n : Nat) : (s.countAt c o n).stagedLog = s.stagedLog := by unfold State.countAt; dsimp only; split <;> rfl
@[simp] theorem State.countAt_latches (c : Ctr) (o n : Nat) : (s.countAt c o n).latches = s.latches := by unfold State.countAt; dsimp only; split <;> rfl
@[simp] theorem State.countAt_resp (c : Ctr) (o n : Nat) : (s.countAt c o n).resp = s.resp := by unfold State.countAt; dsimp only; split <;> rfl
@[simp] theorem State.countAt_freeIx (c : Ctr) (o n : Nat) : (s.countAt c o n).freeIx = s.freeIx := by unfold State.countAt; dsimp only; split <;> rfl
@[simp] theorem State.countAt_hostMem (c : Ctr) (o n : Nat) : (s.countAt c o n).hostMem = s.hostMem := by unfold State.countAt; dsimp only; split <;> rfl
@[simp] theorem State.countAt_chain (c : Ctr) (o n : Nat) : (s.countAt c o n).chain = s.chain := by unfold State.countAt; dsimp only; split <;> rfl
@[simp] theorem State.countAt_evq (c : Ctr) (o n : Nat) : (s.countAt c o n).evq = s.evq := by unfold State.countAt; dsimp only; split <;> rfl
@[simp] theorem State.countAt_mbx (c : Ctr) (o n : Nat) : (s.countAt c o n).mbx = s.mbx := by unfold State.countAt; dsimp only; split <;> rfl
@[simp] theorem State.countAt_qp (c : Ctr) (o n : Nat) : (s.countAt c o n).qp = s.qp := by unfold State.countAt; dsimp only; split <;> rfl
@[simp] theorem State.countAt_snap (c : Ctr) (o n : Nat) : (s.countAt c o n).snap = s.snap := by unfold State.countAt; dsimp only; split <;> rfl
@[simp] theorem State.countAt_rig (c : Ctr) (o n : Nat) : (s.countAt c o n).rig = s.rig := by unfold State.countAt; dsimp only; split <;> rfl
@[simp] theorem State.countAt_sup (c : Ctr) (o n : Nat) : (s.countAt c o n).sup = s.sup := by unfold State.countAt; dsimp only; split <;> rfl
@[simp] theorem State.countAt_tim (c : Ctr) (o n : Nat) : (s.countAt c o n).tim = s.tim := by unfold State.countAt; dsimp only; split <;> rfl
@[simp] theorem State.countAt_mem (c : Ctr) (o n : Nat) : (s.countAt c o n).mem = s.mem := by unfold State.countAt; dsimp only; split <;> rfl
@[simp] theorem State.countAt_ds (c : Ctr) (o n : Nat) : (s.countAt c o n).ds = s.ds := by unfold State.countAt; dsimp only; split <;> rfl
@[simp] theorem State.countAt_us (c : Ctr) (o n : Nat) : (s.countAt c o n).us = s.us := by unfold State.countAt; dsimp only; split <;> rfl
@[simp] theorem State.countAt_disc (c : Ctr) (o n : Nat) : (s.countAt c o n).disc = s.disc := by unfold State.countAt; dsimp only; split <;> rfl
@[simp] theorem State.countAt_onu (c : Ctr) (o n : Nat) : (s.countAt c o n).onu = s.onu := by unfold State.countAt; dsimp only; split <;> rfl
@[simp] theorem State.countAt_hal (c : Ctr) (o n : Nat) : (s.countAt c o n).hal = s.hal := by unfold State.countAt; dsimp only; split <;> rfl
@[simp] theorem State.countAt_prevRegs (c : Ctr) (o n : Nat) : (s.countAt c o n).prevRegs = s.prevRegs := by unfold State.countAt; dsimp only; split <;> rfl
@[simp] theorem State.countAt_prevRecs (c : Ctr) (o n : Nat) : (s.countAt c o n).prevRecs = s.prevRecs := by unfold State.countAt; dsimp only; split <;> rfl
@[simp] theorem State.countAt_prs (c : Ctr) (o n : Nat) : (s.countAt c o n).prs = s.prs := by unfold State.countAt; dsimp only; split <;> rfl
@[simp] theorem State.countAt_fwd (c : Ctr) (o n : Nat) : (s.countAt c o n).fwd = s.fwd := by unfold State.countAt; dsimp only; split <;> rfl
@[simp] theorem State.countAt_toParse (c : Ctr) (o n : Nat) : (s.countAt c o n).toParse = s.toParse := by unfold State.countAt; dsimp only; split <;> rfl
@[simp] theorem State.countAt_parsed (c : Ctr) (o n : Nat) : (s.countAt c o n).parsed = s.parsed := by unfold State.countAt; dsimp only; split <;> rfl
@[simp] theorem State.countAt_rxq (c : Ctr) (o n : Nat) : (s.countAt c o n).rxq = s.rxq := by unfold State.countAt; dsimp only; split <;> rfl
@[simp] theorem State.countAt_pktNo (c : Ctr) (o n : Nat) : (s.countAt c o n).pktNo = s.pktNo := by unfold State.countAt; dsimp only; split <;> rfl
@[simp] theorem State.countAt_mate (c : Ctr) (o n : Nat) : (s.countAt c o n).mate = s.mate := by unfold State.countAt; dsimp only; split <;> rfl
@[simp] theorem State.countAt_lanes (c : Ctr) (o n : Nat) : (s.countAt c o n).lanes = s.lanes := by unfold State.countAt; dsimp only; split <;> rfl
@[simp] theorem State.countAt_shr (c : Ctr) (o n : Nat) : (s.countAt c o n).shr = s.shr := by unfold State.countAt; dsimp only; split <;> rfl
@[simp] theorem State.countAt_fab (c : Ctr) (o n : Nat) : (s.countAt c o n).fab = s.fab := by unfold State.countAt; dsimp only; split <;> rfl
@[simp] theorem State.countAt_sht (c : Ctr) (o n : Nat) : (s.countAt c o n).sht = s.sht := by unfold State.countAt; dsimp only; split <;> rfl
@[simp] theorem State.countAt_fw (c : Ctr) (o n : Nat) : (s.countAt c o n).fw = s.fw := by unfold State.countAt; dsimp only; split <;> rfl
@[simp] theorem State.countAt_out (c : Ctr) (o n : Nat) : (s.countAt c o n).out = s.out := by unfold State.countAt; dsimp only; split <;> rfl

@[simp] theorem State.countAt_reg_at (c : Ctr) (o n : Nat) (x : Nat) : (s.countAt c o n).reg x = s.reg x := by simp [State.reg]
@[simp] theorem State.countAt_fld_at (c : Ctr) (o n : Nat) (x : Fld) : (s.countAt c o n).fld x = s.fld x := by simp [State.fld, State.reg]
@[simp] theorem State.countAt_flag_at (c : Ctr) (o n : Nat) (x : Fld) : (s.countAt c o n).flag x = s.flag x := by unfold State.flag; rw [State.countAt_fld_at]
@[simp] theorem State.countAt_released_at (c : Ctr) (o n : Nat) (x : Nat) : (s.countAt c o n).released x = s.released x := by simp [State.released]

@[simp] theorem State.countN_pending (c : Ctr) (i j n : Nat) : (s.countN c i j n).pending = s.pending := by unfold State.countN; split <;> simp
@[simp] theorem State.countN_regs (c : Ctr) (i j n : Nat) : (s.countN c i j n).regs = s.regs := by unfold State.countN; split <;> simp
@[simp] theorem State.countN_staged (c : Ctr) (i j n : Nat) : (s.countN c i j n).staged = s.staged := by unfold State.countN; split <;> simp
@[simp] theorem State.countN_recs (c : Ctr) (i j n : Nat) : (s.countN c i j n).recs = s.recs := by unfold State.countN; split <;> simp
@[simp] theorem State.countN_stagedRecs (c : Ctr) (i j n : Nat) : (s.countN c i j n).stagedRecs = s.stagedRecs := by unfold State.countN; split <;> simp
@[simp] theorem State.countN_stagedLog (c : Ctr) (i j n : Nat) : (s.countN c i j n).stagedLog = s.stagedLog := by unfold State.countN; split <;> simp
@[simp] theorem State.countN_latches (c : Ctr) (i j n : Nat) : (s.countN c i j n).latches = s.latches := by unfold State.countN; split <;> simp
@[simp] theorem State.countN_resp (c : Ctr) (i j n : Nat) : (s.countN c i j n).resp = s.resp := by unfold State.countN; split <;> simp
@[simp] theorem State.countN_freeIx (c : Ctr) (i j n : Nat) : (s.countN c i j n).freeIx = s.freeIx := by unfold State.countN; split <;> simp
@[simp] theorem State.countN_hostMem (c : Ctr) (i j n : Nat) : (s.countN c i j n).hostMem = s.hostMem := by unfold State.countN; split <;> simp
@[simp] theorem State.countN_chain (c : Ctr) (i j n : Nat) : (s.countN c i j n).chain = s.chain := by unfold State.countN; split <;> simp
@[simp] theorem State.countN_evq (c : Ctr) (i j n : Nat) : (s.countN c i j n).evq = s.evq := by unfold State.countN; split <;> simp
@[simp] theorem State.countN_mbx (c : Ctr) (i j n : Nat) : (s.countN c i j n).mbx = s.mbx := by unfold State.countN; split <;> simp
@[simp] theorem State.countN_qp (c : Ctr) (i j n : Nat) : (s.countN c i j n).qp = s.qp := by unfold State.countN; split <;> simp
@[simp] theorem State.countN_snap (c : Ctr) (i j n : Nat) : (s.countN c i j n).snap = s.snap := by unfold State.countN; split <;> simp
@[simp] theorem State.countN_rig (c : Ctr) (i j n : Nat) : (s.countN c i j n).rig = s.rig := by unfold State.countN; split <;> simp
@[simp] theorem State.countN_sup (c : Ctr) (i j n : Nat) : (s.countN c i j n).sup = s.sup := by unfold State.countN; split <;> simp
@[simp] theorem State.countN_tim (c : Ctr) (i j n : Nat) : (s.countN c i j n).tim = s.tim := by unfold State.countN; split <;> simp
@[simp] theorem State.countN_mem (c : Ctr) (i j n : Nat) : (s.countN c i j n).mem = s.mem := by unfold State.countN; split <;> simp
@[simp] theorem State.countN_ds (c : Ctr) (i j n : Nat) : (s.countN c i j n).ds = s.ds := by unfold State.countN; split <;> simp
@[simp] theorem State.countN_us (c : Ctr) (i j n : Nat) : (s.countN c i j n).us = s.us := by unfold State.countN; split <;> simp
@[simp] theorem State.countN_disc (c : Ctr) (i j n : Nat) : (s.countN c i j n).disc = s.disc := by unfold State.countN; split <;> simp
@[simp] theorem State.countN_onu (c : Ctr) (i j n : Nat) : (s.countN c i j n).onu = s.onu := by unfold State.countN; split <;> simp
@[simp] theorem State.countN_hal (c : Ctr) (i j n : Nat) : (s.countN c i j n).hal = s.hal := by unfold State.countN; split <;> simp
@[simp] theorem State.countN_prevRegs (c : Ctr) (i j n : Nat) : (s.countN c i j n).prevRegs = s.prevRegs := by unfold State.countN; split <;> simp
@[simp] theorem State.countN_prevRecs (c : Ctr) (i j n : Nat) : (s.countN c i j n).prevRecs = s.prevRecs := by unfold State.countN; split <;> simp
@[simp] theorem State.countN_prs (c : Ctr) (i j n : Nat) : (s.countN c i j n).prs = s.prs := by unfold State.countN; split <;> simp
@[simp] theorem State.countN_fwd (c : Ctr) (i j n : Nat) : (s.countN c i j n).fwd = s.fwd := by unfold State.countN; split <;> simp
@[simp] theorem State.countN_toParse (c : Ctr) (i j n : Nat) : (s.countN c i j n).toParse = s.toParse := by unfold State.countN; split <;> simp
@[simp] theorem State.countN_parsed (c : Ctr) (i j n : Nat) : (s.countN c i j n).parsed = s.parsed := by unfold State.countN; split <;> simp
@[simp] theorem State.countN_rxq (c : Ctr) (i j n : Nat) : (s.countN c i j n).rxq = s.rxq := by unfold State.countN; split <;> simp
@[simp] theorem State.countN_pktNo (c : Ctr) (i j n : Nat) : (s.countN c i j n).pktNo = s.pktNo := by unfold State.countN; split <;> simp
@[simp] theorem State.countN_mate (c : Ctr) (i j n : Nat) : (s.countN c i j n).mate = s.mate := by unfold State.countN; split <;> simp
@[simp] theorem State.countN_lanes (c : Ctr) (i j n : Nat) : (s.countN c i j n).lanes = s.lanes := by unfold State.countN; split <;> simp
@[simp] theorem State.countN_shr (c : Ctr) (i j n : Nat) : (s.countN c i j n).shr = s.shr := by unfold State.countN; split <;> simp
@[simp] theorem State.countN_fab (c : Ctr) (i j n : Nat) : (s.countN c i j n).fab = s.fab := by unfold State.countN; split <;> simp
@[simp] theorem State.countN_sht (c : Ctr) (i j n : Nat) : (s.countN c i j n).sht = s.sht := by unfold State.countN; split <;> simp
@[simp] theorem State.countN_fw (c : Ctr) (i j n : Nat) : (s.countN c i j n).fw = s.fw := by unfold State.countN; split <;> simp
@[simp] theorem State.countN_out (c : Ctr) (i j n : Nat) : (s.countN c i j n).out = s.out := by unfold State.countN; split <;> simp

@[simp] theorem State.countN_reg_at (c : Ctr) (i j n : Nat) (x : Nat) : (s.countN c i j n).reg x = s.reg x := by simp [State.reg]
@[simp] theorem State.countN_fld_at (c : Ctr) (i j n : Nat) (x : Fld) : (s.countN c i j n).fld x = s.fld x := by simp [State.fld, State.reg]
@[simp] theorem State.countN_flag_at (c : Ctr) (i j n : Nat) (x : Fld) : (s.countN c i j n).flag x = s.flag x := by unfold State.flag; rw [State.countN_fld_at]
@[simp] theorem State.countN_released_at (c : Ctr) (i j n : Nat) (x : Nat) : (s.countN c i j n).released x = s.released x := by simp [State.released]

@[simp] theorem State.count_pending (c : Ctr) (i : Nat) : (s.count c i).pending = s.pending := by unfold State.count; simp
@[simp] theorem State.count_regs (c : Ctr) (i : Nat) : (s.count c i).regs = s.regs := by unfold State.count; simp
@[simp] theorem State.count_staged (c : Ctr) (i : Nat) : (s.count c i).staged = s.staged := by unfold State.count; simp
@[simp] theorem State.count_recs (c : Ctr) (i : Nat) : (s.count c i).recs = s.recs := by unfold State.count; simp
@[simp] theorem State.count_stagedRecs (c : Ctr) (i : Nat) : (s.count c i).stagedRecs = s.stagedRecs := by unfold State.count; simp
@[simp] theorem State.count_stagedLog (c : Ctr) (i : Nat) : (s.count c i).stagedLog = s.stagedLog := by unfold State.count; simp
@[simp] theorem State.count_latches (c : Ctr) (i : Nat) : (s.count c i).latches = s.latches := by unfold State.count; simp
@[simp] theorem State.count_resp (c : Ctr) (i : Nat) : (s.count c i).resp = s.resp := by unfold State.count; simp
@[simp] theorem State.count_freeIx (c : Ctr) (i : Nat) : (s.count c i).freeIx = s.freeIx := by unfold State.count; simp
@[simp] theorem State.count_hostMem (c : Ctr) (i : Nat) : (s.count c i).hostMem = s.hostMem := by unfold State.count; simp
@[simp] theorem State.count_chain (c : Ctr) (i : Nat) : (s.count c i).chain = s.chain := by unfold State.count; simp
@[simp] theorem State.count_evq (c : Ctr) (i : Nat) : (s.count c i).evq = s.evq := by unfold State.count; simp
@[simp] theorem State.count_mbx (c : Ctr) (i : Nat) : (s.count c i).mbx = s.mbx := by unfold State.count; simp
@[simp] theorem State.count_qp (c : Ctr) (i : Nat) : (s.count c i).qp = s.qp := by unfold State.count; simp
@[simp] theorem State.count_snap (c : Ctr) (i : Nat) : (s.count c i).snap = s.snap := by unfold State.count; simp
@[simp] theorem State.count_rig (c : Ctr) (i : Nat) : (s.count c i).rig = s.rig := by unfold State.count; simp
@[simp] theorem State.count_sup (c : Ctr) (i : Nat) : (s.count c i).sup = s.sup := by unfold State.count; simp
@[simp] theorem State.count_tim (c : Ctr) (i : Nat) : (s.count c i).tim = s.tim := by unfold State.count; simp
@[simp] theorem State.count_mem (c : Ctr) (i : Nat) : (s.count c i).mem = s.mem := by unfold State.count; simp
@[simp] theorem State.count_ds (c : Ctr) (i : Nat) : (s.count c i).ds = s.ds := by unfold State.count; simp
@[simp] theorem State.count_us (c : Ctr) (i : Nat) : (s.count c i).us = s.us := by unfold State.count; simp
@[simp] theorem State.count_disc (c : Ctr) (i : Nat) : (s.count c i).disc = s.disc := by unfold State.count; simp
@[simp] theorem State.count_onu (c : Ctr) (i : Nat) : (s.count c i).onu = s.onu := by unfold State.count; simp
@[simp] theorem State.count_hal (c : Ctr) (i : Nat) : (s.count c i).hal = s.hal := by unfold State.count; simp
@[simp] theorem State.count_prevRegs (c : Ctr) (i : Nat) : (s.count c i).prevRegs = s.prevRegs := by unfold State.count; simp
@[simp] theorem State.count_prevRecs (c : Ctr) (i : Nat) : (s.count c i).prevRecs = s.prevRecs := by unfold State.count; simp
@[simp] theorem State.count_prs (c : Ctr) (i : Nat) : (s.count c i).prs = s.prs := by unfold State.count; simp
@[simp] theorem State.count_fwd (c : Ctr) (i : Nat) : (s.count c i).fwd = s.fwd := by unfold State.count; simp
@[simp] theorem State.count_toParse (c : Ctr) (i : Nat) : (s.count c i).toParse = s.toParse := by unfold State.count; simp
@[simp] theorem State.count_parsed (c : Ctr) (i : Nat) : (s.count c i).parsed = s.parsed := by unfold State.count; simp
@[simp] theorem State.count_rxq (c : Ctr) (i : Nat) : (s.count c i).rxq = s.rxq := by unfold State.count; simp
@[simp] theorem State.count_pktNo (c : Ctr) (i : Nat) : (s.count c i).pktNo = s.pktNo := by unfold State.count; simp
@[simp] theorem State.count_mate (c : Ctr) (i : Nat) : (s.count c i).mate = s.mate := by unfold State.count; simp
@[simp] theorem State.count_lanes (c : Ctr) (i : Nat) : (s.count c i).lanes = s.lanes := by unfold State.count; simp
@[simp] theorem State.count_shr (c : Ctr) (i : Nat) : (s.count c i).shr = s.shr := by unfold State.count; simp
@[simp] theorem State.count_fab (c : Ctr) (i : Nat) : (s.count c i).fab = s.fab := by unfold State.count; simp
@[simp] theorem State.count_sht (c : Ctr) (i : Nat) : (s.count c i).sht = s.sht := by unfold State.count; simp
@[simp] theorem State.count_fw (c : Ctr) (i : Nat) : (s.count c i).fw = s.fw := by unfold State.count; simp
@[simp] theorem State.count_out (c : Ctr) (i : Nat) : (s.count c i).out = s.out := by unfold State.count; simp

@[simp] theorem State.count_reg_at (c : Ctr) (i : Nat) (x : Nat) : (s.count c i).reg x = s.reg x := by simp [State.reg]
@[simp] theorem State.count_fld_at (c : Ctr) (i : Nat) (x : Fld) : (s.count c i).fld x = s.fld x := by simp [State.fld, State.reg]
@[simp] theorem State.count_flag_at (c : Ctr) (i : Nat) (x : Fld) : (s.count c i).flag x = s.flag x := by unfold State.flag; rw [State.count_fld_at]
@[simp] theorem State.count_released_at (c : Ctr) (i : Nat) (x : Nat) : (s.count c i).released x = s.released x := by simp [State.released]

@[simp] theorem State.enqueueEvent_pending (e : EventRec) : (s.enqueueEvent e).pending = s.pending := by unfold State.enqueueEvent; split; rfl; split; rfl; simp
@[simp] theorem State.enqueueEvent_regs (e : EventRec) : (s.enqueueEvent e).regs = s.regs := by unfold State.enqueueEvent; split; rfl; split; rfl; simp
@[simp] theorem State.enqueueEvent_staged (e : EventRec) : (s.enqueueEvent e).staged = s.staged := by unfold State.enqueueEvent; split; rfl; split; rfl; simp
@[simp] theorem State.enqueueEvent_recs (e : EventRec) : (s.enqueueEvent e).recs = s.recs := by unfold State.enqueueEvent; split; rfl; split; rfl; simp
@[simp] theorem State.enqueueEvent_stagedRecs (e : EventRec) : (s.enqueueEvent e).stagedRecs = s.stagedRecs := by unfold State.enqueueEvent; split; rfl; split; rfl; simp
@[simp] theorem State.enqueueEvent_stagedLog (e : EventRec) : (s.enqueueEvent e).stagedLog = s.stagedLog := by unfold State.enqueueEvent; split; rfl; split; rfl; simp
@[simp] theorem State.enqueueEvent_latches (e : EventRec) : (s.enqueueEvent e).latches = s.latches := by unfold State.enqueueEvent; split; rfl; split; rfl; simp
@[simp] theorem State.enqueueEvent_resp (e : EventRec) : (s.enqueueEvent e).resp = s.resp := by unfold State.enqueueEvent; split; rfl; split; rfl; simp
@[simp] theorem State.enqueueEvent_freeIx (e : EventRec) : (s.enqueueEvent e).freeIx = s.freeIx := by unfold State.enqueueEvent; split; rfl; split; rfl; simp
@[simp] theorem State.enqueueEvent_hostMem (e : EventRec) : (s.enqueueEvent e).hostMem = s.hostMem := by unfold State.enqueueEvent; split; rfl; split; rfl; simp
@[simp] theorem State.enqueueEvent_chain (e : EventRec) : (s.enqueueEvent e).chain = s.chain := by unfold State.enqueueEvent; split; rfl; split; rfl; simp
@[simp] theorem State.enqueueEvent_mbx (e : EventRec) : (s.enqueueEvent e).mbx = s.mbx := by unfold State.enqueueEvent; split; rfl; split; rfl; simp
@[simp] theorem State.enqueueEvent_qp (e : EventRec) : (s.enqueueEvent e).qp = s.qp := by unfold State.enqueueEvent; split; rfl; split; rfl; simp
@[simp] theorem State.enqueueEvent_snap (e : EventRec) : (s.enqueueEvent e).snap = s.snap := by unfold State.enqueueEvent; split; rfl; split; rfl; simp
@[simp] theorem State.enqueueEvent_rig (e : EventRec) : (s.enqueueEvent e).rig = s.rig := by unfold State.enqueueEvent; split; rfl; split; rfl; simp
@[simp] theorem State.enqueueEvent_sup (e : EventRec) : (s.enqueueEvent e).sup = s.sup := by unfold State.enqueueEvent; split; rfl; split; rfl; simp
@[simp] theorem State.enqueueEvent_tim (e : EventRec) : (s.enqueueEvent e).tim = s.tim := by unfold State.enqueueEvent; split; rfl; split; rfl; simp
@[simp] theorem State.enqueueEvent_mem (e : EventRec) : (s.enqueueEvent e).mem = s.mem := by unfold State.enqueueEvent; split; rfl; split; rfl; simp
@[simp] theorem State.enqueueEvent_ds (e : EventRec) : (s.enqueueEvent e).ds = s.ds := by unfold State.enqueueEvent; split; rfl; split; rfl; simp
@[simp] theorem State.enqueueEvent_us (e : EventRec) : (s.enqueueEvent e).us = s.us := by unfold State.enqueueEvent; split; rfl; split; rfl; simp
@[simp] theorem State.enqueueEvent_disc (e : EventRec) : (s.enqueueEvent e).disc = s.disc := by unfold State.enqueueEvent; split; rfl; split; rfl; simp
@[simp] theorem State.enqueueEvent_onu (e : EventRec) : (s.enqueueEvent e).onu = s.onu := by unfold State.enqueueEvent; split; rfl; split; rfl; simp
@[simp] theorem State.enqueueEvent_hal (e : EventRec) : (s.enqueueEvent e).hal = s.hal := by unfold State.enqueueEvent; split; rfl; split; rfl; simp
@[simp] theorem State.enqueueEvent_prevRegs (e : EventRec) : (s.enqueueEvent e).prevRegs = s.prevRegs := by unfold State.enqueueEvent; split; rfl; split; rfl; simp
@[simp] theorem State.enqueueEvent_prevRecs (e : EventRec) : (s.enqueueEvent e).prevRecs = s.prevRecs := by unfold State.enqueueEvent; split; rfl; split; rfl; simp
@[simp] theorem State.enqueueEvent_prs (e : EventRec) : (s.enqueueEvent e).prs = s.prs := by unfold State.enqueueEvent; split; rfl; split; rfl; simp
@[simp] theorem State.enqueueEvent_fwd (e : EventRec) : (s.enqueueEvent e).fwd = s.fwd := by unfold State.enqueueEvent; split; rfl; split; rfl; simp
@[simp] theorem State.enqueueEvent_toParse (e : EventRec) : (s.enqueueEvent e).toParse = s.toParse := by unfold State.enqueueEvent; split; rfl; split; rfl; simp
@[simp] theorem State.enqueueEvent_parsed (e : EventRec) : (s.enqueueEvent e).parsed = s.parsed := by unfold State.enqueueEvent; split; rfl; split; rfl; simp
@[simp] theorem State.enqueueEvent_rxq (e : EventRec) : (s.enqueueEvent e).rxq = s.rxq := by unfold State.enqueueEvent; split; rfl; split; rfl; simp
@[simp] theorem State.enqueueEvent_pktNo (e : EventRec) : (s.enqueueEvent e).pktNo = s.pktNo := by unfold State.enqueueEvent; split; rfl; split; rfl; simp
@[simp] theorem State.enqueueEvent_mate (e : EventRec) : (s.enqueueEvent e).mate = s.mate := by unfold State.enqueueEvent; split; rfl; split; rfl; simp
@[simp] theorem State.enqueueEvent_lanes (e : EventRec) : (s.enqueueEvent e).lanes = s.lanes := by unfold State.enqueueEvent; split; rfl; split; rfl; simp
@[simp] theorem State.enqueueEvent_shr (e : EventRec) : (s.enqueueEvent e).shr = s.shr := by unfold State.enqueueEvent; split; rfl; split; rfl; simp
@[simp] theorem State.enqueueEvent_fab (e : EventRec) : (s.enqueueEvent e).fab = s.fab := by unfold State.enqueueEvent; split; rfl; split; rfl; simp
@[simp] theorem State.enqueueEvent_sht (e : EventRec) : (s.enqueueEvent e).sht = s.sht := by unfold State.enqueueEvent; split; rfl; split; rfl; simp
@[simp] theorem State.enqueueEvent_fw (e : EventRec) : (s.enqueueEvent e).fw = s.fw := by unfold State.enqueueEvent; split; rfl; split; rfl; simp
@[simp] theorem State.enqueueEvent_out (e : EventRec) : (s.enqueueEvent e).out = s.out := by unfold State.enqueueEvent; split; rfl; split; rfl; simp

@[simp] theorem State.enqueueEvent_reg_at (e : EventRec) (x : Nat) : (s.enqueueEvent e).reg x = s.reg x := by simp [State.reg]
@[simp] theorem State.enqueueEvent_fld_at (e : EventRec) (x : Fld) : (s.enqueueEvent e).fld x = s.fld x := by simp [State.fld, State.reg]
@[simp] theorem State.enqueueEvent_flag_at (e : EventRec) (x : Fld) : (s.enqueueEvent e).flag x = s.flag x := by unfold State.flag; rw [State.enqueueEvent_fld_at]
@[simp] theorem State.enqueueEvent_released_at (e : EventRec) (x : Nat) : (s.enqueueEvent e).released x = s.released x := by simp [State.released]

@[simp] theorem State.postRaw_pending (c : Nat) (d : List Nat) : (s.postRaw c d).pending = s.pending := by unfold State.postRaw; simp
@[simp] theorem State.postRaw_regs (c : Nat) (d : List Nat) : (s.postRaw c d).regs = s.regs := by unfold State.postRaw; simp
@[simp] theorem State.postRaw_staged (c : Nat) (d : List Nat) : (s.postRaw c d).staged = s.staged := by unfold State.postRaw; simp
@[simp] theorem State.postRaw_recs (c : Nat) (d : List Nat) : (s.postRaw c d).recs = s.recs := by unfold State.postRaw; simp
@[simp] theorem State.postRaw_stagedRecs (c : Nat) (d : List Nat) : (s.postRaw c d).stagedRecs = s.stagedRecs := by unfold State.postRaw; simp
@[simp] theorem State.postRaw_stagedLog (c : Nat) (d : List Nat) : (s.postRaw c d).stagedLog = s.stagedLog := by unfold State.postRaw; simp
@[simp] theorem State.postRaw_latches (c : Nat) (d : List Nat) : (s.postRaw c d).latches = s.latches := by unfold State.postRaw; simp
@[simp] theorem State.postRaw_resp (c : Nat) (d : List Nat) : (s.postRaw c d).resp = s.resp := by unfold State.postRaw; simp
@[simp] theorem State.postRaw_freeIx (c : Nat) (d : List Nat) : (s.postRaw c d).freeIx = s.freeIx := by unfold State.postRaw; simp
@[simp] theorem State.postRaw_hostMem (c : Nat) (d : List Nat) : (s.postRaw c d).hostMem = s.hostMem := by unfold State.postRaw; simp
@[simp] theorem State.postRaw_chain (c : Nat) (d : List Nat) : (s.postRaw c d).chain = s.chain := by unfold State.postRaw; simp
@[simp] theorem State.postRaw_mbx (c : Nat) (d : List Nat) : (s.postRaw c d).mbx = s.mbx := by unfold State.postRaw; simp
@[simp] theorem State.postRaw_qp (c : Nat) (d : List Nat) : (s.postRaw c d).qp = s.qp := by unfold State.postRaw; simp
@[simp] theorem State.postRaw_snap (c : Nat) (d : List Nat) : (s.postRaw c d).snap = s.snap := by unfold State.postRaw; simp
@[simp] theorem State.postRaw_rig (c : Nat) (d : List Nat) : (s.postRaw c d).rig = s.rig := by unfold State.postRaw; simp
@[simp] theorem State.postRaw_sup (c : Nat) (d : List Nat) : (s.postRaw c d).sup = s.sup := by unfold State.postRaw; simp
@[simp] theorem State.postRaw_tim (c : Nat) (d : List Nat) : (s.postRaw c d).tim = s.tim := by unfold State.postRaw; simp
@[simp] theorem State.postRaw_mem (c : Nat) (d : List Nat) : (s.postRaw c d).mem = s.mem := by unfold State.postRaw; simp
@[simp] theorem State.postRaw_ds (c : Nat) (d : List Nat) : (s.postRaw c d).ds = s.ds := by unfold State.postRaw; simp
@[simp] theorem State.postRaw_us (c : Nat) (d : List Nat) : (s.postRaw c d).us = s.us := by unfold State.postRaw; simp
@[simp] theorem State.postRaw_disc (c : Nat) (d : List Nat) : (s.postRaw c d).disc = s.disc := by unfold State.postRaw; simp
@[simp] theorem State.postRaw_onu (c : Nat) (d : List Nat) : (s.postRaw c d).onu = s.onu := by unfold State.postRaw; simp
@[simp] theorem State.postRaw_hal (c : Nat) (d : List Nat) : (s.postRaw c d).hal = s.hal := by unfold State.postRaw; simp
@[simp] theorem State.postRaw_prevRegs (c : Nat) (d : List Nat) : (s.postRaw c d).prevRegs = s.prevRegs := by unfold State.postRaw; simp
@[simp] theorem State.postRaw_prevRecs (c : Nat) (d : List Nat) : (s.postRaw c d).prevRecs = s.prevRecs := by unfold State.postRaw; simp
@[simp] theorem State.postRaw_prs (c : Nat) (d : List Nat) : (s.postRaw c d).prs = s.prs := by unfold State.postRaw; simp
@[simp] theorem State.postRaw_fwd (c : Nat) (d : List Nat) : (s.postRaw c d).fwd = s.fwd := by unfold State.postRaw; simp
@[simp] theorem State.postRaw_toParse (c : Nat) (d : List Nat) : (s.postRaw c d).toParse = s.toParse := by unfold State.postRaw; simp
@[simp] theorem State.postRaw_parsed (c : Nat) (d : List Nat) : (s.postRaw c d).parsed = s.parsed := by unfold State.postRaw; simp
@[simp] theorem State.postRaw_rxq (c : Nat) (d : List Nat) : (s.postRaw c d).rxq = s.rxq := by unfold State.postRaw; simp
@[simp] theorem State.postRaw_pktNo (c : Nat) (d : List Nat) : (s.postRaw c d).pktNo = s.pktNo := by unfold State.postRaw; simp
@[simp] theorem State.postRaw_mate (c : Nat) (d : List Nat) : (s.postRaw c d).mate = s.mate := by unfold State.postRaw; simp
@[simp] theorem State.postRaw_lanes (c : Nat) (d : List Nat) : (s.postRaw c d).lanes = s.lanes := by unfold State.postRaw; simp
@[simp] theorem State.postRaw_shr (c : Nat) (d : List Nat) : (s.postRaw c d).shr = s.shr := by unfold State.postRaw; simp
@[simp] theorem State.postRaw_fab (c : Nat) (d : List Nat) : (s.postRaw c d).fab = s.fab := by unfold State.postRaw; simp
@[simp] theorem State.postRaw_sht (c : Nat) (d : List Nat) : (s.postRaw c d).sht = s.sht := by unfold State.postRaw; simp
@[simp] theorem State.postRaw_fw (c : Nat) (d : List Nat) : (s.postRaw c d).fw = s.fw := by unfold State.postRaw; simp
@[simp] theorem State.postRaw_out (c : Nat) (d : List Nat) : (s.postRaw c d).out = s.out := by unfold State.postRaw; simp

@[simp] theorem State.postRaw_reg_at (c : Nat) (d : List Nat) (x : Nat) : (s.postRaw c d).reg x = s.reg x := by simp [State.reg]
@[simp] theorem State.postRaw_fld_at (c : Nat) (d : List Nat) (x : Fld) : (s.postRaw c d).fld x = s.fld x := by simp [State.fld, State.reg]
@[simp] theorem State.postRaw_flag_at (c : Nat) (d : List Nat) (x : Fld) : (s.postRaw c d).flag x = s.flag x := by unfold State.flag; rw [State.postRaw_fld_at]
@[simp] theorem State.postRaw_released_at (c : Nat) (d : List Nat) (x : Nat) : (s.postRaw c d).released x = s.released x := by simp [State.released]

@[simp] theorem State.jnlEvent_pending (c : Nat) (d : List Nat) : (s.jnlEvent c d).pending = s.pending := by unfold State.jnlEvent; split; rfl; split; rfl; dsimp only; split <;> simp
@[simp] theorem State.jnlEvent_regs (c : Nat) (d : List Nat) : (s.jnlEvent c d).regs = s.regs := by unfold State.jnlEvent; split; rfl; split; rfl; dsimp only; split <;> simp
@[simp] theorem State.jnlEvent_staged (c : Nat) (d : List Nat) : (s.jnlEvent c d).staged = s.staged := by unfold State.jnlEvent; split; rfl; split; rfl; dsimp only; split <;> simp
@[simp] theorem State.jnlEvent_recs (c : Nat) (d : List Nat) : (s.jnlEvent c d).recs = s.recs := by unfold State.jnlEvent; split; rfl; split; rfl; dsimp only; split <;> simp
@[simp] theorem State.jnlEvent_stagedRecs (c : Nat) (d : List Nat) : (s.jnlEvent c d).stagedRecs = s.stagedRecs := by unfold State.jnlEvent; split; rfl; split; rfl; dsimp only; split <;> simp
@[simp] theorem State.jnlEvent_stagedLog (c : Nat) (d : List Nat) : (s.jnlEvent c d).stagedLog = s.stagedLog := by unfold State.jnlEvent; split; rfl; split; rfl; dsimp only; split <;> simp
@[simp] theorem State.jnlEvent_latches (c : Nat) (d : List Nat) : (s.jnlEvent c d).latches = s.latches := by unfold State.jnlEvent; split; rfl; split; rfl; dsimp only; split <;> simp
@[simp] theorem State.jnlEvent_resp (c : Nat) (d : List Nat) : (s.jnlEvent c d).resp = s.resp := by unfold State.jnlEvent; split; rfl; split; rfl; dsimp only; split <;> simp
@[simp] theorem State.jnlEvent_freeIx (c : Nat) (d : List Nat) : (s.jnlEvent c d).freeIx = s.freeIx := by unfold State.jnlEvent; split; rfl; split; rfl; dsimp only; split <;> simp
@[simp] theorem State.jnlEvent_hostMem (c : Nat) (d : List Nat) : (s.jnlEvent c d).hostMem = s.hostMem := by unfold State.jnlEvent; split; rfl; split; rfl; dsimp only; split <;> simp
@[simp] theorem State.jnlEvent_chain (c : Nat) (d : List Nat) : (s.jnlEvent c d).chain = s.chain := by unfold State.jnlEvent; split; rfl; split; rfl; dsimp only; split <;> simp
@[simp] theorem State.jnlEvent_mbx (c : Nat) (d : List Nat) : (s.jnlEvent c d).mbx = s.mbx := by unfold State.jnlEvent; split; rfl; split; rfl; dsimp only; split <;> simp
@[simp] theorem State.jnlEvent_qp (c : Nat) (d : List Nat) : (s.jnlEvent c d).qp = s.qp := by unfold State.jnlEvent; split; rfl; split; rfl; dsimp only; split <;> simp
@[simp] theorem State.jnlEvent_snap (c : Nat) (d : List Nat) : (s.jnlEvent c d).snap = s.snap := by unfold State.jnlEvent; split; rfl; split; rfl; dsimp only; split <;> simp
@[simp] theorem State.jnlEvent_rig (c : Nat) (d : List Nat) : (s.jnlEvent c d).rig = s.rig := by unfold State.jnlEvent; split; rfl; split; rfl; dsimp only; split <;> simp
@[simp] theorem State.jnlEvent_sup (c : Nat) (d : List Nat) : (s.jnlEvent c d).sup = s.sup := by unfold State.jnlEvent; split; rfl; split; rfl; dsimp only; split <;> simp
@[simp] theorem State.jnlEvent_tim (c : Nat) (d : List Nat) : (s.jnlEvent c d).tim = s.tim := by unfold State.jnlEvent; split; rfl; split; rfl; dsimp only; split <;> simp
@[simp] theorem State.jnlEvent_ds (c : Nat) (d : List Nat) : (s.jnlEvent c d).ds = s.ds := by unfold State.jnlEvent; split; rfl; split; rfl; dsimp only; split <;> simp
@[simp] theorem State.jnlEvent_us (c : Nat) (d : List Nat) : (s.jnlEvent c d).us = s.us := by unfold State.jnlEvent; split; rfl; split; rfl; dsimp only; split <;> simp
@[simp] theorem State.jnlEvent_disc (c : Nat) (d : List Nat) : (s.jnlEvent c d).disc = s.disc := by unfold State.jnlEvent; split; rfl; split; rfl; dsimp only; split <;> simp
@[simp] theorem State.jnlEvent_onu (c : Nat) (d : List Nat) : (s.jnlEvent c d).onu = s.onu := by unfold State.jnlEvent; split; rfl; split; rfl; dsimp only; split <;> simp
@[simp] theorem State.jnlEvent_hal (c : Nat) (d : List Nat) : (s.jnlEvent c d).hal = s.hal := by unfold State.jnlEvent; split; rfl; split; rfl; dsimp only; split <;> simp
@[simp] theorem State.jnlEvent_prevRegs (c : Nat) (d : List Nat) : (s.jnlEvent c d).prevRegs = s.prevRegs := by unfold State.jnlEvent; split; rfl; split; rfl; dsimp only; split <;> simp
@[simp] theorem State.jnlEvent_prevRecs (c : Nat) (d : List Nat) : (s.jnlEvent c d).prevRecs = s.prevRecs := by unfold State.jnlEvent; split; rfl; split; rfl; dsimp only; split <;> simp
@[simp] theorem State.jnlEvent_prs (c : Nat) (d : List Nat) : (s.jnlEvent c d).prs = s.prs := by unfold State.jnlEvent; split; rfl; split; rfl; dsimp only; split <;> simp
@[simp] theorem State.jnlEvent_fwd (c : Nat) (d : List Nat) : (s.jnlEvent c d).fwd = s.fwd := by unfold State.jnlEvent; split; rfl; split; rfl; dsimp only; split <;> simp
@[simp] theorem State.jnlEvent_toParse (c : Nat) (d : List Nat) : (s.jnlEvent c d).toParse = s.toParse := by unfold State.jnlEvent; split; rfl; split; rfl; dsimp only; split <;> simp
@[simp] theorem State.jnlEvent_parsed (c : Nat) (d : List Nat) : (s.jnlEvent c d).parsed = s.parsed := by unfold State.jnlEvent; split; rfl; split; rfl; dsimp only; split <;> simp
@[simp] theorem State.jnlEvent_rxq (c : Nat) (d : List Nat) : (s.jnlEvent c d).rxq = s.rxq := by unfold State.jnlEvent; split; rfl; split; rfl; dsimp only; split <;> simp
@[simp] theorem State.jnlEvent_pktNo (c : Nat) (d : List Nat) : (s.jnlEvent c d).pktNo = s.pktNo := by unfold State.jnlEvent; split; rfl; split; rfl; dsimp only; split <;> simp
@[simp] theorem State.jnlEvent_mate (c : Nat) (d : List Nat) : (s.jnlEvent c d).mate = s.mate := by unfold State.jnlEvent; split; rfl; split; rfl; dsimp only; split <;> simp
@[simp] theorem State.jnlEvent_lanes (c : Nat) (d : List Nat) : (s.jnlEvent c d).lanes = s.lanes := by unfold State.jnlEvent; split; rfl; split; rfl; dsimp only; split <;> simp
@[simp] theorem State.jnlEvent_shr (c : Nat) (d : List Nat) : (s.jnlEvent c d).shr = s.shr := by unfold State.jnlEvent; split; rfl; split; rfl; dsimp only; split <;> simp
@[simp] theorem State.jnlEvent_fab (c : Nat) (d : List Nat) : (s.jnlEvent c d).fab = s.fab := by unfold State.jnlEvent; split; rfl; split; rfl; dsimp only; split <;> simp
@[simp] theorem State.jnlEvent_sht (c : Nat) (d : List Nat) : (s.jnlEvent c d).sht = s.sht := by unfold State.jnlEvent; split; rfl; split; rfl; dsimp only; split <;> simp
@[simp] theorem State.jnlEvent_fw (c : Nat) (d : List Nat) : (s.jnlEvent c d).fw = s.fw := by unfold State.jnlEvent; split; rfl; split; rfl; dsimp only; split <;> simp
@[simp] theorem State.jnlEvent_out (c : Nat) (d : List Nat) : (s.jnlEvent c d).out = s.out := by unfold State.jnlEvent; split; rfl; split; rfl; dsimp only; split <;> simp

@[simp] theorem State.jnlEvent_reg_at (c : Nat) (d : List Nat) (x : Nat) : (s.jnlEvent c d).reg x = s.reg x := by simp [State.reg]
@[simp] theorem State.jnlEvent_fld_at (c : Nat) (d : List Nat) (x : Fld) : (s.jnlEvent c d).fld x = s.fld x := by simp [State.fld, State.reg]
@[simp] theorem State.jnlEvent_flag_at (c : Nat) (d : List Nat) (x : Fld) : (s.jnlEvent c d).flag x = s.flag x := by unfold State.flag; rw [State.jnlEvent_fld_at]
@[simp] theorem State.jnlEvent_released_at (c : Nat) (d : List Nat) (x : Nat) : (s.jnlEvent c d).released x = s.released x := by simp [State.released]

@[simp] theorem State.post_pending (c : Nat) (d : List Nat) : (s.post c d).pending = s.pending := by unfold State.post; simp
@[simp] theorem State.post_regs (c : Nat) (d : List Nat) : (s.post c d).regs = s.regs := by unfold State.post; simp
@[simp] theorem State.post_staged (c : Nat) (d : List Nat) : (s.post c d).staged = s.staged := by unfold State.post; simp
@[simp] theorem State.post_recs (c : Nat) (d : List Nat) : (s.post c d).recs = s.recs := by unfold State.post; simp
@[simp] theorem State.post_stagedRecs (c : Nat) (d : List Nat) : (s.post c d).stagedRecs = s.stagedRecs := by unfold State.post; simp
@[simp] theorem State.post_stagedLog (c : Nat) (d : List Nat) : (s.post c d).stagedLog = s.stagedLog := by unfold State.post; simp
@[simp] theorem State.post_latches (c : Nat) (d : List Nat) : (s.post c d).latches = s.latches := by unfold State.post; simp
@[simp] theorem State.post_resp (c : Nat) (d : List Nat) : (s.post c d).resp = s.resp := by unfold State.post; simp
@[simp] theorem State.post_freeIx (c : Nat) (d : List Nat) : (s.post c d).freeIx = s.freeIx := by unfold State.post; simp
@[simp] theorem State.post_hostMem (c : Nat) (d : List Nat) : (s.post c d).hostMem = s.hostMem := by unfold State.post; simp
@[simp] theorem State.post_chain (c : Nat) (d : List Nat) : (s.post c d).chain = s.chain := by unfold State.post; simp
@[simp] theorem State.post_mbx (c : Nat) (d : List Nat) : (s.post c d).mbx = s.mbx := by unfold State.post; simp
@[simp] theorem State.post_qp (c : Nat) (d : List Nat) : (s.post c d).qp = s.qp := by unfold State.post; simp
@[simp] theorem State.post_snap (c : Nat) (d : List Nat) : (s.post c d).snap = s.snap := by unfold State.post; simp
@[simp] theorem State.post_rig (c : Nat) (d : List Nat) : (s.post c d).rig = s.rig := by unfold State.post; simp
@[simp] theorem State.post_sup (c : Nat) (d : List Nat) : (s.post c d).sup = s.sup := by unfold State.post; simp
@[simp] theorem State.post_tim (c : Nat) (d : List Nat) : (s.post c d).tim = s.tim := by unfold State.post; simp
@[simp] theorem State.post_ds (c : Nat) (d : List Nat) : (s.post c d).ds = s.ds := by unfold State.post; simp
@[simp] theorem State.post_us (c : Nat) (d : List Nat) : (s.post c d).us = s.us := by unfold State.post; simp
@[simp] theorem State.post_disc (c : Nat) (d : List Nat) : (s.post c d).disc = s.disc := by unfold State.post; simp
@[simp] theorem State.post_onu (c : Nat) (d : List Nat) : (s.post c d).onu = s.onu := by unfold State.post; simp
@[simp] theorem State.post_hal (c : Nat) (d : List Nat) : (s.post c d).hal = s.hal := by unfold State.post; simp
@[simp] theorem State.post_prevRegs (c : Nat) (d : List Nat) : (s.post c d).prevRegs = s.prevRegs := by unfold State.post; simp
@[simp] theorem State.post_prevRecs (c : Nat) (d : List Nat) : (s.post c d).prevRecs = s.prevRecs := by unfold State.post; simp
@[simp] theorem State.post_prs (c : Nat) (d : List Nat) : (s.post c d).prs = s.prs := by unfold State.post; simp
@[simp] theorem State.post_fwd (c : Nat) (d : List Nat) : (s.post c d).fwd = s.fwd := by unfold State.post; simp
@[simp] theorem State.post_toParse (c : Nat) (d : List Nat) : (s.post c d).toParse = s.toParse := by unfold State.post; simp
@[simp] theorem State.post_parsed (c : Nat) (d : List Nat) : (s.post c d).parsed = s.parsed := by unfold State.post; simp
@[simp] theorem State.post_rxq (c : Nat) (d : List Nat) : (s.post c d).rxq = s.rxq := by unfold State.post; simp
@[simp] theorem State.post_pktNo (c : Nat) (d : List Nat) : (s.post c d).pktNo = s.pktNo := by unfold State.post; simp
@[simp] theorem State.post_mate (c : Nat) (d : List Nat) : (s.post c d).mate = s.mate := by unfold State.post; simp
@[simp] theorem State.post_lanes (c : Nat) (d : List Nat) : (s.post c d).lanes = s.lanes := by unfold State.post; simp
@[simp] theorem State.post_shr (c : Nat) (d : List Nat) : (s.post c d).shr = s.shr := by unfold State.post; simp
@[simp] theorem State.post_fab (c : Nat) (d : List Nat) : (s.post c d).fab = s.fab := by unfold State.post; simp
@[simp] theorem State.post_sht (c : Nat) (d : List Nat) : (s.post c d).sht = s.sht := by unfold State.post; simp
@[simp] theorem State.post_fw (c : Nat) (d : List Nat) : (s.post c d).fw = s.fw := by unfold State.post; simp
@[simp] theorem State.post_out (c : Nat) (d : List Nat) : (s.post c d).out = s.out := by unfold State.post; simp

@[simp] theorem State.post_reg_at (c : Nat) (d : List Nat) (x : Nat) : (s.post c d).reg x = s.reg x := by simp [State.reg]
@[simp] theorem State.post_fld_at (c : Nat) (d : List Nat) (x : Fld) : (s.post c d).fld x = s.fld x := by simp [State.fld, State.reg]
@[simp] theorem State.post_flag_at (c : Nat) (d : List Nat) (x : Fld) : (s.post c d).flag x = s.flag x := by unfold State.flag; rw [State.post_fld_at]
@[simp] theorem State.post_released_at (c : Nat) (d : List Nat) (x : Nat) : (s.post c d).released x = s.released x := by simp [State.released]

@[simp] theorem State.jnlPersist_pending (ty co cl ob : Nat) (d : List Nat) (a : JnlAct) : (s.jnlPersist ty co cl ob d a).pending = s.pending := by unfold State.jnlPersist; dsimp only; split <;> rfl
@[simp] theorem State.jnlPersist_regs (ty co cl ob : Nat) (d : List Nat) (a : JnlAct) : (s.jnlPersist ty co cl ob d a).regs = s.regs := by unfold State.jnlPersist; dsimp only; split <;> rfl
@[simp] theorem State.jnlPersist_staged (ty co cl ob : Nat) (d : List Nat) (a : JnlAct) : (s.jnlPersist ty co cl ob d a).staged = s.staged := by unfold State.jnlPersist; dsimp only; split <;> rfl
@[simp] theorem State.jnlPersist_recs (ty co cl ob : Nat) (d : List Nat) (a : JnlAct) : (s.jnlPersist ty co cl ob d a).recs = s.recs := by unfold State.jnlPersist; dsimp only; split <;> rfl
@[simp] theorem State.jnlPersist_stagedRecs (ty co cl ob : Nat) (d : List Nat) (a : JnlAct) : (s.jnlPersist ty co cl ob d a).stagedRecs = s.stagedRecs := by unfold State.jnlPersist; dsimp only; split <;> rfl
@[simp] theorem State.jnlPersist_stagedLog (ty co cl ob : Nat) (d : List Nat) (a : JnlAct) : (s.jnlPersist ty co cl ob d a).stagedLog = s.stagedLog := by unfold State.jnlPersist; dsimp only; split <;> rfl
@[simp] theorem State.jnlPersist_latches (ty co cl ob : Nat) (d : List Nat) (a : JnlAct) : (s.jnlPersist ty co cl ob d a).latches = s.latches := by unfold State.jnlPersist; dsimp only; split <;> rfl
@[simp] theorem State.jnlPersist_resp (ty co cl ob : Nat) (d : List Nat) (a : JnlAct) : (s.jnlPersist ty co cl ob d a).resp = s.resp := by unfold State.jnlPersist; dsimp only; split <;> rfl
@[simp] theorem State.jnlPersist_freeIx (ty co cl ob : Nat) (d : List Nat) (a : JnlAct) : (s.jnlPersist ty co cl ob d a).freeIx = s.freeIx := by unfold State.jnlPersist; dsimp only; split <;> rfl
@[simp] theorem State.jnlPersist_hostMem (ty co cl ob : Nat) (d : List Nat) (a : JnlAct) : (s.jnlPersist ty co cl ob d a).hostMem = s.hostMem := by unfold State.jnlPersist; dsimp only; split <;> rfl
@[simp] theorem State.jnlPersist_cnt (ty co cl ob : Nat) (d : List Nat) (a : JnlAct) : (s.jnlPersist ty co cl ob d a).cnt = s.cnt := by unfold State.jnlPersist; dsimp only; split <;> rfl
@[simp] theorem State.jnlPersist_chain (ty co cl ob : Nat) (d : List Nat) (a : JnlAct) : (s.jnlPersist ty co cl ob d a).chain = s.chain := by unfold State.jnlPersist; dsimp only; split <;> rfl
@[simp] theorem State.jnlPersist_evq (ty co cl ob : Nat) (d : List Nat) (a : JnlAct) : (s.jnlPersist ty co cl ob d a).evq = s.evq := by unfold State.jnlPersist; dsimp only; split <;> rfl
@[simp] theorem State.jnlPersist_mbx (ty co cl ob : Nat) (d : List Nat) (a : JnlAct) : (s.jnlPersist ty co cl ob d a).mbx = s.mbx := by unfold State.jnlPersist; dsimp only; split <;> rfl
@[simp] theorem State.jnlPersist_qp (ty co cl ob : Nat) (d : List Nat) (a : JnlAct) : (s.jnlPersist ty co cl ob d a).qp = s.qp := by unfold State.jnlPersist; dsimp only; split <;> rfl
@[simp] theorem State.jnlPersist_snap (ty co cl ob : Nat) (d : List Nat) (a : JnlAct) : (s.jnlPersist ty co cl ob d a).snap = s.snap := by unfold State.jnlPersist; dsimp only; split <;> rfl
@[simp] theorem State.jnlPersist_rig (ty co cl ob : Nat) (d : List Nat) (a : JnlAct) : (s.jnlPersist ty co cl ob d a).rig = s.rig := by unfold State.jnlPersist; dsimp only; split <;> rfl
@[simp] theorem State.jnlPersist_sup (ty co cl ob : Nat) (d : List Nat) (a : JnlAct) : (s.jnlPersist ty co cl ob d a).sup = s.sup := by unfold State.jnlPersist; dsimp only; split <;> rfl
@[simp] theorem State.jnlPersist_tim (ty co cl ob : Nat) (d : List Nat) (a : JnlAct) : (s.jnlPersist ty co cl ob d a).tim = s.tim := by unfold State.jnlPersist; dsimp only; split <;> rfl
@[simp] theorem State.jnlPersist_ds (ty co cl ob : Nat) (d : List Nat) (a : JnlAct) : (s.jnlPersist ty co cl ob d a).ds = s.ds := by unfold State.jnlPersist; dsimp only; split <;> rfl
@[simp] theorem State.jnlPersist_us (ty co cl ob : Nat) (d : List Nat) (a : JnlAct) : (s.jnlPersist ty co cl ob d a).us = s.us := by unfold State.jnlPersist; dsimp only; split <;> rfl
@[simp] theorem State.jnlPersist_disc (ty co cl ob : Nat) (d : List Nat) (a : JnlAct) : (s.jnlPersist ty co cl ob d a).disc = s.disc := by unfold State.jnlPersist; dsimp only; split <;> rfl
@[simp] theorem State.jnlPersist_onu (ty co cl ob : Nat) (d : List Nat) (a : JnlAct) : (s.jnlPersist ty co cl ob d a).onu = s.onu := by unfold State.jnlPersist; dsimp only; split <;> rfl
@[simp] theorem State.jnlPersist_hal (ty co cl ob : Nat) (d : List Nat) (a : JnlAct) : (s.jnlPersist ty co cl ob d a).hal = s.hal := by unfold State.jnlPersist; dsimp only; split <;> rfl
@[simp] theorem State.jnlPersist_prevRegs (ty co cl ob : Nat) (d : List Nat) (a : JnlAct) : (s.jnlPersist ty co cl ob d a).prevRegs = s.prevRegs := by unfold State.jnlPersist; dsimp only; split <;> rfl
@[simp] theorem State.jnlPersist_prevRecs (ty co cl ob : Nat) (d : List Nat) (a : JnlAct) : (s.jnlPersist ty co cl ob d a).prevRecs = s.prevRecs := by unfold State.jnlPersist; dsimp only; split <;> rfl
@[simp] theorem State.jnlPersist_prs (ty co cl ob : Nat) (d : List Nat) (a : JnlAct) : (s.jnlPersist ty co cl ob d a).prs = s.prs := by unfold State.jnlPersist; dsimp only; split <;> rfl
@[simp] theorem State.jnlPersist_fwd (ty co cl ob : Nat) (d : List Nat) (a : JnlAct) : (s.jnlPersist ty co cl ob d a).fwd = s.fwd := by unfold State.jnlPersist; dsimp only; split <;> rfl
@[simp] theorem State.jnlPersist_toParse (ty co cl ob : Nat) (d : List Nat) (a : JnlAct) : (s.jnlPersist ty co cl ob d a).toParse = s.toParse := by unfold State.jnlPersist; dsimp only; split <;> rfl
@[simp] theorem State.jnlPersist_parsed (ty co cl ob : Nat) (d : List Nat) (a : JnlAct) : (s.jnlPersist ty co cl ob d a).parsed = s.parsed := by unfold State.jnlPersist; dsimp only; split <;> rfl
@[simp] theorem State.jnlPersist_rxq (ty co cl ob : Nat) (d : List Nat) (a : JnlAct) : (s.jnlPersist ty co cl ob d a).rxq = s.rxq := by unfold State.jnlPersist; dsimp only; split <;> rfl
@[simp] theorem State.jnlPersist_pktNo (ty co cl ob : Nat) (d : List Nat) (a : JnlAct) : (s.jnlPersist ty co cl ob d a).pktNo = s.pktNo := by unfold State.jnlPersist; dsimp only; split <;> rfl
@[simp] theorem State.jnlPersist_mate (ty co cl ob : Nat) (d : List Nat) (a : JnlAct) : (s.jnlPersist ty co cl ob d a).mate = s.mate := by unfold State.jnlPersist; dsimp only; split <;> rfl
@[simp] theorem State.jnlPersist_lanes (ty co cl ob : Nat) (d : List Nat) (a : JnlAct) : (s.jnlPersist ty co cl ob d a).lanes = s.lanes := by unfold State.jnlPersist; dsimp only; split <;> rfl
@[simp] theorem State.jnlPersist_shr (ty co cl ob : Nat) (d : List Nat) (a : JnlAct) : (s.jnlPersist ty co cl ob d a).shr = s.shr := by unfold State.jnlPersist; dsimp only; split <;> rfl
@[simp] theorem State.jnlPersist_fab (ty co cl ob : Nat) (d : List Nat) (a : JnlAct) : (s.jnlPersist ty co cl ob d a).fab = s.fab := by unfold State.jnlPersist; dsimp only; split <;> rfl
@[simp] theorem State.jnlPersist_sht (ty co cl ob : Nat) (d : List Nat) (a : JnlAct) : (s.jnlPersist ty co cl ob d a).sht = s.sht := by unfold State.jnlPersist; dsimp only; split <;> rfl
@[simp] theorem State.jnlPersist_fw (ty co cl ob : Nat) (d : List Nat) (a : JnlAct) : (s.jnlPersist ty co cl ob d a).fw = s.fw := by unfold State.jnlPersist; dsimp only; split <;> rfl
@[simp] theorem State.jnlPersist_out (ty co cl ob : Nat) (d : List Nat) (a : JnlAct) : (s.jnlPersist ty co cl ob d a).out = s.out := by unfold State.jnlPersist; dsimp only; split <;> rfl

@[simp] theorem State.jnlPersist_reg_at (ty co cl ob : Nat) (d : List Nat) (a : JnlAct) (x : Nat) : (s.jnlPersist ty co cl ob d a).reg x = s.reg x := by simp [State.reg]
@[simp] theorem State.jnlPersist_fld_at (ty co cl ob : Nat) (d : List Nat) (a : JnlAct) (x : Fld) : (s.jnlPersist ty co cl ob d a).fld x = s.fld x := by simp [State.fld, State.reg]
@[simp] theorem State.jnlPersist_flag_at (ty co cl ob : Nat) (d : List Nat) (a : JnlAct) (x : Fld) : (s.jnlPersist ty co cl ob d a).flag x = s.flag x := by unfold State.flag; rw [State.jnlPersist_fld_at]
@[simp] theorem State.jnlPersist_released_at (ty co cl ob : Nat) (d : List Nat) (a : JnlAct) (x : Nat) : (s.jnlPersist ty co cl ob d a).released x = s.released x := by simp [State.released]

end Sys2Proof.Machine
end

