-- ==== Sys2Proof/Laws/Reg.lean ====
section
/-! SUPPORT. Laws of registers and fields: what a register or a field reads after another was written. -/

namespace Sys2Proof.Machine

theorem State.reg_setReg (s : State) (a b : Nat) (w : Word) : (s.setReg a w).reg b = if b = a then w else s.reg b := by
  unfold State.reg State.setReg
  by_cases h : b = a
  · subst h; simp
  · simp [h, Tbl.find_put_other]

@[simp] theorem State.reg_setReg_same (s : State) (a : Nat) (w : Word) : (s.setReg a w).reg a = w := by
  simp [State.reg_setReg]

theorem State.reg_setReg_other (s : State) {a b : Nat} (w : Word) (h : b ≠ a) : (s.setReg a w).reg b = s.reg b := by
  simp [State.reg_setReg, h]

/-- The three parts of a word around a field. -/
theorem setBits_toNat (w : Word) (lo wd v : Nat) (h : lo + wd ≤ 32) :
    (setBits w lo wd v).toNat = w.toNat % 2 ^ lo + (v % 2 ^ wd) * 2 ^ lo + w.toNat / 2 ^ (lo + wd) * 2 ^ (lo + wd) := by
  have hw : w.toNat < 2 ^ 32 := w.isLt
  have ha : w.toNat % 2 ^ lo < 2 ^ lo := Nat.mod_lt _ (by positivity)
  have hb : v % 2 ^ wd + 1 ≤ 2 ^ wd := Nat.mod_lt _ (by positivity)
  have h1 : (v % 2 ^ wd + 1) * 2 ^ lo ≤ 2 ^ wd * 2 ^ lo := Nat.mul_le_mul_right _ hb
  have hc : w.toNat / 2 ^ (lo + wd) + 1 ≤ 2 ^ (32 - (lo + wd)) := by
    apply Nat.div_lt_of_lt_mul
    rw [← pow_add, Nat.add_sub_cancel' h]
    exact hw
  have h2 := Nat.mul_le_mul_right (2 ^ (lo + wd)) hc
  rw [← pow_add, Nat.sub_add_cancel h] at h2
  have h3 : 2 ^ (lo + wd) = 2 ^ wd * 2 ^ lo := by rw [pow_add, mul_comm]
  unfold setBits
  rw [BitVec.toNat_ofNat, Nat.mod_eq_of_lt]
  rw [add_mul] at h1 h2
  omega

@[simp] theorem getBits_setBits_same (w : Word) (lo wd v : Nat) (h : lo + wd ≤ 32) :
    getBits (setBits w lo wd v) lo wd = v % 2 ^ wd := by
  unfold getBits
  rw [setBits_toNat w lo wd v h]
  have e : w.toNat % 2 ^ lo + v % 2 ^ wd * 2 ^ lo + w.toNat / 2 ^ (lo + wd) * 2 ^ (lo + wd)
      = w.toNat % 2 ^ lo + 2 ^ lo * (v % 2 ^ wd + 2 ^ wd * (w.toNat / 2 ^ (lo + wd))) := by rw [pow_add]; ring
  rw [e, Nat.add_mul_div_left _ _ (by positivity), Nat.div_eq_of_lt (Nat.mod_lt _ (by positivity)), Nat.zero_add,
    Nat.add_mul_mod_self_left, Nat.mod_mod]

/-- A field apart from the one written reads as before. -/
theorem getBits_setBits_other (w : Word) {lo wd lo' wd' : Nat} (v : Nat) (h : lo + wd ≤ 32) (d : lo' + wd' ≤ lo ∨ lo + wd ≤ lo') :
    getBits (setBits w lo wd v) lo' wd' = getBits w lo' wd' := by
  unfold getBits
  rw [setBits_toNat w lo wd v h]
  rcases d with d | d
  · have key : ∀ x : Nat, x / 2 ^ lo' % 2 ^ wd' = x % 2 ^ (lo' + wd') / 2 ^ lo' := fun x => by
      rw [pow_add, Nat.mod_mul_right_div_self]
    rw [key, key]
    congr 1
    obtain ⟨k, rfl⟩ := Nat.exists_eq_add_of_le d
    have e : w.toNat % 2 ^ (lo' + wd' + k) + v % 2 ^ wd * 2 ^ (lo' + wd' + k)
        + w.toNat / 2 ^ (lo' + wd' + k + wd) * 2 ^ (lo' + wd' + k + wd)
        = w.toNat % 2 ^ (lo' + wd' + k)
          + 2 ^ (lo' + wd') * (2 ^ k * (v % 2 ^ wd) + w.toNat / 2 ^ (lo' + wd' + k + wd) * 2 ^ (k + wd)) := by
      rw [show lo' + wd' + k + wd = lo' + wd' + (k + wd) by ring, pow_add 2 (lo' + wd') (k + wd), pow_add 2 (lo' + wd') k]; ring
    rw [e, Nat.add_mul_mod_self_left, Nat.mod_mod_of_dvd _ (pow_dvd_pow 2 (by omega))]
  · obtain ⟨k, rfl⟩ := Nat.exists_eq_add_of_le d
    congr 1
    have hlt : w.toNat % 2 ^ lo + v % 2 ^ wd * 2 ^ lo < 2 ^ (lo + wd) := by
      have ha : w.toNat % 2 ^ lo < 2 ^ lo := Nat.mod_lt _ (by positivity)
      have hb : v % 2 ^ wd + 1 ≤ 2 ^ wd := Nat.mod_lt _ (by positivity)
      have h1 := Nat.mul_le_mul_right (2 ^ lo) hb
      have h3 : 2 ^ (lo + wd) = 2 ^ wd * 2 ^ lo := by rw [pow_add, mul_comm]
      rw [add_mul] at h1
      omega
    rw [pow_add 2 (lo + wd) k, ← Nat.div_div_eq_div_mul, ← Nat.div_div_eq_div_mul, Nat.add_mul_div_right _ _ (by positivity),
      Nat.div_eq_of_lt hlt, Nat.zero_add]

@[simp] theorem State.fld_setFld_same (s : State) (f : Fld) (v : Nat) (h : f.lo + f.width ≤ 32) :
    (s.setFld f v).fld f = v % 2 ^ f.width := by
  simp [State.fld, State.setFld, h]

/-- A field of another register, or another field of the same, reads as before. -/
theorem State.fld_setFld_other (s : State) {f g : Fld} (v : Nat) (h : f.lo + f.width ≤ 32)
    (d : g.addr ≠ f.addr ∨ g.lo + g.width ≤ f.lo ∨ f.lo + f.width ≤ g.lo) : (s.setFld f v).fld g = s.fld g := by
  unfold State.fld State.setFld
  by_cases e : g.addr = f.addr
  · rw [e, State.reg_setReg_same]
    exact getBits_setBits_other _ v h (by tauto)
  · rw [State.reg_setReg_other _ _ e]

theorem State.reg_setFld_other (s : State) {f : Fld} {a : Nat} (v : Nat) (h : a ≠ f.addr) : (s.setFld f v).reg a = s.reg a := by
  unfold State.setFld
  exact State.reg_setReg_other _ _ h

/-! The same laws over the table of registers alone: they pass through an update of any other part of the state. -/

/-- The field that a table of registers gives. -/
def Regs.fld (r : Table Word) (f : Fld) : Nat := getBits (Tbl.find r f.addr (RegMap.reset f.addr)) f.lo f.width

/-- A table of registers with a field set. -/
def Regs.set (r : Table Word) (f : Fld) (v : Nat) : Table Word :=
  Tbl.put r f.addr (RegMap.reset f.addr) (setBits (Tbl.find r f.addr (RegMap.reset f.addr)) f.lo f.width v)

theorem State.fld_regs (s : State) (f : Fld) : s.fld f = Regs.fld s.regs f := (rfl)

theorem State.setFld_regs (s : State) (f : Fld) (v : Nat) : (s.setFld f v).regs = Regs.set s.regs f v := (rfl)

theorem Regs.fld_set_same (r : Table Word) (f : Fld) (v : Nat) (h : f.lo + f.width ≤ 32) : Regs.fld (Regs.set r f v) f = v % 2 ^ f.width := by
  simp [Regs.fld, Regs.set, h]

theorem Regs.fld_set_other (r : Table Word) {f g : Fld} (v : Nat) (h : f.lo + f.width ≤ 32)
    (d : g.addr ≠ f.addr ∨ g.lo + g.width ≤ f.lo ∨ f.lo + f.width ≤ g.lo) : Regs.fld (Regs.set r f v) g = Regs.fld r g := by
  unfold Regs.fld Regs.set
  by_cases e : g.addr = f.addr
  · rw [e, Tbl.find_put_same]
    exact getBits_setBits_other _ v h (by tauto)
  · rw [Tbl.find_put_other _ _ _ _ e]

theorem State.fld_lt (s : State) (f : Fld) : s.fld f < 2 ^ f.width := Nat.mod_lt _ (by positivity)

end Sys2Proof.Machine
end

