-- ==== Sys2Proof/Laws/Post.lean ====
section
/-! SUPPORT. Laws of counting and of posting events: what they depend on, and what they leave. -/

namespace Sys2Proof.Machine

/-- What counting reads and writes: two states that agree on the counters and the chain bits agree on them after the same count. -/
theorem State.countN_congr (s t : State) (hc : t.cnt = s.cnt) (hh : t.chain = s.chain) (c : Ctr) (i j n : Nat) :
    (t.countN c i j n).cnt = (s.countN c i j n).cnt := by
  unfold State.countN State.countAt State.chained
  rw [hh, hc]
  split
  · exact hc
  · dsimp only; split <;> rfl

theorem State.count_congr (s t : State) (hc : t.cnt = s.cnt) (hh : t.chain = s.chain) (c : Ctr) (i : Nat) :
    (t.count c i).cnt = (s.count c i).cnt := State.countN_congr s t hc hh c i 0 1

/-- What posting reads: the event queue, the counters with their chain bits, the time base, the journal, and three fields. -/
structure PostSame (s t : State) : Prop where
  evq : t.evq = s.evq
  cnt : t.cnt = s.cnt
  chain : t.chain = s.chain
  tim : t.tim.ns = s.tim.ns ∧ t.tim.sec = s.tim.sec
  mem : t.mem = s.mem
  en : t.flag F.mbxEvqCtrl_enable = s.flag F.mbxEvqCtrl_enable
  mask : t.fld F.memJnlMask_mask = s.fld F.memJnlMask_mask
  epoch : t.fld F.rigEpoch_current = s.fld F.rigEpoch_current

theorem State.enqueueEvent_congr (s t : State) (h : PostSame s t) (e : EventRec) :
    (t.enqueueEvent e).evq = (s.enqueueEvent e).evq ∧ (t.enqueueEvent e).cnt = (s.enqueueEvent e).cnt := by
  unfold State.enqueueEvent
  rw [h.en, h.evq]
  split
  · exact ⟨rfl, h.cnt⟩
  · split
    · exact ⟨rfl, h.cnt⟩
    · refine ⟨by simp, ?_⟩
      apply State.count_congr
      exacts [h.cnt, h.chain]

theorem State.postRaw_congr (s t : State) (h : PostSame s t) (c : Nat) (d : List Nat) :
    (t.postRaw c d).evq = (s.postRaw c d).evq ∧ (t.postRaw c d).cnt = (s.postRaw c d).cnt := by
  have hr : t.eventRec c d = s.eventRec c d := by unfold State.eventRec; rw [h.evq, h.tim.1, h.tim.2, h.epoch]
  obtain ⟨h1, h2⟩ := State.enqueueEvent_congr s t h (s.eventRec c d)
  unfold State.postRaw
  rw [hr]
  constructor
  · simp [h1]
  · simpa using State.count_congr (s.enqueueEvent (s.eventRec c d)) (t.enqueueEvent (s.eventRec c d)) h2 (by simp [h.chain]) _ _

theorem PostSame.postRaw {s t : State} (h : PostSame s t) (c : Nat) (d : List Nat) : PostSame (s.postRaw c d) (t.postRaw c d) :=
  ⟨(State.postRaw_congr s t h c d).1, (State.postRaw_congr s t h c d).2, by simp [h.chain], by simp [h.tim], by simp [h.mem],
    by simp [h.en], by simp [h.mask], by simp [h.epoch]⟩

theorem PostSame.count {s t : State} (h : PostSame s t) (c : Ctr) (i : Nat) : PostSame (s.count c i) (t.count c i) :=
  ⟨by simp [h.evq], State.count_congr s t h.cnt h.chain c i, by simp [h.chain], by simp [h.tim], by simp [h.mem],
    by simp [h.en], by simp [h.mask], by simp [h.epoch]⟩

theorem PostSame.jnlEvent {s t : State} (h : PostSame s t) (c : Nat) (d : List Nat) : PostSame (s.jnlEvent c d) (t.jnlEvent c d) := by
  have hj : t.jnlRec 4 c 0 0 d .none = s.jnlRec 4 c 0 0 d .none := by unfold State.jnlRec; rw [h.tim.1, h.tim.2, h.epoch]
  unfold State.jnlEvent
  rw [h.mask, h.mem, hj]
  split
  · exact h
  · split
    · exact ⟨h.evq, h.cnt, h.chain, h.tim, rfl, h.en, h.mask, h.epoch⟩
    · have hk := h.count Cn.jnlDrop 0
      dsimp only
      rw [hk.mem]
      split
      · exact hk
      · refine PostSame.postRaw ?_ _ _
        exact ⟨hk.evq, hk.cnt, hk.chain, hk.tim, rfl, hk.en, hk.mask, hk.epoch⟩

theorem PostSame.post {s t : State} (h : PostSame s t) (c : Nat) (d : List Nat) : PostSame (s.post c d) (t.post c d) :=
  (h.postRaw c d).jnlEvent c d

theorem PostSame.refl (s : State) : PostSame s s := ⟨rfl, rfl, rfl, ⟨rfl, rfl⟩, rfl, rfl, rfl, rfl⟩

theorem PostSame.trans {s t u : State} (h : PostSame s t) (k : PostSame t u) : PostSame s u :=
  ⟨k.evq.trans h.evq, k.cnt.trans h.cnt, k.chain.trans h.chain, ⟨k.tim.1.trans h.tim.1, k.tim.2.trans h.tim.2⟩, k.mem.trans h.mem,
    k.en.trans h.en, k.mask.trans h.mask, k.epoch.trans h.epoch⟩

/-- A field that posting does not read may change. -/
theorem PostSame.setFld {s t : State} (h : PostSame s t) (f : Fld) (v : Nat) (hw : f.lo + f.width ≤ 32)
    (h1 : F.mbxEvqCtrl_enable.addr ≠ f.addr) (h2 : F.memJnlMask_mask.addr ≠ f.addr) (h3 : F.rigEpoch_current.addr ≠ f.addr) :
    PostSame s (t.setFld f v) :=
  ⟨h.evq, h.cnt, h.chain, h.tim, h.mem,
    by unfold State.flag; rw [State.fld_setFld_other _ _ hw (.inl h1)]; exact h.en,
    by rw [State.fld_setFld_other _ _ hw (.inl h2)]; exact h.mask,
    by rw [State.fld_setFld_other _ _ hw (.inl h3)]; exact h.epoch⟩

end Sys2Proof.Machine
end

