-- ==== Sys2Proof/Laws/Frame.lean ====
section
/-! SUPPORT. Laws of the frame: writing a field leaves the other fields, and frames compose. -/

namespace Sys2Proof.Safety

open Sys2Proof.Machine

theorem FldsBut.refl (l : List Fld) (s : State) : FldsBut l s s := fun _ _ => rfl

theorem FldsBut.of_regs {l : List Fld} {s t u : State} (h : FldsBut l s t) (e : u.regs = t.regs) : FldsBut l s u := fun g hg => by
  rw [← h g hg]; unfold State.fld State.reg; rw [e]

/-- Writing a listed field keeps the frame. -/
theorem FldsBut.setFld {l : List Fld} {s t : State} (h : FldsBut l s t) {f : Fld} (v : Nat) (hf : f ∈ l) (hw : f.lo + f.width ≤ 32) :
    FldsBut l s (t.setFld f v) := fun g hg => by
  rw [State.fld_setFld_other _ _ hw]
  · exact h g hg
  · have := hg f hf
    unfold Apart at this
    tauto

theorem FrameBut.refl (l : List Part) (s : State) : FrameBut l s s := fun p _ => by cases p <;> rfl

theorem FrameBut.trans {l : List Part} {s t u : State} (h : FrameBut l s t) (k : FrameBut l t u) : FrameBut l s u := fun p hp => by
  have a := h p hp
  have b := k p hp
  cases p <;> simp_all [Part.Same]

theorem FrameBut.mono {l k : List Part} {s t : State} (h : FrameBut l s t) (hl : l ⊆ k) : FrameBut k s t := fun p hp => h p (fun m => hp (hl m))

end Sys2Proof.Safety
end

