-- ==== Sys2Proof/Laws/Inv.lean ====
section
/-! SUPPORT. The canonical form of the host memory and of the counters is kept by every operation that writes them, and by every operation
that writes neither. -/

namespace Sys2Proof.Safety

open Sys2Proof.Machine

/-- The invariant reads the counters and the host memory only. -/
theorem Inv.congr {s t : State} (h : Inv s) (hc : t.cnt = s.cnt) (hm : t.hostMem = s.hostMem) : Inv t := by
  unfold Inv HostMemOk CountersOk at *; rw [hc, hm]; exact h

theorem CountersOk.put {s t : State} (h : CountersOk s) (k v : Nat) (hc : t.cnt = Tbl.put s.cnt k 0 (v % 2 ^ 48)) : CountersOk t := by
  unfold CountersOk at *
  refine ⟨by rw [hc]; exact Tbl.wf_put s.cnt (fun _ => 0) k _ h.1, fun j => ?_⟩
  rw [hc, Tbl.find_put]
  split
  · exact Nat.mod_lt _ (by decide)
  · exact h.2 j

theorem Inv.countAt {s : State} (h : Inv s) (c : Ctr) (o n : Nat) : Inv (s.countAt c o n) := by
  refine ⟨?_, ?_⟩
  · unfold State.countAt HostMemOk at *; dsimp only; split <;> exact h.1
  · unfold State.countAt; dsimp only
    split
    · exact CountersOk.put (s := { s with cnt := Tbl.put s.cnt (c.key o) 0 ((Tbl.find s.cnt (c.key o) 0 + n) % 2 ^ 48) }) (CountersOk.put h.2 _ _ rfl) _ _ rfl
    · exact CountersOk.put h.2 _ _ rfl

theorem Inv.countN {s : State} (h : Inv s) (c : Ctr) (i j n : Nat) : Inv (s.countN c i j n) := by
  unfold State.countN; split
  · exact h
  · exact h.countAt _ _ _

theorem Inv.count {s : State} (h : Inv s) (c : Ctr) (i : Nat) : Inv (s.count c i) := h.countN _ _ _ _

theorem Inv.hostWrite {s : State} (h : Inv s) (l : List Nat) (a : Nat) : Inv (s.hostWrite a l) := by
  induction l generalizing s a with
  | nil => exact h
  | cons b r ih =>
    refine ih (s := { s with hostMem := Tbl.put s.hostMem a none (some (BitVec.ofNat 8 b)) }) ⟨?_, h.2⟩ _
    show Tbl.wf (Tbl.put s.hostMem a none (some (BitVec.ofNat 8 b))) (fun _ => none) = true
    exact Tbl.wf_put s.hostMem (fun _ => none) a (some (BitVec.ofNat 8 b)) h.1

theorem Inv.enqueueEvent {s : State} (h : Inv s) (e : EventRec) : Inv (s.enqueueEvent e) := by
  unfold State.enqueueEvent; split
  · exact h.congr rfl rfl
  · split
    · exact h.congr rfl rfl
    · apply Inv.count
      exact Inv.congr (s := s) h rfl rfl

theorem Inv.postRaw {s : State} (h : Inv s) (c : Nat) (d : List Nat) : Inv (s.postRaw c d) :=
  Inv.congr (s := (s.enqueueEvent (s.eventRec c d)).count Cn.eventPosted c) ((h.enqueueEvent _).count _ _) rfl rfl

theorem Inv.jnlEvent {s : State} (h : Inv s) (c : Nat) (d : List Nat) : Inv (s.jnlEvent c d) := by
  unfold State.jnlEvent; split
  · exact h
  · split
    · exact h.congr rfl rfl
    · dsimp only; split
      · exact h.count _ _
      · apply Inv.postRaw
        exact Inv.congr (s := s.count Cn.jnlDrop 0) (h.count _ _) rfl rfl

theorem Inv.post {s : State} (h : Inv s) (c : Nat) (d : List Nat) : Inv (s.post c d) := (h.postRaw c d).jnlEvent c d

theorem Inv.jnlPersist {s : State} (h : Inv s) (a b c d : Nat) (e : List Nat) (x : JnlAct) : Inv (s.jnlPersist a b c d e x) := by
  unfold State.jnlPersist; dsimp only; split <;> exact h.congr rfl rfl

theorem Inv.setReg {s : State} (h : Inv s) (a : Nat) (w : Word) : Inv (s.setReg a w) := h.congr rfl rfl
theorem Inv.setFld {s : State} (h : Inv s) (f : Fld) (v : Nat) : Inv (s.setFld f v) := h.congr rfl rfl
theorem Inv.tickFree {s : State} (h : Inv s) : Inv s.tickFree := h.congr rfl rfl
theorem Inv.emit {s : State} (h : Inv s) (o : Output) : Inv (s.emit o) := h.congr rfl rfl
theorem Inv.tell {s : State} (h : Inv s) (k c : Nat) (w : List Nat) : Inv (s.tell k c w) := h.congr rfl rfl
theorem Inv.reply {s : State} (h : Inv s) (d : List Nat) : Inv (s.reply d) := h.congr rfl rfl
theorem Inv.setRecord {s : State} (h : Inv s) (k i : Nat) (w : List Nat) : Inv (s.setRecord k i w) := h.congr rfl rfl

/-- A write of host memory reads back, and every byte outside it stands. -/
theorem hostByte_hostWrite_other (l : List Nat) (s : State) (a x : Nat) (h : x < a ∨ a + l.length ≤ x) : hostByte (s.hostWrite a l) x = hostByte s x := by
  induction l generalizing s a with
  | nil => rfl
  | cons b r ih =>
    simp only [List.length_cons] at h
    show hostByte (State.hostWrite _ (a + 1) r) x = _
    rw [ih _ _ (by omega)]
    exact Tbl.find_put_other s.hostMem (k := a) (j := x) none none (some (BitVec.ofNat 8 b)) (by omega)

theorem hostHas_hostWrite (l : List Nat) (s : State) (a : Nat) : HostHas (s.hostWrite a l) a l := by
  induction l generalizing s a with
  | nil => intro j hj; simp at hj
  | cons b r ih =>
    intro j hj
    show hostByte (State.hostWrite _ (a + 1) r) (a + j) = _
    cases j with
    | zero => rw [hostByte_hostWrite_other _ _ _ _ (by omega)]; simp [hostByte]
    | succ j =>
      have h := ih { s with hostMem := Tbl.put s.hostMem a none (some (BitVec.ofNat 8 b)) } (a + 1) j (by simpa using hj)
      rw [show a + (j + 1) = a + 1 + j by omega]; simpa using h

end Sys2Proof.Safety
end

