-- ==== Sys2Proof/Laws/Parts.lean ====
section
/-! SUPPORT. A part of the state other than the registers may be replaced without touching the fields; one that posting does not read, without
touching what posting does. One lemma for each part. -/

namespace Sys2Proof

open Sys2Proof.Machine Sys2Proof.Safety

theorem Safety.FldsBut.pending {l : List Fld} {s t : State} (h : FldsBut l s t) (x : List Instr) : FldsBut l s { t with pending := x } := fun g hg => h g hg
theorem Safety.FldsBut.staged {l : List Fld} {s t : State} (h : FldsBut l s t) (x : Table (Option Word)) : FldsBut l s { t with staged := x } := fun g hg => h g hg
theorem Safety.FldsBut.recs {l : List Fld} {s t : State} (h : FldsBut l s t) (x : Table (List Nat)) : FldsBut l s { t with recs := x } := fun g hg => h g hg
theorem Safety.FldsBut.stagedRecs {l : List Fld} {s t : State} (h : FldsBut l s t) (x : Table (Option (List Nat))) : FldsBut l s { t with stagedRecs := x } := fun g hg => h g hg
theorem Safety.FldsBut.stagedLog {l : List Fld} {s t : State} (h : FldsBut l s t) (x : List StagedEnt) : FldsBut l s { t with stagedLog := x } := fun g hg => h g hg
theorem Safety.FldsBut.latches {l : List Fld} {s t : State} (h : FldsBut l s t) (x : Table (Option Word)) : FldsBut l s { t with latches := x } := fun g hg => h g hg
theorem Safety.FldsBut.resp {l : List Fld} {s t : State} (h : FldsBut l s t) (x : Resp) : FldsBut l s { t with resp := x } := fun g hg => h g hg
theorem Safety.FldsBut.freeIx {l : List Fld} {s t : State} (h : FldsBut l s t) (x : Nat) : FldsBut l s { t with freeIx := x } := fun g hg => h g hg
theorem Safety.FldsBut.hostMem {l : List Fld} {s t : State} (h : FldsBut l s t) (x : Table (Option Byte)) : FldsBut l s { t with hostMem := x } := fun g hg => h g hg
theorem Safety.FldsBut.cnt {l : List Fld} {s t : State} (h : FldsBut l s t) (x : Table Nat) : FldsBut l s { t with cnt := x } := fun g hg => h g hg
theorem Safety.FldsBut.chain {l : List Fld} {s t : State} (h : FldsBut l s t) (x : Table Bool) : FldsBut l s { t with chain := x } := fun g hg => h g hg
theorem Safety.FldsBut.evq {l : List Fld} {s t : State} (h : FldsBut l s t) (x : EvqSt) : FldsBut l s { t with evq := x } := fun g hg => h g hg
theorem Safety.FldsBut.mbx {l : List Fld} {s t : State} (h : FldsBut l s t) (x : MbxSt) : FldsBut l s { t with mbx := x } := fun g hg => h g hg
theorem Safety.FldsBut.qp {l : List Fld} {s t : State} (h : FldsBut l s t) (x : Table QpSt) : FldsBut l s { t with qp := x } := fun g hg => h g hg
theorem Safety.FldsBut.snap {l : List Fld} {s t : State} (h : FldsBut l s t) (x : SnapSt) : FldsBut l s { t with snap := x } := fun g hg => h g hg
theorem Safety.FldsBut.rig {l : List Fld} {s t : State} (h : FldsBut l s t) (x : RigSt) : FldsBut l s { t with rig := x } := fun g hg => h g hg
theorem Safety.FldsBut.sup {l : List Fld} {s t : State} (h : FldsBut l s t) (x : SupSt) : FldsBut l s { t with sup := x } := fun g hg => h g hg
theorem Safety.FldsBut.tim {l : List Fld} {s t : State} (h : FldsBut l s t) (x : TimSt) : FldsBut l s { t with tim := x } := fun g hg => h g hg
theorem Safety.FldsBut.mem {l : List Fld} {s t : State} (h : FldsBut l s t) (x : MemSt) : FldsBut l s { t with mem := x } := fun g hg => h g hg
theorem Safety.FldsBut.ds {l : List Fld} {s t : State} (h : FldsBut l s t) (x : Table DsSt) : FldsBut l s { t with ds := x } := fun g hg => h g hg
theorem Safety.FldsBut.us {l : List Fld} {s t : State} (h : FldsBut l s t) (x : Table UsSt) : FldsBut l s { t with us := x } := fun g hg => h g hg
theorem Safety.FldsBut.disc {l : List Fld} {s t : State} (h : FldsBut l s t) (x : Table DiscSt) : FldsBut l s { t with disc := x } := fun g hg => h g hg
theorem Safety.FldsBut.onu {l : List Fld} {s t : State} (h : FldsBut l s t) (x : Table OnuCtx) : FldsBut l s { t with onu := x } := fun g hg => h g hg
theorem Safety.FldsBut.hal {l : List Fld} {s t : State} (h : FldsBut l s t) (x : HalSt) : FldsBut l s { t with hal := x } := fun g hg => h g hg
theorem Safety.FldsBut.prevRegs {l : List Fld} {s t : State} (h : FldsBut l s t) (x : Table Word) : FldsBut l s { t with prevRegs := x } := fun g hg => h g hg
theorem Safety.FldsBut.prevRecs {l : List Fld} {s t : State} (h : FldsBut l s t) (x : Table (List Nat)) : FldsBut l s { t with prevRecs := x } := fun g hg => h g hg
theorem Safety.FldsBut.prs {l : List Fld} {s t : State} (h : FldsBut l s t) (x : PrsSt) : FldsBut l s { t with prs := x } := fun g hg => h g hg
theorem Safety.FldsBut.fwd {l : List Fld} {s t : State} (h : FldsBut l s t) (x : FwdSt) : FldsBut l s { t with fwd := x } := fun g hg => h g hg
theorem Safety.FldsBut.toParse {l : List Fld} {s t : State} (h : FldsBut l s t) (x : Table (List Pkt)) : FldsBut l s { t with toParse := x } := fun g hg => h g hg
theorem Safety.FldsBut.parsed {l : List Fld} {s t : State} (h : FldsBut l s t) (x : Table (List Pkt)) : FldsBut l s { t with parsed := x } := fun g hg => h g hg
theorem Safety.FldsBut.rxq {l : List Fld} {s t : State} (h : FldsBut l s t) (x : Table (List RxPkt)) : FldsBut l s { t with rxq := x } := fun g hg => h g hg
theorem Safety.FldsBut.pktNo {l : List Fld} {s t : State} (h : FldsBut l s t) (x : Nat) : FldsBut l s { t with pktNo := x } := fun g hg => h g hg
theorem Safety.FldsBut.mate {l : List Fld} {s t : State} (h : FldsBut l s t) (x : MateSt) : FldsBut l s { t with mate := x } := fun g hg => h g hg
theorem Safety.FldsBut.lanes {l : List Fld} {s t : State} (h : FldsBut l s t) (x : LanesSt) : FldsBut l s { t with lanes := x } := fun g hg => h g hg
theorem Safety.FldsBut.shr {l : List Fld} {s t : State} (h : FldsBut l s t) (x : ShrSt) : FldsBut l s { t with shr := x } := fun g hg => h g hg
theorem Safety.FldsBut.fab {l : List Fld} {s t : State} (h : FldsBut l s t) (x : FabSt) : FldsBut l s { t with fab := x } := fun g hg => h g hg
theorem Safety.FldsBut.sht {l : List Fld} {s t : State} (h : FldsBut l s t) (x : ShtSt) : FldsBut l s { t with sht := x } := fun g hg => h g hg
theorem Safety.FldsBut.fw {l : List Fld} {s t : State} (h : FldsBut l s t) (x : List FwMsg) : FldsBut l s { t with fw := x } := fun g hg => h g hg
theorem Safety.FldsBut.out {l : List Fld} {s t : State} (h : FldsBut l s t) (x : List Output) : FldsBut l s { t with out := x } := fun g hg => h g hg
theorem Machine.PostSame.pending {s t : State} (h : PostSame s t) (x : List Instr) : PostSame s { t with pending := x } :=
  ⟨h.evq, h.cnt, h.chain, h.tim, h.mem, h.en, h.mask, h.epoch⟩
theorem Machine.PostSame.staged {s t : State} (h : PostSame s t) (x : Table (Option Word)) : PostSame s { t with staged := x } :=
  ⟨h.evq, h.cnt, h.chain, h.tim, h.mem, h.en, h.mask, h.epoch⟩
theorem Machine.PostSame.recs {s t : State} (h : PostSame s t) (x : Table (List Nat)) : PostSame s { t with recs := x } :=
  ⟨h.evq, h.cnt, h.chain, h.tim, h.mem, h.en, h.mask, h.epoch⟩
theorem Machine.PostSame.stagedRecs {s t : State} (h : PostSame s t) (x : Table (Option (List Nat))) : PostSame s { t with stagedRecs := x } :=
  ⟨h.evq, h.cnt, h.chain, h.tim, h.mem, h.en, h.mask, h.epoch⟩
theorem Machine.PostSame.stagedLog {s t : State} (h : PostSame s t) (x : List StagedEnt) : PostSame s { t with stagedLog := x } :=
  ⟨h.evq, h.cnt, h.chain, h.tim, h.mem, h.en, h.mask, h.epoch⟩
theorem Machine.PostSame.latches {s t : State} (h : PostSame s t) (x : Table (Option Word)) : PostSame s { t with latches := x } :=
  ⟨h.evq, h.cnt, h.chain, h.tim, h.mem, h.en, h.mask, h.epoch⟩
theorem Machine.PostSame.resp {s t : State} (h : PostSame s t) (x : Resp) : PostSame s { t with resp := x } :=
  ⟨h.evq, h.cnt, h.chain, h.tim, h.mem, h.en, h.mask, h.epoch⟩
theorem Machine.PostSame.freeIx {s t : State} (h : PostSame s t) (x : Nat) : PostSame s { t with freeIx := x } :=
  ⟨h.evq, h.cnt, h.chain, h.tim, h.mem, h.en, h.mask, h.epoch⟩
theorem Machine.PostSame.hostMem {s t : State} (h : PostSame s t) (x : Table (Option Byte)) : PostSame s { t with hostMem := x } :=
  ⟨h.evq, h.cnt, h.chain, h.tim, h.mem, h.en, h.mask, h.epoch⟩
theorem Machine.PostSame.mbx {s t : State} (h : PostSame s t) (x : MbxSt) : PostSame s { t with mbx := x } :=
  ⟨h.evq, h.cnt, h.chain, h.tim, h.mem, h.en, h.mask, h.epoch⟩
theorem Machine.PostSame.qp {s t : State} (h : PostSame s t) (x : Table QpSt) : PostSame s { t with qp := x } :=
  ⟨h.evq, h.cnt, h.chain, h.tim, h.mem, h.en, h.mask, h.epoch⟩
theorem Machine.PostSame.snap {s t : State} (h : PostSame s t) (x : SnapSt) : PostSame s { t with snap := x } :=
  ⟨h.evq, h.cnt, h.chain, h.tim, h.mem, h.en, h.mask, h.epoch⟩
theorem Machine.PostSame.rig {s t : State} (h : PostSame s t) (x : RigSt) : PostSame s { t with rig := x } :=
  ⟨h.evq, h.cnt, h.chain, h.tim, h.mem, h.en, h.mask, h.epoch⟩
theorem Machine.PostSame.sup {s t : State} (h : PostSame s t) (x : SupSt) : PostSame s { t with sup := x } :=
  ⟨h.evq, h.cnt, h.chain, h.tim, h.mem, h.en, h.mask, h.epoch⟩
theorem Machine.PostSame.ds {s t : State} (h : PostSame s t) (x : Table DsSt) : PostSame s { t with ds := x } :=
  ⟨h.evq, h.cnt, h.chain, h.tim, h.mem, h.en, h.mask, h.epoch⟩
theorem Machine.PostSame.us {s t : State} (h : PostSame s t) (x : Table UsSt) : PostSame s { t with us := x } :=
  ⟨h.evq, h.cnt, h.chain, h.tim, h.mem, h.en, h.mask, h.epoch⟩
theorem Machine.PostSame.disc {s t : State} (h : PostSame s t) (x : Table DiscSt) : PostSame s { t with disc := x } :=
  ⟨h.evq, h.cnt, h.chain, h.tim, h.mem, h.en, h.mask, h.epoch⟩
theorem Machine.PostSame.onu {s t : State} (h : PostSame s t) (x : Table OnuCtx) : PostSame s { t with onu := x } :=
  ⟨h.evq, h.cnt, h.chain, h.tim, h.mem, h.en, h.mask, h.epoch⟩
theorem Machine.PostSame.hal {s t : State} (h : PostSame s t) (x : HalSt) : PostSame s { t with hal := x } :=
  ⟨h.evq, h.cnt, h.chain, h.tim, h.mem, h.en, h.mask, h.epoch⟩
theorem Machine.PostSame.prevRegs {s t : State} (h : PostSame s t) (x : Table Word) : PostSame s { t with prevRegs := x } :=
  ⟨h.evq, h.cnt, h.chain, h.tim, h.mem, h.en, h.mask, h.epoch⟩
theorem Machine.PostSame.prevRecs {s t : State} (h : PostSame s t) (x : Table (List Nat)) : PostSame s { t with prevRecs := x } :=
  ⟨h.evq, h.cnt, h.chain, h.tim, h.mem, h.en, h.mask, h.epoch⟩
theorem Machine.PostSame.prs {s t : State} (h : PostSame s t) (x : PrsSt) : PostSame s { t with prs := x } :=
  ⟨h.evq, h.cnt, h.chain, h.tim, h.mem, h.en, h.mask, h.epoch⟩
theorem Machine.PostSame.fwd {s t : State} (h : PostSame s t) (x : FwdSt) : PostSame s { t with fwd := x } :=
  ⟨h.evq, h.cnt, h.chain, h.tim, h.mem, h.en, h.mask, h.epoch⟩
theorem Machine.PostSame.toParse {s t : State} (h : PostSame s t) (x : Table (List Pkt)) : PostSame s { t with toParse := x } :=
  ⟨h.evq, h.cnt, h.chain, h.tim, h.mem, h.en, h.mask, h.epoch⟩
theorem Machine.PostSame.parsed {s t : State} (h : PostSame s t) (x : Table (List Pkt)) : PostSame s { t with parsed := x } :=
  ⟨h.evq, h.cnt, h.chain, h.tim, h.mem, h.en, h.mask, h.epoch⟩
theorem Machine.PostSame.rxq {s t : State} (h : PostSame s t) (x : Table (List RxPkt)) : PostSame s { t with rxq := x } :=
  ⟨h.evq, h.cnt, h.chain, h.tim, h.mem, h.en, h.mask, h.epoch⟩
theorem Machine.PostSame.pktNo {s t : State} (h : PostSame s t) (x : Nat) : PostSame s { t with pktNo := x } :=
  ⟨h.evq, h.cnt, h.chain, h.tim, h.mem, h.en, h.mask, h.epoch⟩
theorem Machine.PostSame.mate {s t : State} (h : PostSame s t) (x : MateSt) : PostSame s { t with mate := x } :=
  ⟨h.evq, h.cnt, h.chain, h.tim, h.mem, h.en, h.mask, h.epoch⟩
theorem Machine.PostSame.lanes {s t : State} (h : PostSame s t) (x : LanesSt) : PostSame s { t with lanes := x } :=
  ⟨h.evq, h.cnt, h.chain, h.tim, h.mem, h.en, h.mask, h.epoch⟩
theorem Machine.PostSame.shr {s t : State} (h : PostSame s t) (x : ShrSt) : PostSame s { t with shr := x } :=
  ⟨h.evq, h.cnt, h.chain, h.tim, h.mem, h.en, h.mask, h.epoch⟩
theorem Machine.PostSame.fab {s t : State} (h : PostSame s t) (x : FabSt) : PostSame s { t with fab := x } :=
  ⟨h.evq, h.cnt, h.chain, h.tim, h.mem, h.en, h.mask, h.epoch⟩
theorem Machine.PostSame.sht {s t : State} (h : PostSame s t) (x : ShtSt) : PostSame s { t with sht := x } :=
  ⟨h.evq, h.cnt, h.chain, h.tim, h.mem, h.en, h.mask, h.epoch⟩
theorem Machine.PostSame.fw {s t : State} (h : PostSame s t) (x : List FwMsg) : PostSame s { t with fw := x } :=
  ⟨h.evq, h.cnt, h.chain, h.tim, h.mem, h.en, h.mask, h.epoch⟩
theorem Machine.PostSame.out {s t : State} (h : PostSame s t) (x : List Output) : PostSame s { t with out := x } :=
  ⟨h.evq, h.cnt, h.chain, h.tim, h.mem, h.en, h.mask, h.epoch⟩
theorem Safety.FldsBut.tickFree_ {l : List Fld} {s t : State} (h : FldsBut l s t) : FldsBut l s (t.tickFree) := h.of_regs (by simp)
theorem Machine.PostSame.tickFree_ {s t : State} (h : PostSame s t) : PostSame s (t.tickFree) :=
  ⟨h.evq, h.cnt, h.chain, h.tim, h.mem, h.en, h.mask, h.epoch⟩
theorem Safety.FldsBut.emit_ {l : List Fld} {s t : State} (h : FldsBut l s t) (o : Output) : FldsBut l s (t.emit o) := h.of_regs (by simp)
theorem Machine.PostSame.emit_ {s t : State} (h : PostSame s t) (o : Output) : PostSame s (t.emit o) :=
  ⟨h.evq, h.cnt, h.chain, h.tim, h.mem, h.en, h.mask, h.epoch⟩
theorem Safety.FldsBut.tell_ {l : List Fld} {s t : State} (h : FldsBut l s t) (k c : Nat) (ws : List Nat) : FldsBut l s (t.tell k c ws) := h.of_regs (by simp)
theorem Machine.PostSame.tell_ {s t : State} (h : PostSame s t) (k c : Nat) (ws : List Nat) : PostSame s (t.tell k c ws) :=
  ⟨h.evq, h.cnt, h.chain, h.tim, h.mem, h.en, h.mask, h.epoch⟩
theorem Safety.FldsBut.reply_ {l : List Fld} {s t : State} (h : FldsBut l s t) (d : List Nat) : FldsBut l s (t.reply d) := h.of_regs (by simp)
theorem Machine.PostSame.reply_ {s t : State} (h : PostSame s t) (d : List Nat) : PostSame s (t.reply d) :=
  ⟨h.evq, h.cnt, h.chain, h.tim, h.mem, h.en, h.mask, h.epoch⟩
theorem Safety.FldsBut.latch_ {l : List Fld} {s t : State} (h : FldsBut l s t) (m : Master) (a v : Nat) : FldsBut l s (t.latch m a v) := h.of_regs (by simp)
theorem Machine.PostSame.latch_ {s t : State} (h : PostSame s t) (m : Master) (a v : Nat) : PostSame s (t.latch m a v) :=
  ⟨h.evq, h.cnt, h.chain, h.tim, h.mem, h.en, h.mask, h.epoch⟩
theorem Safety.FldsBut.setRecord_ {l : List Fld} {s t : State} (h : FldsBut l s t) (k i : Nat) (ws : List Nat) : FldsBut l s (t.setRecord k i ws) := h.of_regs (by simp)
theorem Machine.PostSame.setRecord_ {s t : State} (h : PostSame s t) (k i : Nat) (ws : List Nat) : PostSame s (t.setRecord k i ws) :=
  ⟨h.evq, h.cnt, h.chain, h.tim, h.mem, h.en, h.mask, h.epoch⟩
theorem Safety.FldsBut.setPoison_ {l : List Fld} {s t : State} (h : FldsBut l s t) (m i : Nat) (b : Bool) : FldsBut l s (t.setPoison m i b) := h.of_regs (by simp)
theorem Safety.FldsBut.countAt_ {l : List Fld} {s t : State} (h : FldsBut l s t) (c : Ctr) (o n : Nat) : FldsBut l s (t.countAt c o n) := h.of_regs (by simp)
theorem Safety.FldsBut.countN_ {l : List Fld} {s t : State} (h : FldsBut l s t) (c : Ctr) (i j n : Nat) : FldsBut l s (t.countN c i j n) := h.of_regs (by simp)
theorem Safety.FldsBut.count_ {l : List Fld} {s t : State} (h : FldsBut l s t) (c : Ctr) (i : Nat) : FldsBut l s (t.count c i) := h.of_regs (by simp)
theorem Safety.FldsBut.enqueueEvent_ {l : List Fld} {s t : State} (h : FldsBut l s t) (e : EventRec) : FldsBut l s (t.enqueueEvent e) := h.of_regs (by simp)
theorem Safety.FldsBut.postRaw_ {l : List Fld} {s t : State} (h : FldsBut l s t) (c : Nat) (d : List Nat) : FldsBut l s (t.postRaw c d) := h.of_regs (by simp)
theorem Safety.FldsBut.jnlEvent_ {l : List Fld} {s t : State} (h : FldsBut l s t) (c : Nat) (d : List Nat) : FldsBut l s (t.jnlEvent c d) := h.of_regs (by simp)
theorem Safety.FldsBut.post_ {l : List Fld} {s t : State} (h : FldsBut l s t) (c : Nat) (d : List Nat) : FldsBut l s (t.post c d) := h.of_regs (by simp)
theorem Safety.FldsBut.jnlPersist_ {l : List Fld} {s t : State} (h : FldsBut l s t) (ty co cl ob : Nat) (d : List Nat) (a : JnlAct) : FldsBut l s (t.jnlPersist ty co cl ob d a) := h.of_regs (by simp)

/-- Posting at t is posting at s where the two agree on all that posting reads. -/
theorem Safety.Posted.of_same {s t u : State} (h : PostSame s t) {c : Nat} {d : List Nat} (e1 : u.evq = (t.post c d).evq)
    (e2 : u.cnt = (t.post c d).cnt) (e3 : u.mem = (t.post c d).mem) : Posted s u c d :=
  have k := h.post c d
  ⟨e1.trans k.evq, e2.trans k.cnt, e3.trans k.mem⟩

end Sys2Proof
end

