-- ==== Sys2Proof/WellFormed.lean ====
section
/-! DEFINITION. Well-formed commands: an access carries a master identity that R15 assigns (R16), a port is one that R168 encodes, and the data
that a command carries from outside have the sizes their rules give. -/

namespace Sys2Proof

/-- A master identity that R15 assigns. -/
def masterOk (m : Master) : Bool :=
  decide (m.toNat ≤ 0x10) || (decide (0x20 ≤ m.toNat) && decide (m.toNat ≤ 0x23)) || decide (m.toNat = 0x30) || decide (0x38 ≤ m.toNat)

/-- The master identity of a host or Mast-core access, or none for firmware's message (R19). -/
def issuerOk (m : Option Master) : Bool := (m.map masterOk).getD true

/-- A port as src_port encodes it: 0 to 255 PON channels, 256 to 383 uplink ports (R168). -/
def portOk (p : PortIx) : Bool := decide (p.toNat < 384)

/-- Numbers that are bytes. -/
def bytesOk (l : List Nat) : Bool := l.all (fun b => decide (b < 256))

/-- A downstream PLOAM message of 36 bytes of content (R74). -/
def ploamOk (p : Ploam) : Bool := bytesOk p.content && decide (p.content.length = 36) && decide (p.typ < 256) && ((p.onu.map (fun n => decide (n < 65536))).getD true)

/-- A stamp's nanoseconds lie within a second, and its words have 32 bits (R262). -/
def stampOk (t : Stamp) : Bool := decide (t.ns < 1000000000) && decide (t.hi < 2 ^ 32)

/-- A transmit descriptor: its fields have their widths and its packet the length it names (R343). -/
def txDescOk (d : TxDesc) : Bool :=
  decide (d.addr < 2 ^ 64) && decide (d.len < 2 ^ 16) && decide (d.tsId < 2 ^ 16) && decide (d.kind < 2 ^ 8) && decide (d.port < 2 ^ 9) && decide (d.cls < 8) &&
    decide (d.flow < 2 ^ 32) && bytesOk d.bytes && decide (d.bytes.length = d.len)

/-- A receive descriptor's fields have their widths (R345). -/
def rxDescOk (d : RxDesc) : Bool := decide (d.addr < 2 ^ 64) && decide (d.size < 2 ^ 16)

/-- What a burst carries lies within the numbering of contexts, Allocs and bytes (R89 to R93). -/
def burstOk (b : Burst) : Bool :=
  decide (b.onu < 65536) && b.allocs.all (fun a => decide (a.alloc < 131072) && a.frames.all (fun f => bytesOk f.bytes && decide (f.portId < 65536) && stampOk f.stamp))

/-- A table slot: one of 2^20 locations, or an overflow entry above them (R178, R195). -/
def slotReadOk (r : SlotRead) : Bool := decide (r.loc < 2 ^ 20 + 2 ^ 14)

/-- The SecTAG of a received frame: an AN of two bits, and a packet number and SCI of 64 bits (R246, R247). -/
def macRxOk (x : Option MacRx) : Bool := (x.map (fun r => decide (r.an < 4) && decide (r.pn < 2 ^ 64) && decide (r.sci.getD 0 < 2 ^ 64))).getD true

/-- The header of a message: its sequence number has 32 bits (R292). -/
def hdrOk (h : MsgHdr) : Bool := decide (h.seq < 2 ^ 32)

/-- The fields of a heartbeat have their widths (R293). -/
def heartbeatOk (h : Heartbeat) : Bool :=
  hdrOk h.hdr && decide (h.st < 2 ^ 8) && decide (h.prec < 2 ^ 8) && decide (h.epoch < 2 ^ 16) && decide (h.ack < 2 ^ 32) && decide (h.count < 2 ^ 32) && decide (h.ns < 2 ^ 30)

/-- The fields of a FRAME message have their widths, and its count is at most 512 (R306). -/
def frameMsgOk (f : FrameMsg) : Bool :=
  hdrOk f.hdr && decide (f.chan < 2 ^ 8) && decide (f.sfc < 2 ^ 51) && decide (f.epoch < 2 ^ 16) && decide (f.ns < 2 ^ 30) && decide (f.sec < 2 ^ 32) && decide (f.map.length ≤ 512)

/-- The fields of an ONU message have their widths (R306). -/
def onuMsgOk (o : OnuMsg) : Bool :=
  hdrOk o.hdr && decide (o.ctx < 2 ^ 16) && decide (o.chan < 2 ^ 8) && decide (o.st < 2 ^ 3) && decide (o.onuId < 2 ^ 10) && decide (o.keyIx < 2 ^ 2) && decide (o.rtd < 2 ^ 32) &&
    decide (o.eqd < 2 ^ 32) && decide (o.sn0 < 2 ^ 32) && decide (o.sn1 < 2 ^ 32)

/-- A wrapped blob of 16 blocks (R249, R306). -/
def blobOk (b : List Byte) : Bool := decide (b.length = 128)

/-- At most 255 records, each with an op of 1 to 6 (R306). -/
def learnOk (l : List LearnRec) : Bool := decide (l.length ≤ 255) && l.all (fun r => decide (1 ≤ r.op) && decide (r.op ≤ 6) && decide (r.part < 16) && decide (r.w2 < 2 ^ 32))

/-- The PFC frame names a quanta value for each of the eight classes (R234). -/
def quantaOk (q : List (BitVec 16)) : Bool := decide (q.length = 8)

/-- A well-formed command. -/
def Instr.wf : Instr → Bool
  | .registerWrite m _ _ _ => masterOk m
  | .rcFieldRead m _ => masterOk m
  | .lowWordRead m _ => masterOk m
  | .lockWrite m _ => masterOk m
  | .stagingWrite m _ _ => masterOk m
  | .check_ m => masterOk m
  | .checkDone => true
  | .apply_ m _ => masterOk m
  | .abort_ m => masterOk m
  | .discard m => masterOk m
  | .rerig m _ _ => masterOk m
  | .rerigDone => true
  | .confirm m => masterOk m
  | .attest m => masterOk m
  | .attestDone => true
  | .fuseOwner m => masterOk m
  | .loadTrim m => masterOk m
  | .loadSlot m => masterOk m
  | .loadSlotDone _ _ => true
  | .drainEnd _ => true
  | .drainForced => true
  | .schedTimeReached => true
  | .trialExpiring => true
  | .trialExpiry => true
  | .powerOnReset => true
  | .supplyReset _ _ => true
  | .supplyResetRelease => true
  | .perstAssert => true
  | .hostReset m => masterOk m
  | .pfFlr => true
  | .startupPhaseEnd _ => true
  | .thermalSensorRead _ => true
  | .thermalResetRelease => true
  | .reefEnter _ => true
  | .reefExit _ _ _ => true
  | .vddAuxLow => true
  | .vddAuxResume => true
  | .unretire m => masterOk m
  | .marchTestDone _ => true
  | .retRead m => masterOk m
  | .paceWindowEnd _ _ _ => true
  | .channelCtrlWrite m _ _ _ => masterOk m
  | .ploamFlush m _ => masterOk m
  | .chStartRunning _ => true
  | .chReadyTimeout _ => true
  | .moduleTxFault _ => true
  | .moduleAbsent _ => true
  | .quadRefUnlock _ => true
  | .chFaultRetry _ => true
  | .chFrameEndOff _ => true
  | .ponFrameStart _ => true
  | .mapCaptureArm m _ => masterOk m
  | .xgemEncapsulate _ _ _ _ => true
  | .ploamOffer _ _ msg _ => ploamOk msg
  | .contextUpdate _ _ => true
  | .flwReadApplied m _ _ => masterOk m
  | .flwReadStaged m _ => masterOk m
  | .flwWriteStaged m _ => masterOk m
  | .burstReceive _ b => burstOk b
  | .upstreamPacketIngress _ _ _ _ => true
  | .reasmTimeout _ _ => true
  | .rxLosHeld _ _ => true
  | .rogueObservation _ _ _ _ => true
  | .rogueClear _ => true
  | .aisFrameTimer _ => true
  | .pmSecondEnd _ _ _ => true
  | .uflReadApplied m _ _ => masterOk m
  | .uflReadStaged m _ => masterOk m
  | .uflWriteStaged m _ => masterOk m
  | .uonuReadApplied m _ _ => masterOk m
  | .uonuReadStaged m _ => masterOk m
  | .uonuWriteStaged m _ => masterOk m
  | .uonuClearPreset m _ => masterOk m
  | .openDisc via _ _ => issuerOk via
  | .closeDisc via _ _ => issuerOk via
  | .create via _ _ => issuerOk via
  | .assign via _ _ => issuerOk via
  | .range_ via _ _ => issuerOk via
  | .activate via _ _ => issuerOk via
  | .setEqd via _ _ => issuerOk via
  | .deactivate via _ _ => issuerOk via
  | .release via _ _ => issuerOk via
  | .abortRange via _ _ => issuerOk via
  | .ratRead via _ _ _ => issuerOk via
  | .discAnswer _ _ => true
  | .discSpanEnd _ _ => true
  | .discWindowEnd _ => true
  | .rangeMeasured _ _ _ => true
  | .rangeTriesExhausted _ => true
  | .chLeftBoundary _ => true
  | .rangeUpdateTimeout _ => true
  | .onuLost _ => true
  | .mapBuildStart _ _ => true
  | .mapLateDeadline _ => true
  | .mapVerdict _ _ _ => true
  | .statusReportTaken => true
  | .telltaleFrame => true
  | .alcReadApplied m _ => masterOk m
  | .alcReadStaged m => masterOk m
  | .alcWriteStaged m => masterOk m
  | .alcClearDynamic m => masterOk m
  | .uplinkPacketIngress _ _ _ _ stamp sec _ => stampOk stamp && macRxOk sec
  | .packetParse src _ reads => portOk src && reads.all slotReadOk
  | .learnProcess reads => reads.all slotReadOk
  | .agerVisit _ _ _ => true
  | .readSlot m _ _ => masterOk m
  | .lookup m reads => masterOk m && reads.all slotReadOk
  | .lookupStaged m => masterOk m
  | .insertStatic m => masterOk m
  | .deleteStatic m => masterOk m
  | .deleteDynamic m => masterOk m
  | .unpin m => masterOk m
  | .flush m _ => masterOk m
  | .ruleReadApplied m _ _ => masterOk m
  | .ruleReadStaged m => masterOk m
  | .ruleWriteStaged m => masterOk m
  | .ruleZeroData m => masterOk m
  | .lagReadApplied m _ _ => masterOk m
  | .lagReadStaged m => masterOk m
  | .lagWriteStaged m => masterOk m
  | .lagReturn _ _ => true
  | .fabricIngress src => portOk src
  | .cellSlot _ _ => true
  | .egressEnqueue d _ => portOk d
  | .spillBurstWrite _ => true
  | .refill _ _ _ => true
  | .bufferAlloc _ _ _ _ _ _ => true
  | .bufferFree _ _ _ _ => true
  | .portLinkLoss p => portOk p
  | .portLinkUp p => portOk p
  | .portHoldTimeout p => portOk p
  | .sheetPick p _ _ _ _ => portOk p
  | .calendarSlot _ => true
  | .gateEntryChange _ => true
  | .gateListActive _ => true
  | .pfcRefresh _ => true
  | .pfcFrameReceived _ _ quanta => quantaOk quanta
  | .pfcPauseExpiry _ _ => true
  | .pfcStorm _ _ => true
  | .nodeReadApplied m _ _ => masterOk m
  | .nodeReadStaged m => masterOk m
  | .nodeWriteStaged m => masterOk m
  | .nodeZeroData m => masterOk m
  | .qsRead m => masterOk m
  | .qsReadClear m => masterOk m
  | .uplinkFrameSent _ stamp => stampOk stamp
  | .rootLoad m _ => masterOk m
  | .mskLoad m => masterOk m
  | .keyLoad m _ => masterOk m
  | .keyClear m => masterOk m
  | .groupGen m => masterOk m
  | .groupExport m _ => masterOk m
  | .groupActivate m => masterOk m
  | .groupKeySwitch _ => true
  | .caKekLoad m => masterOk m
  | .saInstall m => masterOk m
  | .saExport m _ => masterOk m
  | .saDelete m => masterOk m
  | .setTxAn m => masterOk m
  | .saveClear m _ => masterOk m
  | .saveWrapped m _ => masterOk m
  | .restore m => masterOk m
  | .pnRead m _ => masterOk m
  | .cipherLaneFault _ _ => true
  | .set_ m => masterOk m
  | .adjust m => masterOk m
  | .setAtPps m => masterOk m
  | .ppsInEdge _ => true
  | .setAtPpsTimeout => true
  | .incCommit m _ => masterOk m
  | .timeNowRead m => masterOk m
  | .sfcRead m _ => masterOk m
  | .tsqRead m _ => masterOk m
  | .ppsiRead m => masterOk m
  | .ppsOutEdge => true
  | .ppsInLoss => true
  | .todOutMessage => true
  | .todoArm m _ => masterOk m
  | .todInByte _ => true
  | .todiRead m => masterOk m
  | .todCalc m => masterOk m
  | .dpllConfigWrite m _ _ => masterOk m
  | .dpllLock _ => true
  | .dpllRefLoss _ => true
  | .dpllRefReturn _ => true
  | .laneReefRequest m _ _ => masterOk m
  | .laneRestart m _ => masterOk m
  | .laneReefEntered _ => true
  | .laneLockAcquired _ => true
  | .adaptWindow _ _ _ _ _ => true
  | .laneLockLoss _ _ => true
  | .fomFailTimer _ => true
  | .slEnable m _ => masterOk m
  | .slSyncBlock _ _ _ _ _ => true
  | .heartbeatSend => true
  | .heartbeatReceived h => heartbeatOk h
  | .heartbeatLoss => true
  | .contestTakeover => true
  | .contestTimeout => true
  | .seekTimeout => true
  | .manual m _ => masterOk m
  | .forceActive m => masterOk m
  | .lockoutSet m => masterOk m
  | .lockoutClr m => masterOk m
  | .resync m => masterOk m
  | .revertNow m => masterOk m
  | .frameMessage f => frameMsgOk f
  | .onuMessage o => onuMsgOk o
  | .keysMessage h b => hdrOk h && blobOk b
  | .learnMessage h recs => hdrOk h && learnOk recs
  | .helloMessage h _ _ _ => hdrOk h
  | .timingMessage h arrival departed _ => hdrOk h && stampOk arrival && stampOk departed
  | .handoverMessage h _ _ => hdrOk h
  | .syncReq h => hdrOk h
  | .syncDone h => hdrOk h
  | .learnMessageSend => true
  | .helloSend => true
  | .timingSend departure => stampOk departure
  | .onuRoundRobinSend _ => true
  | .handoverBoundary => true
  | .wtrExpiry => true
  | .epochDiffTimer => true
  | .matePathFault _ => true
  | .scrubStart m _ => masterOk m
  | .scrubAbort m => masterOk m
  | .scrubWord _ _ => true
  | .scrubDone _ => true
  | .narrowWrite _ _ _ => true
  | .mergeReadReturn _ _ _ => true
  | .mergeEntryTimeout _ _ => true
  | .flipArm m _ => masterOk m
  | .weakEntryAge _ _ => true
  | .spareCopyDone _ _ _ => true
  | .hpprDone _ _ => true
  | .dramTempRead _ _ => true
  | .flashScan _ _ _ _ => true
  | .flashRefresh _ => true
  | .journalWrite _ => true
  | .jnlRead m _ => masterOk m
  | .mastCoreRestart _ => true
  | .txDoorbell m _ _ => masterOk m
  | .rxDoorbell m _ _ => masterOk m
  | .txDescriptorFetch _ d _ => txDescOk d
  | .rxPacketDeliver _ d _ _ => rxDescOk d
  | .dmaQpError _ _ => true
  | .qpEnable m _ => masterOk m
  | .qpDisable m _ => masterOk m
  | .qpStopDone _ => true
  | .qpOwnerWrite m _ owner => masterOk m && masterOk owner
  | .vfFlr _ => true
  | .flrDone _ => true
  | .eventEntryWrite => true
  | .vectorHoldoffEnd _ => true
  | .evqEnable m => masterOk m
  | .evqDisable m => masterOk m
  | .evqHeadWrite m _ => masterOk m
  | .mbxTxWrite m _ _ _ => masterOk m
  | .mbxRxRead m _ _ => masterOk m
  | .getInfo _ _ _ => true
  | .lockRead m _ => masterOk m
  | .lockRelease m _ => masterOk m
  | .lockForce m _ => masterOk m
  | .chainSet m => masterOk m
  | .chainClear m => masterOk m
  | .snapStart m => masterOk m
  | .snapAbort m => masterOk m
  | .snapDone => true
  | .i2cWrite m _ _ _ _ => masterOk m
  | .i2cRead m _ _ _ _ => masterOk m
  | .i2cWriteByte m _ _ _ => masterOk m
  | .i2cDone _ _ _ => true
  | .perstDeassert => true
  | .timeBaseTick => true
  | .loadTrimDone _ => true
  | .rowRemapDone _ _ _ => true

end Sys2Proof
end

