-- ==== Sys2Proof/Tests/Slice0.lean ====
section
/-! SUPPORT. The model's own tests: ill-formed commands that the check refuses; for each statement with hypotheses, concrete states and operands that meet the
hypotheses of its clauses; and values that the spec works out or prints. -/

set_option Elab.async false

namespace Sys2Proof.Tests

open Sys2Proof.Machine Sys2Proof.Safety

/-- The block out of reset. -/
def up : State := { State.reset with sup := { State.reset.sup with held := [] } }

/-- Fields of a state set to values. -/
def on (s : State) (l : List (Fld × Nat)) : State := l.foldl (fun s p => s.setFld p.1 p.2) s

/-- Channel k in state st. -/
def chan (k st : Nat) : State := on up [(F.pchSts_state k, st)]

/-- ONU context n bound to channel k, in state st and in force. -/
def onu (s : State) (n k st : Nat) : State := s.setOnu n { s.onuOf n with st := st, chan := k, stNow := st, chanNow := k }

/-- A packet of 64 bytes, of the epoch at reset. -/
def pkt : Pkt :=
  { num := 0, len := 64, bytes := List.replicate 64 0, src := 256, epoch := 1, flow := 0, cls := 0, dest := 0, hash := 0, stamp := { ns := 0, hi := 0 }, tsReq := none, master := 0,
    direct := false, host := false, macsec := false, poison := false, bad := false, entered := 0, onu := 0 }

/-- A good burst of ONU context n with nothing in it. -/
def burst (n : Nat) : Burst :=
  { onu := n, qualified := true, err := 0, hdrOk := true, fecUncorr := 0, fecCorr := 0, bipBits := 0, gasp := false, ploam := none, allocs := [], bits := 0, fom := 0, coef := 0,
    presetEcc := .clean, ctxEcc := .clean, rxLos := false }

/-- The block out of reset with every group of channels and of uplink ports bound, each uplink group with eight ports. -/
def net : State :=
  { up with rig := { up.rig with run := { up.rig.run with uplinks := 0xFFFF, groups := 0xFFFFFFFF, ugRec := (List.range 16).map (fun u => (u, (4, 0xFF))) } } }

/-- The state after a command that answers a next state. -/
def after (c : Instr) (s : State) : State := match exec c s with
  | .next t => t
  | _ => s

/-- The staging machine in state n. -/
def rigIn (n : Nat) : State := on up [(F.rigSts_state, n)]

/-- A slot holding an image that meets R44, in state st, in both places; start-up done. -/
def slotsIn (st : Nat) : State :=
  let i : Image := { net.rig.run with headerOk := true, ownerSigOk := true, hashesOk := true, oxgilOk := true, fwSigned := true, len := 62914560 }
  let s := on net [(F.glbStart_phase, 6), (F.rigBoot_no_image, 0)]
  { s with rig := { s.rig with slotA := { st := st, img := i }, slotB := { st := st, img := i }, trialStart := some 0 } }

theorem witness_stepRunsFront : State.reset.pending = [] := rfl

theorem witness_whatNoCommandChanges :
    (∃ f, exec (.registerWrite 0 0x10001C 4 0xFFFFFFFF) up = .fault f) ∧
    (∃ t, exec .helloSend { up with rig := { up.rig with ownerHash := some 5 } } = .next t) ∧ ({ up with rig := { up.rig with ownerHash := some 5 } } : State).rig.ownerHash ≠ none ∧
    ∀ m, Instr.helloSend ≠ .fuseOwner m := by
  refine ⟨⟨_, rfl⟩, ⟨_, rfl⟩, by decide, by simp⟩

theorem witness_stepKeepsInv : Inv State.reset ∧ step State.reset = .next State.reset := by
  refine ⟨⟨rfl, rfl, fun k => ?_⟩, rfl⟩
  change Tbl.find ([] : Table Nat) k 0 < 2 ^ 48
  simp [Tbl.find]

theorem witness_ulkRangeIsEmpty :
    0x2800000 ≤ (0x3FFFFF8 : BitVec 26).toNat ∧ (0x3FFFFF8 : BitVec 26).toNat % 8 = 0 ∧ (0x2800000 : BitVec 26).toNat % 4 = 0 ∧
      Tbl.find State.reset.latches (latchKey 0 0x2800000) none = none := by decide +kernel

theorem witness_registerWrite :
    (¬ ((2 : BitVec 4) = 4 ∧ 0 % 4 = 0) ∧ ¬ ((2 : BitVec 4) = 8 ∧ 0 % 8 = 0)) ∧
    (∀ a ∈ [0x2800000, 0x10001C, 0x400038, 0x114, 0x304, 0x100040], a % 4 = 0 ∧ mayWrite 0x23 = true ∧ up.released (domainOf a) = true ∧ up.mayStore 0x23 a = true) ∧
    RegMap.row? 0x2800000 = none ∧ (RegMap.row? 0x10001C).any (fun r => (0xFFFFFFFF : Word) &&& r.reserved ≠ 0) ∧
    (∀ a ∈ [0x10001C, 0x400038, 0x114], (up.inUse a).1 = false ∧ (RegMap.row? a).any (fun r => (0x800 : Word) &&& r.reserved = 0)) ∧
    (let s := on up [(F.glbI2cCmd_busy 0, 1)]; s.inUse 0x304 = (true, some (F.glbI2cCmd_cmd_lost 0)) ∧ (RegMap.row? 0x304).any (fun r => (0 : Word) &&& r.reserved = 0)) ∧
    (let s := { up with rig := { up.rig with attestBusy := true } }; s.inUse 0x100040 = (true, none) ∧ (RegMap.row? 0x100040).any (fun r => (0 : Word) &&& r.reserved = 0)) ∧
    ((RegMap.row? 0x114).any (fun r => RegRow.mask r (fun x => decide (x = .st)) = 0) ∧ ownBits 0x114 = 0) ∧
    (0x3FFFFF8 % 8 = 0 ∧ 0x3FFFFF8 + 4 < 2 ^ 26) := by decide +kernel

theorem witness_stagingWrite : (∀ a ∈ [0x80000C, 0x2000010], a % 4 = 0 ∧ mayWrite 0x20 = true ∧ up.released (domainOf a) = true ∧
    ((RegMap.row? a).any fun r => (0 : Word) &&& r.reserved = 0 ∧ RegRow.mask r (fun x => decide (x = .st)) ≠ 0)) ∧
    ∀ n ∈ [0, 1, 2, 3, 7, 4, 5, 6], (on up [(F.rigSts_state, n)]).rigState = n := by decide +kernel

theorem witness_registerReads : 1 % 4 ≠ 0 ∧ reaches 0 = true ∧
    Tbl.find ({ up with latches := Tbl.put up.latches (latchKey 0 0x400054) none (some 7) } : State).latches (latchKey 0 0x400054) none = some 7 ∧
    (∀ a ∈ [0x400050, 0x114], Tbl.find up.latches (latchKey 0 a) none = none) ∧ isLow (F.pchSfcLo_sfc 255).addr = true ∧ isLow 0x114 = false ∧
    ∀ a ∈ [F.mateHb_lost.addr, F.glbRatPool_low_water.addr, F.glbPaceHal_worst_lead.addr], a % 4 = 0 ∧ a < 2 ^ 26 ∧ up.released (domainOf a) = true := by decide +kernel

theorem witness_channelStates : ∀ k ∈ [0, 255],
    (let s := chan k 1; mayWrite 0 = true ∧ s.released 7 = true ∧ s.ch k = 1 ∧ s.rerigging (chRegion k) = false ∧ s.mateStandby = false) ∧
    (∀ n ∈ [0, 1, 2, 3, 5, 6], (chan k n).ch k = n) ∧ mayWrite 0x24 = false ∧
    (∀ n ∈ [2, 3, 5], let s := on (chan k n) [(F.pchCtrl_enable k, 1), (F.pchCtrl_tx_off k, 0)]; s.ch k = n ∧ s.flag (F.pchCtrl_enable k) = true ∧ s.flag (F.pchCtrl_tx_off k) = false) ∧
    (let s := (on (chan k 5) [(F.pchCtrl_enable k, 1)]).setDs k { dsInit with retryOk := true }
     s.ch k = 5 ∧ s.flag (F.pchCtrl_enable k) = true ∧ s.flag (F.pchCtrl_tx_off k) = false ∧ (s.dsOf k).retryOk = true ∧ s.mateStandby = false) ∧
    ((chan k 5).dsOf k).retryOk = false ∧
    (let s := (chan k 3).setDs k { dsInit with stopping := true }; s.ch k = 3 ∧ (s.dsOf k).stopping = true ∧ s.flag (F.pchCtrl_enable k) = false) ∧
    ((chan k 3).dsOf k).stopping = false := by decide +kernel

theorem witness_framesPloamFlows : ∀ k ∈ [0, 255],
    (let s := (chan k 3).setDs k { dsInit with stopping := true }; (s.dsOf k).stopping = true) ∧ (chan k 1).ch k ≠ 3 ∧
    (let s := (chan k 3).setHal k { halChInit with verdicts := [{ sfc := 1, map := some [], reason := 0, epoch := 0, cfg := [] }] }
     s.ch k = 3 ∧ (s.dsOf k).stopping = false ∧ (s.fld (F.pchSfcHi_sfc k) * 2 ^ 32 + s.fld (F.pchSfcLo_sfc k) + 1) % 2 ^ 51 = 1 ∧
       ∃ v, (s.halOf k).verdicts.find? (fun v => v.sfc = 1) = some v ∧ v.map = some []) ∧
    (let s := (chan k 3).setHal k { halChInit with first := false }
     (s.halOf k).verdicts.find? (fun v => v.sfc = 1) = none ∧ (s.halOf k).first = false ∧ s.flag (F.halChSts_stuck k) = false ∧ s.fld F.halSts_slice_lost / 2 ^ (k / 32) % 2 = 0) ∧
    (let p : Ploam := { onu := none, typ := 1, content := List.replicate 36 0 }
     ((chan k 3).dsOf k).urgent.length < 8 ∧ ((chan k 3).dsOf k).unicast.length < 64 ∧ ((chan k 3).dsOf k).broadcast.length < 16 ∧
       8 ≤ (((chan k 3).setDs k { dsInit with urgent := List.replicate 8 p }).dsOf k).urgent.length) ∧
    (flwBound (up.record kFlw 0) k = false ∧ let s := up.setRecord kFlw 0 [1, 0, k + 1]
     flwBound (s.record kFlw 0) k = true ∧ s.poisoned 3 (Config.wordIx 3 kFlw 0) = false ∧ Tbl.find s.mem.flipped (memKey 3 (Config.wordIx 3 kFlw 0)) 0 = 0) ∧
    (let s := { up with stagedRecs := Tbl.put up.stagedRecs (recKey kFlw 0) none (some [1, 0, k + 1]) }
     Tbl.find s.stagedRecs (recKey kFlw 0) none = some [1, 0, k + 1] ∧ flwBound [1, 0, k + 1] k = true) ∧ up.rigState < 4 := by
  intro k hk
  simp only [List.mem_cons, List.not_mem_nil, or_false] at hk
  obtain rfl | rfl := hk
  all_goals refine ⟨by decide +kernel, by decide +kernel, ⟨by decide +kernel, by decide +kernel, by decide +kernel, _, rfl, rfl⟩, by decide +kernel, by decide +kernel, by decide +kernel,
    by decide +kernel, by decide +kernel⟩

/-- A state whose registers hold a re-rig of a region. -/
def rerigOf (r : Nat) : State := let s := on up [(F.rigSts_state, 6)]; { s with rig := { s.rig with region := r } }

theorem witness_encapsulation :
    (let s := ((chan 255 3).setRecord kFlw 0 [0, 1, 256]).setDs 255 { dsInit with edge := [pkt], space := 100 }
     (s.dsOf 255).edge = [pkt] ∧ s.ch 255 = 3 ∧ s.poisoned 3 (Config.wordIx 3 kFlw pkt.flow) = false ∧ Tbl.find s.mem.flipped (memKey 3 (Config.wordIx 3 kFlw pkt.flow)) 0 = 0 ∧ pkt.tsReq = none ∧
       recBits [0, 0, 256] 1 0 0 = 0 ∧ recBits (s.record kFlw 0) 1 0 0 = 1 ∧ flwBound (s.record kFlw 0) 255 = true ∧ 2 ≤ ((onu s 0 255 2).onuOf (recBits (s.record kFlw 0) 0 31 16)).stNow ∧
       (on s [(F.pchDsCfg_mtu 255, 63)]).fld (F.pchDsCfg_mtu 255) < pkt.len ∧ pkt.len ≤ (on s [(F.pchDsCfg_mtu 255, 64)]).fld (F.pchDsCfg_mtu 255) ∧ recBits (s.record kFlw 0) 1 1 1 = 0 ∧
       8 + 4 * ((pkt.len + 3) / 4) ≤ (s.dsOf 255).space ∧ 71 < 8 + 4 * ((pkt.len + 3) / 4) ∧ 24 ≤ 71 ∧ 23 < 24) ∧
    ((up.dsOf 0).edge = [] ∧ (up.onuOf 65535).st = 0 ∧ ((onu up 65535 255 6).onuOf 65535).st ≠ 0) ∧ (mayWrite 1 = false ∧ mayWrite 0x23 = true ∧ up.released 7 = true) ∧
    ((rerigOf 0x20F).rerigging (0x200 + 127 / 8) = true ∧ up.rerigging (0x200 + 127 / 8) = false ∧ up.portBound (256 + 127) = false ∧
      net.portBound (256 + 127) = true ∧ isPfc (List.replicate 64 0) = false ∧ up.secures 0 (List.replicate 64 0) = false) := by decide +kernel

theorem witness_burstsAndPackets :
    (chan 255 1).ch 255 ≠ 3 ∧
    (let s := onu (on (chan 255 3) [(F.pchUsCfg_lob_thr 255, 4)]) 65535 255 4
     s.ch 255 = 3 ∧ s.poisoned 3 (Config.wordIx 3 kOnuCtx 65535) = false ∧ Tbl.find s.mem.flipped (memKey 3 (Config.wordIx 3 kOnuCtx 65535)) 0 = 0 ∧ (burst 65535).ctxEcc = .clean ∧
       (s.onuOf 65535).presetValid = false ∧ (s.onuOf 65535).stNow = 4 ∧ (s.onuOf 65535).chanNow = 255 ∧ ({ burst 65535 with qualified := false } : Burst).qualified = false ∧
       (burst 65535).qualified = true ∧ (burst 65535).hdrOk = true ∧ (s.onuOf 65535).missed + 1 < s.fld (F.pchUsCfg_lob_thr 255) ∧ (s.onuOf 65535).lobi = false ∧
       (s.onuOf 0).stNow ≠ 4 ∧ (let t := s.setOnu 65535 { s.onuOf 65535 with missed := 3 }; t.fld (F.pchUsCfg_lob_thr 255) ≤ (t.onuOf 65535).missed + 1 ∧ t.los 255 = false)) ∧
    (let p : UsPkt := { onu := 7, portId := 65535, keyIx := 0, bytes := [1], stamp := { ns := 0, hi := 0 } }
     let s := (chan 255 3).setUs 255 { usInit with edge := [p] }; let ix := 255 * 65536 + 65535
     (up.usOf 0).edge = [] ∧ (s.usOf 255).edge = [p] ∧ s.poisoned 3 (Config.wordIx 3 kUfl ix) = false ∧ Tbl.find s.mem.flipped (memKey 3 (Config.wordIx 3 kUfl ix)) 0 = 0 ∧
       recBits (s.record kUfl ix) 0 31 31 = 0 ∧ (let ws := (s.setRecord kUfl ix [2 ^ 31, 8]).record kUfl ix; recBits ws 0 31 31 = 1 ∧ recBits ws 1 15 0 ≠ p.onu) ∧
       (let ws := (s.setRecord kUfl ix [2 ^ 31, 2 ^ 16 + 7]).record kUfl ix; recBits ws 0 31 31 = 1 ∧ recBits ws 1 15 0 = p.onu ∧ p.keyIx = 0 ∧ recBits ws 1 16 16 = 1) ∧
       (let ws := (s.setRecord kUfl ix [2 ^ 31, 7]).record kUfl ix; recBits ws 0 31 31 = 1 ∧ recBits ws 1 15 0 = p.onu ∧ recBits ws 1 16 16 = 0) ∧
       up.openOf 255 131071 = none ∧ (let q : OpenPkt := { pkt := p, age := 7, bad := false }; (s.setOpen 255 131071 (some q)).openOf 255 131071 = some q ∧ q.age < 8) ∧
       (let q : OpenPkt := { pkt := p, age := 8, bad := false }; (s.setOpen 255 131071 (some q)).openOf 255 131071 = some q ∧ 8 ≤ q.age)) := by decide +kernel

theorem witness_lossRogueAisPm : ∀ k ∈ [0, 255],
    ((chan k 1).ch k ≠ 3 ∧ (let s := chan k 3; s.ch k = 3 ∧ s.los k = false ∧ s.flag (F.pchUsSts_rogue k) = false) ∧ (on (chan k 3) [(F.pchUsSts_rogue k, 1)]).flag (F.pchUsSts_rogue k) = true ∧
      (let s := on (chan k 3) [(F.pchUsCfg_los_frames k, 4)]; (s.usOf k).silent < s.fld (F.pchUsCfg_los_frames k)) ∧
      (let s := (on (chan k 3) [(F.pchUsCfg_los_frames k, 4)]).setUs k { usInit with silent := 4 }; s.fld (F.pchUsCfg_los_frames k) ≤ (s.usOf k).silent)) ∧
    (up.aisCond 65535 = false ∧ let s := (onu (on (chan k 3) [(F.pchUsSts_los k, 1)]) 65535 k 4).setRecord kUonu 65535 [2 ^ 31, 0]
     s.aisCond 65535 = true ∧ recBits (s.record kUonu 65535) 0 31 31 = 1) ∧
    (let o := onuInit; o.lossSeen = false ∧ ({ o with lossSeen := true } : OnuCtx).lossSeen = true ∧ 0 < 10 ∧ 30 * 10 ≤ 3 * 100 ∧ 2 * 100 < 30 * 10 ∧ 1 ≤ 2 ∧ o.errored = 0) ∧
    (let s := onu (chan k 3) 65535 k 4; let w := Config.wordIx 3 kPm 65535
     s.poisoned 3 w = false ∧ Tbl.find s.mem.flipped (memKey 3 w) 0 = 0 ∧ (s.onuOf 65535).st ≠ 0 ∧ (s.onuOf 65535).stNow = 4 ∧ s.ch k = 3 ∧ (s.onuOf 65535).pm.length < 9 ∧
       (let y : PmSec := { cls := 2, unavail := false, sec := 5 }; let o : OnuCtx := { s.onuOf 65535 with pm := List.replicate 9 y, lossSeen := true }
        o.pm.length = 9 ∧ o.unavail = false ∧ pmClass o 30 = 2 ∧ ∀ y ∈ o.pm, y.cls = 2) ∧
       (let y : PmSec := { cls := 1, unavail := false, sec := 5 }; let o : OnuCtx := { s.onuOf 65535 with pm := y :: List.replicate 9 y }
        (List.replicate 9 y).length = 9 ∧ o.unavail = false ∧ pmClass o 30 = 0)) := by decide +kernel

theorem witness_upstreamWindows : mayWrite 0x10 = false ∧ mayWrite 0x20 = true ∧ up.released 7 = true ∧ up.rigState < 4 ∧
    (let w := Config.wordIx 3 kUfl 0; up.poisoned 3 w = false ∧ Tbl.find up.mem.flipped (memKey 3 w) 0 = 0 ∧ up.flag F.memFlipCtrl_armed = false) ∧
    ((up.setPoison 3 (Config.wordIx 3 kUfl 0) true).poisoned 3 (Config.wordIx 3 kUfl 0) = true) ∧ (up.onuOf 0).st = 0 ∧ ((onu up 0 3 4).onuOf 0).chan ≠ 255 ∧
    (let s := onu up 0 255 4; (s.onuOf (s.fld (F.pchUonuAddr_onu 255))).st ≠ 0 ∧ (s.onuOf (s.fld (F.pchUonuAddr_onu 255))).chan = 255 ∧ (s.onuOf 0).presetValid = false) := by
  refine ⟨by decide, by decide, by decide, by decide +kernel, by decide +kernel, ?_, by decide +kernel, by decide +kernel, by decide +kernel⟩
  simp [State.poisoned, State.setPoison]

/-- Arguments of a Ratline command. -/
def rat (ctx onuId tries a1 a2 a3 : Nat) : RatArgs := { ctx := ctx, onuId := onuId, tries := tries, a1 := a1, a2 := a2, a3 := a3, poison := false }

/-- 64 channels with a discovery window open, on engines 0 to 63. -/
def windows : State := { up with disc := (List.range 64).map fun c => (c, { discInit with opened := true, engine := c, frames := 2 }) }

theorem witness_ratlineRefusals :
    (mayWrite 0x30 = false ∧ ({ rat 0 0 0 0 0 0 with poison := true } : RatArgs).poison = true ∧ (chan 255 4).ch 255 = 4 ∧
      (∀ via ∈ [some 0x20, none], up.ratOpen via = true ∧ (up.ratArgs via 255 (rat 0 0 0 0 0 0)).poison = false)) ∧
    (∀ a ∈ [rat 65535 1020 1 1 1 0x101, rat 65535 1021 0 1 1 0], RatTaken (chan 255 3) none 255 a a) ∧ RatTaken (chan 255 3) (some 0) 255 (rat 0 0 0 0 0 0) (rat 0 0 0 0 0 0) ∧
    ((chan 255 1).ch 255 ≠ 3 ∧ bits 0 11 8 = 0 ∧ bits 0x100 11 8 ≠ 0 ∧ (windows.discOf 63).opened = true ∧ ((on windows [(F.pchSts_state 255, 3)]).discOf 255).opened = false ∧
      (∀ e, e < 64 → e ∈ windows.enginesUsed) ∧ 1020 < 1021) ∧
    ((onu up 65535 3 1).otherCh 65535 255 = true ∧ (onu up 65535 255 1).otherCh 65535 255 = false) ∧
    (let s := onu up 65535 255 1; (s.onuOf 65535).st ≠ 0 ∧ (s.onuOf 9).st = 0 ∧ (∃ p ∈ s.onu, p.2.st ≠ 0 ∧ p.2.chan = 255 ∧ p.2.sn0 = 0 ∧ p.2.sn1 = 0)) ∧
    (∀ n ∈ [0, 1, 2, 3, 4, 5], ((onu up 65535 255 n).onuOf 65535).st = n) ∧
    (let s := { up with onu := (List.range 256).map fun n => (n, { onuInit with st := 2, chan := 255, onuId := n }) }
     256 ≤ (s.held 255).length ∧ s.otherCh 300 255 = false) ∧
    (let s := onu (onu up 65534 255 2) 65535 255 1; (s.held 255).length < 256 ∧ (∃ x ∈ s.held 255, x.onuId = 0)) ∧
    (let m : Meas := { tries := 1, rtdMin := 0, rtdMax := 9, profile := 0 }
     let s := { up with onu := (List.range 8).map (fun n => (n, { onuInit with st := 3, chan := 255, meas := some m })) }; 8 ≤ (s.measuring 255).length) ∧
    (onuInit.measured = false ∧ onuInit.prop = none ∧ ({ onuInit with update := some 1 } : OnuCtx).update.isSome = true ∧ (let p := (1, 2, 3); (0 : Nat) ≠ p.2.1)) := by
  unfold RatTaken; decide +kernel

theorem witness_discoveryWindows :
    RatTaken (chan 255 3) none 255 (rat 0 0 0 1 2 0x100) (rat 0 0 0 1 2 0x100) ∧ RatTaken windows (some 0) 63 (rat 0 0 0 0 0 0) (rat 0 0 0 0 0 0) ∧
    (let s := chan 255 3; s.ch 255 = 3 ∧ bits 0x100 11 8 ≠ 0 ∧ bits 0xF00 11 8 = 15 ∧ (s.discOf 255).opened = false ∧ 0 ∉ s.enginesUsed ∧ ∀ j, j < 0 → j ∈ s.enginesUsed) ∧
    (let s := { windows with disc := windows.disc.take 63 }; 63 ∉ s.enginesUsed ∧ ∀ j, j < 63 → j ∈ s.enginesUsed) ∧
    (let d := windows.discOf 63; d.opened = true ∧ d.spent < d.frames ∧ d.inFrame < 8 ∧ d.total < 255 ∧ (windows.discOf 64).opened = false) ∧
    (let s := windows.setDisc 63 { windows.discOf 63 with inFrame := 8, total := 254 }; (s.discOf 63).spent < (s.discOf 63).frames ∧ 8 ≤ (s.discOf 63).inFrame) ∧
    (let s := windows.setDisc 63 { windows.discOf 63 with spent := 2 }; (s.discOf 63).opened = true ∧ (s.discOf 63).frames ≤ (s.discOf 63).spent ∧ (s.discOf 63).spent = (s.discOf 63).frames) ∧
    (let m : Meas := { tries := 1, rtdMin := 0, rtdMax := 9, profile := 0 }; let s := (chan 255 5).setOnu 7 { onuInit with st := 3, chan := 255, meas := some m }
     (chan 255 3).ch 255 = 3 ∧ s.ch 255 ≠ 3 ∧ 7 ∈ s.measuring 255 ∧ (s.onuOf 7).meas.isSome = true ∧ 8 ∉ s.measuring 255) := by
  unfold RatTaken; decide +kernel

theorem witness_contextCommands :
    (∀ via ∈ [some 0x23, none], RatTaken up via 255 (rat 0 0 0 0 0 0) (rat 0 0 0 0 0 0)) ∧ RatTaken up none 255 (rat 65535 1020 15 1 2 3) (rat 65535 1020 15 1 2 3) ∧
    (up.otherCh 65535 255 = false ∧ (up.onuOf 65535).st = 0 ∧ ∀ p ∈ (onu up 3 255 1).onu, p.2.st ≠ 0 → p.2.chan = 255 → p.2.sn0 = 0 → p.2.sn1 ≠ 1) ∧
    (let s := onu up 65535 255 1; s.otherCh 65535 255 = false ∧ (s.onuOf 65535).st = 1 ∧ (s.held 255).length < 256 ∧ ∀ x ∈ s.held 255, x.onuId ≠ 1020) ∧
    (∀ n ∈ [2, 3, 4, 5], let s := onu up 65535 255 n; (s.onuOf 65535).st = n ∧ (s.measuring 255).length < 8 ∧ (s.onuOf 65535).meas = none ∧ s.otherCh 65535 255 = false) ∧
    (let s := up.setOnu 65535 { onuInit with st := 3, chan := 255, measured := true }; (s.onuOf 65535).st = 3 ∧ (s.onuOf 65535).measured = true) ∧
    (let s := up.setOnu 65535 { onuInit with st := 4, chan := 255, prop := some (5, 6, 7) }
     (s.onuOf 65535).prop = some (5, 6, 7) ∧ (s.onuOf 65535).st = 4 ∧ (s.onuOf 65535).update = none ∧ (rat 65535 0 0 6 0 0).a1 = 6) ∧
    (let m : Meas := { tries := 1, rtdMin := 0, rtdMax := 9, profile := 0 }; let s := up.setOnu 65535 { onuInit with st := 3, chan := 255, meas := some m }
     2 ≤ (s.onuOf 65535).st ∧ (s.onuOf 65535).st = 3 ∧ (s.onuOf 65535).meas.isSome = true) ∧
    (let s := onu up 65535 255 2; s.ratOpen none = true ∧ s.poisoned 3 (Config.wordIx 3 kOnuCtx 65535) = false ∧ Tbl.find s.mem.flipped (memKey 3 (Config.wordIx 3 kOnuCtx 65535)) 0 = 0) := by
  unfold RatTaken; decide +kernel

theorem witness_rangingResults :
    (let m : Meas := { tries := 0, rtdMin := 100, rtdMax := 900, profile := 0 }
     let s := (on (chan 255 3) [(F.pchRatTeqd_teqd 255, 500)]).setOnu 65535 { onuInit with st := 3, chan := 255, prior := 2, meas := some m }
     (onuInit.meas = none ∧ (s.onuOf 65535).meas = some m ∧ (s.onuOf 65535).st = 3 ∧ s.ch 255 = 3 ∧ s.fld (F.pchRatTeqd_teqd 255) = 500) ∧
       ((99 : Int) < m.rtdMin ∧ (m.rtdMax : Int) < 901 ∧ (m.rtdMin : Int) ≤ 501 ∧ (501 : Int) ≤ m.rtdMax ∧ (m.rtdMin : Int) ≤ 500 ∧ (500 : Int) ≤ m.rtdMax) ∧ m.tries = 0 ∧
       ({ m with tries := 1 } : Meas).tries ≠ 0) ∧
    (({ onuInit with update := some 0 } : OnuCtx).update = some 0 ∧ onuInit.update ≠ some 0) ∧
    (let s := (chan 255 3).setOnu 65535 { onuInit with st := 4, chan := 255, lobi := true }; (s.onuOf 65535).st = 4 ∧ s.ch 255 ≠ 4 ∧ (s.onuOf 65535).lobi = true ∧ (chan 255 4).ch 255 = 4) ∧
    ((-1 : Int) < 0 ∧ (500 : Nat) < (501 : Int) ∧ 500 ≤ 500 ∧ 0 < 8) := by decide +kernel

/-- An image of the full profile that the checker accepts. -/
def good : Image :=
  { net.rig.run with drams := 0xF, ugRec := [], buf := { ingress := 16384, msgS := 4096, msgL := 1024, headroom := 0, guar := [], cap := [], seg := [] },
                     cipher := (List.range 16).map (fun l => (7 * 2 ^ (3 * l), 0xFF)) }

theorem witness_stagingMachine : mayWrite 0 = true ∧ mayWrite 0x24 = false ∧ up.released 2 = true ∧ (∀ n ∈ List.range 8, (rigIn n).rigState = n) ∧
    ({ up with sup := { up.sup with reefed := true } } : State).sup.reefed = true ∧ ({ up with rig := { up.rig with devApplies := [(2, 0)] } } : State).rig.devApplies ≠ [] ∧
    (let s := rigIn 2; s.sup.reefed = false ∧ s.rig.devApplies = [] ∧ s.schedOk = false ∧ s.prevLive = false ∧ (on s [(F.rigSts_prev_live, 1)]).prevLive = true ∧
      (on s [(F.rigSchedNs_ns, 1000000), (F.rigDrainLimit_limit_us, 500)]).schedOk = false ∧ (on s [(F.rigSchedNs_ns, 2000000), (F.rigDrainLimit_limit_us, 500)]).schedOk = true) ∧
    (up.rig.fresh = false ∧ ({ up with rig := { up.rig with fresh := true } } : State).rig.fresh = true) ∧
    (let s := rigIn 1; s.violations = [] ∧ ({ s with rig := { s.rig with pre := [{ code := 1, block := 0, stagedReg := false, section_ := 0, object := 0 }] } } : State).violations ≠ []) := by
  decide +kernel

theorem witness_epochsAndDrain :
    (let s := on up [(F.rigSts_prev_live, 1)]; s.prevLive = true ∧ s.oldUnits (s.fld F.rigEpoch_previous) = false ∧ s.oldFrames (s.fld F.rigEpoch_previous) = false) ∧
    (let s := { on up [(F.rigSts_prev_live, 1), (F.rigEpoch_previous, 65535)] with toParse := [(255, [{ pkt with epoch := 65535 }])] }
     s.prevLive = true ∧ s.oldUnits (s.fld F.rigEpoch_previous) = true ∧ s.oldFrames (s.fld F.rigEpoch_previous) = false) ∧
    (let s := rigIn 5; s.rigState = 5 ∧ s.rig.schedSec * 1000000000 + s.rig.schedNs ≤ s.nowNs ∧ s.sup.reefed = false ∧
      (let t := { s with rig := { s.rig with schedNs := 1 } }; t.nowNs < t.rig.schedSec * 1000000000 + t.rig.schedNs) ∧ ({ s with sup := { s.sup with reefed := true } } : State).sup.reefed = true) ∧
    (mayWrite 0 = true ∧ up.released 2 = true ∧ (rigIn 1).rigState ≠ 0 ∧ up.fld F.glbStart_phase ≠ 6) ∧
    (let s := slotsIn 3; s.rigState = 0 ∧ s.stagedEmpty = true ∧ s.sup.reefed = false ∧ s.rig.devApplies = [] ∧ s.fld F.glbStart_phase = 6 ∧ (s.slotOf 1).st ≠ 0 ∧ ((slotsIn 0).slotOf 1).st = 0 ∧
      s.meets (s.slotOf 1).img = true ∧ s.rerigViolations (s.slotOf 1).img 0 ≠ []) ∧
    (let s := slotsIn 3; s.rerigViolations (s.slotOf 0).img 0x100 = [] ∧ s.rerigViolations (s.slotOf 0).img 0x20F = [] ∧ s.rerigViolations good 0 = []) ∧
    ((on (rerigOf 0x20F) [(F.rigSts_prev_live, 1)]).prevLive = true ∧ (rerigOf 0x20F).rigState = 6 ∧ (rerigOf 0x20F).prevLive = false) := by
  decide +kernel

theorem witness_slotsAndAttestation : mayWrite 0x23 = true ∧ (0x23 : Master) ≠ 0 ∧ up.released 2 = true ∧ up.rig.loadTrimBusy = false ∧ up.rigState < 4 ∧
    (∀ n ∈ [4, 5, 6], (rigIn n).rigState = n) ∧ (slotsIn 2).booted = true ∧ (∀ n ∈ [0, 1, 2, 3, 4], ((slotsIn n).slotOf (slotsIn n).runSlot).st = n) ∧ up.rig.loadSlotBusy = false ∧
    4 ≤ (slotsIn 2).fld F.glbStart_phase ∧ up.rig.attestBusy = false ∧ (slotsIn 2).rig.trialStart.isSome = true ∧
    (let s := { slotsIn 2 with rig := { (slotsIn 2).rig with loadTrimBusy := true, loadSlotBusy := true, attestBusy := true } }
     s.rig.loadTrimBusy = true ∧ s.rig.loadSlotBusy = true ∧ s.rig.attestBusy = true ∧ s.rigState < 4 ∧ s.meets (s.slotOf 0).img = true ∧ (s.slotOf 0).img.len ≤ 62914560 ∧
       s.meets { (s.slotOf 0).img with hashesOk := false } = false) := by
  decide +kernel

/-- Channel k RUNNING in its XGS mode, with a build of the frame after next. -/
def built (k : Nat) : State := after (.mapBuildStart (BitVec.ofNat 8 k) none) (on (chan k 3) [(F.pchMode_mode k, 1)])

theorem witness_mapBuilds : ∀ k ∈ [0, 255],
    (let s := chan k 3; (chan k 1).ch k ≠ 3 ∧ s.ch k = 3 ∧ s.flag (F.halChSts_stuck k) = false ∧ s.fld F.halSts_slice_lost / 2 ^ (k / 32) % 2 = 0 ∧ (∀ b ∈ (s.halOf k).builds, b.snap.sfc ≠ 2) ∧
      (∀ v ∈ (s.halOf k).verdicts, v.sfc ≠ 2) ∧ (s.halOf k).builds = [] ∧ (∃ b ∈ ((built k).halOf k).builds, b.snap.sfc = 2) ∧
      (let t := s.setRecord kAlc 131071 [2 ^ 31, 0, 0, 0, k * 2 ^ 24]; 131071 ∈ (t.allocsOf k).map (·.1))) ∧
    (∃ b ∈ ((built k).halOf k).builds.head?, ((built k).halOf k).builds = [b] ∧ b.snap.poisoned = false ∧ checkMap b.snap b.map = 0 ∧
      checkMap b.snap ([0x80, 0x80].map (fun x => b.snap.entOf (built k).allocDyn x)) ≠ 0 ∧ ({ b with snap := { b.snap with poisoned := true } } : Build).snap.poisoned = true) ∧
    (let d : Delivered := { minority := none, copiesDiffer := false, lead := 0 }; d.minority = none ∧ d.copiesDiffer = false ∧ ({ d with minority := some 1 } : Delivered).minority.isSome = true) ∧
    ((∀ b ∈ ((chan k 3).halOf k).builds, b.snap.sfc ≠ 1) ∧ let s := on (built k) [(F.pchSfcLo_sfc k, 1)]
     ((s.halOf k).builds.find? (fun b => decide (b.snap.sfc = (s.fld (F.pchSfcHi_sfc k) * 2 ^ 32 + s.fld (F.pchSfcLo_sfc k) + 1) % 2 ^ 51))).isSome) ∧ 0 < 16 := by
  decide +kernel

theorem witness_acceptedMapsSafe : let s := built 255; let t := after (.mapVerdict 255 none { minority := none, copiesDiffer := false, lead := 9 }) s
    ∃ v m, v ∈ (t.halOf (255 : Chan).toNat).verdicts ∧ v ∉ (s.halOf (255 : Chan).toNat).verdicts ∧ v.map = some m ∧
      exec (.mapVerdict 255 none { minority := none, copiesDiffer := false, lead := 9 }) s = .next t := by
  refine ⟨{ sfc := 2, map := some [], reason := 0, epoch := 1, cfg := ((((built 255).halOf 255).builds.head?).map (fun b => b.snap.cfg)).getD [] }, [], ?_, ?_, rfl, rfl⟩
  · decide +kernel
  · decide +kernel

/-- A gate list of 1 ms that opens every class for its first half. -/
def halfOpen : GateList := { entries := [(0xFF, 500000), (0, 500000)], cycle := 1000000 }

/-- Channel 255 RUNNING, its ONU 65535 ACTIVE, with an Alloc of Alloc-ID 16383 that takes telltales for uplink group 15, class 7. -/
def telling : State :=
  let s := onu (on net [(F.pchSts_state 255, 3), (F.pchMode_mode 255, 1)]) 65535 255 4
  let s := s.setRecord kAlc 131071 [2 ^ 31 + 2 ^ 24 + 16383, 0, 0, 15 * 2 ^ 28 + 7 * 2 ^ 25, 255 * 2 ^ 24 + 65535]
  s.setGates 15 { gate0 with cur := some (halfOpen, 0) }

/-- A telltale record of channel 255, Alloc-ID 16383, size 1000, to arrive between 0 and the given ns. -/
def notice (late : Nat) : List Nat := [255, 0, 63, 255] ++ beBytes 4 1000 ++ [0, 0] ++ beBytes 4 0 ++ [0, 0] ++ beBytes 4 late ++ [0, 9, 0, 0]

/-- Reservations, n of Alloc context a. -/
def told (n a : Nat) : List Tell := (List.range n).map fun i => { chan := 255, alloc := a, tag := i, size := 1, sfc := 9, gate := 0, start := 0 }

theorem witness_reportsTelltalesAllocs :
    (up.hal.reports = [] ∧ up.hal.frames = [] ∧ ({ up.hal with reports := [(131071, 64, 7)] } : HalSt).reports = [(131071, 64, 7)] ∧
      (let p := [1, 1, 1, 0, 0, 0, 0, 0] ++ notice 600000 ++ [0, 0, 0, 0]
       ({ up.hal with frames := [(15, p, 0)] } : HalSt).frames = [(15, p, 0)] ∧ p.getD 0 0 = 1 ∧ p.getD 1 0 = 1 ∧ 1 ≤ p.getD 2 0 ∧ p.getD 2 0 ≤ 16 ∧ 12 + 24 * p.getD 2 0 ≤ p.length ∧
         (p.take 35).length < 12 + 24 * (p.take 35).getD 2 0) ∧
      ([2].getD 0 0 ≠ 1 ∧ [1, 0].getD 1 0 ≠ 1 ∧ [1, 3].getD 1 0 ≠ 2 ∧ [1, 1, 0].getD 2 0 = 0 ∧ 16 < [1, 1, 17].getD 2 0)) ∧
    (let s := telling; let b := notice 1600000; let num := fun lo n => beNat ((b.drop lo).take n)
     let early := s.fullSec (num 8 2) * 1000000000 + num 10 4; let late := s.fullSec (num 14 2) * 1000000000 + num 16 4
     let ws := [2 ^ 31 + 2 ^ 24 + 16383, 0, 0, 15 * 2 ^ 28 + 7 * 2 ^ 25, 255 * 2 ^ 24 + 65535]
     (up.allocsOf (num 0 1)).find? (fun x => decide (alId x.2 = num 2 2 % 0x4000)) = none ∧
       (s.allocsOf (num 0 1)).find? (fun x => decide (alId x.2 = num 2 2 % 0x4000)) = some (131071, ws) ∧ s.ch 255 = 3 ∧ alTtEn ws = true ∧ s.activeOn 255 (alOnu ws) = true ∧ early ≤ late ∧
       late ≤ s.nowNs + 1000000000 ∧ beNat (((notice 1000000001).drop 16).take 4) > s.nowNs + 1000000000 ∧ (chan 255 1).ch 255 ≠ 3 ∧ alTtEn [2 ^ 31] = false ∧ up.activeOn 255 65535 = false ∧
       (let t0 := s.count Cn.ttTaken 0
        (t0.placeTell (t0.asOf 1) 255 131071 ws 1000 early late).isSome = true ∧ t0.placeTell (t0.asOf 1) 255 131071 ws 1000 early 300000 = none ∧ num 0 1 = 255 ∧ num 4 4 = 1000)) ∧
    ((told 4 131071).length < 4096 ∧ 4 ≤ ((told 4 131071).filter (fun t => decide (t.alloc = 131071))).length ∧ ((told 3 131071).filter (fun t => decide (t.alloc = 131071))).length < 4 ∧
      ({ up.hal with fullSaid := true } : HalSt).fullSaid = true) ∧
    (mayWrite 0x0F = false ∧ mayWrite 0x21 = true ∧ up.released 7 = true ∧ up.rigState < 4 ∧ up.poisoned 3 (Config.wordIx 3 kAlc 0) = false ∧
      Tbl.find up.mem.flipped (memKey 3 (Config.wordIx 3 kAlc 0)) 0 = 0) := by decide +kernel

theorem witness_full : 4096 ≤ (told 4096 7).length := by simp [told]

theorem witness_telltaleStoreLimits :
    (let s := { up with hal := { up.hal with tells := told 4 131071 } }; s.hal.tells.length ≤ 4096 ∧ ∀ a, (s.hal.tells.filter (fun x => decide (x.alloc = a))).length ≤ 4) ∧
    (let s := telling; let b := notice 1600000; let num := fun lo n => beNat ((b.drop lo).take n)
     let early := s.fullSec (num 8 2) * 1000000000 + num 10 4; let late := s.fullSec (num 14 2) * 1000000000 + num 16 4
     let ws := [2 ^ 31 + 2 ^ 24 + 16383, 0, 0, 15 * 2 ^ 28 + 7 * 2 ^ 25, 255 * 2 ^ 24 + 65535]
     (s.allocsOf (num 0 1)).find? (fun x => decide (alId x.2 = num 2 2 % 0x4000)) = some (131071, ws) ∧ s.ch (num 0 1) = 3 ∧ alTtEn ws = true ∧ s.activeOn (num 0 1) (alOnu ws) = true ∧
       early ≤ late ∧ late ≤ s.nowNs + 1000000000 ∧ s.counter Cn.ttFull 0 0 = 0 ∧ s.counter Cn.ttTaken 0 0 = 0 ∧ 0 < 2 ^ 48 - 1 ∧ s.hal.tells.length < 4096 ∧
       ((told 4 131071).filter (fun x => decide (x.alloc = 131071))).length = 4) := by
  exact ⟨⟨by decide, fun a => (List.length_filter_le _ _).trans (by simp [told])⟩, by decide +kernel⟩

/-- A partition of MAC keys in the table's last two buckets, in record 15, for the source ports 256 and 383. -/
def bridge (q : FwdPart) : State :=
  { net with rig := { net.rig with run := { net.rig.run with parts := List.replicate 15 fwdPartNone ++ [q], srcPorts := [(256, (15, 0)), (383, (15, 2))] } } }

/-- The partition record used here. -/
def macs : FwdPart := { fwdPartNone with kind := 1, learn := true, base := 262140, log2 := 2, ageS := 300 }

/-- An entry of partition 15. -/
def ent (k d : Nat) : FwdEnt :=
  { key := k, flowEn := false, lag := false, dest := d, flow := 0, static_ := false, pinned := false, refreshed := false, age := 3, moves := 0, win := 0, addP := false, delP := false,
    part := 15, newIn := false, gone := false }

/-- A learn request of key k seen at port 256. -/
def seen (k : Nat) : LearnReq := { key := k, part := 15, src := 256, lag := false, dest := 256, flowEn := false, flow := 0 }

/-- A table with the entry e at location l. -/
def holding (l : Nat) (e : FwdEnt) : State := let s := bridge macs; { s with fwd := { s.fwd with slots := [(l, some e)] } }

/-- A location of the key's first candidate bucket. -/
def home (k : Nat) : Nat := 4 * (fwdBuckets macs k).1

/-- The key of a packet in which nothing was extracted. -/
def bare : PKey := { f := [], flags := 0, layers := 0, frag := 0, trunc := false, perr := false }

theorem slots_clean {s : State} (hp : s.mem.poison = []) (hf : s.mem.flipped = []) (l : List Nat) : SlotsClean s l := by
  intro x _; unfold State.poisoned; rw [hp, hf]; exact ⟨rfl, rfl⟩

theorem witness_packetParsing :
    (Tbl.find up.toParse 383 [] = [] ∧ Tbl.find ({ up with toParse := [(383, [pkt, pkt])] } : State).toParse 383 [] = pkt :: [pkt]) ∧
    (let tt := { pkt with src := 383, bytes := List.replicate 12 0 ++ [0x88, 0xB5] ++ List.replicate 50 0 }; let s := on up [(F.halTtCfg_uplinks, 0x8000), (F.halTtCfg_etype, 0x88B5)]
     tt.epoch = s.epoch ∧ s.isTelltale tt = true ∧ s.isTelltale pkt = false ∧
       (let t := on s [(F.prsTrap_slow_en, 1)]; let sl := { pkt with bytes := [0x01, 0x80, 0xC2, 0, 0, 2, 0, 0, 0, 0, 0, 0, 0x88, 0x09] ++ List.replicate 50 0 }
        t.isTelltale sl = false ∧ t.isSlow sl = true ∧ t.isSlow pkt = false)) ∧
    (let x : PrsBad := { table := 4, ix := 8191, copyBad := true }; x.copyBad = true ∧ x.table = 4 ∧ ({ x with copyBad := false } : PrsBad).copyBad = false) ∧
    (up.findRule (keyBits bare pkt) 0 = none ∧ ({ bare with perr := true } : PKey).perr = true ∧ (on up [(F.prsDefault_err_drop, 1)]).flag F.prsDefault_err_drop = true ∧ Tbl.wf up.recs (fun _ => []) = true) ∧
    (∀ v ∈ [1, 2, 4], let ws := List.replicate 38 0 ++ [2 ^ 31 + v * 2 ^ 28, 256 * 2 ^ 16]
      (up.setRecord kRule 8191 ws).findRule (keyBits bare pkt) 0 = some (8191, ws) ∧ recBits ws 38 30 28 = v ∧ net.destOk net (recBits ws 39 24 16) = true ∧
        up.destOk up (recBits ws 39 24 16) = false ∧ recBits ws 39 25 25 = 0) ∧
    (let b : PKey := { bare with f := [(1, 2), (2, 1), (3, 4), (4, 3), (6, 7), (7, 6)] }; let a : PKey := { bare with f := [(1, 1), (2, 2), (3, 3), (4, 4), (6, 6), (7, 7)] }
     b.val 1 = a.val 2 ∧ b.val 2 = a.val 1 ∧ b.val 3 = a.val 4 ∧ b.val 4 = a.val 3 ∧ b.val 6 = a.val 7 ∧ b.val 7 = a.val 6 ∧ ∀ c ∈ [5, 8, 9, 14, 17, 20], b.val c = a.val c) := by
  decide +kernel

theorem witness_ruleLagWindows : mayWrite 0x24 = false ∧ mayWrite 0x23 = true ∧ up.released 7 = true ∧ up.rigState < 4 := by decide +kernel

theorem witness_forwardingDecision :
    (let s := bridge macs; (s.srcPart 0).1 = 0xFF ∧ (s.srcPart 256).1 ≠ 0xFF ∧ (s.fwdPart 15).staticGuard = false ∧ lookupKey (s.fwdPart 15).kind bare = some (2 ^ 60) ∧
      s.findEnt 15 (2 ^ 60) (s.entVisible 1) (s.lookupLocs 15 (2 ^ 60)) = none ∧ (s.fwdPart 15).miss = 0 ∧ ({ macs with kind := 2 } : FwdPart).kind = 2 ∧ bare.val 13 ≠ 1) ∧
    (∀ l, SlotsClean (bridge macs) l) ∧
    (({ macs with miss := 1 } : FwdPart).miss = 1 ∧ (let q : FwdPart := { macs with miss := 2, missDest := 383 }; q.miss = 2 ∧ q.missLag = false ∧ (bridge q).portUsable q.missDest = true ∧ q.missDest < 0x8000)) ∧
    (let s := holding (home (2 ^ 60)) (ent (2 ^ 60) 383); s.findEnt 15 (2 ^ 60) (s.entVisible 1) (s.lookupLocs 15 (2 ^ 60)) = some (home (2 ^ 60), ent (2 ^ 60) 383) ∧ pkt.src ≠ 383 ∧
      s.destOk s 383 = true ∧ s.destOk s 0 = false ∧ (ent 0 256).dest = pkt.src ∧ macs.hairpin = false) ∧
    (up.fwd.queue.length < 8192 ∧ 1 ≤ macs.log2 ∧ macs.base % 2 ^ macs.log2 = 0) := by
  exact ⟨by decide +kernel, slots_clean rfl rfl, by decide +kernel, by decide +kernel, by decide +kernel⟩

theorem witness_full_queue : 8192 ≤ (List.replicate 8192 (seen 0)).length := le_of_eq List.length_replicate.symm

theorem witness_learningAgeing :
    (up.fwd.queue = [] ∧ up.mateStandby = false ∧ (on up [(F.mateSts_state, 3)]).mateStandby = true ∧ ∀ l, SlotsClean (holding (home 5) (ent 5 256)) l) ∧
    (let s := bridge macs; let r := seen 5; ({ s.fwd with queue := [r] } : FwdSt).queue = r :: [] ∧ s.findEnt r.part r.key (s.entVisible s.epoch) (s.lookupLocs r.part r.key) = none ∧
      (s.srcPart 256).2 = 0 ∧ s.freeIn (fwdBuckets (s.fwdPart 15) 5).1 = some (home 5)) ∧
    (let s := { bridge macs with fwd := { up.fwd with slots := [(home 5, some (ent 6 1)), (home 5 + 1, some (ent 7 383)), (home 5 + 2, some (ent 8 383)), (home 5 + 3, some (ent 9 1))] } }
     2 ≤ (s.srcPart 383).2 ∧ (s.srcPart 383).2 ≤ s.owned 383 ∧ s.owned 383 < 3 ∧ s.freeIn (fwdBuckets (s.fwdPart 15) 5).1 = none ∧ (s.freeIn (fwdBuckets (s.fwdPart 15) 5).2).isSome) ∧
    (∀ e ∈ [ent 5 256, ent 5 1, { ent 5 1 with static_ := true }, { ent 5 1 with pinned := true }, { ent 5 1 with moves := 3 }], let s := holding (home 5) e; let r := seen 5
      s.findEnt r.part r.key (s.entVisible s.epoch) (s.lookupLocs r.part r.key) = some (home 5, e)) ∧
    (let s := on (bridge macs) [(F.fwdFlap_flap_limit, 3)]; 0 < s.fld F.fwdFlap_flap_limit ∧ (ent 5 1).win = s.flapWin ∧ s.fld F.fwdFlap_flap_limit ≤ ({ ent 5 1 with moves := 3 } : FwdEnt).moves) ∧
    (let s := on (holding 0xFFFFF (ent 5 1)) [(F.fwdCtrl_ager_en, 1)]; s.slot 0 = none ∧ s.slot 0xFFFFF = some (ent 5 1) ∧ s.flag F.fwdCtrl_ager_en = true ∧
      (on s [(F.fwdCtrl_ager_en, 0)]).flag F.fwdCtrl_ager_en = false ∧ 0 < (s.fwdPart 15).ageS ∧ fwdPartNone.ageS = 0 ∧ 0xFFFFF < 0x100000) ∧
    (let s := holding 0x107FFF { ent 5 1 with static_ := true }; s.slot 0x107FFF = some { ent 5 1 with static_ := true } ∧ s.freeIn (fwdBuckets (s.fwdPart 15) 5).1 = some (home 5) ∧
      home 5 < 0x100000) := by
  exact ⟨⟨rfl, by decide +kernel, by decide +kernel, slots_clean rfl rfl⟩, by decide +kernel, by decide +kernel, by decide +kernel, by decide +kernel, by decide +kernel, by decide +kernel⟩

theorem witness_tableWindow :
    (up.fwdMay 1 = false ∧ up.fwdMay 0x20 = true ∧ ∀ l, SlotsClean (on (holding (home 5) (ent 5 256)) [(F.fwdAddr_partition, 15), (F.fwdKeyLo, 5)]) l) ∧
    (let s := bridge macs; s.slot s.fwdLoc = none ∧ (holding 0 (ent 5 1)).slot 0 = some (ent 5 1) ∧ (holding 0 (ent 5 1)).fwdLoc = 0 ∧ s.partOk s.winPart = false ∧ s.stageLost = false ∧
      ∀ n ∈ [4, 5, 6], (on s [(F.rigSts_state, n)]).stageLost = true) ∧
    (let s := on (bridge macs) [(F.fwdAddr_partition, 15), (F.fwdKeyLo, 5)]; s.winPart = 15 ∧ s.winKey = 5 ∧ s.partOk 15 = true ∧ s.findEnt 15 5 (fun _ => true) (s.lookupLocs 15 5) = none ∧
      s.freeIn (fwdBuckets (s.fwdPart 15) 5).1 = some (home 5) ∧ s.findEnt 15 5 (fun e => e.static_ && e.addP) (s.lookupLocs 15 5) = none ∧
      s.findEnt 15 5 (fun e => e.static_ && !e.addP && !e.gone) (s.lookupLocs 15 5) = none) ∧
    (let e := { ent 5 256 with static_ := true }; let s := holding (home 5) e; s.findEnt 15 5 (fun e => e.static_ && !e.addP && !e.gone) (s.lookupLocs 15 5) = some (home 5, e) ∧
      s.findEnt 15 5 (fun e => e.static_ && e.addP) (s.lookupLocs 15 5) = none ∧ s.findEnt 15 5 (fun _ => true) (s.lookupLocs 15 5) = some (home 5, e)) ∧
    (let s := holding (home 5) (ent 5 256); s.findEnt 15 5 (fun _ => true) (s.lookupLocs 15 5) = some (home 5, ent 5 256) ∧ (ent 5 256).static_ = false) ∧
    ∀ x : BitVec 2, x = 0 ∨ x = 1 ∨ x = 2 → x ≠ 3 := by
  exact ⟨⟨by decide +kernel, by decide +kernel, slots_clean rfl rfl⟩, by decide +kernel, by decide +kernel, by decide +kernel, by decide +kernel, by decide⟩

/-- The buffers of the image that the checker accepts, with cells of every kind and small pools. -/
def room : State :=
  { net with rig := { net.rig with run := { good with ugRec := net.rig.run.ugRec, buf := { good.buf with guar := List.replicate 8 4, cap := List.replicate 8 8, seg := [4, 4, 4, 4] } } } }

/-- A packet queued at its egress port, in cells, on die. -/
def queuedPkt (p : Pkt) (n : Nat) : QPkt := { pkt := p, start := 0, size := p.len + 8, cells := n, room := none, settle := 0 }

theorem witness_fabricCrossing :
    (let p := { pkt with dest := 383 }; let s := { room with parsed := [(256, [p])] }
     Tbl.find up.parsed 383 [] = [] ∧ Tbl.find s.parsed 256 [] = p :: [] ∧ p.epoch = s.epoch ∧ p.dest < 0x8000 ∧ s.voqFor (fabPort 383) + 1 ≤ (on s [(F.fabVoqCap_cap, 1)]).fld F.fabVoqCap_cap ∧
       s.voqCells + 1 ≤ s.rig.run.buf.ingress ∧ (on s [(F.fabVoqCap_cap, 0)]).fld F.fabVoqCap_cap < s.voqFor (fabPort 383) + 1 ∧
       up.voqFor (fabPort 383) + 1 ≤ (on up [(F.fabVoqCap_cap, 1)]).fld F.fabVoqCap_cap ∧ up.rig.run.buf.ingress < up.voqCells + 1 ∧ 0x8000 ≤ 0x803F) ∧
    (let r := up.setRecord kLag (63 * 64 + 63) [(128 + 127) * 2 ^ 24]; let s := on up [(F.prsPortUp_up 3, 2 ^ 31)]
     128 ≤ r.lagSlot 63 (255 % 256) ∧ s.linkIsUp (r.lagSlot 63 255 % 128) = true ∧ (63, 127) ∉ s.prs.ret ∧ up.lagSlot 63 255 < 128 ∧ (up.lagMembers 63).filter s.linkIsUp = [] ∧
       (r.lagMembers 63).filter s.linkIsUp ≠ []) ∧
    (let k := voqKey 47 47 7 3; let x : VPkt := { pkt := { pkt with dest := 383 }, left := 72, lost := false }; let v : Voq := { pkts := [x], ages := [0] }
     v.ages ≠ [] ∧ k / 32 = 47 * 64 + 47 ∧ takeBytes false 240 v.pkts = ([], [{ x with left := 0 }]) ∧ up.fab.retries.length < 255) ∧
    (let m : List (Nat × Nat) := [(47, 0), (0, 47)]; (m.map (·.1)).Nodup ∧ (m.map (·.2)).Nodup) ∧
    ((63, 127) ∉ up.prs.ret ∧ (63, 127) ∈ ({ up.prs with ret := [(63, 127)] } : PrsSt).ret ∧ up.fab.marks = [] ∧
      (let s := (room.setQ 0x403F8 { egQ0 with pkts := [queuedPkt pkt 1] })
       [((63, 127, 0x403F8, [0]) : Nat × Nat × Nat × List Nat)].any (fun m => decide (m.1 = 63) && decide (m.2.1 = 127) && (s.qOf m.2.2.1).pkts.any (fun k => m.2.2.2.contains k.pkt.num)) = true)) := by
  decide +kernel

theorem witness_egressQueues :
    (let p := { pkt with dest := 255, flow := noFlow }; let s := { room with fab := { room.fab with arrived := [(255, [p])] } }
     Tbl.find up.fab.arrived 383 [] = [] ∧ Tbl.find s.fab.arrived 255 [] = p :: [] ∧ p.tsReq = none ∧ p.dest < 256 ∧ p.flow = noFlow ∧ ({ p with flow := 5 } : Pkt).flow ≠ noFlow ∧
       ndValid (s.node (nodeName 3 5)) = false) ∧
    (let p := { pkt with dest := 383, cls := 7 }; let s := on room [(F.fabCtCfg_ct_ulk, 0)]; let x := s.qOf (0x40000 + (8 * 127 + 7))
     256 ≤ p.dest ∧ (s.gatesOf 15).cur = none ∧ (s.portOf 383).st ≠ 2 ∧ p.epoch = s.epoch ∧ ((s.setPort 383 { port0 with st := 2 }).portOf 383).st = 2 ∧ s.flag F.fabCtCfg_ct_ulk = false ∧ p.bad = false ∧ x.d = x.tail ∧
       s.classUse 7 + (cdiv (x.tail + (p.len + 8)) 256 - cdiv x.tail 256) ≤ s.guar 7 ∧
       (let t := s.setQ 0x40000 { egQ0 with pkts := [queuedPkt { p with dest := 256 } 8] }
        t.guar 7 < t.classUse 7 + 1 ∧ t.rig.run.buf.cap.getD 7 0 < t.classUse 7 + 1 ∧ ({ p with host := true } : Pkt).host = true ∧ ({ p with src := 255 } : Pkt).src < 256)) ∧
    (let s := room.setQ 5 { egQ0 with pkts := [queuedPkt pkt 8], d := 72, e := 72, tail := 72 }; s.victim 7 = some 5) ∧
    (let g : DSeg := { pool := 6, ptr := 0, count := 1, held := 64, room := 64 }; let x : EgQ := { egQ0 with e := 64, tail := 128, segs := [g] }; let s := room.setQ 0x3FFFF x
     s.qOf 0x3FFFF = x ∧ 64 ≤ x.tail - x.e ∧ (∀ w ∈ s.fab.waiting, w.agent ≠ spillAgent 0x3FFFF) ∧ x.segs = [] ++ [g] ∧ 64 ≤ g.room ∧ egQ0.tail - egQ0.e < 64 ∧
       (let t := room.setQ 0x3FFFF { egQ0 with tail := 64 }; (t.alloc 2 (segSize 0) 0x3FFFF (spillAgent 0x3FFFF) true false).2 = some (3, 0) ∧
         ∃ w ∈ ({ t with fab := { t.fab with waiting := [{ agent := spillAgent 0x3FFFF, first := 3 }] } } : State).fab.waiting, w.agent = spillAgent 0x3FFFF)) ∧
    (let g : DSeg := { pool := 6, ptr := 0, count := 1, held := 640, room := 64 }; let x : EgQ := { egQ0 with pkts := [{ queuedPkt pkt 1 with size := 1000 }], d := 0, e := 640, tail := 1000, segs := [g] }
     let s := on (room.setQ 0x3FFFF x) [(F.fabSpillCfg_refill_thr, 9)]; let t := { s with fab := { s.fab with tags := [(6 * 2 ^ 48, (0x3FFFF, 1))] } }
     egQ0.segs = [] ∧ egQ0.tail ≤ egQ0.d ∧ x.segs = g :: [] ∧ x.dieCells < s.fld F.fabSpillCfg_refill_thr ∧ Tbl.find t.fab.tags (g.pool * 2 ^ 48 + g.ptr) (0, 0) = (0x3FFFF, g.count) ∧
       min (min (256 - x.d % 256) g.held) (x.e - x.d) < g.held ∧ x.d + 256 < x.e ∧ t.classUse (x.classAt x.d) + 1 ≤ t.guar (x.classAt x.d) ∧
       (let y := { x with d := 72, pkts := [queuedPkt pkt 1] }; (on s [(F.fabSpillCfg_refill_thr, 1)]).fld F.fabSpillCfg_refill_thr ≤ y.dieCells ∧ ∀ q, y.pkts.head? = some q → q.start + q.size ≤ y.d)) := by
  refine ⟨by decide +kernel, by decide +kernel, by decide +kernel, by decide +kernel, ?_⟩
  refine ⟨rfl, by decide, rfl, by decide +kernel, by decide +kernel, by decide, by decide, by decide +kernel, by decide +kernel, ?_⟩
  intro q h; cases h; decide

theorem witness_poolsPorts :
    ((familyPools 3).filter (fun k => decide (1 ≤ bufBytes k)) = [] ∧ (familyPools 2).filter (fun k => decide (131072 ≤ bufBytes k)) = 6 :: [] ∧
      (familyPools 1).filter (fun k => decide (256 ≤ bufBytes k)) = 1 :: [2] ∧ ((room.setPool 6 { pool0 with top := [131072] }).poolOf 6).top = 131072 :: [] ∧
      (∀ j ∈ 6 :: [], (up.poolOf j).top = [] ∧ up.poolSize j ≤ (up.poolOf j).fresh)) ∧
    ((7 : BitVec 3).toNat = 7 ∧ 4095 ∉ (room.poolOf 5).used ∧ 4095 ∈ ((room.setPool 5 { pool0 with used := [4095] }).poolOf 5).used ∧ 131071 % 131072 ≠ 0 ∧ room.poolSize 6 ≤ 4 * 131072 / 131072 ∧
      3 * 131072 % 131072 = 0 ∧ 3 * 131072 / 131072 < room.poolSize 6 ∧ room.fab.waiting = []) ∧
    ((chan 255 3).ch 255 ≠ 1 ∧ (chan 255 1).ch 255 = 1 ∧ (chan 255 5).ch 255 = 5 ∧ 384 ≤ 384 ∧ (up.portOf 255).st = 0 ∧ ((up.setPort 255 { port0 with st := 1 }).portOf 255).st = 1) := by
  decide +kernel

theorem witness_sheetSelection :
    (((up.setPort 383 { port0 with st := 1 }).portOf 383).st ≠ 0 ∧ (chan 255 1).ch 255 ≠ 3 ∧
      49152 ≤ ((chan 255 3).setDs 255 { dsInit with edge := [{ pkt with len := 49152 }] }).edgeBytes 255 ∧
      (({ up with fab := { up.fab with sending := [(127, some (pkt, false, false))] } } : State).inFlight 127).isSome = true) ∧
    (let q := queuedPkt { pkt with dest := 383, cls := 7 } 1; let x : EgQ := { egQ0 with pkts := [q], d := 72, e := 72, tail := 72 }; let i := 8 * 127 + 7; let s := room.setQ (cqName i) x
     s.qOf (cqName i) = x ∧ q.start + q.size ≤ x.d ∧ (∀ j, j < 8 → j ≠ 7 → (s.qOf (cqName (8 * 127 + j))).pkts = []) ∧ (s.portOf (256 + 127)).st = 0 ∧ s.inFlight 127 = none ∧
       (s.gatesOf (127 / 8)).cur = none ∧ (s.pfcOf i).paused = false ∧ s.nodeReady (nodeName 4 127) = true ∧ ndValid (s.node (nodeName 4 127)) = true ∧ s.nodeReady (nodeName 5 i) = true ∧
       q.pkt.len ≤ 16000 ∧ q.pkt.poison = false ∧ s.secures 127 q.pkt.bytes = false ∧ (s.choose 4 (nodeName 4 127)).isSome = true ∧ nodeName 4 127 / 0x100000 = 4) ∧
    (ndPir [2 ^ 31, 0, 5] ≠ 0 ∧ ndPir [] = 0 ∧ ndCir (List.replicate 7 5) ≠ 0 ∧ ndCir [] = 0 ∧ ((up.setDyn 9 { nodeDyn0 with wheel := some 65535 }).dynOf 9).wheel = some 65535) := by
  decide +kernel

theorem witness_sheetGatesPfc :
    ((up.gatesOf 15).next = none ∧ (let s := up.setGates 15 { cur := none, next := some (halfOpen, 1) }; (s.gatesOf 15).next = some (halfOpen, 1) ∧ s.nowNs < 1) ∧
      (let s := up.setGates 15 { cur := some (halfOpen, 0), next := some (halfOpen, 0) }
       0 ≤ s.nowNs ∧ (s.gatesOf 15).cur = some (halfOpen, 0) ∧ 0 < halfOpen.cycle ∧ entryAt halfOpen.entries 0 ((s.nowNs - 0) % halfOpen.cycle) = (0, 0)) ∧ 0 < 1) ∧
    ((∀ c, c < 8 → (up.pfcOf (8 * 127 + c)).xoff = false) ∧ (∃ c, c < 8 ∧ ((up.setPfc 1023 { pfc0 with xoff := true }).pfcOf (8 * 127 + c)).xoff = true) ∧ (up.pfcOf 1023).paused = false ∧
      (let x := (up.setPfc 1023 { pfc0 with paused := true }).pfcOf 1023; x.paused = true ∧ x.storm = false)) ∧
    (up.inFlight 127 = none ∧ (let k := { pkt with tsReq := some 65535, host := true }; let s := { up with fab := { up.fab with sending := [(127, some (k, true, true))] } }
      s.inFlight 127 = some (k, true, true) ∧ k.tsReq = some 65535 ∧ k.host = true ∧ pkt.tsReq = none ∧ (Tbl.find s.tim.tsq 15 []).length < 64 ∧
        64 ≤ (Tbl.find (Tbl.put s.tim.tsq 15 [] (List.replicate 64 { w0 := 0, w1 := 0, w2 := 0 })) 15 []).length)) := by
  decide +kernel

theorem witness_sheetWindows : up.shtMay 0x30 = false ∧ up.shtMay 0x23 = true ∧ (on up [(F.shtNodeAddr_level, 7)]).winNode = none ∧ up.winNode = some 0 ∧ up.rigState < 4 ∧
    up.poisoned 5 (Config.wordIx 5 kNode 0) = false ∧ Tbl.find up.mem.flipped (memKey 5 (Config.wordIx 5 kNode 0)) 0 = 0 ∧ up.record kNode (nodeName 5 1023) = [] := by decide +kernel

/-- Shroud's window naming context ix with sub sub, and a root that is valid. -/
def shrAt (ix sub : Nat) : State :=
  let s := on up [(F.shrArg 0, sub * 2 ^ 24 + ix)]; { s with shr := { s.shr with root := some (List.replicate 32 7) } }

/-- An SA of slot n. -/
def sa (n : Nat) : SaSt :=
  { port := n / 4, an := n % 4, sc := 0, replay := false, exportable := true, keyNo := 0, ssci := 0, salt := [], pn := 1, member := [], ca := 127, thrSaid := false, exhausted := false }

theorem rec_clean {s : State} (hp : s.mem.poison = []) (hf : s.mem.flipped = []) (mem kind ix : Nat) : RecClean s mem kind ix := by
  unfold RecClean State.poisoned; rw [hp, hf]; exact ⟨rfl, rfl⟩

theorem witness_shroudKeys :
    (mayWrite 0x1F = false ∧ State.reset.released 5 = false ∧ ShrOpen up 0 ∧ ShrOpen (shrAt 65535 2) 0x23 ∧ up.shr.root = none ∧ (shrAt 0 0).shr.root ≠ none ∧ ∀ a b c d e, RecClean (shrAt a b) c d e) ∧
    (65536 ≤ (shrAt 65536 1).shrIx ∧ (shrAt 65535 2).shrIx = 65535 ∧ (shrAt 65535 2).shrSub = 2 ∧ (shrAt 65535 1).shrSub = 1 ∧ (shrAt 0 0).shrSub = 0 ∧ 2 < (shrAt 0 3).shrSub ∧
      256 ≤ (shrAt 256 1).shrIx ∧ 128 ≤ (shrAt 128 1).shrIx) ∧
    (let s := shrAt 65535 2; (s.keysOf 65535).msk = none ∧ s.activeKey 65535 ≠ some 2 ∧ s.poisoned 0x10 (Config.wordIx 0x10 19 65535) = false ∧ s.flag F.memFlipCtrl_armed = false ∧
      (s.setKeys 65535 { noKeys with msk := some [] }).keysOf 65535 = { noKeys with msk := some [] } ∧
      (s.setOnu 65535 { onuInit with st := 4, stNow := 4, keyIxNow := 2 }).activeKey 65535 = some 2 ∧ (s.onuOf 65535).st ≠ 4 ∧ ((onu s 65535 0 4).onuOf 65535).st = 4) ∧
    ((shrAt 3 1).setPoison 0x10 (Config.wordIx 0x10 19 3) true).poisoned 0x10 (Config.wordIx 0x10 19 3) = true ∧
    (let s := shrAt 255 2; (s.grpOf 255).active ≠ 2 ∧ (s.grpOf 255).next ≠ some 2 ∧ (s.grpOf 255).gen 2 = none ∧ (s.grpOf 255).active = 1 ∧ (s.grpOf 255).next = none ∧
      (let t := s.setGrp 255 { noGroup with gen2 := some 1, next := some 2 }; (t.grpOf 255).gen 2 ≠ none ∧ (t.grpOf 255).next = some 2)) ∧
    ((on up [(F.shrArg 1, 65536)]).fld (F.shrArg 1) = 65536 ∧ (on up [(F.shrArg 1, 65535)]).fld (F.shrArg 1) < 65536) := by
  refine ⟨⟨by decide, by decide +kernel, ⟨by decide, by decide +kernel⟩, ⟨by decide, by decide +kernel⟩, by decide +kernel, by decide +kernel, fun _ _ _ _ _ => rec_clean rfl rfl _ _ _⟩,
    by decide +kernel, by decide +kernel, ?_, by decide +kernel, by decide +kernel⟩
  simp [State.poisoned, State.setPoison]

/-- A blob of channel 255's group key state in Shroud's data registers. -/
def blobHeld (flags kcv : Nat) : State := (shrAt 0 0).shrPut (blobOf 4 flags 255 kcv [] (grpBody 255 { noGroup with gen1 := some 1, gen2 := some (2 ^ 32 - 1) }) [])

theorem witness_shroudSasBlobsLanes :
    (slotOk true (shrAt 2048 1).shrIx = false ∧ slotOk false (shrAt 512 2).shrIx = false ∧ slotOk true (shrAt 2047 1).shrIx = true ∧ slotOk false (shrAt 511 2).shrIx = true) ∧
    (let s := shrAt 511 2; s.saOf false 511 = none ∧ (let t := s.setSa false 511 (some (sa 511)); t.saOf false 511 = some (sa 511) ∧ t.flag ((F.shrPortSts_tx_valid).inst 127) = false ∧
      (let r := on t [((F.shrPortSts_tx_valid).inst 127, 1), ((F.shrPortSts_tx_an).inst 127, 3)]; r.flag ((F.shrPortSts_tx_valid).inst 127) = true ∧ r.fld ((F.shrPortSts_tx_an).inst 127) = 511 % 4) ∧
      Tbl.find t.shr.ca 127 none = none ∧ Tbl.find (Tbl.put t.shr.ca 127 none (some [1])) 127 none = some [1] ∧ t.shr.root ≠ none)) ∧
    (let s := shrAt 2047 1; s.saOf true 2047 = none ∧ ((s.setSa true 2047 (some (sa 0))).saOf true 2047).isSome = true) ∧
    (128 ≤ (shrAt 128 3).shrIx ∧ 3 < (shrAt 127 4).shrSub ∧ (shrAt 127 3).shrIx < 128 ∧ (shrAt 127 3).shrSub ≤ 3 ∧ 512 ≤ (shrAt 512 0).shrIx ∧ (shrAt 511 0).shrIx < 512) ∧
    (ctxOk 0 0 = false ∧ ctxOk 5 0 = false ∧ ctxOk 1 511 = true ∧ ctxOk 1 512 = false ∧ ctxOk 2 2047 = true ∧ ctxOk 3 65535 = true ∧ ctxOk 4 255 = true ∧ (shrAt 511 1).ctxBody 1 511 = none ∧
      ((shrAt 0 3).ctxBody 3 0).map (·.2) = some false ∧ ((shrAt 0 4).ctxBody 4 0).map (·.2) = some true ∧ (shrAt 0 4).fld F.shrWrapCnt_count + 1 ≠ 2 ^ 31 ∧
      (on (shrAt 0 4) [(F.shrWrapCnt_count, 2 ^ 31 - 1)]).fld F.shrWrapCnt_count + 1 = 2 ^ 31) ∧
    ((let b := (shrAt 0 0).shrBytes 0 128; ¬ b.take 2 = [0x53, 0x48]) ∧
      (let s := blobHeld 2 0; let b := s.shrBytes 0 128; let g : GroupKeys := { noGroup with gen1 := some 1, gen2 := some (2 ^ 32 - 1) }
       b = blobOf 4 2 255 (s.fld F.shrKcv_kcv) [] (grpBody 255 g) [] ∧ g.active < 256 ∧ b.take 2 = [0x53, 0x48] ∧ numAt b 2 1 = 1 ∧ ctxOk (numAt b 3 1) (numAt b 8 4) = true ∧ numAt b 4 1 % 2 ≠ 1) ∧
      (let s := blobHeld 3 9; let b := s.shrBytes 0 128; numAt b 4 1 % 2 = 1 ∧ numAt b 12 4 ≠ s.fld F.shrKcv_kcv ∧ numAt ((blobHeld 3 0).shrBytes 0 128) 12 4 = s.fld F.shrKcv_kcv ∧ s.shr.root ≠ none)) ∧
    ((∀ l, l < 16 → up.flag (F.shrLane_in_use l) = false) ∧
      (let s := on up [(F.shrLane_in_use 15, 1), (F.shrLane_phys 15, 15), (F.shrSts_spares_free, 2), (F.glbLadder_allowance 3, 3)]
       s.logicalOf 15 = some 15 ∧ (s.ladder 4 15).2 = false ∧ (on s [(F.glbLadder_allowance 3, 0), (F.glbLadder_window_s 3, 60)] |>.ladder 4 15).2 = true ∧ s.isRetired 4 15 = false ∧
         (∀ j, j < 16 → Tbl.find s.shr.repl j 0 = 0 ∧ s.fld (F.shrLane_phys j) ≠ 16) ∧ s.fld F.shrSts_retired / 2 ^ 16 % 2 = 0 ∧ s.fld F.shrSts_retired / 2 ^ 15 % 2 = 0 ∧
         0 < s.fld F.shrSts_spares_free)) := by
  refine ⟨by decide +kernel, by decide +kernel, by decide +kernel, by decide +kernel, by decide +kernel, by decide +kernel, by decide +kernel⟩

/-- Lane i in state n. -/
def lane (i n : Nat) : State := on net [(F.laneSts_state i, n)]

theorem witness_lanesAndStayLink :
    (mayWrite 0x24 = false ∧ State.reset.released 6 = false ∧ mayWrite 0x23 = true ∧ up.released 6 = true ∧ (2 : BitVec 2) ≠ 3) ∧
    (∀ i ∈ [0, 511, 639, 647, 648], (∀ n ∈ [0, 1, 2, 3, 4, 5], (lane i n).ln i = n) ∧ (up.laneOf i).entering = none ∧ (up.laneOf i).queued = none ∧ (up.laneOf i).byHost = false ∧
      (let l : LaneSt := { laneInit with entering := some 2 }; ((lane i 4).setLane i l).laneOf i = l)) ∧
    ((chan 255 3).ch (511 % 256) ≠ 1 ∧ (on up [(F.laneSlCtrl_enable, 1)]).flag F.laneSlCtrl_enable = true ∧ (lane 640 1).reefAllowed 640 2 = true ∧ (lane 639 4).reefAllowed 639 0 = true ∧
      (lane 639 0).reefAllowed 639 0 = false ∧ ({ laneInit with byHost := true } : LaneSt).byHost = true) ∧
    ((up.laneOf 600).announce = false ∧ ({ laneInit with announce := true } : LaneSt).announce = true ∧
      (let s := { up with rig := { up.rig with run := { up.rig.run with slLanes := 0x80, mate := { up.rig.run.mate with pairEn := true } } } }; s.sldBound 7 = true)) ∧
    (let s := on (lane 639 4) [(F.glbLadder_allowance 1, 3), (F.glbLadder_window_s 1, 60)]; (s.ladder 2 639).2 = false ∧ (on s [(F.glbLadder_allowance 1, 0)] |>.ladder 2 639).2 = true ∧
      s.flag (F.laneSts_frozen 639) = false ∧ s.fld (F.laneFom_fom 639) < (on s [(F.laneAdapt_fom_fail 639, 9)]).fld (F.laneAdapt_fom_fail 639) ∧
      (on s [(F.laneAdapt_fom_fail 639, 0)]).fld (F.laneAdapt_fom_fail 639) ≤ s.fld (F.laneFom_fom 639) ∧ (on up [(F.laneSts_state 512, 4)]).portOfLane 0 = none) ∧
    (up.rig.run.mate.rateMatched = false ∧ (∃ j, j < 8 ∧ (lane 640 4).ln (640 + j) = 4)) ∧
    (let s := on (lane 512 4) [(F.laneAdapt_adapt_en 512, 1), (F.laneAdapt_td_min 512, 30)]; s.flag (F.laneAdapt_adapt_en 512) = true ∧ 100 * 1228 / 4095 < s.fld (F.laneAdapt_td_min 512) ∧
      s.fld (F.laneAdapt_td_min 512) ≤ 100 * 1229 / 4095 ∧ (on s [(F.laneSts_frozen 512, 1)]).flag (F.laneSts_frozen 512) = true ∧ laneInit.okRun < 3 ∧ 3 ≤ ({ laneInit with okRun := 3 } : LaneSt).okRun ∧
      ({ laneInit with run := 1023 } : LaneSt).run = 1023 ∧ laneInit.run ≠ 1023 ∧ s.fld (F.laneFom_fom_good 512) ≤ 255 + s.fld (F.laneAdapt_restore_margin 512) ∧
      0 + s.fld (F.laneAdapt_restore_margin 512) < (on s [(F.laneFom_fom_good 512, 255)]).fld (F.laneFom_fom_good 512) ∧
      (on s [(F.laneAdapt_adapt_en 512, 0)]).flag (F.laneAdapt_adapt_en 512) = false) ∧
    (let v := 0xB53C * 2 ^ 48 + crc8 (beBytes 7 (0xB53C * 2 ^ 40)); v / 2 ^ 48 = 0xB53C ∧ crc8 (beBytes 7 (v / 256)) = v % 256 ∧ up.flag F.laneSlCtrl_enable = false ∧
      (let s := on (lane 647 4) [(F.laneSlCtrl_enable, 1)]; s.flag F.laneSlCtrl_enable = true ∧ s.ln (640 + 7) = 4 ∧ (s.slOf 7).st = 0 ∧ ∀ n ∈ [1, 2, 3], ((s.setSl 7 { slInit with st := n }).slOf 7).st = n)) := by
  refine ⟨by decide +kernel, by decide +kernel, by decide +kernel, by decide +kernel, by decide +kernel, by decide +kernel, by decide +kernel, by decide +kernel⟩

/-- The block of a pair with the Stay link up, in pair state n. -/
def pairIn (n : Nat) : State :=
  let s := on net [(F.mateSts_state, n), (F.laneSlSts_link_up, 1)]
  { s with rig := { s.rig with run := { s.rig.run with mate := { s.rig.run.mate with pairEn := true, prec := 2 } } } }

/-- A state with other Crow's-nest state of the pair. -/
def withMate (s : State) (f : MateSt → MateSt) : State := { s with mate := f s.mate }

/-- The header of the message that follows the last accepted one, or of any when none was accepted. -/
def msg (n : Nat) : MsgHdr := { seq := n, tagOk := true, typOk := true }

theorem in_order {s : State} (hl : s.linkUp = true) (n : Nat) (hs : s.mate.seqRx = none) : MsgInOrder s (msg n) := ⟨hl, rfl, rfl, fun p hp => by rw [hs] at hp; cases hp⟩

theorem witness_mateRoles :
    ((up.rig.run.mate.pairEn = false ∧ up.linkUp = false) ∧ (∀ n ∈ List.range 8, (pairIn n).rig.run.mate.pairEn = true ∧ (pairIn n).linkUp = true ∧ (pairIn n).pair = n) ∧
      (∀ n ∈ List.range 8, MsgInOrder (pairIn n) (msg 0)) ∧ MsgInOrder (withMate (pairIn 3) fun m => { m with seqRx := some (2 ^ 32 - 1) }) (msg 0) ∧ ({ msg 0 with tagOk := false } : MsgHdr).tagOk = false) ∧
    (let s := on (withMate (pairIn 4) fun m => { m with hbValid := true }) [(F.mateSts_mate_state, 3)]
     s.mate.hbValid = true ∧ up.mate.hbValid = false ∧ s.lockout = false ∧ s.fld F.mateSts_mate_prec < s.rig.run.mate.prec ∧ (on s [(F.mateSts_mate_prec, 3)]).fld F.mateSts_mate_prec = 3 ∧
       s.mateLast = 3 ∧ s.mate.handover = none ∧ (on s [(F.mateSts_lockout, 1)]).lockout = true ∧ (on s [(F.mateSts_mate_state, 4)]).mateLast = 4 ∧ up.mateLast ≠ 4 ∧ 0 < (on s []).incTbu) ∧
    (let s := withMate (pairIn 5) fun m => { m with wasActive := true, evidence := true }; s.pair = 5 ∧ s.mate.wasActive = true ∧ s.lockout = false ∧ s.mate.evidence = true ∧
      s.flag F.laneSlSts_present = false ∧ (on s [(F.laneSlSts_present, 1)]).flag F.laneSlSts_present = true ∧ s.flag F.mateSts_undecided = false ∧
      (on s [(F.mateSts_undecided, 1)]).flag F.mateSts_undecided = true) ∧
    (mayWrite 0x3F = false ∧ mayWrite 0x20 = true ∧ up.released 7 = true ∧ up.flag F.mateCmd_busy = false ∧ (on up [(F.mateCmd_busy, 1)]).flag F.mateCmd_busy = true ∧ up.mate.wtr = none ∧
      ({ up.mate with wtr := some 0 } : MateSt).wtr ≠ none) ∧
    (let h : Handover := { cause := 4, sec := 0, ns := 0, giving := true }; ({ up.mate with handover := some h } : MateSt).handover = some h ∧ h.giving = true ∧ 4 ≤ h.cause ∧ h.cause ≤ 7 ∧
      ({ h with giving := false } : Handover).giving = false) ∧
    (let s := withMate up fun m => { m with hbValid := true, awaiting := [255] }; s.mate.hbValid = true ∧ s.mate.mateEpoch ≠ s.epoch ∧ s.mate.epochSaid = false ∧ 255 ∈ s.mate.awaiting ∧
      255 ∉ up.mate.awaiting) := by
  refine ⟨⟨by decide +kernel, by decide +kernel, fun n hn => in_order ((by decide +kernel : ∀ n ∈ List.range 8, (pairIn n).linkUp = true) n hn) 0 rfl, ⟨by decide +kernel, rfl, rfl, by rintro p ⟨⟩; decide⟩, rfl⟩, by decide +kernel, by decide +kernel, by decide +kernel,
    by decide +kernel, by decide +kernel⟩

theorem witness_mateMirror :
    (∀ n ∈ [2, 3, 4], MsgInOrder (pairIn n) (msg 7)) ∧ (pairIn 4).pair ≠ 2 ∧ (pairIn 4).pair ≠ 3 ∧ up.linkUp = false ∧ ({ msg 0 with typOk := false } : MsgHdr).typOk = false ∧
    (∀ l, SlotsClean (pairIn 3) l) ∧
    (let b := blobOf 4 1 255 0 [] [] []; up.blobChan b = some 255 ∧ up.blobChan [] = none ∧ (onu up 65535 255 1).blobChan (blobOf 3 1 65535 0 [] [] []) = some 255) ∧
    (let s := holding (home 5) (ent 5 256); s.findEnt 15 5 (s.entVisible s.epoch) (s.lookupLocs 15 5) = some (home 5, ent 5 256) ∧ (ent 5 256).static_ = false ∧
      ({ ent 5 256 with static_ := true } : FwdEnt).static_ = true ∧ (bridge macs).findEnt 15 5 ((bridge macs).entVisible 1) ((bridge macs).lookupLocs 15 5) = none ∧
      (bridge macs).freeIn (fwdBuckets ((bridge macs).fwdPart 15) 5).1 = some (home 5)) ∧
    ((pairIn 4).mirroring = true ∧ (pairIn 3).mirroring = false ∧ (pairIn 4).mate.learnOut = [] ∧ ({ up.mate with learnOut := [(1, ent 5 256)] } : MateSt).learnOut ≠ [] ∧
      (pairIn 4).rig.run.mate.pairEn = true ∧ (pairIn 3).rig.run.mate.prec = 2 ∧ (pairIn 3).rig.run.helloDigest = 0) ∧
    ((∀ c, c < 256 → (pairIn 2).flag (F.pchCtrl_enable c) = true → Tbl.find (pairIn 2).mate.frames c none ≠ none) ∧
      (on (pairIn 2) [(F.pchCtrl_enable 255, 1)]).flag (F.pchCtrl_enable 255) = true) := by
  refine ⟨?_, by decide +kernel, by decide +kernel, by decide +kernel, rfl, slots_clean rfl rfl, by decide +kernel, by decide +kernel, by decide +kernel, by decide +kernel⟩
  intro n hn; simp only [List.mem_cons, List.not_mem_nil, or_false] at hn
  obtain rfl | rfl | rfl := hn <;> exact in_order (by decide +kernel) 7 rfl

/-- A merge entry of a word. -/
def held (m i : Nat) (r : Option Ecc) : MergeEnt := { mem := m, ix := i, bytes := [(0, some 1)], read := r, order := 0 }

/-- The block with merge entries. -/
def merging (l : List MergeEnt) : State := let s := { net with rig := { net.rig with run := good } }; { s with mem := { s.mem with merge := l } }

theorem witness_codesAndMerge :
    ((up.setPoison 9 3 true).poisoned 9 3 = true ∧ up.poisoned 9 3 = false ∧ Tbl.find up.mem.flipped (memKey 9 3) 0 = 0 ∧ ({ up with sup := { up.sup with reefed := true } } : State).exempt = true) ∧
    (mergeMem 1 = false ∧ (merging []).memBound 0x14 = false ∧ wordsOf 0x13 ≤ wordsOf 0x13 ∧ mergeMem 0x13 = true ∧ (merging []).memBound 0x13 = true ∧ 0 < wordsOf 0x13 ∧ wordsOf 0x13 - 1 < wordsOf 0x13 ∧
      up.released 4 = true ∧ up.released 7 = true) ∧
    (let b : List (BitVec 6 × Byte) := [(63, 1)]; (merging []).mergeEnt 0x13 5 = none ∧ ((merging []).mergeSetOf (mergeSet 0x13 5)).length < mergeCap 0x13 ∧
      (mergeBytes 0x13 [] b).length < wordBytes 0x13 ∧ (merging [held 0x13 5 none]).mergeEnt 0x13 5 = some (held 0x13 5 none) ∧
      (mergeBytes 0x13 (held 0x13 5 none).bytes b).length < wordBytes 0x13) ∧
    (let s := merging [held 0 7 none]; s.mergeHeld 0 7 = true ∧ (held 0 7 none).bytes.length < wordBytes 0 ∧ (s.mergeSetOf (mergeSet 0 7)).length ≤ mergeCap 0 ∧ s.poisoned 0 7 = false ∧
      s.flag F.memFlipCtrl_armed = false ∧ (merging [held 0 7 (some .clean)]).mergeEnt 0 7 = some (held 0 7 (some .clean)) ∧
      (merging [held 0 7 (some .uncorrectable)]).mergeEnt 0 7 = some (held 0 7 (some .uncorrectable)) ∧ (0x20 : Master) ≠ 0) := by decide +kernel

/-- A pass of the scrubber over the last words of the parser's memory. -/
def scrubbing (f : ScrubSt → ScrubSt) : State := { merging [] with mem := { up.mem with scrub := f { up.mem.scrub with mem := 9, first := 5, next := 5, last := 6, number := 1, running := true } } }

theorem witness_scrubber :
    (mayWrite 0 = true ∧ up.released 4 = true ∧ (scrubbing id).mem.scrub.running = true ∧ up.mem.scrub.running = false ∧ up.fld F.memScrubStart_idx ≤ up.fld F.memScrubEnd_idx ∧
      up.fld F.memScrubEnd_idx < wordsOf 9 ∧ up.memBound 9 = true ∧ up.memBound 10 = false ∧ (on up [(F.memScrubEnd_idx, wordsOf 9 - 1)]).fld F.memScrubEnd_idx < wordsOf 9) ∧
    ((scrubbing id).mem.scrub.ended = false ∧ (scrubbing id).mem.scrub.number ≠ 0 ∧ (scrubbing fun c => { c with ended := true }).mem.scrub.ended = true ∧
      (scrubbing fun c => { c with running := false }).mem.scrub.running = false) ∧
    (let s := scrubbing id; s.sup.reefed = false ∧ s.mergeHeld 9 5 = false ∧ s.poisoned 9 5 = false ∧ s.eccOf 9 5 .clean = .clean ∧ s.eccOf 9 5 .uncorrectable = .uncorrectable ∧
      (s.setPoison 9 5 true).poisoned 9 5 = true ∧ (merging [held 0 7 none]).mergeHeld 0 7 = true ∧ ({ s with sup := { s.sup with reefed := true } } : State).sup.reefed = true) := by
  decide +kernel

/-- Copies, mapped rows, weak blocks and journal records. -/
def worn : State :=
  let s := merging []
  { s with mem := { s.mem with copying := [(8, 255), (0x13, 2 ^ 28 - 1)], rowMap := [(0x13, 2 ^ 28 - 1)], weakBlocks := [65535],
                               jnl := [{ typ := 1, seq := 0, sec := 0, ns := 0, code := 0, epoch := 0, cls := 0, obj := 0, detail := [], act := .none }] } }

theorem witness_sparesFlashJournal :
    (worn.mem.copying.contains (8, 255) = true ∧ up.mem.copying.contains (8, 255) = false ∧ memClass 8 = 8 ∧ worn.mem.flipped = [] ∧ worn.isRetired 8 (bankObj 8 255) = false) ∧
    (worn.mem.copying.contains (0x13, 2 ^ 28 - 1) = true ∧ worn.mem.rowMap.contains (0x13, 2 ^ 28 - 1) = true ∧ worn.isRetired 9 (bankObj 0x13 (2 ^ 28 - 1)) = false ∧
      ({ worn with sup := { worn.sup with retired := [{ cls := 9, obj := bankObj 0x13 (2 ^ 28 - 1), sec := 0 }] } } : State).isRetired 9 (bankObj 0x13 (2 ^ 28 - 1)) = true) ∧
    (worn.released 4 = true ∧ worn.memBound 0x13 = true ∧ worn.released 3 = true ∧ (slotsIn 3).scanned 1 = true ∧ (slotsIn 3).scanned 0 = true ∧ (slotsIn 3).released 3 = true) ∧
    ((82 : Int) ≤ 82 ∧ (85 : Int) < 86 ∧ (92 : Int) ≤ 92 ∧ (95 : Int) < 96 ∧ (102 : Int) ≤ 102 ∧ (105 : Int) < 106) ∧
    (65535 ∈ worn.mem.weakBlocks ∧ 0 ∉ worn.mem.weakBlocks ∧ mayWrite 0x23 = true ∧ (worn.mem.jnl.find? (fun r => decide (r.seq = worn.fld F.memJnlSeq_seq))).isSome = true ∧
      worn.mem.jnl.find? (fun r => decide (r.seq = (on worn [(F.memJnlSeq_seq, 2 ^ 32 - 1)]).fld F.memJnlSeq_seq)) = none) := by decide +kernel

/-- A register access by the physical function with its part out of reset. -/
def queueHolding (n : Nat) (f : EvqSt → EvqSt) : State := let s := on up [(F.mbxEvqTail_tail, n)]; { s with evq := f s.evq }

/-- An event. -/
def anEvent : EventRec := { code := 1, seq := 7, ns := 0, sec := 0, epoch := 1, data := [1] }

theorem witness_eventQueue :
    (up.evq.raised = [] ∧ (let s := queueHolding 4093 fun e => { e with raised := [anEvent] }; s.evq.raised = [anEvent] ∧ s.evqUnread < 4094 ∧ s.evq.dropped = 0) ∧
      (let s := queueHolding 4094 fun e => { e with raised := [anEvent] }; s.evq.raised = [anEvent] ∧ 4094 ≤ s.evqUnread) ∧
      (on (queueHolding 4095 fun e => { e with raised := [anEvent] }) [(F.mbxEvqHead_head, 2)]).evqUnread < 4094) ∧
    (mayWrite 0x20 = true ∧ up.released 2 = true ∧
      (let s := queueHolding 0 fun e => { e with kept := List.replicate 256 anEvent }; s.flag F.mbxEvqCtrl_enable = false ∧ s.evq.dropped = 0 ∧ s.evq.kept.length ≤ 256) ∧
      (let s := on (queueHolding 0 fun e => { e with raised := List.replicate 256 anEvent }) [(F.mbxEvqCtrl_enable, 1)]
       s.flag F.mbxEvqCtrl_enable = true ∧ s.evq.kept.length + s.evq.raised.length ≤ 256 ∧ s.evq.dropped = 0) ∧
      (let s := on (queueHolding 4094 fun e => { e with dropped := 1 }) [(F.mbxEvqCtrl_enable, 1)]
       s.evq.dropped ≠ 0 ∧ s.flag F.mbxEvqCtrl_enable = true ∧ (s.fld F.mbxEvqTail_tail + 4096 - (1 : BitVec 12).toNat) % 4096 < 4094)) ∧
    (let s := queueHolding 0 fun e => { e with holding := Tbl.put e.holding 63 false true }
     Tbl.find s.evq.holding 63 false = true ∧ Tbl.find s.evq.waiting 63 false = false ∧ Tbl.find s.evq.holding 0 false = false ∧
       Tbl.find (Tbl.put s.evq.waiting 63 false true) 63 false = true) := by decide +kernel

/-- Pair 63 with rings of 4,096 descriptors, its configuration and status fields as given. -/
def pair63 (l : List (Fld × Nat)) (x : QpSt) : State := (on net ([(F.pchMode_mode 255, 1), (F.mbxQpCfg_tx_log 63, 12), (F.mbxQpCfg_rx_log 63, 12)] ++ l)).setQp 63 x

theorem witness_queuePairs :
    (up.released 2 = true ∧ (pair63 [] qpInit).qpNamed 0 63 = some 63 ∧ (pair63 [] qpInit).qpNamed 1 0 = none ∧ (on up [(F.mbxQpOwner_owner 63, 16)]).qpNamed 16 0 = some 63 ∧
      4095 < (pair63 [] qpInit).txSize 63 ∧ 4095 < (pair63 [] qpInit).rxSize 63 ∧ (on up [(F.mbxQpCfg_tx_log 63, 6)]).txSize 63 ≤ 64 ∧ (on up [(F.mbxQpCfg_rx_log 63, 6)]).rxSize 63 ≤ 64) ∧
    ((pair63 [] qpInit).flag (F.mbxQpCfg_enable 63) = false ∧ ((pair63 [] qpInit).qpOf 63).stopping = false ∧ (pair63 [(F.mbxQpCfg_enable 63, 1)] qpInit).flag (F.mbxQpCfg_enable 63) = true ∧
      (let s := pair63 [] { qpInit with stopping := true, rxTail := 4095 }; (s.qpOf 63).stopping = true ∧ s.fld (F.mbxQpRxhead_head 63) ≠ (s.qpOf 63).rxTail) ∧
      (let s := pair63 [] { qpInit with stopping := true }; s.fld (F.mbxQpRxhead_head 63) = (s.qpOf 63).rxTail) ∧
      (pair63 [(F.mbxQpCfg_enable 63, 1)] qpInit).qpRuns 63 = true ∧ HostAccess.timeout ≠ .ok ∧ (pair63 [] qpInit).qpRuns 63 = false) ∧
    (mayWrite 0 = true ∧ up.fld F.rigLock_lock / 4 % 2 = 0 ∧ up.flag (F.mbxQpCfg_enable 63) = false ∧ ((up.ownedQps 0x10).filter (fun j => decide (j ≠ 63))).length < 8 ∧
      (on up [(F.rigLock_lock, 4)]).fld F.rigLock_lock / 4 % 2 = 1 ∧
      (let s := on up ((List.range 8).map fun q => (F.mbxQpOwner_owner q, 16)); ((s.ownedQps 0x10).filter (fun j => decide (j ≠ 63))).length = 8)) := by decide +kernel

/-- A descriptor of a packet of 60 bytes. -/
def desc (kind port : Nat) : TxDesc :=
  { addr := 4096, len := 60, tsId := 0, kind := kind, tsReq := false, intr := false, port := port, cls := 0, flow := 0, reserved := false, bytes := List.replicate 60 0 }

theorem witness_packetsHost :
    (let s := pair63 [(F.mbxQpCfg_enable 63, 1)] { qpInit with txTail := 1, rxTail := 1 }
     s.qpRuns 63 = true ∧ s.fld (F.mbxQpTxhead_head 63) ≠ (s.qpOf 63).txTail ∧ (s.qpOf 63).sinceWb < 31 ∧ ({ s.qpOf 63 with sinceWb := 30 } : QpSt).sinceWb < 31 ∧
       s.txBad 63 (desc 3 383) = true ∧ txStamped (desc 3 383) = false ∧ s.txBad 63 (desc 0 383) = false ∧ (desc 0 383).intr = false ∧ s.txBad 63 (desc 1 383) = false ∧
       s.txBad 63 (desc 1 255) = false ∧ (desc 1 255).port < 256 ∧ s.fld (F.mbxQpRxhead_head 63) ≠ (s.qpOf 63).rxTail) ∧
    ((pair63 [] qpInit).qpRuns 63 = false ∧ (let s := pair63 [(F.mbxQpCfg_enable 63, 1)] qpInit; s.fld (F.mbxQpTxhead_head 63) = (s.qpOf 63).txTail)) ∧
    (let p : RxPkt := { reason := 2, parseErr := false, truncated := false, port := 0, cls := 0, epoch := 1, flow := 0, onu := 0, rule := 0, stamp := { ns := 0, hi := 0 }, bytes := List.replicate 64 0, micOk := true }
     Tbl.find up.rxq 63 [] = [] ∧ Tbl.find (Tbl.put up.rxq 63 [] [p]) 63 [] = [p] ∧ (pair63 [(F.mbxQpCfg_omci 63, 1)] qpInit).flag (F.mbxQpCfg_omci 63) = true ∧ p.reason = 2 ∧
       (pair63 [] qpInit).flag (F.mbxQpCfg_omci 63) = false ∧ 63 < p.bytes.length ∧ p.bytes.length ≤ 64 ∧ 4096 + p.bytes.length ≤ (pair63 [(F.mbxQpRxbaseLo_addr 63, 2)] qpInit).rxDescAddr 63 0 + 8) := by decide +kernel
/-- The block with the outbound queues of both sides of mailbox channel 15 holding l, its sides bound to masters 16 and 0x23. -/
def mbx15 (d : Bool) (l : List (Nat × Nat)) : State :=
  let s := on up [(F.mbxBind_valid 13, 1), (F.mbxBind_ida 13, 16), (F.mbxBind_idb 13, 0x23)]; { s with mbx := { s.mbx with out := Tbl.put s.mbx.out (30 + d.toNat) [] l } }

theorem witness_mailboxes :
    (up.released 2 = true ∧ (mbx15 false []).mayUse 16 15 false = true ∧ (mbx15 false []).mayUse 0x23 15 true = true ∧ (mbx15 false []).mayUse 0 15 true = false ∧ up.mayUse 5 0 false = true ∧
      ((mbx15 false (List.replicate 7 (1, 16))).outQ 15 false).length < 8 ∧ 8 ≤ ((mbx15 false (List.replicate 8 (1, 16))).outQ 15 false).length ∧ (mbx15 false []).outQ 15 true = [] ∧
      (mbx15 true [(5, 0x23)]).outQ 15 true = [(5, 0x23)]) ∧
    (up.released 3 = true ∧ (mbx15 false []).fwServes 3 15 true = true ∧ up.fwServes 3 1 true = true ∧ Tbl.find up.mbx.skip 31 0 = 0 ∧
      (mbx15 false [(2 ^ 24 + 1, 16)]).outQ 15 false = [(2 ^ 24 + 1, 16)] ∧ (2 ^ 24 + 1) / 2 ^ 24 = 1 ∧ ((mbx15 true (List.replicate 3 (0, 0x23))).outQ 15 true).length ≤ 3 ∧
      (2 ^ 32 - 1) / 2 ^ 24 ≠ 1 ∧ ((mbx15 true (List.replicate 7 (0, 0x23))).outQ 15 true).length ≤ 7) ∧
    ((15, true) ∈ (mbx15 false []).boundTo (0x20 + 3) ∧ (15, false) ∈ (mbx15 false []).boundTo (15 + 1) ∧ 15 ∉ up.mbx.flr ∧ 15 ∈ ({ up.mbx with flr := [15] } : MbxSt).flr) := by
  decide +kernel

theorem witness_locksAndChains : up.released 2 = true ∧ up.lockOf 63 = 0 ∧
    (let s : State := { up with mbx := { up.mbx with locks := Tbl.put up.mbx.locks 63 0 64 } }; s.lockOf 63 = (63 : Master).toNat + 1 ∧ s.lockOf 63 ≠ (0 : Master).toNat + 1 ∧ s.lockOf 63 ≠ 0) ∧
    (0x20 : Master) ≠ 0 ∧ Cn.usBipBits.wide = true := by
  decide +kernel

/-- The block with a snapshot of the registers' last word and the last slot asked for. -/
def snapping (l : List (Fld × Nat)) : State := on up ([(F.cntSnapExtLo_kind 15, 2), (F.cntSnapExtLo_first 15, 0xFFFFFF), (F.cntSnapExtHi_count 15, 1)] ++ l)

theorem witness_snapshots : mayWrite 0x23 = true ∧ up.released 2 = true ∧ up.snap.running = false ∧ ({ up.snap with running := true } : SnapSt).running = true ∧ up.snapExtents = [] ∧
    (snapping []).snapExtents ≠ [] ∧ (∀ e ∈ (snapping []).snapExtents, e.ok = true) ∧ (∃ e ∈ (snapping [(F.cntSnapExtHi_count 15, 2)]).snapExtents, e.ok = false) ∧
    ({ up.snap with lastDone := true } : SnapSt).lastDone = true ∧ up.snap.aborted = false ∧
    (let b : List (Nat × Nat × Nat) := [(0, 8, 1), (8, 8, 2), (64, 4, 3)]; (b.map (fun x => (x.1, x.1 + x.2.1))).Pairwise (fun x y => x.2 ≤ y.1)) := by decide +kernel

/-- The block with its supply and reset state set. -/
def withSup (s : State) (f : SupSt → SupSt) : State := { s with sup := f s.sup }

/-- The block with nothing that holds start-up. -/
def calm : State := withSup up fun p => { p with hold := 0 }

theorem witness_resetKinds : calm.released 2 = true ∧ calm.sup.hold = 0 ∧ State.reset.released 2 = false ∧ (1 : Master) ≠ 0 := by decide +kernel

theorem witness_startHolds :
    (∀ r ∈ [1, 2, 4], calm.sup.hold / r % 2 = 0 ∧ (withSup up fun p => { p with hold := 7 }).sup.hold / r % 2 = 1 ∧ (withSup up fun p => { p with hold := 7 }).sup.hold ≠ r ∧
      (withSup up fun p => { p with hold := r }).sup.hold = r) ∧ up.fld F.glbStart_phase = 0 ∧ (on up [(F.glbStart_phase, 6)]).fld F.glbStart_phase ≠ 0 ∧
    ((114 : BitVec 8).toInt < up.gradeMax + 10 ∧ up.gradeMax + 10 ≤ (115 : BitVec 8).toInt ∧ (withSup up fun p => { p with hold := 2 }).sup.hold / 2 % 2 = 1 ∧ calm.sup.hold / 2 % 2 = 0 ∧
      up.sup.warned = false ∧ up.sup.maxed = false ∧ signed 8 (up.fld F.glbThermCfg_thr_warn) < (101 : BitVec 8).toInt ∧ (101 : BitVec 8).toInt ≤ up.gradeMax ∧
      up.gradeMax < (106 : BitVec 8).toInt ∧ (100 : BitVec 8).toInt ≤ signed 8 (up.fld F.glbThermCfg_thr_warn) ∧ (withSup up fun p => { p with warned := true }).sup.warned = true) := by
  decide +kernel

/-- A journal record. -/
def jrec (typ : Nat) : JnlRec := { typ := typ, seq := 0, sec := 0, ns := 0, code := 0, epoch := 0, cls := 1, obj := 2, detail := [], act := .none }

theorem witness_journalAndStartUp :
    (up.released 3 = true ∧ 16 ≤ up.mem.jnlBlocks ∧ ({ up.mem with jnlP := [jrec 1] } : MemSt).jnlP = jrec 1 :: [] ∧ ({ up.mem with jnlO := [jrec 4] } : MemSt).jnlO = jrec 4 :: [] ∧
      up.mem.jnlP = [] ∧ up.mem.jnlO = [] ∧ up.mem.jnl.length < 1023 * up.mem.jnlBlocks ∧ up.fld F.memJnlSts_bad + 1 < 2 ^ 16 ∧ (on up [(F.memJnlSts_bad, 65534)]).fld F.memJnlSts_bad + 1 < 2 ^ 16) ∧
    (State.reset.released 3 = false ∧ ({ up.mem with jnlBlocks := 15 } : MemSt).jnlBlocks < 16) ∧
    (∀ p ∈ List.range 8, (on up [(F.glbStart_phase, p)]).fld F.glbStart_phase = p) ∧ up.cand 0 = false ∧ up.cand 1 = false ∧ up.mem.jnlWait = [] ∧
    (let s : State := { slotsIn 3 with rig := { (slotsIn 3).rig with slotA := { (slotsIn 3).rig.slotA with st := 0 } } }
     s.cand 1 = true ∧ s.cand (1 - 1) = false ∧ (s.slotOf 1).st = 3 ∧ s.fld F.glbStart_cause ≠ 5 ∧ s.mem.jnlP = []) := by decide +kernel

theorem witness_reefAndUnretire :
    (up.sup.reefed = false ∧ (withSup up fun p => { p with reefed := true }).sup.reefed = true ∧ up.flag F.glbSupSts_aux_low = false ∧ (on up [(F.glbSupSts_aux_low, 1)]).flag F.glbSupSts_aux_low = true ∧
      up.sup.i2cWait = []) ∧
    (up.released 2 = true ∧ up.flag F.glbRetCmd_busy = false ∧ (∀ c ∈ [7, 8, 9, 10], (on up [(F.glbRetArg_class, c)]).fld F.glbRetArg_class = c) ∧ up.rig.devApplies = [] ∧
      up.isRetired 8 0 = false ∧ (withSup up fun p => { p with retired := [{ cls := 8, obj := 5, sec := 0 }] }).isRetired 8 5 = true ∧
      (withSup up fun p => { p with retired := [{ cls := 8, obj := 5, sec := 0 }] }).sup.retired[up.fld F.glbRetIdx_idx]? = some { cls := 8, obj := 5, sec := 0 } ∧
      up.sup.retired.length ≤ up.fld F.glbRetIdx_idx) ∧
    (up.sup.unret = none ∧ ({ up.sup with unret := some (10, 255) } : SupSt).unret = some (10, 255) ∧ up.recordWaits 10 255 = false ∧ (1 : Master) ≠ 0 ∧
      (on up [(F.glbRetCmd_busy, 1)]).flag F.glbRetCmd_busy = true) := by decide +kernel

theorem witness_timeTick : State.reset.released 1 = false ∧ up.released 1 = true ∧
    (let t : TimSt := { up.tim with ns := 999999999, frac := 2 ^ 32 - 1, sec := 2 ^ 48 - 1, incFrac := 0x99CE075F }; t.ns < 1000000000 ∧ t.frac < 2 ^ 32 ∧ t.incNs = 1 ∧ t.incFrac < 2 ^ 32 ∧ t.sec < 2 ^ 48) := by
  decide +kernel

theorem witness_timeSetting :
    (up.released 1 = true ∧ mayWrite 0 = true ∧ up.tim.setAtPps = none ∧ (on up [(F.timSetNs_ns, 999999999)]).fld F.timSetNs_ns < 1000000000 ∧
      1000000000 ≤ (on up [(F.timSetNs_ns, 1000000000)]).fld F.timSetNs_ns ∧ (on up [(F.timSetNs_ns, 0x7FFFFFFF)]).fld F.timSetNs_ns ≠ 0x80000000 ∧
      (on up [(F.timSetNs_ns, 0x80000000)]).fld F.timSetNs_ns = 0x80000000 ∧ ({ up.tim with setAtPps := some 5 } : TimSt).setAtPps = some 5) ∧
    (∀ f ∈ [0x99652BD4, 0x99CE075F], 0x99652BD4 ≤ f ∧ f ≤ 0x99CE075F) ∧ (0x99CE075F < 0x99CE0760 ∧ (2 : BitVec 4) ≠ 1) ∧ mayWrite 0x24 = false ∧ State.reset.released 1 = false := by decide +kernel

theorem witness_timeReads : reaches 0x30 = true ∧ mayWrite 0x30 = false ∧ up.released 1 = true ∧ up.released 7 = true ∧ mayWrite 0x20 = true ∧ Tbl.find up.tim.tsq 15 [] = [] ∧
    Tbl.find (Tbl.put up.tim.tsq 15 [] [{ w0 := 1, w1 := 2, w2 := 3 }]) 15 [] = [{ w0 := 1, w1 := 2, w2 := 3 }] ∧ up.tim.todi = [] ∧
    ({ up.tim with todi := [255, 0] } : TimSt).todi = 255 :: [0] := by decide +kernel

/-- The block with its time-base state set. -/
def withTim (s : State) (f : TimSt → TimSt) : State := { s with tim := f s.tim }

theorem witness_timePinsPlls :
    (up.released 1 = true ∧ (on up [(F.timCtrl_pps_in_en, 1)]).flag F.timCtrl_pps_in_en = true ∧ up.tim.setAtPps = none ∧ (withTim up fun t => { t with setAtPps := some 9 }).tim.setAtPps = some 9 ∧
      up.tim.ppsLost = false ∧ (withTim up fun t => { t with ppsLost := true }).tim.ppsLost = true ∧ (on up [(F.timCtrl_pps_out_en, 1)]).flag F.timCtrl_pps_out_en = true) ∧
    ((withTim up fun t => { t with ppsEdge := some 9 }).tim.ppsEdge = some 9 ∧ (on up [(F.timTodCfg_out_mode, 1)]).fld F.timTodCfg_out_mode = 1 ∧ up.fld F.timTodCfg_baud ≠ 3 ∧
      (on up [(F.timTodCfg_out_mode, 2)]).fld F.timTodCfg_out_mode = 2 ∧ up.flag F.timTodoLen_armed = false ∧ (on up [(F.timTodoLen_armed, 1)]).flag F.timTodoLen_armed = true) ∧
    ((List.replicate 63 0).length < 64 ∧ 64 ≤ (List.replicate 64 0).length ∧ mayWrite 0x20 = true) ∧
    (∀ e ∈ [true, false], (dpReserved e) &&& dpReserved e ≠ 0 ∧ (0 : Word) &&& dpReserved e = 0 ∧ (on up [(dpFld e, 1)]).fld (dpFld e) = 1 ∧ (on up [(dpFld e, 2)]).fld (dpFld e) = 2 ∧
      (on up [(dpFld e, 3)]).fld (dpFld e) = 3 ∧ up.dpForce e = false) ∧
    ((on up [(F.timDpllE_src, 0), (F.timDpllS_ref, 0)]).dpRef true = true ∧ (on up [(F.timDpllE_src, 0), (F.timDpllS_ref, 0)]).dpRef false = true) ∧
    (let s := onu (on up [(F.timTodArg0_onu, 65535), (F.timTodArg0_channel, 255), (F.pchSts_state 255, 3), (F.timTodArg1_sfc, 65535)]) 65535 255 4
     let o := s.onuOf (s.fld F.timTodArg0_onu)
     let d := (s.fld F.timTodArg2_sfc * 2 ^ 32 + s.fld F.timTodArg1_sfc + 2 ^ 51 - (s.fld (F.pchSfcHi_sfc 255) * 2 ^ 32 + s.fld (F.pchSfcLo_sfc 255))) % 2 ^ 51
     s.fld F.timTodArg0_channel = 255 ∧ o.st = 4 ∧ o.chan = 255 ∧ s.ch 255 = chRunning ∧ 0 < d ∧ d ≤ 65535) ∧
    ((onu up 65535 255 4).onuOf 65535).chan ≠ 0 ∧ up.ch 255 ≠ chRunning ∧ (up.onuOf 0).st = 0 := by decide +kernel

theorem witness_paceWindow : (on up [(F.glbPaceCtrl_enable, 1)]).flag F.glbPaceCtrl_enable = true ∧ up.released 2 = true ∧ (on up [(F.glbPaceCtrl_enable, 0)]).flag F.glbPaceCtrl_enable = false ∧
    up.sup.slow = [false, false, false] ∧ up.flag F.glbPaceSts_slow_fab = false ∧ up.fld F.glbPaceThrFab_thr_ps < 2 ^ 24 - 1 ∧ 0 ≤ up.fld F.glbPaceThrPrs_thr_ps ∧
    up.fld F.glbPaceThrHal_thr_lead ≤ 0xFFFF := by decide +kernel

theorem witness_i2cMasters : mayWrite 0x23 = true ∧ up.released 2 = true ∧ up.flag (F.glbI2cCmd_busy 15) = false ∧ up.flag F.glbSupSts_aux_low = false ∧
    (on up [(F.glbSupSts_aux_low, 1)]).flag F.glbSupSts_aux_low = true ∧
    (let s := on up [(F.glbI2cCmd_busy 15, 1), (F.glbI2cCmd_op 15, 2), (F.glbI2cCmd_count 15, 3)]
     s.flag (F.glbI2cCmd_busy 15) = true ∧ s.sup.i2cWait.contains 15 = false ∧ s.fld (F.glbI2cCmd_op 15) = 2 ∧ s.fld (F.glbI2cCmd_count 15) = 3) ∧
    (on up [(F.glbI2cCmd_busy 0, 1), (F.glbI2cCmd_op 0, 1)]).fld (F.glbI2cCmd_op 0) ≠ 2 := by decide +kernel
/-! ### Ill-formed commands that the check refuses -/

theorem test_wf_master : Instr.wf (.reefEnter 0) = true ∧ Instr.wf (.lockRead 0x11 0) = false ∧ Instr.wf (.lockRead 0x10 0) = true ∧ Instr.wf (.lockRead 0x24 0) = false ∧
    Instr.wf (.qpOwnerWrite 0 0 0x1F) = false := by decide
theorem test_wf_issuer : Instr.wf (.openDisc (some 0x31) 0 { ctx := 0, onuId := 0, tries := 0, a1 := 0, a2 := 0, a3 := 0, poison := false }) = false := by decide
theorem test_wf_port : Instr.wf (.fabricIngress 384) = false ∧ Instr.wf (.fabricIngress 383) = true := by decide
theorem test_wf_bytes : bytesOk [255, 256] = false ∧ Instr.wf (.txDescriptorFetch 0 { addr := 0, len := 1, tsId := 0, kind := 0, tsReq := false, intr := false, port := 0, cls := 0, flow := 0, reserved := false, bytes := [256] } .ok) = false := by
  decide
theorem test_wf_txDesc : Instr.wf (.txDescriptorFetch 0 (desc 0 0) .ok) = true ∧ Instr.wf (.txDescriptorFetch 0 { desc 0 0 with len := 61 } .ok) = false := by decide
theorem test_wf_rxDesc : Instr.wf (.rxPacketDeliver 0 { addr := 0, size := 65536 } true .ok) = false := by decide
theorem test_wf_ploam : Instr.wf (.ploamOffer 0 .unicast { onu := none, typ := 3, content := List.replicate 35 0 } false) = false ∧
    Instr.wf (.ploamOffer 0 .unicast { onu := none, typ := 3, content := List.replicate 36 0 } false) = true := by decide +kernel
theorem test_wf_stamp : Instr.wf (.uplinkFrameSent 0 { ns := 1000000000, hi := 0 }) = false ∧ Instr.wf (.uplinkFrameSent 0 { ns := 999999999, hi := 0 }) = true := by decide
theorem test_wf_burst : Instr.wf (.burstReceive 0 (burst 65536)) = false ∧ Instr.wf (.burstReceive 0 (burst 65535)) = true := by decide
theorem test_wf_slotRead : Instr.wf (.learnProcess [{ loc := 2 ^ 20 + 2 ^ 14, ecc := .clean, shadowOk := true }]) = false := by decide
theorem test_wf_macRx : Instr.wf (.uplinkPacketIngress 0 [] true true { ns := 0, hi := 0 } (some { sci := none, an := 4, pn := 1, icvOk := true }) .clean) = false := by decide
theorem test_wf_hdr : Instr.wf (.syncReq (msg (2 ^ 32))) = false ∧ Instr.wf (.syncReq (msg 0)) = true := by decide
theorem test_wf_heartbeat : Instr.wf (.heartbeatReceived { hdr := msg 0, st := 256, prec := 0, epoch := 0, ack := 0, count := 0, revert := false, ns := 0 }) = false := by decide
theorem test_wf_frame : Instr.wf (.frameMessage { hdr := msg 0, chan := 256, sfc := 0, epoch := 0, held := false, ns := 0, sec := 0, feed := 0, map := [] }) = false := by decide
theorem test_wf_onu : Instr.wf (.onuMessage { hdr := msg 0, ctx := 0, chan := 0, st := 8, onuId := 0, presetValid := false, keyIx := 0, fomPreset := 0, f := 0, sn0 := 0, sn1 := 0, rtd := 0, eqd := 0, preset := 0, residue := 0, seqU := 0 }) = false := by
  decide
theorem test_wf_blob : Instr.wf (.keysMessage (msg 0) (List.replicate 127 0)) = false := by decide +kernel
theorem test_wf_learn : Instr.wf (.learnMessage (msg 0) [{ op := 0, part := 0, w2 := 0, key := 0 }]) = false := by decide
theorem test_wf_quanta : Instr.wf (.pfcFrameReceived 0 0 (List.replicate 7 0)) = false := by decide

/-! ### Worked examples and reset values that the spec prints -/

/-- An empty queue idles. -/
theorem test_idle : Sys2Proof.Machine.step State.reset = .next State.reset := rfl

/-- Reset values of GLB_RAT_POOL, PCH_RAT_TEQD of channel 37, PCH_RAT_RESP and HAL_STS (chapters 05 and 06). -/
theorem test_reset_registers : State.reset.reg 0x260 = 0x4040 ∧ State.reset.reg 0x1094200 = 0x05EEC000 ∧ State.reset.reg 0x1094204 = 0x00D4A000 ∧ State.reset.reg 0x1400000 = 0x00028000 := by
  decide +kernel

/-- Chapter 03, example of a frame's payload, step 4: of 1,518 bytes at r = 772 the first fragment carries 764 and 754 are left. -/
theorem test_fragment : let s := ((((onu (chan 37 3) 0xA3 37 4)).setRecord kFlw 0x12345 [0x00A30412, 1, 38]).setDs 37 { dsInit with edge := [{ pkt with flow := 0x12345, len := 1518 }], space := 772 })
    (((after (.xgemEncapsulate 37 .clean .clean false) s).dsOf 37).rest.map fun r => (r.portId, r.left)) = some (0x0412, 754) ∧
      (after (.xgemEncapsulate 37 .clean .clean false) s).out = [.xgem 37 0x0412 0 764 false false] := by decide +kernel

/-- Chapter 05, example of ranging, steps 5 and 7. -/
theorem test_ranging : eqdOf 99532800 (tpbOf 2 0) 59306123 = some (59306123, 1005666, 37) ∧ eqdOf 99532800 (tpbOf 2 0) 59306164 = some (59306164, 1005665, 36) := by decide

/-- Chapter 06, example of a map: the bursts of ONUs 0x011, 0x012 and 0x013 in units of 4 bytes. -/
theorem test_bursts : burstLen 2 4 32 true false 2751 = 3171 ∧ burstLen 2 4 32 true false 751 = 875 ∧ burstLen 2 4 32 true true 30302 = 38876 - 4054 := by decide

/-- Chapter 10, example of a shaper: 1,528 bytes at 100,000 kbit/s cost 31,293,440 units. -/
theorem test_shaper : shapeUnits 1528 100000 = 31293440 := by decide

/-- Chapter 10, example of a gate: 9,000 bytes at 800 Gbit/s do not fit 50 ns and fit 91 ns; 1 µs at 100 Gbit/s carries a wire length of 12,500 bytes. -/
theorem test_gate : wireOver 9000 800 (50 * 256) = true ∧ wireOver 9000 800 (91 * 256) = false ∧ wireOver 12480 100 (1000 * 256) = false ∧ wireOver 12481 100 (1000 * 256) = true := by decide

/-- Chapter 12, example of TstampN for ONU 0x00A3. -/
theorem test_tstamp :
    let s := on (onu (chan 37 3) 0xA3 37 4) [(F.timTchCal_ds_cal 37, 0xDC0), (F.timTchK_k 37, 0x7FFA), (F.pchSfcLo_sfc 37, 0x2C641D50), (F.pchSfcHi_sfc 37, 3), (F.pchFstartNs_ns 37, 0x1A13B860),
      (F.timTodArg0_onu, 0xA3), (F.timTodArg0_channel, 37), (F.timTodArg1_sfc, 0x2C641D60), (F.timTodArg2_sfc, 3)]
    let s := (s.setOnu 0xA3 { s.onuOf 0xA3 with residue := 37 }).setDs 37 { s.dsOf 37 with startSec := 0x6553F10A, startFrac := 0 }
    let t := after (.todCalc 0) { s with tim := { s.tim with incNs := 1, incFrac := 0x9999DCB5 } }
    t.fld F.timTodCmd_result = 0 ∧ t.fld F.timTodResSecLo_sec = 0x6553F10A ∧ t.fld F.timTodResSecHi_sec = 0 ∧ t.fld F.timTodResNs_ns = 0x1A323D1B ∧ t.fld F.timTodResSub_sub = 61 := by decide +kernel

/-- Chapter 14, example of the frame boundary after a takeover: 249,999,337.75 ns after the second, in 1/64 ns. -/
theorem test_boundary : 250000000 * 64 - 2384 + ticks64 (0x1E6000 - 0x222C00) = (249999337 * 64 + 48 : Int) := by decide

end Sys2Proof.Tests
end

section
/-! Proofs about register accesses: the frames they keep, reads, writes and staged writes. -/

namespace Sys2Proof.Safety

open Sys2Proof.Machine

/-! ### Frames of the state's operations -/

theorem FldsBut.mono {l k : List Fld} {s t : State} (h : FldsBut l s t) (hl : l ⊆ k) : FldsBut k s t := fun g hg => h g (fun f hf => hg f (hl hf))

theorem FrameBut.setFld {l : List Part} {s t : State} (h : FrameBut l s t) (f : Fld) (v : Nat) (hl : .regs ∈ l) :
    FrameBut l s (t.setFld f v) := fun p hp => by
  have := h p hp
  cases p <;> simp_all [Part.Same]

theorem FrameBut.post {l : List Part} {s t : State} (h : FrameBut l s t) (c : Nat) (d : List Nat) (hl : [.evq, .cnt, .mem] ⊆ l) :
    FrameBut l s (t.post c d) := fun p hp => by
  have := h p hp
  cases p <;> simp_all [Part.Same]

theorem FrameBut.resp {l : List Part} {s t : State} (h : FrameBut l s t) (x : Resp) (hl : .resp ∈ l) :
    FrameBut l s { t with resp := x } := fun p hp => by
  have := h p hp
  cases p <;> simp_all [Part.Same]

theorem FrameBut.fab {l : List Part} {s t : State} (h : FrameBut l s t) (x : FabSt) (hl : .fab ∈ l) :
    FrameBut l s { t with fab := x } := fun p hp => by
  have := h p hp
  cases p <;> simp_all [Part.Same]

theorem FrameBut.freeIx {l : List Part} {s t : State} (h : FrameBut l s t) (x : Nat) (hl : .freeIx ∈ l) :
    FrameBut l s { t with freeIx := x } := fun p hp => by
  have := h p hp
  cases p <;> simp_all [Part.Same]

theorem FrameBut.staged {l : List Part} {s t : State} (h : FrameBut l s t) (x : Table (Option Word)) (hl : .staged ∈ l) :
    FrameBut l s { t with staged := x } := fun p hp => by
  have := h p hp
  cases p <;> simp_all [Part.Same]

theorem FrameBut.stagedLog {l : List Part} {s t : State} (h : FrameBut l s t) (x : List StagedEnt) (hl : .stagedLog ∈ l) :
    FrameBut l s { t with stagedLog := x } := fun p hp => by
  have := h p hp
  cases p <;> simp_all [Part.Same]

theorem FrameBut.prevRegs {l : List Part} {s t : State} (h : FrameBut l s t) (x : Table Word) (hl : .prevRegs ∈ l) :
    FrameBut l s { t with prevRegs := x } := fun p hp => by
  have := h p hp
  cases p <;> simp_all [Part.Same]

theorem FrameBut.prevRecs {l : List Part} {s t : State} (h : FrameBut l s t) (x : Table (List Nat)) (hl : .prevRecs ∈ l) :
    FrameBut l s { t with prevRecs := x } := fun p hp => by
  have := h p hp
  cases p <;> simp_all [Part.Same]

theorem FrameBut.rig {l : List Part} {s t : State} (h : FrameBut l s t) (x : RigSt) (hl : .rig ∈ l) :
    FrameBut l s { t with rig := x } := fun p hp => by
  have := h p hp
  cases p <;> simp_all [Part.Same]

theorem FrameBut.latches {l : List Part} {s t : State} (h : FrameBut l s t) (x : Table (Option Word)) (hl : .latches ∈ l) :
    FrameBut l s { t with latches := x } := fun p hp => by
  have := h p hp
  cases p <;> simp_all [Part.Same]

end Sys2Proof.Safety

namespace Sys2Proof.Machine

open Sys2Proof.Safety

/-! ### Masters and the register map -/

theorem reaches_of_mayWrite {m : Master} (h : mayWrite m = true) : reaches m = true := by simp [reaches, h]

theorem resolve_of_reaches (s : State) {m : Master} (h : reaches m = true) (a : Nat) : s.resolve m a = some a := by
  simp [State.resolve, h]

/-- The ULK range and all above it hold no register (R402). -/
theorem row?_none_of_ulk {a : Nat} (h : 0x2800000 ≤ a) : RegMap.row? a = none := by
  have hrows : RegMap.rows a = [] := by
    unfold RegMap.rows
    repeat rw [if_neg (by omega)]
  simp [RegMap.row?, hrows]

theorem view_of_row?_none (s : State) (m : Master) {a : Nat} (h : RegMap.row? a = none) : s.view m a = 0 := by
  simp [State.view, h]

/-! ### Reads (R11, R404) -/

/-- A read uses up the word latched for the master. -/
theorem readReg_of_latched {s : State} {m : Master} {a : Nat} {w : Word} (h : Tbl.find s.latches (latchKey m a) none = some w) :
    s.readReg m a = ({ s with latches := Tbl.del s.latches (latchKey m a) }, w) := by
  simp [State.readReg, h]

/-- A register that holds a lower word is not the free-running one. -/
theorem ne_of_isLow {a : Nat} (h : isLow a = true) : a ≠ 0x400 := by
  rintro rfl
  exact absurd h (by decide)

theorem readReg_of_low {s : State} {m : Master} {a : Nat} (h : Tbl.find s.latches (latchKey m a) none = none) (hl : isLow a = true) :
    s.readReg m a = (s.latch m (a + 4) (s.view m (a + 4)).toNat, s.view m a) := by
  simp [State.readReg, h, hl, ne_of_isLow hl]

theorem readReg_of_not_low {s : State} {m : Master} {a : Nat} (h : Tbl.find s.latches (latchKey m a) none = none) (hl : isLow a = false) :
    s.readReg m a = (if a = 0x400 then s.tickFree else s, s.view m a) := by
  simp [State.readReg, h, hl]

theorem exec_lowWordRead {s : State} {m : Master} {a : BitVec 26} (ha : a.toNat % 4 = 0) (hm : reaches m = true) :
    exec (.lowWordRead m a) s = .next ((s.readReg m a.toNat).1.reply [(s.readReg m a.toNat).2.toNat]) := by
  show execLowWordRead s m a = _
  simp [execLowWordRead, ha, resolve_of_reaches s hm]

theorem exec_rcFieldRead {s : State} {m : Master} {a : BitVec 26} (ha : a.toNat % 4 = 0) (hm : reaches m = true)
    (hd : s.released (domainOf a.toNat) = true) :
    exec (.rcFieldRead m a) s = .next ((s.clearRc a.toNat).reply [(s.view m a.toNat).toNat]) := by
  show execRcFieldRead s m a = _
  simp [execRcFieldRead, ha, hm, hd]

/-- Clearing the RC fields of a register writes registers, and for the pools their record of the lowest value (R404). -/
theorem State.clearRc_frame (s : State) (a : Nat) : FrameBut [.regs, .fab] s (s.clearRc a) := by
  have hf {t : State} (h : FrameBut [.regs, .fab] s t) (f : Fld) (v : Nat) : FrameBut [.regs, .fab] s (t.setFld f v) := h.setFld f v (by simp)
  have hp (k : Nat) (x : Pool) : FrameBut [.regs, .fab] s (s.setPool k x) := (FrameBut.refl _ s).fab _ (by simp)
  have h0 := FrameBut.refl [.regs, .fab] s
  simp only [State.clearRc, apply_ite (FrameBut [.regs, .fab] s), hf, hp, h0, ite_self]

theorem State.clearRc_mateHb (s : State) : s.clearRc F.mateHb_lost.addr = s.setFld F.mateHb_lost 0 := by
  simp [State.clearRc, F.mateHb_lost]

theorem State.clearRc_ratPool (s : State) :
    s.clearRc F.glbRatPool_low_water.addr = s.setFld F.glbRatPool_low_water (s.fld F.glbRatPool_free) := by
  simp [State.clearRc, F.glbRatPool_low_water]

theorem State.clearRc_paceHal (s : State) :
    s.clearRc F.glbPaceHal_worst_lead.addr = s.setFld F.glbPaceHal_worst_lead 0xFFFF := by
  simp [State.clearRc, F.glbPaceHal_worst_lead]

/-- A read, of which the lower word of a two-word value latches the higher one (R11). -/
theorem exec_lowWordRead_unlatched {s : State} {m : Master} {a : BitVec 26} (ha : a.toNat % 4 = 0) (hm : reaches m = true)
    (hn : Tbl.find s.latches (latchKey m a.toNat) none = none) :
    ∃ t, exec (.lowWordRead m a) s = .next t ∧ t.resp = { ur := false, data := [s.view m a.toNat] } ∧
      (isLow a.toNat = true → Tbl.find t.latches (latchKey m (a.toNat + 4)) none = some (s.view m (a.toNat + 4))) ∧
      (isLow a.toNat = false → t.latches = s.latches) ∧ FrameBut [.latches, .resp, .freeIx] s t := by
  refine ⟨_, exec_lowWordRead ha hm, ?_⟩
  cases hl : isLow a.toNat with
  | true =>
    rw [readReg_of_low hn hl]
    refine ⟨by simp [State.reply], fun _ => by simp [State.latch], by simp, ?_⟩
    exact ((FrameBut.refl _ s).latches _ (by simp)).resp _ (by simp)
  | false =>
    rw [readReg_of_not_low hn hl]
    refine ⟨by simp [State.reply], by simp, fun _ => by dsimp only; split <;> rfl, ?_⟩
    dsimp only
    split
    · exact ((FrameBut.refl _ s).freeIx _ (by simp)).resp _ (by simp)
    · exact (FrameBut.refl _ s).resp _ (by simp)

/-- A read of a latched word answers it and uses it up (R11). -/
theorem exec_lowWordRead_latched {s : State} {m : Master} {a : BitVec 26} {w : Word} (ha : a.toNat % 4 = 0) (hm : reaches m = true)
    (hw : Tbl.find s.latches (latchKey m a.toNat) none = some w) :
    ∃ t, exec (.lowWordRead m a) s = .next t ∧ t.resp = { ur := false, data := [w] } ∧
      Tbl.find t.latches (latchKey m a.toNat) none = none ∧ FrameBut [.latches, .resp] s t := by
  refine ⟨_, exec_lowWordRead ha hm, ?_⟩
  rw [readReg_of_latched hw]
  exact ⟨by simp [State.reply], Tbl.find_del_same _ _ _, ((FrameBut.refl _ s).latches _ (by simp)).resp _ (by simp)⟩

/-- The read of an RC field answers the register as it stood and clears what R404 says. -/
theorem exec_rcFieldRead_clears {s : State} {m : Master} {a : BitVec 26} (ha : a.toNat % 4 = 0) (hm : reaches m = true)
    (hd : s.released (domainOf a.toNat) = true) :
    ∃ t, exec (.rcFieldRead m a) s = .next t ∧ t.resp = { ur := false, data := [s.view m a.toNat] } ∧
      (a.toNat = F.mateHb_lost.addr → t.fld F.mateHb_lost = 0 ∧ FldsBut [F.mateHb_lost] s t) ∧
      (a.toNat = F.glbRatPool_low_water.addr → t.fld F.glbRatPool_low_water = s.fld F.glbRatPool_free ∧ FldsBut [F.glbRatPool_low_water] s t) ∧
      (a.toNat = F.glbPaceHal_worst_lead.addr → t.fld F.glbPaceHal_worst_lead = 0xFFFF ∧ FldsBut [F.glbPaceHal_worst_lead] s t) ∧
      FrameBut [.regs, .resp, .fab] s t := by
  have hone (f : Fld) (v : Nat) (hf : f.lo + f.width ≤ 32) : FldsBut [f] s (s.setFld f v) := (FldsBut.refl _ s).setFld v (by simp) hf
  refine ⟨_, exec_rcFieldRead ha hm hd, by simp [State.reply], ?_, ?_, ?_, ?_⟩
  · intro e
    rw [e, State.clearRc_mateHb]
    exact ⟨by simp [F.mateHb_lost], (hone _ _ (by decide)).reply_ _⟩
  · intro e
    rw [e, State.clearRc_ratPool]
    have hfree : s.fld F.glbRatPool_free < 2 ^ F.glbRatPool_low_water.width := s.fld_lt F.glbRatPool_free
    refine ⟨?_, (hone _ _ (by decide)).reply_ _⟩
    rw [State.reply_fld_at, State.fld_setFld_same _ _ _ (by decide), Nat.mod_eq_of_lt hfree]
  · intro e
    rw [e, State.clearRc_paceHal]
    exact ⟨by simp [F.glbPaceHal_worst_lead], (hone _ _ (by decide)).reply_ _⟩
  · exact ((s.clearRc_frame a.toNat).mono (by simp)).resp _ (by simp)

end Sys2Proof.Machine

namespace Sys2Proof.Proofs

open Sys2Proof.Machine Sys2Proof.Safety

/-- Settles O8, by the three kinds of read: misaligned, of a latched or unlatched word, and of an RC field. -/
theorem registerReads : Obligations.registerReads := by
  refine ⟨fun m a s ha => ?_, fun m a s ha hm => ?_, fun m a s ha => ?_⟩
  · exact ⟨if_pos ha, if_pos ha⟩
  · exact ⟨fun w => exec_lowWordRead_latched ha hm, exec_lowWordRead_unlatched ha hm, exec_rcFieldRead_clears ha hm⟩
  · exact ⟨row?_none_of_ulk ha, view_of_row?_none s m (row?_none_of_ulk ha)⟩

end Sys2Proof.Proofs
end

section
/-! Register writes: the statement fails where reserved bits of RIG_DRAIN_LIMIT hold 1s. -/

namespace Sys2Proof.Proofs

open Sys2Proof.Machine Sys2Proof.Safety

/-- The block out of reset, with 1s in the reserved bits 31:20 of RIG_DRAIN_LIMIT: no write leads here, but the statement takes every state. -/
def drainLimitReservedSet : State :=
  { State.reset with sup := { State.reset.sup with held := [] }, regs := [(0x10001C, 0xFFF00000)] }

/-- The reserved bits stand above the limit written, so the register takes the upper end of its range. -/
theorem exec_write_drainLimitReservedSet :
    ∃ t, exec (.registerWrite 0 0x10001C 4 1000) drainLimitReservedSet = .next t ∧ (t.reg 0x10001C).toNat = 100000 :=
  ⟨_, rfl, by decide +kernel⟩

/-- Refutes O6: the clause on RIG_DRAIN_LIMIT gives min 100000 (max 500 w) for the word w written, from every state. The model takes the nearest value in
range of the register's whole word after the write, which keeps reserved bits as they were: with a 1 in bits 31:20 a write of 1000 gives 100000. -/
theorem not_registerWrite : ¬ Obligations.registerWrite := by
  rintro ⟨-, hword, -⟩
  have hwrite := (hword 0 0x10001C 1000 drainLimitReservedSet (by decide) (by decide) (by decide +kernel) (by decide +kernel)).2
    ⟨0x10001C, 1, 0x4, 1, 0x4, 0x3E8, [⟨0, 20, .rw⟩]⟩ (by decide +kernel) (by decide)
  obtain ⟨-, htake⟩ := hwrite.2 (by decide +kernel)
  obtain ⟨-, hlimit, -⟩ := htake (by decide +kernel)
  obtain ⟨t, ht, hreg, -⟩ := hlimit (by decide)
  obtain ⟨u, hu, hval⟩ := exec_write_drainLimitReservedSet
  obtain rfl : t = u := Host.Outcome.next.inj (ht.symm.trans hu)
  simp [hval] at hreg

end Sys2Proof.Proofs
end

section
/-! Proofs about the staging machine, staged writes, epochs and the drain. -/

namespace Sys2Proof.Machine

open Sys2Proof.Safety

/-! ### The bits of a register's row -/

/-- Every field of a row lies in the register's 32 bits. -/
def RegRow.fits (r : RegRow) : Bool := r.flds.all (fun f => decide (f.lo + f.width ≤ 32))

/-- The rows of every block (R401), and none. -/
def RegMap.blocks : List (List RegRow) :=
  [RegMap.glb, RegMap.rig, RegMap.mbx, RegMap.cnt, RegMap.tim, RegMap.mem, RegMap.mate, RegMap.shr, RegMap.lane, RegMap.pch, RegMap.hal,
   RegMap.prs, RegMap.fwd, RegMap.fab, RegMap.sht, []]

theorem RegMap.rows_fit (a : Nat) : (RegMap.rows a).all RegRow.fits = true := by
  have hblocks : RegMap.blocks.all (fun l => l.all RegRow.fits) = true := by decide +kernel
  simp only [RegMap.blocks, List.all_cons, Bool.and_eq_true] at hblocks
  simp only [RegMap.rows, apply_ite (List.all · RegRow.fits), hblocks, ite_self]

theorem RegMap.fits_of_row? {a : Nat} {r : RegRow} (h : RegMap.row? a = some r) : r.fits = true :=
  List.all_eq_true.mp (RegMap.rows_fit a) r (List.mem_of_find?_eq_some h)

theorem fieldMask_lt {lo width : Nat} (h : lo + width ≤ 32) : (2 ^ width - 1) <<< lo < 2 ^ 32 := by
  rw [Nat.shiftLeft_eq]
  calc (2 ^ width - 1) * 2 ^ lo < 2 ^ width * 2 ^ lo := by
        have : 0 < 2 ^ width := by positivity
        have : 0 < 2 ^ lo := by positivity
        gcongr
        omega
    _ = 2 ^ (lo + width) := by rw [← pow_add, Nat.add_comm]
    _ ≤ 2 ^ 32 := Nat.pow_le_pow_right (by decide) h

theorem RegRow.mask_lt {r : RegRow} (h : r.fits = true) (p : Access → Bool) : r.mask p < 2 ^ 32 := by
  have fold (l : List FieldRow) (hl : ∀ f ∈ l, f.lo + f.width ≤ 32) (m : Nat) (hm : m < 2 ^ 32) :
      l.foldl (fun m f => if p f.acc then m ||| ((2 ^ f.width - 1) <<< f.lo) else m) m < 2 ^ 32 := by
    induction l generalizing m with
    | nil => exact hm
    | cons f l ih =>
      refine ih (fun g hg => hl g (by simp [hg])) _ ?_
      dsimp only
      split
      · exact Nat.or_lt_two_pow hm (fieldMask_lt (hl f (by simp)))
      · exact hm
  exact fold r.flds (by simpa [RegRow.fits] using h) 0 (by decide)

/-- A row with ST fields has ST bits in its word. -/
theorem RegRow.maskWord_ne_zero {r : RegRow} (hr : r.fits = true) {p : Access → Bool} (h : r.mask p ≠ 0) : (BitVec.ofNat 32 (r.mask p)) ≠ 0 := by
  intro e
  have := congrArg BitVec.toNat e
  rw [BitVec.toNat_ofNat, Nat.mod_eq_of_lt (RegRow.mask_lt hr p)] at this
  exact h this

/-- The key of a register is its address with the selected instance above bit 31. -/
theorem State.selKey_eq_add (s : State) (a : Nat) : ∃ n, s.selKey a = a + n * 0x100000000 := by
  have hsel (n : Nat) : ∃ k, a + n * 0x100000000 = a + k * 0x100000000 := ⟨n, rfl⟩
  have hself : ∃ k, a = a + k * 0x100000000 := ⟨0, rfl⟩
  simp only [State.selKey, apply_ite (fun x => ∃ n, x = a + n * 0x100000000), hsel, hself, ite_self]

/-- The key of another register is not that of RIG_STS. -/
theorem State.selKey_ne_rigSts (s : State) {a : Nat} (h : a ≠ F.rigSts.addr) : s.selKey a ≠ F.rigSts.addr := by
  obtain ⟨n, hn⟩ := s.selKey_eq_add a
  rw [hn]
  simp only [F.rigSts] at h ⊢
  omega

/-- RIG_STS holds no ST field. -/
theorem ne_rigSts_of_st {a : Nat} {r : RegRow} (h : RegMap.row? a = some r) (hst : r.mask (fun x => decide (x = .st)) ≠ 0) : a ≠ F.rigSts.addr := by
  rintro rfl
  have hrow : (RegMap.row? F.rigSts.addr).any (fun r => r.mask (fun x => decide (x = .st)) = 0) = true := by decide +kernel
  rw [h] at hrow
  exact hst (by simpa using hrow)

/-! ### The staging machine's moves -/

theorem State.moveRig_eq (s : State) (st : Nat) : ∃ b, s.moveRig st =
    ({ s.setFld F.rigSts_state st with rig := { s.rig with fresh := false } }).setFld F.rigSts_busy b := ⟨_, rfl⟩

theorem State.moveRig_frame (s : State) (st : Nat) : FrameBut [.regs, .rig] s (s.moveRig st) :=
  (((FrameBut.refl _ s).setFld _ _ (by simp)).rig _ (by simp)).setFld _ _ (by simp)

theorem State.moveRig_flds (s : State) (st : Nat) : FldsBut [F.rigSts_state, F.rigSts_busy] s (s.moveRig st) :=
  (((FldsBut.refl _ s).setFld st (by simp) (by decide)).rig _).setFld _ (by simp) (by decide)

/-- What posting reads stands. -/
theorem State.moveRig_postSame (s : State) (st : Nat) : PostSame s (s.moveRig st) :=
  (((PostSame.refl s).setFld F.rigSts_state st (by decide) (by decide) (by decide) (by decide)).rig _).setFld F.rigSts_busy _
    (by decide) (by decide) (by decide) (by decide)

@[simp] theorem State.moveRig_rig (s : State) (st : Nat) : (s.moveRig st).rig = { s.rig with fresh := false } := rfl

theorem State.moveRig_reg_other (s : State) (st : Nat) {a : Nat} (h : a ≠ F.rigSts.addr) : (s.moveRig st).reg a = s.reg a := by
  obtain ⟨b, hb⟩ := s.moveRig_eq st
  rw [hb, State.reg_setFld_other (f := F.rigSts_busy) _ _ h]
  exact State.reg_setFld_other (f := F.rigSts_state) s st h

/-- The machine is in the state it moves to. -/
theorem State.rigState_moveRig (s : State) {st : Nat} (h : st < 8) : (s.moveRig st).rigState = st := by
  obtain ⟨b, hb⟩ := s.moveRig_eq st
  have hset : (s.setFld F.rigSts_state st).fld F.rigSts_state = st := by
    rw [State.fld_setFld_same _ _ _ (by decide)]
    exact Nat.mod_eq_of_lt h
  rw [hb, State.rigState, State.fld_setFld_other _ _ (by decide) (by decide)]
  exact hset

/-! ### A staged write (R9, R50) -/

/-- The machine as a staged write leaves it before the write enters the set: in OPEN, a check in progress completed ABORTED. -/
def State.opened (s : State) : State := if s.rigState = 1 then (s.moveRig 0).complete cAborted else s.moveRig 0

theorem State.stagingWrite_of_open {s : State} (h : s.rigState < 4 ∨ s.rigState = 7) (f : State → State) : s.stagingWrite f = f s.opened := by
  have hlost : ¬ (s.rigState = 4 ∨ s.rigState = 5 ∨ s.rigState = 6) := by omega
  simp only [State.stagingWrite, State.opened, if_neg hlost]
  split <;> rfl

theorem State.stagingWrite_of_lost {s : State} (h : s.rigState = 4 ∨ s.rigState = 5 ∨ s.rigState = 6) (f : State → State) :
    s.stagingWrite f = (s.setFld F.rigSts_stage_write_lost 1).post 0x020A [] := if_pos h

/-- What `opened` changes: RIG_STS and the memory of a past apply instant. -/
theorem State.opened_cases (s : State) :
    (s.rigState = 1 ∧ s.opened = (s.moveRig 0).setFld F.rigSts_completion 2) ∨ (s.rigState ≠ 1 ∧ s.opened = s.moveRig 0) := by
  by_cases h : s.rigState = 1
  · exact .inl ⟨h, if_pos h⟩
  · exact .inr ⟨h, if_neg h⟩

theorem State.opened_frame (s : State) : FrameBut [.regs, .rig] s s.opened := by
  obtain ⟨-, h⟩ | ⟨-, h⟩ := s.opened_cases <;> rw [h]
  · exact (s.moveRig_frame 0).setFld _ _ (by simp)
  · exact s.moveRig_frame 0

theorem State.opened_flds (s : State) : FldsBut [F.rigSts_state, F.rigSts_busy, F.rigSts_completion] s s.opened := by
  have hmove : FldsBut [F.rigSts_state, F.rigSts_busy, F.rigSts_completion] s (s.moveRig 0) :=
    (s.moveRig_flds 0).mono (by simp)
  obtain ⟨-, h⟩ | ⟨-, h⟩ := s.opened_cases <;> rw [h]
  · exact hmove.setFld _ (by simp) (by decide)
  · exact hmove

theorem State.opened_rig (s : State) : s.opened.rig = { s.rig with fresh := false } := by
  obtain ⟨-, h⟩ | ⟨-, h⟩ := s.opened_cases <;> rw [h] <;> rfl

theorem State.opened_reg_other (s : State) {a : Nat} (h : a ≠ F.rigSts.addr) : s.opened.reg a = s.reg a := by
  obtain ⟨-, ho⟩ | ⟨-, ho⟩ := s.opened_cases <;> rw [ho]
  · rw [State.reg_setFld_other (f := F.rigSts_completion) _ _ h, s.moveRig_reg_other 0 h]
  · exact s.moveRig_reg_other 0 h

theorem State.opened_state (s : State) : s.opened.fld F.rigSts_state = 0 := by
  have hmove : (s.moveRig 0).fld F.rigSts_state = 0 := s.rigState_moveRig (by decide)
  obtain ⟨-, h⟩ | ⟨-, h⟩ := s.opened_cases <;> rw [h]
  · rw [State.fld_setFld_other _ _ (by decide) (by decide), hmove]
  · exact hmove

/-- A check in progress completes ABORTED; otherwise the completion stands. -/
theorem State.opened_completion (s : State) :
    (s.rigState = 1 → s.opened.fld F.rigSts_completion = 2) ∧ (s.rigState ≠ 1 → s.opened.fld F.rigSts_completion = s.fld F.rigSts_completion) := by
  obtain ⟨hs, h⟩ | ⟨hs, h⟩ := s.opened_cases <;> rw [h]
  · exact ⟨fun _ => by rw [State.fld_setFld_same _ _ _ (by decide)]; rfl, fun hn => absurd hs hn⟩
  · exact ⟨fun he => absurd he hs, fun _ => s.moveRig_flds 0 _ (by simp [Apart, F.rigSts_state, F.rigSts_busy, F.rigSts_completion])⟩

/-- Entering a word in the staged set changes the staged value of its register only. -/
theorem State.enterReg_staged (s : State) (k j : Nat) (w : Word) (viaReg : Bool) (sect : Nat) :
    Tbl.find (s.enterReg k w viaReg sect).staged j none = if j = k then some w else Tbl.find s.staged j none :=
  Tbl.find_put s.staged k j none (some w)

theorem State.enterReg_stagedReg (s : State) (k : Nat) (w : Word) (viaReg : Bool) (sect : Nat) : (s.enterReg k w viaReg sect).stagedReg k = w := by
  rw [State.stagedReg, State.enterReg_staged, if_pos rfl, Option.getD_some]

/-- STAGING_WRITE of a register with ST fields whose reserved bits are written 0. -/
theorem exec_stagingWrite {m : Master} {a : BitVec 26} {w : Word} {s : State} {r : RegRow} (ha : a.toNat % 4 = 0) (hm : mayWrite m = true)
    (hd : s.released (domainOf a.toNat) = true) (hr : RegMap.row? a.toNat = some r) (hres : w &&& r.reserved = 0)
    (hst : r.mask (fun x => decide (x = .st)) ≠ 0) :
    exec (.stagingWrite m a w) s = .next ((s.stagingWrite (fun t => t.enterReg (s.selKey a.toNat)
      ((t.stagedReg (s.selKey a.toNat) &&& ~~~(BitVec.ofNat 32 (r.mask (fun x => decide (x = .st))))) |||
        (w &&& BitVec.ofNat 32 (r.mask (fun x => decide (x = .st))))) true 0)).done) := by
  have hbits := RegRow.maskWord_ne_zero (RegMap.fits_of_row? hr) hst
  show execStagingWrite s m a w = _
  have hstage (u : State) : (if BitVec.ofNat 32 (r.mask (fun x => decide (x = .st))) = 0 then s else u) = u := if_neg hbits
  simp only [execStagingWrite, ha, hm, hd, hr, hres, State.stageWord, ne_eq, not_true_eq_false, Bool.true_eq_false, or_self, if_false, hstage]

end Sys2Proof.Machine

namespace Sys2Proof.Proofs

open Sys2Proof.Machine Sys2Proof.Safety

/-- Settles O7: a staged write that is taken enters its word in the machine as `State.opened` leaves it, and one that is lost is noted and posted. -/
theorem stagingWrite : Obligations.stagingWrite := by
  intro m a w s r ha hm hd hr hres hst k st
  have hexec := exec_stagingWrite ha hm hd hr hres hst
  have hk : k ≠ F.rigSts.addr := s.selKey_ne_rigSts (ne_rigSts_of_st hr hst)
  constructor
  · intro hopen
    rw [State.stagingWrite_of_open hopen] at hexec
    have hframe := s.opened_frame
    have hstaged : s.opened.staged = s.staged := hframe .staged (by decide)
    have hval : s.opened.stagedReg k = s.stagedReg k := by rw [State.stagedReg, State.stagedReg, hstaged, s.opened_reg_other hk]
    refine ⟨_, hexec, ?_, fun j hj => ?_, s.opened_state, s.opened_completion.1, s.opened_completion.2, s.opened_flds, ?_, s.opened_rig⟩
    · exact (State.enterReg_stagedReg _ k _ true 0).trans (by rw [hval])
    · exact (State.enterReg_staged _ k j _ true 0).trans ((if_neg hj).trans (by rw [hstaged]))
    · exact (((hframe.mono (by simp)).staged _ (by simp)).stagedLog _ (by simp)).resp _ (by simp)
  · intro hlost
    rw [State.stagingWrite_of_lost hlost] at hexec
    have hsame := (PostSame.refl s).setFld F.rigSts_stage_write_lost 1 (by decide) (by decide) (by decide) (by decide)
    refine ⟨_, hexec, ?_, Posted.of_same hsame rfl rfl rfl, ?_, ?_⟩
    · exact (State.post_fld_at _ _ _ _).trans (State.fld_setFld_same _ _ _ (by decide))
    · exact (((FldsBut.refl _ s).setFld 1 (by simp) (by decide)).post_ 0x020A []).resp _
    · exact (((FrameBut.refl _ s).setFld _ _ (by simp)).post _ _ (by simp)).resp _ (by simp)

end Sys2Proof.Proofs
end

section
/-! Proofs about epochs, the drain and re-rigging. -/

namespace Sys2Proof.Machine

open Sys2Proof.Safety

/-! ### The epoch advances (R14, R57) -/

theorem State.advance_flds (s : State) : FldsBut [F.rigEpoch_previous, F.rigEpoch_current, F.rigSts_prev_live] s s.advance :=
  ((((FldsBut.refl _ s).prevRegs s.regs).prevRecs s.recs).setFld _ (by simp) (by decide)
    |>.setFld _ (by simp) (by decide)).setFld _ (by simp) (by decide)

theorem State.advance_frame (s : State) : FrameBut [.regs, .prevRegs, .prevRecs] s s.advance :=
  (((((FrameBut.refl _ s).prevRegs s.regs (by simp)).prevRecs s.recs (by simp)).setFld _ _ (by simp)).setFld _ _ (by simp)).setFld _ _ (by simp)

theorem State.epoch_advance (s : State) : s.advance.epoch = (s.epoch + 1) % 65536 := by
  unfold State.epoch State.advance
  rw [State.fld_setFld_other _ _ (by decide) (by decide), State.fld_setFld_same _ _ _ (by decide)]
  exact Nat.mod_mod _ _

theorem State.previous_advance (s : State) : s.advance.fld F.rigEpoch_previous = s.epoch := by
  unfold State.advance
  rw [State.fld_setFld_other _ _ (by decide) (by decide), State.fld_setFld_other _ _ (by decide) (by decide), State.fld_setFld_same _ _ _ (by decide)]
  exact Nat.mod_eq_of_lt (s.fld_lt F.rigEpoch_current)

theorem State.prevLive_advance (s : State) : s.advance.prevLive = true := by
  unfold State.prevLive State.flag State.advance
  rw [State.fld_setFld_same _ _ _ (by decide)]
  rfl

/-! ### The drain (R55) -/

/-- A packet that is dropped leaves what waits before its settle point. -/
theorem State.dropped_units (s : State) (p : Pkt) :
    (s.dropped p).toParse = s.toParse ∧ (s.dropped p).parsed = s.parsed ∧ (s.dropped p).fab = s.fab ∧ (s.dropped p).hal = s.hal := by
  unfold State.dropped State.pushTsq
  dsimp only
  repeat' split
  all_goals simp

theorem State.dropped_foldl_units (l : List Pkt) (s : State) :
    let t := l.foldl (fun (t : State) p => t.dropped p) s
    t.toParse = s.toParse ∧ t.parsed = s.parsed ∧ t.fab = s.fab ∧ t.hal = s.hal := by
  induction l generalizing s with
  | nil => exact ⟨rfl, rfl, rfl, rfl⟩
  | cons p l ih =>
    obtain ⟨h1, h2, h3, h4⟩ := ih (s.dropped p)
    obtain ⟨k1, k2, k3, k4⟩ := s.dropped_units p
    exact ⟨h1.trans k1, h2.trans k2, h3.trans k3, h4.trans k4⟩

/-- What is kept of a table of units holds none that fails the test. -/
theorem keepUnits_any {α : Type} (t : Table (List α)) (p q : α → Bool) (h : ∀ x, p x = true → q x = false) :
    (keepUnits t p).1.any (fun x => x.2.any q) = false := by
  have hkept (l : List α) : (l.filter p).any q = false := by
    rw [List.any_eq_false]
    intro y hy
    simp [h y (List.mem_filter.mp hy).2]
  rw [List.any_eq_false]
  intro x hx
  obtain ⟨y, -, rfl⟩ := List.mem_map.mp (List.mem_of_mem_filter hx)
  simp [hkept]

/-- A packet of another epoch than e. -/
def notOf (e : Nat) (p : Pkt) : Bool := decide (p.epoch ≠ e)

/-- The units of dropUnits: those of other epochs. -/
theorem State.dropUnits_units (s : State) (e : Nat) :
    let t := s.dropUnits e
    t.toParse = (keepUnits s.toParse (notOf e)).1 ∧ t.parsed = (keepUnits s.parsed (notOf e)).1 ∧ t.fab.arrived = (keepUnits s.fab.arrived (notOf e)).1 ∧
    t.fab.voq = (s.fab.voq.map (fun x => (x.1, x.2.without e))).filter (fun x => !x.2.pkts.isEmpty) ∧
    t.hal.frames = s.hal.frames.filter (fun x => decide (x.2.2 ≠ e)) := by
  unfold State.dropUnits
  dsimp only
  simp only [State.countN_toParse, State.countN_parsed, State.countN_fab, State.countN_hal, State.dropped_foldl_units]
  exact ⟨rfl, rfl, rfl, trivial, trivial⟩

/-- Nothing of the epoch is left once its units are dropped. -/
theorem State.oldUnits_dropUnits (s : State) (e : Nat) : (s.dropUnits e).oldUnits e = false := by
  have hnew (p : Pkt) (h : notOf e p = true) : decide (p.epoch = e) = false := by simpa [notOf] using h
  obtain ⟨hparse, hparsed, harrived, hvoq, hframes⟩ := s.dropUnits_units e
  have hv : (s.dropUnits e).fab.voq.any (fun x => x.2.pkts.any (fun v => decide (v.pkt.epoch = e))) = false := by
    rw [hvoq, List.any_eq_false]
    intro x hx
    obtain ⟨y, -, rfl⟩ := List.mem_map.mp (List.mem_of_mem_filter hx)
    simp [Voq.without]
  have hf : (s.dropUnits e).hal.frames.any (fun x => decide (x.2.2 = e)) = false := by
    rw [hframes, List.any_eq_false]
    intro x hx
    simpa using (List.mem_filter.mp hx).2
  simp only [State.oldUnits, hv, hf, hparse, hparsed, harrived, keepUnits_any _ _ _ hnew, Bool.or_self]

theorem exec_drainEnd_drained {s : State} {us : BitVec 20} (hlive : s.prevLive = true) (hu : s.oldUnits (s.fld F.rigEpoch_previous) = false)
    (hf : s.oldFrames (s.fld F.rigEpoch_previous) = false) : exec (.drainEnd us) s = .next (s.drained us.toNat) :=
  if_pos ⟨hlive, hu, hf⟩

theorem exec_drainEnd_waits {s : State} {us : BitVec 20}
    (h : s.oldUnits (s.fld F.rigEpoch_previous) = true ∨ s.oldFrames (s.fld F.rigEpoch_previous) = true) : exec (.drainEnd us) s = .next s :=
  if_neg (by rintro ⟨-, hu, hf⟩; simp [hu, hf] at h)

/-- The end of the drain by its limit drops what is left, posts DRAIN_FORCED and leaves nothing of the previous epoch. -/
theorem exec_drainForced_drops {s : State} (hlive : s.prevLive = true) (hf : s.oldFrames (s.fld F.rigEpoch_previous) = false) :
    ∃ u, exec .drainForced s = .next (u.drained (s.fld F.rigDrainLimit_limit_us)) ∧
      u = (s.dropUnits (s.fld F.rigEpoch_previous)).post 0x0205 [] ∧ u.oldUnits (s.fld F.rigEpoch_previous) = false := by
  refine ⟨_, if_pos ⟨hlive, hf⟩, rfl, ?_⟩
  rw [← s.oldUnits_dropUnits (s.fld F.rigEpoch_previous)]
  simp only [State.oldUnits, State.post_toParse, State.post_parsed, State.post_fab, State.post_hal]

/-! ### The scheduled time (R56, R370) -/

theorem exec_schedTimeReached_early {s : State} (h : s.nowNs < s.rig.schedSec * 1000000000 + s.rig.schedNs) : exec .schedTimeReached s = .next s :=
  if_neg (by omega)

theorem exec_schedTimeReached_applies {s : State} (hst : s.rigState = 5) (hnow : s.rig.schedSec * 1000000000 + s.rig.schedNs ≤ s.nowNs)
    (hreef : s.sup.reefed = false) : exec .schedTimeReached s = .next s.applyInstant :=
  (if_pos ⟨hst, hnow⟩).trans (if_neg (by simp [hreef]))

/-- Under reefed hold the scheduled apply goes back to CHECKED, ABORTED, and is posted as cancelled. -/
theorem exec_schedTimeReached_reefed {s : State} (hst : s.rigState = 5) (hnow : s.rig.schedSec * 1000000000 + s.rig.schedNs ≤ s.nowNs)
    (hreef : s.sup.reefed = true) :
    ∃ t, exec .schedTimeReached s = .next t ∧ t.rigState = 2 ∧ t.fld F.rigSts_completion = 2 ∧
      Posted s t 0x0204 [Config.eventWord 0x0204 1] ∧ FldsBut [F.rigSts_state, F.rigSts_busy, F.rigSts_completion] s t ∧
      FrameBut [.regs, .rig, .evq, .cnt, .mem] s t := by
  have hmove : FldsBut [F.rigSts_state, F.rigSts_busy, F.rigSts_completion] s (s.moveRig 2) := (s.moveRig_flds 2).mono (by simp)
  have hdone : FldsBut [F.rigSts_state, F.rigSts_busy, F.rigSts_completion] s ((s.moveRig 2).complete cAborted) := hmove.setFld _ (by simp) (by decide)
  refine ⟨_, (if_pos ⟨hst, hnow⟩).trans (if_pos hreef), ?_, ?_, ?_, hdone.post_ _ _, ?_⟩
  · rw [State.rigState, State.post_fld_at, State.complete, State.fld_setFld_other _ _ (by decide) (by decide)]
    exact s.rigState_moveRig (by decide)
  · rw [State.post_fld_at, State.complete, State.fld_setFld_same _ _ _ (by decide)]
    rfl
  · exact Posted.of_same ((s.moveRig_postSame 2).setFld F.rigSts_completion _ (by decide) (by decide) (by decide) (by decide)) rfl rfl rfl
  · exact (((s.moveRig_frame 2).setFld _ _ (by simp)).mono (by simp)).post _ _ (by simp)

/-! ### Re-rigging (R50, R58) -/

/-- A re-rig is refused where the machine is busy, a set is staged, an apply is pending or the block is not in service. -/
def State.rerigRefused (s : State) : Prop :=
  s.rigState ≠ 0 ∨ s.stagedEmpty = false ∨ s.sup.reefed = true ∨ s.rig.devApplies ≠ [] ∨ s.fld F.glbStart_phase ≠ 6

/-- The machine in REGION with the region and the slot it re-rigs. -/
def State.inRegion (s : State) (r k : Nat) : State := ({ s with rig := { s.rig with region := r, regionSlot := k } }).moveRig 6

theorem exec_rerig_refused {m : Master} {r : BitVec 16} {k : Bool} {s : State} (hmay : s.rigMay m = true) (h : s.rerigRefused) :
    exec (.rerig m r k) s = .next (s.complete 5) := (if_pos hmay).trans (if_pos h)

theorem exec_rerig_sigFailed {m : Master} {r : BitVec 16} {k : Bool} {s : State} (hmay : s.rigMay m = true) (h : ¬ s.rerigRefused)
    (hsig : (s.slotOf k.toNat).st = 0 ∨ s.meets (s.slotOf k.toNat).img = false) : exec (.rerig m r k) s = .next (s.complete 7) :=
  (if_pos hmay).trans ((if_neg h).trans (if_pos hsig))

/-- Violations of the slot's image complete CHECK_FAILED and are recorded, at most 256. -/
theorem exec_rerig_checkFailed {m : Master} {r : BitVec 16} {k : Bool} {s : State} (hmay : s.rigMay m = true) (h : ¬ s.rerigRefused)
    (hsig : ¬ ((s.slotOf k.toNat).st = 0 ∨ s.meets (s.slotOf k.toNat).img = false)) (hv : s.rerigViolations (s.slotOf k.toNat).img r.toNat ≠ []) :
    ∃ t, exec (.rerig m r k) s = .next t ∧ t.fld F.rigSts_completion = 4 ∧
      t.rig.viols = (s.rerigViolations (s.slotOf k.toNat).img r.toNat).take 256 ∧ FldsBut [F.rigSts_viol_count, F.rigSts_completion] s t ∧
      FrameBut [.regs, .rig] s t := by
  refine ⟨_, (if_pos hmay).trans ((if_neg h).trans ((if_neg hsig).trans (if_pos hv))), ?_, rfl, ?_, ?_⟩
  · rw [State.complete, State.fld_setFld_same _ _ _ (by decide)]
    rfl
  · exact (((FldsBut.refl _ s).rig _).setFld _ (by simp) (by decide)).setFld _ (by simp) (by decide)
  · exact (((FrameBut.refl _ s).rig _ (by simp)).setFld _ _ (by simp)).setFld _ _ (by simp)

theorem exec_rerig_stops {m : Master} {r : BitVec 16} {k : Bool} {s : State} (hmay : s.rigMay m = true) (h : ¬ s.rerigRefused)
    (hsig : ¬ ((s.slotOf k.toNat).st = 0 ∨ s.meets (s.slotOf k.toNat).img = false)) (hv : s.rerigViolations (s.slotOf k.toNat).img r.toNat = []) :
    exec (.rerig m r k) s = .next (if r.toNat = 0 then (s.inRegion r.toNat k.toNat).lasersOff.resetDomains [7, 6]
      else if r.toNat < 0x200 then (s.inRegion r.toNat k.toNat).forAll 8 (fun (t : State) n => t.stopCh (8 * (r.toNat - 0x100) + n))
      else (s.inRegion r.toNat k.toNat).stopUplink (r.toNat - 0x200)) :=
  (if_pos hmay).trans ((if_neg h).trans ((if_neg hsig).trans (if_neg (not_not.mpr hv))))

theorem exec_rerigDone_waits {s : State} (h : s.prevLive = true) : exec .rerigDone s = .next s := if_neg (by simp [h])

/-- The machine in OPEN under the new epoch, its re-rig completed. -/
def State.rerigged (s : State) : State := (({ s.advance with rig := { s.advance.rig with fresh := true } }).setFld F.rigSts_state 0).complete cCompleted

theorem State.rerigged_frame (s : State) : FrameBut [.regs, .prevRegs, .prevRecs, .rig] s s.rerigged :=
  (((s.advance_frame.mono (by simp)).rig _ (by simp)).setFld _ _ (by simp)).setFld _ _ (by simp)

/-- Of the fields, completing a re-rig writes the machine's state and its completion only. -/
theorem State.rerigged_flds (s : State) : FldsBut [F.rigSts_state, F.rigSts_completion] s.advance s.rerigged :=
  (((FldsBut.refl _ s.advance).rig _).setFld _ (by simp) (by decide)).setFld _ (by simp) (by decide)

theorem State.rerigged_state (s : State) : s.rerigged.rigState = 0 ∧ s.rerigged.fld F.rigSts_completion = 1 := by
  constructor
  · rw [State.rigState, State.rerigged, State.complete, State.fld_setFld_other _ _ (by decide) (by decide), State.fld_setFld_same _ _ _ (by decide)]
    rfl
  · rw [State.rerigged, State.complete, State.fld_setFld_same _ _ _ (by decide)]
    rfl

/-- A region that is clear stays so while busy is shown and an event posted. -/
theorem State.not_suspect_clearSuspect (s : State) (r c : Nat) (d : List Nat) : r ∉ (((s.clearSuspect r).showBusy).post c d).rig.suspect := by
  rw [State.post_rig]
  show r ∉ s.rig.suspect.filter (· ≠ r)
  simp

end Sys2Proof.Machine

namespace Sys2Proof.Proofs

open Sys2Proof.Machine Sys2Proof.Safety

/-- Settles O20, by the commands of the drain, of the scheduled apply and of re-rigging. -/
theorem epochsAndDrain : Obligations.epochsAndDrain := by
  refine ⟨fun s => ?_, fun us s hlive => ?_, fun s hst hnow => ?_, fun s => exec_schedTimeReached_early, fun m r k s hm hd => ?_, fun s _ => exec_rerigDone_waits,
    fun s hst hlive => ?_⟩
  · exact ⟨s.epoch_advance, s.previous_advance, s.prevLive_advance, rfl, rfl, s.advance_flds, s.advance_frame⟩
  · exact ⟨exec_drainEnd_drained hlive, exec_drainEnd_waits, exec_drainForced_drops hlive⟩
  · exact ⟨exec_schedTimeReached_applies hst hnow, exec_schedTimeReached_reefed hst hnow⟩
  · have hmay : s.rigMay m = true := by simp [State.rigMay, hm, hd]
    refine ⟨exec_rerig_refused hmay, fun hst hempty hreef hdev hphase => ?_⟩
    have hgo : ¬ s.rerigRefused := by simp [State.rerigRefused, hst, hempty, hreef, hdev, hphase]
    refine ⟨exec_rerig_sigFailed hmay hgo, fun hslot hmeets => ?_⟩
    have hsig : ¬ ((s.slotOf k.toNat).st = 0 ∨ s.meets (s.slotOf k.toNat).img = false) := by simp [hslot, hmeets]
    refine ⟨exec_rerig_checkFailed hmay hgo hsig, fun hv => ⟨s.inRegion r.toNat k.toNat, ?_, rfl, rfl, ?_, ?_, exec_rerig_stops hmay hgo hsig hv⟩⟩
    · exact State.rigState_moveRig _ (by decide)
    · exact (((FldsBut.refl _ s).rig _).setFld 6 (by simp) (by decide) |>.rig _).setFld _ (by simp) (by decide)
    · exact ((FrameBut.refl _ s).rig _ (by simp)).trans (State.moveRig_frame _ 6)
  · have hflds := s.rerigged_flds
    refine ⟨s.rerigged, _, if_pos ⟨hst, hlive⟩, ?_, ?_, ?_, s.rerigged_state.1, s.rerigged_state.2, rfl, s.rerigged_frame, State.not_suspect_clearSuspect _ _ _ _, rfl⟩
    · exact (hflds F.rigEpoch_current (by simp [Apart, F.rigEpoch_current, F.rigSts_state, F.rigSts_completion])).trans s.epoch_advance
    · exact (hflds F.rigEpoch_previous (by simp [Apart, F.rigEpoch_previous, F.rigSts_state, F.rigSts_completion])).trans s.previous_advance
    · have hprev := hflds F.rigSts_prev_live (by simp [Apart, F.rigSts_prev_live, F.rigSts_state, F.rigSts_completion])
      rw [State.prevLive, State.flag, hprev]
      exact s.prevLive_advance

end Sys2Proof.Proofs
end

section
/-! What no command changes: the queue, the grade and the fused owner hash. One lemma for each operation of the state. -/

namespace Sys2Proof.Machine

/-- The queue, the grade and the fused owner hash are the same in two states. -/
def Kept (s t : State) : Prop := t.pending = s.pending ∧ t.sup.gradeH = s.sup.gradeH ∧ t.rig.ownerHash = s.rig.ownerHash

theorem Kept.refl (s : State) : Kept s s := ⟨rfl, rfl, rfl⟩

theorem Kept.symm {s t : State} (h : Kept s t) : Kept t s := ⟨h.1.symm, h.2.1.symm, h.2.2.symm⟩

theorem Kept.trans {s t u : State} (h : Kept s t) (k : Kept t u) : Kept s u := ⟨k.1.trans h.1, k.2.1.trans h.2.1, k.2.2.trans h.2.2⟩

/-- An operation that keeps them can be left out of a chain of operations. -/
theorem Kept.iff {t u : State} (h : Kept t u) (s : State) : Kept s u ↔ Kept s t := ⟨fun k => k.trans h.symm, fun k => k.trans h⟩

theorem kept_self (s : State) : Kept s s ↔ True := iff_true_intro (.refl s)

theorem kept_ite (s : State) (c : Prop) [Decidable c] (t u : State) : Kept s (if c then t else u) ↔ if c then Kept s t else Kept s u := by
  split <;> rfl

/-- A record update of a state, as the update's own terms say it. -/
theorem kept_mk (s : State) (a0 a1 a2 a3 a4 a5 a6 a7 a8 a9 a10 a11 a12 a13 a14 a15 rig sup a18 a19 a20 a21 a22 a23 a24 a25 a26 a27 a28 a29 a30 a31 a32 a33 a34
    a35 a36 a37 a38 a39) :
    Kept s ⟨a0, a1, a2, a3, a4, a5, a6, a7, a8, a9, a10, a11, a12, a13, a14, a15, rig, sup, a18, a19, a20, a21, a22, a23, a24, a25, a26, a27, a28, a29, a30,
      a31,
        a32, a33, a34, a35, a36, a37, a38, a39⟩ ↔
      a0 = s.pending ∧ sup.gradeH = s.sup.gradeH ∧ rig.ownerHash = s.rig.ownerHash := Iff.rfl

/-- The terms of an update that leaves them, folded again. -/
theorem kept_fold (s t : State) : (t.pending = s.pending ∧ t.sup.gradeH = s.sup.gradeH ∧ t.rig.ownerHash = s.rig.ownerHash) ↔ Kept s t := Iff.rfl

theorem Kept.foldl {α : Type} {f : State → α → State} (h : ∀ t x, Kept t (f t x)) (l : List α) (t : State) : Kept t (l.foldl f t) := by
  induction l generalizing t with
  | nil => exact .refl t
  | cons x l ih => exact (h t x).trans (ih _)

theorem kept_foldl {α : Type} {f : State → α → State} (h : ∀ t x, Kept t (f t x)) (l : List α) (s t : State) : Kept s (l.foldl f t) ↔ Kept s t :=
  (Kept.foldl h l t).iff s

theorem Kept.of_eq_pair {α : Type} {s u : State} {p : State × α} {x : α} (h : Kept s p.1) (e : p = (u, x)) : Kept s u := by
  subst e
  exact h

/-- A fold over a state and a value beside it keeps them when each step does. -/
theorem Kept.foldl_fst {α β : Type} {f : State × β → α → State × β} (h : ∀ a x, Kept a.1 (f a x).1) (l : List α) (a : State × β) :
    Kept a.1 (l.foldl f a).1 := by
  induction l generalizing a with
  | nil => exact .refl a.1
  | cons x l ih => exact (h a x).trans (ih _)

theorem kept_foldl_fst {α β : Type} {f : State × β → α → State × β} (h : ∀ a x, Kept a.1 (f a x).1) (l : List α) (a : State × β) (s : State) :
    Kept s (l.foldl f a).1 ↔ Kept s a.1 :=
  (Kept.foldl_fst h l a).iff s

variable (s t : State)

theorem kept_hostWrite (a : Nat) (l : List Nat) : Kept s (t.hostWrite a l) ↔ Kept s t := by
  induction l generalizing t a with
  | nil => rfl
  | cons b l ih => exact ih _ _

/-! Operations of Machine/Ops.lean. -/

theorem kept_setReg (a : Nat) (w : Word) : Kept s (t.setReg a w) ↔ Kept s t := by simp [Kept]

theorem kept_setFld (f : Fld) (v : Nat) : Kept s (t.setFld f v) ↔ Kept s t := by simp [Kept]

theorem kept_tickFree : Kept s t.tickFree ↔ Kept s t := by simp [Kept]

theorem kept_countN (c : Ctr) (inst sub n : Nat) : Kept s (t.countN c inst sub n) ↔ Kept s t := by simp [Kept]

theorem kept_count (c : Ctr) (inst : Nat) : Kept s (t.count c inst) ↔ Kept s t := by simp [Kept]

theorem kept_enqueueEvent (e : EventRec) : Kept s (t.enqueueEvent e) ↔ Kept s t := by simp [Kept]

theorem kept_postRaw (code : Nat) (data : List Nat) : Kept s (t.postRaw code data) ↔ Kept s t := by simp [Kept]

theorem kept_jnlEvent (code : Nat) (data : List Nat) : Kept s (t.jnlEvent code data) ↔ Kept s t := by simp [Kept]

theorem kept_post (code : Nat) (data : List Nat) : Kept s (t.post code data) ↔ Kept s t := by simp [Kept]

theorem kept_jnlPersist (typ code cls obj : Nat) (detail : List Nat) (act : JnlAct) : Kept s (t.jnlPersist typ code cls obj detail act) ↔ Kept s t := by
  simp [Kept]

theorem kept_emit (o : Output) : Kept s (t.emit o) ↔ Kept s t := by simp [Kept]

theorem kept_tell (kind chan : Nat) (words : List Nat) : Kept s (t.tell kind chan words) ↔ Kept s t := by simp [Kept]

theorem kept_setRecord (kind ix : Nat) (ws : List Nat) : Kept s (t.setRecord kind ix ws) ↔ Kept s t := by simp [Kept]

theorem kept_reply (data : List Nat) : Kept s (t.reply data) ↔ Kept s t := by simp [Kept]

theorem kept_latch (m : Master) (a v : Nat) : Kept s (t.latch m a v) ↔ Kept s t := by simp [Kept]

theorem kept_setPoison (mem ix : Nat) (b : Bool) : Kept s (t.setPoison mem ix b) ↔ Kept s t := by simp [Kept]

/-! Operations of Machine/Ecc.lean. -/

theorem kept_logUe (mem ix foundBy : Nat) : Kept s (t.logUe mem ix foundBy) ↔ Kept s t := by
  simp only [State.logUe, kept_mk, kept_fold]

theorem kept_useSpare (mem bank : Nat) : Kept s (t.useSpare mem bank) ↔ Kept s t := by
  simp only [State.useSpare, kept_mk, kept_fold]

theorem kept_recordRetire (cls obj : Nat) : Kept s (t.recordRetire cls obj) ↔ Kept s t := by
  simp only [State.recordRetire, kept_ite, ite_self, kept_mk, kept_fold, kept_jnlPersist, kept_countN]

theorem kept_startSpare (mem ix : Nat) : Kept s (t.startSpare mem ix) ↔ Kept s t := by
  simp only [State.startSpare, kept_ite, ite_self, kept_mk, kept_fold, kept_post, kept_useSpare, kept_recordRetire]

theorem kept_freeWeak (mem ix : Nat) : Kept s (t.freeWeak mem ix) ↔ Kept s t := by
  simp only [State.freeWeak, kept_mk, kept_fold]

theorem kept_addWeak (mem ix : Nat) (ue : Bool) : Kept s (t.addWeak mem ix ue) ↔ Kept s t := by
  simp only [State.addWeak, kept_mk, kept_fold]

theorem kept_offerWeak (mem ix : Nat) : Kept s (t.offerWeak mem ix) ↔ Kept s t := by
  simp only [State.offerWeak, kept_ite, kept_countN]
  repeat' split
  all_goals simp only [kept_mk, kept_fold, kept_countN, kept_addWeak, kept_startSpare, kept_freeWeak]

theorem kept_offerUe (mem ix : Nat) : Kept s (t.offerUe mem ix) ↔ Kept s t := by
  simp only [State.offerUe, kept_ite, kept_countN]
  repeat' split
  all_goals simp only [kept_mk, kept_fold, kept_countN, kept_addWeak, kept_startSpare, kept_freeWeak]

theorem kept_setFlip (mem ix f : Nat) : Kept s (t.setFlip mem ix f) ↔ Kept s t := by
  simp only [State.setFlip, kept_mk, kept_fold]

theorem kept_noteWrite (mem ix : Nat) : Kept s (t.noteWrite mem ix) ↔ Kept s t := by
  simp only [State.noteWrite, kept_ite, ite_self, kept_setFlip, kept_setPoison, kept_setFld]

theorem kept_poisonWord (mem ix foundBy : Nat) : Kept s (t.poisonWord mem ix foundBy) ↔ Kept s t := by
  simp only [State.poisonWord, kept_offerUe, kept_logUe, kept_count, kept_setFlip, kept_setPoison]

theorem kept_readWord (mem ix : Nat) (e : Ecc) : Kept s (t.readWord mem ix e).1 ↔ Kept s t := by
  simp only [State.readWord, kept_ite, apply_ite Prod.fst]
  repeat' split
  all_goals simp only [kept_offerWeak, kept_count, kept_setFlip, kept_poisonWord]

theorem kept_readRec (mem kind ix : Nat) (e : Ecc) : Kept s (t.readRec mem kind ix e).1 ↔ Kept s t := by
  simp only [State.readRec, kept_readWord]

theorem kept_cleanRec (mem kind ix : Nat) : Kept s (t.cleanRec mem kind ix) ↔ Kept s t := by
  simp only [State.cleanRec, kept_noteWrite]

/-! Operations of Machine/Chan.lean. -/

theorem kept_setDs (c : Nat) (d : DsSt) : Kept s (t.setDs c d) ↔ Kept s t := by
  simp only [State.setDs, kept_mk, kept_fold]

theorem kept_setUs (c : Nat) (u : UsSt) : Kept s (t.setUs c u) ↔ Kept s t := by
  simp only [State.setUs, kept_mk, kept_fold]

theorem kept_setDisc (c : Nat) (d : DiscSt) : Kept s (t.setDisc c d) ↔ Kept s t := by
  simp only [State.setDisc, kept_mk, kept_fold]

theorem kept_setOnu (n : Nat) (o : OnuCtx) : Kept s (t.setOnu n o) ↔ Kept s t := by
  simp only [State.setOnu, kept_mk, kept_fold]

theorem kept_setHal (c : Nat) (h : HalCh) : Kept s (t.setHal c h) ↔ Kept s t := by
  simp only [State.setHal, kept_mk, kept_fold]

theorem kept_onuMap (p : OnuCtx → Bool) (f : OnuCtx → OnuCtx) : Kept s (t.onuMap p f) ↔ Kept s t := by
  simp only [State.onuMap, kept_mk, kept_fold]

theorem kept_putCh (c st : Nat) : Kept s (t.putCh c st) ↔ Kept s t := by
  simp only [State.putCh, kept_setFld]

theorem kept_moveCh (c st : Nat) : Kept s (t.moveCh c st) ↔ Kept s t := by
  simp only [State.moveCh, kept_post, kept_putCh]

theorem kept_noteFault (region cls obj : Nat) : Kept s (t.noteFault region cls obj) ↔ Kept s t := by
  simp only [State.noteFault, kept_ite, ite_self, kept_mk, kept_fold, kept_post]

theorem kept_recovered (region cls obj : Nat) : Kept s (t.recovered region cls obj) ↔ Kept s t := by
  simp only [State.recovered, kept_mk, kept_fold]

theorem kept_momentFault (region : Nat) : Kept s (t.momentFault region) ↔ Kept s t := by
  simp only [State.momentFault, kept_recovered, kept_noteFault]

theorem kept_setFaultList (cls obj : Nat) (l : List Nat) : Kept s (t.setFaultList cls obj l) ↔ Kept s t := by
  simp only [State.setFaultList, kept_mk, kept_fold]

theorem kept_ladder (cls obj : Nat) : Kept s (t.ladder cls obj).1 ↔ Kept s t := by
  simp only [State.ladder, kept_ite, ite_self, kept_countN, kept_setFaultList, apply_ite Prod.fst]

theorem kept_showPloam (c : Nat) : Kept s (t.showPloam c) ↔ Kept s t := by
  simp only [State.showPloam, kept_setFld]

theorem kept_returnPloam (kind c : Nat) (m : Ploam) : Kept s (t.returnPloam kind c m) ↔ Kept s t := by
  simp only [State.returnPloam, kept_tell]

theorem kept_flushPloam (c : Nat) : Kept s (t.flushPloam c) ↔ Kept s t := by
  simp only [State.flushPloam, kept_foldl, kept_self, implies_true, kept_returnPloam, kept_showPloam, kept_setDs]

theorem kept_showTells : Kept s t.showTells ↔ Kept s t := by
  simp only [State.showTells, kept_ite, ite_self, kept_mk, kept_fold, kept_setFld]

theorem kept_dropTells (c : Nat) : Kept s (t.dropTells c) ↔ Kept s t := by
  simp only [State.dropTells, kept_mk, kept_fold, kept_showTells, kept_countN]

theorem kept_stopFraming (c : Nat) : Kept s (t.stopFraming c) ↔ Kept s t := by
  simp only [State.stopFraming, kept_ite, ite_self, kept_mk, kept_fold, kept_setFld, kept_count, kept_setDs, kept_dropTells, kept_setHal, kept_setUs,
    kept_countN, kept_flushPloam]

theorem kept_showRetries (c : Nat) : Kept s (t.showRetries c) ↔ Kept s t := by
  simp only [State.showRetries, kept_setFld]

theorem kept_retireCh (c : Nat) : Kept s (t.retireCh c) ↔ Kept s t := by
  simp only [State.retireCh, kept_recordRetire, kept_setFld, kept_moveCh]

/-! An operation that takes apart what another one answers: the kernel would evaluate that other operation on the whole state to compare two forms of the body.
It stands as a variable in the body, with its lemma as the hypothesis about it. -/

theorem kept_faultCh (c : Nat) : Kept s (t.faultCh c) ↔ Kept s t := by
  have hladder := kept_ladder
  obtain ⟨ladder, hl⟩ : ∃ f, f = State.ladder := exists_eq
  obtain ⟨f, hf⟩ : ∃ f, f = State.faultCh := exists_eq
  rw [← hf]
  delta State.faultCh at hf
  rw [← hl] at hf hladder
  simp only [hf, kept_ite, kept_retireCh, kept_setDs, kept_showRetries, ite_self, hladder, kept_onuMap, kept_moveCh, kept_stopFraming, kept_noteFault]

theorem kept_offCh (c : Nat) : Kept s (t.offCh c) ↔ Kept s t := by
  simp only [State.offCh, kept_stopFraming, kept_recovered, kept_moveCh, kept_setDs]

theorem kept_commitCtx (c : Nat) : Kept s (t.commitCtx c) ↔ Kept s t := by
  simp only [State.commitCtx, kept_onuMap]

theorem kept_usFrameEnd (c : Nat) : Kept s (t.usFrameEnd c) ↔ Kept s t := by
  simp only [State.usFrameEnd, kept_onuMap, kept_setUs]

/-! Operations of Machine/Stage.lean. -/

theorem kept_showBusy : Kept s t.showBusy ↔ Kept s t := by
  simp only [State.showBusy, kept_setFld]

theorem kept_moveRig (st : Nat) : Kept s (t.moveRig st) ↔ Kept s t := by
  simp only [State.moveRig, kept_mk, kept_fold, kept_setFld, kept_showBusy]

theorem kept_complete (c : Nat) : Kept s (t.complete c) ↔ Kept s t := by
  simp only [State.complete, kept_setFld]

theorem kept_dueApply (cls obj : Nat) : Kept s (t.dueApply cls obj) ↔ Kept s t := by
  simp only [State.dueApply, kept_ite, ite_self, kept_mk, kept_fold, kept_post, kept_complete, kept_setFld, kept_moveRig, kept_showBusy]

theorem kept_stagingWrite {f : State → State} (hf : ∀ u, Kept u (f u)) : Kept s (t.stagingWrite f) ↔ Kept s t := by
  have hiff (u : State) : Kept s (f u) ↔ Kept s u := (hf u).iff s
  simp only [State.stagingWrite, kept_ite, hiff, kept_post, kept_setFld, kept_complete, kept_moveRig, ite_self]

theorem kept_logStaged (e : StagedEnt) : Kept s (t.logStaged e) ↔ Kept s t := by
  simp only [State.logStaged, kept_mk, kept_fold]

theorem kept_enterReg (a : Nat) (w : Word) (viaReg : Bool) (sect : Nat) : Kept s (t.enterReg a w viaReg sect) ↔ Kept s t := by
  simp only [State.enterReg, kept_mk, kept_fold, kept_logStaged]

theorem kept_enterRec (key : Nat) (ws : List Nat) (viaReg : Bool) (sect : Nat) : Kept s (t.enterRec key ws viaReg sect) ↔ Kept s t := by
  simp only [State.enterRec, kept_mk, kept_fold, kept_logStaged]

theorem kept_stageRec (kind ix : Nat) (ws : List Nat) : Kept s (t.stageRec kind ix ws) ↔ Kept s t := by
  simp only [State.stageRec, kept_self, implies_true, kept_stagingWrite, kept_enterRec]

theorem kept_emptyStaged : Kept s t.emptyStaged ↔ Kept s t := by
  simp only [State.emptyStaged, kept_mk, kept_fold]

/-! Operations of Machine/Fwd.lean. -/

theorem kept_showFwd : Kept s t.showFwd ↔ Kept s t := by
  simp only [State.showFwd, kept_setFld]

theorem kept_noteOvf (p : Nat) : Kept s (t.noteOvf p) ↔ Kept s t := by
  simp only [State.noteOvf, kept_ite, ite_self, kept_mk, kept_fold, kept_post]

theorem kept_setSlot (loc : Nat) (e : Option FwdEnt) : Kept s (t.setSlot loc e) ↔ Kept s t := by
  simp only [State.setSlot, kept_mk, kept_fold, kept_showFwd, kept_noteWrite]

theorem kept_clearSlot (loc : Nat) : Kept s (t.clearSlot loc) ↔ Kept s t := by
  simp only [State.clearSlot]
  repeat' (split <;> simp only [kept_ite, ite_self, kept_mk, kept_fold, kept_setSlot, kept_noteOvf])

theorem kept_readSlot (loc : Nat) (ecc : Ecc) (shadowOk : Bool) : Kept s (t.readSlot loc ecc shadowOk).1 ↔ Kept s t := by
  simp only [State.readSlot, kept_ite, kept_readWord, apply_ite Prod.fst]
  repeat' split
  all_goals simp only [kept_readWord, kept_setPoison, kept_post, kept_clearSlot]

theorem kept_readSlots (reads : List SlotRead) (l : List Nat) : Kept s (t.readSlots reads l).1 ↔ Kept s t := by
  induction l generalizing t with
  | nil => rfl
  | cons loc l ih => simp only [State.readSlots, ih, kept_readSlot]

theorem kept_lookup (p k e : Nat) (reads : List SlotRead) : Kept s (t.lookup p k e reads).1 ↔ Kept s t := by
  simp only [State.lookup, kept_readSlots]

theorem kept_moveEnt (loc a : Nat) : Kept s (t.moveEnt loc a) ↔ Kept s t := by
  simp only [State.moveEnt]
  repeat' (split <;> simp only [kept_count, kept_setSlot])

theorem kept_findChain (b : Nat) (seen : List Nat) (ch : List (Nat × Nat)) (n : Nat) : Kept s (t.findChain b seen ch n).1 ↔ Kept s t := by
  induction n generalizing t b seen ch with
  | zero => rfl
  | succ n ih =>
    simp only [State.findChain]
    split
    · exact kept_readSlots s t _ _
    · split
      · exact kept_readSlots s t _ _
      · simp only [ih, kept_mk, kept_fold, kept_readSlots]

theorem kept_runChain (e : FwdEnt) (ch : List (Nat × Nat)) : Kept s (t.runChain e ch) ↔ Kept s t := by
  simp only [State.runChain]
  repeat' (split <;> simp only [kept_foldl, kept_self, implies_true, kept_moveEnt, kept_setSlot])

theorem kept_insertEnt (e : FwdEnt) : Kept s (t.insertEnt e).1 ↔ Kept s t := by
  refine Kept.iff ?_ s
  unfold State.insertEnt
  extract_lets q b u
  have hu : Kept t u := (kept_readSlots t t _ _).mpr (.refl t)
  split
  · exact (kept_setSlot t u _ _).mpr hu
  · exact (kept_setSlot t u _ _).mpr hu
  · split
    next v ch hv =>
      have hv : Kept t v := ((kept_findChain t u _ _ _ _).mpr hu).of_eq_pair hv
      exact (kept_runChain t v _ _).mpr hv
    next v hv =>
      have hv : Kept t v := ((kept_findChain t u _ _ _ _).mpr hu).of_eq_pair hv
      split
      next w ch hw =>
        have hw : Kept t w := ((kept_findChain t v _ _ _ _).mpr hv).of_eq_pair hw
        exact (kept_runChain t w _ _).mpr hw
      next w hw =>
        have hw : Kept t w := ((kept_findChain t v _ _ _ _).mpr hv).of_eq_pair hw
        split
        · split
          · simpa only [kept_noteOvf, kept_setSlot] using hw
          · exact hw
        · exact hw

theorem kept_noteLearn (op : Nat) (e : FwdEnt) : Kept s (t.noteLearn op e) ↔ Kept s t := by
  simp only [State.noteLearn, kept_ite, ite_self, kept_mk, kept_fold]

theorem kept_dropDyn (loc op : Nat) : Kept s (t.dropDyn loc op) ↔ Kept s t := by
  simp only [State.dropDyn]
  repeat' (split <;> simp only [kept_noteLearn, kept_clearSlot])

theorem kept_learn (r : LearnReq) (reads : List SlotRead) : Kept s (t.learn r reads) ↔ Kept s t := by
  refine Kept.iff ?_ s
  unfold State.learn
  split
  next u d f hl =>
  have hu : Kept t u := ((kept_lookup t t _ _ _ _).mpr (.refl t)).of_eq_pair hl
  clear hl
  split
  · extract_lets ml v w e
    clear_value e
    split
    · simpa only [v, kept_ite, kept_post, kept_count, kept_mk, kept_fold, ite_self] using hu
    · split
      next x hx => simpa only [kept_noteLearn, kept_count] using ((kept_insertEnt t u e).mpr hu).of_eq_pair hx
      next x hx => simpa only [kept_count] using ((kept_insertEnt t u e).mpr hu).of_eq_pair hx
  · simpa only [kept_ite, kept_post, kept_count, kept_noteLearn, kept_setSlot, ite_self] using hu

theorem kept_raiseLearn (r : LearnReq) : Kept s (t.raiseLearn r) ↔ Kept s t := by
  simp only [State.raiseLearn, kept_ite, ite_self, kept_mk, kept_fold, kept_showFwd, kept_count]

theorem kept_flushDyn (f : FwdEnt → Bool) : Kept s (t.flushDyn f) ↔ Kept s t := by
  refine kept_foldl (fun u l => ?_) _ s t
  split
  · simp only [kept_ite, kept_count, kept_dropDyn, kept_self, ite_self]
  · exact .refl u

theorem kept_fwdPortDown (d : Nat) : Kept s (t.fwdPortDown d) ↔ Kept s t := by
  simp only [State.fwdPortDown, kept_flushDyn]

theorem kept_fwdPortRetired (d : Nat) : Kept s (t.fwdPortRetired d) ↔ Kept s t := by
  simp only [State.fwdPortRetired, kept_flushDyn]

theorem kept_fwdApply : Kept s t.fwdApply ↔ Kept s t := by
  refine kept_foldl (fun u l => ?_) _ s t
  split
  · simp only [kept_ite, kept_clearSlot, kept_setSlot, kept_self, ite_self]
  · exact .refl u

theorem kept_fwdDrained : Kept s t.fwdDrained ↔ Kept s t := by
  refine kept_foldl (fun u l => ?_) _ s t
  split
  · simp only [kept_ite, kept_clearSlot, kept_setSlot, kept_self, ite_self]
  · exact .refl u

theorem kept_fwdDiscard : Kept s t.fwdDiscard ↔ Kept s t := by
  refine kept_foldl (fun u l => ?_) _ s t
  split
  · simp only [kept_ite, kept_clearSlot, kept_setSlot, kept_self, ite_self]
  · exact .refl u

theorem kept_fwdResult (r : Nat) : Kept s (t.fwdResult r) ↔ Kept s t := by
  simp only [State.fwdResult, kept_setFld]

theorem kept_fwdData (lo hi res st : Nat) : Kept s (t.fwdData lo hi res st) ↔ Kept s t := by
  simp only [State.fwdData, kept_setFld]

theorem kept_showLoc (l : Nat) : Kept s (t.showLoc l) ↔ Kept s t := by
  simp only [State.showLoc, kept_ite, ite_self, kept_setFld]

theorem kept_lookupAnswer (f : Option (Nat × FwdEnt)) : Kept s (t.lookupAnswer f) ↔ Kept s t := by
  simp only [State.lookupAnswer]
  repeat' (split <;> simp only [kept_fwdResult, kept_setFld, kept_showLoc])

theorem kept_stageStatic (p k w2 : Nat) (viaReg : Bool) (sect : Nat) : Kept s (t.stageStatic p k w2 viaReg sect).1 ↔ Kept s t := by
  refine Kept.iff ?_ s
  unfold State.stageStatic
  extract_lets locs e ent
  clear_value e
  split
  · simp only [kept_logStaged, kept_setSlot, kept_self]
  · have hi {u : State} {b : Bool} (h : t.insertEnt e = (u, b)) : Kept t u := ((kept_insertEnt t t e).mpr (.refl t)).of_eq_pair h
    split
    next u hu =>
      split
      · simpa only [kept_logStaged, kept_setSlot] using hi hu
      · simpa only [kept_logStaged] using hi hu
    next u hu => exact hi hu

theorem kept_stageDelete (p k : Nat) (viaReg : Bool) (sect : Nat) : Kept s (t.stageDelete p k viaReg sect).1 ↔ Kept s t := by
  simp only [State.stageDelete]
  repeat' (split <;> simp only [kept_clearSlot, kept_logStaged, kept_setSlot])

/-! Operations of Machine/MateOps.lean. -/

theorem kept_sendStay (typ : Nat) (blocks : List Nat) : Kept s (t.sendStay typ blocks) ↔ Kept s t := by
  simp only [State.sendStay, kept_ite, ite_self, kept_mk, kept_fold, kept_count, kept_emit]

theorem kept_mirror (typ : Nat) (blocks : List Nat) : Kept s (t.mirror typ blocks) ↔ Kept s t := by
  simp only [State.mirror, kept_ite, ite_self, kept_count, kept_sendStay]

theorem kept_mirrorOnu (n : Nat) : Kept s (t.mirrorOnu n) ↔ Kept s t := by
  simp only [State.mirrorOnu, kept_mirror]

theorem kept_boundary (c : Nat) : Kept s (t.boundary c) ↔ Kept s t := by
  simp only [State.boundary, kept_foldl, kept_self, implies_true, kept_mirrorOnu, kept_commitCtx]

/-! Operations of Machine/Onu.lean. -/

theorem kept_countOutcome (c outcome : Nat) : Kept s (t.countOutcome c outcome) ↔ Kept s t := by
  simp only [State.countOutcome, kept_ite, ite_self, kept_count]

theorem kept_endMeas (n outcome : Nat) (back : Bool) : Kept s (t.endMeas n outcome back) ↔ Kept s t := by
  simp only [State.endMeas]
  repeat' (split <;> simp only [kept_post, kept_countOutcome, kept_setOnu])

theorem kept_toIdle (n : Nat) : Kept s (t.toIdle n) ↔ Kept s t := by
  simp only [State.toIdle, kept_endMeas, kept_setOnu]

theorem kept_ctxPoison (n : Nat) : Kept s (t.ctxPoison n) ↔ Kept s t := by
  simp only [State.ctxPoison, kept_momentFault, kept_endMeas, kept_setOnu, kept_post, kept_cleanRec]

theorem kept_readCtx (n : Nat) (e : Ecc) : Kept s (t.readCtx n e).1 ↔ Kept s t := by
  simp only [State.readCtx, kept_ite, ite_self, kept_readRec, kept_ctxPoison, apply_ite Prod.fst]

theorem kept_propose (c n : Nat) : Kept s (t.propose c n) ↔ Kept s t := by
  simp only [State.propose, kept_ite, kept_post, kept_setOnu]
  repeat' split
  all_goals simp only [kept_post, kept_setOnu, kept_tell]

theorem kept_driftBurst (c n : Nat) (err : Int) : Kept s (t.driftBurst c n err) ↔ Kept s t := by
  simp only [State.driftBurst]
  repeat' (split <;> simp only [kept_ite, ite_self, kept_count, kept_setOnu, kept_propose])

/-! Operations of Machine/Hold.lean. -/

theorem kept_setAllocDyn (a : Nat) (d : AllocDyn) : Kept s (t.setAllocDyn a d) ↔ Kept s t := by
  simp only [State.setAllocDyn, kept_mk, kept_fold]

theorem kept_chargeAlloc (sfc ac : Nat) (m : List MapEnt) (x : Nat × List Nat) : Kept s (t.chargeAlloc sfc ac m x) ↔ Kept s t := by
  simp only [State.chargeAlloc, kept_setAllocDyn]

theorem kept_chargeMap (sfc ac : Nat) (m : List MapEnt) (l : List (Nat × List Nat)) : Kept s (t.chargeMap sfc ac m l) ↔ Kept s t := by
  simp only [State.chargeMap, kept_foldl, kept_self, implies_true, kept_chargeAlloc]

theorem kept_agePloamu (c : Nat) (m : List MapEnt) (onus : List Nat) : Kept s (t.agePloamu c m onus) ↔ Kept s t := by
  simp only [State.agePloamu, kept_setHal]

theorem kept_reinit (c : Nat) : Kept s (t.reinit c) ↔ Kept s t := by
  simp only [State.reinit, kept_ite, ite_self, kept_mk, kept_fold, kept_foldl, kept_self, implies_true, kept_setAllocDyn, kept_dropTells, kept_setHal,
    kept_count, kept_postRaw]

theorem kept_escalate (c reason : Nat) : Kept s (t.escalate c reason) ↔ Kept s t := by
  simp only [State.escalate]
  repeat' (split <;> simp only [kept_ite, ite_self, kept_setHal, kept_recovered, kept_post, kept_setFld, kept_ladder, kept_reinit])

theorem kept_holdFrame (c sfc reason : Nat) : Kept s (t.holdFrame c sfc reason) ↔ Kept s t := by
  simp only [State.holdFrame, kept_ite, ite_self, kept_mk, kept_fold, kept_chargeMap, kept_agePloamu, kept_countN, kept_noteFault, kept_post, kept_setHal,
    kept_escalate, kept_setFld]

theorem kept_endEpisode (c : Nat) : Kept s (t.endEpisode c) ↔ Kept s t := by
  simp only [State.endEpisode, kept_ite, ite_self, kept_recovered, kept_post, kept_setFld, kept_setHal]

/-! Operations of Machine/Parser.lean. -/

theorem kept_toHost (q : Nat) (p : RxPkt) : Kept s (t.toHost q p) ↔ Kept s t := by
  simp only [State.toHost, kept_mk, kept_fold]

theorem kept_toFabric (p : Pkt) : Kept s (t.toFabric p) ↔ Kept s t := by
  simp only [State.toFabric, kept_mk, kept_fold]

theorem kept_learnOf (r : State) (p : Pkt) (k : PKey) (flow : Nat) : Kept s (t.learnOf r p k flow) ↔ Kept s t := by
  simp only [State.learnOf, kept_ite, kept_raiseLearn, ite_self]

theorem kept_missed (r : State) (p : Pkt) (k : PKey) (part : Nat) : Kept s (t.missed r p k part) ↔ Kept s t := by
  simp only [State.missed, kept_ite, kept_toHost, kept_toFabric, kept_count, ite_self]

theorem kept_forward (r : State) (p : Pkt) (k : PKey) (lf : Nat) (reads : List SlotRead) : Kept s (t.forward r p k lf reads) ↔ Kept s t := by
  refine Kept.iff ?_ s
  unfold State.forward
  extract_lets part q lag sa
  clear_value sa
  split
  · exact (kept_count t t _ _).mpr (.refl t)
  · split
    · exact (kept_count t t _ _).mpr (.refl t)
    · split
      · simp only [kept_learnOf, kept_missed, kept_count, kept_self]
      next key _ =>
        have hl {u : State} {x : Bool × Option (Nat × FwdEnt)} (e : t.lookup part key p.epoch reads = (u, x)) : Kept t u :=
          ((kept_lookup t t _ _ _ _).mpr (.refl t)).of_eq_pair e
        split
        next u _ hu => exact (kept_count t u _ _).mpr (hl hu)
        next u hu => simpa only [kept_learnOf, kept_missed, kept_count] using hl hu
        next u _ e hu => simpa only [kept_ite, kept_count, kept_toFabric, kept_learnOf, ite_self] using hl hu

theorem kept_prsPoison (b : PrsBad) : Kept s (t.prsPoison b) ↔ Kept s t := by
  simp only [State.prsPoison, kept_ite, ite_self, kept_mk, kept_fold, kept_post]

theorem kept_pipeline (src : Nat) : Kept s (t.pipeline src).1 ↔ Kept s t := by
  simp only [State.pipeline, kept_ite, ite_self, kept_mk, kept_fold, apply_ite Prod.fst]

theorem kept_decide_ (r : State) (p : Pkt) (k : PKey) (reads : List SlotRead) : Kept s (t.decide_ r p k reads) ↔ Kept s t := by
  unfold State.decide_
  split
  · simp only [kept_ite, kept_count, kept_forward, ite_self]
  · simp only [kept_ite, kept_count, kept_forward, kept_toHost, kept_toFabric, kept_learnOf, ite_self]

theorem kept_ruleData (ws : List Nat) : Kept s (t.ruleData ws) ↔ Kept s t := by
  simp only [State.ruleData, kept_foldl, kept_self, implies_true, kept_setFld]

/-! Operations of Machine/Shroud.lean. -/

theorem kept_setKeys (n : Nat) (k : OnuKeys) : Kept s (t.setKeys n k) ↔ Kept s t := by
  simp only [State.setKeys, kept_mk, kept_fold]

theorem kept_setGrp (c : Nat) (g : GroupKeys) : Kept s (t.setGrp c g) ↔ Kept s t := by
  simp only [State.setGrp, kept_mk, kept_fold]

theorem kept_setSa (rx : Bool) (n : Nat) (a : Option SaSt) : Kept s (t.setSa rx n a) ↔ Kept s t := by
  simp only [State.setSa, kept_ite, ite_self, kept_mk, kept_fold]

theorem kept_shrEnd (r : Nat) : Kept s (t.shrEnd r) ↔ Kept s t := by
  simp only [State.shrEnd, kept_setFld]

theorem kept_shrPut (l : List Nat) : Kept s (t.shrPut l) ↔ Kept s t := by
  simp only [State.shrPut, kept_foldl, kept_self, implies_true, kept_setFld]

theorem kept_useKey (phys key : Nat) : Kept s (t.useKey phys key) ↔ Kept s t := by
  simp only [State.useKey, kept_mk, kept_fold]

theorem kept_dropKey (key : Nat) : Kept s (t.dropKey key) ↔ Kept s t := by
  simp only [State.dropKey, kept_mk, kept_fold]

theorem kept_readStore (st ix : Nat) (e : Ecc) : Kept s (t.readStore st ix e).1 ↔ Kept s t := by
  simp only [State.readStore, kept_ite, ite_self, kept_mk, kept_fold, kept_readRec, kept_cleanRec, kept_setKeys, kept_setFld, kept_setSa, kept_setGrp,
    kept_post, apply_ite Prod.fst]

theorem kept_wrapBlob (kind flags ix : Nat) (body : List Nat) : Kept s (t.wrapBlob kind flags ix body).1 ↔ Kept s t := by
  simp only [State.wrapBlob, kept_tickFree]

theorem kept_mirrorKeys (kind ix : Nat) : Kept s (t.mirrorKeys kind ix) ↔ Kept s t := by
  simp only [State.mirrorKeys, kept_ite, ite_self, kept_wrapBlob, kept_mirror]

theorem kept_keyChanged (kind ix : Nat) : Kept s (t.keyChanged kind ix) ↔ Kept s t := by
  simp only [State.keyChanged, kept_shrEnd, kept_mirrorKeys, kept_dropKey]

theorem kept_showTx (p : Nat) : Kept s (t.showTx p) ↔ Kept s t := by
  simp only [State.showTx, kept_setFld]

theorem kept_nonceRec (kind ix : Nat) (w : List Nat) : Kept s (t.nonceRec kind ix w) ↔ Kept s t := by
  simp only [State.nonceRec, kept_setFld]

theorem kept_writeCtx (kind ix : Nat) (x : Bool) (b : List Nat) : Kept s (t.writeCtx kind ix x b) ↔ Kept s t := by
  simp only [State.writeCtx, kept_ite, ite_self, kept_showTx, kept_setSa, kept_setKeys, kept_setGrp, kept_dropKey, kept_cleanRec]

theorem kept_restoreBlob (b : List Nat) : Kept s (t.restoreBlob b).1 ↔ Kept s t := by
  simp only [State.restoreBlob, kept_ite, ite_self, kept_writeCtx, apply_ite Prod.fst]
  repeat' split
  all_goals simp only [kept_writeCtx]

theorem kept_of_cipher {p k n : Nat} {u : State} (h : t.cipher p k = .ok (u, n)) : Kept s u ↔ Kept s t := by
  unfold State.cipher at h
  split at h
  · cases h
  · split at h
    · cases h
    · cases h
      exact kept_useKey s t _ _

theorem kept_of_cipher_error {p k : Nat} {u : State} (h : t.cipher p k = .error u) : Kept s u ↔ Kept s t := by
  unfold State.cipher at h
  split at h
  · cases h
    exact kept_count s t _ _
  · split at h
    · cases h
      exact kept_count s t _ _
    · cases h

theorem kept_takePn (slot : Nat) (a : SaSt) : Kept s (t.takePn slot a) ↔ Kept s t := by
  simp only [State.takePn, kept_ite, ite_self, kept_setSa, kept_post, kept_count, kept_showTx]

theorem kept_secureTx (p : Nat) (e : Ecc) : Kept s (t.secureTx p e).1 ↔ Kept s t := by
  refine Kept.iff ?_ s
  unfold State.secureTx
  extract_lets slot
  split
  · split
    next u hu => exact (kept_of_cipher_error t t hu).mpr (.refl t)
    next u _ hu =>
      have hu : Kept t u := (kept_of_cipher t t hu).mpr (.refl t)
      split
      next v bad hv =>
      have hv : Kept t v := ((kept_readStore t u _ _ _).mpr hu).of_eq_pair hv
      split
      · exact hv
      · split
        · exact hv
        · simpa only [apply_ite Prod.fst, kept_ite, kept_count, kept_takePn, ite_self] using hv
  · exact .refl t

theorem kept_verifyRx (r : State) (p : Nat) (x : Option MacRx) (e : Ecc) : Kept s (t.verifyRx r p x e).1 ↔ Kept s t := by
  refine Kept.iff ?_ s
  have hcount (u : State) (c : Ctr) (hu : Kept t u) : Kept t (u.count c p) := (kept_count t u c p).mpr hu
  unfold State.verifyRx
  split
  · exact hcount _ _ (.refl t)
  · extract_lets sc
    clear_value sc
    split
    · exact hcount _ _ (.refl t)
    · extract_lets slot
      split
      next u hu => exact (kept_of_cipher_error t t hu).mpr (.refl t)
      next u _ hu =>
        have hu : Kept t u := (kept_of_cipher t t hu).mpr (.refl t)
        split
        next v bad hv =>
        have hv : Kept t v := ((kept_readStore t u _ _ _).mpr hu).of_eq_pair hv
        split
        · exact hcount _ _ hv
        · simpa only [apply_ite Prod.fst, kept_ite, kept_count, kept_setSa, ite_self] using hv

/-! Operations of Machine/SheetOps.lean. -/

theorem kept_setDyn (k : Nat) (d : NodeDyn) : Kept s (t.setDyn k d) ↔ Kept s t := by
  simp only [State.setDyn, kept_mk, kept_fold]

theorem kept_enterWheel (k : Nat) : Kept s (t.enterWheel k) ↔ Kept s t := by
  simp only [State.enterWheel, kept_ite, ite_self, kept_setDyn]

theorem kept_chargeNode (l k : Nat) : Kept s (t.chargeNode l k) ↔ Kept s t := by
  simp only [State.chargeNode, kept_enterWheel, kept_setDyn]

theorem kept_setGates (u : Nat) (g : GateSt) : Kept s (t.setGates u g) ↔ Kept s t := by
  simp only [State.setGates, kept_mk, kept_fold]

theorem kept_setQ (q : Nat) (x : EgQ) : Kept s (t.setQ q x) ↔ Kept s t := by
  simp only [State.setQ, kept_mk, kept_fold]

theorem kept_pushTsq (u status pos id : Nat) (t0 : Stamp) : Kept s (t.pushTsq u status pos id t0) ↔ Kept s t := by
  simp only [State.pushTsq, kept_ite, ite_self, kept_mk, kept_fold, kept_count, kept_setFld, kept_post]

theorem kept_dropped (p : Pkt) : Kept s (t.dropped p) ↔ Kept s t := by
  simp only [State.dropped]
  repeat' (split <;> simp only [kept_ite, ite_self, kept_pushTsq])

theorem kept_setPfc (k : Nat) (x : PfcSt) : Kept s (t.setPfc k x) ↔ Kept s t := by
  simp only [State.setPfc, kept_mk, kept_fold]

theorem kept_sendPfc (n en quanta : Nat) : Kept s (t.sendPfc n en quanta) ↔ Kept s t := by
  simp only [State.sendPfc, kept_emit]

theorem kept_pfcCheck (n c : Nat) (room : Bool) : Kept s (t.pfcCheck n c room) ↔ Kept s t := by
  simp only [State.pfcCheck, kept_ite, ite_self, kept_countN, kept_sendPfc, kept_setPfc]

theorem kept_pfcOfPkt (p : Pkt) (room : Bool) : Kept s (t.pfcOfPkt p room) ↔ Kept s t := by
  simp only [State.pfcOfPkt, kept_ite, ite_self, kept_pfcCheck]

theorem kept_setQs (q : Nat) (x : QStat) : Kept s (t.setQs q x) ↔ Kept s t := by
  simp only [State.setQs, kept_mk, kept_fold]

theorem kept_noteDepth (q : Nat) : Kept s (t.noteDepth q) ↔ Kept s t := by
  simp only [State.noteDepth, kept_setQs]

theorem kept_noteSojourn (q settle : Nat) : Kept s (t.noteSojourn q settle) ↔ Kept s t := by
  simp only [State.noteSojourn, kept_ite, ite_self, kept_setQs, kept_count]

theorem kept_countTx (q len : Nat) : Kept s (t.countTx q len) ↔ Kept s t := by
  simp only [State.countTx, kept_ite, ite_self, kept_countN, kept_count]

theorem kept_oversize (i : Nat) : Kept s (t.oversize i) ↔ Kept s t := by
  simp only [State.oversize, kept_ite, ite_self, kept_mk, kept_fold, kept_count, kept_post]

theorem kept_toEdge (c : Nat) (p : Pkt) : Kept s (t.toEdge c p) ↔ Kept s t := by
  simp only [State.toEdge, kept_setDs]

theorem kept_toMac (n : Nat) (p : Pkt) (stomped : Bool) (e : Ecc) : Kept s (t.toMac n p stomped e) ↔ Kept s t := by
  refine Kept.iff ?_ s
  unfold State.toMac
  extract_lets send
  have hsend (u : State) (b : Bool) : Kept t (send u b) ↔ Kept t u := Iff.rfl
  split
  · have hx {u : State} {b : Bool} (h : t.secureTx n e = (u, b)) : Kept t u := ((kept_secureTx t t n e).mpr (.refl t)).of_eq_pair h
    split
    next u hu => exact (hsend u true).mpr (hx hu)
    next u hu => exact (kept_dropped t u p).mpr (hx hu)
  · exact (hsend t false).mpr (.refl t)

/-! Operations of Machine/Check.lean. -/

/-! Operations of Machine/Fabric.lean. -/

theorem kept_setPort (d : Nat) (x : PortSt) : Kept s (t.setPort d x) ↔ Kept s t := by
  simp only [State.setPort, kept_mk, kept_fold]

theorem kept_setLink (n : Nat) (b : Bool) : Kept s (t.setLink n b) ↔ Kept s t := by
  simp only [State.setLink, kept_setFld]

theorem kept_setPool (k : Nat) (p : Pool) : Kept s (t.setPool k p) ↔ Kept s t := by
  simp only [State.setPool, kept_mk, kept_fold]

theorem kept_of_popPool {k x : Nat} {u : State} (h : t.popPool k = some (u, x)) : Kept s u ↔ Kept s t := by
  unfold State.popPool at h
  dsimp only at h
  split at h
  · cases h
    exact kept_setPool s t _ _
  · split at h
    · cases h
      exact kept_setPool s t _ _
    · cases h

theorem kept_grant (k ptr agent flow : Nat) : Kept s (t.grant k ptr agent flow) ↔ Kept s t := by
  simp only [State.grant, kept_mk, kept_fold, kept_setPool]

theorem kept_popFirst (ptrBad : Bool) (l : List Nat) : Kept s (t.popFirst ptrBad l).1 ↔ Kept s t := by
  induction l generalizing t ptrBad with
  | nil => rfl
  | cons k l ih =>
    unfold State.popFirst
    split
    · exact ih t ptrBad
    next u x hu =>
      have hu (r : State) := kept_of_popPool r t hu
      split
      · extract_lets p v
        have hv : Kept s v ↔ Kept s t := (kept_setPool s u _ _).trans (hu s)
        split
        · exact (ih v false).trans hv
        next w y hw => exact (kept_of_popPool s v hw).trans hv
      · exact hu s

theorem kept_alloc (fam size flow agent : Nat) (mayWait ptrBad : Bool) : Kept s (t.alloc fam size flow agent mayWait ptrBad).1 ↔ Kept s t := by
  refine Kept.iff ?_ s
  unfold State.alloc
  split
  · exact .refl t
  next first rest _ =>
    have hp {u : State} {o : Option (Nat × Nat)} (h : t.popFirst ptrBad (first :: rest) = (u, o)) : Kept t u :=
      ((kept_popFirst t t _ _).mpr (.refl t)).of_eq_pair h
    split
    next u k x hu =>
      simpa only [apply_ite Prod.fst, kept_ite, kept_post, kept_setPool, kept_count, kept_grant, ite_self] using hp hu
    next u hu =>
      simpa only [apply_ite Prod.fst, kept_ite, kept_post, kept_setPool, kept_count, kept_mk, kept_fold, ite_self] using hp hu

theorem kept_linkSeg (f k ptr : Nat) : Kept s (t.linkSeg f k ptr) ↔ Kept s t := by
  simp only [State.linkSeg, kept_setQ]

theorem kept_serve (k : Nat) : Kept s (t.serve k) ↔ Kept s t := by
  refine Kept.iff ?_ s
  unfold State.serve
  split
  · exact .refl t
  · split
    · exact .refl t
    next u x hu =>
      have hu : Kept t u := (kept_of_popPool t t hu).mpr (.refl t)
      simpa only [kept_ite, kept_linkSeg, kept_grant, kept_setPool, kept_mk, kept_fold, ite_self] using hu

theorem kept_pushPool (k ptr : Nat) : Kept s (t.pushPool k ptr) ↔ Kept s t := by
  simp only [State.pushPool, kept_ite, ite_self, kept_mk, kept_fold, kept_setPool, kept_serve]

theorem kept_freeBuf (agent k ptr : Nat) (bitBad : Bool) : Kept s (t.freeBuf agent k ptr bitBad) ↔ Kept s t := by
  simp only [State.freeBuf, kept_ite, ite_self, kept_pushPool, kept_post, kept_count]

theorem kept_setVoq (k : Nat) (v : Voq) : Kept s (t.setVoq k v) ↔ Kept s t := by
  simp only [State.setVoq, kept_mk, kept_fold]

theorem kept_lagSelect (r : State) (l h : Nat) : Kept s (t.lagSelect r l h).1 ↔ Kept s t := by
  simp only [State.lagSelect, apply_ite Prod.fst, kept_ite, kept_count, ite_self]

theorem kept_noteLow : Kept s t.noteLow ↔ Kept s t := by
  simp only [State.noteLow, kept_setPool]

theorem kept_arrive (p : Pkt) : Kept s (t.arrive p) ↔ Kept s t := by
  simp only [State.arrive, kept_mk, kept_fold]

theorem kept_xbarRetry (i : Nat) : Kept s (t.xbarRetry i) ↔ Kept s t := by
  simp only [State.xbarRetry, kept_ite, ite_self, kept_mk, kept_fold, kept_setFld, kept_count, kept_post]

theorem kept_crossCell (i e : Nat) (lost : Bool) : Kept s (t.crossCell i e lost) ↔ Kept s t := by
  simp only [State.crossCell]
  repeat' (split <;> simp only [kept_ite, ite_self, kept_foldl, kept_self, implies_true, kept_count, kept_setVoq, kept_dropped, kept_arrive])

theorem kept_setStream (q : Nat) (pkts : List QPkt) (tail : Nat) : Kept s (t.setStream q pkts tail) ↔ Kept s t := by
  simp only [State.setStream, kept_ite, ite_self, kept_setQ]

theorem kept_evict (q : Nat) : Kept s (t.evict q) ↔ Kept s t := by
  simp only [State.evict]
  repeat' (split <;> simp only [kept_pfcOfPkt, kept_dropped, kept_countN, kept_setStream])

theorem kept_makeRoom (c n fuel : Nat) : Kept s (t.makeRoom c n fuel) ↔ Kept s t := by
  induction fuel generalizing t with
  | zero => rfl
  | succ fuel ih =>
    unfold State.makeRoom
    split
    · rfl
    · split
      · rfl
      · rw [ih, kept_evict]

theorem kept_grab (c n : Nat) : Kept s (t.grab c n).1 ↔ Kept s t := by
  simp only [State.grab, kept_ite, ite_self, kept_makeRoom, apply_ite Prod.fst]

theorem kept_append (q : Nat) (p : Pkt) (room : Option Nat) : Kept s (t.append q p room) ↔ Kept s t := by
  simp only [State.append, kept_pfcOfPkt, kept_noteDepth, kept_setQ]

theorem kept_spillAdmit (r : State) (q : Nat) (p : Pkt) : Kept s (t.spillAdmit r q p) ↔ Kept s t := by
  simp only [State.spillAdmit, kept_ite, kept_dropped, kept_count, kept_countN, kept_noteDepth, kept_setQ, kept_makeRoom, ite_self]

theorem kept_admitPkt (r : State) (q : Nat) (p : Pkt) : Kept s (t.admitPkt r q p) ↔ Kept s t := by
  refine Kept.iff ?_ s
  unfold State.admitPkt
  extract_lets x c n
  split
  · exact (kept_spillAdmit t t _ _ _).mpr (.refl t)
  · have hg {u : State} {b : Bool} (e : t.grab c n = (u, b)) : Kept t u := ((kept_grab t t _ _).mpr (.refl t)).of_eq_pair e
    split
    next u hu => exact (kept_append t u _ _ _).mpr (hg hu)
    next u hu => simpa only [kept_ite, kept_append, kept_dropped, kept_countN, ite_self] using hg hu

theorem kept_of_assignQueue_error {r u : State} {p : Pkt} (h : t.assignQueue r p = .error u) : Kept s u ↔ Kept s t := by
  have hdrop (c : Ctr) (i : Nat) : Kept s ((t.count c i).dropped p) ↔ Kept s t := by rw [kept_dropped, kept_count]
  unfold State.assignQueue at h
  split at h
  · split at h
    · cases h; exact hdrop _ _
    · split at h
      · cases h; exact hdrop _ _
      · split at h
        · split at h
          · cases h
          · cases h; exact hdrop _ _
        · cases h; exact hdrop _ _
  · dsimp only at h
    split at h
    · cases h
      rw [kept_dropped, kept_oversize]
    · cases h

theorem kept_sendThrough (q : Nat) (p : Pkt) (bad : Bool) : Kept s (t.sendThrough q p bad) ↔ Kept s t := by
  simp only [State.sendThrough, kept_ite, ite_self, kept_foldl, kept_self, implies_true, kept_dropped, kept_count, kept_toEdge, kept_noteSojourn, kept_countTx,
    kept_chargeNode, kept_toMac]

theorem kept_settle (p : Pkt) (late : Bool) : Kept s (t.settle p late) ↔ Kept s t := by
  refine Kept.iff ?_ s
  unfold State.settle
  extract_lets r
  split
  next u hu => exact (kept_of_assignQueue_error t t hu).mpr (.refl t)
  · simp only [kept_ite, kept_dropped, kept_count, kept_sendThrough, kept_admitPkt, kept_self, ite_self]

theorem kept_joinStaging (f : Nat) : Kept s (t.joinStaging f) ↔ Kept s t := by
  simp only [State.joinStaging, kept_ite, ite_self, kept_setQ]

theorem kept_dropDram (f : Nat) : Kept s (t.dropDram f) ↔ Kept s t := by
  simp only [State.dropDram, kept_ite, ite_self, kept_foldl, kept_self, implies_true, kept_freeBuf, kept_setQ, kept_post, kept_dropped, kept_count]

theorem kept_flushQueue (q : Nat) : Kept s (t.flushQueue q).1 ↔ Kept s t := by
  simp only [State.flushQueue, kept_foldl, kept_self, implies_true, kept_freeBuf, kept_setQ, kept_pfcOfPkt, kept_dropped]

/-- Queues flushed one after another, with their packets counted. -/
theorem kept_flushQueues (l : List Nat) (n : Nat) :
    Kept s (l.foldl (fun (a : State × Nat) q => ((a.1.flushQueue q).1, a.2 + (a.1.flushQueue q).2)) (t, n)).1 ↔ Kept s t := by
  refine kept_foldl_fst (fun a q => ?_) l (t, n) s
  exact (kept_flushQueue a.1 a.1 q).mpr (.refl a.1)

theorem kept_flushPort (d : Nat) : Kept s (t.flushPort d).1 ↔ Kept s t := by
  simp only [State.flushPort, apply_ite Prod.fst, kept_ite, kept_setDs, kept_foldl, kept_dropped, kept_self, implies_true, kept_flushQueues, ite_self]

theorem kept_portDownNow (d : Nat) : Kept s (t.portDownNow d) ↔ Kept s t := by
  simp only [State.portDownNow, kept_ite, ite_self, kept_mk, kept_fold, kept_flushPort, kept_setPort, kept_countN]

theorem kept_faultPort (c : Nat) : Kept s (t.faultPort c) ↔ Kept s t := by
  simp only [State.faultPort, kept_ite, ite_self, kept_faultCh, kept_fwdPortRetired, kept_portDownNow]

theorem kept_standBy (c : Nat) : Kept s (t.standBy c) ↔ Kept s t := by
  have hflush := kept_flushPort
  obtain ⟨flush, hl⟩ : ∃ f, f = State.flushPort := exists_eq
  obtain ⟨f, hf⟩ : ∃ f, f = State.standBy := exists_eq
  rw [← hf]
  delta State.standBy at hf
  rw [← hl] at hf hflush
  simp only [hf, kept_countN, hflush, kept_setPort, kept_moveCh, kept_setDs, kept_stopFraming]

theorem kept_lagLoss (n : Nat) : Kept s (t.lagLoss n) ↔ Kept s t := by
  simp only [State.lagLoss, kept_ite, ite_self, kept_mk, kept_fold, kept_foldl, kept_self, implies_true, kept_post]

theorem kept_lagBack (n : Nat) : Kept s (t.lagBack n) ↔ Kept s t := by
  simp only [State.lagBack, kept_foldl, kept_mk, and_self, implies_true]

theorem kept_retireBank (b : Nat) : Kept s (t.retireBank b) ↔ Kept s t := by
  simp only [State.retireBank, kept_ite, ite_self, kept_setFld]

theorem kept_unretireBank (b : Nat) : Kept s (t.unretireBank b) ↔ Kept s t := by
  simp only [State.unretireBank, kept_ite, ite_self, kept_setFld]

/-! Operations of Machine/Halyard.lean. -/

theorem kept_setBuilders (k : Nat) (l : List Nat) : Kept s (t.setBuilders k l) ↔ Kept s t := by
  simp only [State.setBuilders, kept_setFld]

theorem kept_actSwaps (k : Nat) : Kept s (t.actSwaps k) ↔ Kept s t := by
  simp only [State.actSwaps, kept_ite, ite_self, kept_mk, kept_fold, kept_foldl, kept_self, implies_true, kept_setFld, kept_setBuilders]

theorem kept_loseSlice (k : Nat) : Kept s (t.loseSlice k) ↔ Kept s t := by
  simp only [State.loseSlice, kept_foldl, kept_self, implies_true, kept_setFld, kept_setHal, kept_post]

theorem kept_retireBuilder (n : Nat) : Kept s (t.retireBuilder n) ↔ Kept s t := by
  refine Kept.iff ?_ s
  have hswaps := kept_actSwaps
  have hpost := kept_post
  obtain ⟨f, hf⟩ : ∃ f, f = State.retireBuilder := exists_eq
  obtain ⟨swaps, hs⟩ : ∃ f, f = State.actSwaps := exists_eq
  obtain ⟨spares, hs'⟩ : ∃ f, f = State.spareBuilders := exists_eq
  obtain ⟨bld, hb⟩ : ∃ f, f = State.builders := exists_eq
  rw [← hf]
  delta State.retireBuilder at hf
  rw [← hs, ← hs', ← hb] at hf 
  rw [← hs] at hswaps
  rw [hf]
  beta_reduce
  extract_lets u v w
  have hw : Kept t w := by simp only [w, v, u, kept_setFld, kept_foldl, hswaps, kept_self, implies_true]
  clear_value w
  split
  · exact (kept_post t w _ _).mpr hw
  · extract_lets l i
    split
    · exact (kept_setBuilders t w _ _).mpr hw
    · split
      · simpa only [kept_post, kept_setFld, kept_mk, kept_fold] using hw
      · simpa only [kept_ite, kept_post, kept_setBuilders, kept_loseSlice, ite_self] using hw

theorem kept_retireChecker (n : Nat) : Kept s (t.retireChecker n) ↔ Kept s t := by
  simp only [State.retireChecker]
  repeat' (split <;> simp only [kept_ite, ite_self, kept_mk, kept_fold, kept_foldl, kept_self, implies_true, kept_actSwaps, kept_setFld, kept_post,
    kept_loseSlice])

theorem kept_unretireBuilder (n : Nat) : Kept s (t.unretireBuilder n) ↔ Kept s t := by
  refine Kept.iff ?_ s
  obtain ⟨f, hf⟩ : ∃ f, f = State.unretireBuilder := exists_eq
  obtain ⟨bld, hb⟩ : ∃ f, f = State.builders := exists_eq
  rw [← hf]
  delta State.unretireBuilder at hf
  rw [← hb] at hf
  rw [hf]
  beta_reduce
  extract_lets u
  have hu : Kept t u := (kept_setFld t t _ _).mpr (.refl t)
  split
  · exact (kept_setBuilders t u _ _).mpr hu
  · exact (kept_setFld t u _ _).mpr hu

theorem kept_unretireChecker (n : Nat) : Kept s (t.unretireChecker n) ↔ Kept s t := by
  simp only [State.unretireChecker, kept_setFld]

theorem kept_builderFaults (c n : Nat) : Kept s (t.builderFaults c n) ↔ Kept s t := by
  simp only [State.builderFaults, kept_ite, ite_self, kept_foldl, kept_self, implies_true, kept_ladder, kept_count, kept_recordRetire]

theorem kept_checkerFault (c : Nat) : Kept s (t.checkerFault c) ↔ Kept s t := by
  simp only [State.checkerFault, kept_ite, ite_self, kept_ladder, kept_count, kept_recordRetire]

theorem kept_addPlan (n : Snap) (allocId : Nat) (onu : Option Nat) (lo hi : Int) (profile : Nat) :
    Kept s (State.addPlan (t, n) allocId onu lo hi profile).1 ↔ Kept s t := by
  simp only [State.addPlan, kept_mk, kept_fold, kept_ite, kept_count, ite_self]

theorem kept_planAll (n : Snap) : Kept s (t.planAll n).1 ↔ Kept s t := by
  unfold State.planAll
  extract_lets c d r a l
  have ha : Kept s a.1 ↔ Kept s t := by simp only [a, apply_ite Prod.fst, kept_ite, kept_addPlan, kept_setDisc, ite_self]
  rw [kept_foldl_fst (fun b x => ?_), ha]
  split
  · simp only [apply_ite Prod.fst, kept_ite, kept_addPlan, kept_setOnu, kept_self, ite_self]
  · exact .refl b.1

theorem kept_allocPoison (a c f : Nat) : Kept s (t.allocPoison a c f) ↔ Kept s t := by
  simp only [State.allocPoison, kept_mk, kept_fold, kept_showTells, kept_countN, kept_cleanRec, kept_setRecord, kept_post, kept_momentFault]

theorem kept_mirrorFrame (c f ep : Nat) (held : Bool) (m : List MapEnt) : Kept s (t.mirrorFrame c f ep held m) ↔ Kept s t := by
  simp only [State.mirrorFrame, kept_mirror]

theorem kept_undoPlans (n : Snap) : Kept s (t.undoPlans n) ↔ Kept s t := by
  unfold State.undoPlans
  extract_lets c u
  rw [kept_foldl (fun v p => ?_)]
  · rfl
  split
  · simp only [kept_ite, kept_setDisc, kept_self, ite_self]
  · extract_lets x
    split
    · exact (kept_setOnu v v _ _).mpr (.refl v)
    · exact .refl v

theorem kept_rejectMap (c : Nat) (b : Build) (reason : Nat) : Kept s (t.rejectMap c b reason) ↔ Kept s t := by
  simp only [State.rejectMap, kept_countN, kept_undoPlans, kept_holdFrame, kept_setHal, kept_mirrorFrame]

theorem kept_acceptMap (c : Nat) (b : Build) (m : List MapEnt) : Kept s (t.acceptMap c b m) ↔ Kept s t := by
  simp only [State.acceptMap, kept_agePloamu, kept_chargeMap, kept_countN, kept_count, kept_setFld, kept_endEpisode, kept_setHal, kept_mirrorFrame]

theorem kept_takeTell (ep kind : Nat) (b : List Nat) : Kept s (t.takeTell ep kind b) ↔ Kept s t := by
  simp only [State.takeTell]
  repeat' split
  all_goals simp only [kept_mk, kept_fold, kept_count, kept_showTells, kept_post]

theorem kept_alcAnswer (result : Nat) (ws : List Nat) : Kept s (t.alcAnswer result ws) ↔ Kept s t := by
  simp only [State.alcAnswer, kept_setFld]

/-! Operations of Machine/PonDown.lean. -/

theorem kept_tryStart (c : Nat) : Kept s (t.tryStart c) ↔ Kept s t := by
  simp only [State.tryStart, kept_ite, ite_self, kept_standBy, kept_moveCh, kept_setDs]

theorem kept_heedOff (c : Nat) : Kept s (t.heedOff c) ↔ Kept s t := by
  simp only [State.heedOff, kept_ite, ite_self, kept_offCh, kept_setDs]

theorem kept_sendPloam (c : Nat) (m : Ploam) : Kept s (t.sendPloam c m).1 ↔ Kept s t := by
  simp only [State.sendPloam]
  repeat' (split <;> simp only [kept_setOnu, kept_setDs])

theorem kept_sendPloams (c : Nat) (l : List Ploam) : Kept s (t.sendPloams c l).1 ↔ Kept s t := by
  induction l generalizing t with
  | nil => rfl
  | cons m l ih => simp only [State.sendPloams, ih, kept_sendPloam]

theorem kept_captureMap (c : Nat) (map : List MapEnt) (held : Bool) (reason ep : Nat) : Kept s (t.captureMap c map held reason ep) ↔ Kept s t := by
  simp only [State.captureMap, kept_ite, ite_self, kept_mk, kept_fold, kept_setFld]

theorem kept_startFrame (c sfc : Nat) (map : List MapEnt) (held : Bool) (reason ep : Nat) (cfg : List Nat) : Kept s (t.startFrame c sfc map held reason ep cfg)
    ↔ Kept s t := by
  simp only [State.startFrame]
  repeat' (split <;> simp only [kept_ite, ite_self, kept_foldl, kept_self, implies_true, kept_countN, kept_showPloam, kept_setDs, kept_sendPloams, kept_count,
    kept_setFld, kept_captureMap, kept_emit])

theorem kept_refUnlock (c : Nat) : Kept s (t.refUnlock c) ↔ Kept s t := by
  simp only [State.refUnlock, kept_ite, ite_self, kept_setFld, kept_heedOff, kept_faultPort, kept_post]

theorem kept_flwAnswer (c result d0 d1 : Nat) : Kept s (t.flwAnswer c result d0 d1) ↔ Kept s t := by
  simp only [State.flwAnswer, kept_setFld]

theorem kept_flwRead (c ix : Nat) (ws : List Nat) (e : Ecc) : Kept s (t.flwRead c ix ws e) ↔ Kept s t := by
  simp only [State.flwRead, kept_ite, ite_self, kept_readRec, kept_flwAnswer, kept_post, kept_cleanRec, kept_setRecord, kept_setFld]

/-! Operations of Machine/Lane.lean. -/

theorem kept_setLane (i : Nat) (l : LaneSt) : Kept s (t.setLane i l) ↔ Kept s t := by
  simp only [State.setLane, kept_mk, kept_fold]

theorem kept_setSl (k : Nat) (l : SlLane) : Kept s (t.setSl k l) ↔ Kept s t := by
  simp only [State.setSl, kept_mk, kept_fold]

theorem kept_acquire (i : Nat) (announce : Bool) : Kept s (t.acquire i announce) ↔ Kept s t := by
  simp only [State.acquire, kept_setFld, kept_setLane]

theorem kept_showPresent : Kept s t.showPresent ↔ Kept s t := by
  simp only [State.showPresent, kept_ite, ite_self, kept_setFld, kept_post]

theorem kept_judgeLink : Kept s t.judgeLink ↔ Kept s t := by
  simp only [State.judgeLink, kept_ite, ite_self, kept_setFld, kept_post]

theorem kept_slLeave (k : Nat) : Kept s (t.slLeave k) ↔ Kept s t := by
  simp only [State.slLeave, kept_judgeLink, kept_setSl]

theorem kept_lockLost (i : Nat) : Kept s (t.lockLost i) ↔ Kept s t := by
  simp only [State.lockLost, kept_ite, ite_self, kept_setFld, kept_count, kept_post]

theorem kept_loseLock (i : Nat) (announce : Bool) : Kept s (t.loseLock i announce) ↔ Kept s t := by
  simp only [State.loseLock, kept_ite, ite_self, kept_lockLost, kept_acquire, kept_showPresent, kept_slLeave]

theorem kept_retireLane (i : Nat) : Kept s (t.retireLane i) ↔ Kept s t := by
  simp only [State.retireLane, kept_ite, ite_self, kept_setFld, kept_showPresent, kept_slLeave, kept_recordRetire, kept_dueApply]
  repeat' split
  all_goals simp only [kept_setFld, kept_portDownNow]

theorem kept_laneFault (i : Nat) : Kept s (t.laneFault i) ↔ Kept s t := by
  simp only [State.laneFault, kept_ite, ite_self, kept_count, kept_setFld, kept_ladder, kept_noteFault, kept_retireLane, kept_acquire]

theorem kept_reefBegin (i reef : Nat) : Kept s (t.reefBegin i reef) ↔ Kept s t := by
  simp only [State.reefBegin, kept_ite, ite_self, kept_setLane, kept_setFld, kept_acquire]

/-! Operations of Machine/Time.lean. -/

theorem kept_putTbu (v : Int) : Kept s (t.putTbu v) ↔ Kept s t := by
  simp only [State.putTbu, kept_mk, kept_fold]

theorem kept_stepTime (v : Int) : Kept s (t.stepTime v) ↔ Kept s t := by
  simp only [State.stepTime, kept_setFld, kept_putTbu]

theorem kept_endSetAtPps (r : Nat) : Kept s (t.endSetAtPps r) ↔ Kept s t := by
  simp only [State.endSetAtPps, kept_mk, kept_fold, kept_setFld, kept_post]

theorem kept_cancelSetAtPps : Kept s t.cancelSetAtPps ↔ Kept s t := by
  simp only [State.cancelSetAtPps, kept_ite, ite_self, kept_endSetAtPps]

theorem kept_dpHold (e : Bool) : Kept s (t.dpHold e) ↔ Kept s t := by
  simp only [State.dpHold, kept_post, kept_setFld]

/-! Operations of Machine/Mate.lean. -/

theorem kept_stopWtr : Kept s t.stopWtr ↔ Kept s t := by
  simp only [State.stopWtr, kept_mk, kept_fold, kept_setFld]

theorem kept_movePair (st : Nat) : Kept s (t.movePair st) ↔ Kept s t := by
  simp only [State.movePair, kept_ite, ite_self, kept_mk, kept_fold, kept_setFld, kept_post, kept_stopWtr]

theorem kept_syncReqOut : Kept s t.syncReqOut ↔ Kept s t := by
  simp only [State.syncReqOut, kept_ite, ite_self, kept_count, kept_sendStay]

theorem kept_toSyncing : Kept s t.toSyncing ↔ Kept s t := by
  simp only [State.toSyncing, kept_syncReqOut, kept_movePair]

theorem kept_discardMirror : Kept s t.discardMirror ↔ Kept s t := by
  refine Kept.iff ?_ s
  unfold State.discardMirror
  extract_lets u v w
  have hv : Kept t v := by simp only [v, u, kept_foldl, kept_dropKey, kept_self, implies_true]
  have hw : Kept t w := hv.trans (Kept.foldl (fun x l => ?_) _ v)
  · simpa only [kept_mk, kept_fold] using hw
  · split
    · simp only [kept_ite, kept_clearSlot, kept_self, ite_self]
    · exact .refl x

theorem kept_resync : Kept s t.resync ↔ Kept s t := by
  simp only [State.resync, kept_post, kept_toSyncing, kept_discardMirror]

theorem kept_yieldAll : Kept s t.yieldAll ↔ Kept s t := by
  simp only [State.yieldAll, kept_ite, ite_self, kept_foldl, kept_self, implies_true, kept_standBy]

theorem kept_leaveStandby (c : Nat) (at_ : Int) (f : MirFrame) : Kept s (t.leaveStandby c at_ f) ↔ Kept s t := by
  simp only [State.leaveStandby, kept_setFld, kept_setPort, kept_moveCh, kept_setDs, kept_setHal]

theorem kept_raiseCh (at_ : Int) (c : Nat) : Kept s (t.raiseCh at_ c) ↔ Kept s t := by
  simp only [State.raiseCh, kept_ite]
  repeat' split
  all_goals simp only [kept_leaveStandby, kept_tryStart, kept_setPort, kept_moveCh]

theorem kept_takeKeys (p : Nat → Bool) : Kept s (t.takeKeys p) ↔ Kept s t := by
  simp only [State.takeKeys, kept_mk, kept_fold, kept_foldl, kept_self, implies_true, kept_restoreBlob]

theorem kept_enterActive : Kept s t.enterActive ↔ Kept s t := by
  simp only [State.enterActive, kept_mk, kept_fold, kept_foldl, kept_self, implies_true, kept_takeKeys, kept_movePair, kept_raiseCh, kept_toIdle]

theorem kept_switchOver (cause : Nat) : Kept s (t.switchOver cause) ↔ Kept s t := by
  simp only [State.switchOver, kept_ite, ite_self, kept_mk, kept_fold, kept_enterActive, kept_tickFree, kept_setFld, kept_post, kept_countN]

theorem kept_startHandover (cause : Nat) : Kept s (t.startHandover cause) ↔ Kept s t := by
  simp only [State.startHandover, kept_mk, kept_fold, kept_count, kept_sendStay]

theorem kept_retiredGives : Kept s t.retiredGives ↔ Kept s t := by
  simp only [State.retiredGives, kept_ite, ite_self, kept_startHandover]

theorem kept_mateStart : Kept s t.mateStart ↔ Kept s t := by
  simp only [State.mateStart, kept_ite, ite_self, kept_setFld, kept_movePair]

theorem kept_heartbeat (st : Nat) : Kept s (t.heartbeat st) ↔ Kept s t := by
  simp only [State.heartbeat, kept_ite, ite_self, kept_mk, kept_fold, kept_count, kept_sendStay]

theorem kept_releasing : Kept s t.releasing ↔ Kept s t := by
  simp only [State.releasing, kept_ite, ite_self, kept_foldl, kept_self, implies_true, kept_heartbeat, kept_setFld]

theorem kept_mismatched (why : Nat) : Kept s (t.mismatched why) ↔ Kept s t := by
  simp only [State.mismatched, kept_ite, ite_self, kept_mk, kept_fold, kept_post, kept_movePair]

theorem kept_heed (h : Heartbeat) : Kept s (t.heed h) ↔ Kept s t := by
  simp only [State.heed, kept_ite, ite_self, kept_toSyncing, kept_mismatched, kept_enterActive, kept_switchOver, kept_movePair, kept_startHandover]

theorem kept_undecided : Kept s t.undecided ↔ Kept s t := by
  simp only [State.undecided, kept_ite, ite_self, kept_post, kept_setFld]

theorem kept_askRevert : Kept s t.askRevert ↔ Kept s t := by
  simp only [State.askRevert, kept_mk, kept_fold, kept_setFld]

theorem kept_maySync : Kept s t.maySync ↔ Kept s t := by
  simp only [State.maySync, kept_ite, ite_self, kept_mk, kept_fold, kept_post, kept_movePair, kept_setFld]

theorem kept_takeLearn (r : LearnRec) : Kept s (t.takeLearn r) ↔ Kept s t := by
  refine Kept.iff ?_ s
  unfold State.takeLearn
  split
  next u d f hl =>
  have hu : Kept t u := ((kept_lookup t t _ _ _ _).mpr (.refl t)).of_eq_pair hl
  clear hl
  extract_lets new
  split
  · split
    · split
      next v hv => exact ((kept_insertEnt t u new).mpr hu).of_eq_pair hv
      next v hv => exact (kept_count t v _ _).mpr (((kept_insertEnt t u new).mpr hu).of_eq_pair hv)
    · exact hu
  · simpa only [kept_ite, kept_setSlot, kept_clearSlot, ite_self] using hu

theorem kept_sendLearn (n : Nat) (l : List (Nat × FwdEnt)) : Kept s (t.sendLearn n l) ↔ Kept s t := by
  induction n generalizing t l with
  | zero => rfl
  | succ n ih => simp only [State.sendLearn, kept_ite, ih, kept_mirror, ite_self]

/-! Operations of Machine/Mem.lean. -/

theorem kept_dropMerge (mem ix : Nat) : Kept s (t.dropMerge mem ix) ↔ Kept s t := by
  simp only [State.dropMerge, kept_mk, kept_fold]

theorem kept_setMerge (e : MergeEnt) : Kept s (t.setMerge e) ↔ Kept s t := by
  simp only [State.setMerge, kept_mk, kept_fold]

theorem kept_writeMerge (e : MergeEnt) : Kept s (t.writeMerge e) ↔ Kept s t := by
  simp only [State.writeMerge, kept_ite, kept_dropMerge, kept_noteWrite]
  repeat' split
  all_goals simp only [kept_dropMerge, kept_noteWrite, kept_post, kept_poisonWord, kept_offerWeak, kept_count]

theorem kept_relieve (k cap : Nat) : Kept s (t.relieve k cap) ↔ Kept s t := by
  simp only [State.relieve]
  repeat' (split <;> simp only [kept_ite, ite_self, kept_writeMerge])

theorem kept_scrubNext : Kept s t.scrubNext ↔ Kept s t := by
  simp only [State.scrubNext, kept_mk, kept_fold]

theorem kept_scrubChecked (f : ScrubSt → ScrubSt) : Kept s (t.scrubChecked f) ↔ Kept s t := by
  simp only [State.scrubChecked, kept_mk, kept_fold, kept_scrubNext, kept_setFld]

theorem kept_endCopy (mem bank : Nat) : Kept s (t.endCopy mem bank) ↔ Kept s t := by
  simp only [State.endCopy, kept_mk, kept_fold, kept_count]

theorem kept_spoilSlot (slot : Nat) : Kept s (t.spoilSlot slot) ↔ Kept s t := by
  simp only [State.spoilSlot, kept_ite, ite_self, kept_mk, kept_fold, kept_setFld]

/-! Operations of Machine/Reset.lean. -/

theorem kept_resetTim : Kept s t.resetTim ↔ Kept s t := by
  simp only [State.resetTim, kept_mk, kept_fold]

theorem kept_resetHif : Kept s t.resetHif ↔ Kept s t := by
  simp only [State.resetHif, kept_mk, kept_fold]

theorem kept_resetMast : Kept s t.resetMast ↔ Kept s t := by
  simp only [State.resetMast, kept_mk, kept_fold]

theorem kept_resetMem : Kept s t.resetMem ↔ Kept s t := by
  simp only [State.resetMem, kept_mk, kept_fold]

theorem kept_resetShr : Kept s t.resetShr ↔ Kept s t := by
  simp only [State.resetShr, kept_mk, kept_fold]

theorem kept_resetLane : Kept s t.resetLane ↔ Kept s t := by
  simp only [State.resetLane, kept_mk, kept_fold]

theorem kept_resetData : Kept s t.resetData ↔ Kept s t := by
  simp only [State.resetData, kept_mk, kept_fold]

theorem kept_resetDomains (ds : List Nat) : Kept s (t.resetDomains ds) ↔ Kept s t := by
  simp only [State.resetDomains, kept_ite, ite_self, kept_mk, kept_fold, kept_resetData, kept_resetLane, kept_resetShr, kept_resetMem, kept_resetMast,
    kept_resetHif, kept_resetTim]

theorem kept_releaseDomains (ds : List Nat) : Kept s (t.releaseDomains ds) ↔ Kept s t := by
  simp only [State.releaseDomains, kept_mk, kept_fold]

theorem kept_showBoot : Kept s t.showBoot ↔ Kept s t := by
  simp only [State.showBoot, kept_setFld]

theorem kept_setSlotRec (k : Nat) (x : Slot) : Kept s (t.setSlotRec k x) ↔ Kept s t := by
  simp only [State.setSlotRec, kept_ite, ite_self, kept_mk, kept_fold]

theorem kept_putSlotSt (k st : Nat) : Kept s (t.putSlotSt k st) ↔ Kept s t := by
  simp only [State.putSlotSt, kept_showBoot, kept_setSlotRec]

theorem kept_slotTo (k st : Nat) (act : JnlAct) : Kept s (t.slotTo k st act) ↔ Kept s t := by
  simp only [State.slotTo, kept_jnlPersist, kept_putSlotSt]

theorem kept_jnlPut (r : JnlRec) : Kept s (t.jnlPut r) ↔ Kept s t := by
  simp only [State.jnlPut, kept_ite, ite_self, kept_mk, kept_fold, kept_count, kept_setFld]

theorem kept_hostResetWait : Kept s t.hostResetWait ↔ Kept s t := by
  simp only [State.hostResetWait, kept_ite, ite_self, kept_foldl, kept_self, implies_true, kept_jnlPut]

theorem kept_lasersOff : Kept s t.lasersOff ↔ Kept s t := by
  simp only [State.lasersOff, kept_ite, ite_self, kept_foldl, kept_self, implies_true, kept_setFld, kept_releasing]

theorem kept_startUp : Kept s t.startUp ↔ Kept s t := by
  simp only [State.startUp, kept_ite, ite_self, kept_showBoot, kept_setFld, kept_releaseDomains]

theorem kept_kindReset (cause : Nat) : Kept s (t.kindReset cause) ↔ Kept s t := by
  simp only [State.kindReset, kept_ite, ite_self, kept_lasersOff, kept_hostResetWait, kept_setFld, kept_resetDomains]

theorem kept_addHold (r : Nat) : Kept s (t.addHold r) ↔ Kept s t := by
  simp only [State.addHold, kept_ite, ite_self, kept_mk, kept_fold]

theorem kept_dropHold (r : Nat) : Kept s (t.dropHold r) ↔ Kept s t := by
  simp only [State.dropHold, kept_ite, ite_self, kept_mk, kept_fold, kept_startUp]

/-! Operations of Machine/Sheet.lean. -/

theorem kept_applyUpd (l : List NodeUpd) : Kept s (t.applyUpd l) ↔ Kept s t := by
  simp only [State.applyUpd, kept_foldl, kept_self, implies_true, kept_setDyn]

theorem kept_popHead (q : Nat) : Kept s (t.popHead q) ↔ Kept s t := by
  simp only [State.popHead]
  repeat' (split <;> simp only [kept_setQ])

theorem kept_flushAll (l : List Nat) (c : Ctr) : Kept s (t.flushAll l c) ↔ Kept s t := by
  simp only [State.flushAll, kept_countN, kept_flushQueues]

theorem kept_nodePoison (b : NodeBad) : Kept s (t.nodePoison b) ↔ Kept s t := by
  simp only [State.nodePoison]
  repeat' (split <;> simp only [kept_post, kept_setDyn, kept_flushAll, kept_setRecord])

theorem kept_dropOversize (n c fuel : Nat) : Kept s (t.dropOversize n c fuel) ↔ Kept s t := by
  induction fuel generalizing t with
  | zero => rfl
  | succ fuel ih =>
    unfold State.dropOversize
    split
    · rfl
    · simp only [kept_ite, ih, kept_pfcOfPkt, kept_dropped, kept_oversize, kept_popHead, ite_self]

theorem kept_release (c : Choice) (q : QPkt) (poison retired : Bool) (e : Ecc) : Kept s (t.release c q poison retired e) ↔ Kept s t := by
  simp only [State.release, kept_ite, ite_self, kept_foldl, kept_self, implies_true, kept_applyUpd, kept_pfcOfPkt, kept_popHead, kept_chargeNode, kept_setDyn,
    kept_dropped, kept_count, kept_noteSojourn, kept_countTx, kept_toMac, kept_toEdge]

theorem kept_pickFrom (k : Nat) (poison retired : Bool) (e : Ecc) : Kept s (t.pickFrom k poison retired e) ↔ Kept s t := by
  simp only [State.pickFrom, kept_ite]
  repeat' split
  all_goals simp only [kept_release]

theorem kept_showGate (u : Nat) : Kept s (t.showGate u) ↔ Kept s t := by
  simp only [State.showGate]
  repeat' (split <;> simp only [kept_setFld])

theorem kept_setBit (f : Fld) (n : Nat) (b : Bool) : Kept s (t.setBit f n b) ↔ Kept s t := by
  simp only [State.setBit, kept_setFld]

theorem kept_gateApply (o : State) (u : Nat) : Kept s (State.gateApply o t u) ↔ Kept s t := by
  simp only [State.gateApply, kept_ite, kept_setFld, kept_setBit, kept_setGates, ite_self]

theorem kept_sheetApply (o : State) : Kept s (State.sheetApply o t) ↔ Kept s t := by
  simp only [State.sheetApply, kept_flushAll, kept_foldl, kept_gateApply, kept_ite, kept_enterWheel, kept_setDyn, kept_self, ite_self, implies_true]

theorem kept_showStorm (u : Nat) : Kept s (t.showStorm u) ↔ Kept s t := by
  simp only [State.showStorm, kept_setBit]

theorem kept_nodeData (ws : List Nat) : Kept s (t.nodeData ws) ↔ Kept s t := by
  simp only [State.nodeData, kept_foldl, kept_self, implies_true, kept_setFld]

theorem kept_qsLatch : Kept s t.qsLatch ↔ Kept s t := by
  simp only [State.qsLatch, kept_setFld]

theorem kept_dropUnit (u : CipherUnit) : Kept s (t.dropUnit u) ↔ Kept s t := by
  simp only [State.dropUnit]
  repeat' split
  all_goals simp only [kept_mk, kept_fold, kept_dropped, kept_count, kept_setDs, kept_setUs]

theorem kept_retireCipher (p l : Nat) : Kept s (t.retireCipher p l) ↔ Kept s t := by
  simp only [State.retireCipher, kept_recordRetire]
  repeat' (split <;> simp only [kept_ite, ite_self, kept_mk, kept_fold, kept_setFld, kept_dueApply])

/-! Operations of Machine/Rig.lean. -/

theorem kept_silently {f : State → State} (hf : ∀ u, Kept u (f u)) : Kept s (t.silently f) ↔ Kept s t := by
  refine Kept.iff ?_ s
  exact hf t

theorem kept_forAll {f : State → Nat → State} (hf : ∀ u n, Kept u (f u n)) (n : Nat) : Kept s (t.forAll n f) ↔ Kept s t :=
  kept_foldl hf _ s t

theorem kept_bindGroup (img : Image) (g : Nat) : Kept s (t.bindGroup img g) ↔ Kept s t := by
  simp only [State.bindGroup, kept_mk, kept_fold, kept_self, implies_true, kept_forAll, kept_setFld, kept_putCh]

theorem kept_bindUln (n : Nat) : Kept s (t.bindUln n) ↔ Kept s t := by
  simp only [State.bindUln, kept_ite, ite_self, kept_setFld, kept_acquire]

theorem kept_bindUplink (img : Image) (u : Nat) : Kept s (t.bindUplink img u) ↔ Kept s t := by
  simp only [State.bindUplink, kept_mk, kept_fold, kept_self, implies_true, kept_forAll, kept_bindUln]

theorem kept_narrowUplink (u : Nat) : Kept s (t.narrowUplink u) ↔ Kept s t := by
  simp only [State.narrowUplink, kept_ite, ite_self, kept_mk, kept_fold, kept_foldl, kept_self, implies_true, kept_portDownNow, kept_lagLoss, kept_setLink,
    kept_acquire, kept_setFld]

theorem kept_narrowLink (say : Bool) : Kept s (t.narrowLink say) ↔ Kept s t := by
  simp only [State.narrowLink, kept_ite, ite_self, kept_mk, kept_fold, kept_post, kept_judgeLink]

theorem kept_restore (e : RetEnt) : Kept s (t.restore e) ↔ Kept s t := by
  refine kept_silently s t (fun u => ?_)
  split
  · exact (kept_narrowUplink u u _).mpr (.refl u)
  split
  · split
    · simp only [kept_ite, kept_mk, kept_fold, kept_retireCipher, kept_self, ite_self]
    · exact (kept_setFld u u _ _).mpr (.refl u)
  · simp only [State.forAll, kept_ite, kept_foldl, kept_actSwaps, kept_retireBuilder, kept_retireChecker, kept_retireBank, kept_self, implies_true, ite_self]

theorem kept_bindStay : Kept s t.bindStay ↔ Kept s t := by
  simp only [State.bindStay, kept_self, implies_true, kept_forAll, kept_setFld]

theorem kept_bindAll (img : Image) : Kept s (t.bindAll img) ↔ Kept s t := by
  have hstay := kept_bindStay
  have hall := @kept_forAll
  obtain ⟨f, hf⟩ : ∃ f, f = State.bindAll := exists_eq
  obtain ⟨stay, hs⟩ : ∃ f, f = State.bindStay := exists_eq
  obtain ⟨forAll, ha⟩ : ∃ f, f = State.forAll := exists_eq
  rw [← hf]
  delta State.bindAll at hf
  rw [← hs, ← ha] at hf
  rw [← hs] at hstay
  rw [← ha] at hall
  simp only [hf, hall, kept_foldl, kept_restore, kept_mk, kept_fold, kept_setFld, hstay, kept_bindUplink, kept_bindGroup, kept_self, implies_true]

theorem kept_advance : Kept s t.advance ↔ Kept s t := by
  simp only [State.advance, kept_mk, kept_fold, kept_setFld]

theorem kept_devPart (cls obj : Nat) : Kept s (t.devPart cls obj) ↔ Kept s t := by
  simp only [State.devPart, kept_ite, kept_post, kept_recovered, kept_narrowUplink, kept_narrowLink, kept_unretireBank]
  repeat' split
  all_goals simp only [kept_mk, kept_fold, kept_post]

theorem kept_tryDeviceApply : Kept s t.tryDeviceApply ↔ Kept s t := by
  simp only [State.tryDeviceApply]
  repeat' (split <;> simp only [kept_ite, ite_self, kept_mk, kept_fold, kept_setFld, kept_moveRig, kept_advance, kept_showBusy, kept_devPart, kept_post])

theorem kept_applyInstant : Kept s t.applyInstant ↔ Kept s t := by
  simp only [State.applyInstant, kept_ite, ite_self, kept_mk, kept_fold, kept_foldl, kept_self, implies_true, kept_advance, kept_cleanRec, kept_sheetApply,
    kept_fwdApply, kept_emptyStaged, kept_showBusy, kept_complete, kept_setFld, kept_tryDeviceApply, kept_post]

theorem kept_drainedHost : Kept s t.drainedHost ↔ Kept s t := by
  simp only [State.drainedHost, kept_ite, ite_self, kept_showBusy, kept_setFld, kept_applyInstant]

theorem kept_drained (us : Nat) : Kept s (t.drained us) ↔ Kept s t := by
  simp only [State.drained, kept_ite, ite_self, kept_mk, kept_fold, kept_fwdDrained, kept_setFld, kept_drainedHost, kept_tryDeviceApply, kept_showBusy]

theorem kept_stale : Kept s t.stale ↔ Kept s t := by
  simp only [State.stale, kept_mk, kept_fold]

theorem kept_dropUnits (e : Nat) : Kept s (t.dropUnits e) ↔ Kept s t := by
  simp only [State.dropUnits, kept_mk, kept_fold, kept_foldl, kept_self, implies_true, kept_countN, kept_dropped]

theorem kept_stopCh (c : Nat) : Kept s (t.stopCh c) ↔ Kept s t := by
  simp only [State.stopCh, kept_ite, ite_self, kept_foldl, kept_self, implies_true, kept_offCh, kept_portDownNow, kept_toIdle]

theorem kept_stopUplink (u : Nat) : Kept s (t.stopUplink u) ↔ Kept s t := by
  simp only [State.stopUplink, kept_ite, ite_self, kept_self, implies_true, kept_forAll, kept_portDownNow, kept_lagLoss, kept_setLink]

theorem kept_resumeSlice (k : Nat) : Kept s (t.resumeSlice k) ↔ Kept s t := by
  simp only [State.resumeSlice, kept_ite, ite_self, kept_setBuilders, kept_setFld]

theorem kept_startGroup (img : Image) (g : Nat) : Kept s (t.startGroup img g) ↔ Kept s t := by
  simp only [State.startGroup, kept_ite, ite_self, kept_self, implies_true, kept_resumeSlice, kept_bindGroup, kept_forAll, kept_post, kept_setPort,
    kept_setFld, kept_tryStart]

theorem kept_clearSuspect (r : Nat) : Kept s (t.clearSuspect r) ↔ Kept s t := by
  simp only [State.clearSuspect, kept_mk, kept_fold]

theorem kept_preViolation (r : TrimRecord) (code block object : Nat) : Kept s (t.preViolation r code block object) ↔ Kept s t := by
  simp only [State.preViolation, kept_mk, kept_fold]

theorem kept_trimReg (r : TrimRecord) (f : Fld) (w : Nat) : Kept s (t.trimReg r f w) ↔ Kept s t := by
  simp only [State.trimReg, kept_enterReg]

theorem kept_trimRegs (r : TrimRecord) (l : List (Fld × Nat)) : Kept s (t.trimRegs r l) ↔ Kept s t := by
  simp only [State.trimRegs, kept_foldl, kept_self, implies_true, kept_trimReg]

theorem kept_trimStatic (r : TrimRecord) : Kept s (t.trimStatic r) ↔ Kept s t := by
  simp only [State.trimStatic, kept_ite, ite_self, kept_preViolation, kept_stageStatic, kept_stageDelete]

theorem kept_trimRule (r : TrimRecord) : Kept s (t.trimRule r) ↔ Kept s t := by
  simp only [State.trimRule, kept_ite, ite_self, kept_trimRegs, kept_preViolation, kept_enterRec]

theorem kept_trimSheet (r : TrimRecord) : Kept s (t.trimSheet r) ↔ Kept s t := by
  simp only [State.trimSheet, kept_ite, ite_self, kept_trimRegs, kept_preViolation, kept_enterRec]

theorem kept_trimHalyard (r : TrimRecord) : Kept s (t.trimHalyard r) ↔ Kept s t := by
  simp only [State.trimHalyard, kept_ite, ite_self, kept_trimRegs, kept_preViolation, kept_enterRec]

theorem kept_trimTimers (r : TrimRecord) : Kept s (t.trimTimers r) ↔ Kept s t := by
  simp only [State.trimTimers, kept_ite, ite_self, kept_trimReg, kept_preViolation]

theorem kept_trimRecord (r : TrimRecord) : Kept s (t.trimRecord r) ↔ Kept s t := by
  simp only [State.trimRecord, kept_ite, ite_self, kept_trimStatic, kept_trimRule, kept_trimSheet, kept_trimHalyard, kept_trimTimers]

/-! Operations of Machine/I2c.lean. -/

theorem kept_i2cStart (i : Nat) : Kept s (t.i2cStart i) ↔ Kept s t := by
  simp only [State.i2cStart, kept_emit]

theorem kept_i2cRun (m : Master) (i op dev reg count : Nat) : Kept s (t.i2cRun m i op dev reg count) ↔ Kept s t := by
  simp only [State.i2cRun, kept_ite, ite_self, kept_mk, kept_fold, kept_setFld, kept_i2cStart]

theorem kept_i2cResume : Kept s t.i2cResume ↔ Kept s t := by
  simp only [State.i2cResume, kept_mk, kept_fold, kept_foldl, kept_self, implies_true, kept_i2cStart]

/-! Operations of Machine/Start.lean. -/

theorem kept_retireActs (cls obj : Nat) : Kept s (t.retireActs cls obj) ↔ Kept s t := by
  simp only [State.retireActs, kept_ite, ite_self, kept_retiredGives, kept_post, kept_recovered, kept_tryDeviceApply, kept_retireBuilder, kept_retireChecker,
    kept_retireBank]
  repeat' split
  all_goals simp only [kept_post]

theorem kept_unretireActs (cls obj : Nat) : Kept s (t.unretireActs cls obj) ↔ Kept s t := by
  simp only [State.unretireActs, kept_ite, ite_self, kept_mk, kept_fold, kept_setFaultList, kept_tryStart, kept_showRetries, kept_moveCh, kept_acquire,
    kept_setFld, kept_unretireBuilder, kept_unretireChecker, kept_dueApply, kept_post, kept_countN, kept_tryDeviceApply]

theorem kept_jnlActs (r : JnlRec) : Kept s (t.jnlActs r) ↔ Kept s t := by
  simp only [State.jnlActs]
  repeat' (split <;> simp only [kept_showBusy, kept_retireActs, kept_unretireActs, kept_startUp, kept_kindReset])

theorem kept_jnlNext : Kept s t.jnlNext ↔ Kept s t := by
  simp only [State.jnlNext]
  repeat' split
  all_goals simp only [kept_mk, kept_fold, kept_jnlPut, kept_jnlActs]

theorem kept_replayRec (r : JnlRec) : Kept s (t.replayRec r) ↔ Kept s t := by
  simp only [State.replayRec, kept_ite, ite_self, kept_mk, kept_fold]

theorem kept_restoreMem (e : RetEnt) : Kept s (t.restoreMem e) ↔ Kept s t := by
  simp only [State.restoreMem, kept_ite, ite_self, kept_mk, kept_fold, kept_useSpare]

theorem kept_replay : Kept s t.replay ↔ Kept s t := by
  simp only [State.replay, kept_mk, kept_fold, kept_foldl, kept_self, implies_true, kept_replayRec, kept_restoreMem]

theorem kept_jnlFlush : Kept s t.jnlFlush ↔ Kept s t := by
  simp only [State.jnlFlush, kept_ite, ite_self, kept_foldl, kept_self, implies_true, kept_jnlNext]

theorem kept_bootSelect : Kept s t.bootSelect.1 ↔ Kept s t := by
  simp only [State.bootSelect]
  repeat' split
  all_goals simp only [kept_slotTo, kept_jnlFlush, kept_showBoot, kept_setFld]

theorem kept_endImage : Kept s t.endImage ↔ Kept s t := by
  simp only [State.endImage]
  repeat' (split <;> simp only [kept_ite, ite_self, kept_mk, kept_fold, kept_bootSelect, kept_setFld, kept_releaseDomains, kept_post, kept_resetDomains])

theorem kept_endStart : Kept s t.endStart ↔ Kept s t := by
  simp only [State.endStart, kept_post]
  repeat' (split <;> simp only [kept_ite, ite_self, kept_mk, kept_fold, kept_bindAll, kept_setFld, kept_mateStart, kept_post])

theorem kept_queueUnretire (cls obj : Nat) : Kept s (t.queueUnretire cls obj) ↔ Kept s t := by
  simp only [State.queueUnretire, kept_jnlPersist]

/-! Operations of Machine/Xgem.lean. -/

theorem kept_placeXgem (c portId keyIx len : Nat) (stomped : Bool) (rest : List Pkt) : Kept s (t.placeXgem c portId keyIx len stomped rest) ↔ Kept s t := by
  simp only [State.placeXgem, kept_ite, ite_self, kept_emit, kept_count, kept_setDs, kept_countN]

theorem kept_of_dsCipher {c n : Nat} {ws : List Nat} {e : Ecc} {u : State} (h : t.dsCipher c ws e = .ok (u, n)) : Kept s u ↔ Kept s t := by
  refine Kept.iff ?_ s
  unfold State.dsCipher at h
  split at h
  · cases h
    exact .refl t
  · extract_lets cls onu st ix at h
    split at h
    · cases h
    next v m hv =>
      have hv : Kept t v := (kept_of_cipher t t hv).mpr (.refl t)
      split at h
      next w bad hw =>
      have hw : Kept t w := ((kept_readStore t v _ _ _).mpr hv).of_eq_pair hw
      dsimp only at h
      split at h
      · cases h
      · cases h
        exact hw

theorem kept_of_dsCipher_error {c : Nat} {ws : List Nat} {e : Ecc} {u : State} (h : t.dsCipher c ws e = .error u) : Kept s u ↔ Kept s t := by
  refine Kept.iff ?_ s
  unfold State.dsCipher at h
  split at h
  · cases h
  · extract_lets cls onu st ix at h
    split at h
    next v hv =>
      cases h
      exact (kept_of_cipher_error t t hv).mpr (.refl t)
    next v m hv =>
      have hv : Kept t v := (kept_of_cipher t t hv).mpr (.refl t)
      split at h
      next w bad hw =>
      have hw : Kept t w := ((kept_readStore t v _ _ _).mpr hv).of_eq_pair hw
      dsimp only at h
      split at h
      · cases h
        exact (kept_count t w _ _).mpr hw
      · cases h

theorem kept_newPkt (src : Nat) (bytes : List Nat) (stamp : Stamp) : Kept s (t.newPkt src bytes stamp).1 ↔ Kept s t := by
  simp only [State.newPkt, kept_mk, kept_fold]

theorem kept_queueParse (p : Pkt) : Kept s (t.queueParse p) ↔ Kept s t := by
  simp only [State.queueParse, kept_mk, kept_fold]

/-! Operations of Machine/Host.lean. -/

theorem kept_signal (owner v : Nat) : Kept s (t.signal owner v) ↔ Kept s t := by
  simp only [State.signal, kept_ite, ite_self, kept_mk, kept_fold, kept_emit]

theorem kept_putEntry (e : EventRec) : Kept s (t.putEntry e) ↔ Kept s t := by
  simp only [State.putEntry, kept_ite, ite_self, kept_mk, kept_fold, kept_hostWrite, kept_setFld, kept_signal]

theorem kept_flushOverflow : Kept s t.flushOverflow ↔ Kept s t := by
  simp only [State.flushOverflow, kept_ite, ite_self, kept_mk, kept_fold, kept_jnlEvent, kept_count, kept_putEntry]

theorem kept_setQp (q : Nat) (x : QpSt) : Kept s (t.setQp q x) ↔ Kept s t := by
  simp only [State.setQp, kept_mk, kept_fold]

theorem kept_qpSignal (q : Nat) : Kept s (t.qpSignal q) ↔ Kept s t := by
  simp only [State.qpSignal, kept_signal]

theorem kept_qpError (q : Nat) (a : HostAccess) : Kept s (t.qpError q a) ↔ Kept s t := by
  simp only [State.qpError, kept_post, kept_setFld]

theorem kept_qpStop (q : Nat) : Kept s (t.qpStop q) ↔ Kept s t := by
  simp only [State.qpStop, kept_ite, ite_self, kept_setQp, kept_setFld]

theorem kept_returnRx (q i n : Nat) : Kept s (t.returnRx q i n) ↔ Kept s t := by
  induction n generalizing t i with
  | zero => rfl
  | succ n ih => simp only [State.returnRx, ih, kept_hostWrite]

theorem kept_qpStopped (q : Nat) : Kept s (t.qpStopped q) ↔ Kept s t := by
  simp only [State.qpStopped, kept_ite, ite_self, kept_returnRx, kept_setFld, kept_setQp]

theorem kept_txSend (q : Nat) (d : TxDesc) : Kept s (t.txSend q d) ↔ Kept s t := by
  simp only [State.txSend, kept_ite, ite_self, kept_newPkt, kept_queueParse, kept_toFabric, kept_tickFree, kept_tell]

theorem kept_setOutQ (c : Nat) (side : Bool) (l : List (Nat × Nat)) : Kept s (t.setOutQ c side l) ↔ Kept s t := by
  simp only [State.setOutQ, kept_mk, kept_fold]

theorem kept_emptyMbx (c : Nat) : Kept s (t.emptyMbx c) ↔ Kept s t := by
  simp only [State.emptyMbx, kept_mk, kept_fold, kept_setOutQ]

theorem kept_freeLocks (id : Nat) : Kept s (t.freeLocks id) ↔ Kept s t := by
  simp only [State.freeLocks, kept_mk, kept_fold]

theorem kept_setLock (l v : Nat) : Kept s (t.setLock l v) ↔ Kept s t := by
  simp only [State.setLock, kept_mk, kept_fold]

theorem kept_writeBody (addr n : Nat) (l : List (Nat × Nat × Nat)) : Kept s (t.writeBody addr n l) ↔ Kept s t := by
  induction l generalizing t n with
  | nil => cases n <;> rfl
  | cons x l ih =>
    obtain ⟨o, w, v⟩ := x
    cases n with
    | zero => rfl
    | succ n => simp only [State.writeBody, ih, kept_hostWrite]

/-! Operations of Machine/Pace.lean. -/

theorem kept_paceJudge (i : Nat) (bit : Fld) (slow : Bool) : Kept s (t.paceJudge i bit slow) ↔ Kept s t := by
  simp only [State.paceJudge, kept_ite, ite_self, kept_mk, kept_fold, kept_post, kept_setFld]

theorem kept_paceRead (fab prs lead : Nat) : Kept s (t.paceRead fab prs lead) ↔ Kept s t := by
  simp only [State.paceRead, kept_setFld]

/-! Operations of Machine/PonUp.lean. -/

theorem kept_enterLobi (c n : Nat) : Kept s (t.enterLobi c n) ↔ Kept s t := by
  simp only [State.enterLobi, kept_ite, ite_self, kept_setOnu, kept_post]

theorem kept_leaveLobi (c n : Nat) : Kept s (t.leaveLobi c n) ↔ Kept s t := by
  simp only [State.leaveLobi, kept_ite, ite_self, kept_setOnu, kept_post]

theorem kept_leaveLos (c : Nat) (rxLos : Bool) : Kept s (t.leaveLos c rxLos) ↔ Kept s t := by
  simp only [State.leaveLos, kept_ite, ite_self, kept_foldl, kept_self, implies_true, kept_post, kept_setFld]

theorem kept_statePoison (c n : Nat) : Kept s (t.statePoison c n) ↔ Kept s t := by
  simp only [State.statePoison, kept_post, kept_momentFault, kept_setFld]

theorem kept_loadPreset (c n : Nat) (e : Ecc) : Kept s (t.loadPreset c n e) ↔ Kept s t := by
  simp only [State.loadPreset, kept_ite, ite_self, kept_readRec, kept_statePoison, kept_setOnu, kept_cleanRec]

theorem kept_takePreset (c n : Nat) (b : Burst) : Kept s (t.takePreset c n b) ↔ Kept s t := by
  simp only [State.takePreset, kept_ite, ite_self, kept_setOnu, kept_count]

theorem kept_takePloam (c n : Nat) (p : PloamUp) : Kept s (t.takePloam c n p) ↔ Kept s t := by
  simp only [State.takePloam, kept_ite, kept_count]
  repeat' split
  all_goals simp only [kept_count, kept_tell]

theorem kept_takeDbru (c a : Nat) (d : Option (Nat × Bool)) : Kept s (t.takeDbru c a d) ↔ Kept s t := by
  simp only [State.takeDbru]
  repeat' (split <;> simp only [kept_mk, kept_fold, kept_count])

theorem kept_setOpen (c a : Nat) (p : Option OpenPkt) : Kept s (t.setOpen c a p) ↔ Kept s t := by
  simp only [State.setOpen, kept_setUs]

theorem kept_abortOpen (c a : Nat) : Kept s (t.abortOpen c a) ↔ Kept s t := by
  simp only [State.abortOpen, kept_ite, ite_self, kept_count, kept_setOpen]

theorem kept_endPacket (c : Nat) (p : UsPkt) (bad : Bool) : Kept s (t.endPacket c p bad) ↔ Kept s t := by
  simp only [State.endPacket, kept_ite, ite_self, kept_count, kept_setUs]

theorem kept_takeFrame (c n a : Nat) (first : Bool) (x : XFrame) : Kept s (t.takeFrame c n a first x) ↔ Kept s t := by
  simp only [State.takeFrame, kept_ite, ite_self, kept_abortOpen, kept_endPacket, kept_setOpen]
  repeat' split
  all_goals simp only [kept_abortOpen, kept_endPacket, kept_setOpen]

theorem kept_takeFrames (c n a : Nat) (first : Bool) (l : List XFrame) : Kept s (t.takeFrames c n a first l) ↔ Kept s t := by
  induction l generalizing t first with
  | nil => cases first <;> simp only [State.takeFrames, if_true, Bool.false_eq_true, if_false, kept_abortOpen]
  | cons x l ih => simp only [State.takeFrames, kept_ite, ih, kept_takeFrame, kept_count, kept_abortOpen, ite_self]

theorem kept_idleMonitor (c a : Nat) (l : List XFrame) : Kept s (t.idleMonitor c a l) ↔ Kept s t := by
  simp only [State.idleMonitor, kept_ite, ite_self, kept_setAllocDyn]

theorem kept_takeAlloc (c n : Nat) (good : Bool) (x : BurstAlloc) : Kept s (t.takeAlloc c n good x) ↔ Kept s t := by
  simp only [State.takeAlloc, kept_ite, kept_takeFrames, kept_takeDbru]
  repeat' split
  all_goals simp only [kept_takeFrames, kept_takeDbru, kept_idleMonitor, kept_setOpen]

theorem kept_missedBurst (c n : Nat) (active : Bool) : Kept s (t.missedBurst c n active) ↔ Kept s t := by
  simp only [State.missedBurst, kept_ite, ite_self, kept_count, kept_setOnu, kept_enterLobi]

theorem kept_activeBurst (c n : Nat) (b : Burst) (good : Bool) : Kept s (t.activeBurst c n b good) ↔ Kept s t := by
  simp only [State.activeBurst, kept_foldl, kept_self, implies_true, kept_takeAlloc]
  repeat' (split <;> simp only [kept_ite, ite_self, kept_setOnu, kept_driftBurst, kept_takePloam])

theorem kept_heardBurst (c n : Nat) (b : Burst) (active : Bool) : Kept s (t.heardBurst c n b active) ↔ Kept s t := by
  simp only [State.heardBurst, kept_ite, ite_self, kept_setUs, kept_leaveLos, kept_leaveLobi, kept_countN, kept_count, kept_activeBurst, kept_takePreset]

theorem kept_usAdmit (c : Nat) (p : UsPkt) (flow : Nat) : Kept s (t.usAdmit c p flow) ↔ Kept s t := by
  refine Kept.iff ?_ s
  unfold State.usAdmit
  extract_lets go
  have hgo (u : State) : Kept t (go u) ↔ Kept t u := by simp only [go, kept_queueParse, kept_newPkt]
  split
  · exact (hgo t).mpr (.refl t)
  · split
    next u hu => exact (kept_of_cipher_error t t hu).mpr (.refl t)
    next u _ hu => exact (hgo u).mpr ((kept_of_cipher t t hu).mpr (.refl t))

theorem kept_pmJudge (c n : Nat) (o : OnuCtx) : Kept s (t.pmJudge c n o) ↔ Kept s t := by
  simp only [State.pmJudge, kept_ite, ite_self, kept_post, kept_setOnu]

theorem kept_pmCommit (n : Nat) : Kept s (t.pmCommit n) ↔ Kept s t := by
  simp only [State.pmCommit]
  repeat' (split <;> simp only [kept_ite, ite_self, kept_setOnu, kept_count])

theorem kept_uflAnswer (c result : Nat) (ws : List Nat) : Kept s (t.uflAnswer c result ws) ↔ Kept s t := by
  simp only [State.uflAnswer, kept_setFld]

theorem kept_uflRead (c ix : Nat) (e : Ecc) : Kept s (t.uflRead c ix e) ↔ Kept s t := by
  simp only [State.uflRead, kept_ite, ite_self, kept_readRec, kept_uflAnswer, kept_post, kept_setFld, kept_cleanRec, kept_setRecord]

theorem kept_uonuAnswer (c n result : Nat) (ws : List Nat) (lobi : Bool) : Kept s (t.uonuAnswer c n result ws lobi) ↔ Kept s t := by
  simp only [State.uonuAnswer, kept_setFld]

/-! Operations of Machine/Ratline.lean. -/

theorem kept_ratEnd (via : Option Master) (c op ctx r : Nat) : Kept s (t.ratEnd via c op ctx r) ↔ Kept s t := by
  simp only [State.ratEnd]
  repeat' (split <;> simp only [kept_setFld, kept_tell])

theorem kept_showPool : Kept s t.showPool ↔ Kept s t := by
  simp only [State.showPool, kept_setFld]

theorem kept_discEnd (c comp : Nat) : Kept s (t.discEnd c comp) ↔ Kept s t := by
  simp only [State.discEnd, kept_showPool, kept_setDisc, kept_setFld, kept_post, kept_count]

/-! Operations of Machine/Reg.lean. -/

theorem kept_storeWord (m : Master) (a : Nat) (r : RegRow) (w : Word) : Kept s (t.storeWord m a r w) ↔ Kept s t := by
  simp only [State.storeWord, kept_ite, ite_self, kept_mk, kept_fold, kept_setReg]

theorem kept_stageWord (a : Nat) (r : RegRow) (w : Word) : Kept s (t.stageWord a r w) ↔ Kept s t := by
  simp only [State.stageWord, kept_ite, ite_self, kept_self, implies_true, kept_stagingWrite, kept_enterReg]

theorem kept_done : Kept s t.done ↔ Kept s t := by
  simp only [State.done, kept_mk, kept_fold]

theorem kept_readReg (m : Master) (a : Nat) : Kept s (t.readReg m a).1 ↔ Kept s t := by
  simp only [State.readReg]
  repeat' (split <;> simp only [kept_ite, ite_self, kept_mk, kept_fold, kept_tickFree, kept_latch])

theorem kept_clearRc (a : Nat) : Kept s (t.clearRc a) ↔ Kept s t := by
  simp only [State.clearRc, kept_ite, ite_self, kept_setFld, kept_setPool]

end Sys2Proof.Machine
end

section
/-! Every command but the three that may fault and FUSE_OWNER leads to a next state with the queue, the grade and the fused owner hash as they were. One lemma
for each command. -/

namespace Sys2Proof.Machine

/-- The outcome is a next state that keeps the queue, the grade and the fused owner hash of s. -/
def Steps (s : State) : Host.Outcome State Fault Refusal → Prop
  | .next t => Kept s t
  | .fault _ => False
  | .refused _ => False

theorem steps_next (s t : State) : Steps s (.next t) ↔ Kept s t := Iff.rfl

theorem steps_ite (s : State) (c : Prop) [Decidable c] (x y : Host.Outcome State Fault Refusal) :
    Steps s (if c then x else y) ↔ if c then Steps s x else Steps s y := by
  split <;> rfl

theorem kept_stagingWrite_id (s t : State) : Kept s (t.stagingWrite id) ↔ Kept s t :=
  kept_stagingWrite s t .refl

variable (s : State)

/-! The commands that share one guard. -/

theorem steps_shrRun (m : Master) {f : State → State} (hf : ∀ u, Kept u (f u)) : Steps s (s.shrRun m f) := by
  unfold State.shrRun
  split
  · exact (show Kept s _ from ⟨rfl, rfl, rfl⟩).trans (hf _)
  · exact .refl s

theorem steps_alcRun (m : Master) {f : Nat → State} (hf : ∀ n, Kept s (f n)) : Steps s (s.alcRun m f) := by
  simp only [State.alcRun, steps_ite, steps_next, hf, kept_self, ite_self]

theorem steps_uonuRun (m : Master) (c : Chan) {f : Nat → State} (hf : ∀ n, Kept s (f n)) : Steps s (s.uonuRun m c f) := by
  simp only [State.uonuRun, steps_ite, steps_next, hf, kept_setFld, kept_self, ite_self]

theorem steps_mateRun (m : Master) {f : State → State × Nat} (hf : Kept s (f s).1) : Steps s (s.mateRun m f) := by
  simp only [State.mateRun, steps_ite, steps_next, hf, kept_setFld, kept_self, ite_self]

theorem steps_ratRun (via : Option Master) (c : Chan) (op : Nat) (args : RatArgs) {f : Nat → RatArgs → State × Nat} (hf : ∀ n a, Kept s (f n a).1) :
    Steps s (s.ratRun via c op args f) := by
  simp only [State.ratRun, steps_ite, steps_next, hf, kept_ratEnd, kept_count, kept_self, ite_self]

theorem steps_mateRx (h : MsgHdr) {f : State → State} (hf : ∀ u, Kept u (f u)) : Steps s (s.mateRx h f) := by
  have hiff (r u : State) : Kept r (f u) ↔ Kept r u := (hf u).iff r
  simp only [State.mateRx, steps_ite, steps_next, hiff, kept_ite, kept_count, kept_setFld, kept_resync, kept_mk, kept_self, and_self, ite_self]

theorem steps_mirrorRx (h : MsgHdr) (typ : Nat) {f : State → State} (hf : ∀ u, Kept u (f u)) : Steps s (s.mirrorRx h typ f) := by
  have hiff (r u : State) : Kept r (f u) ↔ Kept r u := (hf u).iff r
  refine steps_mateRx s h (fun u => ?_)
  simp only [hiff, kept_ite, kept_count, kept_self, ite_self]

/-! Commands of Machine/Fwd.lean. -/

theorem steps_execLearnProcess (reads : List SlotRead) : Steps s (execLearnProcess s reads) := by
  simp only [execLearnProcess]
  repeat' (split <;> simp only [steps_ite, ite_self, steps_next, kept_self, kept_mk, and_self, kept_showFwd, kept_learn])

theorem steps_execAgerVisit (loc : BitVec 21) (ecc : Ecc) (shadowOk : Bool) : Steps s (execAgerVisit s loc ecc shadowOk) := by
  simp only [execAgerVisit]
  repeat' split
  all_goals simp only [steps_next, kept_self, kept_readSlot, kept_setSlot, kept_count, kept_dropDyn, kept_noteOvf, kept_moveEnt]

theorem steps_execReadSlot (m : Master) (ecc : Ecc) (shadowOk : Bool) : Steps s (execReadSlot s m ecc shadowOk) := by
  simp only [execReadSlot, steps_ite, steps_next, kept_self, kept_readSlot, kept_fwdResult, kept_fwdData]
  repeat' split
  all_goals simp only [steps_next, kept_self, kept_readSlot, kept_fwdResult, kept_fwdData]

theorem steps_execLookup (m : Master) (reads : List SlotRead) : Steps s (execLookup s m reads) := by
  simp only [execLookup, steps_ite, ite_self, steps_next, kept_self, kept_lookup, kept_fwdResult, kept_fwdData, kept_lookupAnswer]

theorem steps_execLookupStaged (m : Master) : Steps s (execLookupStaged s m) := by
  simp only [execLookupStaged, steps_ite, steps_next, kept_self, kept_fwdResult]
  repeat' split
  all_goals simp only [steps_next, kept_self, kept_lookupAnswer]

theorem steps_execInsertStatic (m : Master) : Steps s (execInsertStatic s m) := by
  simp only [execInsertStatic, steps_ite, steps_next, kept_fwdResult, kept_stageStatic, kept_stagingWrite_id, kept_self, ite_self]

theorem steps_execDeleteStatic (m : Master) : Steps s (execDeleteStatic s m) := by
  simp only [execDeleteStatic, steps_ite, steps_next, kept_fwdResult, kept_stageDelete, kept_stagingWrite_id, kept_self, ite_self]

theorem steps_execDeleteDynamic (m : Master) : Steps s (execDeleteDynamic s m) := by
  simp only [execDeleteDynamic, steps_ite, steps_next, kept_self, kept_fwdResult]
  repeat' split
  all_goals simp only [steps_next, kept_self, kept_fwdResult, kept_dropDyn]

theorem steps_execUnpin (m : Master) : Steps s (execUnpin s m) := by
  simp only [execUnpin, steps_ite, steps_next, kept_self, kept_fwdResult]
  repeat' split
  all_goals simp only [steps_next, kept_self, kept_fwdResult, kept_noteLearn, kept_setSlot]

theorem steps_execFlush (m : Master) (scope : BitVec 2) : Steps s (execFlush s m scope) := by
  simp only [execFlush, steps_ite, ite_self, steps_next, kept_self, kept_setFld, kept_fwdResult, kept_flushDyn]

/-! Commands of Machine/Parser.lean. -/

theorem steps_execPacketParse (src : PortIx) (bad : Option PrsBad) (reads : List SlotRead) : Steps s (execPacketParse s src bad reads) := by
  simp only [execPacketParse]
  repeat' split
  all_goals simp only [steps_next, kept_self, kept_mk, and_self, kept_count, kept_toHost, kept_prsPoison, kept_pipeline, kept_decide_]

theorem steps_execRuleReadApplied (m : Master) (ecc : Ecc) (copyBad : Bool) : Steps s (execRuleReadApplied s m ecc copyBad) := by
  simp only [execRuleReadApplied, steps_ite, ite_self, steps_next, kept_self, kept_prsPoison, kept_setFld, kept_ruleData]

theorem steps_execRuleReadStaged (m : Master) : Steps s (execRuleReadStaged s m) := by
  simp only [execRuleReadStaged, steps_ite, ite_self, steps_next, kept_self, kept_setFld, kept_ruleData]

theorem steps_execRuleWriteStaged (m : Master) : Steps s (execRuleWriteStaged s m) := by
  simp only [execRuleWriteStaged, steps_ite, ite_self, steps_next, kept_self, kept_setFld, kept_stageRec]

theorem steps_execRuleZeroData (m : Master) : Steps s (execRuleZeroData s m) := by
  simp only [execRuleZeroData, steps_ite, ite_self, steps_next, kept_self, kept_setFld, kept_ruleData]

theorem steps_execLagReadApplied (m : Master) (ecc : Ecc) (copyBad : Bool) : Steps s (execLagReadApplied s m ecc copyBad) := by
  simp only [execLagReadApplied, steps_ite, ite_self, steps_next, kept_self, kept_prsPoison, kept_setFld]

theorem steps_execLagReadStaged (m : Master) : Steps s (execLagReadStaged s m) := by
  simp only [execLagReadStaged, steps_ite, ite_self, steps_next, kept_self, kept_setFld]

theorem steps_execLagWriteStaged (m : Master) : Steps s (execLagWriteStaged s m) := by
  simp only [execLagWriteStaged, steps_ite, ite_self, steps_next, kept_self, kept_setFld, kept_stageRec]

/-! Commands of Machine/Shroud.lean. -/

theorem steps_execRootLoad (m : Master) (data : Word) : Steps s (execRootLoad s m data) := by
  simp only [execRootLoad, steps_ite, ite_self, steps_next, kept_self, kept_mk, kept_fold, kept_setFld, kept_post]

theorem steps_execMskLoad (m : Master) : Steps s (execMskLoad s m) := by
  simp only [execMskLoad, ite_self, kept_self, kept_ite, steps_shrRun, implies_true, kept_shrEnd, kept_keyChanged, kept_setKeys]

theorem steps_execKeyLoad (m : Master) (ecc : Ecc) : Steps s (execKeyLoad s m ecc) := by
  refine steps_shrRun s m (fun u => ?_)
  simp only [kept_ite, kept_shrEnd]
  repeat' split
  all_goals simp only [kept_keyChanged, kept_setKeys, kept_shrEnd, kept_readStore, kept_self]

theorem steps_execKeyClear (m : Master) : Steps s (execKeyClear s m) := by
  simp only [execKeyClear, ite_self, kept_self, kept_ite, steps_shrRun, implies_true, kept_shrEnd, kept_keyChanged, kept_setKeys]

theorem steps_execGroupGen (m : Master) : Steps s (execGroupGen s m) := by
  simp only [execGroupGen, ite_self, kept_self, kept_ite, steps_shrRun, implies_true, kept_shrEnd, kept_keyChanged, kept_setGrp]

theorem steps_execGroupExport (m : Master) (ecc : Ecc) : Steps s (execGroupExport s m ecc) := by
  refine steps_shrRun s m (fun u => ?_)
  simp only [kept_ite, kept_shrEnd]
  repeat' split
  all_goals simp only [kept_shrPut, kept_shrEnd, kept_readStore, kept_self]

theorem steps_execGroupActivate (m : Master) : Steps s (execGroupActivate s m) := by
  simp only [execGroupActivate, ite_self, kept_self, kept_ite, steps_shrRun, implies_true, kept_shrEnd, kept_mirrorKeys, kept_setGrp]

theorem steps_execGroupKeySwitch (c : Chan) : Steps s (execGroupKeySwitch s c) := by
  simp only [execGroupKeySwitch]
  repeat' (split <;> simp only [steps_next, kept_self, kept_setGrp])

theorem steps_execCaKekLoad (m : Master) : Steps s (execCaKekLoad s m) := by
  simp only [execCaKekLoad, ite_self, kept_self, kept_ite, kept_mk, and_self, steps_shrRun, implies_true, kept_shrEnd, kept_dropKey]

theorem steps_execSaInstall (m : Master) : Steps s (execSaInstall s m) := by
  simp only [execSaInstall, ite_self, kept_self, kept_ite, kept_mk, kept_fold, steps_shrRun, implies_true, kept_shrEnd, kept_setSa, kept_showTx, kept_dropKey]

theorem steps_execSaExport (m : Master) (ecc : Ecc) : Steps s (execSaExport s m ecc) := by
  refine steps_shrRun s m (fun u => ?_)
  simp only [kept_ite, kept_shrEnd]
  repeat' split
  all_goals simp only [kept_shrPut, kept_shrEnd, kept_readStore, kept_self]

theorem steps_execSaDelete (m : Master) : Steps s (execSaDelete s m) := by
  simp only [execSaDelete, ite_self, kept_self, kept_ite, steps_shrRun, implies_true, kept_shrEnd, kept_dropKey, kept_setSa]

theorem steps_execSetTxAn (m : Master) : Steps s (execSetTxAn s m) := by
  simp only [execSetTxAn, ite_self, kept_self, kept_ite, steps_shrRun, implies_true, kept_shrEnd, kept_showTx, kept_setFld]

theorem steps_execSaveClear (m : Master) (ecc : Ecc) : Steps s (execSaveClear s m ecc) := by
  refine steps_shrRun s m (fun u => ?_)
  simp only [kept_ite, kept_shrEnd]
  repeat' split
  all_goals simp only [kept_shrPut, kept_shrEnd, kept_readStore, kept_self]

theorem steps_execSaveWrapped (m : Master) (ecc : Ecc) : Steps s (execSaveWrapped s m ecc) := by
  refine steps_shrRun s m (fun u => ?_)
  simp only [kept_ite, kept_shrEnd]
  repeat' split
  all_goals simp only [kept_post, kept_setFld, kept_nonceRec, kept_shrPut, kept_wrapBlob, kept_shrEnd, kept_readStore, kept_self]

theorem steps_execRestore (m : Master) : Steps s (execRestore s m) := by
  simp only [execRestore, kept_self, steps_shrRun, implies_true, kept_restoreBlob, kept_shrEnd]

theorem steps_execPnRead (m : Master) (ecc : Ecc) : Steps s (execPnRead s m ecc) := by
  refine steps_shrRun s m (fun u => ?_)
  simp only [kept_ite, kept_shrEnd]
  repeat' split
  all_goals simp only [kept_nonceRec, kept_shrEnd, kept_readStore, kept_self]

/-! Commands of Machine/SheetOps.lean. -/

theorem steps_execUplinkFrameSent (p : BitVec 7) (stamp : Stamp) : Steps s (execUplinkFrameSent s p stamp) := by
  simp only [execUplinkFrameSent]
  repeat' split
  all_goals simp only [steps_next, kept_self, kept_mk, and_self, kept_emit, kept_pushTsq]

/-! Commands of Machine/Fabric.lean. -/

theorem steps_execBufferAlloc (agent : Byte) (family : BitVec 2) (size : BitVec 18) (flow : FlowIx) (mayWait ptrBad : Bool) : Steps s (execBufferAlloc s agent
    family size flow mayWait ptrBad) := by
  simp only [execBufferAlloc, steps_next, kept_self, kept_alloc]

theorem steps_execBufferFree (agent : Byte) (pool : BitVec 3) (ptr : BitVec 36) (bitBad : Bool) : Steps s (execBufferFree s agent pool ptr bitBad) := by
  simp only [execBufferFree, steps_ite, ite_self, steps_next, kept_self, kept_freeBuf]

theorem steps_execFabricIngress (src : PortIx) : Steps s (execFabricIngress s src) := by
  simp only [execFabricIngress]
  repeat' (split <;> simp only [steps_ite, ite_self, steps_next, kept_self, kept_mk, and_self, kept_lagSelect, kept_dropped, kept_count, kept_noteLow,
    kept_setVoq])

theorem steps_execCellSlot (retry : List (BitVec 6)) (lost : List (BitVec 6)) : Steps s (execCellSlot s retry lost) := by
  simp only [execCellSlot, ite_self, steps_next, kept_self, kept_ite, kept_mk, and_self, kept_foldl, implies_true, kept_xbarRetry, kept_crossCell]

theorem steps_execEgressEnqueue (d : PortIx) (late : Bool) : Steps s (execEgressEnqueue s d late) := by
  simp only [execEgressEnqueue]
  repeat' (split <;> simp only [steps_next, kept_self, kept_mk, and_self, kept_noteLow, kept_settle])

theorem steps_execSpillBurstWrite (f : FlowIx) : Steps s (execSpillBurstWrite s f) := by
  unfold execSpillBurstWrite
  extract_lets n x u y
  have hu : Kept s u := by
    have ha := (kept_alloc s s 2 (segSize (x.e - x.d)) n (spillAgent n) true false).mpr (.refl s)
    simp only [u, kept_ite]
    split
    · split
      next v k ptr hv => exact (kept_linkSeg s v _ _ _).mpr (ha.of_eq_pair hv)
      next v hv => exact ha.of_eq_pair hv
    · exact .refl s
  simp only [steps_ite, steps_next, kept_setQ, kept_self, hu, ite_self]

theorem steps_execRefill (f : FlowIx) (tagBad poison : Bool) : Steps s (execRefill s f tagBad poison) := by
  unfold execRefill
  extract_lets n x whole need
  clear_value x whole
  split
  · exact (kept_joinStaging s s n).mpr (.refl s)
  next g rest _ =>
    extract_lets k g'
    split
    · exact .refl s
    · split
      · exact (kept_dropDram s s n).mpr (.refl s)
      · have hg {u : State} {b : Bool} (h : s.grab (x.classAt x.d) need = (u, b)) : Kept s u := ((kept_grab s s _ _).mpr (.refl s)).of_eq_pair h
        split
        next u hu => exact hg hu
        next u hu => simpa only [steps_ite, steps_next, kept_joinStaging, kept_freeBuf, kept_setQ, ite_self] using hg hu

theorem steps_execPortLinkLoss (p : PortIx) : Steps s (execPortLinkLoss s p) := by
  simp only [execPortLinkLoss, steps_ite, ite_self, steps_next, kept_self, kept_ite, kept_lagLoss, kept_setLink, kept_post, kept_setPort]

theorem steps_execPortLinkUp (p : PortIx) : Steps s (execPortLinkUp s p) := by
  simp only [execPortLinkUp, steps_ite, ite_self, steps_next, kept_self, kept_ite, kept_lagBack, kept_setLink, kept_post, kept_setPort]

theorem steps_execLagReturn (l : BitVec 6) (p : BitVec 7) : Steps s (execLagReturn s l p) := by
  simp only [execLagReturn, steps_ite, ite_self, steps_next, kept_self, kept_mk, and_self, kept_post]

theorem steps_execPortHoldTimeout (p : PortIx) : Steps s (execPortHoldTimeout s p) := by
  simp only [execPortHoldTimeout, steps_ite, ite_self, steps_next, kept_self, kept_flushPort, kept_setPort, kept_fwdPortDown, kept_post, kept_countN]

/-! Commands of Machine/Halyard.lean. -/

theorem steps_execMapBuildStart (c : Chan) (bad : Option AllocIx) : Steps s (execMapBuildStart s c bad) := by
  simp only [execMapBuildStart, steps_ite, ite_self, steps_next, kept_self, kept_mk, kept_fold, kept_foldl, implies_true, kept_actSwaps, kept_readCtx,
    kept_allocPoison, kept_readRec, kept_setHal, kept_planAll, kept_countN, kept_showTells]

theorem steps_execMapVerdict (c : Chan) (wrong : Option (List (BitVec 64))) (d : Delivered) : Steps s (execMapVerdict s c wrong d) := by
  simp only [execMapVerdict]
  repeat' split
  all_goals simp only [steps_next, kept_self, kept_setHal, kept_setFld, kept_rejectMap, kept_builderFaults, kept_checkerFault, kept_acceptMap]

theorem steps_execMapLateDeadline (c : Chan) : Steps s (execMapLateDeadline s c) := by
  simp only [execMapLateDeadline]
  repeat' (split <;> simp only [steps_next, kept_self, kept_rejectMap, kept_setHal])

theorem steps_execStatusReportTaken : Steps s (execStatusReportTaken s) := by
  simp only [execStatusReportTaken]
  repeat' (split <;> simp only [steps_next, kept_self, kept_mk, and_self, kept_setAllocDyn])

theorem steps_execTelltaleFrame : Steps s (execTelltaleFrame s) := by
  simp only [execTelltaleFrame]
  repeat' (split <;> simp only [steps_ite, ite_self, steps_next, kept_self, kept_mk, and_self, kept_foldl, implies_true, kept_count, kept_takeTell])

theorem steps_execAlcReadApplied (m : Master) (ecc : Ecc) : Steps s (execAlcReadApplied s m ecc) := by
  simp only [execAlcReadApplied, ite_self, kept_self, kept_ite, steps_alcRun, implies_true, kept_readRec, kept_setFld, kept_alcAnswer, kept_allocPoison]

theorem steps_execAlcReadStaged (m : Master) : Steps s (execAlcReadStaged s m) := by
  simp only [execAlcReadStaged, kept_self, steps_alcRun, implies_true, kept_alcAnswer]

theorem steps_execAlcWriteStaged (m : Master) : Steps s (execAlcWriteStaged s m) := by
  simp only [execAlcWriteStaged, kept_self, steps_alcRun, implies_true, kept_setFld, kept_stageRec]

theorem steps_execAlcClearDynamic (m : Master) : Steps s (execAlcClearDynamic s m) := by
  simp only [execAlcClearDynamic, kept_self, steps_alcRun, implies_true, kept_setFld, kept_setAllocDyn]

/-! Commands of Machine/PonDown.lean. -/

theorem steps_execChannelCtrlWrite (m : Master) (c : Chan) (enable txOff : Bool) : Steps s (execChannelCtrlWrite s m c enable txOff) := by
  simp only [execChannelCtrlWrite, steps_ite, ite_self, steps_next, kept_self, kept_setFld, kept_tryStart, kept_heedOff]

theorem steps_execPloamFlush (m : Master) (c : Chan) : Steps s (execPloamFlush s m c) := by
  simp only [execPloamFlush, steps_ite, ite_self, steps_next, kept_self, kept_flushPloam]

theorem steps_execChStartRunning (c : Chan) : Steps s (execChStartRunning s c) := by
  simp only [execChStartRunning, steps_ite, ite_self, steps_next, kept_self, kept_setFld, kept_moveCh, kept_setDs, kept_recovered, kept_commitCtx, kept_setHal,
    kept_startFrame]

theorem steps_execChReadyTimeout (c : Chan) : Steps s (execChReadyTimeout s c) := by
  simp only [execChReadyTimeout, steps_ite, ite_self, steps_next, kept_self, kept_faultPort]

theorem steps_execModuleTxFault (c : Chan) : Steps s (execModuleTxFault s c) := by
  simp only [execModuleTxFault, steps_ite, ite_self, steps_next, kept_self, kept_setFld, kept_heedOff, kept_faultPort, kept_post]

theorem steps_execModuleAbsent (c : Chan) : Steps s (execModuleAbsent s c) := by
  simp only [execModuleAbsent, steps_ite, ite_self, steps_next, kept_self, kept_setFld, kept_heedOff, kept_faultPort, kept_post]

theorem steps_execQuadRefUnlock (q : Quad) : Steps s (execQuadRefUnlock s q) := by
  simp only [execQuadRefUnlock, steps_next, kept_self, kept_refUnlock]

theorem steps_execChFaultRetry (c : Chan) : Steps s (execChFaultRetry s c) := by
  simp only [execChFaultRetry, steps_ite, ite_self, steps_next, kept_self, kept_ite, kept_standBy, kept_moveCh, kept_setDs]

theorem steps_execChFrameEndOff (c : Chan) : Steps s (execChFrameEndOff s c) := by
  simp only [execChFrameEndOff, steps_ite, ite_self, steps_next, kept_self, kept_countN, kept_tryStart, kept_offCh]

theorem steps_execPonFrameStart (c : Chan) : Steps s (execPonFrameStart s c) := by
  simp only [execPonFrameStart, steps_ite, steps_next, kept_self, kept_usFrameEnd, kept_boundary]
  repeat' split
  all_goals simp only [steps_next, kept_self, kept_usFrameEnd, kept_boundary, kept_setHal, kept_startFrame, kept_holdFrame]

theorem steps_execPloamOffer (c : Chan) (q : PloamQ) (msg : Ploam) (poison : Bool) : Steps s (execPloamOffer s c q msg poison) := by
  simp only [execPloamOffer, steps_ite, steps_next, kept_self, kept_returnPloam, kept_count]
  repeat' split
  all_goals simp only [steps_next, kept_self, kept_post, kept_setFld, kept_returnPloam, kept_showPloam, kept_setDs]

theorem steps_execFlwReadApplied (m : Master) (c : Chan) (ecc : Ecc) : Steps s (execFlwReadApplied s m c ecc) := by
  simp only [execFlwReadApplied, steps_ite, ite_self, steps_next, kept_self, kept_flwRead]

theorem steps_execFlwReadStaged (m : Master) (c : Chan) : Steps s (execFlwReadStaged s m c) := by
  simp only [execFlwReadStaged, steps_ite, steps_next, kept_self]
  repeat' split
  all_goals simp only [steps_next, kept_self, kept_flwAnswer, kept_setFld, kept_flwRead]

theorem steps_execFlwWriteStaged (m : Master) (c : Chan) : Steps s (execFlwWriteStaged s m c) := by
  simp only [execFlwWriteStaged, steps_ite, ite_self, steps_next, kept_self, kept_setFld, kept_stageRec]

/-! Commands of Machine/Lane.lean. -/

theorem steps_execLaneReefRequest (m : Master) (i : LaneIx) (reef : BitVec 2) : Steps s (execLaneReefRequest s m i reef) := by
  simp only [execLaneReefRequest, steps_ite, ite_self, steps_next, kept_self, kept_setFld, kept_setLane, kept_reefBegin]

theorem steps_execLaneReefEntered (i : LaneIx) : Steps s (execLaneReefEntered s i) := by
  simp only [execLaneReefEntered]
  repeat' split
  all_goals simp only [steps_next, kept_self, kept_setLane, kept_setFld, kept_showPresent, kept_slLeave, kept_reefBegin]

theorem steps_execLaneRestart (m : Master) (i : LaneIx) : Steps s (execLaneRestart s m i) := by
  simp only [execLaneRestart, steps_ite, ite_self, steps_next, kept_self, kept_loseLock, kept_acquire]

theorem steps_execLaneLockAcquired (i : LaneIx) : Steps s (execLaneLockAcquired s i) := by
  simp only [execLaneLockAcquired, steps_ite, ite_self, steps_next, kept_self, kept_ite, kept_setFld, kept_recovered, kept_post, kept_setLane, kept_showPresent]

theorem steps_execAdaptWindow (i : LaneIx) (trans : BitVec 12) (fom : BitVec 8) (c0 c1 : Word) : Steps s (execAdaptWindow s i trans fom c0 c1) := by
  simp only [execAdaptWindow, steps_ite, ite_self, steps_next, kept_self, kept_ite, kept_setFld, kept_count, kept_setLane, kept_post]

theorem steps_execLaneLockLoss (i : LaneIx) (signal : Bool) : Steps s (execLaneLockLoss s i signal) := by
  simp only [execLaneLockLoss, steps_ite, ite_self, steps_next, kept_self, kept_foldl, implies_true, kept_faultPort, kept_lockLost, kept_loseLock, kept_setFld,
    kept_laneFault]

theorem steps_execFomFailTimer (i : LaneIx) : Steps s (execFomFailTimer s i) := by
  simp only [execFomFailTimer, steps_ite, ite_self, steps_next, kept_self, kept_laneFault, kept_loseLock]

theorem steps_execSlEnable (m : Master) (enable : Bool) : Steps s (execSlEnable s m enable) := by
  simp only [execSlEnable, steps_ite, ite_self, steps_next, kept_self, kept_ite, kept_mk, kept_fold, kept_foldl, implies_true, kept_setFld, kept_acquire,
    kept_judgeLink]

theorem steps_execSlSyncBlock (k : BitVec 3) (w : BitVec 64) (stuff : BitVec 8) (empty : BitVec 8) (skew : BitVec 13) : Steps s (execSlSyncBlock s k w stuff
    empty skew) := by
  simp only [execSlSyncBlock, steps_ite, ite_self, steps_next, kept_self, kept_ite, kept_count, kept_setFld, kept_countN, kept_judgeLink, kept_setSl]

/-! Commands of Machine/Time.lean. -/

theorem steps_execTimeBaseTick : Steps s (execTimeBaseTick s) := by
  simp only [execTimeBaseTick, steps_ite, ite_self, steps_next, kept_mk, and_self]

theorem steps_execSet (m : Master) : Steps s (execSet s m) := by
  simp only [execSet, steps_ite, ite_self, steps_next, kept_self, kept_cancelSetAtPps, kept_setFld, kept_stepTime]

theorem steps_execAdjust (m : Master) : Steps s (execAdjust s m) := by
  simp only [execAdjust, steps_ite, ite_self, steps_next, kept_self, kept_cancelSetAtPps, kept_setFld, kept_stepTime]

theorem steps_execSetAtPps (m : Master) : Steps s (execSetAtPps s m) := by
  simp only [execSetAtPps, steps_ite, ite_self, steps_next, kept_self, kept_mk, kept_fold, kept_cancelSetAtPps, kept_setFld]

theorem steps_execSetAtPpsTimeout : Steps s (execSetAtPpsTimeout s) := by
  simp only [execSetAtPpsTimeout, steps_ite, ite_self, steps_next, kept_self, kept_endSetAtPps]

theorem steps_execIncCommit (m : Master) (ns : BitVec 4) : Steps s (execIncCommit s m ns) := by
  simp only [execIncCommit, steps_ite, ite_self, steps_next, kept_self, kept_mk, kept_fold, kept_setFld, kept_post]

theorem steps_execTimeNowRead (m : Master) : Steps s (execTimeNowRead s m) := by
  simp only [execTimeNowRead, steps_ite, ite_self, steps_next, kept_self, kept_reply, kept_latch]

theorem steps_execSfcRead (m : Master) (c : Chan) : Steps s (execSfcRead s m c) := by
  simp only [execSfcRead, steps_ite, ite_self, steps_next, kept_self, kept_reply, kept_latch]

theorem steps_execTsqRead (m : Master) (u : Uplink) : Steps s (execTsqRead s m u) := by
  simp only [execTsqRead, steps_ite, steps_next, kept_self, kept_reply]
  repeat' split
  all_goals simp only [steps_next, kept_self, kept_mk, and_self, kept_reply, kept_setFld, kept_latch]

theorem steps_execPpsiRead (m : Master) : Steps s (execPpsiRead s m) := by
  simp only [execPpsiRead, steps_ite, ite_self, steps_next, kept_self, kept_reply, kept_setFld, kept_latch]

theorem steps_execPpsInEdge (phase : BitVec 7) : Steps s (execPpsInEdge s phase) := by
  simp only [execPpsInEdge, steps_ite, steps_next, kept_self]
  repeat' split
  all_goals simp only [steps_next, kept_self, kept_mk, kept_fold, kept_count, kept_setFld, kept_endSetAtPps, kept_stepTime]

theorem steps_execPpsInLoss : Steps s (execPpsInLoss s) := by
  simp only [execPpsInLoss, steps_ite, ite_self, steps_next, kept_self, kept_mk, kept_fold, kept_setFld, kept_post]

theorem steps_execPpsOutEdge : Steps s (execPpsOutEdge s) := by
  simp only [execPpsOutEdge, steps_ite, ite_self, steps_next, kept_self, kept_mk, kept_fold, kept_emit]

theorem steps_execTodOutMessage : Steps s (execTodOutMessage s) := by
  simp only [execTodOutMessage]
  repeat' (split <;> simp only [steps_ite, ite_self, steps_next, kept_self, kept_ite, kept_mk, and_self, kept_emit, kept_setFld, kept_count])

theorem steps_execTodoArm (m : Master) (len : BitVec 6) : Steps s (execTodoArm s m len) := by
  simp only [execTodoArm, steps_ite, ite_self, steps_next, kept_self, kept_setFld]

theorem steps_execTodInByte (b : Byte) : Steps s (execTodInByte s b) := by
  simp only [execTodInByte, steps_ite, ite_self, steps_next, kept_self, kept_mk, and_self, kept_setFld, kept_count]

theorem steps_execTodiRead (m : Master) : Steps s (execTodiRead s m) := by
  simp only [execTodiRead, steps_ite, steps_next, kept_self, kept_reply]
  repeat' split
  all_goals simp only [steps_next, kept_self, kept_mk, and_self, kept_reply, kept_setFld]

theorem steps_execTodCalc (m : Master) : Steps s (execTodCalc s m) := by
  simp only [execTodCalc, steps_ite, ite_self, steps_next, kept_self, kept_setFld]

theorem steps_execDpllLock (e : Bool) : Steps s (execDpllLock s e) := by
  simp only [execDpllLock, steps_ite, ite_self, steps_next, kept_self, kept_post, kept_setFld]

theorem steps_execDpllRefLoss (e : Bool) : Steps s (execDpllRefLoss s e) := by
  simp only [execDpllRefLoss, steps_ite, ite_self, steps_next, kept_self, kept_dpHold]

theorem steps_execDpllRefReturn (e : Bool) : Steps s (execDpllRefReturn s e) := by
  simp only [execDpllRefReturn, steps_ite, ite_self, steps_next, kept_self, kept_setFld]

/-! Commands of Machine/Mate.lean. -/

theorem steps_execHandoverBoundary : Steps s (execHandoverBoundary s) := by
  simp only [execHandoverBoundary]
  repeat' (split <;> simp only [steps_ite, ite_self, steps_next, kept_self, kept_ite, kept_mk, and_self, kept_setFld, kept_yieldAll, kept_toSyncing,
    kept_switchOver])

theorem steps_execHeartbeatSend : Steps s (execHeartbeatSend s) := by
  simp only [execHeartbeatSend, steps_next, kept_self, kept_heartbeat]

theorem steps_execHeartbeatReceived (h : Heartbeat) : Steps s (execHeartbeatReceived s h) := by
  simp only [execHeartbeatReceived, steps_ite, ite_self, steps_next, kept_self, kept_mk, kept_fold, steps_mateRx, implies_true, kept_setFld, kept_count,
    kept_heed]

theorem steps_execHeartbeatLoss : Steps s (execHeartbeatLoss s) := by
  simp only [execHeartbeatLoss, steps_ite, ite_self, steps_next, kept_self, kept_ite, kept_mk, kept_fold, kept_setFld, kept_post, kept_switchOver,
    kept_movePair, kept_yieldAll]

theorem steps_execContestTakeover : Steps s (execContestTakeover s) := by
  simp only [execContestTakeover, steps_ite, ite_self, steps_next, kept_self, kept_switchOver]

theorem steps_execContestTimeout : Steps s (execContestTimeout s) := by
  simp only [execContestTimeout, ite_self, steps_next, kept_self, kept_ite, kept_undecided]

theorem steps_execSeekTimeout : Steps s (execSeekTimeout s) := by
  simp only [execSeekTimeout, ite_self, steps_next, kept_self, kept_ite, kept_undecided]

theorem steps_execManual (m : Master) (mateLockout : Bool) : Steps s (execManual s m mateLockout) := by
  simp only [execManual, ite_self, kept_self, kept_ite, steps_mateRun, apply_ite Prod.fst, kept_setFld, kept_startHandover]

theorem steps_execForceActive (m : Master) : Steps s (execForceActive s m) := by
  simp only [execForceActive, ite_self, kept_self, kept_ite, steps_mateRun, apply_ite Prod.fst, kept_switchOver]

theorem steps_execLockoutSet (m : Master) : Steps s (execLockoutSet s m) := by
  simp only [execLockoutSet, ite_self, kept_self, kept_ite, steps_mateRun, apply_ite Prod.fst, kept_startHandover, kept_setFld, kept_stopWtr]

theorem steps_execLockoutClr (m : Master) : Steps s (execLockoutClr s m) := by
  simp only [execLockoutClr, kept_self, steps_mateRun, kept_setFld]

theorem steps_execResync (m : Master) : Steps s (execResync s m) := by
  simp only [execResync, ite_self, kept_self, kept_ite, steps_mateRun, apply_ite Prod.fst, kept_resync]

theorem steps_execRevertNow (m : Master) : Steps s (execRevertNow s m) := by
  simp only [execRevertNow, ite_self, kept_self, kept_ite, steps_mateRun, apply_ite Prod.fst, kept_askRevert]

theorem steps_execWtrExpiry : Steps s (execWtrExpiry s) := by
  simp only [execWtrExpiry, ite_self, steps_next, kept_self, kept_ite, kept_askRevert]

theorem steps_execFrameMessage (f : FrameMsg) : Steps s (execFrameMessage s f) := by
  simp only [execFrameMessage, ite_self, kept_self, kept_ite, kept_mk, kept_fold, steps_mirrorRx, implies_true, kept_takeKeys, kept_commitCtx, kept_count,
    kept_chargeMap, kept_maySync]

theorem steps_execOnuMessage (o : OnuMsg) : Steps s (execOnuMessage s o) := by
  simp only [execOnuMessage, kept_self, steps_mirrorRx, implies_true, kept_cleanRec, kept_setOnu]

theorem steps_execKeysMessage (h : MsgHdr) (b : List Byte) : Steps s (execKeysMessage s h b) := by
  refine steps_mirrorRx s h 0x12 (fun u => ?_)
  dsimp only
  split
  · exact .refl u
  · exact (kept_restoreBlob u u _).mpr (.refl u)

theorem steps_execLearnMessage (h : MsgHdr) (recs : List LearnRec) : Steps s (execLearnMessage s h recs) := by
  simp only [execLearnMessage, kept_self, kept_foldl, implies_true, steps_mirrorRx, kept_takeLearn]

theorem steps_execHelloMessage (h : MsgHdr) (digest prec : Nat) (preferred : Bool) : Steps s (execHelloMessage s h digest prec preferred) := by
  simp only [execHelloMessage, ite_self, kept_self, kept_ite, kept_mk, kept_fold, steps_mateRx, implies_true, kept_count, kept_post, kept_mismatched,
    kept_movePair]

theorem steps_execTimingMessage (h : MsgHdr) (arrival departed : Stamp) (d : Int) : Steps s (execTimingMessage s h arrival departed d) := by
  simp only [execTimingMessage, kept_self, kept_mk, kept_fold, steps_mateRx, implies_true, kept_count, kept_setFld]

theorem steps_execHandoverMessage (h : MsgHdr) (sec : Word) (ns : BitVec 30) : Steps s (execHandoverMessage s h sec ns) := by
  simp only [execHandoverMessage, ite_self, kept_self, kept_ite, kept_mk, kept_fold, steps_mateRx, implies_true, kept_count, kept_tickFree]

theorem steps_execSyncReq (h : MsgHdr) : Steps s (execSyncReq s h) := by
  simp only [execSyncReq, ite_self, kept_self, kept_ite, kept_mk, kept_fold, kept_foldl, implies_true, steps_mateRx, kept_count, kept_mirrorOnu,
    kept_mirrorKeys, kept_sendLearn, kept_mirror]

theorem steps_execSyncDone (h : MsgHdr) : Steps s (execSyncDone s h) := by
  simp only [execSyncDone, ite_self, kept_self, kept_ite, kept_mk, kept_fold, steps_mateRx, implies_true, kept_count, kept_maySync]

theorem steps_execLearnMessageSend : Steps s (execLearnMessageSend s) := by
  simp only [execLearnMessageSend, steps_ite, ite_self, steps_next, kept_self, kept_mk, kept_fold, kept_mirror]

theorem steps_execHelloSend : Steps s (execHelloSend s) := by
  simp only [execHelloSend, steps_ite, ite_self, steps_next, kept_self, kept_count, kept_sendStay]

theorem steps_execTimingSend (departure : Stamp) : Steps s (execTimingSend s departure) := by
  simp only [execTimingSend, steps_ite, ite_self, steps_next, kept_self, kept_mk, kept_fold, kept_count, kept_sendStay]

theorem steps_execOnuRoundRobinSend (onu : Onu) : Steps s (execOnuRoundRobinSend s onu) := by
  simp only [execOnuRoundRobinSend, steps_next, kept_self, kept_mirrorOnu]

theorem steps_execEpochDiffTimer : Steps s (execEpochDiffTimer s) := by
  simp only [execEpochDiffTimer, steps_ite, ite_self, steps_next, kept_self, kept_mk, and_self, kept_post]

theorem steps_execMatePathFault (c : Chan) : Steps s (execMatePathFault s c) := by
  simp only [execMatePathFault, steps_ite, ite_self, steps_next, kept_self, kept_ite, kept_mk, and_self, kept_post]

/-! Commands of Machine/Mem.lean. -/

theorem steps_execNarrowWrite (mem : BitVec 8) (ix : Word) (bytes : List (BitVec 6 × Byte)) : Steps s (execNarrowWrite s mem ix bytes) := by
  simp only [execNarrowWrite, steps_ite, steps_next, kept_self]
  repeat' split
  all_goals simp only [steps_next, kept_self, kept_mk, and_self, kept_setMerge, kept_writeMerge, kept_relieve]

theorem steps_execMergeReadReturn (mem : BitVec 8) (ix : Word) (ecc : Ecc) : Steps s (execMergeReadReturn s mem ix ecc) := by
  simp only [execMergeReadReturn]
  repeat' (split <;> simp only [steps_ite, ite_self, steps_next, kept_self, kept_setMerge, kept_relieve, kept_writeMerge])

theorem steps_execMergeEntryTimeout (mem : BitVec 8) (ix : Word) : Steps s (execMergeEntryTimeout s mem ix) := by
  simp only [execMergeEntryTimeout]
  repeat' (split <;> simp only [steps_ite, ite_self, steps_next, kept_self, kept_writeMerge])

theorem steps_execScrubStart (m : Master) (mem : BitVec 8) : Steps s (execScrubStart s m mem) := by
  simp only [execScrubStart, steps_ite, ite_self, steps_next, kept_self, kept_mk, kept_fold, kept_setFld]

theorem steps_execScrubAbort (m : Master) : Steps s (execScrubAbort s m) := by
  simp only [execScrubAbort, steps_ite, ite_self, steps_next, kept_self, kept_mk, and_self, kept_setFld]

theorem steps_execScrubWord (ecc : Ecc) (rewritten : Bool) : Steps s (execScrubWord s ecc rewritten) := by
  simp only [execScrubWord, steps_ite, steps_next, kept_self, kept_mk, and_self, kept_scrubNext, kept_scrubChecked]
  repeat' split
  all_goals simp only [steps_next, kept_self, kept_scrubChecked, kept_offerWeak, kept_count, kept_setFlip, kept_post, kept_poisonWord]

theorem steps_execScrubDone (us : Word) : Steps s (execScrubDone s us) := by
  simp only [execScrubDone, steps_ite, ite_self, steps_next, kept_self, kept_mk, kept_fold, kept_hostWrite, kept_setFld, kept_post, kept_count]

theorem steps_execFlipArm (m : Master) (ctrl : Word) : Steps s (execFlipArm s m ctrl) := by
  simp only [execFlipArm, steps_ite, ite_self, steps_next, kept_self, kept_setFld, kept_setReg]

theorem steps_execWeakEntryAge (mem : BitVec 8) (ix : Word) : Steps s (execWeakEntryAge s mem ix) := by
  simp only [execWeakEntryAge, steps_next, kept_self, kept_freeWeak]

theorem steps_execSpareCopyDone (mem : BitVec 8) (bank : BitVec 8) (bad : List Word) : Steps s (execSpareCopyDone s mem bank bad) := by
  simp only [execSpareCopyDone, steps_ite, ite_self, steps_next, kept_self, kept_ite, kept_mk, kept_fold, kept_foldl, implies_true, kept_post, kept_poisonWord,
    kept_recordRetire, kept_endCopy]

theorem steps_execRowRemapDone (stack : BitVec 2) (row : BitVec 28) (ppr : Bool) : Steps s (execRowRemapDone s stack row ppr) := by
  simp only [execRowRemapDone, steps_ite, ite_self, steps_next, kept_self, kept_ite, kept_mk, kept_fold, kept_endCopy, kept_jnlPersist, kept_countN, kept_post]

theorem steps_execHpprDone (stack : BitVec 2) (row : BitVec 28) : Steps s (execHpprDone s stack row) := by
  simp only [execHpprDone, steps_ite, ite_self, steps_next, kept_self, kept_mk, and_self]

theorem steps_execDramTempRead (stack : BitVec 2) (temp : BitVec 8) : Steps s (execDramTempRead s stack temp) := by
  simp only [execDramTempRead, steps_ite, ite_self, steps_next, kept_self, kept_ite, kept_setFld, kept_post]

theorem steps_execFlashScan (slot : BitVec 2) (block : BitVec 16) (corrected : BitVec 8) (bad : Bool) : Steps s (execFlashScan s slot block corrected bad) := by
  simp only [execFlashScan, steps_ite, ite_self, steps_next, kept_self, kept_ite, kept_mk, kept_fold, kept_countN, kept_post, kept_spoilSlot]

theorem steps_execFlashRefresh (block : BitVec 16) : Steps s (execFlashRefresh s block) := by
  simp only [execFlashRefresh, steps_ite, ite_self, steps_next, kept_self, kept_mk, and_self, kept_post, kept_setFld]

theorem steps_execJnlRead (m : Master) (crcOk : Bool) : Steps s (execJnlRead s m crcOk) := by
  simp only [execJnlRead, steps_ite, steps_next, kept_self]
  repeat' split
  all_goals simp only [steps_next, kept_self, kept_foldl, implies_true, kept_setFld, kept_count]

/-! Commands of Machine/Reset.lean. -/

theorem steps_execPowerOnReset : Steps s (execPowerOnReset s) := by
  simp only [execPowerOnReset, steps_next, kept_mk, and_self, kept_setFld]

theorem steps_execSupplyReset (supplies : BitVec 5) (mv : BitVec 16) : Steps s (execSupplyReset s supplies mv) := by
  simp only [execSupplyReset, steps_next, kept_self, kept_mk, kept_fold, kept_count, kept_setFld, kept_addHold, kept_kindReset]

theorem steps_execSupplyResetRelease : Steps s (execSupplyResetRelease s) := by
  simp only [execSupplyResetRelease, steps_next, kept_self, kept_dropHold]

theorem steps_execPerstAssert : Steps s (execPerstAssert s) := by
  simp only [execPerstAssert, steps_next, kept_self, kept_addHold, kept_kindReset]

theorem steps_execPerstDeassert : Steps s (execPerstDeassert s) := by
  simp only [execPerstDeassert, steps_next, kept_self, kept_dropHold]

theorem steps_execHostReset (m : Master) : Steps s (execHostReset s m) := by
  simp only [execHostReset, steps_ite, ite_self, steps_next, kept_self, kept_startUp, kept_kindReset]

theorem steps_execPfFlr : Steps s (execPfFlr s) := by
  simp only [execPfFlr, steps_ite, ite_self, steps_next, kept_self, kept_startUp, kept_kindReset]

theorem steps_execThermalSensorRead (tj : BitVec 8) : Steps s (execThermalSensorRead s tj) := by
  simp only [execThermalSensorRead, steps_ite, ite_self, steps_next, kept_self, kept_ite, kept_mk, kept_fold, kept_setFld, kept_post, kept_count, kept_addHold,
    kept_kindReset]

theorem steps_execThermalResetRelease : Steps s (execThermalResetRelease s) := by
  simp only [execThermalResetRelease, steps_next, kept_self, kept_dropHold]

/-! Commands of Machine/Sheet.lean. -/

theorem steps_execSheetPick (p : PortIx) (poison retired : Bool) (bad : Option NodeBad) (saEcc : Ecc) : Steps s (execSheetPick s p poison retired bad saEcc) :=
    by
  simp only [execSheetPick, steps_ite, ite_self, steps_next, kept_self, kept_foldl, implies_true, kept_pickFrom, kept_dropOversize]
  repeat' (split <;> simp only [kept_self, kept_nodePoison])

theorem steps_execCalendarSlot (slot : BitVec 16) : Steps s (execCalendarSlot s slot) := by
  simp only [execCalendarSlot, steps_next, kept_self, kept_foldl, implies_true, kept_enterWheel]

theorem steps_execGateEntryChange (u : Uplink) : Steps s (execGateEntryChange s u) := by
  simp only [execGateEntryChange, steps_next, kept_self, kept_showGate]

theorem steps_execGateListActive (u : Uplink) : Steps s (execGateListActive s u) := by
  simp only [execGateListActive]
  repeat' (split <;> simp only [steps_ite, ite_self, steps_next, kept_self, kept_setBit, kept_setGates, kept_post, kept_showGate, kept_setFld])

theorem steps_execPfcRefresh (p : BitVec 7) : Steps s (execPfcRefresh s p) := by
  simp only [execPfcRefresh, steps_ite, ite_self, steps_next, kept_self, kept_foldl, implies_true, kept_countN, kept_sendPfc]

theorem steps_execPfcFrameReceived (p : BitVec 7) (en : Byte) (quanta : List (BitVec 16)) : Steps s (execPfcFrameReceived s p en quanta) := by
  simp only [execPfcFrameReceived, ite_self, steps_next, kept_self, kept_ite, kept_foldl, implies_true, kept_showStorm, kept_countN, kept_setPfc]

theorem steps_execPfcPauseExpiry (p : BitVec 7) (c : BitVec 3) : Steps s (execPfcPauseExpiry s p c) := by
  simp only [execPfcPauseExpiry, steps_next, kept_self, kept_showStorm, kept_setPfc]

theorem steps_execPfcStorm (p : BitVec 7) (c : BitVec 3) : Steps s (execPfcStorm s p c) := by
  simp only [execPfcStorm, steps_ite, ite_self, steps_next, kept_self, kept_post, kept_showStorm, kept_setPfc]

theorem steps_execNodeReadApplied (m : Master) (ecc : Ecc) (copyBad : Bool) : Steps s (execNodeReadApplied s m ecc copyBad) := by
  simp only [execNodeReadApplied, steps_ite, steps_next, kept_self]
  repeat' split
  all_goals simp only [steps_next, kept_self, kept_setFld, kept_readRec, kept_nodePoison, kept_cleanRec, kept_nodeData]

theorem steps_execNodeReadStaged (m : Master) : Steps s (execNodeReadStaged s m) := by
  simp only [execNodeReadStaged, steps_ite, steps_next, kept_self]
  repeat' split
  all_goals simp only [steps_next, kept_self, kept_setFld, kept_nodeData]

theorem steps_execNodeWriteStaged (m : Master) : Steps s (execNodeWriteStaged s m) := by
  simp only [execNodeWriteStaged, steps_ite, steps_next, kept_self]
  repeat' split
  all_goals simp only [steps_next, kept_self, kept_setFld, kept_stageRec]

theorem steps_execNodeZeroData (m : Master) : Steps s (execNodeZeroData s m) := by
  simp only [execNodeZeroData, steps_ite, ite_self, steps_next, kept_self, kept_setFld, kept_nodeData]

theorem steps_execQsRead (m : Master) : Steps s (execQsRead s m) := by
  simp only [execQsRead, steps_ite, ite_self, steps_next, kept_self, kept_qsLatch]

theorem steps_execQsReadClear (m : Master) : Steps s (execQsReadClear s m) := by
  simp only [execQsReadClear, steps_ite, ite_self, steps_next, kept_self, kept_setQs, kept_qsLatch]

theorem steps_execCipherLaneFault (p : BitVec 5) (unit : CipherUnit) : Steps s (execCipherLaneFault s p unit) := by
  simp only [execCipherLaneFault]
  repeat' (split <;> simp only [ite_self, steps_next, kept_self, kept_ite, kept_mk, kept_fold, kept_count, kept_dropUnit, kept_ladder, kept_noteFault,
    kept_setFld, kept_recovered, kept_retireCipher])

/-! Commands of Machine/Rig.lean. -/

theorem steps_execCheck (m : Master) : Steps s (execCheck s m) := by
  simp only [execCheck, steps_ite, ite_self, steps_next, kept_self, kept_moveRig, kept_complete]

theorem steps_execCheckDone : Steps s (execCheckDone s) := by
  simp only [execCheckDone, steps_ite, ite_self, steps_next, kept_self, kept_mk, and_self, kept_moveRig, kept_setFld, kept_post, kept_complete]

theorem steps_execApply (m : Master) (sched : Bool) : Steps s (execApply s m sched) := by
  simp only [execApply, steps_ite, ite_self, steps_next, kept_self, kept_ite, kept_mk, and_self, kept_complete, kept_stale, kept_moveRig, kept_drainedHost]

theorem steps_execAbort (m : Master) : Steps s (execAbort s m) := by
  simp only [execAbort, steps_ite, ite_self, steps_next, kept_self, kept_ite, kept_complete, kept_moveRig, kept_tryDeviceApply]

theorem steps_execDiscard (m : Master) : Steps s (execDiscard s m) := by
  simp only [execDiscard, steps_ite, ite_self, steps_next, kept_self, kept_mk, kept_fold, kept_complete, kept_moveRig, kept_emptyStaged, kept_fwdDiscard]

theorem steps_execDrainEnd (us : BitVec 20) : Steps s (execDrainEnd s us) := by
  simp only [execDrainEnd, steps_ite, ite_self, steps_next, kept_self, kept_drained]

theorem steps_execDrainForced : Steps s (execDrainForced s) := by
  simp only [execDrainForced, steps_ite, ite_self, steps_next, kept_self, kept_drained, kept_post, kept_dropUnits]

theorem steps_execSchedTimeReached : Steps s (execSchedTimeReached s) := by
  simp only [execSchedTimeReached, steps_ite, ite_self, steps_next, kept_self, kept_post, kept_complete, kept_moveRig, kept_applyInstant]

theorem steps_execRerig (m : Master) (region : BitVec 16) (slot : Bool) : Steps s (execRerig s m region slot) := by
  simp only [execRerig, steps_ite, steps_next, kept_ite, kept_complete, kept_setFld, kept_resetDomains, kept_lasersOff, State.forAll, kept_foldl, kept_stopCh,
    kept_stopUplink, kept_moveRig, kept_mk, and_self, kept_self, implies_true, ite_self]

theorem steps_execRerigDone : Steps s (execRerigDone s) := by
  simp only [execRerigDone, steps_ite, steps_next, kept_ite, kept_complete, kept_setFld, kept_tryDeviceApply, kept_post, kept_showBusy, kept_clearSuspect,
    kept_mateStart, kept_bindAll, kept_releaseDomains, kept_startGroup, kept_bindUplink, State.forAll, kept_foldl, kept_setPort, kept_advance, kept_mk,
      kept_fold,
    kept_self, implies_true, ite_self]

theorem steps_execLockWrite (m : Master) (bits : BitVec 16) : Steps s (execLockWrite s m bits) := by
  simp only [execLockWrite, steps_ite, ite_self, steps_next, kept_self, kept_setFld]

theorem steps_execLoadTrim (m : Master) : Steps s (execLoadTrim s m) := by
  simp only [execLoadTrim, steps_ite, steps_next, kept_complete, kept_stagingWrite_id, kept_showBusy, kept_mk, and_self, kept_self, ite_self]

theorem steps_execLoadTrimDone (recs : List TrimRecord) : Steps s (execLoadTrimDone s recs) := by
  have hrecs (u : State) : Kept u (recs.foldl (fun (t : State) r => t.trimRecord r) u) := by simp only [kept_foldl, kept_trimRecord, kept_self, implies_true]
  simp only [execLoadTrimDone, steps_ite, steps_next, kept_complete, kept_stagingWrite_id, kept_stagingWrite _ _ hrecs, kept_showBusy, kept_mk, and_self,
    kept_self, ite_self]

theorem steps_execConfirm (m : Master) : Steps s (execConfirm s m) := by
  simp only [execConfirm, steps_ite, ite_self, steps_next, kept_self, kept_mk, kept_fold, kept_slotTo, kept_complete]

theorem steps_execTrialExpiring : Steps s (execTrialExpiring s) := by
  simp only [execTrialExpiring, steps_ite, ite_self, steps_next, kept_self, kept_post]

theorem steps_execTrialExpiry : Steps s (execTrialExpiry s) := by
  simp only [execTrialExpiry, steps_ite, ite_self, steps_next, kept_self, kept_mk, kept_fold, kept_slotTo]

theorem steps_execLoadSlot (m : Master) : Steps s (execLoadSlot s m) := by
  simp only [execLoadSlot, steps_ite, ite_self, steps_next, kept_self, kept_ite, kept_mk, kept_fold, kept_complete, kept_slotTo, kept_setFld, kept_showBusy]

theorem steps_execLoadSlotDone (img : Image) (flashOk : Bool) : Steps s (execLoadSlotDone s img flashOk) := by
  simp only [execLoadSlotDone, steps_ite, ite_self, steps_next, kept_self, kept_mk, and_self, kept_showBusy, kept_complete, kept_slotTo, kept_setSlotRec]

theorem steps_execAttest (m : Master) : Steps s (execAttest s m) := by
  simp only [execAttest, steps_ite, ite_self, steps_next, kept_self, kept_mk, and_self, kept_complete, kept_showBusy]

theorem steps_execAttestDone : Steps s (execAttestDone s) := by
  simp only [execAttestDone, steps_ite, ite_self, steps_next, kept_self, kept_mk, kept_fold, kept_hostWrite, kept_post, kept_complete, kept_showBusy]

/-! Commands of Machine/I2c.lean. -/

theorem steps_execI2cWrite (m : Master) (i : BitVec 4) (dev : BitVec 7) (reg : BitVec 8) (count : BitVec 2) : Steps s (execI2cWrite s m i dev reg count) := by
  simp only [execI2cWrite, steps_next, kept_self, kept_i2cRun]

theorem steps_execI2cRead (m : Master) (i : BitVec 4) (dev : BitVec 7) (reg : BitVec 8) (count : BitVec 2) : Steps s (execI2cRead s m i dev reg count) := by
  simp only [execI2cRead, steps_next, kept_self, kept_i2cRun]

theorem steps_execI2cWriteByte (m : Master) (i : BitVec 4) (dev : BitVec 7) (reg : BitVec 8) : Steps s (execI2cWriteByte s m i dev reg) := by
  simp only [execI2cWriteByte, steps_next, kept_self, kept_i2cRun]

theorem steps_execI2cDone (i : BitVec 4) (result : BitVec 2) (data : Word) : Steps s (execI2cDone s i result data) := by
  simp only [execI2cDone, steps_ite, ite_self, steps_next, kept_self, kept_ite, kept_setFld]

/-! Commands of Machine/Start.lean. -/

theorem steps_execJournalWrite (verified : Bool) : Steps s (execJournalWrite s verified) := by
  simp only [execJournalWrite, steps_ite, ite_self, steps_next, kept_self, kept_mk, and_self, kept_jnlNext, kept_setFld, kept_post]

theorem steps_execStartupPhaseEnd (ms : BitVec 16) : Steps s (execStartupPhaseEnd s ms) := by
  simp only [execStartupPhaseEnd, steps_ite, ite_self, steps_next, kept_self, kept_setFld, kept_releaseDomains, kept_replay, kept_endImage, kept_endStart]

theorem steps_execReefEnter (mv : BitVec 16) : Steps s (execReefEnter s mv) := by
  simp only [execReefEnter, steps_ite, ite_self, steps_next, kept_self, kept_mk, and_self, kept_setFld, kept_showBusy, kept_post, kept_count]

theorem steps_execReefExit (low : BitVec 16) (now : BitVec 16) (ns : BitVec 40) : Steps s (execReefExit s low now ns) := by
  simp only [execReefExit, steps_ite, ite_self, steps_next, kept_self, kept_mk, and_self, kept_setFld, kept_post, kept_jnlPersist, kept_countN, kept_showBusy,
    kept_tryDeviceApply]

theorem steps_execVddAuxLow : Steps s (execVddAuxLow s) := by
  simp only [execVddAuxLow, steps_ite, ite_self, steps_next, kept_self, kept_post, kept_setFld]

theorem steps_execVddAuxResume : Steps s (execVddAuxResume s) := by
  simp only [execVddAuxResume, steps_next, kept_self, kept_i2cResume, kept_setFld]

theorem steps_execUnretire (m : Master) : Steps s (execUnretire s m) := by
  simp only [execUnretire, steps_ite, ite_self, steps_next, kept_self, kept_ite, kept_mk, and_self, kept_setFld, kept_queueUnretire]

theorem steps_execMarchTestDone (passed : Bool) : Steps s (execMarchTestDone s passed) := by
  simp only [execMarchTestDone]
  repeat' (split <;> simp only [steps_ite, ite_self, steps_next, kept_self, kept_mk, and_self, kept_queueUnretire, kept_setFld])

theorem steps_execRetRead (m : Master) : Steps s (execRetRead s m) := by
  simp only [execRetRead, steps_ite, ite_self, steps_next, kept_self, kept_setFld]

/-! Commands of Machine/Xgem.lean. -/

theorem steps_execXgemEncapsulate (c : Chan) (ecc keyEcc : Ecc) (edgeBad : Bool) : Steps s (execXgemEncapsulate s c ecc keyEcc edgeBad) := by
  unfold execXgemEncapsulate
  extract_lets n d
  split
  · exact .refl s
  next p rest _ =>
    split
    · exact .refl s
    · extract_lets ws drop onu
      have hdrop (v : State) : Kept s (drop v) ↔ Kept s v := by simp only [drop, kept_dropped, kept_setDs]
      split
      next u bad hu =>
      have hu : Kept s u := ((kept_readRec s s _ _ _ _).mpr (.refl s)).of_eq_pair hu
      split
      · simpa only [steps_next, hdrop, kept_post, kept_cleanRec, kept_setRecord] using hu
      · extract_lets live
        split
        · simpa only [steps_next, hdrop, kept_count] using hu
        · split
          · simpa only [steps_next, hdrop, kept_count] using hu
          · split
            next v hv => exact (hdrop v).mpr ((kept_of_dsCipher_error s u hv).mpr hu)
            next v i hv =>
              have hv : Kept s v := (kept_of_dsCipher s u hv).mpr hu
              simpa only [steps_next, kept_ite, kept_count, kept_placeXgem, ite_self] using hv

theorem steps_execContextUpdate (u : CtxUpdate) (poison : Bool) : Steps s (execContextUpdate s u poison) := by
  simp only [execContextUpdate, steps_ite, steps_next, kept_self, kept_count]
  repeat' split
  all_goals simp only [steps_next, kept_self, kept_mk, and_self, kept_setOnu, kept_setHal]

theorem steps_execMapCaptureArm (m : Master) (c : Chan) : Steps s (execMapCaptureArm s m c) := by
  simp only [execMapCaptureArm, steps_ite, ite_self, steps_next, kept_self, kept_mk, kept_fold, kept_setFld]

theorem steps_execUplinkPacketIngress (p : BitVec 7) (bytes : List Byte) (fcsOk fits : Bool) (stamp : Stamp) (sec : Option MacRx) (ecc : Ecc) : Steps s
    (execUplinkPacketIngress s p bytes fcsOk fits stamp sec ecc) := by
  have hv (u v : State) (n : Nat) (b : Bool) (h : u.verifyRx u n sec ecc = (v, b)) (hu : Kept s u) : Kept s v := ((kept_verifyRx s u u n sec ecc).mpr
    hu).of_eq_pair h
  unfold execUplinkPacketIngress
  extract_lets n b sup x
  split
  · exact .refl s
  split
  · exact .refl s
  split
  · exact (kept_count s s _ _).mpr (.refl s)
  split
  · exact .refl s
  split
  next u k hu =>
  have hu : Kept s u := ((kept_newPkt s s _ _ _).mpr (.refl s)).of_eq_pair hu
  split
  · split
    next v h => simpa only [steps_next, kept_ite, kept_queueParse, ite_self] using hv u v n true h hu
    next v h => exact hv u v n false h hu
  · simpa only [steps_next, kept_queueParse] using hu

/-! Commands of Machine/Host.lean. -/

theorem steps_execVectorHoldoffEnd (v : BitVec 6) : Steps s (execVectorHoldoffEnd s v) := by
  simp only [execVectorHoldoffEnd, steps_ite, ite_self, steps_next, kept_self, kept_ite, kept_mk, and_self, kept_signal]

theorem steps_execEventEntryWrite : Steps s (execEventEntryWrite s) := by
  simp only [execEventEntryWrite]
  repeat' (split <;> simp only [steps_ite, ite_self, steps_next, kept_self, kept_mk, kept_fold, and_self, kept_flushOverflow, kept_putEntry, kept_count])

theorem steps_execEvqEnable (m : Master) : Steps s (execEvqEnable s m) := by
  simp only [execEvqEnable, steps_ite, ite_self, steps_next, kept_self, kept_mk, kept_fold, kept_foldl, implies_true, kept_setFld, kept_flushOverflow,
    kept_putEntry]

theorem steps_execEvqDisable (m : Master) : Steps s (execEvqDisable s m) := by
  simp only [execEvqDisable, steps_ite, ite_self, steps_next, kept_self, kept_mk, kept_fold, kept_foldl, implies_true, kept_setFld, kept_enqueueEvent]

theorem steps_execEvqHeadWrite (m : Master) (head : BitVec 12) : Steps s (execEvqHeadWrite s m head) := by
  simp only [execEvqHeadWrite, steps_ite, ite_self, steps_next, kept_self, kept_flushOverflow, kept_setFld]

theorem steps_execTxDoorbell (m : Master) (q : QpIx) (tail : BitVec 32) : Steps s (execTxDoorbell s m q tail) := by
  simp only [execTxDoorbell]
  repeat' (split <;> simp only [steps_ite, ite_self, steps_next, kept_self, kept_setQp])

theorem steps_execRxDoorbell (m : Master) (q : QpIx) (tail : BitVec 32) : Steps s (execRxDoorbell s m q tail) := by
  simp only [execRxDoorbell]
  repeat' (split <;> simp only [steps_ite, ite_self, steps_next, kept_self, kept_setQp])

theorem steps_execDmaQpError (q : QpIx) (cause : HostAccess) : Steps s (execDmaQpError s q cause) := by
  simp only [execDmaQpError, steps_ite, ite_self, steps_next, kept_self, kept_qpError]

theorem steps_execQpEnable (m : Master) (q : QpIx) : Steps s (execQpEnable s m q) := by
  simp only [execQpEnable]
  repeat' (split <;> simp only [steps_ite, ite_self, steps_next, kept_self, kept_setFld])

theorem steps_execQpDisable (m : Master) (q : QpIx) : Steps s (execQpDisable s m q) := by
  simp only [execQpDisable]
  repeat' (split <;> simp only [ite_self, steps_next, kept_self, kept_ite, kept_qpStop])

theorem steps_execQpStopDone (q : QpIx) : Steps s (execQpStopDone s q) := by
  simp only [execQpStopDone, steps_next, kept_self, kept_qpStopped]

theorem steps_execQpOwnerWrite (m : Master) (q : QpIx) (owner : Master) : Steps s (execQpOwnerWrite s m q owner) := by
  simp only [execQpOwnerWrite, steps_ite, ite_self, steps_next, kept_self, kept_setFld]

theorem steps_execTxDescriptorFetch (q : QpIx) (d : TxDesc) (acc : HostAccess) : Steps s (execTxDescriptorFetch s q d acc) := by
  simp only [execTxDescriptorFetch, steps_ite, ite_self, steps_next, kept_self, kept_ite, kept_qpError, kept_setFld, kept_count, kept_pushTsq, kept_txSend,
    kept_qpSignal, kept_hostWrite, kept_setQp]

theorem steps_execRxPacketDeliver (q : QpIx) (d : RxDesc) (micOk : Bool) (acc : HostAccess) : Steps s (execRxPacketDeliver s q d micOk acc) := by
  simp only [execRxPacketDeliver]
  repeat' (split <;> simp only [steps_ite, ite_self, steps_next, kept_self, kept_mk, and_self, kept_count, kept_qpError, kept_hostWrite, kept_setFld])

theorem steps_execMbxTxWrite (m : Master) (c : BitVec 4) (side : Bool) (w : Word) : Steps s (execMbxTxWrite s m c side w) := by
  simp only [execMbxTxWrite, steps_ite, ite_self, steps_next, kept_self, kept_setOutQ, kept_count, kept_setFld]

theorem steps_execMbxRxRead (m : Master) (c : BitVec 4) (side : Bool) : Steps s (execMbxRxRead s m c side) := by
  simp only [execMbxRxRead, steps_ite, steps_next, kept_self, kept_reply]
  repeat' split
  all_goals simp only [steps_next, kept_self, kept_mk, kept_fold, kept_reply, kept_setOutQ]

theorem steps_execGetInfo (c : BitVec 4) (side : Bool) (core : BitVec 2) : Steps s (execGetInfo s c side core) := by
  simp only [execGetInfo, steps_ite, steps_next, kept_self, kept_mk, kept_fold, kept_setOutQ]
  repeat' split
  all_goals simp only [steps_next, kept_self, kept_mk, kept_fold, kept_setOutQ, kept_tickFree]

theorem steps_execMastCoreRestart (core : BitVec 2) : Steps s (execMastCoreRestart s core) := by
  simp only [execMastCoreRestart, steps_ite, ite_self, steps_next, kept_self, kept_foldl, implies_true, kept_post, kept_setFld, kept_emptyMbx, kept_freeLocks]

theorem steps_execVfFlr (vf : BitVec 4) : Steps s (execVfFlr s vf) := by
  simp only [execVfFlr, steps_ite, ite_self, steps_next, kept_self, kept_mk, kept_fold, kept_foldl, implies_true, kept_qpStopped, kept_qpStop, kept_freeLocks,
    kept_emptyMbx]

theorem steps_execFlrDone (vf : BitVec 4) : Steps s (execFlrDone s vf) := by
  simp only [execFlrDone, steps_ite, ite_self, steps_next, kept_self, kept_mk, and_self, kept_post]

theorem steps_execLockRead (m : Master) (l : BitVec 6) : Steps s (execLockRead s m l) := by
  simp only [execLockRead, steps_ite, ite_self, steps_next, kept_self, kept_reply, kept_setLock]

theorem steps_execLockRelease (m : Master) (l : BitVec 6) : Steps s (execLockRelease s m l) := by
  simp only [execLockRelease, steps_ite, ite_self, steps_next, kept_self, kept_setLock]

theorem steps_execLockForce (m : Master) (l : BitVec 6) : Steps s (execLockForce s m l) := by
  simp only [execLockForce, steps_ite, ite_self, steps_next, kept_self, kept_setLock]

theorem steps_execChainSet (m : Master) : Steps s (execChainSet s m) := by
  simp only [execChainSet, steps_ite, ite_self, steps_next, kept_self, kept_mk, and_self]

theorem steps_execChainClear (m : Master) : Steps s (execChainClear s m) := by
  simp only [execChainClear, steps_ite, ite_self, steps_next, kept_self, kept_mk, and_self]

theorem steps_execSnapStart (m : Master) : Steps s (execSnapStart s m) := by
  simp only [execSnapStart, steps_ite, ite_self, steps_next, kept_self, kept_mk, and_self, kept_setFld]

theorem steps_execSnapAbort (m : Master) : Steps s (execSnapAbort s m) := by
  simp only [execSnapAbort, steps_ite, ite_self, steps_next, kept_self, kept_mk, and_self, kept_setFld]

theorem steps_execSnapDone : Steps s (execSnapDone s) := by
  simp only [execSnapDone, steps_ite, ite_self, steps_next, kept_self, kept_ite, kept_mk, kept_fold, kept_tickFree, kept_hostWrite, kept_writeBody, kept_post,
    kept_count, kept_setFld]

/-! Commands of Machine/Pace.lean. -/

theorem steps_execPaceWindowEnd (fab : BitVec 24) (prs : BitVec 24) (lead : Option (BitVec 16)) : Steps s (execPaceWindowEnd s fab prs lead) := by
  simp only [execPaceWindowEnd, steps_ite, ite_self, steps_next, kept_self, kept_paceRead, kept_paceJudge]

/-! Commands of Machine/PonUp.lean. -/

theorem steps_execBurstReceive (c : Chan) (b : Burst) : Steps s (execBurstReceive s c b) := by
  simp only [execBurstReceive, steps_ite, ite_self, steps_next, kept_self, kept_ite, kept_count, kept_setFld, kept_setUs, kept_readCtx, kept_loadPreset,
    kept_heardBurst, kept_missedBurst]

theorem steps_execUpstreamPacketIngress (c : Chan) (fits : Bool) (ecc keyEcc : Ecc) : Steps s (execUpstreamPacketIngress s c fits ecc keyEcc) := by
  simp only [execUpstreamPacketIngress]
  repeat' split
  all_goals simp only [steps_next, kept_self, kept_setUs, kept_count, kept_readRec, kept_post, kept_momentFault, kept_setFld, kept_cleanRec, kept_setRecord,
    kept_readStore, kept_usAdmit]

theorem steps_execReasmTimeout (c : Chan) (a : AllocIx) : Steps s (execReasmTimeout s c a) := by
  simp only [execReasmTimeout]
  repeat' (split <;> simp only [ite_self, steps_next, kept_self, kept_ite, kept_abortOpen])

theorem steps_execRxLosHeld (c : Chan) (pin : Bool) : Steps s (execRxLosHeld s c pin) := by
  simp only [execRxLosHeld, steps_ite, ite_self, steps_next, kept_self, kept_ite, kept_setFld, kept_post, kept_onuMap]

theorem steps_execRogueObservation (c : Chan) (gap : Bool) (offset : BitVec 21) (passed : Byte) : Steps s (execRogueObservation s c gap offset passed) := by
  simp only [execRogueObservation, steps_ite, ite_self, steps_next, kept_self, kept_setFld, kept_count, kept_setUs, kept_post]

theorem steps_execRogueClear (c : Chan) : Steps s (execRogueClear s c) := by
  simp only [execRogueClear, steps_ite, ite_self, steps_next, kept_self, kept_post, kept_setFld, kept_setUs]

theorem steps_execAisFrameTimer (onu : Onu) : Steps s (execAisFrameTimer s onu) := by
  unfold execAisFrameTimer
  extract_lets n ws c p b
  split
  · split
    next t k ht =>
    have ht : Kept s t := ((kept_newPkt s s _ _ _).mpr (.refl s)).of_eq_pair ht
    extract_lets q
    split
    next u hu => exact (kept_count s u _ _).mpr ((kept_of_assignQueue_error s t hu).mpr ht)
    · simpa only [steps_ite, steps_next, kept_count, kept_dropped, kept_admitPkt, ite_self] using ht
  · exact .refl s

theorem steps_execPmSecondEnd (onu : Onu) (throughout : Bool) (ecc : Ecc) : Steps s (execPmSecondEnd s onu throughout ecc) := by
  simp only [execPmSecondEnd, steps_ite, ite_self, steps_next, kept_self, kept_ite, kept_readRec, kept_statePoison, kept_setOnu, kept_countN, kept_cleanRec,
    kept_pmCommit, kept_pmJudge]

theorem steps_execUflReadApplied (m : Master) (c : Chan) (ecc : Ecc) : Steps s (execUflReadApplied s m c ecc) := by
  simp only [execUflReadApplied, steps_ite, ite_self, steps_next, kept_self, kept_uflRead]

theorem steps_execUflReadStaged (m : Master) (c : Chan) : Steps s (execUflReadStaged s m c) := by
  simp only [execUflReadStaged, steps_ite, ite_self, steps_next, kept_self, kept_uflAnswer]

theorem steps_execUflWriteStaged (m : Master) (c : Chan) : Steps s (execUflWriteStaged s m c) := by
  simp only [execUflWriteStaged, steps_ite, ite_self, steps_next, kept_self, kept_setFld, kept_stageRec]

theorem steps_execUonuReadApplied (m : Master) (c : Chan) (ecc : Ecc) : Steps s (execUonuReadApplied s m c ecc) := by
  simp only [execUonuReadApplied, kept_self, steps_uonuRun, implies_true, kept_loadPreset, kept_uonuAnswer]

theorem steps_execUonuReadStaged (m : Master) (c : Chan) : Steps s (execUonuReadStaged s m c) := by
  simp only [execUonuReadStaged, kept_self, steps_uonuRun, implies_true, kept_uonuAnswer]

theorem steps_execUonuWriteStaged (m : Master) (c : Chan) : Steps s (execUonuWriteStaged s m c) := by
  simp only [execUonuWriteStaged, kept_self, steps_uonuRun, implies_true, kept_setFld, kept_stageRec]

theorem steps_execUonuClearPreset (m : Master) (c : Chan) : Steps s (execUonuClearPreset s m c) := by
  simp only [execUonuClearPreset, kept_self, steps_uonuRun, implies_true, kept_setFld, kept_setOnu]

/-! Commands of Machine/Ratline.lean. -/

theorem steps_execOpenDisc (via : Option Master) (c : Chan) (args : RatArgs) : Steps s (execOpenDisc s via c args) := by
  simp only [execOpenDisc]
  repeat' (split <;> simp only [ite_self, kept_self, kept_ite, steps_ratRun, implies_true, apply_ite Prod.fst, kept_setDisc, kept_showPool, kept_setFld])

theorem steps_execCloseDisc (via : Option Master) (c : Chan) (args : RatArgs) : Steps s (execCloseDisc s via c args) := by
  simp only [execCloseDisc, ite_self, kept_self, kept_ite, steps_ratRun, implies_true, apply_ite Prod.fst, kept_discEnd]

theorem steps_execCreate (via : Option Master) (c : Chan) (args : RatArgs) : Steps s (execCreate s via c args) := by
  simp only [execCreate, ite_self, kept_self, kept_ite, steps_ratRun, implies_true, apply_ite Prod.fst, kept_setOnu, kept_dropKey, kept_setKeys, kept_cleanRec]

theorem steps_execAssign (via : Option Master) (c : Chan) (args : RatArgs) : Steps s (execAssign s via c args) := by
  simp only [execAssign, ite_self, kept_self, kept_ite, steps_ratRun, implies_true, apply_ite Prod.fst, kept_setOnu]

theorem steps_execRange (via : Option Master) (c : Chan) (args : RatArgs) : Steps s (execRange s via c args) := by
  simp only [execRange, ite_self, kept_self, kept_ite, steps_ratRun, implies_true, apply_ite Prod.fst, kept_setOnu]

theorem steps_execActivate (via : Option Master) (c : Chan) (args : RatArgs) : Steps s (execActivate s via c args) := by
  simp only [execActivate, ite_self, kept_self, kept_ite, steps_ratRun, implies_true, apply_ite Prod.fst, kept_setOnu]

theorem steps_execSetEqd (via : Option Master) (c : Chan) (args : RatArgs) : Steps s (execSetEqd s via c args) := by
  refine steps_ratRun s via c 7 args (fun n a => ?_)
  dsimp only
  split
  · exact .refl s
  · split
    · exact .refl s
    · simp only [apply_ite Prod.fst, kept_ite, kept_setOnu, kept_self, ite_self]

theorem steps_execDeactivate (via : Option Master) (c : Chan) (args : RatArgs) : Steps s (execDeactivate s via c args) := by
  simp only [execDeactivate, ite_self, kept_self, kept_ite, steps_ratRun, implies_true, apply_ite Prod.fst, kept_toIdle]

theorem steps_execRelease (via : Option Master) (c : Chan) (args : RatArgs) : Steps s (execRelease s via c args) := by
  simp only [execRelease, ite_self, kept_self, kept_ite, steps_ratRun, implies_true, apply_ite Prod.fst, kept_setOnu]

theorem steps_execAbortRange (via : Option Master) (c : Chan) (args : RatArgs) : Steps s (execAbortRange s via c args) := by
  simp only [execAbortRange, ite_self, kept_self, kept_ite, steps_ratRun, implies_true, apply_ite Prod.fst, kept_endMeas]

theorem steps_execRatRead (via : Option Master) (c : Chan) (args : RatArgs) (ecc : Ecc) : Steps s (execRatRead s via c args ecc) := by
  simp only [execRatRead]
  repeat' (split <;> simp only [ite_self, kept_self, kept_ite, kept_foldl, implies_true, steps_ratRun, apply_ite Prod.fst, kept_readCtx, kept_setFld,
    kept_tell])

theorem steps_execDiscAnswer (c : Chan) (a : DiscAnswer) : Steps s (execDiscAnswer s c a) := by
  simp only [execDiscAnswer, steps_ite, ite_self, steps_next, kept_self, kept_setDisc, kept_tell, kept_setFld, kept_count]

theorem steps_execDiscSpanEnd (c : Chan) (energy : Bool) : Steps s (execDiscSpanEnd s c energy) := by
  simp only [execDiscSpanEnd, steps_ite, ite_self, steps_next, kept_self, kept_ite, kept_setDisc, kept_count]

theorem steps_execDiscWindowEnd (c : Chan) : Steps s (execDiscWindowEnd s c) := by
  simp only [execDiscWindowEnd, steps_ite, ite_self, steps_next, kept_self, kept_discEnd]

theorem steps_execRangeMeasured (onu : Onu) (offset : Word) (content : List Byte) : Steps s (execRangeMeasured s onu offset content) := by
  simp only [execRangeMeasured]
  repeat' split
  all_goals simp only [steps_next, kept_self, kept_tell, kept_endMeas, kept_setOnu]

theorem steps_execRangeTriesExhausted (onu : Onu) : Steps s (execRangeTriesExhausted s onu) := by
  simp only [execRangeTriesExhausted]
  repeat' (split <;> simp only [ite_self, steps_next, kept_self, kept_ite, kept_endMeas])

theorem steps_execChLeftBoundary (c : Chan) : Steps s (execChLeftBoundary s c) := by
  simp only [execChLeftBoundary, steps_ite, ite_self, steps_next, kept_self, kept_ite, kept_foldl, implies_true, kept_discEnd, kept_endMeas]

theorem steps_execRangeUpdateTimeout (onu : Onu) : Steps s (execRangeUpdateTimeout s onu) := by
  simp only [execRangeUpdateTimeout, steps_ite, ite_self, steps_next, kept_self, kept_post, kept_setOnu]

theorem steps_execOnuLost (onu : Onu) : Steps s (execOnuLost s onu) := by
  simp only [execOnuLost, steps_ite, ite_self, steps_next, kept_self, kept_post, kept_setOnu]

/-! Commands of Machine/Reg.lean. -/

theorem steps_execLowWordRead (m : Master) (addr : BitVec 26) : Steps s (execLowWordRead s m addr) := by
  simp only [execLowWordRead, steps_ite, steps_next, kept_mk, and_self]
  repeat' split
  all_goals simp only [steps_next, kept_self, kept_reply, kept_readReg]

theorem steps_execRcFieldRead (m : Master) (addr : BitVec 26) : Steps s (execRcFieldRead s m addr) := by
  simp only [execRcFieldRead, steps_ite, ite_self, steps_next, kept_self, kept_mk, and_self, kept_reply, kept_clearRc]

end Sys2Proof.Machine
end

section
/-! What no command changes, for every command: the three that may stop, FUSE_OWNER, and the others by their lemmas. -/

namespace Sys2Proof.Machine

/-- What the outcome of a command is allowed to be: a next state with the queue and the grade as they were, and the fused owner hash but for FUSE_OWNER, or the
unpredictable result of a reserved bit (R12). -/
def Settled (c : Instr) (s : State) : Host.Outcome State Fault Refusal → Prop
  | .next t => t.pending = s.pending ∧ t.sup.gradeH = s.sup.gradeH ∧ (s.rig.ownerHash ≠ none → t.rig.ownerHash = s.rig.ownerHash) ∧
      ((∀ m, c ≠ .fuseOwner m) → t.rig.ownerHash = s.rig.ownerHash)
  | .fault f => f = .unpredictable ∧
      ((∃ m a n d, c = .registerWrite m a n d ∧ d ≠ 0) ∨ (∃ m a d, c = .stagingWrite m a d ∧ d ≠ 0) ∨ (∃ m e d, c = .dpllConfigWrite m e d ∧ d ≠ 0))
  | .refused _ => False

theorem Kept.settled {s t : State} (h : Kept s t) (c : Instr) : Settled c s (.next t) := by
  obtain ⟨hq, hg, ho⟩ := h
  exact ⟨hq, hg, fun _ => ho, fun _ => ho⟩

theorem Steps.settled {s : State} {x : Host.Outcome State Fault Refusal} (h : Steps s x) (c : Instr) : Settled c s x := by
  cases x with
  | next t => exact Kept.settled h c
  | fault f => exact h.elim
  | refused r => exact h.elim

/-! REGISTER_WRITE. -/

theorem kept_of_writeWord {s t : State} {m : Master} {a : Nat} {w : Word} (h : s.writeWord m a w = some t) : Kept s t := by
  unfold State.writeWord at h
  split at h
  · cases h
    exact .refl s
  · split at h
    · cases h
      exact .refl s
    · split at h
      · cases h
        exact .refl s
      · split at h
        · cases h
        · split at h
          · cases h
            exact (kept_setFld s s _ _).mpr (.refl s)
          · cases h
            exact .refl s
          · cases h
            exact (kept_stageWord s _ _ _ _).mpr ((kept_storeWord s s _ _ _ _).mpr (.refl s))

theorem writeWord_zero_ne_none (s : State) (m : Master) (a : Nat) : s.writeWord m a 0 ≠ none := by
  intro h
  unfold State.writeWord at h
  split at h
  · cases h
  · split at h
    · cases h
    · split at h
      · cases h
      · split at h
        next hw => exact hw.2 (BitVec.zero_and)
        · split at h <;> cases h

theorem settled_registerWrite (s : State) (m : Master) (a : BitVec 26) (n : BitVec 4) (d : BitVec 64) :
    Settled (.registerWrite m a n d) s (execRegisterWrite s m a n d) := by
  have hstop (hd : d ≠ 0) : Settled (.registerWrite m a n d) s (.fault .unpredictable) := ⟨rfl, .inl ⟨m, a, n, d, rfl, hd⟩⟩
  have hzero (u : State) (b : Nat) (i : Nat) (h : u.writeWord m b ((d >>> i).setWidth 32) = none) : d ≠ 0 := by
    rintro rfl
    have h0 : ((0 : BitVec 64) >>> i).setWidth 32 = (0 : Word) := by simp
    exact writeWord_zero_ne_none u m b (h0 ▸ h)
  have hlow (u : State) (b : Nat) (h : u.writeWord m b (d.setWidth 32) = none) : d ≠ 0 := hzero u b 0 (by rwa [BitVec.ushiftRight_zero])
  unfold execRegisterWrite
  extract_lets b
  split
  · split
    next t ht => exact ((kept_done s t).mpr (kept_of_writeWord ht)).settled _
    next h => exact hstop (hlow s b h)
  · split
    · split
      next t ht =>
        split
        next u hu => exact ((kept_done s u).mpr ((kept_of_writeWord ht).trans (kept_of_writeWord hu))).settled _
        next h => exact hstop (hzero t (b + 4) 32 h)
      next h => exact hstop (hlow s b h)
    · exact (Kept.refl s).settled _

/-! STAGING_WRITE, DPLL_CONFIG_WRITE and FUSE_OWNER. -/

theorem settled_stagingWrite (s : State) (m : Master) (a : BitVec 26) (d : Word) : Settled (.stagingWrite m a d) s (execStagingWrite s m a d) := by
  unfold execStagingWrite
  extract_lets b
  split
  · exact (Kept.refl s).settled _
  · split
    · exact ((kept_done s s).mpr (.refl s)).settled _
    · split
      · exact ((kept_done s s).mpr (.refl s)).settled _
      next r _ =>
        split
        next h =>
          refine ⟨rfl, .inr (.inl ⟨m, a, d, rfl, ?_⟩)⟩
          rintro rfl
          exact h BitVec.zero_and
        · exact ((kept_done s _).mpr ((kept_stageWord s s _ _ _).mpr (.refl s))).settled _

theorem settled_dpllConfigWrite (s : State) (m : Master) (e : Bool) (d : Word) : Settled (.dpllConfigWrite m e d) s (execDpllConfigWrite s m e d) := by
  unfold execDpllConfigWrite
  split
  · exact (Kept.refl s).settled _
  · split
    next h =>
      refine ⟨rfl, .inr (.inr ⟨m, e, d, rfl, ?_⟩)⟩
      rintro rfl
      exact h BitVec.zero_and
    · refine Steps.settled ?_ _
      simp only [steps_ite, steps_next, kept_setFld, kept_setReg, kept_dpHold, kept_self, ite_self]

theorem settled_fuseOwner (s : State) (m : Master) : Settled (.fuseOwner m) s (execFuseOwner s m) := by
  unfold execFuseOwner
  split
  · split
    · extract_lets rig t
      have hk : Kept t (t.showBoot.complete cCompleted) := by simp only [kept_complete, kept_showBoot, kept_self]
      obtain ⟨hq, hg, ho⟩ := hk
      have ht : t.pending = s.pending ∧ t.sup.gradeH = s.sup.gradeH ∧ (s.rig.ownerHash ≠ none → t.rig.ownerHash = s.rig.ownerHash) := by
        simp only [t]
        split
        · exact ⟨rfl, rfl, fun _ => rfl⟩
        next h => exact ⟨rfl, rfl, fun hne => absurd (Option.isSome_iff_ne_none.mpr hne) h⟩
      obtain ⟨hq', hg', ho'⟩ := ht
      exact ⟨hq.trans hq', hg.trans hg', fun hne => ho.trans (ho' hne), fun hc => absurd rfl (hc m)⟩
    · exact ((kept_complete s s _).mpr (.refl s)).settled _
  · exact (Kept.refl s).settled _

theorem settled_exec (c : Instr) (s : State) : Settled c s (exec c s) := by
  cases c with
  | registerWrite m addr size data => exact settled_registerWrite s m addr size data
  | rcFieldRead m addr => exact (steps_execRcFieldRead s m addr).settled _
  | lowWordRead m addr => exact (steps_execLowWordRead s m addr).settled _
  | lockWrite m bits => exact (steps_execLockWrite s m bits).settled _
  | stagingWrite m addr data => exact settled_stagingWrite s m addr data
  | check_ m => exact (steps_execCheck s m).settled _
  | checkDone => exact (steps_execCheckDone s).settled _
  | apply_ m sched => exact (steps_execApply s m sched).settled _
  | abort_ m => exact (steps_execAbort s m).settled _
  | discard m => exact (steps_execDiscard s m).settled _
  | rerig m region slot => exact (steps_execRerig s m region slot).settled _
  | rerigDone => exact (steps_execRerigDone s).settled _
  | confirm m => exact (steps_execConfirm s m).settled _
  | attest m => exact (steps_execAttest s m).settled _
  | attestDone => exact (steps_execAttestDone s).settled _
  | fuseOwner m => exact settled_fuseOwner s m
  | loadTrim m => exact (steps_execLoadTrim s m).settled _
  | loadSlot m => exact (steps_execLoadSlot s m).settled _
  | loadSlotDone img flashOk => exact (steps_execLoadSlotDone s img flashOk).settled _
  | drainEnd us => exact (steps_execDrainEnd s us).settled _
  | drainForced => exact (steps_execDrainForced s).settled _
  | schedTimeReached => exact (steps_execSchedTimeReached s).settled _
  | trialExpiring => exact (steps_execTrialExpiring s).settled _
  | trialExpiry => exact (steps_execTrialExpiry s).settled _
  | powerOnReset => exact (steps_execPowerOnReset s).settled _
  | supplyReset supplies mv => exact (steps_execSupplyReset s supplies mv).settled _
  | supplyResetRelease => exact (steps_execSupplyResetRelease s).settled _
  | perstAssert => exact (steps_execPerstAssert s).settled _
  | hostReset m => exact (steps_execHostReset s m).settled _
  | pfFlr => exact (steps_execPfFlr s).settled _
  | startupPhaseEnd ms => exact (steps_execStartupPhaseEnd s ms).settled _
  | thermalSensorRead tj => exact (steps_execThermalSensorRead s tj).settled _
  | thermalResetRelease => exact (steps_execThermalResetRelease s).settled _
  | reefEnter mv => exact (steps_execReefEnter s mv).settled _
  | reefExit low now ns => exact (steps_execReefExit s low now ns).settled _
  | vddAuxLow => exact (steps_execVddAuxLow s).settled _
  | vddAuxResume => exact (steps_execVddAuxResume s).settled _
  | unretire m => exact (steps_execUnretire s m).settled _
  | marchTestDone passed => exact (steps_execMarchTestDone s passed).settled _
  | retRead m => exact (steps_execRetRead s m).settled _
  | paceWindowEnd fab prs lead => exact (steps_execPaceWindowEnd s fab prs lead).settled _
  | channelCtrlWrite m c enable txOff => exact (steps_execChannelCtrlWrite s m c enable txOff).settled _
  | ploamFlush m c => exact (steps_execPloamFlush s m c).settled _
  | chStartRunning c => exact (steps_execChStartRunning s c).settled _
  | chReadyTimeout c => exact (steps_execChReadyTimeout s c).settled _
  | moduleTxFault c => exact (steps_execModuleTxFault s c).settled _
  | moduleAbsent c => exact (steps_execModuleAbsent s c).settled _
  | quadRefUnlock q => exact (steps_execQuadRefUnlock s q).settled _
  | chFaultRetry c => exact (steps_execChFaultRetry s c).settled _
  | chFrameEndOff c => exact (steps_execChFrameEndOff s c).settled _
  | ponFrameStart c => exact (steps_execPonFrameStart s c).settled _
  | mapCaptureArm m c => exact (steps_execMapCaptureArm s m c).settled _
  | xgemEncapsulate c ecc keyEcc edgeBad => exact (steps_execXgemEncapsulate s c ecc keyEcc edgeBad).settled _
  | ploamOffer c q msg poison => exact (steps_execPloamOffer s c q msg poison).settled _
  | contextUpdate u poison => exact (steps_execContextUpdate s u poison).settled _
  | flwReadApplied m c ecc => exact (steps_execFlwReadApplied s m c ecc).settled _
  | flwReadStaged m c => exact (steps_execFlwReadStaged s m c).settled _
  | flwWriteStaged m c => exact (steps_execFlwWriteStaged s m c).settled _
  | burstReceive c b => exact (steps_execBurstReceive s c b).settled _
  | upstreamPacketIngress c fits ecc keyEcc => exact (steps_execUpstreamPacketIngress s c fits ecc keyEcc).settled _
  | reasmTimeout c a => exact (steps_execReasmTimeout s c a).settled _
  | rxLosHeld c pin => exact (steps_execRxLosHeld s c pin).settled _
  | rogueObservation c gap offset passed => exact (steps_execRogueObservation s c gap offset passed).settled _
  | rogueClear c => exact (steps_execRogueClear s c).settled _
  | aisFrameTimer onu => exact (steps_execAisFrameTimer s onu).settled _
  | pmSecondEnd onu throughout ecc => exact (steps_execPmSecondEnd s onu throughout ecc).settled _
  | uflReadApplied m c ecc => exact (steps_execUflReadApplied s m c ecc).settled _
  | uflReadStaged m c => exact (steps_execUflReadStaged s m c).settled _
  | uflWriteStaged m c => exact (steps_execUflWriteStaged s m c).settled _
  | uonuReadApplied m c ecc => exact (steps_execUonuReadApplied s m c ecc).settled _
  | uonuReadStaged m c => exact (steps_execUonuReadStaged s m c).settled _
  | uonuWriteStaged m c => exact (steps_execUonuWriteStaged s m c).settled _
  | uonuClearPreset m c => exact (steps_execUonuClearPreset s m c).settled _
  | openDisc via c args => exact (steps_execOpenDisc s via c args).settled _
  | closeDisc via c args => exact (steps_execCloseDisc s via c args).settled _
  | create via c args => exact (steps_execCreate s via c args).settled _
  | assign via c args => exact (steps_execAssign s via c args).settled _
  | range_ via c args => exact (steps_execRange s via c args).settled _
  | activate via c args => exact (steps_execActivate s via c args).settled _
  | setEqd via c args => exact (steps_execSetEqd s via c args).settled _
  | deactivate via c args => exact (steps_execDeactivate s via c args).settled _
  | release via c args => exact (steps_execRelease s via c args).settled _
  | abortRange via c args => exact (steps_execAbortRange s via c args).settled _
  | ratRead via c args ecc => exact (steps_execRatRead s via c args ecc).settled _
  | discAnswer c a => exact (steps_execDiscAnswer s c a).settled _
  | discSpanEnd c energy => exact (steps_execDiscSpanEnd s c energy).settled _
  | discWindowEnd c => exact (steps_execDiscWindowEnd s c).settled _
  | rangeMeasured onu offset content => exact (steps_execRangeMeasured s onu offset content).settled _
  | rangeTriesExhausted onu => exact (steps_execRangeTriesExhausted s onu).settled _
  | chLeftBoundary c => exact (steps_execChLeftBoundary s c).settled _
  | rangeUpdateTimeout onu => exact (steps_execRangeUpdateTimeout s onu).settled _
  | onuLost onu => exact (steps_execOnuLost s onu).settled _
  | mapBuildStart c bad => exact (steps_execMapBuildStart s c bad).settled _
  | mapLateDeadline c => exact (steps_execMapLateDeadline s c).settled _
  | mapVerdict c wrong d => exact (steps_execMapVerdict s c wrong d).settled _
  | statusReportTaken => exact (steps_execStatusReportTaken s).settled _
  | telltaleFrame => exact (steps_execTelltaleFrame s).settled _
  | alcReadApplied m ecc => exact (steps_execAlcReadApplied s m ecc).settled _
  | alcReadStaged m => exact (steps_execAlcReadStaged s m).settled _
  | alcWriteStaged m => exact (steps_execAlcWriteStaged s m).settled _
  | alcClearDynamic m => exact (steps_execAlcClearDynamic s m).settled _
  | uplinkPacketIngress p bytes fcsOk fits stamp sec ecc => exact (steps_execUplinkPacketIngress s p bytes fcsOk fits stamp sec ecc).settled _
  | packetParse src bad reads => exact (steps_execPacketParse s src bad reads).settled _
  | learnProcess reads => exact (steps_execLearnProcess s reads).settled _
  | agerVisit loc ecc shadowOk => exact (steps_execAgerVisit s loc ecc shadowOk).settled _
  | readSlot m ecc shadowOk => exact (steps_execReadSlot s m ecc shadowOk).settled _
  | lookup m reads => exact (steps_execLookup s m reads).settled _
  | lookupStaged m => exact (steps_execLookupStaged s m).settled _
  | insertStatic m => exact (steps_execInsertStatic s m).settled _
  | deleteStatic m => exact (steps_execDeleteStatic s m).settled _
  | deleteDynamic m => exact (steps_execDeleteDynamic s m).settled _
  | unpin m => exact (steps_execUnpin s m).settled _
  | flush m scope => exact (steps_execFlush s m scope).settled _
  | ruleReadApplied m ecc copyBad => exact (steps_execRuleReadApplied s m ecc copyBad).settled _
  | ruleReadStaged m => exact (steps_execRuleReadStaged s m).settled _
  | ruleWriteStaged m => exact (steps_execRuleWriteStaged s m).settled _
  | ruleZeroData m => exact (steps_execRuleZeroData s m).settled _
  | lagReadApplied m ecc copyBad => exact (steps_execLagReadApplied s m ecc copyBad).settled _
  | lagReadStaged m => exact (steps_execLagReadStaged s m).settled _
  | lagWriteStaged m => exact (steps_execLagWriteStaged s m).settled _
  | lagReturn l p => exact (steps_execLagReturn s l p).settled _
  | fabricIngress src => exact (steps_execFabricIngress s src).settled _
  | cellSlot retry lost => exact (steps_execCellSlot s retry lost).settled _
  | egressEnqueue d late => exact (steps_execEgressEnqueue s d late).settled _
  | spillBurstWrite f => exact (steps_execSpillBurstWrite s f).settled _
  | refill f tagBad poison => exact (steps_execRefill s f tagBad poison).settled _
  | bufferAlloc agent family size flow mayWait ptrBad => exact (steps_execBufferAlloc s agent family size flow mayWait ptrBad).settled _
  | bufferFree agent pool ptr bitBad => exact (steps_execBufferFree s agent pool ptr bitBad).settled _
  | portLinkLoss p => exact (steps_execPortLinkLoss s p).settled _
  | portLinkUp p => exact (steps_execPortLinkUp s p).settled _
  | portHoldTimeout p => exact (steps_execPortHoldTimeout s p).settled _
  | sheetPick p poison retired bad saEcc => exact (steps_execSheetPick s p poison retired bad saEcc).settled _
  | calendarSlot slot => exact (steps_execCalendarSlot s slot).settled _
  | gateEntryChange u => exact (steps_execGateEntryChange s u).settled _
  | gateListActive u => exact (steps_execGateListActive s u).settled _
  | pfcRefresh p => exact (steps_execPfcRefresh s p).settled _
  | pfcFrameReceived p en quanta => exact (steps_execPfcFrameReceived s p en quanta).settled _
  | pfcPauseExpiry p c => exact (steps_execPfcPauseExpiry s p c).settled _
  | pfcStorm p c => exact (steps_execPfcStorm s p c).settled _
  | nodeReadApplied m ecc copyBad => exact (steps_execNodeReadApplied s m ecc copyBad).settled _
  | nodeReadStaged m => exact (steps_execNodeReadStaged s m).settled _
  | nodeWriteStaged m => exact (steps_execNodeWriteStaged s m).settled _
  | nodeZeroData m => exact (steps_execNodeZeroData s m).settled _
  | qsRead m => exact (steps_execQsRead s m).settled _
  | qsReadClear m => exact (steps_execQsReadClear s m).settled _
  | uplinkFrameSent p stamp => exact (steps_execUplinkFrameSent s p stamp).settled _
  | rootLoad m data => exact (steps_execRootLoad s m data).settled _
  | mskLoad m => exact (steps_execMskLoad s m).settled _
  | keyLoad m ecc => exact (steps_execKeyLoad s m ecc).settled _
  | keyClear m => exact (steps_execKeyClear s m).settled _
  | groupGen m => exact (steps_execGroupGen s m).settled _
  | groupExport m ecc => exact (steps_execGroupExport s m ecc).settled _
  | groupActivate m => exact (steps_execGroupActivate s m).settled _
  | groupKeySwitch c => exact (steps_execGroupKeySwitch s c).settled _
  | caKekLoad m => exact (steps_execCaKekLoad s m).settled _
  | saInstall m => exact (steps_execSaInstall s m).settled _
  | saExport m ecc => exact (steps_execSaExport s m ecc).settled _
  | saDelete m => exact (steps_execSaDelete s m).settled _
  | setTxAn m => exact (steps_execSetTxAn s m).settled _
  | saveClear m ecc => exact (steps_execSaveClear s m ecc).settled _
  | saveWrapped m ecc => exact (steps_execSaveWrapped s m ecc).settled _
  | restore m => exact (steps_execRestore s m).settled _
  | pnRead m ecc => exact (steps_execPnRead s m ecc).settled _
  | cipherLaneFault p unit => exact (steps_execCipherLaneFault s p unit).settled _
  | set_ m => exact (steps_execSet s m).settled _
  | adjust m => exact (steps_execAdjust s m).settled _
  | setAtPps m => exact (steps_execSetAtPps s m).settled _
  | ppsInEdge phase => exact (steps_execPpsInEdge s phase).settled _
  | setAtPpsTimeout => exact (steps_execSetAtPpsTimeout s).settled _
  | incCommit m ns => exact (steps_execIncCommit s m ns).settled _
  | timeNowRead m => exact (steps_execTimeNowRead s m).settled _
  | sfcRead m c => exact (steps_execSfcRead s m c).settled _
  | tsqRead m u => exact (steps_execTsqRead s m u).settled _
  | ppsiRead m => exact (steps_execPpsiRead s m).settled _
  | ppsOutEdge => exact (steps_execPpsOutEdge s).settled _
  | ppsInLoss => exact (steps_execPpsInLoss s).settled _
  | todOutMessage => exact (steps_execTodOutMessage s).settled _
  | todoArm m len => exact (steps_execTodoArm s m len).settled _
  | todInByte b => exact (steps_execTodInByte s b).settled _
  | todiRead m => exact (steps_execTodiRead s m).settled _
  | todCalc m => exact (steps_execTodCalc s m).settled _
  | dpllConfigWrite m e data => exact settled_dpllConfigWrite s m e data
  | dpllLock e => exact (steps_execDpllLock s e).settled _
  | dpllRefLoss e => exact (steps_execDpllRefLoss s e).settled _
  | dpllRefReturn e => exact (steps_execDpllRefReturn s e).settled _
  | laneReefRequest m k reef => exact (steps_execLaneReefRequest s m k reef).settled _
  | laneRestart m k => exact (steps_execLaneRestart s m k).settled _
  | laneReefEntered k => exact (steps_execLaneReefEntered s k).settled _
  | laneLockAcquired k => exact (steps_execLaneLockAcquired s k).settled _
  | adaptWindow k toggles fom c0 c1 => exact (steps_execAdaptWindow s k toggles fom c0 c1).settled _
  | laneLockLoss k signal => exact (steps_execLaneLockLoss s k signal).settled _
  | fomFailTimer k => exact (steps_execFomFailTimer s k).settled _
  | slEnable m enable => exact (steps_execSlEnable s m enable).settled _
  | slSyncBlock k w stuff empty skew => exact (steps_execSlSyncBlock s k w stuff empty skew).settled _
  | heartbeatSend => exact (steps_execHeartbeatSend s).settled _
  | heartbeatReceived h => exact (steps_execHeartbeatReceived s h).settled _
  | heartbeatLoss => exact (steps_execHeartbeatLoss s).settled _
  | contestTakeover => exact (steps_execContestTakeover s).settled _
  | contestTimeout => exact (steps_execContestTimeout s).settled _
  | seekTimeout => exact (steps_execSeekTimeout s).settled _
  | manual m mateLockout => exact (steps_execManual s m mateLockout).settled _
  | forceActive m => exact (steps_execForceActive s m).settled _
  | lockoutSet m => exact (steps_execLockoutSet s m).settled _
  | lockoutClr m => exact (steps_execLockoutClr s m).settled _
  | resync m => exact (steps_execResync s m).settled _
  | revertNow m => exact (steps_execRevertNow s m).settled _
  | frameMessage f => exact (steps_execFrameMessage s f).settled _
  | onuMessage o => exact (steps_execOnuMessage s o).settled _
  | keysMessage h b => exact (steps_execKeysMessage s h b).settled _
  | learnMessage h recs => exact (steps_execLearnMessage s h recs).settled _
  | helloMessage h digest prec preferred => exact (steps_execHelloMessage s h digest prec preferred).settled _
  | timingMessage h arrival departed d => exact (steps_execTimingMessage s h arrival departed d).settled _
  | handoverMessage h sec ns => exact (steps_execHandoverMessage s h sec ns).settled _
  | syncReq h => exact (steps_execSyncReq s h).settled _
  | syncDone h => exact (steps_execSyncDone s h).settled _
  | learnMessageSend => exact (steps_execLearnMessageSend s).settled _
  | helloSend => exact (steps_execHelloSend s).settled _
  | timingSend departure => exact (steps_execTimingSend s departure).settled _
  | onuRoundRobinSend onu => exact (steps_execOnuRoundRobinSend s onu).settled _
  | handoverBoundary => exact (steps_execHandoverBoundary s).settled _
  | wtrExpiry => exact (steps_execWtrExpiry s).settled _
  | epochDiffTimer => exact (steps_execEpochDiffTimer s).settled _
  | matePathFault c => exact (steps_execMatePathFault s c).settled _
  | scrubStart m mem => exact (steps_execScrubStart s m mem).settled _
  | scrubAbort m => exact (steps_execScrubAbort s m).settled _
  | scrubWord ecc rewritten => exact (steps_execScrubWord s ecc rewritten).settled _
  | scrubDone us => exact (steps_execScrubDone s us).settled _
  | narrowWrite mem ix bytes => exact (steps_execNarrowWrite s mem ix bytes).settled _
  | mergeReadReturn mem ix ecc => exact (steps_execMergeReadReturn s mem ix ecc).settled _
  | mergeEntryTimeout mem ix => exact (steps_execMergeEntryTimeout s mem ix).settled _
  | flipArm m ctrl => exact (steps_execFlipArm s m ctrl).settled _
  | weakEntryAge mem ix => exact (steps_execWeakEntryAge s mem ix).settled _
  | spareCopyDone mem bank bad => exact (steps_execSpareCopyDone s mem bank bad).settled _
  | hpprDone stack row => exact (steps_execHpprDone s stack row).settled _
  | dramTempRead stack temp => exact (steps_execDramTempRead s stack temp).settled _
  | flashScan slot block corrected bad => exact (steps_execFlashScan s slot block corrected bad).settled _
  | flashRefresh block => exact (steps_execFlashRefresh s block).settled _
  | journalWrite verified => exact (steps_execJournalWrite s verified).settled _
  | jnlRead m crcOk => exact (steps_execJnlRead s m crcOk).settled _
  | mastCoreRestart core => exact (steps_execMastCoreRestart s core).settled _
  | txDoorbell m q tail => exact (steps_execTxDoorbell s m q tail).settled _
  | rxDoorbell m q tail => exact (steps_execRxDoorbell s m q tail).settled _
  | txDescriptorFetch q d acc => exact (steps_execTxDescriptorFetch s q d acc).settled _
  | rxPacketDeliver q d micOk acc => exact (steps_execRxPacketDeliver s q d micOk acc).settled _
  | dmaQpError q cause => exact (steps_execDmaQpError s q cause).settled _
  | qpEnable m q => exact (steps_execQpEnable s m q).settled _
  | qpDisable m q => exact (steps_execQpDisable s m q).settled _
  | qpStopDone q => exact (steps_execQpStopDone s q).settled _
  | qpOwnerWrite m q owner => exact (steps_execQpOwnerWrite s m q owner).settled _
  | vfFlr vf => exact (steps_execVfFlr s vf).settled _
  | flrDone vf => exact (steps_execFlrDone s vf).settled _
  | eventEntryWrite => exact (steps_execEventEntryWrite s).settled _
  | vectorHoldoffEnd v => exact (steps_execVectorHoldoffEnd s v).settled _
  | evqEnable m => exact (steps_execEvqEnable s m).settled _
  | evqDisable m => exact (steps_execEvqDisable s m).settled _
  | evqHeadWrite m head => exact (steps_execEvqHeadWrite s m head).settled _
  | mbxTxWrite m c side w => exact (steps_execMbxTxWrite s m c side w).settled _
  | mbxRxRead m c side => exact (steps_execMbxRxRead s m c side).settled _
  | getInfo c side core => exact (steps_execGetInfo s c side core).settled _
  | lockRead m l => exact (steps_execLockRead s m l).settled _
  | lockRelease m l => exact (steps_execLockRelease s m l).settled _
  | lockForce m l => exact (steps_execLockForce s m l).settled _
  | chainSet m => exact (steps_execChainSet s m).settled _
  | chainClear m => exact (steps_execChainClear s m).settled _
  | snapStart m => exact (steps_execSnapStart s m).settled _
  | snapAbort m => exact (steps_execSnapAbort s m).settled _
  | snapDone => exact (steps_execSnapDone s).settled _
  | i2cWrite m k dev reg count => exact (steps_execI2cWrite s m k dev reg count).settled _
  | i2cRead m k dev reg count => exact (steps_execI2cRead s m k dev reg count).settled _
  | i2cWriteByte m k dev reg => exact (steps_execI2cWriteByte s m k dev reg).settled _
  | i2cDone k result data => exact (steps_execI2cDone s k result data).settled _
  | perstDeassert => exact (steps_execPerstDeassert s).settled _
  | timeBaseTick => exact (steps_execTimeBaseTick s).settled _
  | loadTrimDone recs => exact (steps_execLoadTrimDone s recs).settled _
  | rowRemapDone stack row ppr => exact (steps_execRowRemapDone s stack row ppr).settled _

end Sys2Proof.Machine

namespace Sys2Proof.Proofs
open Sys2Proof.Machine

/-- Settles O2: each operation of the state keeps the queue, the grade and the fused owner hash, and each command is made of such operations. -/
theorem whatNoCommandChanges : Obligations.whatNoCommandChanges := by
  unfold Obligations.whatNoCommandChanges
  refine ⟨fun c s r h => ?_, fun c s f h => ?_, fun c s t h => ?_⟩
  all_goals
    have hc := settled_exec c s
    rw [h] at hc
    exact hc

end Sys2Proof.Proofs
end

section
/-! Proofs about Halyard's checker and its verdicts. -/

namespace Sys2Proof.Machine

/-! ### Sorting by a key -/

theorem insBy_perm {α : Type} (k : α → Nat) (x : α) (l : List α) : (insBy k x l).Perm (x :: l) := by
  induction l with
  | nil => exact .refl _
  | cons y r ih =>
    unfold insBy
    split
    · exact .refl _
    · exact (ih.cons y).trans (.swap x y r)

theorem sortBy_perm {α : Type} (k : α → Nat) (l : List α) : (sortBy k l).Perm l := by
  have hfold (l a : List α) : (l.foldl (fun a x => insBy k x a) a).Perm (l ++ a) := by
    induction l generalizing a with
    | nil => exact .refl a
    | cons x l ih => exact (ih _).trans (((insBy_perm k x a).append_left l).trans List.perm_middle)
  simpa [sortBy] using hfold l []

/-! ### The checker (R147) -/

/-- Two spans keep a guard between them, in either order. -/
def spansApart (gu : Nat) (x y : Nat × Nat) : Prop := x.2 + gu ≤ y.1 ∨ y.2 + gu ≤ x.1

theorem spansApart.symm {gu : Nat} {x y : Nat × Nat} (h : spansApart gu x y) : spansApart gu y x := Or.symm h

theorem Snap.span_le (n : Snap) (b : List MapEnt) : (n.span b).1 ≤ (n.span b).2 := Nat.le_add_right _ _

/-- Where consecutive spans keep the guard, any two do: a span does not end before it starts. -/
theorem pairwise_of_guarded {gu : Nat} {l : List (Nat × Nat)} (hl : ∀ x ∈ l, x.1 ≤ x.2) (h : guarded gu l = true) : l.Pairwise (spansApart gu) := by
  suffices l.Pairwise (fun x y => x.2 + gu ≤ y.1) from this.imp .inl
  induction l with
  | nil => exact .nil
  | cons a l ih =>
    cases l with
    | nil => exact List.pairwise_singleton _ _
    | cons b r =>
      simp only [guarded, Bool.and_eq_true, decide_eq_true_eq] at h
      obtain ⟨hab, hr⟩ := h
      have hbr := ih (fun x hx => hl x (List.mem_cons_of_mem _ hx)) hr
      refine List.pairwise_cons.mpr ⟨fun c hc => ?_, hbr⟩
      rcases List.mem_cons.mp hc with rfl | hc
      · exact hab
      · have hbc : b.2 + gu ≤ c.1 := List.rel_of_pairwise_cons hbr hc
        have hb : b.1 ≤ b.2 := hl b (by simp)
        omega

/-- The equalised bursts of a map: all but the discovery and ranging grants. -/
def equalised (m : List MapEnt) : List (List MapEnt) :=
  (mapBursts m).filter (fun b => b.all (fun e => decide (e.kind = 0) || decide (e.kind = 3)))

/-- What R147 asks of a map under a build's snapshot. -/
structure SafeMap (n : Snap) (m : List MapEnt) : Prop where
  short : m.length ≤ 512
  wellFormed : ∀ x ∈ mapBursts m, burstOk n x = true
  fewBursts : ∀ x ∈ mapBursts m, ∀ e ∈ x.head?, e.kind ≠ 1 → ((mapBursts m).filter (fun y => y.head?.map (·.onu) == some e.onu)).length ≤ 4
  inFrame : ∀ x ∈ equalised m, (n.span x).2 ≤ n.flen - n.gu
  clear : ∀ x ∈ equalised m, ∀ r ∈ n.reserves, meets n (n.span x) r = false
  apart : (equalised m).Pairwise (fun x y => spansApart n.gu (n.span x) (n.span y))

/-- The checker accepts safe maps only. -/
theorem safeMap_of_checkMap {n : Snap} {m : List MapEnt} (h : checkMap n m = 0) : SafeMap n m := by
  have hperm := sortBy_perm (·.1) ((equalised m).map n.span)
  have hspan {x : List MapEnt} (hx : x ∈ equalised m) : n.span x ∈ sortBy (·.1) ((equalised m).map n.span) :=
    hperm.mem_iff.mpr (List.mem_map_of_mem hx)
  unfold checkMap at h
  simp only [← equalised.eq_1] at h
  generalize sortBy (·.1) ((equalised m).map n.span) = spans at h hperm hspan
  by_cases hlen : m.length > 512
  · simp [hlen] at h
  rw [if_neg hlen] at h
  by_cases hform : (mapBursts m).all (burstOk n) = false
  · simp [hform] at h
  rw [if_neg hform] at h
  by_cases hend : spans.any (fun x => decide (n.flen - n.gu < x.2)) = true
  · simp [hend] at h
  rw [if_neg hend] at h
  split at h
  · cases h
  next hfew =>
  by_cases hguard : guarded n.gu spans = false
  · simp [hguard] at h
  rw [if_neg hguard] at h
  by_cases hres : spans.any (fun x => n.reserves.any (meets n x)) = true
  · simp [hres] at h
  rw [Bool.not_eq_false] at hguard hform
  simp only [List.any_eq_true, not_exists, not_and, decide_eq_true_eq, Bool.not_eq_true] at hend hres
  constructor
  · omega
  · exact List.all_eq_true.mp hform
  · intro x hx e he hk
    rw [List.any_eq_true] at hfew
    by_contra hmany
    refine hfew ⟨x, hx, ?_⟩
    obtain ⟨r, rfl⟩ := List.head?_eq_some_iff.mp he
    simpa [hk] using hmany
  · exact fun x hx => by have := hend _ (hspan hx); omega
  · exact fun x hx r hr => hres _ (hspan hx) r hr
  · have hle : ∀ x ∈ spans, x.1 ≤ x.2 := fun x hx => by
      obtain ⟨b, -, rfl⟩ := List.mem_map.mp (hperm.mem_iff.mp hx)
      exact n.span_le b
    have hall := (hperm.pairwise_iff spansApart.symm).mp (pairwise_of_guarded hle hguard)
    exact List.pairwise_map.mp hall

/-! ### The verdicts that wait for a channel -/

/-- The verdicts on channel k that wait for their frames. -/
def State.verdicts (s : State) (k : Nat) : List Verdict := (s.halOf k).verdicts

variable (s : State) (k : Nat)

/-- The verdicts stand in Halyard's table of channels. -/
theorem State.verdicts_of_ch {s t : State} (h : t.hal.ch = s.hal.ch) (k : Nat) : t.verdicts k = s.verdicts k := by
  unfold State.verdicts State.halOf
  rw [h]

theorem State.verdicts_of_hal {s t : State} (h : t.hal = s.hal) (k : Nat) : t.verdicts k = s.verdicts k := verdicts_of_ch (congrArg HalSt.ch h) k

/-- A fold keeps the verdicts when each step does. -/
theorem State.verdicts_foldl {α : Type} {f : State → α → State} (h : ∀ t x, (f t x).verdicts k = t.verdicts k) (l : List α) :
    (l.foldl f s).verdicts k = s.verdicts k := by
  induction l generalizing s with
  | nil => rfl
  | cons x l ih => exact (ih _).trans (h s x)

theorem State.verdicts_ite (c : Prop) [Decidable c] (t u : State) : (if c then t else u).verdicts k = if c then t.verdicts k else u.verdicts k :=
  apply_ite (State.verdicts · k) c t u

/-- Channel c's entry takes its verdicts; the other channels keep theirs. -/
theorem State.verdicts_setHal (c : Nat) (h : HalCh) : (s.setHal c h).verdicts k = if k = c then h.verdicts else s.verdicts k := by
  unfold State.verdicts State.halOf State.setHal
  rw [Tbl.find_put]
  split <;> rfl

/-- An entry with the channel's own verdicts keeps them all. -/
theorem State.verdicts_setHal_same {s : State} {c : Nat} {h : HalCh} (e : h.verdicts = s.verdicts c) (k : Nat) : (s.setHal c h).verdicts k = s.verdicts k := by
  rw [State.verdicts_setHal]
  split
  next hk => rw [hk, e]
  · rfl

@[simp] theorem State.verdicts_setFld (f : Fld) (v : Nat) : (s.setFld f v).verdicts k = s.verdicts k := (rfl)
@[simp] theorem State.verdicts_countN (c : Ctr) (i j n : Nat) : (s.countN c i j n).verdicts k = s.verdicts k := verdicts_of_hal (by simp) k
@[simp] theorem State.verdicts_count (c : Ctr) (i : Nat) : (s.count c i).verdicts k = s.verdicts k := verdicts_of_hal (by simp) k
@[simp] theorem State.verdicts_postRaw (c : Nat) (d : List Nat) : (s.postRaw c d).verdicts k = s.verdicts k := verdicts_of_hal (by simp) k
@[simp] theorem State.verdicts_post (c : Nat) (d : List Nat) : (s.post c d).verdicts k = s.verdicts k := verdicts_of_hal (by simp) k
@[simp] theorem State.verdicts_setDisc (c : Nat) (d : DiscSt) : (s.setDisc c d).verdicts k = s.verdicts k := (rfl)
@[simp] theorem State.verdicts_setOnu (n : Nat) (o : OnuCtx) : (s.setOnu n o).verdicts k = s.verdicts k := (rfl)
@[simp] theorem State.verdicts_setAllocDyn (a : Nat) (d : AllocDyn) : (s.setAllocDyn a d).verdicts k = s.verdicts k := (rfl)
@[simp] theorem State.verdicts_recovered (r c o : Nat) : (s.recovered r c o).verdicts k = s.verdicts k := (rfl)

@[simp] theorem State.hal_noteFault (r c o : Nat) : (s.noteFault r c o).hal = s.hal := by
  unfold State.noteFault
  dsimp only
  split <;> simp

@[simp] theorem State.hal_ladder (c o : Nat) : (s.ladder c o).1.hal = s.hal := by
  unfold State.ladder
  split <;> simp [State.setFaultList]

@[simp] theorem State.hal_recordRetire (c o : Nat) : (s.recordRetire c o).hal = s.hal := by
  unfold State.recordRetire
  split <;> simp

@[simp] theorem State.hal_mirror (typ : Nat) (blocks : List Nat) : (s.mirror typ blocks).hal = s.hal := by
  unfold State.mirror State.sendStay
  split
  · split <;> simp
  · rfl

@[simp] theorem State.verdicts_noteFault (r c o : Nat) : (s.noteFault r c o).verdicts k = s.verdicts k := verdicts_of_hal (by simp) k
@[simp] theorem State.verdicts_ladder (c o : Nat) : (s.ladder c o).1.verdicts k = s.verdicts k := verdicts_of_hal (by simp) k
@[simp] theorem State.verdicts_recordRetire (c o : Nat) : (s.recordRetire c o).verdicts k = s.verdicts k := verdicts_of_hal (by simp) k
@[simp] theorem State.verdicts_mirrorFrame (c f ep : Nat) (held : Bool) (m : List MapEnt) : (s.mirrorFrame c f ep held m).verdicts k = s.verdicts k :=
  verdicts_of_hal (State.hal_mirror _ _ _) k

theorem State.verdicts_withHal {s : State} {x : HalSt} (h : x.ch = s.hal.ch) (k : Nat) : ({ s with hal := x }).verdicts k = s.verdicts k := verdicts_of_ch h k

@[simp] theorem State.verdicts_showTells : s.showTells.verdicts k = s.verdicts k := by
  unfold State.showTells
  extract_lets n t
  have ht : t.verdicts k = s.verdicts k := by simp only [t, State.verdicts_setFld]
  split
  · exact (State.verdicts_withHal (by rfl) k).trans ht
  · exact ht

@[simp] theorem State.verdicts_dropTells (c : Nat) : (s.dropTells c).verdicts k = s.verdicts k := by
  unfold State.dropTells
  rw [State.verdicts_showTells, State.verdicts_countN]
  exact State.verdicts_withHal (by rfl) k

@[simp] theorem State.verdicts_chargeMap (sfc ac : Nat) (m : List MapEnt) (l : List (Nat × List Nat)) : (s.chargeMap sfc ac m l).verdicts k = s.verdicts k :=
  State.verdicts_foldl s k (fun _ _ => by exact State.verdicts_setAllocDyn _ _ _ _) l

@[simp] theorem State.verdicts_agePloamu (c : Nat) (m : List MapEnt) (onus : List Nat) : (s.agePloamu c m onus).verdicts k = s.verdicts k :=
  State.verdicts_setHal_same (by rfl) k

@[simp] theorem State.verdicts_reinit (c : Nat) : (s.reinit c).verdicts k = s.verdicts k := by
  unfold State.reinit
  extract_lets d t u h v r m w
  have hv : v.verdicts k = s.verdicts k := by
    rw [State.verdicts_setHal_same (by rfl), State.verdicts_dropTells]
    exact State.verdicts_foldl s k (fun _ _ => State.verdicts_setAllocDyn _ _ _ _) _
  have hw : w.verdicts k = v.verdicts k := by
    unfold w
    split
    · exact State.verdicts_of_hal (by rfl) k
    · exact State.verdicts_count _ _ _ _
  rw [State.verdicts_postRaw, hw, hv]

@[simp] theorem State.verdicts_escalate (c reason : Nat) : (s.escalate c reason).verdicts k = s.verdicts k := by
  unfold State.escalate
  extract_lets h lim fault
  split
  next n hn =>
    extract_lets t
    have ht : t.verdicts k = s.verdicts k := State.verdicts_setHal_same (by rfl) k
    split
    · simp only [State.verdicts_recovered, State.verdicts_post, State.verdicts_setFld]
      rw [State.verdicts_setHal_same (by rfl), ht]
    · exact ht
  next hn =>
    split
    next t perm hp =>
    have ht : t.verdicts k = s.verdicts k := by
      rw [show t = (if fault = true then s.ladder 7 c else (s, false)).1 by rw [hp]]
      split
      · exact State.verdicts_ladder s k 7 c
      · rfl
    extract_lets x u v
    have hv : v.verdicts k = s.verdicts k := by
      rw [State.verdicts_setFld, State.verdicts_setHal_same (by rfl), ht]
    split
    · rw [State.verdicts_reinit, hv]
    · exact hv

@[simp] theorem State.verdicts_holdFrame (c sfc reason : Nat) : (s.holdFrame c sfc reason).verdicts k = s.verdicts k := by
  unfold State.holdFrame
  extract_lets h act t u hal v w x y
  have hv : v.verdicts k = s.verdicts k := by
    rw [State.verdicts_withHal (by rfl), State.verdicts_agePloamu, State.verdicts_chargeMap]
  have hz : y.verdicts k = v.verdicts k := by
    simp only [y, x, w, State.verdicts_ite, State.verdicts_post, State.verdicts_noteFault, State.verdicts_countN, ite_self]
  rw [State.verdicts_escalate, State.verdicts_setFld, State.verdicts_setFld, State.verdicts_setHal_same (by rfl), hz, hv]

@[simp] theorem State.verdicts_undoPlans (n : Snap) : (s.undoPlans n).verdicts k = s.verdicts k := by
  unfold State.undoPlans
  extract_lets c hal t
  rw [State.verdicts_foldl t k (fun u p => ?_)]
  · exact State.verdicts_withHal (by rfl) k
  split
  · extract_lets d
    split
    · exact State.verdicts_setDisc _ _ _ _
    · rfl
  · extract_lets x
    split
    · exact State.verdicts_setOnu _ _ _ _
    · rfl

/-- A permanent fault of class 5 or 6 retires its resource; a fault counts on the ladder either way. -/
@[simp] theorem State.verdicts_builderFaults (c n : Nat) : (s.builderFaults c n).verdicts k = s.verdicts k := by
  unfold State.builderFaults
  refine State.verdicts_foldl s k (fun t b => ?_) _
  dsimp only
  split <;> simp

@[simp] theorem State.verdicts_checkerFault (c : Nat) : (s.checkerFault c).verdicts k = s.verdicts k := by
  unfold State.checkerFault
  dsimp only
  split <;> simp

@[simp] theorem State.verdicts_endEpisode (c : Nat) : (s.endEpisode c).verdicts k = s.verdicts k := by
  unfold State.endEpisode
  extract_lets h t
  have ht : t.verdicts k = s.verdicts k := by simp only [t, State.verdicts_ite, State.verdicts_recovered, State.verdicts_post, ite_self]
  rw [State.verdicts_setFld, State.verdicts_setHal_same (by rfl), ht]

/-- The verdict that holds a build's frame for a reason. -/
def Build.heldFor (b : Build) (reason : Nat) : Verdict := { sfc := b.snap.sfc, map := none, reason := reason, epoch := b.snap.epoch, cfg := b.snap.cfg }

/-- The verdict that accepts a map for a build's frame. -/
def Build.acceptedWith (b : Build) (m : List MapEnt) : Verdict := { sfc := b.snap.sfc, map := some m, reason := 0, epoch := b.snap.epoch, cfg := b.snap.cfg }

theorem State.verdicts_rejectMap (c : Nat) (b : Build) (reason : Nat) : (s.rejectMap c b reason).verdicts c = s.verdicts c ++ [b.heldFor reason] := by
  unfold State.rejectMap
  extract_lets t u h v
  have hu : u.verdicts c = s.verdicts c := by simp only [u, t, State.verdicts_holdFrame, State.verdicts_countN, State.verdicts_undoPlans]
  rw [State.verdicts_mirrorFrame, State.verdicts_setHal, if_pos rfl, ← hu]
  rfl

theorem State.verdicts_acceptMap (c : Nat) (b : Build) (m : List MapEnt) : (s.acceptMap c b m).verdicts c = s.verdicts c ++ [b.acceptedWith m] := by
  unfold State.acceptMap
  extract_lets n t u v h w
  have hv : v.verdicts c = s.verdicts c := by
    simp only [v, u, t, State.verdicts_setFld, State.verdicts_endEpisode, State.verdicts_countN, State.verdicts_count, State.verdicts_agePloamu,
      State.verdicts_chargeMap]
  rw [State.verdicts_mirrorFrame, State.verdicts_setHal, if_pos rfl, ← hv]
  rfl

/-- MAP_VERDICT adds at most one verdict: it holds the frame of the oldest build, or accepts a map that the checker found right. -/
theorem verdicts_execMapVerdict {s t : State} {c : Chan} {w : Option (List (BitVec 64))} {d : Delivered} (h : execMapVerdict s c w d = .next t) :
    t.verdicts c.toNat = s.verdicts c.toNat ∨
    ∃ b, (s.halOf c.toNat).builds.head? = some b ∧
      ((∃ r, t.verdicts c.toNat = s.verdicts c.toNat ++ [b.heldFor r]) ∨
       ∃ m, checkMap b.snap m = 0 ∧ t.verdicts c.toNat = s.verdicts c.toNat ++ [b.acceptedWith m]) := by
  unfold execMapVerdict at h
  extract_lets k q at h
  split at h
  · cases h
    exact .inl rfl
  next b rest hb =>
    extract_lets u v m r at h
    have hv : v.verdicts k = s.verdicts k := by rw [State.verdicts_setFld, State.verdicts_setHal_same (by rfl)]
    refine .inr ⟨b, by rw [hb]; rfl, ?_⟩
    rw [← hv]
    split at h
    · cases h
      exact .inl ⟨8, State.verdicts_rejectMap _ _ _ _⟩
    split at h
    next n hn =>
      cases h
      exact .inl ⟨1, by rw [State.verdicts_rejectMap, State.verdicts_builderFaults]⟩
    split at h
    · cases h
      exact .inl ⟨r, State.verdicts_rejectMap _ _ _ _⟩
    next hr =>
    split at h
    · cases h
      exact .inl ⟨7, by rw [State.verdicts_rejectMap, State.verdicts_checkerFault]⟩
    · cases h
      exact .inr ⟨m, not_not.mp hr, by rw [State.verdicts_setFld, State.verdicts_acceptMap]⟩

/-- A new verdict of MAP_VERDICT that carries a map is of the oldest build, and its map is safe under that build's snapshot. -/
theorem safeMap_of_new_verdict {s t : State} {c : Chan} {w : Option (List (BitVec 64))} {d : Delivered} {v : Verdict} {m : List MapEnt}
    (h : exec (.mapVerdict c w d) s = .next t) (hnew : v ∈ t.verdicts c.toNat) (hold : v ∉ s.verdicts c.toNat) (hm : v.map = some m) :
    ∃ b, (s.halOf c.toNat).builds.head? = some b ∧ v.sfc = b.snap.sfc ∧ SafeMap b.snap m := by
  rcases verdicts_execMapVerdict h with hsame | ⟨b, hb, ⟨r, hheld⟩ | ⟨m', hcheck, hacc⟩⟩
  · exact absurd (hsame ▸ hnew) hold
  · obtain rfl : v = b.heldFor r := by simpa [hheld, hold] using hnew
    cases hm
  · obtain rfl : v = b.acceptedWith m' := by simpa [hacc, hold] using hnew
    obtain rfl : m' = m := Option.some.inj hm
    exact ⟨b, hb, rfl, safeMap_of_checkMap hcheck⟩

end Sys2Proof.Machine

namespace Sys2Proof.Proofs

open Sys2Proof.Machine Sys2Proof.Safety

/-- Settles O23: the one verdict with a map that MAP_VERDICT adds stands on the checker's answer 0, and each clause of R147 is one of the checker's rules. -/
theorem acceptedMapsSafe : Obligations.acceptedMapsSafe := by
  intro c w d s t v m h hnew hold hm
  obtain ⟨b, hb, hsfc, hsafe⟩ := safeMap_of_new_verdict h hnew hold hm
  exact ⟨b, hb, hsfc, hsafe.short, hsafe.wellFormed, hsafe.fewBursts, fun x hx => ⟨hsafe.inFrame x hx, hsafe.clear x hx⟩, hsafe.apart⟩

end Sys2Proof.Proofs
end

section
/-! Frames of operations of the state, fields beside an update of another part, and entries of the channel and context tables. -/

namespace Sys2Proof.Safety

open Sys2Proof.Machine

theorem FrameBut.sup {l : List Part} {s t : State} (h : FrameBut l s t) (x : SupSt) (hl : .sup ∈ l) : FrameBut l s { t with sup := x } := fun p hp => by
  have := h p hp
  cases p <;> simp_all [Part.Same]

theorem FrameBut.countN {l : List Part} {s t : State} (h : FrameBut l s t) (c : Ctr) (i j n : Nat) (hl : .cnt ∈ l) : FrameBut l s (t.countN c i j n) :=
  fun p hp => by
    have := h p hp
    cases p <;> simp_all [Part.Same]

theorem FrameBut.count {l : List Part} {s t : State} (h : FrameBut l s t) (c : Ctr) (i : Nat) (hl : .cnt ∈ l) : FrameBut l s (t.count c i) :=
  h.countN c i 0 1 hl

theorem FrameBut.jnlPersist {l : List Part} {s t : State} (h : FrameBut l s t) (ty co cl ob : Nat) (d : List Nat) (a : JnlAct) (hl : .mem ∈ l) :
    FrameBut l s (t.jnlPersist ty co cl ob d a) := fun p hp => by
  have := h p hp
  cases p <;> simp_all [Part.Same]

theorem FrameBut.ds {l : List Part} {s t : State} (h : FrameBut l s t) (x : Table DsSt) (hl : .ds ∈ l) : FrameBut l s { t with ds := x } := fun p hp => by
  have := h p hp
  cases p <;> simp_all [Part.Same]

theorem FrameBut.onu {l : List Part} {s t : State} (h : FrameBut l s t) (x : Table OnuCtx) (hl : .onu ∈ l) : FrameBut l s { t with onu := x } := fun p hp => by
  have := h p hp
  cases p <;> simp_all [Part.Same]

theorem FrameBut.hal {l : List Part} {s t : State} (h : FrameBut l s t) (x : HalSt) (hl : .hal ∈ l) : FrameBut l s { t with hal := x } := fun p hp => by
  have := h p hp
  cases p <;> simp_all [Part.Same]

theorem FrameBut.toParse {l : List Part} {s t : State} (h : FrameBut l s t) (x : Table (List Pkt)) (hl : .toParse ∈ l) :
    FrameBut l s { t with toParse := x } := fun p hp => by
  have := h p hp
  cases p <;> simp_all [Part.Same]

theorem FrameBut.pktNo {l : List Part} {s t : State} (h : FrameBut l s t) (x : Nat) (hl : .pktNo ∈ l) : FrameBut l s { t with pktNo := x } := fun p hp => by
  have := h p hp
  cases p <;> simp_all [Part.Same]

theorem FrameBut.emit {l : List Part} {s t : State} (h : FrameBut l s t) (o : Output) (hl : .out ∈ l) : FrameBut l s (t.emit o) := fun p hp => by
  have := h p hp
  cases p <;> simp_all [Part.Same]

end Sys2Proof.Safety

namespace Sys2Proof.Machine

open Sys2Proof.Safety

/-! ### Fields and records -/

/-- What a persistent record reads: the journal's queues, the time and the epoch. -/
theorem State.mem_jnlPersist_congr {s t : State} (hm : t.mem = s.mem) (ht : t.tim = s.tim) (he : t.fld F.rigEpoch_current = s.fld F.rigEpoch_current)
    (ty co cl ob : Nat) (d : List Nat) (a : JnlAct) : (t.jnlPersist ty co cl ob d a).mem = (s.jnlPersist ty co cl ob d a).mem := by
  have hr : t.jnlRec ty co cl ob d a = s.jnlRec ty co cl ob d a := by unfold State.jnlRec; rw [ht, he]
  unfold State.jnlPersist
  dsimp only
  rw [hr, hm]
  split <;> rfl

theorem State.flag_setFld_same (s : State) (f : Fld) (v : Nat) (h : f.lo + f.width ≤ 32) : (s.setFld f v).flag f = decide (v % 2 ^ f.width = 1) := by
  unfold State.flag
  rw [State.fld_setFld_same s f v h]

theorem State.flag_setFld_other (s : State) {f g : Fld} (v : Nat) (h : f.lo + f.width ≤ 32)
    (d : g.addr ≠ f.addr ∨ g.lo + g.width ≤ f.lo ∨ f.lo + f.width ≤ g.lo) : (s.setFld f v).flag g = s.flag g := by
  unfold State.flag
  rw [State.fld_setFld_other s v h d]

theorem State.fld_withSup (s : State) (x : SupSt) (f : Fld) : ({ s with sup := x }).fld f = s.fld f := (rfl)

theorem State.fld_withHal (s : State) (x : HalSt) (f : Fld) : ({ s with hal := x }).fld f = s.fld f := (rfl)

/-! ### Entries of the tables -/

@[simp] theorem State.dsOf_setDs_same (s : State) (c : Nat) (d : DsSt) : (s.setDs c d).dsOf c = d := Tbl.find_put_same _ _ _ _

@[simp] theorem State.dsOf_count (s : State) (C : Ctr) (i c : Nat) : (s.count C i).dsOf c = s.dsOf c := by unfold State.dsOf; rw [State.count_ds]

@[simp] theorem State.dsOf_countN (s : State) (C : Ctr) (i j n c : Nat) : (s.countN C i j n).dsOf c = s.dsOf c := by unfold State.dsOf; rw [State.countN_ds]

@[simp] theorem State.dsOf_emit (s : State) (o : Output) (c : Nat) : (s.emit o).dsOf c = s.dsOf c := (rfl)

theorem State.onuOf_setOnu (s : State) (n j : Nat) (o : OnuCtx) : (s.setOnu n o).onuOf j = if j = n then o else s.onuOf j := Tbl.find_put _ _ _ _ _

@[simp] theorem State.halOf_setHal_same (s : State) (c : Nat) (h : HalCh) : (s.setHal c h).halOf c = h := Tbl.find_put_same _ _ _ _

/-- A clean read of a word that holds neither poison nor a flipped bit changes nothing (R318). -/
theorem State.readRec_clean {s : State} {mem kind ix : Nat} (h : RecClean s mem kind ix) : s.readRec mem kind ix .clean = (s, false) := by
  obtain ⟨hpoison, hflip⟩ := h
  simp [State.readRec, State.readWord, State.eccOf, hpoison, hflip]

theorem State.dropped_of_tsReq_none {s : State} {p : Pkt} (h : p.tsReq = none) : s.dropped p = s := by
  rw [State.dropped, h]

end Sys2Proof.Machine
end

section
/-! Proofs about reefed hold, the auxiliary supply and un-retirement. -/

namespace Sys2Proof.Machine

open Sys2Proof.Safety

/-! ### Reefed hold (R369 to R371) -/

theorem exec_reefEnter_held {s : State} (mv : BitVec 16) (h : s.sup.reefed = true) : exec (.reefEnter mv) s = .next s := if_pos h

/-- Reefed hold as it is entered, before its event. -/
def State.reefEntered (s : State) (mv : Nat) : State :=
  let t := { s with sup := { s.sup with reefed := true, holdMin := mv, vddCore := mv } }
  let t := ((t.setFld F.glbPaceSts_reefed 1).setFld F.glbSupSts_reefed_seen 1).setFld F.glbSupReef_entries (min 255 (t.fld F.glbSupReef_entries + 1))
  (t.setFld F.glbSupVmin_vmin (min (t.fld F.glbSupVmin_vmin) mv)).showBusy.count Cn.reefEntries 0

theorem exec_reefEnter {s : State} (mv : BitVec 16) (h : s.sup.reefed = false) :
    exec (.reefEnter mv) s = .next ((s.reefEntered mv.toNat).post 0x0120 []) := if_neg (by simp [h])

/-- The fields that entering reefed hold writes. -/
theorem State.reefEntered_fld (s : State) (mv : Nat) :
    (s.reefEntered mv).flag F.glbPaceSts_reefed = true ∧ (s.reefEntered mv).flag F.glbSupSts_reefed_seen = true ∧
    (s.reefEntered mv).fld F.glbSupReef_entries = min 255 (s.fld F.glbSupReef_entries + 1) ∧
    (s.reefEntered mv).fld F.glbSupVmin_vmin = min (s.fld F.glbSupVmin_vmin) mv := by
  have hv := s.fld_lt F.glbSupVmin_vmin
  unfold State.reefEntered State.showBusy State.flag
  simp (disch := decide) only [State.count_fld_at, State.fld_setFld_other, State.fld_setFld_same, State.fld_withSup]
  refine ⟨rfl, rfl, Nat.mod_eq_of_lt ?_, Nat.mod_eq_of_lt ?_⟩
  · show _ < 256
    omega
  · exact (Nat.min_le_left _ _).trans_lt hv

theorem State.reefEntered_flds (s : State) (mv : Nat) :
    FldsBut [F.glbPaceSts_reefed, F.glbSupSts_reefed_seen, F.glbSupReef_entries, F.glbSupVmin_vmin, F.rigSts_busy] s (s.reefEntered mv) := by
  refine FldsBut.count_ ?_ _ _
  iterate 5 refine FldsBut.setFld ?_ _ (by simp) (by decide)
  exact (FldsBut.refl _ s).sup _

theorem State.reefEntered_frame (s : State) (mv : Nat) : FrameBut [.regs, .sup, .cnt] s (s.reefEntered mv) := by
  refine FrameBut.count ?_ _ _ (by simp)
  iterate 5 refine FrameBut.setFld ?_ _ _ (by simp)
  exact (FrameBut.refl _ s).sup _ (by simp)

theorem State.reefEntered_sup (s : State) (mv : Nat) : (s.reefEntered mv).sup = { s.sup with reefed := true, holdMin := mv, vddCore := mv } := by
  simp only [State.reefEntered, State.showBusy, State.count_sup, State.setFld_sup]

theorem State.reefEntered_cnt (s : State) (mv : Nat) : (s.reefEntered mv).cnt = (s.count Cn.reefEntries 0).cnt :=
  State.count_congr _ _ (by simp only [State.showBusy, State.setFld_cnt]) (by simp only [State.showBusy, State.setFld_chain]) _ _

/-! ### The end of reefed hold (R371, R411) -/

theorem exec_reefExit_free {s : State} (low now : BitVec 16) (ns : BitVec 40) (h : s.sup.reefed = false) : exec (.reefExit low now ns) s = .next s :=
  if_neg (by simp [h])

/-- Reefed hold as it ends, before its event: v is the lowest reading, us the duration. -/
def State.reefExited (s : State) (v now us : Nat) : State :=
  let t := { s with sup := { s.sup with reefed := false, reefExit := some s.sup.tick, holdMin := 0xFFFF, vddCore := now } }
  let t := ((t.setFld F.glbPaceSts_reefed 0).setFld F.glbSupReef_last_us (min 0xFFFFFF us)).setFld F.glbSupVmin_vmin (min (t.fld F.glbSupVmin_vmin) v)
  (t.countN Cn.reefTimeUs 0 0 us).jnlPersist 5 0x0121 0 0 [v, us] .none

theorem exec_reefExit {s : State} (low now : BitVec 16) (ns : BitVec 40) (h : s.sup.reefed = true) :
    exec (.reefExit low now ns) s =
      .next (((s.reefExited (min s.sup.holdMin low.toNat) now.toNat (cdiv ns.toNat 1000)).post 0x0121
        [min s.sup.holdMin low.toNat, cdiv ns.toNat 1000]).tryDeviceApply.showBusy) := if_pos h

theorem State.reefExited_fld (s : State) (v now us : Nat) :
    (s.reefExited v now us).flag F.glbPaceSts_reefed = false ∧ (s.reefExited v now us).fld F.glbSupReef_last_us = min 0xFFFFFF us ∧
    (s.reefExited v now us).fld F.glbSupVmin_vmin = min (s.fld F.glbSupVmin_vmin) v := by
  have hv := s.fld_lt F.glbSupVmin_vmin
  unfold State.reefExited State.flag
  simp (disch := decide) only [State.jnlPersist_fld_at, State.countN_fld_at, State.fld_setFld_other, State.fld_setFld_same, State.fld_withSup]
  refine ⟨rfl, Nat.mod_eq_of_lt ?_, Nat.mod_eq_of_lt ?_⟩
  · exact (Nat.min_le_left _ _).trans_lt (by decide)
  · exact (Nat.min_le_left _ _).trans_lt hv

theorem State.reefExited_flds (s : State) (v now us : Nat) :
    FldsBut [F.glbPaceSts_reefed, F.glbSupReef_last_us, F.glbSupVmin_vmin] s (s.reefExited v now us) := by
  refine FldsBut.jnlPersist_ (FldsBut.countN_ ?_ _ _ _ _) _ _ _ _ _ _
  iterate 3 refine FldsBut.setFld ?_ _ (by simp) (by decide)
  exact (FldsBut.refl _ s).sup _

theorem State.reefExited_frame (s : State) (v now us : Nat) : FrameBut [.regs, .sup, .cnt, .mem] s (s.reefExited v now us) := by
  refine FrameBut.jnlPersist (FrameBut.countN ?_ _ _ _ _ (by simp)) _ _ _ _ _ _ (by simp)
  iterate 3 refine FrameBut.setFld ?_ _ _ (by simp)
  exact (FrameBut.refl _ s).sup _ (by simp)

theorem State.reefExited_sup (s : State) (v now us : Nat) :
    (s.reefExited v now us).sup = { s.sup with reefed := false, reefExit := some s.sup.tick, holdMin := 0xFFFF, vddCore := now } := by
  simp only [State.reefExited, State.jnlPersist_sup, State.countN_sup, State.setFld_sup]

theorem State.reefExited_cnt (s : State) (v now us : Nat) : (s.reefExited v now us).cnt = (s.countN Cn.reefTimeUs 0 0 us).cnt :=
  (State.jnlPersist_cnt _ _ _ _ _ _ _).trans (State.countN_congr _ _ (by simp only [State.setFld_cnt]) (by simp only [State.setFld_chain]) _ _ _ _)

theorem State.reefExited_mem (s : State) (v now us : Nat) : (s.reefExited v now us).mem = (s.jnlPersist 5 0x0121 0 0 [v, us] .none).mem := by
  refine State.mem_jnlPersist_congr ?_ ?_ ?_ _ _ _ _ _ _
  · simp only [State.countN_mem, State.setFld_mem]
  · simp only [State.countN_tim, State.setFld_tim]
  · simp (disch := decide) only [State.countN_fld_at, State.fld_setFld_other]
    rfl

/-! ### The auxiliary supply (R368, R398) -/

theorem exec_vddAuxLow_again {s : State} (h : s.flag F.glbSupSts_aux_low = true) : exec .vddAuxLow s = .next s := if_pos h

theorem exec_vddAuxLow {s : State} (h : s.flag F.glbSupSts_aux_low = false) :
    ∃ t, exec .vddAuxLow s = .next t ∧ t.flag F.glbSupSts_aux_low = true ∧ Posted s t 0x0127 [] ∧ FldsBut [F.glbSupSts_aux_low] s t ∧
      FrameBut [.regs, .evq, .cnt, .mem] s t := by
  refine ⟨_, if_neg (by simp [h]), ?_, ?_, ?_, ?_⟩
  · rw [State.post_flag_at, State.flag_setFld_same _ _ _ (by decide)]
    rfl
  · exact Posted.of_same ((PostSame.refl s).setFld _ 1 (by decide) (by decide) (by decide) (by decide)) rfl rfl rfl
  · exact ((FldsBut.refl _ s).setFld 1 (by simp) (by decide)).post_ _ _
  · exact ((FrameBut.refl _ s).setFld _ _ (by simp)).post _ _ (by simp)

/-- Starting the transactions of a list of I2C masters sends them and changes nothing else. -/
theorem State.i2cStart_foldl (l : List Nat) (s : State) :
    let t := l.foldl (fun (t : State) i => t.i2cStart i) s
    t.sup = s.sup ∧ t.regs = s.regs ∧ FrameBut [.out] s t := by
  induction l generalizing s with
  | nil => exact ⟨rfl, rfl, .refl _ s⟩
  | cons i l ih =>
    obtain ⟨hsup, hregs, hframe⟩ := ih (s.i2cStart i)
    refine ⟨hsup, hregs, FrameBut.trans (fun p hp => ?_) hframe⟩
    cases p <;> simp_all [Part.Same, State.i2cStart]

theorem exec_vddAuxResume (s : State) :
    ∃ t, exec .vddAuxResume s = .next t ∧ t.flag F.glbSupSts_aux_low = false ∧ t.sup = { s.sup with i2cWait := [] } ∧
      (s.sup.i2cWait = [] → t.out = s.out) ∧ FldsBut [F.glbSupSts_aux_low] s t ∧ FrameBut [.regs, .sup, .out] s t := by
  let u := { s.setFld F.glbSupSts_aux_low 0 with sup := { s.sup with i2cWait := [] } }
  have hexec : exec .vddAuxResume s = .next (s.sup.i2cWait.foldl (fun (t : State) i => t.i2cStart i) u) := rfl
  obtain ⟨hsup, hregs, hframe⟩ := State.i2cStart_foldl s.sup.i2cWait u
  refine ⟨_, hexec, ?_, hsup, fun hnone => ?_, ?_, ?_⟩
  · rw [State.flag, State.fld_regs, hregs, State.setFld_regs, Regs.fld_set_same _ _ _ (by decide)]
    rfl
  · rw [hnone]
    rfl
  · exact (((FldsBut.refl _ s).setFld 0 (by simp) (by decide)).sup _).of_regs hregs
  · exact (((FrameBut.refl _ s).setFld _ _ (by simp)).sup _ (by simp)).trans (hframe.mono (by simp))

/-! ### Un-retirement (R382, R405) -/

theorem State.retMay_zero {s : State} (hrel : s.released 2 = true) (hbusy : s.flag F.glbRetCmd_busy = false) : s.retMay 0 = true := by
  simp [State.retMay, hrel, hbusy]

theorem State.retMay_eq_false {s : State} {m : Master} (h : m ≠ 0 ∨ s.released 2 = false ∨ s.flag F.glbRetCmd_busy = true) : s.retMay m = false := by
  unfold State.retMay
  rcases h with hm | hheld | hbusy
  · rw [decide_eq_false hm, Bool.false_and, Bool.false_and]
  · rw [hheld, Bool.and_false, Bool.false_and]
  · rw [hbusy, Bool.not_true, Bool.and_false]

theorem exec_unretire_badArg {s : State} {m : Master} (hmay : s.retMay m = true) (hc : s.fld F.glbRetArg_class = 7 ∨ s.fld F.glbRetArg_class = 9) :
    exec (.unretire m) s = .next (s.setFld F.glbRetCmd_result 2) := (if_pos hmay).trans (if_pos hc)

theorem exec_unretire_badState {s : State} {m : Master} (hmay : s.retMay m = true) (hc : ¬ (s.fld F.glbRetArg_class = 7 ∨ s.fld F.glbRetArg_class = 9))
    (hst : s.sup.reefed = true ∨ s.rig.devApplies ≠ []) : exec (.unretire m) s = .next (s.setFld F.glbRetCmd_result 4) :=
  (if_pos hmay).trans ((if_neg hc).trans (if_pos hst))

theorem exec_unretire_notRetired {s : State} {m : Master} (hmay : s.retMay m = true) (hc : ¬ (s.fld F.glbRetArg_class = 7 ∨ s.fld F.glbRetArg_class = 9))
    (hst : ¬ (s.sup.reefed = true ∨ s.rig.devApplies ≠ [])) (hret : s.isRetired (s.fld F.glbRetArg_class) (s.fld F.glbRetObj_obj) = false) :
    exec (.unretire m) s = .next (s.setFld F.glbRetCmd_result 1) :=
  (if_pos hmay).trans ((if_neg hc).trans ((if_neg hst).trans (if_pos hret)))

/-- The un-retirement of a resource as it begins: it is noted and the command is busy. -/
def State.unretiring (s : State) (c o : Nat) : State := ({ s with sup := { s.sup with unret := some (c, o) } }).setFld F.glbRetCmd_busy 1

theorem exec_unretire_begins {s : State} {m : Master} (hmay : s.retMay m = true) (hc : ¬ (s.fld F.glbRetArg_class = 7 ∨ s.fld F.glbRetArg_class = 9))
    (hst : ¬ (s.sup.reefed = true ∨ s.rig.devApplies ≠ [])) (hret : s.isRetired (s.fld F.glbRetArg_class) (s.fld F.glbRetObj_obj) = true) :
    let c := s.fld F.glbRetArg_class
    let o := s.fld F.glbRetObj_obj
    exec (.unretire m) s = .next (if c = 8 ∨ c = 10 then s.unretiring c o else (s.unretiring c o).jnlPersist 2 0 c o [] .unretire) :=
  (if_pos hmay).trans ((if_neg hc).trans ((if_neg hst).trans (if_neg (by simp [hret]))))

theorem State.unretiring_busy (s : State) (c o : Nat) : (s.unretiring c o).flag F.glbRetCmd_busy = true := by
  rw [State.unretiring, State.flag_setFld_same _ _ _ (by decide)]
  rfl

theorem State.unretiring_flds (s : State) (c o : Nat) : FldsBut [F.glbRetCmd_busy] s (s.unretiring c o) :=
  ((FldsBut.refl _ s).sup _).setFld 1 (by simp) (by decide)

theorem State.unretiring_frame (s : State) (c o : Nat) : FrameBut [.regs, .sup] s (s.unretiring c o) :=
  ((FrameBut.refl _ s).sup _ (by simp)).setFld _ _ (by simp)

/-- The record of an un-retirement is that of the state before it was noted. -/
theorem State.unretiring_record (s : State) (c o : Nat) :
    ((s.unretiring c o).jnlPersist 2 0 c o [] .unretire).mem = (s.jnlPersist 2 0 c o [] .unretire).mem := by
  refine State.mem_jnlPersist_congr (s := s) (t := s.unretiring c o) rfl rfl ?_ _ _ _ _ _ _
  rw [State.unretiring, State.fld_setFld_other _ _ (by decide) (by decide), State.fld_withSup]

/-- UNRETIRE of a retired resource is busy; the record of a bank or a row's class waits for its march test. -/
theorem exec_unretire_busy {s : State} {m : Master} (hmay : s.retMay m = true) (hc : ¬ (s.fld F.glbRetArg_class = 7 ∨ s.fld F.glbRetArg_class = 9))
    (hst : ¬ (s.sup.reefed = true ∨ s.rig.devApplies ≠ [])) (hret : s.isRetired (s.fld F.glbRetArg_class) (s.fld F.glbRetObj_obj) = true) :
    let c := s.fld F.glbRetArg_class
    let o := s.fld F.glbRetObj_obj
    ∃ t, exec (.unretire m) s = .next t ∧ t.flag F.glbRetCmd_busy = true ∧ t.sup = { s.sup with unret := some (c, o) } ∧
      (c = 8 ∨ c = 10 → t.mem = s.mem) ∧ (c ≠ 8 → c ≠ 10 → t.mem = (s.jnlPersist 2 0 c o [] .unretire).mem) ∧
      FldsBut [F.glbRetCmd_busy] s t ∧ FrameBut [.regs, .sup, .mem] s t := by
  intro c o
  have hframe : FrameBut [.regs, .sup, .mem] s (s.unretiring c o) := (s.unretiring_frame c o).mono (by simp)
  refine ⟨_, exec_unretire_begins hmay hc hst hret, ?_⟩
  by_cases hwait : c = 8 ∨ c = 10
  · rw [if_pos hwait]
    exact ⟨s.unretiring_busy c o, rfl, fun _ => rfl, fun h8 h10 => absurd hwait (by simp [h8, h10]), s.unretiring_flds c o, hframe⟩
  · rw [if_neg hwait]
    refine ⟨?_, State.jnlPersist_sup _ _ _ _ _ _ _, fun h => absurd h hwait, fun _ _ => s.unretiring_record c o, (s.unretiring_flds c o).jnlPersist_ _ _ _ _ _ _,
      hframe.jnlPersist _ _ _ _ _ _ (by simp)⟩
    rw [State.jnlPersist_flag_at]
    exact s.unretiring_busy c o

theorem exec_marchTestDone_none {s : State} (h : s.sup.unret = none) (b : Bool) : exec (.marchTestDone b) s = .next s := by
  show execMarchTestDone s b = _
  rw [execMarchTestDone, h]

/-- The march test of a bank or row that is being un-retired decides: its record is queued, or the command ends. -/
theorem exec_marchTestDone {s : State} {c o : Nat} (h : s.sup.unret = some (c, o)) (hc : c = 8 ∨ c = 10) (hw : s.recordWaits c o = false) (b : Bool) :
    exec (.marchTestDone b) s = if b then .next (s.jnlPersist 2 0 c o [] .unretire) else
      .next ((({ s with sup := { s.sup with unret := none } }).setFld F.glbRetCmd_busy 0).setFld F.glbRetCmd_result 3) := by
  show execMarchTestDone s b = _
  rw [execMarchTestDone, h]
  exact if_pos ⟨hc, hw⟩

theorem exec_marchTestDone_failed {s : State} {c o : Nat} (h : s.sup.unret = some (c, o)) (hc : c = 8 ∨ c = 10) (hw : s.recordWaits c o = false) :
    ∃ t, exec (.marchTestDone false) s = .next t ∧ t.fld F.glbRetCmd_result = 3 ∧ t.flag F.glbRetCmd_busy = false ∧ t.sup = { s.sup with unret := none } ∧
      FldsBut [F.glbRetCmd_busy, F.glbRetCmd_result] s t ∧ FrameBut [.regs, .sup] s t := by
  refine ⟨_, exec_marchTestDone h hc hw false, ?_, ?_, rfl, ?_, ?_⟩
  · exact State.fld_setFld_same _ _ _ (by decide)
  · rw [State.flag_setFld_other _ _ (by decide) (by decide), State.flag_setFld_same _ _ _ (by decide)]
    rfl
  · exact (((FldsBut.refl _ s).sup _).setFld _ (by simp) (by decide)).setFld _ (by simp) (by decide)
  · exact (((FrameBut.refl _ s).sup _ (by simp)).setFld _ _ (by simp)).setFld _ _ (by simp)

/-- The registers of GLB_RET_DATA with an entry of the list, or with none. -/
def State.showRet (s : State) (e : Option RetEnt) : State :=
  ((((s.setFld F.glbRetData0_valid e.isSome.toNat).setFld F.glbRetData0_class ((e.map (·.cls)).getD 0)).setFld F.glbRetData1_index
    ((e.map (·.obj)).getD 0)).setFld F.glbRetData2_sec ((e.map (·.sec)).getD 0)).setFld F.glbRetCmd_result 0

theorem exec_retRead {s : State} {m : Master} (hmay : s.retMay m = true) :
    exec (.retRead m) s = .next (s.showRet s.sup.retired[s.fld F.glbRetIdx_idx]?) := if_pos hmay

theorem State.showRet_fld (s : State) (e : Option RetEnt) :
    (s.showRet e).fld F.glbRetCmd_result = 0 ∧ (s.showRet e).flag F.glbRetData0_valid = e.isSome ∧
    (s.showRet e).fld F.glbRetData0_class = (e.map (·.cls)).getD 0 % 256 ∧ (s.showRet e).fld F.glbRetData1_index = (e.map (·.obj)).getD 0 % 2 ^ 32 ∧
    (s.showRet e).fld F.glbRetData2_sec = (e.map (·.sec)).getD 0 % 2 ^ 32 := by
  unfold State.showRet State.flag
  simp (disch := decide) only [State.fld_setFld_other, State.fld_setFld_same]
  exact ⟨rfl, by cases e <;> rfl, rfl, rfl, rfl⟩

theorem exec_retRead_shows {s : State} {m : Master} (hmay : s.retMay m = true) :
    ∃ t, exec (.retRead m) s = .next t ∧ FrameBut [.regs] s t ∧ t.fld F.glbRetCmd_result = 0 ∧
      FldsBut [F.glbRetData0_valid, F.glbRetData0_class, F.glbRetData1_index, F.glbRetData2_sec, F.glbRetCmd_result] s t ∧
      (∀ e, s.sup.retired[s.fld F.glbRetIdx_idx]? = some e → t.flag F.glbRetData0_valid = true ∧ t.fld F.glbRetData0_class = e.cls % 256 ∧
        t.fld F.glbRetData1_index = e.obj % 2 ^ 32 ∧ t.fld F.glbRetData2_sec = e.sec % 2 ^ 32) ∧
      (s.sup.retired.length ≤ s.fld F.glbRetIdx_idx → t.flag F.glbRetData0_valid = false) := by
  obtain ⟨hresult, hvalid, hcls, hobj, hsec⟩ := s.showRet_fld s.sup.retired[s.fld F.glbRetIdx_idx]?
  refine ⟨_, exec_retRead hmay, ?_, hresult, ?_, fun e he => ?_, fun hlen => ?_⟩
  · unfold State.showRet
    iterate 5 refine FrameBut.setFld ?_ _ _ (by simp)
    exact .refl _ s
  · unfold State.showRet
    iterate 5 refine FldsBut.setFld ?_ _ (by simp) (by decide)
    exact .refl _ s
  · rw [hvalid, hcls, hobj, hsec, he]
    exact ⟨rfl, rfl, rfl, rfl⟩
  · rw [hvalid, List.getElem?_eq_none hlen]
    rfl

end Sys2Proof.Machine

namespace Sys2Proof.Proofs

open Sys2Proof.Machine Sys2Proof.Safety

/-- Settles O54, by the commands of reefed hold, of the auxiliary supply and of GLB_RET_CMD. -/
theorem reefAndUnretire : Obligations.reefAndUnretire := by
  refine ⟨fun mv s => ⟨exec_reefEnter_held mv, fun h => ?_⟩, fun low now ns s => ⟨exec_reefExit_free low now ns, fun h => ?_⟩,
    fun s => ⟨exec_vddAuxLow_again, exec_vddAuxLow, exec_vddAuxResume s⟩, fun s hrel hbusy => ?_, fun m s h => ?_, fun s => ⟨exec_marchTestDone_none, fun c o h hc hw => ?_⟩⟩
  · obtain ⟨hreefed, hseen, hentries, hmin⟩ := s.reefEntered_fld mv.toNat
    exact ⟨_, exec_reefEnter mv h, s.reefEntered_sup _, hreefed, hseen, hentries, hmin, s.reefEntered_cnt _, s.reefEntered_flds _, s.reefEntered_frame _⟩
  · obtain ⟨hreefed, hus, hmin⟩ := s.reefExited_fld (min s.sup.holdMin low.toNat) now.toNat (cdiv ns.toNat 1000)
    exact ⟨_, exec_reefExit low now ns h, s.reefExited_sup _ _ _, hreefed, hus, hmin, s.reefExited_cnt _ _ _, s.reefExited_mem _ _ _, s.reefExited_flds _ _ _,
      s.reefExited_frame _ _ _⟩
  · have hmay := State.retMay_zero hrel hbusy
    refine ⟨exec_unretire_badArg hmay, fun h7 h9 => ?_, exec_retRead_shows hmay⟩
    have hc : ¬ (s.fld F.glbRetArg_class = 7 ∨ s.fld F.glbRetArg_class = 9) := by simp [h7, h9]
    refine ⟨exec_unretire_badState hmay hc, fun hreef hdev => ?_⟩
    have hst : ¬ (s.sup.reefed = true ∨ s.rig.devApplies ≠ []) := by simp [hreef, hdev]
    exact ⟨exec_unretire_notRetired hmay hc hst, exec_unretire_busy hmay hc hst⟩
  · have hmay := State.retMay_eq_false h
    exact ⟨if_neg (by simp [hmay]), if_neg (by simp [hmay])⟩
  · exact ⟨exec_marchTestDone h hc hw true, exec_marchTestDone_failed h hc hw⟩

end Sys2Proof.Proofs
end

section
/-! Proofs about XGEM encapsulation, context updates, the capture of maps and packets from the uplinks. -/

namespace Sys2Proof.Machine

open Sys2Proof.Safety

/-! ### XGEM encapsulation (R77 to R82) -/

theorem exec_xgemEncapsulate_idle {s : State} {c : Chan} (h : (s.dsOf c.toNat).edge = [] ∨ s.ch c.toNat ≠ 3) (e1 e2 : Ecc) (b : Bool) :
    exec (.xgemEncapsulate c e1 e2 b) s = .next s := by
  show execXgemEncapsulate s c e1 e2 b = _
  unfold execXgemEncapsulate
  dsimp only
  split
  · rfl
  next p r hedge => exact if_pos (h.resolve_left (by simp [hedge]))

/-- The packet at the front of a channel's edge buffer is dropped and counted. -/
def State.dropFront (s : State) (k : Nat) (C : Ctr) (r : List Pkt) : State := (s.count C k).setDs k { (s.count C k).dsOf k with edge := r }

theorem State.dropFront_spec (s : State) (k : Nat) (C : Ctr) (r : List Pkt) :
    (s.dropFront k C r).dsOf k = { s.dsOf k with edge := r } ∧ (s.dropFront k C r).cnt = (s.count C k).cnt ∧ FrameBut [.ds, .cnt] s (s.dropFront k C r) := by
  refine ⟨?_, rfl, ((FrameBut.refl _ s).count C k (by simp)).ds _ (by simp)⟩
  rw [State.dropFront, State.dsOf_setDs_same, State.dsOf_count]

/-- What becomes of the packet p at the front of channel k's edge buffer whose record ws serves it: longer than mtu it is dropped, and else its key decides. -/
def State.encapServed (s : State) (k : Nat) (ws : List Nat) (p : Pkt) (r : List Pkt) (keyEcc : Ecc) (edgeBad : Bool) : Host.Outcome State Fault Refusal :=
  if s.fld (F.pchDsCfg_mtu k) < p.len then .next ((s.dropFront k Cn.dsOversize r).dropped p)
  else
    match s.dsCipher k ws keyEcc with
    | .error t => .next ((t.setDs k { t.dsOf k with edge := r }).dropped p)
    | .ok (t, i) =>
      let t := t.placeXgem k (recBits ws 0 15 0) i p.len edgeBad r
      .next (if edgeBad && decide ((t.dsOf k).edge = r) then t.count Cn.fabStomp k else t)

section
variable {s : State} {c : Chan} {p : Pkt} {r : List Pkt} (hedge : (s.dsOf c.toNat).edge = p :: r) (hch : s.ch c.toNat = 3) (hrec : RecClean s 3 kFlw p.flow)
include hedge hch hrec

/-- A packet without a record of its channel, or whose ONU is not served, is dropped (R78). -/
theorem exec_xgemEncapsulate_noRecord (hts : p.tsReq = none)
    (hno : recBits (s.record kFlw p.flow) 1 0 0 = 0 ∨ flwBound (s.record kFlw p.flow) c.toNat = false) (e2 : Ecc) (b : Bool) :
    exec (.xgemEncapsulate c .clean e2 b) s = .next (s.dropFront c.toNat Cn.dsNoRecord r) := by
  show execXgemEncapsulate s c .clean e2 b = _
  unfold execXgemEncapsulate
  simp only [hedge, hch, chRunning, ne_eq, not_true_eq_false, if_false, State.readRec_clean hrec, Bool.false_eq_true]
  rw [if_pos (hno.imp_right .inl), State.dropped_of_tsReq_none hts]
  rfl

variable (hvalid : recBits (s.record kFlw p.flow) 1 0 0 = 1) (hbound : flwBound (s.record kFlw p.flow) c.toNat = true)
  (hlive : recBits (s.record kFlw p.flow) 1 3 2 ≠ 0 ∨ 2 ≤ (s.onuOf (recBits (s.record kFlw p.flow) 0 31 16)).stNow)
include hvalid hbound hlive

theorem exec_xgemEncapsulate_served (e2 : Ecc) (b : Bool) :
    exec (.xgemEncapsulate c .clean e2 b) s = s.encapServed c.toNat (s.record kFlw p.flow) p r e2 b := by
  show execXgemEncapsulate s c .clean e2 b = _
  unfold execXgemEncapsulate
  simp only [hedge, hch, chRunning, ne_eq, not_true_eq_false, if_false, State.readRec_clean hrec, Bool.false_eq_true]
  have hserved : (decide (recBits (s.record kFlw p.flow) 1 3 2 ≠ 0) || decide (2 ≤ (s.onuOf (recBits (s.record kFlw p.flow) 0 31 16)).stNow)) = true := by
    simpa using hlive
  rw [if_neg (by rw [hvalid, hbound, hserved]; simp)]
  rfl

theorem exec_xgemEncapsulate_oversize (hts : p.tsReq = none) (hlen : s.fld (F.pchDsCfg_mtu c.toNat) < p.len) (e2 : Ecc) (b : Bool) :
    exec (.xgemEncapsulate c .clean e2 b) s = .next (s.dropFront c.toNat Cn.dsOversize r) := by
  rw [exec_xgemEncapsulate_served hedge hch hrec hvalid hbound hlive, State.encapServed, if_pos hlen, State.dropped_of_tsReq_none hts]

/-- A packet that is not encrypted is placed under key index 0. -/
theorem exec_xgemEncapsulate_plain (hlen : p.len ≤ s.fld (F.pchDsCfg_mtu c.toNat)) (henc : recBits (s.record kFlw p.flow) 1 1 1 = 0) (e2 : Ecc) :
    exec (.xgemEncapsulate c .clean e2 false) s = .next (s.placeXgem c.toNat (recBits (s.record kFlw p.flow) 0 15 0) 0 p.len false r) := by
  have hkey : s.dsCipher c.toNat (s.record kFlw p.flow) e2 = .ok (s, 0) := if_pos henc
  rw [exec_xgemEncapsulate_served hedge hch hrec hvalid hbound hlive, State.encapServed, if_neg (by omega), hkey]
  rfl

end

/-- A packet whose frame fits is sent whole (R79). -/
theorem State.placeXgem_whole {s : State} {c len : Nat} (h : 8 + 4 * cdiv len 4 ≤ (s.dsOf c).space) (portId keyIx : Nat) (b : Bool) (r : List Pkt) :
    let t := s.placeXgem c portId keyIx len b r
    t.dsOf c = { s.dsOf c with edge := r, space := (s.dsOf c).space - (8 + 4 * cdiv len 4) } ∧ t.out = s.out ++ [.xgem c portId keyIx len true b] ∧
      t.cnt = (s.count Cn.dsXgem c).cnt ∧ FrameBut [.ds, .cnt, .out] s t := by
  unfold State.placeXgem
  dsimp only
  rw [if_pos h]
  refine ⟨by simp, by simp [State.emit, State.setDs], ?_, ?_⟩
  · exact State.count_congr s (s.setDs c _) rfl rfl _ _
  · exact (((FrameBut.refl _ s).ds _ (by simp)).count _ _ (by simp)).emit _ (by simp)

/-- Where 24 bytes or more are left, the frame takes a first fragment (R79). -/
theorem State.placeXgem_fragment {s : State} {c len : Nat} (h : (s.dsOf c).space < 8 + 4 * cdiv len 4) (h24 : 24 ≤ (s.dsOf c).space) (portId keyIx : Nat)
    (b : Bool) (r : List Pkt) :
    let t := s.placeXgem c portId keyIx len b r
    t.dsOf c = { s.dsOf c with edge := r, space := 0, rest := some { portId := portId, keyIx := keyIx, left := len - ((s.dsOf c).space - 8) } } ∧
      t.out = s.out ++ [.xgem c portId keyIx ((s.dsOf c).space - 8) false b] ∧ FrameBut [.ds, .cnt, .out] s t := by
  unfold State.placeXgem
  dsimp only
  rw [if_neg (Nat.not_le.mpr h), if_pos h24]
  refine ⟨by simp, by simp [State.emit, State.setDs], ?_⟩
  exact (((FrameBut.refl _ s).ds _ (by simp)).count _ _ (by simp)).emit _ (by simp)

/-- Else the frame is filled with idle bytes, and the packet waits for the next (R79). -/
theorem State.placeXgem_waits {s : State} {c len : Nat} (h : (s.dsOf c).space < 8 + 4 * cdiv len 4) (h24 : (s.dsOf c).space < 24) (portId keyIx : Nat)
    (b : Bool) (r : List Pkt) :
    let t := s.placeXgem c portId keyIx len b r
    t.dsOf c = { s.dsOf c with space := 0 } ∧ t.cnt = (s.countN Cn.dsIdleBytes c 0 (s.dsOf c).space).cnt ∧ FrameBut [.ds, .cnt] s t := by
  unfold State.placeXgem
  dsimp only
  rw [if_neg (Nat.not_le.mpr h), if_neg (Nat.not_le.mpr h24)]
  refine ⟨by simp, ?_, ?_⟩
  · exact State.countN_congr s (s.setDs c _) rfl rfl _ _ _ _
  · exact ((FrameBut.refl _ s).ds _ (by simp)).countN _ _ _ _ (by simp)

/-! ### Context updates (R19, R80, R145, R321) -/

theorem exec_contextUpdate_poisoned (s : State) (u : CtxUpdate) : exec (.contextUpdate u true) s = .next (s.count Cn.memPoisonMsg 0) := rfl

theorem exec_contextUpdate_free {s : State} {n : Onu} (h : (s.onuOf n.toNat).st = 0) (f : Bool) :
    exec (.contextUpdate (.onuKey n f) false) s = .next s ∧ exec (.contextUpdate (.onuWake n f) false) s = .next s ∧
      exec (.contextUpdate (.onuPloamu n) false) s = .next s := ⟨if_pos h, if_pos h, if_pos h⟩

theorem exec_contextUpdate_key {s : State} {n : Onu} (h : (s.onuOf n.toNat).st ≠ 0) (f : Bool) :
    ∃ t, exec (.contextUpdate (.onuKey n f) false) s = .next t ∧ t.onuOf n.toNat = { s.onuOf n.toNat with keyIx := if f then 2 else 1 } ∧
      (∀ j, j ≠ n.toNat → t.onuOf j = s.onuOf j) ∧ FrameBut [.onu] s t := by
  refine ⟨_, if_neg h, ?_, fun j hj => ?_, (FrameBut.refl _ s).onu _ (by simp)⟩
  · rw [State.onuOf_setOnu, if_pos rfl]
  · rw [State.onuOf_setOnu, if_neg hj]

/-- The contexts under forced wake with n's flag as f gives it. -/
def withWake (l : List Nat) (n : Nat) (f : Bool) : List Nat := if f then l.filter (· ≠ n) ++ [n] else l.filter (· ≠ n)

theorem mem_withWake_same (l : List Nat) (n : Nat) (f : Bool) : n ∈ withWake l n f ↔ f = true := by cases f <;> simp [withWake]

theorem mem_withWake_other {j n : Nat} (h : j ≠ n) (l : List Nat) (f : Bool) : j ∈ withWake l n f ↔ j ∈ l := by cases f <;> simp [withWake, h]

theorem exec_contextUpdate_wake {s : State} {n : Onu} (h : (s.onuOf n.toNat).st ≠ 0) (f : Bool) :
    ∃ t, exec (.contextUpdate (.onuWake n f) false) s = .next t ∧ (n.toNat ∈ t.hal.fwi ↔ f = true) ∧
      (∀ j, j ≠ n.toNat → (j ∈ t.hal.fwi ↔ j ∈ s.hal.fwi)) ∧ FrameBut [.hal] s t :=
  ⟨{ s with hal := { s.hal with fwi := withWake s.hal.fwi n.toNat f } }, if_neg h, mem_withWake_same _ _ f, fun _ hj => mem_withWake_other hj _ f,
    (FrameBut.refl _ s).hal _ (by simp)⟩

theorem exec_contextUpdate_ploamu {s : State} {n : Onu} (h : (s.onuOf n.toNat).st ≠ 0) :
    ∃ t, exec (.contextUpdate (.onuPloamu n) false) s = .next t ∧ n.toNat ∈ (t.halOf (s.onuOf n.toNat).chan).ploamuReq ∧ FrameBut [.hal] s t := by
  refine ⟨_, if_neg h, ?_, (FrameBut.refl _ s).hal _ (by simp)⟩
  rw [State.halOf_setHal_same]
  simp

/-! ### The capture of maps (R149) -/

theorem exec_mapCaptureArm_refused {m : Master} (h : mayWrite m = false) (c : Chan) (s : State) : exec (.mapCaptureArm m c) s = .next s :=
  if_neg (by simp [h])

/-- The capture of channel k's next map as it is armed. -/
def State.captureArmed (s : State) (k : Nat) : State :=
  let t := (s.setFld F.halCapCtrl_channel k).setFld F.halCapSts_done 0
  { t with hal := { t.hal with capArm := some k } }

theorem exec_mapCaptureArm {m : Master} {c : Chan} {s : State} (hm : mayWrite m = true) (hrel : s.released 7 = true) :
    exec (.mapCaptureArm m c) s = .next (s.captureArmed c.toNat) := if_pos ⟨hm, hrel⟩

theorem State.captureArmed_hal (s : State) (k : Nat) : (s.captureArmed k).hal = { s.hal with capArm := some k } := by
  simp only [State.captureArmed, State.setFld_hal]

theorem State.captureArmed_channel (s : State) (k : Nat) : (s.captureArmed k).fld F.halCapCtrl_channel = k % 256 := by
  rw [State.captureArmed, State.fld_withHal, State.fld_setFld_other _ _ (by decide) (by decide), State.fld_setFld_same _ _ _ (by decide)]
  rfl

theorem State.captureArmed_done (s : State) (k : Nat) : (s.captureArmed k).flag F.halCapSts_done = false := by
  rw [State.flag, State.captureArmed, State.fld_withHal, State.fld_setFld_same _ _ _ (by decide)]
  rfl

theorem State.captureArmed_flds (s : State) (k : Nat) : FldsBut [F.halCapCtrl_channel, F.halCapSts_done] s (s.captureArmed k) :=
  (((FldsBut.refl _ s).setFld _ (by simp) (by decide)).setFld _ (by simp) (by decide)).hal _

theorem State.captureArmed_frame (s : State) (k : Nat) : FrameBut [.regs, .hal] s (s.captureArmed k) :=
  (((FrameBut.refl _ s).setFld _ _ (by simp)).setFld _ _ (by simp)).hal _ (by simp)

/-! ### Packets from the uplinks (R28, R58, R246) -/

theorem State.secures_newPkt (s : State) (src : Nat) (b : List Nat) (st : Stamp) (p : Nat) (l : List Nat) :
    (s.newPkt src b st).1.secures p l = s.secures p l := (rfl)

theorem exec_uplinkPacketIngress_open {p : BitVec 7} {l : List Byte} {ok : Bool} {st : Stamp} {sec : Option MacRx} {e : Ecc} {s : State}
    (hre : s.rerigging (0x200 + p.toNat / 8) = false) (hport : s.portBound (256 + p.toNat) = true) (hpfc : isPfc (l.map (·.toNat)) = false)
    (hsec : s.secures p.toNat (l.map (·.toNat)) = false) :
    ∃ t k, exec (.uplinkPacketIngress p l ok true st sec e) s = .next t ∧
      Tbl.find t.toParse (256 + p.toNat) [] = Tbl.find s.toParse (256 + p.toNat) [] ++ [k] ∧
      (∀ j, j ≠ 256 + p.toNat → Tbl.find t.toParse j [] = Tbl.find s.toParse j []) ∧
      k.num = s.pktNo ∧ t.pktNo = s.pktNo + 1 ∧ k.bytes = l.map (·.toNat) ∧ k.src = 256 + p.toNat ∧ k.epoch = s.epoch ∧ k.bad = !ok ∧ k.host = false ∧
      FrameBut [.toParse, .pktNo] s t := by
  let u := s.newPkt (256 + p.toNat) (l.map (·.toNat)) (calStamp st (signed 16 (s.fld (F.timUlat_rx_cal (p.toNat / 8)))))
  have hexec : exec (.uplinkPacketIngress p l ok true st sec e) s = .next (u.1.queueParse { u.2 with bad := !ok }) := by
    show execUplinkPacketIngress s p l ok true st sec e = _
    unfold execUplinkPacketIngress
    dsimp only
    rw [if_neg (by simp [hre]), if_neg (by simp [hport]), if_neg (by simp), if_neg (by simp [hpfc])]
    exact if_neg (by rw [State.secures_newPkt, hsec]; exact Bool.false_ne_true)
  refine ⟨_, { u.2 with bad := !ok }, hexec, Tbl.find_put_same _ _ _ _, fun j hj => Tbl.find_put_other _ _ _ _ hj, rfl, rfl, rfl, rfl, rfl, rfl, rfl, ?_⟩
  exact ((FrameBut.refl _ s).pktNo _ (by simp)).toParse _ (by simp)

end Sys2Proof.Machine

namespace Sys2Proof.Proofs

open Sys2Proof.Machine Sys2Proof.Safety

/-- Settles O11, by what the packet's record, its length and the rest of the frame decide, and by the cases of the other commands. -/
theorem encapsulation : Obligations.encapsulation := by
  refine ⟨fun c e2 b p r s => ?_, fun c e1 e2 b s h => exec_xgemEncapsulate_idle h e1 e2 b, fun n f s => ?_, fun m c s => ?_, fun p l ok fits st sec e s => ?_⟩
  · intro k ws w hedge hch hpoison hflip hts
    have hrec : RecClean s 3 kFlw p.flow := ⟨hpoison, hflip⟩
    refine ⟨fun hno => ⟨_, exec_xgemEncapsulate_noRecord hedge hch hrec hts hno e2 b, s.dropFront_spec k _ r⟩, fun hvalid hbound hlive => ⟨fun hlen => ?_, ?_⟩⟩
    · exact ⟨_, exec_xgemEncapsulate_oversize hedge hch hrec hvalid hbound hlive hts hlen e2 b, s.dropFront_spec k _ r⟩
    · intro hlen henc
      have hplain := exec_xgemEncapsulate_plain hedge hch hrec hvalid hbound hlive hlen henc e2
      refine ⟨fun hfits hb => ?_, fun hfull h24 hb => ?_, fun hfull h24 hb => ?_⟩ <;> subst hb
      · exact ⟨_, hplain, State.placeXgem_whole hfits _ _ _ _⟩
      · exact ⟨_, hplain, State.placeXgem_fragment hfull h24 _ _ _ _⟩
      · exact ⟨_, hplain, State.placeXgem_waits hfull h24 _ _ _ _⟩
  · exact ⟨exec_contextUpdate_poisoned s, fun h => exec_contextUpdate_free h f,
      fun h => ⟨exec_contextUpdate_key h f, exec_contextUpdate_wake h f, exec_contextUpdate_ploamu h⟩⟩
  · exact ⟨fun h => exec_mapCaptureArm_refused h c s, fun hm hrel => ⟨_, exec_mapCaptureArm hm hrel, s.captureArmed_hal _,
      (s.captureArmed_channel _).trans (Nat.mod_eq_of_lt c.isLt), s.captureArmed_done _, s.captureArmed_flds _, s.captureArmed_frame _⟩⟩
  · refine ⟨fun hre => if_pos hre, fun hre => ⟨fun hport => ?_, fun hport hfits => ?_, fun hport hfits hpfc hsec => ?_⟩⟩
    · exact (if_neg (by simp [hre])).trans (if_pos hport)
    · exact (if_neg (by simp [hre])).trans ((if_neg (by simp [hport])).trans (if_pos hfits))
    · subst hfits
      exact exec_uplinkPacketIngress_open hre hport hpfc hsec

end Sys2Proof.Proofs
end

section
/-! Packets to and from the host: the statement fails where a ring is larger than its head's register can count. -/

namespace Sys2Proof.Proofs

open Sys2Proof.Machine Sys2Proof.Safety

/-- Pair 0 enabled with tx_log 13 and its head at 4,095. -/
def pairPastHead : State := { State.reset with regs := [(0x201018, 0x8000000D), (0x201020, 4095)] }

/-- A descriptor that R343 drops, because a reserved field of it is not 0. -/
def reservedDesc : TxDesc :=
  { addr := 0, kind := 0, intr := false, tsReq := false, len := 64, port := 256, cls := 0, flow := 0, tsId := 0, reserved := true, bytes := [] }

/-- The head's register has 12 bits, so the index after 4,095 is shown as 0. -/
theorem exec_txDescriptorFetch_pairPastHead :
    ∃ t, exec (.txDescriptorFetch 0 reservedDesc .ok) pairPastHead = .next t ∧ t.fld (F.mbxQpTxhead_head 0) = 0 :=
  ⟨_, rfl, by decide +kernel⟩

/-- Refutes O47: the head is said to become (h + 1) modulo the ring's 2^tx_log entries, from every state. The model's tx_log holds 0 to 15, and a write of
MBX_QP_CFG stores any of them, where the spec encodes 6 to 12; with tx_log 13 the head after 4,095 is 4,096 by the statement and 0 in the 12 bits of MBX_QP_TXHEAD. -/
theorem not_packetsHost : ¬ Obligations.packetsHost := by
  rintro ⟨htx, -⟩
  obtain ⟨-, -, htake⟩ := htx 0 reservedDesc .ok pairPastHead
  obtain ⟨hdrop, -⟩ := htake (by decide +kernel) (by decide +kernel) rfl rfl (by decide +kernel)
  obtain ⟨t, ht, hhead, -⟩ := hdrop (by decide +kernel) rfl
  obtain ⟨u, hu, hzero⟩ := exec_txDescriptorFetch_pairPastHead
  obtain rfl : t = u := Host.Outcome.next.inj (ht.symm.trans hu)
  have hnext : (pairPastHead.fld (F.mbxQpTxhead_head 0) + 1) % pairPastHead.txSize 0 = 4096 := by decide +kernel
  exact absurd (hzero.symm.trans (hhead.trans hnext)) (by decide)

end Sys2Proof.Proofs
end

section
/-! Proofs about the commands of the staging machine: CHECK, CHECK_DONE, APPLY, ABORT and DISCARD. -/

namespace Sys2Proof.Machine

open Sys2Proof.Safety

/-! ### RIG_STS as the machine's operations leave it -/

theorem State.completion_complete (s : State) {c : Nat} (h : c < 256) : (s.complete c).fld F.rigSts_completion = c := by
  rw [State.complete, State.fld_setFld_same _ _ _ (by decide)]
  exact Nat.mod_eq_of_lt h

theorem State.rigState_complete (s : State) (c : Nat) : (s.complete c).rigState = s.rigState := State.fld_setFld_other _ _ (by decide) (by decide)

theorem State.rigState_showBusy (s : State) : s.showBusy.rigState = s.rigState := State.fld_setFld_other _ _ (by decide) (by decide)

theorem State.busy_showBusy (s : State) : s.showBusy.flag F.rigSts_busy = s.rigBusy := by
  rw [State.showBusy, State.flag_setFld_same _ _ _ (by decide)]
  cases s.rigBusy <;> rfl

theorem State.rigBusy_of_checking {s : State} (h : s.rigState = 1) : s.rigBusy = true := by simp [State.rigBusy, h]

/-- A machine in CHECKING shows busy. -/
theorem State.busy_moveRig_checking (s : State) : (s.moveRig 1).flag F.rigSts_busy = true := by
  have hst : ({ s.setFld F.rigSts_state 1 with rig := { s.rig with fresh := false } }).rigState = 1 := by
    rw [← State.rigState_showBusy]
    exact s.rigState_moveRig (by decide)
  exact (State.busy_showBusy _).trans (State.rigBusy_of_checking hst)

/-- A move of the machine leaves the previous epoch live or not. -/
theorem State.prevLive_moveRig (s : State) (st : Nat) : (s.moveRig st).prevLive = s.prevLive := by
  simp only [State.prevLive, State.flag,
    s.moveRig_flds st F.rigSts_prev_live (by simp [Apart, F.rigSts_prev_live, F.rigSts_state, F.rigSts_busy])]

/-- A move that a completion goes with: the end of a check, of a drain and of an armed apply. -/
theorem State.moveRig_complete_spec (s : State) {st c : Nat} (hst : st < 8) (hc : c < 256) :
    ((s.moveRig st).complete c).rigState = st ∧ ((s.moveRig st).complete c).fld F.rigSts_completion = c ∧
      FldsBut [F.rigSts_state, F.rigSts_busy, F.rigSts_completion] s ((s.moveRig st).complete c) ∧
      FrameBut [.regs, .rig] s ((s.moveRig st).complete c) :=
  ⟨(State.rigState_complete _ c).trans (s.rigState_moveRig hst), State.completion_complete _ hc,
    ((s.moveRig_flds st).mono (by simp)).setFld _ (by simp) (by decide), (s.moveRig_frame st).setFld _ _ (by simp)⟩

theorem State.tryDeviceApply_of_none {s : State} (h : s.rig.devApplies = []) : s.tryDeviceApply = s := by
  simp only [State.tryDeviceApply, State.devNext, h]

/-- An APPLY is refused where no verdict stands, under reefed hold, and while a device-initiated apply is pending. -/
def State.applyRefused (s : State) : Prop := s.rigState ≠ 2 ∨ s.sup.reefed = true ∨ s.rig.devApplies ≠ []

/-! ### A master that may not write RIG (R49) -/

theorem State.rigMay_of_mayWrite {m : Master} {s : State} (hm : mayWrite m = true) (hd : s.released 2 = true) : s.rigMay m = true := by
  simp [State.rigMay, hm, hd]

theorem exec_stagingCommand_refused {m : Master} (s : State) (h : mayWrite m = false) (b : Bool) :
    exec (.check_ m) s = .next s ∧ exec (.apply_ m b) s = .next s ∧ exec (.abort_ m) s = .next s ∧ exec (.discard m) s = .next s := by
  have hmay : ¬ s.rigMay m = true := by simp [State.rigMay, h]
  exact ⟨if_neg hmay, if_neg hmay, if_neg hmay, if_neg hmay⟩

section

variable {m : Master} {s : State} (hmay : s.rigMay m = true)
include hmay

/-! ### CHECK (R50) -/

theorem exec_check_starts (h : s.rigState = 0 ∨ s.rigState = 2 ∨ s.rigState = 3) : exec (.check_ m) s = .next (s.moveRig 1) :=
  (if_pos hmay).trans (if_pos h)

theorem exec_check_refused (h : s.rigState = 1 ∨ 4 ≤ s.rigState) : exec (.check_ m) s = .next (s.complete 5) :=
  (if_pos hmay).trans (if_neg (by omega))

/-! ### APPLY (R50, R53, R56, R370) -/

/-- A refused APPLY completes BAD_STATE and forgets a past apply instant. -/
theorem exec_apply_refused (h : s.applyRefused) (b : Bool) :
    ∃ t, exec (.apply_ m b) s = .next t ∧ t.fld F.rigSts_completion = 5 ∧
      t.rig = { s.rig with fresh := false } ∧ FldsBut [F.rigSts_completion] s t ∧ FrameBut [.regs, .rig] s t :=
  ⟨s.stale.complete cBadState, (if_pos hmay).trans (if_pos h), State.completion_complete _ (by decide), rfl,
    ((FldsBut.refl _ s).rig _).setFld _ (by simp) (by decide), ((FrameBut.refl _ s).rig _ (by simp)).setFld _ _ (by simp)⟩

theorem exec_apply_late (h : ¬ s.applyRefused) (hlate : s.schedOk = false) :
    exec (.apply_ m true) s = .next (s.complete 6) := (if_pos hmay).trans ((if_neg h).trans (if_pos (by simp [hlate])))

end

/-- The machine in DRAINING for an APPLY with the time of the RIG_SCHED registers latched. -/
def State.draining (s : State) (b : Bool) : State :=
  ({ s with rig := { s.rig with sched := b, schedSec := s.fld F.rigSchedSecHi_sec_hi * 2 ^ 32 + s.fld F.rigSchedSecLo_sec_lo,
                                schedNs := s.fld F.rigSchedNs_ns } }).moveRig 4

theorem State.rigState_draining (s : State) (b : Bool) : (s.draining b).rigState = 4 := State.rigState_moveRig _ (by decide)

theorem State.draining_flds (s : State) (b : Bool) : FldsBut [F.rigSts_state, F.rigSts_busy] s (s.draining b) :=
  (((FldsBut.refl _ s).rig _).setFld 4 (by simp) (by decide) |>.rig _).setFld _ (by simp) (by decide)

theorem State.draining_frame (s : State) (b : Bool) : FrameBut [.regs, .rig] s (s.draining b) :=
  ((FrameBut.refl _ s).rig _ (by simp)).trans (State.moveRig_frame _ 4)

theorem exec_apply_taken {m : Master} {s : State} (hmay : s.rigMay m = true) (h : ¬ s.applyRefused)
    {b : Bool} (hok : b = true → s.schedOk = true) :
    exec (.apply_ m b) s = .next (if s.prevLive then s.draining b else (s.draining b).drainedHost) := by
  have htime : ¬ (b && !s.schedOk) = true := by cases b <;> simp_all
  have hlive : (s.draining b).prevLive = s.prevLive := State.prevLive_moveRig _ 4
  rw [← hlive]
  exact (if_pos hmay).trans ((if_neg h).trans (if_neg htime))

/-- With nothing left to drain a scheduled APPLY leads to ARMED. -/
theorem State.drainedHost_scheduled {s : State} (h : s.rig.sched = true) :
    s.drainedHost.rigState = 5 ∧ s.drainedHost.rig = s.rig ∧ FldsBut [F.rigSts_state, F.rigSts_busy] s s.drainedHost ∧
      FrameBut [.regs, .rig] s s.drainedHost := by
  have harm : s.drainedHost = (s.setFld F.rigSts_state 5).showBusy := if_pos h
  rw [harm]
  refine ⟨?_, rfl, ?_, ?_⟩
  · exact (State.rigState_showBusy _).trans (State.fld_setFld_same _ _ _ (by decide))
  · exact ((FldsBut.refl _ s).setFld _ (by simp) (by decide)).setFld _ (by simp) (by decide)
  · exact ((FrameBut.refl _ s).setFld _ _ (by simp)).setFld _ _ (by simp)

theorem State.drainedHost_unscheduled {s : State} (h : s.rig.sched = false) : s.drainedHost = s.applyInstant := if_neg (by simp [h])

section

variable {m : Master} {s : State} (hmay : s.rigMay m = true)
include hmay

theorem exec_apply_drains (h : ¬ s.applyRefused) {b : Bool} (hok : b = true → s.schedOk = true)
    (hlive : s.prevLive = true) :
    ∃ t, exec (.apply_ m b) s = .next t ∧ t.rigState = 4 ∧ t.rig.sched = b ∧ t.rig.schedNs = s.fld F.rigSchedNs_ns ∧
      t.rig.schedSec = s.fld F.rigSchedSecHi_sec_hi * 2 ^ 32 + s.fld F.rigSchedSecLo_sec_lo ∧
      FldsBut [F.rigSts_state, F.rigSts_busy] s t ∧ FrameBut [.regs, .rig] s t := by
  have hexec := exec_apply_taken hmay h hok
  rw [if_pos hlive] at hexec
  exact ⟨_, hexec, s.rigState_draining b, rfl, rfl, rfl, s.draining_flds b, s.draining_frame b⟩

theorem exec_apply_arms (h : ¬ s.applyRefused) (hok : s.schedOk = true) (hlive : s.prevLive = false) :
    ∃ t, exec (.apply_ m true) s = .next t ∧ t.rigState = 5 ∧ t.rig.sched = true ∧
      FldsBut [F.rigSts_state, F.rigSts_busy] s t ∧ FrameBut [.regs, .rig] s t := by
  have hexec := exec_apply_taken (b := true) hmay h (fun _ => hok)
  rw [if_neg (by simp [hlive])] at hexec
  obtain ⟨harmed, hrig, hflds, hframe⟩ := State.drainedHost_scheduled (s := s.draining true) rfl
  exact ⟨_, hexec, harmed, congrArg RigSt.sched hrig, fun g hg => (hflds g hg).trans (s.draining_flds true g hg), (s.draining_frame true).trans hframe⟩

theorem exec_apply_atOnce (h : ¬ s.applyRefused) (hlive : s.prevLive = false) :
    ∃ u, exec (.apply_ m false) s = .next u.applyInstant ∧ u.rigState = 4 ∧ u.staged = s.staged ∧
      FldsBut [F.rigSts_state, F.rigSts_busy] s u ∧ FrameBut [.regs, .rig] s u := by
  have hexec := exec_apply_taken (b := false) hmay h (by simp)
  rw [if_neg (by simp [hlive]), State.drainedHost_unscheduled (s := s.draining false) rfl] at hexec
  exact ⟨_, hexec, s.rigState_draining false, rfl, s.draining_flds false, s.draining_frame false⟩

/-! ### ABORT (R50, R51) -/

theorem exec_abort_open (h : s.rigState = 0) : exec (.abort_ m) s = .next (if s.rig.fresh then s.complete 3 else s) :=
  (if_pos hmay).trans (if_pos h)

theorem exec_abort_check (h : s.rigState = 1) : exec (.abort_ m) s = .next ((s.moveRig 0).complete 2) :=
  (if_pos hmay).trans ((if_neg (by omega)).trans (if_pos h))

/-- An ABORT of a drain or of an armed apply returns to CHECKED; no device-initiated apply follows when none is pending. -/
theorem exec_abort_apply (h : s.rigState = 4 ∨ s.rigState = 5) (hdev : s.rig.devApplies = []) :
    exec (.abort_ m) s = .next ((s.moveRig 2).complete 2) := by
  have hnone : ((s.moveRig 2).complete 2).tryDeviceApply = (s.moveRig 2).complete 2 := State.tryDeviceApply_of_none hdev
  rw [← hnone]
  exact (if_pos hmay).trans ((if_neg (by omega)).trans ((if_neg (by omega)).trans (if_pos h)))

theorem exec_abort_region (h : s.rigState = 6) : exec (.abort_ m) s = .next (s.complete 5) :=
  (if_pos hmay).trans ((if_neg (by omega)).trans ((if_neg (by omega)).trans ((if_neg (by omega)).trans (if_pos h))))

/-- An ABORT after a verdict or after an apply instant comes too late. -/
theorem exec_abort_late (h : s.rigState = 2 ∨ s.rigState = 3 ∨ (s.rigState = 0 ∧ s.rig.fresh = true)) :
    exec (.abort_ m) s = .next (s.complete 3) := by
  by_cases hopen : s.rigState = 0
  · have hfresh : s.rig.fresh = true := by simpa [hopen] using h
    rw [exec_abort_open hmay hopen, if_pos hfresh]
  · exact (if_pos hmay).trans ((if_neg hopen).trans ((if_neg (by omega)).trans ((if_neg (by omega)).trans (if_neg (by omega)))))

/-! ### DISCARD (R50) -/

theorem exec_discard_refused (h : 4 ≤ s.rigState) : exec (.discard m) s = .next (s.complete 5) := (if_pos hmay).trans (if_pos h)

theorem exec_discard_empties (h : s.rigState < 4) :
    ∃ t, exec (.discard m) s = .next t ∧ t.staged = [] ∧ t.stagedRecs = [] ∧ t.stagedLog = [] ∧ t.rigState = 0 ∧ t.fld F.rigSts_completion = 1 := by
  obtain ⟨hst, hcompl, -, -⟩ := s.fwdDiscard.emptyStaged.moveRig_complete_spec (st := 0) (c := cCompleted) (by decide) (by decide)
  exact ⟨_, (if_pos hmay).trans (if_neg (by omega)), rfl, rfl, rfl, hst, hcompl⟩

end

/-! ### CHECK_DONE (R50, R407) -/

/-- The machine with the first 256 violations recorded and their number shown. -/
def State.withViolations (s : State) (v : List Violation) : State :=
  ({ s with rig := { s.rig with viols := v.take 256 } }).setFld F.rigSts_viol_count (min 256 v.length)

/-- The machine as a verdict of the checker leaves it. -/
def State.judged (s : State) (v : List Violation) : State :=
  ((s.withViolations v).moveRig (if v = [] then 2 else 3)).complete (if v = [] then cCompleted else cCheckFailed)

theorem exec_checkDone {s : State} (h : s.rigState = 1) : exec .checkDone s = .next ((s.judged s.violations).post 0x0201 []) := if_pos h

/-- CHECKED without violations, FAILED with them. -/
theorem State.judged_verdict (s : State) (v : List Violation) :
    (v = [] → (s.judged v).rigState = 2 ∧ (s.judged v).fld F.rigSts_completion = 1) ∧
      (v ≠ [] → (s.judged v).rigState = 3 ∧ (s.judged v).fld F.rigSts_completion = 4) := by
  have hspec {st c : Nat} (hst : st < 8) (hc : c < 256) := (s.withViolations v).moveRig_complete_spec hst hc
  unfold State.judged
  constructor <;> intro hv
  · obtain ⟨hst, hcompl, -, -⟩ := hspec (st := 2) (c := 1) (by decide) (by decide)
    rw [if_pos hv, if_pos hv]
    exact ⟨hst, hcompl⟩
  · obtain ⟨hst, hcompl, -, -⟩ := hspec (st := 3) (c := 4) (by decide) (by decide)
    rw [if_neg hv, if_neg hv]
    exact ⟨hst, hcompl⟩

theorem State.judged_violCount (s : State) (v : List Violation) : (s.judged v).fld F.rigSts_viol_count = min 256 v.length := by
  have hmove : FldsBut [F.rigSts_state, F.rigSts_busy, F.rigSts_completion] (s.withViolations v) (s.judged v) :=
    ((State.moveRig_flds _ _).mono (by simp)).setFld _ (by simp) (by decide)
  have hset : (s.withViolations v).fld F.rigSts_viol_count = min 256 v.length := by
    rw [State.withViolations, State.fld_setFld_same _ _ _ (by decide)]
    exact Nat.mod_eq_of_lt (show min 256 v.length < 65536 by omega)
  exact (hmove F.rigSts_viol_count (by simp [Apart, F.rigSts_viol_count, F.rigSts_state, F.rigSts_busy, F.rigSts_completion])).trans hset

theorem State.judged_flds (s : State) (v : List Violation) :
    FldsBut [F.rigSts_viol_count, F.rigSts_state, F.rigSts_busy, F.rigSts_completion] s (s.judged v) :=
  ((((FldsBut.refl _ s).rig _).setFld _ (by simp) (by decide)).setFld _ (by simp) (by decide) |>.rig _).setFld _ (by simp) (by decide)
    |>.setFld _ (by simp) (by decide)

theorem State.judged_frame (s : State) (v : List Violation) : FrameBut [.regs, .rig] s (s.judged v) :=
  ((((FrameBut.refl _ s).rig _ (by simp)).setFld _ _ (by simp)).trans (State.moveRig_frame _ _)).setFld _ _ (by simp)

theorem State.judged_rig (s : State) (v : List Violation) : (s.judged v).rig = { s.rig with viols := v.take 256, fresh := false } := by
  rw [State.judged, State.complete, State.setFld_rig, State.moveRig_rig, State.withViolations, State.setFld_rig]

/-- What posting reads stands. -/
theorem State.judged_postSame (s : State) (v : List Violation) : PostSame s (s.judged v) :=
  ((((PostSame.refl s).rig _).setFld F.rigSts_viol_count _ (by decide) (by decide) (by decide) (by decide)).trans (State.moveRig_postSame _ _)).setFld
    F.rigSts_completion _ (by decide) (by decide) (by decide) (by decide)

theorem exec_checkDone_spec {s : State} (h : s.rigState = 1) :
    ∃ t, exec .checkDone s = .next t ∧ t.rig = { s.rig with viols := s.violations.take 256, fresh := false } ∧
      t.fld F.rigSts_viol_count = min 256 s.violations.length ∧
      (s.violations = [] → t.rigState = 2 ∧ t.fld F.rigSts_completion = 1) ∧ (s.violations ≠ [] → t.rigState = 3 ∧ t.fld F.rigSts_completion = 4) ∧
      Posted s t 0x0201 [] ∧ FldsBut [F.rigSts_viol_count, F.rigSts_state, F.rigSts_busy, F.rigSts_completion] s t ∧
      FrameBut [.regs, .rig, .evq, .cnt, .mem] s t := by
  have hexec := exec_checkDone h
  generalize s.violations = v at hexec ⊢
  obtain ⟨hclean, hviols⟩ := s.judged_verdict v
  have hst : ((s.judged v).post 0x0201 []).rigState = (s.judged v).rigState := State.post_fld_at _ _ _ _
  refine ⟨_, hexec, (State.post_rig _ _ _).trans (s.judged_rig v), (State.post_fld_at _ _ _ _).trans (s.judged_violCount v), ?_, ?_, ?_,
    (s.judged_flds v).post_ _ _, ((s.judged_frame v).mono (by simp)).post _ _ (by simp)⟩
  · rw [hst, State.post_fld_at]
    exact hclean
  · rw [hst, State.post_fld_at]
    exact hviols
  · exact Posted.of_same (s.judged_postSame v) rfl rfl rfl

end Sys2Proof.Machine

namespace Sys2Proof.Proofs

open Sys2Proof.Machine Sys2Proof.Safety

/-- Settles O19, by the commands and the states in which the machine takes them. -/
theorem stagingMachine : Obligations.stagingMachine := by
  refine ⟨fun m s hm hd => ?_, fun s hst => ?_, fun m b s h => exec_stagingCommand_refused s h b⟩
  · have hmay := State.rigMay_of_mayWrite hm hd
    refine ⟨fun h => ?_, exec_check_refused hmay, exec_apply_refused hmay, fun hst hreef hdev => ?_, fun h => ?_, fun h hdev => ?_, exec_abort_late hmay,
      fun h hfresh => ?_, exec_abort_region hmay, exec_discard_empties hmay, exec_discard_refused hmay⟩
    · exact ⟨_, exec_check_starts hmay h, s.rigState_moveRig (by decide), s.busy_moveRig_checking, rfl, s.moveRig_flds 1, s.moveRig_frame 1⟩
    · have hgo : ¬ s.applyRefused := by simp [State.applyRefused, hst, hreef, hdev]
      exact ⟨exec_apply_late hmay hgo, fun b => exec_apply_drains hmay hgo, exec_apply_arms hmay hgo, exec_apply_atOnce hmay hgo⟩
    · exact ⟨_, exec_abort_check hmay h, s.moveRig_complete_spec (by decide) (by decide)⟩
    · exact ⟨_, exec_abort_apply hmay h hdev, s.moveRig_complete_spec (by decide) (by decide)⟩
    · rw [exec_abort_open hmay h, if_neg (by simp [hfresh])]
  · exact exec_checkDone_spec hst

end Sys2Proof.Proofs
end

section
/-! Proofs about what the Ratline commands answer: how a command reports, and the commands that are turned away. -/

namespace Sys2Proof.Safety

open Sys2Proof.Machine

theorem FrameBut.tell {l : List Part} {s t : State} (h : FrameBut l s t) (k c : Nat) (ws : List Nat) (hl : .fw ∈ l) : FrameBut l s (t.tell k c ws) :=
  fun p hp => by
    have := h p hp
    cases p <;> simp_all [Part.Same]

theorem FrameBut.ratEnd {l : List Part} {s t : State} (h : FrameBut l s t) (hl : [.regs, .fw] ⊆ l) {via : Option Master} {k op ctx r : Nat} :
    FrameBut l s (t.ratEnd via k op ctx r) := by
  cases via with
  | none => exact h.tell _ _ _ (hl (by simp))
  | some m => exact h.setFld _ _ (hl (by simp))

theorem FldsBut.ratEnd {l : List Fld} {s t : State} {k : Nat} (h : FldsBut l s t) (hl : F.pchRatCmd_result k ∈ l) {via : Option Master} {op ctx r : Nat} :
    FldsBut l s (t.ratEnd via k op ctx r) := by
  cases via with
  | none => exact h.tell_ _ _ _
  | some m => exact h.setFld r hl (show 12 + 4 ≤ 32 by omega)

end Sys2Proof.Safety

namespace Sys2Proof.Machine

open Sys2Proof.Safety

/-! ### How a Ratline command reports (R129) -/

/-- A report leaves every part of the state but the registers and the messages to firmware. -/
theorem State.ratEnd_frame (s : State) {via : Option Master} {k op ctx r : Nat} : FrameBut [.regs, .fw] s (s.ratEnd via k op ctx r) :=
  (FrameBut.refl _ s).ratEnd (by simp)

theorem State.ratEnd_flds (s : State) {via : Option Master} {k op ctx r : Nat} : FldsBut [F.pchRatCmd_result k] s (s.ratEnd via k op ctx r) :=
  (FldsBut.refl _ s).ratEnd (by simp)

/-- What is reported after a change t of s that sends firmware nothing. -/
theorem State.ratEnd_says {s t : State} (hfw : t.fw = s.fw) {via : Option Master} {k op ctx r : Nat} (hr : r < 16) :
    RatSays s (t.ratEnd via k op ctx r) via k op ctx r := by
  cases via with
  | none => exact congrArg (· ++ [_]) hfw
  | some m => exact ⟨(State.fld_setFld_same _ _ _ (show 12 + 4 ≤ 32 by omega)).trans (Nat.mod_eq_of_lt hr), hfw⟩

section

variable (s : State) (via : Option Master) (c : Chan) (args : RatArgs)

theorem exec_openDisc : exec (.openDisc via c args) s = execOpenDisc s via c args := rfl
theorem exec_closeDisc : exec (.closeDisc via c args) s = execCloseDisc s via c args := rfl
theorem exec_create : exec (.create via c args) s = execCreate s via c args := rfl
theorem exec_assign : exec (.assign via c args) s = execAssign s via c args := rfl
theorem exec_range : exec (.range_ via c args) s = execRange s via c args := rfl
theorem exec_activate : exec (.activate via c args) s = execActivate s via c args := rfl
theorem exec_setEqd : exec (.setEqd via c args) s = execSetEqd s via c args := rfl
theorem exec_deactivate : exec (.deactivate via c args) s = execDeactivate s via c args := rfl
theorem exec_release : exec (.release via c args) s = execRelease s via c args := rfl
theorem exec_abortRange : exec (.abortRange via c args) s = execAbortRange s via c args := rfl
theorem exec_ratRead (e : Ecc) : exec (.ratRead via c args e) s = execRatRead s via c args e := rfl

end

/-! ### When a Ratline command runs (R127, R129, R321) -/

/-- A command that runs with arguments a reports what its body answers for them. -/
theorem State.ratRun_taken {s t : State} {via : Option Master} {c : Chan} {op r : Nat} {args : RatArgs} {f : Nat → RatArgs → State × Nat}
    (hopen : s.ratOpen via = true) (hclean : (s.ratArgs via c.toNat args).poison = false) (hch : s.ch c.toNat ≠ 4 ∨ op = 11)
    (hf : f c.toNat (s.ratArgs via c.toNat args) = (t, r)) :
    s.ratRun via c op args f = .next (t.ratEnd via c.toNat op (s.ratArgs via c.toNat args).ctx r) := by
  have hrun : ¬ (s.ch c.toNat = chStandby ∧ op ≠ 11) := fun ⟨hst, hop⟩ => hch.elim (· hst) hop
  simp only [State.ratRun]
  rw [if_neg (by simp [hopen]), if_neg (by simp [hclean]), if_neg hrun, hf]

theorem exec_of_ratTaken {s t : State} {via : Option Master} {c : Chan} {args a : RatArgs} {x : Instr} {op r : Nat} {f : Nat → RatArgs → State × Nat}
    (h : RatTaken s via c.toNat args a) (hx : exec x s = s.ratRun via c op args f) (hf : f c.toNat a = (t, r)) :
    exec x s = .next (t.ratEnd via c.toNat op a.ctx r) := by
  obtain ⟨hopen, rfl, hclean, hch⟩ := h
  rw [hx, State.ratRun_taken hopen hclean (.inl hch) hf]

/-- The command x reports result r and changes nothing else. -/
def RatTurned (s : State) (via : Option Master) (k ctx : Nat) (x : Instr) (op r : Nat) : Prop :=
  ∃ t, exec x s = .next t ∧ RatSays s t via k op ctx r ∧ FldsBut [F.pchRatCmd_result k] s t ∧ FrameBut [.regs, .fw] s t

/-- A command whose report is all that it does. -/
theorem RatTurned.of_exec {s : State} {via : Option Master} {k ctx op r : Nat} {x : Instr} (hx : exec x s = .next (s.ratEnd via k op ctx r)) (hr : r < 16) :
    RatTurned s via k ctx x op r := ⟨_, hx, State.ratEnd_says rfl hr, s.ratEnd_flds, s.ratEnd_frame⟩

/-- A taken command whose body answers the state as it was is turned away with the body's result. -/
theorem RatTurned.of_taken {s : State} {via : Option Master} {c : Chan} {args a : RatArgs} {x : Instr} {op r : Nat} {f : Nat → RatArgs → State × Nat}
    (h : RatTaken s via c.toNat args a) (hx : exec x s = s.ratRun via c op args f) (hf : f c.toNat a = (s, r)) (hr : r < 16) :
    RatTurned s via c.toNat a.ctx x op r := .of_exec (exec_of_ratTaken h hx hf) hr

/-- The eleven Ratline commands by their numbers in PCH_RAT_CMD (R129). -/
def ratCommands : List (Nat × (Option Master → Chan → RatArgs → Instr)) :=
  [(1, .openDisc), (2, .closeDisc), (3, .create), (4, .assign), (5, .range_), (6, .activate), (7, .setEqd), (8, .deactivate), (9, .release), (10, .abortRange),
    (11, fun v c a => .ratRead v c a .clean)]

/-- Each of them is run by State.ratRun under its number. -/
theorem exec_ratCommand {p : Nat × (Option Master → Chan → RatArgs → Instr)} (hp : p ∈ ratCommands) (via : Option Master) (c : Chan) (args : RatArgs) (s : State) :
    ∃ f, exec (p.2 via c args) s = s.ratRun via c p.1 args f := by
  simp only [ratCommands, List.mem_cons, List.not_mem_nil, or_false] at hp
  rcases hp with rfl | rfl | rfl | rfl | rfl | rfl | rfl | rfl | rfl | rfl | rfl
  exacts [⟨_, exec_openDisc ..⟩, ⟨_, exec_closeDisc ..⟩, ⟨_, exec_create ..⟩, ⟨_, exec_assign ..⟩, ⟨_, exec_range ..⟩, ⟨_, exec_activate ..⟩, ⟨_, exec_setEqd ..⟩,
    ⟨_, exec_deactivate ..⟩, ⟨_, exec_release ..⟩, ⟨_, exec_abortRange ..⟩, ⟨_, exec_ratRead ..⟩]

section

variable {p : Nat × (Option Master → Chan → RatArgs → Instr)} (hp : p ∈ ratCommands) (c : Chan) (args : RatArgs) (s : State)
include hp

theorem exec_ratCommand_refused {m : Master} (hm : mayWrite m = false) : exec (p.2 (some m) c args) s = .next s := by
  obtain ⟨f, hf⟩ := exec_ratCommand hp (some m) c args s
  exact hf.trans (if_pos (by simp [State.ratOpen, hm]))

theorem exec_ratCommand_poisoned (h : args.poison = true) : exec (p.2 none c args) s = .next (s.count Cn.memPoisonMsg 0) := by
  obtain ⟨f, hf⟩ := exec_ratCommand hp none c args s
  have hpoison : (s.ratArgs none c.toNat args).poison = true := h
  exact hf.trans (if_pos hpoison)

theorem exec_ratCommand_standby {via : Option Master} (hopen : s.ratOpen via = true) (hclean : (s.ratArgs via c.toNat args).poison = false)
    (hch : s.ch c.toNat = 4) (hop : p.1 ≠ 11) : RatTurned s via c.toNat (s.ratArgs via c.toNat args).ctx (p.2 via c args) p.1 8 := by
  obtain ⟨f, hf⟩ := exec_ratCommand hp via c args s
  exact .of_exec (hf.trans ((if_neg (by simp [hopen])).trans ((if_neg (by simp [hclean])).trans (if_pos ⟨hch, hop⟩)))) (by decide)

end

/-! ### The commands that are turned away (R111, R112, R116, R120, R124, R409) -/

/-- A context of channel k with a serial number, as CREATE looks for one (R111). -/
theorem onu_any_sn_iff {l : Table OnuCtx} {k sn0 sn1 : Nat} :
    l.any (fun p => decide (p.2.st ≠ 0) && decide (p.2.chan = k) && decide (p.2.sn0 = sn0) && decide (p.2.sn1 = sn1)) = true ↔
      ∃ p ∈ l, p.2.st ≠ 0 ∧ p.2.chan = k ∧ p.2.sn0 = sn0 ∧ p.2.sn1 = sn1 := by
  simp [and_assoc]

section

variable {s : State} {via : Option Master} {c : Chan} {args a : RatArgs} (h : RatTaken s via c.toNat args a)
include h

theorem exec_openDisc_notRunning (hch : s.ch c.toNat ≠ 3) : RatTurned s via c.toNat a.ctx (.openDisc via c args) 1 8 :=
  .of_taken h (exec_openDisc ..) (if_pos hch) (by decide)

theorem exec_openDisc_noFrames (hch : s.ch c.toNat = 3) (hfr : bits a.a3 11 8 = 0) : RatTurned s via c.toNat a.ctx (.openDisc via c args) 1 2 :=
  .of_taken h (exec_openDisc ..) ((if_neg (not_not.mpr hch)).trans (if_pos hfr)) (by decide)

theorem exec_openDisc_windowOpen (hch : s.ch c.toNat = 3) (hfr : bits a.a3 11 8 ≠ 0) (hwin : (s.discOf c.toNat).opened = true) :
    RatTurned s via c.toNat a.ctx (.openDisc via c args) 1 1 :=
  .of_taken h (exec_openDisc ..) ((if_neg (not_not.mpr hch)).trans ((if_neg hfr).trans (if_pos hwin))) (by decide)

theorem exec_openDisc_poolEmpty (hch : s.ch c.toNat = 3) (hfr : bits a.a3 11 8 ≠ 0) (hwin : (s.discOf c.toNat).opened = false)
    (hused : ∀ e, e < 64 → e ∈ s.enginesUsed) : RatTurned s via c.toNat a.ctx (.openDisc via c args) 1 3 := by
  have hnone : (List.range 64).find? (fun e => !s.enginesUsed.contains e) = none := by simpa using hused
  refine .of_taken h (exec_openDisc ..) ((if_neg (not_not.mpr hch)).trans ((if_neg hfr).trans ((if_neg (by simp [hwin])).trans ?_))) (by decide)
  rw [hnone]
  rfl

theorem exec_assign_badArg (hid : 1020 < a.onuId) : RatTurned s via c.toNat a.ctx (.assign via c args) 4 2 :=
  .of_taken h (exec_assign ..) (if_pos hid) (by decide)

theorem exec_range_badArg (htries : a.tries = 0) : RatTurned s via c.toNat a.ctx (.range_ via c args) 5 2 :=
  .of_taken h (exec_range ..) (if_pos htries) (by decide)

/-- A context of another channel turns every command but the discovery ones away, once its arguments are within their encodings. -/
theorem exec_ratCommand_otherCh (hother : s.otherCh a.ctx c.toNat = true) :
    RatTurned s via c.toNat a.ctx (.create via c args) 3 7 ∧ (a.onuId ≤ 1020 → RatTurned s via c.toNat a.ctx (.assign via c args) 4 7) ∧
      (a.tries ≠ 0 → RatTurned s via c.toNat a.ctx (.range_ via c args) 5 7) ∧ RatTurned s via c.toNat a.ctx (.activate via c args) 6 7 ∧
      RatTurned s via c.toNat a.ctx (.setEqd via c args) 7 7 ∧ RatTurned s via c.toNat a.ctx (.deactivate via c args) 8 7 ∧
      RatTurned s via c.toNat a.ctx (.release via c args) 9 7 ∧ RatTurned s via c.toNat a.ctx (.abortRange via c args) 10 7 ∧
      ∀ e, RatTurned s via c.toNat a.ctx (.ratRead via c args e) 11 7 :=
  ⟨.of_taken h (exec_create ..) (if_pos hother) (by decide),
    fun hid => .of_taken h (exec_assign ..) ((if_neg (Nat.not_lt.mpr hid)).trans (if_pos hother)) (by decide),
    fun htries => .of_taken h (exec_range ..) ((if_neg htries).trans (if_pos hother)) (by decide),
    .of_taken h (exec_activate ..) (if_pos hother) (by decide), .of_taken h (exec_setEqd ..) (if_pos hother) (by decide),
    .of_taken h (exec_deactivate ..) (if_pos hother) (by decide), .of_taken h (exec_release ..) (if_pos hother) (by decide),
    .of_taken h (exec_abortRange ..) (if_pos hother) (by decide), fun _ => .of_taken h (exec_ratRead ..) (if_pos hother) (by decide)⟩

variable (hown : s.otherCh a.ctx c.toNat = false)
include hown

theorem exec_create_badState (hst : (s.onuOf a.ctx).st ≠ 0) : RatTurned s via c.toNat a.ctx (.create via c args) 3 1 :=
  .of_taken h (exec_create ..) ((if_neg (Bool.eq_false_iff.mp hown)).trans (if_pos hst)) (by decide)

theorem exec_create_dupSn (hst : (s.onuOf a.ctx).st = 0) (hdup : ∃ p ∈ s.onu, p.2.st ≠ 0 ∧ p.2.chan = c.toNat ∧ p.2.sn0 = a.a1 ∧ p.2.sn1 = a.a2) :
    RatTurned s via c.toNat a.ctx (.create via c args) 3 5 :=
  .of_taken h (exec_create ..)
    ((if_neg (Bool.eq_false_iff.mp hown)).trans ((if_neg (not_not.mpr hst)).trans (if_pos (onu_any_sn_iff.mpr hdup)))) (by decide)

section

variable (hid : a.onuId ≤ 1020)
include hid

theorem exec_assign_badState (hst : (s.onuOf a.ctx).st ≠ 1) : RatTurned s via c.toNat a.ctx (.assign via c args) 4 1 :=
  .of_taken h (exec_assign ..) ((if_neg (Nat.not_lt.mpr hid)).trans ((if_neg (Bool.eq_false_iff.mp hown)).trans (if_pos hst))) (by decide)

theorem exec_assign_chFull (hst : (s.onuOf a.ctx).st = 1) (hfull : 256 ≤ (s.held c.toNat).length) : RatTurned s via c.toNat a.ctx (.assign via c args) 4 4 :=
  .of_taken h (exec_assign ..)
    ((if_neg (Nat.not_lt.mpr hid)).trans ((if_neg (Bool.eq_false_iff.mp hown)).trans ((if_neg (not_not.mpr hst)).trans (if_pos hfull)))) (by decide)

theorem exec_assign_idInUse (hst : (s.onuOf a.ctx).st = 1) (hroom : (s.held c.toNat).length < 256) (hdup : ∃ x ∈ s.held c.toNat, x.onuId = a.onuId) :
    RatTurned s via c.toNat a.ctx (.assign via c args) 4 6 := by
  have hany : (s.held c.toNat).any (fun x => decide (x.onuId = a.onuId)) = true := by simpa using hdup
  exact .of_taken h (exec_assign ..) ((if_neg (Nat.not_lt.mpr hid)).trans
    ((if_neg (Bool.eq_false_iff.mp hown)).trans ((if_neg (not_not.mpr hst)).trans ((if_neg (Nat.not_le.mpr hroom)).trans (if_pos hany))))) (by decide)

end

theorem exec_range_badState (htries : a.tries ≠ 0) (hst : (s.onuOf a.ctx).st < 2 ∨ (s.onuOf a.ctx).st = 3 ∨ 5 < (s.onuOf a.ctx).st) :
    RatTurned s via c.toNat a.ctx (.range_ via c args) 5 1 := by
  have hst : ¬ ((s.onuOf a.ctx).st = 2 ∨ (s.onuOf a.ctx).st = 4 ∨ (s.onuOf a.ctx).st = 5) := by omega
  exact .of_taken h (exec_range ..) ((if_neg htries).trans ((if_neg (Bool.eq_false_iff.mp hown)).trans (if_pos hst))) (by decide)

theorem exec_range_poolEmpty (htries : a.tries ≠ 0) (hst : (s.onuOf a.ctx).st = 2 ∨ (s.onuOf a.ctx).st = 4 ∨ (s.onuOf a.ctx).st = 5)
    (hfull : 8 ≤ (s.measuring c.toNat).length) : RatTurned s via c.toNat a.ctx (.range_ via c args) 5 3 :=
  .of_taken h (exec_range ..) ((if_neg htries).trans ((if_neg (Bool.eq_false_iff.mp hown)).trans ((if_neg (not_not.mpr hst)).trans (if_pos hfull)))) (by decide)

theorem exec_activate_badState (hst : (s.onuOf a.ctx).st ≠ 3 ∨ (s.onuOf a.ctx).measured = false) :
    RatTurned s via c.toNat a.ctx (.activate via c args) 6 1 := by
  have hst : ¬ ((s.onuOf a.ctx).st = 3 ∧ (s.onuOf a.ctx).measured = true) := fun ⟨h3, hm⟩ => hst.elim (· h3) (by simp [hm])
  exact .of_taken h (exec_activate ..) ((if_neg (Bool.eq_false_iff.mp hown)).trans (if_neg hst)) (by decide)

theorem exec_setEqd_badState (hst : (s.onuOf a.ctx).prop = none ∨ (s.onuOf a.ctx).st ≠ 4 ∨ (s.onuOf a.ctx).update.isSome = true) :
    RatTurned s via c.toNat a.ctx (.setEqd via c args) 7 1 := by
  refine .of_taken h (exec_setEqd ..) ((if_neg (Bool.eq_false_iff.mp hown)).trans ?_) (by decide)
  split
  · rfl
  next hprop => exact if_pos (hst.resolve_left (by simp [hprop]))

theorem exec_setEqd_badArg {p : Nat × Nat × Nat} (hprop : (s.onuOf a.ctx).prop = some p) (hst : (s.onuOf a.ctx).st = 4)
    (hupd : (s.onuOf a.ctx).update = none) (hne : a.a1 ≠ p.2.1) : RatTurned s via c.toNat a.ctx (.setEqd via c args) 7 2 := by
  refine .of_taken h (exec_setEqd ..) ((if_neg (Bool.eq_false_iff.mp hown)).trans ?_) (by decide)
  rw [hprop]
  exact (if_neg (by simp [hst, hupd])).trans (if_pos hne)

theorem exec_deactivate_badState (hst : (s.onuOf a.ctx).st < 2) : RatTurned s via c.toNat a.ctx (.deactivate via c args) 8 1 :=
  .of_taken h (exec_deactivate ..) ((if_neg (Bool.eq_false_iff.mp hown)).trans (if_pos hst)) (by decide)

theorem exec_release_badState (hst : (s.onuOf a.ctx).st ≠ 1) : RatTurned s via c.toNat a.ctx (.release via c args) 9 1 :=
  .of_taken h (exec_release ..) ((if_neg (Bool.eq_false_iff.mp hown)).trans (if_pos hst)) (by decide)

theorem exec_abortRange_badState (hst : (s.onuOf a.ctx).st ≠ 3) : RatTurned s via c.toNat a.ctx (.abortRange via c args) 10 1 :=
  .of_taken h (exec_abortRange ..) ((if_neg (Bool.eq_false_iff.mp hown)).trans (if_pos hst)) (by decide)

end

end Sys2Proof.Machine

namespace Sys2Proof.Proofs

open Sys2Proof.Machine Sys2Proof.Safety

/-- Settles O15, by the eleven commands and, for each, the conditions under which it is turned away in the order of R409. -/
theorem ratlineRefusals : Obligations.ratlineRefusals := by
  refine ⟨fun p hp c args s => ?_, fun via c args a s h => ?_⟩
  · exact ⟨fun m => exec_ratCommand_refused hp c args s, exec_ratCommand_poisoned hp c args s, fun via => exec_ratCommand_standby hp c args s⟩
  · refine ⟨exec_openDisc_notRunning h, exec_openDisc_noFrames h, exec_openDisc_windowOpen h, exec_openDisc_poolEmpty h, exec_assign_badArg h, exec_range_badArg h,
      exec_ratCommand_otherCh h, fun hown => ⟨exec_create_badState h hown, exec_create_dupSn h hown, fun hid => ?_, fun htries => ?_,
        exec_activate_badState h hown, exec_setEqd_badState h hown, fun p => exec_setEqd_badArg h hown, exec_deactivate_badState h hown, exec_release_badState h hown,
        exec_abortRange_badState h hown⟩⟩
    · exact ⟨exec_assign_badState h hown hid, exec_assign_chFull h hown hid, exec_assign_idInUse h hown hid⟩
    · exact ⟨exec_range_badState h hown htries, exec_range_poolEmpty h hown htries⟩

end Sys2Proof.Proofs
end

section
/-! Proofs about the commands on ONU contexts: CREATE to ABORT_RANGE, and RAT_READ. -/

namespace Sys2Proof.Safety

open Sys2Proof.Machine

theorem FrameBut.mem {l : List Part} {s t : State} (h : FrameBut l s t) (x : MemSt) (hl : .mem ∈ l) : FrameBut l s { t with mem := x } := fun p hp => by
  have := h p hp
  cases p <;> simp_all [Part.Same]

theorem FrameBut.shr {l : List Part} {s t : State} (h : FrameBut l s t) (x : ShrSt) (hl : .shr ∈ l) : FrameBut l s { t with shr := x } := fun p hp => by
  have := h p hp
  cases p <;> simp_all [Part.Same]

/-- A change that leaves the registers leaves the fields. -/
theorem FldsBut.of_frame {l : List Fld} {p : List Part} {s t u : State} (h : FldsBut l s t) (hf : FrameBut p t u) (hp : .regs ∉ p) : FldsBut l s u :=
  h.of_regs (hf .regs hp)

/-- A change beside the event queue, the counters and the journal leaves what was posted. -/
theorem Posted.of_frame {p : List Part} {s t u : State} {code : Nat} {d : List Nat} (h : Posted s t code d) (hf : FrameBut p t u) (he : .evq ∉ p)
    (hc : .cnt ∉ p) (hm : .mem ∉ p) : Posted s u code d := by
  obtain ⟨hevq, hcnt, hmem⟩ := h
  exact ⟨(hf .evq he).trans hevq, (hf .cnt hc).trans hcnt, (hf .mem hm).trans hmem⟩

end Sys2Proof.Safety

namespace Sys2Proof.Machine

open Sys2Proof.Safety

/-! ### Contexts under the state's operations -/

theorem State.onuOf_of_frame {l : List Part} {s t : State} (h : FrameBut l s t) (hl : .onu ∉ l) (j : Nat) : t.onuOf j = s.onuOf j := by
  rw [State.onuOf, State.onuOf, show t.onu = s.onu from h .onu hl]

theorem State.onuOf_ratEnd (s : State) (via : Option Master) (k op ctx r j : Nat) : (s.ratEnd via k op ctx r).onuOf j = s.onuOf j :=
  State.onuOf_of_frame s.ratEnd_frame (by decide) j

theorem State.onuOf_setOnu_same (s : State) (n : Nat) (o : OnuCtx) : (s.setOnu n o).onuOf n = o := Tbl.find_put_same _ _ _ _

theorem State.onuOf_setOnu_other (s : State) {n j : Nat} (o : OnuCtx) (h : j ≠ n) : (s.setOnu n o).onuOf j = s.onuOf j := Tbl.find_put_other _ _ _ _ h

theorem State.setOnu_frame (s : State) (n : Nat) (o : OnuCtx) : FrameBut [.onu] s (s.setOnu n o) := (FrameBut.refl _ s).onu _ (by simp)

/-- A context that moves with an event. -/
theorem State.setOnu_post_spec (s : State) (n : Nat) (o : OnuCtx) (code : Nat) (d : List Nat) :
    ((s.setOnu n o).post code d).onuOf n = o ∧ (∀ j, j ≠ n → ((s.setOnu n o).post code d).onuOf j = s.onuOf j) ∧
      Posted s ((s.setOnu n o).post code d) code d ∧ FrameBut [.onu, .evq, .cnt, .mem] s ((s.setOnu n o).post code d) := by
  have honu (j : Nat) : ((s.setOnu n o).post code d).onuOf j = (s.setOnu n o).onuOf j := by rw [State.onuOf, State.post_onu]; rfl
  refine ⟨(honu n).trans (s.onuOf_setOnu_same n o), fun j hj => (honu j).trans (s.onuOf_setOnu_other o hj), ?_, ?_⟩
  · exact Posted.of_same ((PostSame.refl s).onu _) rfl rfl rfl
  · exact ((s.setOnu_frame n o).mono (by simp)).post _ _ (by simp)

/-! ### The end of a measurement (R112, R120, R131) -/

/-- A context as the end of its measurement leaves it. -/
def OnuCtx.measEnded (o : OnuCtx) (outcome : Nat) (back : Bool) : OnuCtx :=
  { o with meas := none, outcome := outcome, st := if back then o.prior else o.st }

theorem State.endMeas_of_none {s : State} {n : Nat} (h : (s.onuOf n).meas = none) (outcome : Nat) (back : Bool) : s.endMeas n outcome back = s := by
  rw [State.endMeas, h]

theorem State.endMeas_of_some {s : State} {n : Nat} {m : Meas} (h : (s.onuOf n).meas = some m) (outcome : Nat) (back : Bool) :
    s.endMeas n outcome back = ((s.setOnu n ((s.onuOf n).measEnded outcome back)).countOutcome (s.onuOf n).chan outcome).post 0x0A21
      [(s.onuOf n).chan, n, outcome] := by
  rw [State.endMeas, h]
  rfl

theorem State.countOutcome_frame (s : State) (k outcome : Nat) : FrameBut [.cnt] s (s.countOutcome k outcome) := by
  have hcount (c : Ctr) : FrameBut [.cnt] s (s.count c k) := (FrameBut.refl _ s).count c k (by simp)
  simp only [State.countOutcome, apply_ite (FrameBut [.cnt] s), hcount, FrameBut.refl, ite_self]

theorem PostSame.countOutcome {s t : State} (h : PostSame s t) (k outcome : Nat) : PostSame (s.countOutcome k outcome) (t.countOutcome k outcome) := by
  unfold State.countOutcome
  split
  · exact h.count _ _
  · split
    · exact h.count _ _
    · exact h

/-- The measurement of a context ends: the context has its outcome, and RANGE_DONE is posted once it is counted. -/
theorem State.endMeas_spec {s : State} {n : Nat} {m : Meas} (h : (s.onuOf n).meas = some m) (outcome : Nat) (back : Bool) :
    (s.endMeas n outcome back).onuOf n = (s.onuOf n).measEnded outcome back ∧ (∀ j, j ≠ n → (s.endMeas n outcome back).onuOf j = s.onuOf j) ∧
      Posted (s.countOutcome (s.onuOf n).chan outcome) (s.endMeas n outcome back) 0x0A21 [(s.onuOf n).chan, n, outcome] ∧
      FrameBut [.onu, .evq, .cnt, .mem] s (s.endMeas n outcome back) := by
  rw [State.endMeas_of_some h]
  generalize (s.onuOf n).measEnded outcome back = o
  generalize (s.onuOf n).chan = k
  have hframe : FrameBut [.cnt, .evq, .mem] (s.setOnu n o) (((s.setOnu n o).countOutcome k outcome).post 0x0A21 [k, n, outcome]) :=
    (((s.setOnu n o).countOutcome_frame k outcome).mono (by simp)).post _ _ (by simp)
  have honu := State.onuOf_of_frame hframe (by decide)
  refine ⟨(honu n).trans (s.onuOf_setOnu_same n o), fun j hj => (honu j).trans (s.onuOf_setOnu_other o hj), ?_, ?_⟩
  · exact Posted.of_same (((PostSame.refl s).onu _).countOutcome k outcome) rfl rfl rfl
  · exact ((s.setOnu_frame n o).mono (by simp)).trans (hframe.mono (by simp))

/-! ### A context command that completes -/

/-- The command x completes and makes o' of the context, and nothing else. -/
def RatDone (s : State) (via : Option Master) (k n : Nat) (x : Instr) (op : Nat) (o' : OnuCtx) : Prop :=
  ∃ t, exec x s = .next t ∧ RatSays s t via k op n 0 ∧ t.onuOf n = o' ∧ (∀ j, j ≠ n → t.onuOf j = s.onuOf j) ∧ FldsBut [F.pchRatCmd_result k] s t ∧
    FrameBut [.regs, .onu, .fw] s t

theorem RatDone.of_exec {s : State} {via : Option Master} {k n op : Nat} {x : Instr} {o' : OnuCtx}
    (hx : exec x s = .next ((s.setOnu n o').ratEnd via k op n 0)) : RatDone s via k n x op o' := by
  have hframe := s.setOnu_frame n o'
  refine ⟨_, hx, State.ratEnd_says rfl (by decide), (State.onuOf_ratEnd ..).trans (s.onuOf_setOnu_same n o'), fun j hj => ?_, ?_, ?_⟩
  · exact (State.onuOf_ratEnd ..).trans (s.onuOf_setOnu_other o' hj)
  · exact ((FldsBut.refl _ s).of_frame hframe (by decide)).ratEnd (by simp)
  · exact (hframe.mono (k := [.regs, .onu, .fw]) (by simp)).ratEnd (by simp)

/-- A taken command whose body answers the state with one context changed. -/
theorem RatDone.of_taken {s : State} {via : Option Master} {c : Chan} {args a : RatArgs} {x : Instr} {op : Nat} {o' : OnuCtx}
    {f : Nat → RatArgs → State × Nat} (h : RatTaken s via c.toNat args a) (hx : exec x s = s.ratRun via c op args f)
    (hf : f c.toNat a = (s.setOnu a.ctx o', 0)) : RatDone s via c.toNat a.ctx x op o' := .of_exec (exec_of_ratTaken h hx hf)

/-- A context with what the last frame boundary put in force of context o, which a command leaves (R112). -/
def OnuCtx.inForceOf (o' o : OnuCtx) : OnuCtx :=
  { o' with stNow := o.stNow, chanNow := o.chanNow, onuIdNow := o.onuIdNow, keyIxNow := o.keyIxNow }

section

variable {s : State} {via : Option Master} {c : Chan} {args a : RatArgs} (h : RatTaken s via c.toNat args a) (hown : s.otherCh a.ctx c.toNat = false)
include h hown

theorem exec_assign_done (hid : a.onuId ≤ 1020) (hst : (s.onuOf a.ctx).st = 1) (hroom : (s.held c.toNat).length < 256)
    (hfree : ∀ x ∈ s.held c.toNat, x.onuId ≠ a.onuId) :
    RatDone s via c.toNat a.ctx (.assign via c args) 4 { s.onuOf a.ctx with st := 2, onuId := a.onuId } := by
  have hany : ¬ (s.held c.toNat).any (fun x => decide (x.onuId = a.onuId)) = true := by simpa using hfree
  exact .of_taken h (exec_assign ..) ((if_neg (Nat.not_lt.mpr hid)).trans ((if_neg (Bool.eq_false_iff.mp hown)).trans
    ((if_neg (not_not.mpr hst)).trans ((if_neg (Nat.not_le.mpr hroom)).trans (if_neg hany)))))

theorem exec_range_done (htries : a.tries ≠ 0) (hst : (s.onuOf a.ctx).st = 2 ∨ (s.onuOf a.ctx).st = 4 ∨ (s.onuOf a.ctx).st = 5)
    (hroom : (s.measuring c.toNat).length < 8) :
    RatDone s via c.toNat a.ctx (.range_ via c args) 5
      { s.onuOf a.ctx with drift := false, prop := none, update := none, prior := (s.onuOf a.ctx).st, st := 3, presetValid := false, measured := false,
                           meas := some { tries := a.tries, rtdMin := a.a1, rtdMax := a.a2, profile := bits a.a3 1 0 } } :=
  .of_taken h (exec_range ..) ((if_neg htries).trans ((if_neg (Bool.eq_false_iff.mp hown)).trans ((if_neg (not_not.mpr hst)).trans (if_neg (Nat.not_le.mpr hroom)))))

theorem exec_activate_done (hst : (s.onuOf a.ctx).st = 3) (hmeas : (s.onuOf a.ctx).measured = true) :
    RatDone s via c.toNat a.ctx (.activate via c args) 6
      { s.onuOf a.ctx with drift := false, prop := none, update := none, st := 4, f := 0, measured := false } :=
  .of_taken h (exec_activate ..) ((if_neg (Bool.eq_false_iff.mp hown)).trans (if_pos ⟨hst, hmeas⟩))

theorem exec_setEqd_done {p : Nat × Nat × Nat} (hprop : (s.onuOf a.ctx).prop = some p) (hst : (s.onuOf a.ctx).st = 4)
    (hupd : (s.onuOf a.ctx).update = none) (heq : a.a1 = p.2.1) :
    RatDone s via c.toNat a.ctx (.setEqd via c args) 7 { s.onuOf a.ctx with update := some (s.fld (F.pchRatDrift_upd_frames c.toNat) + 1) } := by
  refine .of_taken h (exec_setEqd ..) ((if_neg (Bool.eq_false_iff.mp hown)).trans ?_)
  split
  next hnone => exact absurd (hprop.symm.trans hnone) (by simp)
  next hsome =>
    obtain rfl := Option.some.inj (hprop.symm.trans hsome)
    exact (if_neg (by simp [hst, hupd])).trans (if_neg (not_not.mpr heq))

theorem exec_release_done (hst : (s.onuOf a.ctx).st = 1) :
    RatDone s via c.toNat a.ctx (.release via c args) 9 (onuInit.inForceOf (s.onuOf a.ctx)) :=
  .of_taken h (exec_release ..) ((if_neg (Bool.eq_false_iff.mp hown)).trans (if_neg (not_not.mpr hst)))

/-! ### DEACTIVATE and ABORT_RANGE (R112, R120) -/

theorem exec_deactivate_answer (hst : 2 ≤ (s.onuOf a.ctx).st) :
    exec (.deactivate via c args) s = .next ((s.toIdle a.ctx).ratEnd via c.toNat 8 a.ctx 0) :=
  exec_of_ratTaken h (exec_deactivate ..) ((if_neg (Bool.eq_false_iff.mp hown)).trans (if_neg (Nat.not_lt.mpr hst)))

theorem exec_deactivate_idle (hst : 2 ≤ (s.onuOf a.ctx).st) (hmeas : (s.onuOf a.ctx).meas = none) :
    RatDone s via c.toNat a.ctx (.deactivate via c args) 8 (s.onuOf a.ctx).idle := by
  have hidle : s.toIdle a.ctx = s.setOnu a.ctx (s.onuOf a.ctx).idle := by simp only [State.toIdle, State.endMeas_of_none hmeas]
  exact .of_exec (by rw [exec_deactivate_answer h hown hst, hidle])

theorem exec_deactivate_ranging (hst : 2 ≤ (s.onuOf a.ctx).st) (hmeas : (s.onuOf a.ctx).meas.isSome = true) :
    ∃ t, exec (.deactivate via c args) s = .next t ∧ RatSays s t via c.toNat 8 a.ctx 0 ∧ (t.onuOf a.ctx).st = 1 ∧ (t.onuOf a.ctx).onuId = 0 ∧
      (t.onuOf a.ctx).meas = none ∧ (t.onuOf a.ctx).outcome = 3 ∧ (t.onuOf a.ctx).pm = [] ∧ (t.onuOf a.ctx).update = none ∧
      (∀ j, j ≠ a.ctx → t.onuOf j = s.onuOf j) ∧ Posted s t 0x0A21 [(s.onuOf a.ctx).chan, a.ctx, 3] ∧ FldsBut [F.pchRatCmd_result c.toNat] s t ∧
      FrameBut [.regs, .onu, .fw, .evq, .cnt, .mem] s t := by
  obtain ⟨m, hm⟩ := Option.isSome_iff_exists.mp hmeas
  obtain ⟨hctx, hother, hposted, hframe⟩ := State.endMeas_spec hm oAborted false
  have hto : FrameBut [.onu] (s.endMeas a.ctx oAborted false) (s.toIdle a.ctx) := State.setOnu_frame _ _ _
  have honu : ((s.toIdle a.ctx).ratEnd via c.toNat 8 a.ctx 0).onuOf a.ctx = ((s.onuOf a.ctx).measEnded oAborted false).idle := by
    rw [State.onuOf_ratEnd, ← hctx]
    exact State.onuOf_setOnu_same _ _ _
  have hidle : FrameBut [.onu, .evq, .cnt, .mem] s (s.toIdle a.ctx) := hframe.trans (hto.mono (by simp))
  refine ⟨_, exec_deactivate_answer h hown hst, State.ratEnd_says (hidle .fw (by decide)) (by decide), ?_⟩
  rw [honu]
  refine ⟨rfl, rfl, rfl, rfl, rfl, rfl, fun j hj => ?_, ?_, ?_, ?_⟩
  · rw [State.onuOf_ratEnd, ← hother j hj]
    exact State.onuOf_setOnu_other _ _ hj
  · exact (hposted.of_frame hto (by decide) (by decide) (by decide)).of_frame (State.ratEnd_frame _) (by decide) (by decide) (by decide)
  · exact ((FldsBut.refl _ s).of_frame hidle (by decide)).ratEnd (by simp)
  · exact (hidle.mono (by simp)).ratEnd (by simp)

theorem exec_abortRange_ends (hst : (s.onuOf a.ctx).st = 3) (hmeas : (s.onuOf a.ctx).meas.isSome = true) :
    ∃ t, exec (.abortRange via c args) s = .next t ∧ RatSays s t via c.toNat 10 a.ctx 9 ∧ t.onuOf a.ctx = (s.onuOf a.ctx).measEnded 3 true ∧
      (∀ j, j ≠ a.ctx → t.onuOf j = s.onuOf j) ∧ Posted s t 0x0A21 [(s.onuOf a.ctx).chan, a.ctx, 3] ∧ FldsBut [F.pchRatCmd_result c.toNat] s t ∧
      FrameBut [.regs, .onu, .fw, .evq, .cnt, .mem] s t := by
  obtain ⟨m, hm⟩ := Option.isSome_iff_exists.mp hmeas
  obtain ⟨hctx, hother, hposted, hframe⟩ := State.endMeas_spec hm oAborted true
  have hexec : exec (.abortRange via c args) s = .next ((s.endMeas a.ctx oAborted true).ratEnd via c.toNat 10 a.ctx 9) :=
    exec_of_ratTaken h (exec_abortRange ..) ((if_neg (Bool.eq_false_iff.mp hown)).trans ((if_neg (not_not.mpr hst)).trans (if_neg (by simp [hm]))))
  refine ⟨_, hexec, State.ratEnd_says (hframe .fw (by decide)) (by decide), (State.onuOf_ratEnd ..).trans hctx,
    fun j hj => (State.onuOf_ratEnd ..).trans (hother j hj), hposted.of_frame (State.ratEnd_frame _) (by decide) (by decide) (by decide), ?_, ?_⟩
  · exact ((FldsBut.refl _ s).of_frame hframe (by decide)).ratEnd (by simp)
  · exact (hframe.mono (by simp)).ratEnd (by simp)

theorem exec_abortRange_late (hst : (s.onuOf a.ctx).st = 3) (hmeas : (s.onuOf a.ctx).meas = none) :
    RatTurned s via c.toNat a.ctx (.abortRange via c args) 10 10 :=
  .of_taken h (exec_abortRange ..) ((if_neg (Bool.eq_false_iff.mp hown)).trans ((if_neg (not_not.mpr hst)).trans (if_pos hmeas))) (by decide)

end

/-! ### CREATE (R80, R111, R112) -/

/-- A write of a code word touches the memories' state and, with a flip armed, the registers of the flip (R318, R325). -/
theorem State.noteWrite_frame (s : State) (mem ix : Nat) : FrameBut [.regs, .mem] s (s.noteWrite mem ix) := by
  have hclean : FrameBut [.regs, .mem] s ((s.setPoison mem ix false).setFlip mem ix 0) := ((FrameBut.refl _ s).mem _ (by simp)).mem _ (by simp)
  unfold State.noteWrite
  dsimp only
  split
  · exact ((hclean.setFld _ _ (by simp)).setFld _ _ (by simp)).mem _ (by simp)
  · exact hclean

/-- The machine with context n written anew and without keys. -/
def State.created (s : State) (n : Nat) (o : OnuCtx) : State :=
  (((s.setOnu n o).cleanRec 3 kOnuCtx n).setKeys n noKeys).dropKey (keyName stOnu n)

/-- What writing a context anew touches beside the context. -/
theorem State.created_frame (s : State) (n : Nat) (o : OnuCtx) : FrameBut [.regs, .mem, .shr] (s.setOnu n o) (s.created n o) :=
  (((State.noteWrite_frame _ _ _).mono (by simp)).shr _ (by simp)).shr _ (by simp)

theorem State.keysOf_created (s : State) (n : Nat) (o : OnuCtx) (j : Nat) : (s.created n o).keysOf j = if j = n then noKeys else s.keysOf j := by
  have hshr : ((s.setOnu n o).cleanRec 3 kOnuCtx n).shr = s.shr := State.noteWrite_frame _ _ _ .shr (by decide)
  have hkeys : (s.created n o).keysOf j = Tbl.find (Tbl.put ((s.setOnu n o).cleanRec 3 kOnuCtx n).shr.keys n noKeys noKeys) j noKeys := rfl
  rw [hkeys, hshr]
  exact Tbl.find_put _ _ _ _ _

theorem State.keysOf_of_frame {l : List Part} {s t : State} (h : FrameBut l s t) (hl : .shr ∉ l) (j : Nat) : t.keysOf j = s.keysOf j := by
  rw [State.keysOf, State.keysOf, show t.shr = s.shr from h .shr hl]

theorem State.created_spec (s : State) (n : Nat) (o : OnuCtx) (via : Option Master) (k : Nat) :
    let t := (s.created n o).ratEnd via k 3 n 0
    RatSays s t via k 3 n 0 ∧ t.onuOf n = o ∧ (∀ j, j ≠ n → t.onuOf j = s.onuOf j) ∧ t.keysOf n = noKeys ∧ (∀ j, j ≠ n → t.keysOf j = s.keysOf j) ∧
      FrameBut [.regs, .onu, .fw, .mem, .shr] s t := by
  intro t
  have hframe := s.created_frame n o
  have honu (j : Nat) : t.onuOf j = (s.setOnu n o).onuOf j := (State.onuOf_ratEnd ..).trans (State.onuOf_of_frame hframe (by decide) j)
  have hkeys (j : Nat) : t.keysOf j = if j = n then noKeys else s.keysOf j :=
    (State.keysOf_of_frame (State.ratEnd_frame _) (by decide) j).trans (s.keysOf_created n o j)
  refine ⟨State.ratEnd_says (hframe .fw (by decide)) (by decide), (honu n).trans (s.onuOf_setOnu_same n o),
    fun j hj => (honu j).trans (s.onuOf_setOnu_other o hj), (hkeys n).trans (if_pos rfl), fun j hj => (hkeys j).trans (if_neg hj), ?_⟩
  exact (((s.setOnu_frame n o).mono (by simp)).trans (hframe.mono (by simp))).ratEnd (by simp)

theorem exec_create_done {s : State} {via : Option Master} {c : Chan} {args a : RatArgs} (h : RatTaken s via c.toNat args a)
    (hown : s.otherCh a.ctx c.toNat = false) (hst : (s.onuOf a.ctx).st = 0)
    (hfree : ∀ p ∈ s.onu, p.2.st ≠ 0 → p.2.chan = c.toNat → p.2.sn0 = a.a1 → p.2.sn1 ≠ a.a2) :
    exec (.create via c args) s =
      .next ((s.created a.ctx (({ onuInit with st := 1, chan := c.toNat, sn0 := a.a1, sn1 := a.a2 } : OnuCtx).inForceOf (s.onuOf a.ctx))).ratEnd via c.toNat 3 a.ctx 0) := by
  have hno : ¬ ∃ p ∈ s.onu, p.2.st ≠ 0 ∧ p.2.chan = c.toNat ∧ p.2.sn0 = a.a1 ∧ p.2.sn1 = a.a2 :=
    fun ⟨p, hp, hbound, hch, h0, h1⟩ => hfree p hp hbound hch h0 h1
  exact exec_of_ratTaken h (exec_create ..)
    ((if_neg (Bool.eq_false_iff.mp hown)).trans ((if_neg (not_not.mpr hst)).trans (if_neg (mt onu_any_sn_iff.mp hno))))

/-! ### RAT_READ (R127, R129) -/

theorem State.readCtx_clean {s : State} {n : Nat} (hst : (s.onuOf n).st ≠ 0) (h : RecClean s 3 kOnuCtx n) : s.readCtx n .clean = (s, false) := by
  rw [State.readCtx, if_neg hst, State.readRec_clean h]
  rfl

/-- The words of PCH_RAT_RD of channel k that l lists, written from w. -/
def State.setRatRds (s : State) (k : Nat) (w l : List Nat) : State := l.foldl (fun t i => t.setFld (F.pchRatRd k i) (wordOf w i)) s

theorem State.setRatRds_cons (s : State) (k i : Nat) (w l : List Nat) :
    s.setRatRds k w (i :: l) = (s.setFld (F.pchRatRd k i) (wordOf w i)).setRatRds k w l := by
  simp only [State.setRatRds, List.foldl_cons]

theorem State.setRatRds_frame (s : State) (k : Nat) (w l : List Nat) : FrameBut [.regs] s (s.setRatRds k w l) := by
  induction l generalizing s with
  | nil => exact .refl _ s
  | cons i l ih =>
    rw [State.setRatRds_cons]
    exact ((FrameBut.refl _ s).setFld _ _ (by simp)).trans (ih _)

/-- A register that is none of the words listed reads as before. -/
theorem State.fld_setRatRds_other {f : Fld} {k : Nat} {l : List Nat} (h : ∀ i ∈ l, f.addr ≠ (F.pchRatRd k i).addr) (s : State) (w : List Nat) :
    (s.setRatRds k w l).fld f = s.fld f := by
  induction l generalizing s with
  | nil => rfl
  | cons i l ih =>
    obtain ⟨hi, hl⟩ := List.forall_mem_cons.mp h
    rw [State.setRatRds_cons, ih hl]
    exact (State.fld_setFld_other s _ (show 0 + 32 ≤ 32 by omega) (.inl hi))

theorem pchRatRd_addr_ne {k i j : Nat} (h : i ≠ j) : (F.pchRatRd k i).addr ≠ (F.pchRatRd k j).addr := by
  show 0x1000240 + 0x4000 * k + 0x4 * i ≠ 0x1000240 + 0x4000 * k + 0x4 * j
  omega

theorem State.fld_setRatRds {k i : Nat} {l : List Nat} (hi : i ∈ l) (s : State) (w : List Nat) :
    (s.setRatRds k w l).fld (F.pchRatRd k i) = wordOf w i % 2 ^ 32 := by
  induction l generalizing s with
  | nil => exact absurd hi (List.not_mem_nil)
  | cons j l ih =>
    rw [State.setRatRds_cons]
    by_cases hl : i ∈ l
    · exact ih hl _
    · obtain rfl : i = j := (List.mem_cons.mp hi).resolve_right hl
      have hne : ∀ j ∈ l, (F.pchRatRd k i).addr ≠ (F.pchRatRd k j).addr := fun j hj => pchRatRd_addr_ne (fun e => hl (e ▸ hj))
      exact (State.fld_setRatRds_other hne _ w).trans (State.fld_setFld_same s _ _ (show 0 + 32 ≤ 32 by omega))

section

variable {s : State} {c : Chan} {args : RatArgs}

/-- The report of a read through the window: the eight words stand in the registers. -/
theorem exec_ratRead_window {m : Master} (hopen : s.ratOpen (some m) = true) (hown : s.otherCh (s.windowArgs c.toNat).ctx c.toNat = false)
    (hst : (s.onuOf (s.windowArgs c.toNat).ctx).st ≠ 0) (hclean : RecClean s 3 kOnuCtx (s.windowArgs c.toNat).ctx) :
    exec (.ratRead (some m) c args .clean) s =
      .next ((s.setRatRds c.toNat (ratWords (s.onuOf (s.windowArgs c.toNat).ctx)) (List.range 8)).setFld (F.pchRatCmd_result c.toNat) 0) := by
  refine (exec_ratRead ..).trans (State.ratRun_taken hopen rfl (.inr rfl) ((if_neg (Bool.eq_false_iff.mp hown)).trans ?_))
  dsimp only [State.ratArgs]
  rw [State.readCtx_clean hst hclean]
  rfl

/-- The report of a read by a firmware message: the eight words are sent, and then the completion. -/
theorem exec_ratRead_message (hpoison : args.poison = false) (hown : s.otherCh (args.ctx % 65536) c.toNat = false)
    (hst : (s.onuOf (args.ctx % 65536)).st ≠ 0) (hclean : RecClean s 3 kOnuCtx (args.ctx % 65536)) :
    exec (.ratRead none c args .clean) s =
      .next ((s.tell 10 c.toNat (args.ctx % 65536 :: ratWords (s.onuOf (args.ctx % 65536)))).tell 9 c.toNat [11, args.ctx % 65536, 0]) := by
  refine (exec_ratRead ..).trans (State.ratRun_taken rfl hpoison (.inr rfl) ((if_neg (Bool.eq_false_iff.mp hown)).trans ?_))
  dsimp only [State.ratArgs]
  rw [State.readCtx_clean hst hclean]
  rfl

end

theorem exec_ratRead_spec {s : State} {via : Option Master} {c : Chan} {args a : RatArgs} (hopen : s.ratOpen via = true)
    (hargs : s.ratArgs via c.toNat args = a) (hpoison : a.poison = false) (hown : s.otherCh a.ctx c.toNat = false) (hst : (s.onuOf a.ctx).st ≠ 0)
    (hclean : RecClean s 3 kOnuCtx a.ctx) :
    ∃ t, exec (.ratRead via c args .clean) s = .next t ∧ FrameBut [.regs, .fw] s t ∧
      (via = none → t.fw = s.fw ++ [{ kind := 10, chan := c.toNat, words := a.ctx :: ratWords (s.onuOf a.ctx) },
        { kind := 9, chan := c.toNat, words := [11, a.ctx, 0] }]) ∧
      (via ≠ none → (∀ i, i < 8 → t.fld (F.pchRatRd c.toNat i) = wordOf (ratWords (s.onuOf a.ctx)) i % 2 ^ 32) ∧
        t.fld (F.pchRatCmd_result c.toNat) = 0 ∧ t.fw = s.fw) := by
  subst hargs
  cases via with
  | none =>
    refine ⟨_, exec_ratRead_message hpoison hown hst hclean, ((FrameBut.refl _ s).tell _ _ _ (by simp)).tell _ _ _ (by simp), fun _ => ?_, fun h => absurd rfl h⟩
    exact List.append_assoc _ _ _
  | some m =>
    have hframe := (s.setRatRds_frame c.toNat (ratWords (s.onuOf (s.windowArgs c.toNat).ctx)) (List.range 8)).setFld (F.pchRatCmd_result c.toNat) 0 (by simp)
    refine ⟨_, exec_ratRead_window hopen hown hst hclean, hframe.mono (by simp), nofun, fun _ => ⟨fun i hi => ?_, ?_, hframe .fw (by decide)⟩⟩
    · have hne : (F.pchRatRd c.toNat i).addr ≠ (F.pchRatCmd_result c.toNat).addr := by
        show 0x1000240 + 0x4000 * c.toNat + 0x4 * i ≠ 0x1000220 + 0x4000 * c.toNat
        omega
      exact (State.fld_setFld_other _ _ (show 12 + 4 ≤ 32 by omega) (.inl hne)).trans (State.fld_setRatRds (List.mem_range.mpr hi) s _)
    · exact State.fld_setFld_same _ _ _ (show 12 + 4 ≤ 32 by omega)

end Sys2Proof.Machine

namespace Sys2Proof.Proofs

open Sys2Proof.Machine Sys2Proof.Safety

/-- Settles O17, by the commands in the states that R112 lists for them. -/
theorem contextCommands : Obligations.contextCommands := by
  refine ⟨fun via c args a s h hown => ?_, fun via c args a s hopen hargs hpoison hown hst hword hflip => ?_⟩
  · exact ⟨fun hst hfree => ⟨_, exec_create_done h hown hst hfree, s.created_spec ..⟩, exec_assign_done h hown, exec_range_done h hown, exec_activate_done h hown, fun p => exec_setEqd_done h hown,
      exec_deactivate_idle h hown, exec_deactivate_ranging h hown, exec_release_done h hown, exec_abortRange_ends h hown, exec_abortRange_late h hown⟩
  · exact exec_ratRead_spec hopen hargs hpoison hown hst ⟨hword, hflip⟩

end Sys2Proof.Proofs
end

section
/-! Proofs about ranging results, in-service updates and losses. -/

namespace Sys2Proof.Safety

open Sys2Proof.Machine

/-- What was posted after a change that posting does not see. -/
theorem Posted.congr {s t u : State} {code : Nat} {d : List Nat} (h : Posted t u code d) (hs : PostSame s t) : Posted s u code d := by
  obtain ⟨hevq, hcnt, hmem⟩ := h
  exact .of_same hs hevq hcnt hmem

end Sys2Proof.Safety

namespace Sys2Proof.Machine

open Sys2Proof.Safety

/-! ### Delays (R110, R115, R121, R122) -/

theorem eqdOf_none {teqd : Nat} (tpb : Nat) {rtd : Int} (h : rtd < 0 ∨ teqd < rtd) : eqdOf teqd tpb rtd = none := if_pos h

theorem eqdOf_some {teqd : Nat} (tpb : Nat) {rtd : Int} (h0 : 0 ≤ rtd) (h : rtd ≤ teqd) :
    eqdOf teqd tpb rtd = some (rtd.toNat, (teqd - rtd.toNat) / tpb, (teqd - rtd.toNat) % tpb) := if_neg (by omega)

/-- A round-trip delay within reach, its equalisation delay and its residue make up teqd (R121). -/
theorem eqdOf_parts {teqd tpb d : Nat} (h : d ≤ teqd) (htpb : 0 < tpb) :
    ∃ q r, eqdOf teqd tpb d = some (d, q, r) ∧ d + q * tpb + r = teqd ∧ r < tpb := by
  refine ⟨_, _, eqdOf_some tpb (by omega) (by omega), ?_, Nat.mod_lt _ htpb⟩
  have hdiv := Nat.div_add_mod' (teqd - d) tpb
  simp only [Int.toNat_natCast]
  omega

/-- The filter's step saturates as a signed 16-bit value (R122). -/
theorem driftStep_eq (f e : Int) :
    driftStep f e = if 32767 < f + (e - f).tdiv 16 then 32767 else if f + (e - f).tdiv 16 < -32768 then -32768 else f + (e - f).tdiv 16 := rfl

theorem State.tpb_eq (s : State) (k : Nat) :
    s.tpb k = if s.fld (F.pchMode_mode k) = 2 then 40 else match s.fld (F.pchMode_us_rate k) with | 0 => 32 | 1 => 16 | _ => 8 := by
  unfold State.tpb tpbOf
  congr 1
  cases s.fld (F.pchMode_us_rate k) with
  | zero => rfl
  | succ r =>
    cases r with
    | zero => rfl
    | succ r => rfl

/-! ### Ranging results (R115, R120, R121) -/

/-- The measurement of a context ends after a change u of s that sent firmware a message and wrote at most that context. -/
theorem State.endMeas_spec_of_change {s u : State} {n : Nat} {o : OnuCtx} {m : Meas} (honu : u.onuOf n = o) (hm : o.meas = some m)
    (hother : ∀ j, j ≠ n → u.onuOf j = s.onuOf j) (hpost : PostSame s u) (hframe : FrameBut [.onu, .fw] s u) (outcome : Nat) (back : Bool) :
    (u.endMeas n outcome back).onuOf n = o.measEnded outcome back ∧ (u.endMeas n outcome back).fw = u.fw ∧
      (∀ j, j ≠ n → (u.endMeas n outcome back).onuOf j = s.onuOf j) ∧
      Posted (s.countOutcome o.chan outcome) (u.endMeas n outcome back) 0x0A21 [o.chan, n, outcome] ∧
      FrameBut [.onu, .fw, .evq, .cnt, .mem] s (u.endMeas n outcome back) := by
  subst honu
  obtain ⟨hctx, hstays, hposted, hend⟩ := State.endMeas_spec hm outcome back
  exact ⟨hctx, hend .fw (by decide), fun j hj => (hstays j hj).trans (hother j hj), hposted.congr (hpost.countOutcome _ _),
    (hframe.mono (by simp)).trans (hend.mono (by simp))⟩

/-- The PLOAMu of a measured ONU on its way to firmware (R120). -/
def State.tellPloamu (s : State) (n : Nat) (b : List Byte) : State := s.tell 3 (s.onuOf n).chan ([n, 2, s.nowNs] ++ b.map (·.toNat))

theorem State.tellPloamu_postSame (s : State) (n : Nat) (b : List Byte) : PostSame s (s.tellPloamu n b) := (PostSame.refl s).tell_ _ _ _

theorem State.tellPloamu_frame (s : State) (n : Nat) (b : List Byte) : FrameBut [.onu, .fw] s (s.tellPloamu n b) :=
  (FrameBut.refl _ s).tell _ _ _ (by simp)

/-- A context with the results of a measurement: round-trip delay, equalisation delay and residue. -/
def OnuCtx.withResults (o : OnuCtx) (rtd eqd residue : Nat) : OnuCtx := { o with rtd := rtd, eqd := eqd, residue := residue, measured := true }

/-- What RANGE_MEASURED does with the round-trip delay rtd that measurement m of context n found. -/
def State.rangeAnswer (s : State) (n : Nat) (m : Meas) (rtd : Int) (b : List Byte) : Host.Outcome State Fault Refusal :=
  let o := s.onuOf n
  if o.st ≠ 3 ∨ s.ch o.chan ≠ 3 ∨ rtd < m.rtdMin ∨ (m.rtdMax : Int) < rtd then .next s
  else
    match eqdOf (s.fld (F.pchRatTeqd_teqd o.chan)) (s.tpb o.chan) rtd with
    | none => .next ((s.tellPloamu n b).endMeas n oOutOfReach true)
    | some (r, eqd, res) => .next (((s.tellPloamu n b).setOnu n (o.withResults r eqd res)).endMeas n oMeasured false)

theorem exec_rangeMeasured {n : Onu} {s : State} {m : Meas} (hm : (s.onuOf n.toNat).meas = some m) (x : Word) (b : List Byte) :
    exec (.rangeMeasured n x b) s = s.rangeAnswer n.toNat m ((x.toNat : Int) - s.eqdInUse (s.onuOf n.toNat)) b := by
  show execRangeMeasured s n x b = _
  unfold execRangeMeasured
  dsimp only
  split
  next hnone => exact absurd (hm.symm.trans hnone) (by simp)
  next hsome =>
    obtain rfl := Option.some.inj (hm.symm.trans hsome)
    rfl

theorem exec_rangeMeasured_idle {n : Onu} {s : State} (h : (s.onuOf n.toNat).meas = none ∨ (s.onuOf n.toNat).st ≠ 3 ∨ s.ch (s.onuOf n.toNat).chan ≠ 3)
    (x : Word) (b : List Byte) : exec (.rangeMeasured n x b) s = .next s := by
  cases hm : (s.onuOf n.toNat).meas with
  | none =>
    show execRangeMeasured s n x b = _
    rw [execRangeMeasured, hm]
  | some m =>
    have hidle := h.resolve_left (by simp [hm])
    exact (exec_rangeMeasured hm x b).trans (if_pos (hidle.imp_right .inl))

section

variable {s : State} {n : Nat} {m : Meas} {rtd : Int} (b : List Byte)

/-- A candidate outside the span of R120 does not qualify. -/
theorem State.rangeAnswer_outside (h : rtd < m.rtdMin ∨ m.rtdMax < rtd) : s.rangeAnswer n m rtd b = .next s := if_pos (.inr (.inr h))

variable (hst : (s.onuOf n).st = 3) (hch : s.ch (s.onuOf n).chan = 3) (hmin : m.rtdMin ≤ rtd) (hmax : rtd ≤ m.rtdMax)
include hst hch hmin hmax

theorem State.rangeAnswer_far (h : s.fld (F.pchRatTeqd_teqd (s.onuOf n).chan) < rtd) :
    s.rangeAnswer n m rtd b = .next ((s.tellPloamu n b).endMeas n oOutOfReach true) := by
  refine (if_neg (by omega)).trans ?_
  rw [eqdOf_none _ (.inr h)]

theorem State.rangeAnswer_near (h : rtd ≤ s.fld (F.pchRatTeqd_teqd (s.onuOf n).chan)) :
    s.rangeAnswer n m rtd b = .next (((s.tellPloamu n b).setOnu n ((s.onuOf n).withResults rtd.toNat
      ((s.fld (F.pchRatTeqd_teqd (s.onuOf n).chan) - rtd.toNat) / s.tpb (s.onuOf n).chan)
      ((s.fld (F.pchRatTeqd_teqd (s.onuOf n).chan) - rtd.toNat) % s.tpb (s.onuOf n).chan))).endMeas n oMeasured false) := by
  refine (if_neg (by omega)).trans ?_
  rw [eqdOf_some _ (by omega) h]

end

section

variable {s : State} {n : Nat} {m : Meas} (hm : (s.onuOf n).meas = some m) (b : List Byte)
include hm

/-- A measurement that ends out of reach (R121): the PLOAMu goes to firmware and nothing is stored. -/
theorem State.endMeas_far_spec :
    let t := (s.tellPloamu n b).endMeas n oOutOfReach true
    t.onuOf n = (s.onuOf n).measEnded 2 true ∧ t.fw = (s.tellPloamu n b).fw ∧ (∀ j, j ≠ n → t.onuOf j = s.onuOf j) ∧
      Posted (s.count Cn.rngOutOfReach (s.onuOf n).chan) t 0x0A21 [(s.onuOf n).chan, n, 2] ∧ FrameBut [.onu, .fw, .evq, .cnt, .mem] s t :=
  State.endMeas_spec_of_change (s := s) (u := s.tellPloamu n b) rfl hm (fun _ _ => rfl) (s.tellPloamu_postSame n b) (s.tellPloamu_frame n b) oOutOfReach true

/-- A measurement that ends MEASURED (R121): the PLOAMu goes to firmware and the results are stored. -/
theorem State.endMeas_near_spec (rtd eqd res : Nat) :
    let t := ((s.tellPloamu n b).setOnu n ((s.onuOf n).withResults rtd eqd res)).endMeas n oMeasured false
    t.onuOf n = ((s.onuOf n).withResults rtd eqd res).measEnded 0 false ∧ t.fw = (s.tellPloamu n b).fw ∧ (∀ j, j ≠ n → t.onuOf j = s.onuOf j) ∧
      Posted s t 0x0A21 [(s.onuOf n).chan, n, 0] ∧ FrameBut [.onu, .fw, .evq, .cnt, .mem] s t := by
  have hres : ((s.onuOf n).withResults rtd eqd res).meas = some m := hm
  exact State.endMeas_spec_of_change (s := s) (State.onuOf_setOnu_same (s.tellPloamu n b) n _) hres (fun _ hj => State.onuOf_setOnu_other _ _ hj)
    ((s.tellPloamu_postSame n b).onu _) ((s.tellPloamu_frame n b).onu _ (by simp)) oMeasured false

end

/-! ### The end of the tries (R120) -/

theorem exec_rangeTriesExhausted {n : Onu} {s : State} {m : Meas} (hm : (s.onuOf n.toNat).meas = some m) :
    exec (.rangeTriesExhausted n) s = .next (if m.tries = 0 ∧ (s.onuOf n.toNat).st = 3 then s.endMeas n.toNat oNoResponse true else s) := by
  show execRangeTriesExhausted s n = _
  rw [execRangeTriesExhausted, hm]

theorem exec_rangeTriesExhausted_idle {n : Onu} {s : State} (hm : (s.onuOf n.toNat).meas = none) : exec (.rangeTriesExhausted n) s = .next s := by
  show execRangeTriesExhausted s n = _
  rw [execRangeTriesExhausted, hm]

theorem exec_rangeTriesExhausted_noResponse {n : Onu} {s : State} {m : Meas} (hm : (s.onuOf n.toNat).meas = some m) (hst : (s.onuOf n.toNat).st = 3)
    (htries : m.tries = 0) :
    ∃ t, exec (.rangeTriesExhausted n) s = .next t ∧ t.onuOf n.toNat = (s.onuOf n.toNat).measEnded 1 true ∧ (∀ j, j ≠ n.toNat → t.onuOf j = s.onuOf j) ∧
      Posted (s.count Cn.rngNoResponse (s.onuOf n.toNat).chan) t 0x0A21 [(s.onuOf n.toNat).chan, n.toNat, 1] ∧ FrameBut [.onu, .evq, .cnt, .mem] s t :=
  ⟨_, (exec_rangeTriesExhausted hm).trans (congrArg _ (if_pos ⟨htries, hst⟩)), State.endMeas_spec hm oNoResponse true⟩

theorem exec_rangeTriesExhausted_left {n : Onu} {s : State} {m : Meas} (hm : (s.onuOf n.toNat).meas = some m) (htries : m.tries ≠ 0) :
    exec (.rangeTriesExhausted n) s = .next s :=
  (exec_rangeTriesExhausted hm).trans (congrArg _ (if_neg fun h => htries h.1))

/-! ### Updates that time out, and losses (R112, R124, R125) -/

theorem exec_rangeUpdateTimeout_due {n : Onu} {s : State} (h : (s.onuOf n.toNat).update = some 0) :
    exec (.rangeUpdateTimeout n) s = .next ((s.setOnu n.toNat (s.onuOf n.toNat).dropUpdate).post 0x0A23 [(s.onuOf n.toNat).chan, n.toNat]) := if_pos h

theorem exec_rangeUpdateTimeout_idle {n : Onu} {s : State} (h : (s.onuOf n.toNat).update ≠ some 0) : exec (.rangeUpdateTimeout n) s = .next s := if_neg h

theorem exec_onuLost_lost {n : Onu} {s : State} (hst : (s.onuOf n.toNat).st = 4) (hch : s.ch (s.onuOf n.toNat).chan ≠ 4)
    (hloss : (s.onuOf n.toNat).lobi = true ∨ s.ch (s.onuOf n.toNat).chan ≠ 3) :
    exec (.onuLost n) s = .next ((s.setOnu n.toNat { (s.onuOf n.toNat).dropUpdate with st := 5 }).post 0x0A24 [(s.onuOf n.toNat).chan, n.toNat]) :=
  if_pos ⟨hst, hch, hloss⟩

theorem exec_onuLost_idle {n : Onu} {s : State}
    (h : (s.onuOf n.toNat).st ≠ 4 ∨ s.ch (s.onuOf n.toNat).chan = 4 ∨ ((s.onuOf n.toNat).lobi = false ∧ s.ch (s.onuOf n.toNat).chan = 3)) :
    exec (.onuLost n) s = .next s := by
  refine if_neg fun ⟨hst, hch, hloss⟩ => ?_
  rcases h with h | h | ⟨hlobi, hrun⟩
  · exact h hst
  · exact hch h
  · exact hloss.elim (by simp [hlobi]) (· hrun)

end Sys2Proof.Machine

namespace Sys2Proof.Proofs

open Sys2Proof.Machine Sys2Proof.Safety

/-- Settles O18, by what the measurement's span and teqd make of a round-trip delay, and by the states in which the other commands act. -/
theorem rangingResults : Obligations.rangingResults := by
  refine ⟨fun n x b s => ?_, driftStep_eq, fun teqd tpb rtd => ⟨eqdOf_none tpb, ?_⟩, State.tpb_eq⟩
  · refine ⟨fun h => exec_rangeMeasured_idle h x b, fun m hm hst hch => ⟨fun h => ?_, fun hmin hmax h => ?_, fun hmin hmax h => ?_, ?_, ?_⟩,
      exec_rangeTriesExhausted_idle, fun h => ⟨_, exec_rangeUpdateTimeout_due h, s.setOnu_post_spec ..⟩, exec_rangeUpdateTimeout_idle,
      fun hst hch h => ⟨_, exec_onuLost_lost hst hch h, s.setOnu_post_spec ..⟩, exec_onuLost_idle⟩
    · exact (exec_rangeMeasured hm x b).trans (State.rangeAnswer_outside b h)
    · exact ⟨_, (exec_rangeMeasured hm x b).trans (State.rangeAnswer_far b hst hch hmin hmax h), State.endMeas_far_spec hm b⟩
    · exact ⟨_, (exec_rangeMeasured hm x b).trans (State.rangeAnswer_near b hst hch hmin hmax h), State.endMeas_near_spec hm b _ _ _⟩
    · exact exec_rangeTriesExhausted_noResponse hm hst
    · exact exec_rangeTriesExhausted_left hm
  · rintro d rfl h htpb
    exact eqdOf_parts h htpb

end Sys2Proof.Proofs
end

section
/-! Proofs about the windows of rules and LAG slots. -/

namespace Sys2Proof.Safety

open Sys2Proof.Machine

/-- Posting after a change that posting does not see. -/
theorem Posted.of_post {s t : State} (h : PostSame s t) (code : Nat) (d : List Nat) : Posted s (t.post code d) code d := .of_same h rfl rfl rfl

end Sys2Proof.Safety

namespace Sys2Proof.Machine

open Sys2Proof.Safety

/-! ### Data registers of a window -/

/-- The data registers of a family that l lists, written from the words w. -/
def State.setWords (s : State) (f : Nat → Fld) (w l : List Nat) : State := l.foldl (fun t i => t.setFld (f i) (wordOf w i)) s

theorem State.setWords_cons (s : State) (f : Nat → Fld) (w : List Nat) (i : Nat) (l : List Nat) :
    s.setWords f w (i :: l) = (s.setFld (f i) (wordOf w i)).setWords f w l := by
  simp only [State.setWords, List.foldl_cons]

theorem State.setWords_frame (s : State) (f : Nat → Fld) (w l : List Nat) : FrameBut [.regs] s (s.setWords f w l) := by
  induction l generalizing s with
  | nil => exact .refl _ s
  | cons i l ih =>
    rw [State.setWords_cons]
    exact ((FrameBut.refl _ s).setFld _ _ (by simp)).trans (ih _)

section

variable {f : Nat → Fld} (hfits : ∀ i, (f i).lo + (f i).width ≤ 32)
include hfits

theorem State.setWords_flds {k : List Fld} {s t : State} (h : FldsBut k s t) (w : List Nat) {l : List Nat} (hl : l.map f ⊆ k) :
    FldsBut k s (t.setWords f w l) := by
  induction l generalizing t with
  | nil => exact h
  | cons i l ih =>
    obtain ⟨hi, hl⟩ := List.cons_subset.mp hl
    rw [State.setWords_cons]
    exact ih (h.setFld _ hi (hfits i)) hl

/-- A register listed holds its word, whatever the order of the writes. -/
theorem State.fld_setWords (hne : ∀ i j, i ≠ j → (f i).addr ≠ (f j).addr) {i : Nat} {l : List Nat} (hi : i ∈ l) (s : State) (w : List Nat) :
    (s.setWords f w l).fld (f i) = wordOf w i % 2 ^ (f i).width := by
  induction l generalizing s with
  | nil => exact absurd hi List.not_mem_nil
  | cons j l ih =>
    rw [State.setWords_cons]
    by_cases hl : i ∈ l
    · exact ih hl _
    · obtain rfl : i = j := (List.mem_cons.mp hi).resolve_right hl
      have hapart : ∀ g ∈ l.map f, Apart g (f i) := List.forall_mem_map.mpr fun j hj => .inl (hne i j fun e => hl (e ▸ hj))
      exact (State.setWords_flds hfits (.refl _ _) w (List.Subset.refl _) _ hapart).trans (State.fld_setFld_same s _ _ (hfits i))

end

theorem prsRuleData_fits (i : Nat) : (F.prsRuleData i).lo + (F.prsRuleData i).width ≤ 32 := le_refl 32

theorem prsRuleData_addr_ne (i j : Nat) (h : i ≠ j) : (F.prsRuleData i).addr ≠ (F.prsRuleData j).addr := by
  show 0x1800400 + 0x4 * i ≠ 0x1800400 + 0x4 * j
  omega

theorem State.ruleData_eq (s : State) (ws : List Nat) : s.ruleData ws = s.setWords F.prsRuleData ws (List.range 48) := rfl

/-! ### A read as the windows show it (R174) -/

/-- The rule window shows the words ws, and its command completes with result r. -/
def State.ruleShown (s : State) (ws : List Nat) (r : Nat) : State := (s.ruleData ws).setFld F.prsRuleCmd_result r

/-- The LAG window shows the word w, and its command completes with result r. -/
def State.lagShown (s : State) (w r : Nat) : State := (s.setFld F.prsLagData w).setFld F.prsLagCmd_result r

theorem State.ruleShown_spec (s : State) (ws : List Nat) {r : Nat} (hr : r < 8) :
    let t := s.ruleShown ws r
    (∀ i, i < 48 → t.fld (F.prsRuleData i) = wordOf ws i % 2 ^ 32) ∧ t.fld F.prsRuleCmd_result = r ∧
      FldsBut (F.prsRuleCmd_result :: (List.range 48).map F.prsRuleData) s t ∧ FrameBut [.regs] s t := by
  have hflds := State.setWords_flds prsRuleData_fits (.refl (F.prsRuleCmd_result :: (List.range 48).map F.prsRuleData) s) ws (List.subset_cons_self _ _)
  dsimp only
  rw [State.ruleShown, State.ruleData_eq]
  refine ⟨fun i hi => ?_, ?_, hflds.setFld r (by simp) (by decide), (s.setWords_frame _ ws _).setFld _ _ (by simp)⟩
  · have hne : (F.prsRuleData i).addr ≠ F.prsRuleCmd_result.addr := by
      show 0x1800400 + 0x4 * i ≠ 0x1800204
      omega
    rw [State.fld_setFld_other _ r (by decide) (.inl hne)]
    exact State.fld_setWords prsRuleData_fits prsRuleData_addr_ne (List.mem_range.mpr hi) s ws
  · exact (State.fld_setFld_same _ _ _ (by decide)).trans (Nat.mod_eq_of_lt hr)

theorem State.lagShown_spec (s : State) (w : Nat) {r : Nat} (hr : r < 8) :
    let t := s.lagShown w r
    t.fld F.prsLagData = w % 2 ^ 32 ∧ t.fld F.prsLagCmd_result = r ∧ FldsBut [F.prsLagCmd_result, F.prsLagData] s t ∧ FrameBut [.regs] s t :=
  ⟨(State.fld_setFld_other _ r (by decide) (by decide)).trans (State.fld_setFld_same _ _ _ (by decide)),
    (State.fld_setFld_same _ _ _ (by decide)).trans (Nat.mod_eq_of_lt hr),
    ((FldsBut.refl _ s).setFld w (by simp) (by decide)).setFld r (by simp) (by decide),
    ((FrameBut.refl _ s).setFld _ _ (by simp)).setFld _ _ (by simp)⟩

/-! ### A poisoned rule or slot (R175) -/

theorem State.prsPoison_copyGood (s : State) (n ix : Nat) : s.prsPoison ⟨n, ix, false⟩ = s.post 0x0C01 [n, ix] := if_pos rfl

/-- Posting does not read the records of either epoch. -/
theorem State.withRecs_postSame (s : State) (x y : Table (List Nat)) : PostSame s { s with recs := x, prevRecs := y } :=
  ⟨rfl, rfl, rfl, ⟨rfl, rfl⟩, rfl, rfl, rfl, rfl⟩

/-- With the copy bad too the rule is not valid. -/
theorem State.prsPoison_rule (s : State) (ix : Nat) :
    recBits ((s.prsPoison ⟨4, ix, true⟩).record kRule ix) 38 31 31 = 0 ∧ Posted s (s.prsPoison ⟨4, ix, true⟩) 0x0C02 [4, ix] := by
  simp only [State.prsPoison, if_neg (show ¬ (true = false) by decide), if_pos]
  refine ⟨?_, Posted.of_post (s.withRecs_postSame _ _) _ _⟩
  have hzero (l : List Nat) : wordOf (l.set 38 0) 38 = 0 := by
    simp only [wordOf, List.getD_eq_getElem?_getD, List.getElem?_set_self']
    cases l[38]? <;> rfl
  simp [State.record, recBits, hzero, bits]

theorem State.prsPoison_lag (s : State) (ix : Nat) : Posted s (s.prsPoison ⟨5, ix, true⟩) 0x0C02 [5, ix] := by
  simp only [State.prsPoison, if_neg (show ¬ (true = false) by decide), if_neg (show ¬ (5 = 4) by decide), if_pos]
  exact Posted.of_post (s.withRecs_postSame _ _) _ _

/-! ### A staged write of a window's record (R9, R50) -/

theorem State.stageRec_spec {s : State} (h : s.rigState < 4) (kind ix : Nat) (ws : List Nat) :
    let t := s.stageRec kind ix ws
    t.recordStaged kind ix = ws ∧ t.recs = s.recs ∧ t.rigState = 0 := by
  dsimp only
  rw [State.stageRec, State.stagingWrite_of_open (.inl h)]
  refine ⟨?_, s.opened_frame .recs (by simp), s.opened_state⟩
  simp [State.enterRec, State.logStaged, State.recordStaged]

/-! ### The commands of the windows -/

section

variable {m : Master} {s : State} (hmay : mayWrite m = true ∧ s.released 7 = true)
include hmay

theorem exec_ruleReadApplied_clean (b : Bool) :
    exec (.ruleReadApplied m .clean b) s = .next (s.ruleShown (s.record kRule (s.fld F.prsRuleAddr_index)) 0) := (if_pos hmay).trans (if_neg (by decide))

theorem exec_lagReadApplied_clean (b : Bool) :
    exec (.lagReadApplied m .clean b) s = .next (s.lagShown (wordOf (s.record kLag s.lagIx) 0) 0) := (if_pos hmay).trans (if_neg (by decide))

theorem exec_ruleReadStaged :
    exec (.ruleReadStaged m) s = .next (s.ruleShown (s.recordStaged kRule (s.fld F.prsRuleAddr_index)) 0) := if_pos hmay

theorem exec_lagReadStaged : exec (.lagReadStaged m) s = .next (s.lagShown (wordOf (s.recordStaged kLag s.lagIx) 0) 0) := if_pos hmay

theorem exec_ruleZeroData : exec (.ruleZeroData m) s = .next (s.ruleShown [] 0) := if_pos hmay

theorem exec_ruleWriteStaged :
    exec (.ruleWriteStaged m) s = .next ((s.stageRec kRule (s.fld F.prsRuleAddr_index) ((List.range 40).map fun i => s.fld (F.prsRuleData i))).setFld
      F.prsRuleCmd_result 0) := if_pos hmay

theorem exec_lagWriteStaged :
    exec (.lagWriteStaged m) s = .next ((s.stageRec kLag s.lagIx [s.fld F.prsLagData]).setFld F.prsLagCmd_result 0) := if_pos hmay

/-- An uncorrectable word with a good copy is repaired, and the window shows the record. -/
theorem exec_ruleReadApplied_repaired :
    exec (.ruleReadApplied m .uncorrectable false) s =
      .next ((s.post 0x0C01 [4, s.fld F.prsRuleAddr_index]).ruleShown (s.record kRule (s.fld F.prsRuleAddr_index)) 0) := by
  refine (if_pos hmay).trans ((if_pos rfl).trans ((if_neg (by decide)).trans ?_))
  simp only [State.prsPoison_copyGood, State.ruleShown, State.record, State.post_recs]

theorem exec_ruleReadApplied_lost :
    exec (.ruleReadApplied m .uncorrectable true) s = .next ((s.prsPoison ⟨4, s.fld F.prsRuleAddr_index, true⟩).ruleShown [] 2) :=
  (if_pos hmay).trans ((if_pos rfl).trans (if_pos rfl))

theorem exec_lagReadApplied_lost :
    exec (.lagReadApplied m .uncorrectable true) s = .next ((s.prsPoison ⟨5, 4 * s.lagIx, true⟩).lagShown 0 2) :=
  (if_pos hmay).trans ((if_pos rfl).trans (if_pos rfl))

/-! The same commands by what they show. -/

theorem exec_ruleWriteStaged_spec (hrig : s.rigState < 4) :
    ∃ t, exec (.ruleWriteStaged m) s = .next t ∧ t.recordStaged kRule (s.fld F.prsRuleAddr_index) = (List.range 40).map (fun i => s.fld (F.prsRuleData i)) ∧
      t.recs = s.recs ∧ t.rigState = 0 ∧ t.fld F.prsRuleCmd_result = 0 := by
  obtain ⟨hstaged, hrecs, hstate⟩ := State.stageRec_spec hrig kRule (s.fld F.prsRuleAddr_index) ((List.range 40).map fun i => s.fld (F.prsRuleData i))
  exact ⟨_, exec_ruleWriteStaged hmay, hstaged, hrecs, (State.fld_setFld_other _ _ (by decide) (by decide)).trans hstate,
    State.fld_setFld_same _ _ _ (by decide)⟩

theorem exec_lagWriteStaged_spec (hrig : s.rigState < 4) :
    ∃ t, exec (.lagWriteStaged m) s = .next t ∧ t.recordStaged kLag s.lagIx = [s.fld F.prsLagData] ∧ t.recs = s.recs ∧ t.rigState = 0 ∧
      t.fld F.prsLagCmd_result = 0 := by
  obtain ⟨hstaged, hrecs, hstate⟩ := State.stageRec_spec hrig kLag s.lagIx [s.fld F.prsLagData]
  exact ⟨_, exec_lagWriteStaged hmay, hstaged, hrecs, (State.fld_setFld_other _ _ (by decide) (by decide)).trans hstate,
    State.fld_setFld_same _ _ _ (by decide)⟩

theorem exec_ruleReadApplied_repaired_spec :
    ∃ t, exec (.ruleReadApplied m .uncorrectable false) s = .next t ∧
      (∀ i, i < 48 → t.fld (F.prsRuleData i) = wordOf (s.record kRule (s.fld F.prsRuleAddr_index)) i % 2 ^ 32) ∧ t.fld F.prsRuleCmd_result = 0 ∧
      Posted s t 0x0C01 [4, s.fld F.prsRuleAddr_index] := by
  obtain ⟨hdata, hresult, -, hframe⟩ := (s.post 0x0C01 [4, s.fld F.prsRuleAddr_index]).ruleShown_spec (s.record kRule (s.fld F.prsRuleAddr_index)) (r := 0) (by decide)
  exact ⟨_, exec_ruleReadApplied_repaired hmay, hdata, hresult, (Posted.of_post (.refl s) _ _).of_frame hframe (by decide) (by decide) (by decide)⟩

theorem exec_ruleReadApplied_lost_spec :
    ∃ t, exec (.ruleReadApplied m .uncorrectable true) s = .next t ∧ (∀ i, i < 48 → t.fld (F.prsRuleData i) = 0) ∧ t.fld F.prsRuleCmd_result = 2 ∧
      recBits (t.record kRule (s.fld F.prsRuleAddr_index)) 38 31 31 = 0 ∧ Posted s t 0x0C02 [4, s.fld F.prsRuleAddr_index] := by
  obtain ⟨hdata, hresult, -, hframe⟩ := (s.prsPoison ⟨4, s.fld F.prsRuleAddr_index, true⟩).ruleShown_spec [] (r := 2) (by decide)
  obtain ⟨hvalid, hposted⟩ := s.prsPoison_rule (s.fld F.prsRuleAddr_index)
  refine ⟨_, exec_ruleReadApplied_lost hmay, hdata, hresult, ?_, hposted.of_frame hframe (by decide) (by decide) (by decide)⟩
  rw [State.record, hframe .recs (by decide)]
  exact hvalid

theorem exec_lagReadApplied_lost_spec :
    ∃ t, exec (.lagReadApplied m .uncorrectable true) s = .next t ∧ t.fld F.prsLagData = 0 ∧ t.fld F.prsLagCmd_result = 2 ∧
      Posted s t 0x0C02 [5, 4 * s.lagIx] := by
  obtain ⟨hdata, hresult, -, hframe⟩ := (s.prsPoison ⟨5, 4 * s.lagIx, true⟩).lagShown_spec 0 (r := 2) (by decide)
  exact ⟨_, exec_lagReadApplied_lost hmay, hdata, hresult, (s.prsPoison_lag _).of_frame hframe (by decide) (by decide) (by decide)⟩

end

end Sys2Proof.Machine

namespace Sys2Proof.Proofs

open Sys2Proof.Machine Sys2Proof.Safety

/-- Settles O27, by the two ways a window answers: it shows words with a result, or it stages a record. -/
theorem ruleLagWindows : Obligations.ruleLagWindows := by
  refine ⟨fun m s hm => ?_, fun m s hm hd => ?_⟩
  · have hmay : ¬ (mayWrite m = true ∧ s.released 7 = true) := by simp [hm]
    exact ⟨fun _ _ => ⟨if_neg hmay, if_neg hmay⟩, if_neg hmay, if_neg hmay, if_neg hmay, if_neg hmay, if_neg hmay⟩
  · have hmay := And.intro hm hd
    exact ⟨fun b => ⟨⟨_, exec_ruleReadApplied_clean hmay b, s.ruleShown_spec _ (by decide)⟩,
        _, exec_lagReadApplied_clean hmay b, s.lagShown_spec _ (by decide)⟩,
      ⟨_, exec_ruleReadStaged hmay, s.ruleShown_spec _ (by decide)⟩, ⟨_, exec_lagReadStaged hmay, s.lagShown_spec _ (by decide)⟩,
      ⟨_, exec_ruleZeroData hmay, s.ruleShown_spec _ (by decide)⟩,
      fun hrig => ⟨exec_ruleWriteStaged_spec hmay hrig, exec_lagWriteStaged_spec hmay hrig⟩,
      exec_ruleReadApplied_repaired_spec hmay, exec_ruleReadApplied_lost_spec hmay, exec_lagReadApplied_lost_spec hmay⟩

end Sys2Proof.Proofs
end

section
/-! Proofs about the fabric: ingress, LAG members, the arbiter, cell slots and the return of LAG members. -/

namespace Sys2Proof.Safety

open Sys2Proof.Machine

theorem FrameBut.tim {l : List Part} {s t : State} (h : FrameBut l s t) (x : TimSt) (hl : .tim ∈ l) : FrameBut l s { t with tim := x } := fun p hp => by
  have := h p hp
  cases p <;> simp_all [Part.Same]

theorem FrameBut.parsed {l : List Part} {s t : State} (h : FrameBut l s t) (x : Table (List Pkt)) (hl : .parsed ∈ l) :
    FrameBut l s { t with parsed := x } := fun p hp => by
  have := h p hp
  cases p <;> simp_all [Part.Same]

theorem FrameBut.prs {l : List Part} {s t : State} (h : FrameBut l s t) (x : PrsSt) (hl : .prs ∈ l) : FrameBut l s { t with prs := x } := fun p hp => by
  have := h p hp
  cases p <;> simp_all [Part.Same]

end Sys2Proof.Safety

namespace Sys2Proof.Machine

open Sys2Proof.Safety

/-! ### VOQs and dropped packets -/

theorem State.voqOf_of_frame {l : List Part} {s t : State} (h : FrameBut l s t) (hl : .fab ∉ l) (k : Nat) : t.voqOf k = s.voqOf k := by
  rw [State.voqOf, h .fab hl]; rfl

theorem State.voqOf_setVoq_same (s : State) (k : Nat) (v : Voq) : (s.setVoq k v).voqOf k = v := Tbl.find_put_same _ _ _ _

theorem State.voqOf_setVoq_other (s : State) {k j : Nat} (v : Voq) (h : j ≠ k) : (s.setVoq k v).voqOf j = s.voqOf j := Tbl.find_put_other _ _ _ _ h

theorem State.setVoq_frame (s : State) (k : Nat) (v : Voq) : FrameBut [.fab] s (s.setVoq k v) := (FrameBut.refl _ s).fab _ (by simp)

/-- What a dropped packet may change: the stamp it yields, with its counts and its event (R264). -/
theorem State.dropped_frame (s : State) (p : Pkt) : FrameBut [.regs, .cnt, .evq, .tim, .mem] s (s.dropped p) := by
  have h := FrameBut.refl [.regs, .cnt, .evq, .tim, .mem] s
  unfold State.dropped State.pushTsq
  dsimp only
  split
  · split
    · split
      · exact ((h.tim _ (by simp)).setFld _ _ (by simp)).count _ _ (by simp)
      · split
        · exact h.count _ _ (by simp)
        · exact ((h.count _ _ (by simp)).setFld _ _ (by simp)).post _ _ (by simp)
    · exact h
  · exact h

/-! ### FABRIC_INGRESS (R199, R201) -/

/-- The VOQ of a packet: its input, its output, its class and its lane. -/
def ownVoq (p : Pkt) : Nat := voqKey (if p.direct then fabPort p.dest else fabPort p.src) (fabPort p.dest) (p.cls % 8) (p.hash / 256 % 4)

/-- The cells that a packet adds to its VOQ. -/
def State.cellsAdded (s : State) (p : Pkt) : Nat := ((s.voqOf (ownVoq p)).bytes + 8 + p.len + 239) / 240 - (s.voqOf (ownVoq p)).ages.length

/-- A VOQ with a packet at its end, in n cells more. -/
def State.voqWith (s : State) (p : Pkt) (n : Nat) : Voq :=
  { pkts := (s.voqOf (ownVoq p)).pkts ++ [{ pkt := p, left := 8 + p.len, lost := false }],
    ages := (s.voqOf (ownVoq p)).ages ++ List.replicate n s.fab.slot }

/-- A packet whose destination is a port enters its VOQ, or is dropped; r is the state as its epoch rigs it. -/
def State.enterVoq (s r : State) (p : Pkt) : State :=
  if r.fld F.fabVoqCap_cap < s.voqFor (fabPort p.dest) + s.cellsAdded p then (s.count Cn.voqCapDrop (fabPort p.dest)).dropped p
  else if s.rig.run.buf.ingress < s.voqCells + s.cellsAdded p then (s.count Cn.ingressFullDrop 0).dropped p
  else (s.setVoq (ownVoq p) (s.voqWith p (s.cellsAdded p))).noteLow

/-- The packets of source port n but the oldest still wait. -/
def State.pulled (s : State) (n : Nat) (rest : List Pkt) : State := { s with parsed := Tbl.put s.parsed n [] rest }

theorem State.pulled_frame (s : State) (n : Nat) (rest : List Pkt) : FrameBut [.parsed] s (s.pulled n rest) := (FrameBut.refl _ s).parsed _ (by simp)

/-- The outcome is a choice of states. -/
theorem Outcome.next_ite {φ ρ : Type} (c : Prop) [Decidable c] (s t : State) :
    (if c then .next s else .next t : Host.Outcome State φ ρ) = .next (if c then s else t) := (apply_ite _ _ _ _).symm

theorem exec_fabricIngress_idle {src : PortIx} {s : State} (h : Tbl.find s.parsed src.toNat [] = []) : exec (.fabricIngress src) s = .next s := by
  show execFabricIngress s src = _
  rw [execFabricIngress, h]

section

variable {src : PortIx} {s : State} {p : Pkt} {rest : List Pkt} (h : Tbl.find s.parsed src.toNat [] = p :: rest)
include h

theorem exec_fabricIngress_port (hd : p.dest < 0x8000) :
    exec (.fabricIngress src) s = .next ((s.pulled src.toNat rest).enterVoq ((s.pulled src.toNat rest).asOf p.epoch) p) := by
  show execFabricIngress s src = _
  simp only [execFabricIngress, h, if_neg (show ¬ 0x8000 ≤ p.dest by omega), Outcome.next_ite]
  rfl

theorem exec_fabricIngress_lag (hd : 0x8000 ≤ p.dest) :
    let x := (s.pulled src.toNat rest).lagSelect ((s.pulled src.toNat rest).asOf p.epoch) (p.dest - 0x8000) p.hash
    exec (.fabricIngress src) s = .next (x.1.enterVoq ((s.pulled src.toNat rest).asOf p.epoch) { p with dest := 256 + x.2 }) := by
  show execFabricIngress s src = _
  simp only [execFabricIngress, h, if_pos hd, Outcome.next_ite]
  rfl

end

section

variable {s r : State} {p : Pkt}

theorem State.enterVoq_capped (h : r.fld F.fabVoqCap_cap < s.voqFor (fabPort p.dest) + s.cellsAdded p) :
    s.enterVoq r p = (s.count Cn.voqCapDrop (fabPort p.dest)).dropped p := if_pos h

theorem State.enterVoq_full (hcap : s.voqFor (fabPort p.dest) + s.cellsAdded p ≤ r.fld F.fabVoqCap_cap)
    (h : s.rig.run.buf.ingress < s.voqCells + s.cellsAdded p) : s.enterVoq r p = (s.count Cn.ingressFullDrop 0).dropped p :=
  (if_neg (Nat.not_lt.mpr hcap)).trans (if_pos h)

/-- A packet with room joins the end of its VOQ, and no other VOQ changes. -/
theorem State.enterVoq_room (hcap : s.voqFor (fabPort p.dest) + s.cellsAdded p ≤ r.fld F.fabVoqCap_cap)
    (hroom : s.voqCells + s.cellsAdded p ≤ s.rig.run.buf.ingress) :
    (s.enterVoq r p).voqOf (ownVoq p) = s.voqWith p (s.cellsAdded p) ∧ (∀ j, j ≠ ownVoq p → (s.enterVoq r p).voqOf j = s.voqOf j) ∧
      FrameBut [.fab] s (s.enterVoq r p) := by
  rw [State.enterVoq, if_neg (Nat.not_lt.mpr hcap), if_neg (Nat.not_lt.mpr hroom)]
  exact ⟨s.voqOf_setVoq_same _ _, fun j hj => s.voqOf_setVoq_other _ hj, (s.setVoq_frame _ _).fab _ (by simp)⟩

/-- A packet counted and dropped leaves the fabric. -/
theorem State.count_dropped_frame (s : State) (c : Ctr) (i : Nat) (p : Pkt) : FrameBut [.regs, .cnt, .evq, .tim, .mem] s ((s.count c i).dropped p) :=
  ((FrameBut.refl _ s).count c i (by simp)).trans (State.dropped_frame _ p)

theorem State.enterVoq_frame (s r : State) (p : Pkt) : FrameBut [.fab, .regs, .cnt, .evq, .tim, .mem] s (s.enterVoq r p) := by
  unfold State.enterVoq
  split
  · exact (s.count_dropped_frame _ _ p).mono (by simp)
  · split
    · exact (s.count_dropped_frame _ _ p).mono (by simp)
    · exact ((s.setVoq_frame _ _).mono (by simp)).fab _ (by simp)

/-- A packet is dropped whole, or it stands in its VOQ. -/
theorem State.enterVoq_voqs (s r : State) (p : Pkt) :
    (∀ j, (s.enterVoq r p).voqOf j = s.voqOf j) ∨ ∃ x ∈ ((s.enterVoq r p).voqOf (ownVoq p)).pkts, x.pkt = p := by
  rcases Nat.lt_or_ge (r.fld F.fabVoqCap_cap) (s.voqFor (fabPort p.dest) + s.cellsAdded p) with hcap | hcap
  · rw [State.enterVoq_capped hcap]
    exact .inl (State.voqOf_of_frame (s.count_dropped_frame _ _ p) (by decide))
  · rcases Nat.lt_or_ge s.rig.run.buf.ingress (s.voqCells + s.cellsAdded p) with hfull | hroom
    · rw [State.enterVoq_full hcap hfull]
      exact .inl (State.voqOf_of_frame (s.count_dropped_frame _ _ p) (by decide))
    · rw [(State.enterVoq_room hcap hroom).1]
      exact .inr ⟨_, List.mem_append_right _ (List.mem_singleton_self _), rfl⟩

end

/-! ### LAG_SELECT (R173) -/

theorem State.lagSelect_frame (s r : State) (l h : Nat) : FrameBut [.cnt] s (s.lagSelect r l h).1 := by
  have hs := FrameBut.refl [.cnt] s
  have hcount (c : Ctr) : FrameBut [.cnt] s (s.count c l) := hs.count _ _ (by simp)
  unfold State.lagSelect
  dsimp only
  split
  · split
    · exact hcount _
    · dsimp only
      split
      · exact hs
      · exact hcount _
  · exact hs

/-- The slot of LAG l for hash h names a member that is valid, up and not awaiting return; r is the rigging of the packet's epoch. -/
def State.slotFit (s r : State) (l h : Nat) : Prop :=
  128 ≤ r.lagSlot l (h % 256) ∧ s.linkIsUp (r.lagSlot l (h % 256) % 128) = true ∧ (l, r.lagSlot l (h % 256) % 128) ∉ s.prs.ret

/-- The members of LAG l that are up. -/
def State.membersUp (s r : State) (l : Nat) : List Nat := (r.lagMembers l).filter s.linkIsUp

/-- The model's test is that the slot is not fit. -/
theorem State.not_slotFit_iff (s r : State) (l h : Nat) :
    (r.lagSlot l (h % 256) < 128 ∨ s.linkIsUp (r.lagSlot l (h % 256) % 128) = false ∨ s.prs.ret.contains (l, r.lagSlot l (h % 256) % 128) = true) ↔
      ¬ s.slotFit r l h := by
  rw [State.slotFit, not_and_or, not_and_or, not_not, Nat.not_le, Bool.not_eq_true, List.contains_iff_mem]

section

variable {s r : State} {l h : Nat}

theorem State.lagSelect_slot (hfit : s.slotFit r l h) : s.lagSelect r l h = (s, r.lagSlot l (h % 256) % 128) :=
  if_neg fun hn => (s.not_slotFit_iff r l h).mp hn hfit

variable (hfit : ¬ s.slotFit r l h)
include hfit

theorem State.lagSelect_noneUp (hup : s.membersUp r l = []) : s.lagSelect r l h = (s.count Cn.lagNoMember l, r.lagSlot l (h % 256) % 128) :=
  (if_pos ((s.not_slotFit_iff r l h).mpr hfit)).trans (if_pos hup)

/-- The packet fails over to a member that is up. -/
theorem State.lagSelect_failover (hup : s.membersUp r l ≠ []) :
    (s.lagSelect r l h).2 = (s.membersUp r l).getD (h / 65536 % 256 % (s.membersUp r l).length) 0 ∧ s.linkIsUp (s.lagSelect r l h).2 = true := by
  have hlt : h / 65536 % 256 % (s.membersUp r l).length < (s.membersUp r l).length := Nat.mod_lt _ (List.length_pos_iff.mpr hup)
  have hsel : (s.lagSelect r l h).2 = (s.membersUp r l)[h / 65536 % 256 % (s.membersUp r l).length] := by
    rw [State.lagSelect]
    simp only [if_pos ((s.not_slotFit_iff r l h).mpr hfit), if_neg (show (r.lagMembers l).filter s.linkIsUp ≠ [] from hup)]
    exact List.getD_eq_getElem _ _ hlt
  rw [hsel]
  exact ⟨(List.getD_eq_getElem _ _ hlt).symm, (List.mem_filter.mp (List.getElem_mem hlt)).2⟩

end

/-! ### A round of the arbiter (R200) -/

/-- The requests whose input and output no pair has taken. -/
def arbFree (req : List (Nat × Nat × Nat)) (m : List (Nat × Nat)) : List (Nat × Nat × Nat) :=
  req.filter (fun r => !(m.any (fun x => decide (x.1 = r.1) || decide (x.2 = r.2.1))))

/-- The input that each output grants, among requests that are free. -/
def arbGrants (free : List (Nat × Nat × Nat)) (gp : Table Nat) : List (Nat × Nat) :=
  (List.range 48).filterMap fun e =>
    (oldestFrom (Tbl.find gp e 0) ((free.filter fun r => decide (r.2.1 = e)).map fun r => (r.1, r.2.2))).map fun i => (i, e)

/-- The output whose grant each input accepts. -/
def arbAccepts (free : List (Nat × Nat × Nat)) (gp ap : Table Nat) : List (Nat × Nat) :=
  (List.range 48).filterMap fun i =>
    (oldestFrom (Tbl.find ap i 0) (((arbGrants free gp).filter fun g => decide (g.1 = i)).map fun g =>
      (g.2, ((free.find? fun r => decide (r.1 = i) && decide (r.2.1 = g.2)).map fun r => r.2.2).getD 0))).map fun e => (i, e)

theorem arbRound_pairs (req : List (Nat × Nat × Nat)) (f : Bool) (m : List (Nat × Nat)) (gp ap : Table Nat) :
    (arbRound req f m gp ap).1 = m ++ arbAccepts (arbFree req m) gp ap := by
  unfold arbRound
  dsimp only
  split <;> rfl

/-- A fold that keeps what it holds or takes the next element ends with an element of its list. -/
theorem mem_of_foldl_pick {α : Type} {f : Option α → α → Option α} (hf : ∀ a x z, f a x = some z → a = some z ∨ z = x) {l : List α} {a : Option α} {z : α}
    (h : l.foldl f a = some z) : a = some z ∨ z ∈ l := by
  induction l generalizing a with
  | nil => exact .inl h
  | cons x l ih =>
    rcases ih h with hx | hl
    · exact (hf a x z hx).imp_right (fun e => List.mem_cons.mpr (.inl e))
    · exact .inr (List.mem_cons_of_mem _ hl)

/-- The oldest of a list is one of it. -/
theorem mem_of_oldestFrom {ptr n : Nat} {l : List (Nat × Nat)} (h : oldestFrom ptr l = some n) : ∃ a, (n, a) ∈ l := by
  obtain ⟨x, hx, rfl⟩ := Option.map_eq_some_iff.mp h
  refine ⟨x.2, (mem_of_foldl_pick (fun a y z hz => ?_) hx).resolve_left (by simp)⟩
  cases a with
  | none => exact .inr (Option.some.inj hz).symm
  | some w =>
    dsimp only at hz
    split at hz
    · exact .inr (Option.some.inj hz).symm
    · exact .inl hz

theorem mem_arbGrants {free : List (Nat × Nat × Nat)} {gp : Table Nat} {x : Nat × Nat} (h : x ∈ arbGrants free gp) : ∃ a, (x.1, x.2, a) ∈ free := by
  obtain ⟨e, -, he⟩ := List.mem_filterMap.mp h
  obtain ⟨i, hi, rfl⟩ := Option.map_eq_some_iff.mp he
  obtain ⟨a, ha⟩ := mem_of_oldestFrom hi
  obtain ⟨⟨i', e', a'⟩, hr, heq⟩ := List.mem_map.mp ha
  obtain ⟨hmem, hout⟩ := List.mem_filter.mp hr
  obtain ⟨rfl, rfl⟩ := Prod.mk.inj heq
  obtain rfl : e' = e := of_decide_eq_true hout
  exact ⟨_, hmem⟩

theorem mem_grants_of_mem_accepts {free : List (Nat × Nat × Nat)} {gp ap : Table Nat} {x : Nat × Nat} (h : x ∈ arbAccepts free gp ap) :
    x ∈ arbGrants free gp := by
  obtain ⟨i, -, hi⟩ := List.mem_filterMap.mp h
  obtain ⟨e, he, rfl⟩ := Option.map_eq_some_iff.mp hi
  obtain ⟨a, ha⟩ := mem_of_oldestFrom he
  obtain ⟨g, hg, heq⟩ := List.mem_map.mp ha
  obtain ⟨hmem, hin⟩ := List.mem_filter.mp hg
  obtain ⟨rfl, -⟩ := Prod.mk.inj heq
  obtain rfl : g.1 = i := of_decide_eq_true hin
  exact hmem

/-- One entry at most for each port of a list names each port once. -/
theorem nodup_map_filterMap {α : Type} {l : List Nat} (hl : l.Nodup) {f : Nat → Option α} {key : α → Nat} (hf : ∀ n x, f n = some x → key x = n) :
    ((l.filterMap f).map key).Nodup := by
  induction l with
  | nil => exact List.nodup_nil
  | cons n l ih =>
    obtain ⟨hn, hl⟩ := List.nodup_cons.mp hl
    cases h : f n with
    | none => simpa [List.filterMap_cons, h] using ih hl
    | some x =>
      rw [List.filterMap_cons, h, List.map_cons, hf n x h]
      refine List.nodup_cons.mpr ⟨fun hmem => hn ?_, ih hl⟩
      obtain ⟨y, hy, hk⟩ := List.mem_map.mp hmem
      obtain ⟨j, hj, hfj⟩ := List.mem_filterMap.mp hy
      rwa [← hk, hf j y hfj]

theorem arbGrants_outputs_nodup (free : List (Nat × Nat × Nat)) (gp : Table Nat) : ((arbGrants free gp).map (·.2)).Nodup :=
  nodup_map_filterMap List.nodup_range fun e x h => by
    obtain ⟨i, -, rfl⟩ := Option.map_eq_some_iff.mp h
    rfl

theorem arbAccepts_inputs_nodup (free : List (Nat × Nat × Nat)) (gp ap : Table Nat) : ((arbAccepts free gp ap).map (·.1)).Nodup :=
  nodup_map_filterMap List.nodup_range fun i x h => by
    obtain ⟨e, -, rfl⟩ := Option.map_eq_some_iff.mp h
    rfl

/-- An output grants one input, so no two inputs accept it. -/
theorem arbAccepts_outputs_nodup (free : List (Nat × Nat × Nat)) (gp ap : Table Nat) : ((arbAccepts free gp ap).map (·.2)).Nodup :=
  List.Nodup.map_on (fun _ hx _ hy h => List.inj_on_of_nodup_map (arbGrants_outputs_nodup free gp) (mem_grants_of_mem_accepts hx) (mem_grants_of_mem_accepts hy) h)
    (List.Nodup.of_map _ (arbAccepts_inputs_nodup free gp ap))

/-- A pair of the round is a request whose input and output no earlier pair has. -/
theorem mem_arbAccepts {req : List (Nat × Nat × Nat)} {m : List (Nat × Nat)} {gp ap : Table Nat} {x : Nat × Nat} (h : x ∈ arbAccepts (arbFree req m) gp ap) :
    (∃ a, (x.1, x.2, a) ∈ req) ∧ ∀ y ∈ m, y.1 ≠ x.1 ∧ y.2 ≠ x.2 := by
  obtain ⟨a, ha⟩ := mem_arbGrants (mem_grants_of_mem_accepts h)
  obtain ⟨hreq, hfree⟩ := List.mem_filter.mp ha
  refine ⟨⟨a, hreq⟩, fun y hy => ?_⟩
  have hnot : m.any (fun y => decide (y.1 = x.1) || decide (y.2 = x.2)) = false := by simpa using hfree
  simpa using List.any_eq_false.mp hnot y hy

/-- A round keeps its pairs and adds requests, each input and each output in one pair at most. -/
theorem arbRound_matching (req : List (Nat × Nat × Nat)) (f : Bool) {m : List (Nat × Nat)} (gp ap : Table Nat) (hin : (m.map (·.1)).Nodup)
    (hout : (m.map (·.2)).Nodup) :
    let w := (arbRound req f m gp ap).1
    (w.map (·.1)).Nodup ∧ (w.map (·.2)).Nodup ∧ (∀ x ∈ m, x ∈ w) ∧ ∀ x ∈ w, x ∈ m ∨ ∃ a, (x.1, x.2, a) ∈ req := by
  have hjoin {key : Nat × Nat → Nat} (hm : (m.map key).Nodup) (hacc : ((arbAccepts (arbFree req m) gp ap).map key).Nodup)
      (hne : ∀ x ∈ arbAccepts (arbFree req m) gp ap, ∀ y ∈ m, key y ≠ key x) : ((m ++ arbAccepts (arbFree req m) gp ap).map key).Nodup := by
    rw [List.map_append]
    refine List.Nodup.append hm hacc fun n hn hn' => ?_
    obtain ⟨y, hy, rfl⟩ := List.mem_map.mp hn
    obtain ⟨x, hx, hxy⟩ := List.mem_map.mp hn'
    exact hne x hx y hy hxy.symm
  dsimp only
  rw [arbRound_pairs]
  exact ⟨hjoin hin (arbAccepts_inputs_nodup _ _ _) fun x hx y hy => ((mem_arbAccepts hx).2 y hy).1,
    hjoin hout (arbAccepts_outputs_nodup _ _ _) fun x hx y hy => ((mem_arbAccepts hx).2 y hy).2, fun x hx => List.mem_append_left _ hx,
    fun x hx => (List.mem_append.mp hx).imp_right fun h => (mem_arbAccepts h).1⟩

/-! ### CELL_SLOT (R200, R202) -/

/-- The requests of a slot: every pair with cells, and the age of the oldest. -/
def State.cellRequests (s : State) : List (Nat × Nat × Nat) :=
  (List.range 48).flatMap fun i => (List.range 48).filterMap fun e => (s.oldest i e).map fun a => (i, e, a.1)

/-- The pairs and the pointers after the three rounds of a slot. -/
def State.matching (s : State) : List (Nat × Nat) × Table Nat × Table Nat :=
  let x := arbRound s.cellRequests true [] s.fab.gptr s.fab.aptr
  let y := arbRound s.cellRequests false x.1 x.2.1 x.2.2
  arbRound s.cellRequests false y.1 y.2.1 y.2.2

/-- The slot begins, with the arbiter's pointers moved on. -/
def State.slotBegun (s : State) : State := { s with fab := { s.fab with slot := s.fab.slot + 1, gptr := s.matching.2.1, aptr := s.matching.2.2 } }

/-- What a matched pair does: its cell is sent again, or crosses. -/
def State.pairMoves (retry lost : List (BitVec 6)) (t : State) (x : Nat × Nat) : State :=
  if retry.any (fun r => decide (r.toNat = x.1)) then t.xbarRetry x.1 else t.crossCell x.1 x.2 (lost.any fun r => decide (r.toNat = x.1))

theorem exec_cellSlot (retry lost : List (BitVec 6)) (s : State) :
    exec (.cellSlot retry lost) s = .next (s.matching.1.foldl (State.pairMoves retry lost) s.slotBegun) := rfl

/-- What a packet that has crossed whole does: it reaches its port, or is dropped. -/
def State.leaves (t : State) (p : VPkt) : State := if p.lost then (t.count Cn.fabRetireDrop 0).dropped p.pkt else t.arrive p.pkt

theorem State.crossCell_of_none {s : State} {i e : Nat} (h : s.oldest i e = none) (lost : Bool) : s.crossCell i e lost = s := by
  rw [State.crossCell, h]

theorem State.crossCell_of_some {s : State} {i e g k : Nat} (h : s.oldest i e = some (g, k)) (lost : Bool) :
    let x := takeBytes (lost && decide (s.fld F.fabSts_banks_retired ≠ 0)) 240 (s.voqOf k).pkts
    s.crossCell i e lost = x.2.foldl State.leaves ((s.setVoq k { pkts := x.1, ages := (s.voqOf k).ages.tail }).count Cn.fabCells i) := by
  rw [State.crossCell, h]
  rfl

/-- Cells move and the slot's number stands. -/
structure CellsMove (s t : State) : Prop where
  frame : FrameBut [.regs, .cnt, .evq, .tim, .mem, .fab] s t
  slot : t.fab.slot = s.fab.slot

theorem CellsMove.refl (s : State) : CellsMove s s := ⟨.refl _ s, rfl⟩

theorem CellsMove.trans {s t u : State} (h : CellsMove s t) (k : CellsMove t u) : CellsMove s u := ⟨h.frame.trans k.frame, k.slot.trans h.slot⟩

theorem CellsMove.of_frame {l : List Part} {s t : State} (h : FrameBut l s t) (hl : l ⊆ [.regs, .cnt, .evq, .tim, .mem]) (hf : .fab ∉ l) : CellsMove s t :=
  ⟨h.mono (List.Subset.trans hl (by simp)), congrArg FabSt.slot (h .fab hf)⟩

theorem CellsMove.count (s : State) (c : Ctr) (i : Nat) : CellsMove s (s.count c i) :=
  .of_frame ((FrameBut.refl [.cnt] s).count c i (by simp)) (by simp) (by decide)

theorem CellsMove.foldl {α : Type} {f : State → α → State} (h : ∀ t x, CellsMove t (f t x)) (l : List α) (s : State) : CellsMove s (l.foldl f s) := by
  induction l generalizing s with
  | nil => exact .refl s
  | cons x l ih => exact (h s x).trans (ih _)

theorem CellsMove.leaves (s : State) (p : VPkt) : CellsMove s (s.leaves p) := by
  unfold State.leaves
  split
  · exact (CellsMove.count s _ _).trans (.of_frame (State.dropped_frame _ _) (List.Subset.refl _) (by decide))
  · exact ⟨(FrameBut.refl _ s).fab _ (by simp), rfl⟩

theorem CellsMove.crossCell (s : State) (i e : Nat) (lost : Bool) : CellsMove s (s.crossCell i e lost) := by
  cases h : s.oldest i e with
  | none => rw [State.crossCell_of_none h]; exact .refl s
  | some x =>
    rw [State.crossCell_of_some h]
    have hvoq (v : Voq) : CellsMove s (s.setVoq x.2 v) := ⟨(s.setVoq_frame _ _).mono (by simp), rfl⟩
    exact ((hvoq _).trans (.count _ _ _)).trans (.foldl .leaves _ _)

/-- A cell that is sent again: its count, its register and the retries of the last second (R202). -/
theorem State.xbarRetry_spec (s : State) (i : Nat) :
    FrameBut [.regs, .cnt, .evq, .mem, .fab] s (s.xbarRetry i) ∧ (∃ l, (s.xbarRetry i).fab = { s.fab with retries := l }) ∧
      (s.fab.retries.length < 255 → (s.xbarRetry i).cnt = (s.count Cn.xbarRetry i).cnt) := by
  have hnoted (f : Fld) (v : Nat) : FrameBut [.regs, .cnt, .evq, .mem, .fab] s ((s.count Cn.xbarRetry i).setFld f v) :=
    ((FrameBut.refl _ s).count _ _ (by simp)).setFld _ _ (by simp)
  have hfab : (s.count Cn.xbarRetry i).fab = s.fab := State.count_fab ..
  have hlen (p : Nat → Bool) (x : Nat) (h : s.fab.retries.length < 255) : (s.fab.retries.filter p ++ [x]).length ≠ 256 := by
    have := s.fab.retries.length_filter_le p
    simp only [List.length_append, List.length_singleton]
    omega
  unfold State.xbarRetry
  dsimp only
  split
  · next hfull =>
    simp only [State.setFld_fab, hfab] at hfull
    refine ⟨((hnoted _ _).fab _ (by simp)).post _ _ (by simp), ⟨[], ?_⟩, fun h => absurd hfull (hlen _ _ h)⟩
    simp only [State.post_fab, State.setFld_fab, hfab]
  · exact ⟨(hnoted _ _).fab _ (by simp), ⟨_, by simp only [State.setFld_fab, hfab]; rfl⟩, fun _ => rfl⟩

theorem CellsMove.xbarRetry (s : State) (i : Nat) : CellsMove s (s.xbarRetry i) := by
  obtain ⟨hframe, ⟨l, hfab⟩, -⟩ := s.xbarRetry_spec i
  exact ⟨hframe.mono (by simp), by rw [hfab]⟩

theorem CellsMove.pairMoves (retry lost : List (BitVec 6)) (s : State) (x : Nat × Nat) : CellsMove s (s.pairMoves retry lost x) := by
  unfold State.pairMoves
  split
  · exact .xbarRetry s _
  · exact .crossCell s _ _ _

theorem exec_cellSlot_spec (retry lost : List (BitVec 6)) (s : State) :
    ∃ t, exec (.cellSlot retry lost) s = .next t ∧ t.fab.slot = s.fab.slot + 1 ∧ FrameBut [.regs, .cnt, .evq, .tim, .mem, .fab] s t := by
  have hmove : CellsMove s.slotBegun _ := .foldl (CellsMove.pairMoves retry lost) s.matching.1 s.slotBegun
  exact ⟨_, exec_cellSlot retry lost s, hmove.slot, ((FrameBut.refl _ s).fab _ (by simp)).trans hmove.frame⟩

/-! ### A slot of a fabric with one VOQ -/

/-- Of the elements of a list one alone gives a value. -/
theorem flatMap_eq_of_unique {α β : Type} {l : List α} (hl : l.Nodup) {a : α} (ha : a ∈ l) {f : α → List β} (hf : ∀ x ∈ l, x ≠ a → f x = []) :
    l.flatMap f = f a := by
  obtain ⟨l₁, l₂, rfl⟩ := List.append_of_mem ha
  obtain ⟨-, hl₂, hdisj⟩ := List.nodup_append'.mp hl
  have h₁ : l₁.flatMap f = [] := List.flatMap_eq_nil_iff.mpr fun x hx =>
    hf x (List.mem_append_left _ hx) fun e => hdisj (e ▸ hx) List.mem_cons_self
  have h₂ : l₂.flatMap f = [] := List.flatMap_eq_nil_iff.mpr fun x hx =>
    hf x (List.mem_append_right _ (List.mem_cons_of_mem _ hx)) fun e => (List.nodup_cons.mp hl₂).1 (e ▸ hx)
  rw [List.flatMap_append, List.flatMap_cons, h₁, h₂, List.nil_append, List.append_nil]

theorem filterMap_eq_of_unique {α β : Type} {l : List α} (hl : l.Nodup) {a : α} (ha : a ∈ l) {f : α → Option β} (hf : ∀ x ∈ l, x ≠ a → f x = none) :
    l.filterMap f = (f a).toList := by
  rw [List.filterMap_eq_flatMap_toList]
  exact flatMap_eq_of_unique hl ha fun x hx hne => by rw [hf x hx hne]; rfl

theorem arbAccepts_nil (gp ap : Table Nat) : arbAccepts [] gp ap = [] := by
  refine List.eq_nil_iff_forall_not_mem.mpr fun x hx => ?_
  obtain ⟨a, ha⟩ := mem_arbGrants (mem_grants_of_mem_accepts hx)
  exact absurd ha List.not_mem_nil

section

variable {i e g : Nat} (hi : i < 48) (he : e < 48)
include he

theorem arbGrants_single (gp : Table Nat) : arbGrants [(i, e, g)] gp = [(i, e)] := by
  refine (filterMap_eq_of_unique List.nodup_range (List.mem_range.mpr he) fun x _ hx => ?_).trans ?_
  · simp [hx.symm, oldestFrom]
  · simp [oldestFrom]

include hi

theorem arbAccepts_single (gp ap : Table Nat) : arbAccepts [(i, e, g)] gp ap = [(i, e)] := by
  refine (filterMap_eq_of_unique List.nodup_range (List.mem_range.mpr hi) fun x _ hx => ?_).trans ?_
  · simp [arbGrants_single he, hx.symm, oldestFrom]
  · simp [arbGrants_single he, oldestFrom]

/-- One request is matched in the first round, and nothing is left to the others. -/
theorem State.matching_single {s : State} (h : s.cellRequests = [(i, e, g)]) : s.matching.1 = [(i, e)] := by
  have hfree : arbFree [(i, e, g)] [(i, e)] = [] := by simp [arbFree]
  have hfirst (f : Bool) (gp ap : Table Nat) : (arbRound [(i, e, g)] f [] gp ap).1 = [(i, e)] := by
    rw [arbRound_pairs]
    exact arbAccepts_single hi he gp ap
  have hlater (f : Bool) (gp ap : Table Nat) : (arbRound [(i, e, g)] f [(i, e)] gp ap).1 = [(i, e)] := by
    rw [arbRound_pairs, hfree, arbAccepts_nil, List.append_nil]
  simp only [State.matching, h, hfirst, hlater]

end

section

variable {s : State} {k i e g : Nat} {v : Voq} {l : List Nat} (hvoq : s.fab.voq = [(k, v)]) (hages : v.ages = g :: l)
include hvoq hages

theorem State.oldest_single (i e : Nat) : s.oldest i e = if k / 32 = i * 64 + e then some (g, k) else none := by
  unfold State.oldest
  rw [hvoq, List.filter_cons]
  split
  · next h => simp [of_decide_eq_true h, hages]
  · next h => simp [of_decide_eq_false (Bool.eq_false_iff.mpr h)]

theorem State.cellRequests_single (hi : i < 48) (he : e < 48) (hk : k / 32 = i * 64 + e) : s.cellRequests = [(i, e, g)] := by
  refine (flatMap_eq_of_unique List.nodup_range (List.mem_range.mpr hi) fun x _ hx => ?_).trans
    ((filterMap_eq_of_unique List.nodup_range (List.mem_range.mpr he) fun x hx hxe => ?_).trans ?_)
  · refine List.filterMap_eq_nil_iff.mpr fun y hy => ?_
    have hy := List.mem_range.mp hy
    rw [State.oldest_single hvoq hages, if_neg (by omega)]
    rfl
  · rw [State.oldest_single hvoq hages, if_neg (by omega)]
    rfl
  · rw [State.oldest_single hvoq hages, if_pos hk]
    rfl

/-- With one VOQ a slot moves its pair and no other. -/
theorem exec_cellSlot_single (hi : i < 48) (he : e < 48) (hk : k / 32 = i * 64 + e) (retry lost : List (BitVec 6)) :
    exec (.cellSlot retry lost) s = .next (s.slotBegun.pairMoves retry lost (i, e)) := by
  rw [exec_cellSlot, State.matching_single hi he (State.cellRequests_single hvoq hages hi he hk)]
  rfl

end

/-- The packets of a list reach their ports in order. -/
theorem State.leaves_foldl {l : List VPkt} (h : ∀ x ∈ l, x.lost = false) (s : State) :
    let t := l.foldl State.leaves s
    (∀ d, Tbl.find t.fab.arrived d [] = Tbl.find s.fab.arrived d [] ++ (l.filter fun x => decide (x.pkt.dest = d)).map (·.pkt)) ∧
      t.fab.voq = s.fab.voq ∧ FrameBut [.fab] s t := by
  induction l generalizing s with
  | nil => exact ⟨by simp, rfl, .refl _ s⟩
  | cons x l ih =>
    obtain ⟨hx, hl⟩ := List.forall_mem_cons.mp h
    obtain ⟨harr, hvoq, hframe⟩ := ih hl (s.arrive x.pkt)
    have hstep : s.leaves x = s.arrive x.pkt := if_neg (by simp [hx])
    rw [List.foldl_cons, hstep]
    refine ⟨fun d => ?_, hvoq, ((FrameBut.refl _ s).fab _ (by simp)).trans hframe⟩
    have hput : Tbl.find (s.arrive x.pkt).fab.arrived d [] = if d = x.pkt.dest then Tbl.find s.fab.arrived d [] ++ [x.pkt] else Tbl.find s.fab.arrived d [] := by
      refine (Tbl.find_put ..).trans ?_
      split
      · next hd => rw [hd]
      · rfl
    rw [harr, hput, List.filter_cons]
    by_cases hd : d = x.pkt.dest
    · simp [hd]
    · simp [hd, Ne.symm hd]

section

variable {s : State} {k i e : Nat} {v : Voq} (hvoq : s.fab.voq = [(k, v)]) (hages : v.ages ≠ []) (hi : i < 48) (he : e < 48) (hk : k / 32 = i * 64 + e)
include hvoq hages hi he hk

/-- The pair moves a cell of its VOQ, and the packets that are whole at the output arrive there in order. -/
theorem exec_cellSlot_crosses {rest done : List VPkt} (htake : takeBytes false 240 v.pkts = (rest, done)) (hlost : ∀ x ∈ done, x.lost = false) :
    ∃ t, exec (.cellSlot [] []) s = .next t ∧ t.voqOf k = { pkts := rest, ages := v.ages.tail } ∧ t.cnt = (s.count Cn.fabCells i).cnt ∧
      (∀ d, Tbl.find t.fab.arrived d [] = Tbl.find s.fab.arrived d [] ++ (done.filter (fun x => decide (x.pkt.dest = d))).map (·.pkt)) ∧
      FrameBut [.cnt, .fab] s t := by
  obtain ⟨g, l, hl⟩ := List.exists_cons_of_ne_nil hages
  have hv : s.slotBegun.voqOf k = v := by simp [State.voqOf, State.slotBegun, hvoq, Tbl.find]
  have hold : s.slotBegun.oldest i e = some (g, k) := (State.oldest_single (s := s.slotBegun) hvoq hl i e).trans (if_pos hk)
  have hcross := (State.crossCell_of_some hold false).trans (by rw [Bool.false_and, hv, htake])
  have hexec := (exec_cellSlot_single hvoq hl hi he hk [] []).trans (congrArg _ hcross)
  obtain ⟨harr, hvoq', hframe⟩ := State.leaves_foldl hlost ((s.slotBegun.setVoq k { pkts := rest, ages := v.ages.tail }).count Cn.fabCells i)
  refine ⟨_, hexec, ?_, ?_, fun d => (harr d).trans (by rw [State.count_fab]; rfl), ?_⟩
  · rw [State.voqOf, hvoq', State.count_fab]
    exact State.voqOf_setVoq_same _ _ _
  · rw [hframe .cnt (by decide)]
    exact State.count_congr s (s.slotBegun.setVoq k _) rfl rfl _ _
  · exact ((((FrameBut.refl [.cnt, .fab] s).fab _ (by simp)).trans ((State.setVoq_frame _ _ _).mono (by simp))).count _ _ (by simp)).trans (hframe.mono (by simp))

/-- A cell that fails its CRC stays at the head of its VOQ, counted. -/
theorem exec_cellSlot_retries :
    ∃ t, exec (.cellSlot [BitVec.ofNat 6 i] []) s = .next t ∧ t.voqOf k = v ∧ t.fab.arrived = s.fab.arrived ∧
      (s.fab.retries.length < 255 → t.cnt = (s.count Cn.xbarRetry i).cnt) := by
  obtain ⟨g, l, hl⟩ := List.exists_cons_of_ne_nil hages
  have hnamed : [BitVec.ofNat 6 i].any (fun r => decide (r.toNat = i)) = true := by simp; omega
  have hexec := (exec_cellSlot_single hvoq hl hi he hk [BitVec.ofNat 6 i] []).trans (congrArg _ (if_pos hnamed))
  obtain ⟨-, ⟨r, hfab⟩, hcnt⟩ := s.slotBegun.xbarRetry_spec i
  refine ⟨_, hexec, ?_, by rw [hfab]; rfl, fun h => (hcnt h).trans (State.count_congr s s.slotBegun rfl rfl _ _)⟩
  rw [State.voqOf, hfab]
  simp [State.slotBegun, hvoq, Tbl.find]

end

/-! ### LAG_RETURN (R173) -/

/-- A packet that stood before a return marker of member n of LAG l is still queued. -/
def State.returnWaits (s : State) (l n : Nat) : Bool :=
  s.fab.marks.any fun m => decide (m.1 = l) && decide (m.2.1 = n) && (s.qOf m.2.2.1).pkts.any fun k => m.2.2.2.contains k.pkt.num

/-- Member n of LAG l has its slots back, and its markers are gone. -/
def State.memberReturned (s : State) (l n : Nat) : State :=
  { s with prs := { s.prs with ret := s.prs.ret.filter (fun x => decide (x ≠ (l, n))) },
           fab := { s.fab with marks := s.fab.marks.filter (fun m => !(decide (m.1 = l) && decide (m.2.1 = n))) } }

/-- Posting reads neither the members that return nor the fabric. -/
theorem State.memberReturned_postSame (s : State) (l n : Nat) : PostSame s (s.memberReturned l n) :=
  ⟨rfl, rfl, rfl, ⟨rfl, rfl⟩, rfl, rfl, rfl, rfl⟩

theorem State.memberReturned_frame (s : State) (l n : Nat) : FrameBut [.prs, .fab] s (s.memberReturned l n) :=
  ((FrameBut.refl _ s).prs (s.memberReturned l n).prs (by simp)).fab (s.memberReturned l n).fab (by simp)

theorem State.mem_memberReturned (s : State) (l n : Nat) (x : Nat × Nat) : x ∈ (s.memberReturned l n).prs.ret ↔ x ∈ s.prs.ret ∧ x ≠ (l, n) := by
  simp only [State.memberReturned, List.mem_filter, decide_eq_true_eq]

section

variable {l : BitVec 6} {p : BitVec 7} {s : State}

theorem exec_lagReturn_waits (h : (l.toNat, p.toNat) ∉ s.prs.ret ∨ s.returnWaits l.toNat p.toNat = true) : exec (.lagReturn l p) s = .next s := by
  refine if_neg ?_
  rintro ⟨hin, hnone⟩
  rcases h with h | h
  · exact h (List.contains_iff_mem.mp hin)
  · exact absurd (h.symm.trans hnone) (by decide)

theorem exec_lagReturn_returns (hin : (l.toNat, p.toNat) ∈ s.prs.ret) (hnone : s.returnWaits l.toNat p.toNat = false) :
    exec (.lagReturn l p) s = .next ((s.memberReturned l.toNat p.toNat).post 0x0C04 [l.toNat, p.toNat]) :=
  if_pos ⟨List.contains_iff_mem.mpr hin, hnone⟩

theorem exec_lagReturn_spec (hin : (l.toNat, p.toNat) ∈ s.prs.ret) (hnone : s.returnWaits l.toNat p.toNat = false) :
    ∃ t, exec (.lagReturn l p) s = .next t ∧ (l.toNat, p.toNat) ∉ t.prs.ret ∧ (∀ x, x ≠ (l.toNat, p.toNat) → (x ∈ t.prs.ret ↔ x ∈ s.prs.ret)) ∧
      Posted s t 0x0C04 [l.toNat, p.toNat] ∧ FrameBut [.prs, .fab, .evq, .cnt, .mem] s t := by
  refine ⟨_, exec_lagReturn_returns hin hnone, ?_, fun x hx => ?_, .of_post (s.memberReturned_postSame _ _) _ _,
    ((s.memberReturned_frame _ _).mono (by simp)).post _ _ (by simp)⟩
  · simp [State.mem_memberReturned]
  · simp [State.mem_memberReturned, hx]

end

end Sys2Proof.Machine

namespace Sys2Proof.Proofs

open Sys2Proof.Machine Sys2Proof.Safety

/-- Settles O31, by what each of the fabric's commands does with a packet, a pair, a cell or a member. -/
theorem fabricCrossing : Obligations.fabricCrossing := by
  refine ⟨fun src s => ⟨exec_fabricIngress_idle, fun p rest h => ⟨fun hd => ?_, fun hd => ?_⟩⟩, fun s r l h => ?_, exec_cellSlot_spec,
    fun s k i e v rest done hvoq hages hi he hk htake hlost =>
      ⟨exec_cellSlot_crosses hvoq hages hi he hk htake hlost, exec_cellSlot_retries hvoq hages hi he hk⟩,
    fun req f m gp ap => arbRound_matching req f gp ap, fun l p s => ⟨exec_lagReturn_waits, exec_lagReturn_spec⟩⟩
  · have hexec := exec_fabricIngress_port h hd
    refine ⟨fun hcap => hexec.trans (congrArg _ (State.enterVoq_capped hcap)),
      fun hcap hfull => hexec.trans (congrArg _ (State.enterVoq_full hcap hfull)), fun hcap hroom => ?_⟩
    obtain ⟨hvoq, hother, hframe⟩ := State.enterVoq_room (s := s.pulled src.toNat rest) hcap hroom
    exact ⟨_, hexec, hvoq, hother, ((s.pulled_frame _ _).mono (by simp)).trans (hframe.mono (by simp))⟩
  · have hselect := (s.pulled src.toNat rest).lagSelect_frame ((s.pulled src.toNat rest).asOf p.epoch) (p.dest - 0x8000) p.hash
    refine ⟨_, exec_fabricIngress_lag h hd,
      (((s.pulled_frame _ _).mono (by simp)).trans (hselect.mono (by simp))).trans ((State.enterVoq_frame _ _ _).mono (by simp)), ?_⟩
    exact (State.enterVoq_voqs _ _ _).imp_left fun hsame j => (hsame j).trans (State.voqOf_of_frame hselect (by decide) j)
  · exact ⟨State.lagSelect_slot, State.lagSelect_noneUp, State.lagSelect_failover⟩

end Sys2Proof.Proofs
end

section
/-! Proofs about the table window: slots and entries under the state's operations, and the eight commands. -/

namespace Sys2Proof.Safety

open Sys2Proof.Machine

theorem FrameBut.fwd {l : List Part} {s t : State} (h : FrameBut l s t) (x : FwdSt) (hl : .fwd ∈ l) : FrameBut l s { t with fwd := x } := fun p hp => by
  have := h p hp
  cases p <;> simp_all [Part.Same]

end Sys2Proof.Safety

namespace Sys2Proof.Machine

open Sys2Proof.Safety

/-! ### Keys of a table -/

theorem Tbl.mem_put {α : Type} [DecidableEq α] {t : Table α} {k : Nat} {d v : α} {x : Nat × α} (h : x ∈ Tbl.put t k d v) : x = (k, v) ∨ x ∈ t := by
  have hdel : x ∈ Tbl.del t k → x ∈ t := List.mem_of_mem_filter
  unfold Tbl.put at h
  split at h
  · exact .inr (hdel h)
  · exact ((Tbl.mem_ins _ _ _ _).mp h).imp_right hdel

/-- A key that reads another value than the default is in the table. -/
theorem Tbl.mem_keys_of_find {α : Type} {t : Table α} {k : Nat} {d : α} (h : Tbl.find t k d ≠ d) : k ∈ t.map (·.1) := by
  induction t with
  | nil => exact absurd rfl h
  | cons x t ih =>
    obtain ⟨a, v⟩ := x
    by_cases ha : a = k
    · simp [ha]
    · rw [Tbl.find, if_neg ha] at h
      exact List.mem_cons_of_mem _ (ih h)

/-! ### Slots under the state's operations -/

theorem State.slot_congr {s t : State} (h : t.fwd.slots = s.fwd.slots) (j : Nat) : t.slot j = s.slot j := by rw [State.slot, State.slot, h]

section

variable (s : State)

@[simp] theorem State.slot_setFld (f : Fld) (v j : Nat) : (s.setFld f v).slot j = s.slot j := State.slot_congr (by simp) j

@[simp] theorem State.slot_fwdResult (r j : Nat) : (s.fwdResult r).slot j = s.slot j := s.slot_setFld _ _ _

@[simp] theorem State.slot_count (c : Ctr) (i j : Nat) : (s.count c i).slot j = s.slot j := State.slot_congr (by simp) j

@[simp] theorem State.slot_logStaged (e : StagedEnt) (j : Nat) : (s.logStaged e).slot j = s.slot j := (rfl)

/-- A write of a slot touches the table, the memories' state and registers of FWD_STS and of an armed flip. -/
theorem State.setSlot_frame (loc : Nat) (e : Option FwdEnt) : FrameBut [.fwd, .regs, .mem] s (s.setSlot loc e) :=
  (((((FrameBut.refl _ s).fwd _ (by simp)).trans ((State.noteWrite_frame _ _ _).mono (by simp))).setFld _ _ (by simp)).setFld _ _ (by simp))

theorem State.setSlot_slots (loc : Nat) (e : Option FwdEnt) : (s.setSlot loc e).fwd.slots = Tbl.put s.fwd.slots loc none e := by
  have hnote (t : State) (mem ix : Nat) : (t.noteWrite mem ix).fwd = t.fwd := t.noteWrite_frame mem ix .fwd (by simp)
  rw [State.setSlot, State.showFwd, State.setFld_fwd, State.setFld_fwd, hnote]

theorem State.slot_setSlot (loc j : Nat) (e : Option FwdEnt) : (s.setSlot loc e).slot j = if j = loc then e else s.slot j := by
  rw [State.slot, State.setSlot_slots]
  exact Tbl.find_put _ _ _ _ _

@[simp] theorem State.slot_noteOvf (p j : Nat) : (s.noteOvf p).slot j = s.slot j := by
  refine State.slot_congr ?_ j
  unfold State.noteOvf
  dsimp only
  split
  · rw [State.post_fwd]
  · split <;> rfl

@[simp] theorem State.slot_noteLearn (op : Nat) (e : FwdEnt) (j : Nat) : (s.noteLearn op e).slot j = s.slot j := by
  unfold State.noteLearn
  split <;> rfl

/-- Whatever else clearing a slot notes, the slot alone changes. -/
theorem State.slot_clearSlot (loc j : Nat) : (s.clearSlot loc).slot j = if j = loc then none else s.slot j := by
  have hlimit (t : State) (x : Table Bool) : ({ t with fwd := { t.fwd with limitSaid := x } } : State).slot j = t.slot j := rfl
  unfold State.clearSlot
  dsimp only
  split
  · simp only [apply_ite (State.slot · j), hlimit, State.slot_noteOvf, State.slot_setSlot, ite_self]
  · exact s.slot_setSlot loc j none

theorem State.slot_dropDyn (loc op j : Nat) : (s.dropDyn loc op).slot j = if j = loc then none else s.slot j := by
  unfold State.dropDyn
  split
  · rw [State.slot_noteLearn, State.slot_clearSlot]
  next hfree =>
    split
    next hj => rw [hj, hfree]
    · rfl

end

/-! ### Flushing (R192) -/

/-- What one visit of a flush by f leaves of slot l. -/
def State.flushAt (f : FwdEnt → Bool) (t : State) (l : Nat) : State :=
  match t.slot l with
  | some e => if !e.static_ && f e then (t.dropDyn l 4).count Cn.flushed e.part else t
  | none => t

theorem State.flushDyn_eq (s : State) (f : FwdEnt → Bool) : s.flushDyn f = (s.fwd.slots.map (·.1)).foldl (State.flushAt f) s := rfl

/-- An entry that a flush by f leaves: a static one, or one beyond f. -/
def outlivesFlush (f : FwdEnt → Bool) (e : FwdEnt) : Bool := !(!e.static_ && f e)

theorem outlivesFlush_eq_false_iff {f : FwdEnt → Bool} {e : FwdEnt} : outlivesFlush f e = false ↔ e.static_ = false ∧ f e = true := by simp [outlivesFlush]

theorem State.slot_flushAt (f : FwdEnt → Bool) (t : State) (l j : Nat) :
    (t.flushAt f l).slot j = if j = l then (t.slot j).filter (outlivesFlush f) else t.slot j := by
  by_cases hj : j = l
  · subst hj
    rw [State.flushAt, if_pos rfl]
    split
    next e he =>
      rw [he, Option.filter_some, outlivesFlush]
      cases !e.static_ && f e with
      | true => simp [State.slot_dropDyn]
      | false => exact he
    next hfree => simp [hfree]
  · rw [State.flushAt, if_neg hj]
    split
    · split
      · rw [State.slot_count, State.slot_dropDyn, if_neg hj]
      · rfl
    · rfl

theorem State.slot_flushAt_foldl (f : FwdEnt → Bool) (l : List Nat) (t : State) (j : Nat) :
    (l.foldl (State.flushAt f) t).slot j = if j ∈ l then (t.slot j).filter (outlivesFlush f) else t.slot j := by
  induction l generalizing t with
  | nil => simp
  | cons x l ih =>
    rw [List.foldl_cons, ih, State.slot_flushAt]
    by_cases hx : j = x
    · simp [hx, Option.filter_filter]
    · simp [hx]

/-- A flush by f removes exactly the dynamic entries that satisfy f. -/
theorem State.slot_flushDyn {s : State} {l : Nat} {e : FwdEnt} (h : s.slot l = some e) (f : FwdEnt → Bool) :
    (s.flushDyn f).slot l = if e.static_ = false ∧ f e = true then none else some e := by
  have hkey : l ∈ s.fwd.slots.map (·.1) := Tbl.mem_keys_of_find (d := none) (by rw [← State.slot, h]; exact Option.some_ne_none e)
  rw [State.flushDyn_eq, State.slot_flushAt_foldl, if_pos hkey, h]
  simp only [Option.filter_some, ← outlivesFlush_eq_false_iff]
  cases outlivesFlush f e <;> rfl

/-! ### Finding an entry -/

theorem State.findEnt_eq_none_iff {s : State} {p k : Nat} {f : FwdEnt → Bool} {locs : List Nat} :
    s.findEnt p k f locs = none ↔ ∀ l ∈ locs, ∀ e, s.slot l = some e → ¬ (e.part = p ∧ e.key = k ∧ f e = true) := by
  induction locs with
  | nil => simp [State.findEnt]
  | cons x locs ih =>
    rw [State.findEnt, List.forall_mem_cons, ← ih]
    split
    next e he =>
      split
      next hfits => exact iff_of_false (Option.some_ne_none _) fun h => h.1 e he hfits
      next hnot => exact (and_iff_right fun y hy => Option.some.inj (he.symm.trans hy) ▸ hnot).symm
    next hfree => simp [hfree]

/-- A key that no entry has is found under no condition. -/
theorem State.findEnt_none_of_none {s : State} {p k : Nat} {locs : List Nat} (h : s.findEnt p k (fun _ => true) locs = none) (f : FwdEnt → Bool) :
    s.findEnt p k f locs = none :=
  State.findEnt_eq_none_iff.mpr fun l hl e he ⟨hpart, hkey, _⟩ => State.findEnt_eq_none_iff.mp h l hl e he ⟨hpart, hkey, rfl⟩

theorem State.mem_ovfLocs {s : State} {p l : Nat} : l ∈ s.ovfLocs p ↔ ∃ e, (l, some e) ∈ s.fwd.slots ∧ ovfBase ≤ l ∧ e.part = p := by
  simp only [State.ovfLocs, List.mem_map, List.mem_filter, Bool.and_eq_true, decide_eq_true_eq, Prod.exists]
  constructor
  · rintro ⟨l, o, ⟨hmem, hovf, hpart⟩, rfl⟩
    cases o with
    | none => cases hpart
    | some e => exact ⟨e, hmem, hovf, of_decide_eq_true hpart⟩
  · rintro ⟨e, hmem, hovf, hpart⟩
    exact ⟨l, some e, ⟨hmem, hovf, decide_eq_true hpart⟩, rfl⟩

/-- A write of a slot adds that slot at most to the locations that a lookup reads. -/
theorem State.mem_lookupLocs_setSlot {s : State} {l j p k : Nat} {e : Option FwdEnt} (h : j ∈ (s.setSlot l e).lookupLocs p k) :
    j = l ∨ j ∈ s.lookupLocs p k := by
  have hpart : (s.setSlot l e).fwdPart p = s.fwdPart p := by
    rw [State.fwdPart, show (s.setSlot l e).rig = s.rig from s.setSlot_frame l e .rig (by decide), State.fwdPart]
  rw [State.lookupLocs, hpart] at h
  rcases List.mem_append.mp h with hbucket | hovf
  · exact .inr (List.mem_append_left _ hbucket)
  · obtain ⟨x, hmem, hbase, hx⟩ := State.mem_ovfLocs.mp hovf
    rw [State.setSlot_slots] at hmem
    rcases Tbl.mem_put hmem with hnew | hold
    · exact .inl (congrArg Prod.fst hnew)
    · exact .inr (List.mem_append_right _ (State.mem_ovfLocs.mpr ⟨x, hold, hbase, hx⟩))

/-- With an entry written that does not satisfy f, a key that no entry had is not found under f. -/
theorem State.findEnt_setSlot_none {s : State} {p k l : Nat} {e : FwdEnt} {f : FwdEnt → Bool}
    (h : s.findEnt p k (fun _ => true) (s.lookupLocs p k) = none) (hf : f e = false) :
    (s.setSlot l (some e)).findEnt p k f ((s.setSlot l (some e)).lookupLocs p k) = none := by
  refine State.findEnt_eq_none_iff.mpr fun j hj x hx => ?_
  rw [State.slot_setSlot] at hx
  split at hx
  · obtain rfl : e = x := Option.some.inj hx
    simp [hf]
  next hne =>
    rintro ⟨hpart, hkey, -⟩
    exact State.findEnt_eq_none_iff.mp h j ((State.mem_lookupLocs_setSlot hj).resolve_left hne) x hx ⟨hpart, hkey, rfl⟩

/-! ### Clean reads (R195) -/

theorem State.readWord_cleanSlot {s : State} {l : Nat} (h : SlotsClean s [l]) : s.readWord (slotWord l).1 (slotWord l).2 .clean = (s, false) := by
  obtain ⟨hpoison, hflip⟩ := h l (by simp)
  simp [State.readWord, State.eccOf, hpoison, hflip]

theorem State.readSlot_clean {s : State} {l : Nat} (h : SlotsClean s [l]) (b : Bool) : s.readSlot l .clean b = (s, false) := by
  simp [State.readSlot, State.readWord_cleanSlot h]

theorem State.readSlots_clean {s : State} {l : List Nat} (h : SlotsClean s l) : s.readSlots [] l = (s, false) := by
  induction l with
  | nil => rfl
  | cons x l ih =>
    have hx : SlotsClean s [x] := fun y hy => h y (List.mem_cons.mpr (.inl (List.mem_singleton.mp hy)))
    have hl : SlotsClean s l := fun y hy => h y (List.mem_cons_of_mem _ hy)
    simp [State.readSlots, State.readSlot_clean hx, ih hl]

theorem State.lookup_clean {s : State} {p k : Nat} (h : SlotsClean s (s.lookupLocs p k)) (e : Nat) :
    s.lookup p k e [] = (s, false, s.findEnt p k (s.entVisible e) (s.lookupLocs p k)) := by
  simp [State.lookup, State.readSlots_clean h]

/-- An insert with room in a candidate bucket writes the first free slot (R184). -/
theorem State.insertEnt_room {s : State} {e : FwdEnt} {l : Nat}
    (hclean : SlotsClean s (bucketLocs (fwdBuckets (s.fwdPart e.part) e.key).1 ++ bucketLocs (fwdBuckets (s.fwdPart e.part) e.key).2))
    (hfree : s.freeIn (fwdBuckets (s.fwdPart e.part) e.key).1 = some l ∨
      s.freeIn (fwdBuckets (s.fwdPart e.part) e.key).1 = none ∧ s.freeIn (fwdBuckets (s.fwdPart e.part) e.key).2 = some l) :
    s.insertEnt e = (s.setSlot l (some e), true) := by
  unfold State.insertEnt
  dsimp only
  rw [State.readSlots_clean hclean]
  rcases hfree with hfirst | ⟨hfull, hsecond⟩
  · simp only [hfirst]
  · simp only [hfull, hsecond]

/-! ### Staging a static entry (R193) -/

/-- The staged static entry of key k in partition p with result word w. -/
def staticEnt (p k w : Nat) : FwdEnt :=
  { key := k, flowEn := decide (w / 2 ^ 31 % 2 = 1), lag := decide (w / 2 ^ 30 % 2 = 1), dest := bits w 29 21, flow := bits w 17 0, static_ := true,
    pinned := false, refreshed := false, age := 0, moves := 0, win := 0, addP := true, delP := false, part := p, newIn := false, gone := false }

theorem State.stageStatic_room {s : State} {p k w l : Nat} (hnone : s.findEnt p k (fun _ => true) (s.lookupLocs p k) = none)
    (hins : s.insertEnt (staticEnt p k w) = (s.setSlot l (some (staticEnt p k w)), true)) (viaReg : Bool) (sect : Nat) :
    s.stageStatic p k w viaReg sect = ((s.setSlot l (some (staticEnt p k w))).logStaged ⟨fwdStageKey p k, false, viaReg, sect⟩, 0) := by
  have hafter := State.findEnt_setSlot_none (l := l) (e := staticEnt p k w) (f := fun x => x.static_ && !x.addP && !x.gone) hnone (by simp [staticEnt])
  rw [staticEnt] at hins hafter ⊢
  simp only [State.stageStatic, State.findEnt_none_of_none hnone, hins, hafter]

theorem State.stageDelete_applied {s : State} {p k l : Nat} {e : FwdEnt}
    (hstaged : s.findEnt p k (fun x => x.static_ && x.addP) (s.lookupLocs p k) = none)
    (happlied : s.findEnt p k (fun x => x.static_ && !x.addP && !x.gone) (s.lookupLocs p k) = some (l, e)) (viaReg : Bool) (sect : Nat) :
    s.stageDelete p k viaReg sect = ((s.setSlot l (some { e with delP := true })).logStaged ⟨fwdStageKey p k, false, viaReg, sect⟩, 0) := by
  simp only [State.stageDelete, hstaged, happlied]

theorem State.stageDelete_none {s : State} {p k : Nat} (hstaged : s.findEnt p k (fun x => x.static_ && x.addP) (s.lookupLocs p k) = none)
    (happlied : s.findEnt p k (fun x => x.static_ && !x.addP && !x.gone) (s.lookupLocs p k) = none) (viaReg : Bool) (sect : Nat) :
    s.stageDelete p k viaReg sect = (s, 1) := by
  simp only [State.stageDelete, hstaged, happlied, Option.isSome_none, Bool.false_eq_true, if_false]

/-! ### The staging machine before a staged command -/

theorem State.stageLost_iff (s : State) : s.stageLost = true ↔ s.rigState = 4 ∨ s.rigState = 5 ∨ s.rigState = 6 := by
  simp [State.stageLost, or_assoc]

theorem State.stagingWrite_of_not_stageLost {s : State} (h : s.stageLost = false) : s.stagingWrite id = s.opened := by
  have hnot : ¬ (s.rigState = 4 ∨ s.rigState = 5 ∨ s.rigState = 6) := fun hl => by simp [s.stageLost_iff.mpr hl] at h
  have hlt : s.rigState < 8 := s.fld_lt F.rigSts_state
  exact State.stagingWrite_of_open (by omega) id

theorem State.slot_opened (s : State) (j : Nat) : s.opened.slot j = s.slot j := by
  rw [State.slot, show s.opened.fwd = s.fwd from s.opened_frame .fwd (by decide), State.slot]

theorem State.fwdPart_opened (s : State) (p : Nat) : s.opened.fwdPart p = s.fwdPart p := by rw [State.fwdPart, s.opened_rig, State.fwdPart]

theorem State.lookupLocs_opened (s : State) (p k : Nat) : s.opened.lookupLocs p k = s.lookupLocs p k := by
  rw [State.lookupLocs, State.fwdPart_opened, State.ovfLocs, show s.opened.fwd = s.fwd from s.opened_frame .fwd (by decide), State.lookupLocs, State.ovfLocs]

theorem State.findEnt_opened (s : State) (p k : Nat) (f : FwdEnt → Bool) (l : List Nat) : s.opened.findEnt p k f l = s.findEnt p k f l := by
  induction l with
  | nil => rfl
  | cons x l ih => simp only [State.findEnt, State.slot_opened, ih]

theorem State.freeIn_opened (s : State) (b : Nat) : s.opened.freeIn b = s.freeIn b := by simp only [State.freeIn, State.slot_opened]

theorem slotsClean_opened {s : State} {l : List Nat} (h : SlotsClean s l) : SlotsClean s.opened l := by
  have hmem : s.opened.mem = s.mem := s.opened_frame .mem (by decide)
  simpa only [SlotsClean, State.poisoned, hmem] using h

/-! ### What the window's registers show -/

theorem State.fld_fwdResult (s : State) {r : Nat} (hr : r < 8) : (s.fwdResult r).fld F.fwdCmd_result = r :=
  (State.fld_setFld_same _ _ _ (by decide)).trans (Nat.mod_eq_of_lt hr)

/-- A command that only turns in a result. -/
theorem exec_turned {x : Instr} {s : State} {r : Nat} (h : exec x s = .next (s.fwdResult r)) (hr : r < 8) :
    ∃ t, exec x s = .next t ∧ t.fld F.fwdCmd_result = r ∧ FldsBut [F.fwdCmd_result] s t ∧ FrameBut [.regs] s t :=
  ⟨_, h, s.fld_fwdResult hr, (FldsBut.refl _ s).setFld r (by simp) (by decide), (FrameBut.refl _ s).setFld _ _ (by simp)⟩

theorem State.fwdData_fld (s : State) (lo hi res st r : Nat) :
    let t := (s.fwdData lo hi res st).fwdResult r
    t.fld F.fwdKeyLo = lo % 2 ^ 32 ∧ t.fld F.fwdKeyHi = hi % 2 ^ 32 ∧ t.fld F.fwdRes = res % 2 ^ 32 ∧ t.fld F.fwdState = st % 2 ^ 32 ∧ FrameBut [.regs] s t := by
  dsimp only
  unfold State.fwdResult State.fwdData
  simp (disch := decide) only [State.fld_setFld_other, State.fld_setFld_same]
  refine ⟨rfl, rfl, rfl, rfl, ?_⟩
  iterate 5 refine FrameBut.setFld ?_ _ _ (by simp)
  exact .refl _ s

/-- The window shows the answer f of a lookup of its key: the entry and its location, or the two candidate buckets. -/
def AnswerShown (s t : State) (f : Option (Nat × FwdEnt)) : Prop :=
  (∀ l e, f = some (l, e) → t.fld F.fwdRes = entWord2 e % 2 ^ 32 ∧ t.fld F.fwdState = entWord3 e % 2 ^ 32 ∧ t.fld F.fwdCmd_result = 0 ∧
    (t.flag F.fwdAddr_ovf = true ↔ 0x100000 ≤ l) ∧ t.fld F.fwdAddr_location = (if 0x100000 ≤ l then l - 0x100000 else l) % 2 ^ 20) ∧
  (f = none → t.fld F.fwdKeyLo = (fwdBuckets (s.fwdPart s.winPart) s.winKey).1 % 2 ^ 32 ∧
    t.fld F.fwdKeyHi = (fwdBuckets (s.fwdPart s.winPart) s.winKey).2 % 2 ^ 32 ∧ t.fld F.fwdCmd_result = 1) ∧
  FldsBut [F.fwdRes, F.fwdState, F.fwdCmd_result, F.fwdAddr_ovf, F.fwdAddr_location, F.fwdKeyLo, F.fwdKeyHi] s t ∧ FrameBut [.regs] s t

/-- FWD_ADDR takes the overflow flag and the location within its half. -/
theorem State.showLoc_eq (s : State) (l : Nat) :
    s.showLoc l = (s.setFld F.fwdAddr_ovf (if 0x100000 ≤ l then 1 else 0)).setFld F.fwdAddr_location (if 0x100000 ≤ l then l - 0x100000 else l) := by
  simp only [State.showLoc, ovfBase, ge_iff_le]
  split <;> rfl

theorem State.lookupAnswer_found (s : State) (l : Nat) (e : FwdEnt) : AnswerShown s (s.lookupAnswer (some (l, e))) (some (l, e)) := by
  have hanswer : s.lookupAnswer (some (l, e)) = (((s.showLoc l).setFld F.fwdRes (entWord2 e)).setFld F.fwdState (entWord3 e)).setFld F.fwdCmd_result 0 := rfl
  rw [hanswer, State.showLoc_eq]
  refine ⟨fun i x h => ?_, nofun, ?_, ?_⟩
  · obtain ⟨rfl, rfl⟩ : l = i ∧ e = x := by simpa using h
    unfold State.flag
    simp (disch := decide) only [State.fld_setFld_other, State.fld_setFld_same]
    refine ⟨rfl, rfl, rfl, ?_, rfl⟩
    split <;> simp_all [F.fwdAddr_ovf]
  · iterate 5 refine FldsBut.setFld ?_ _ (by simp) (by decide)
    exact .refl _ s
  · iterate 5 refine FrameBut.setFld ?_ _ _ (by simp)
    exact .refl _ s

theorem State.lookupAnswer_none (s : State) : AnswerShown s (s.lookupAnswer none) none := by
  unfold State.lookupAnswer State.fwdResult
  refine ⟨nofun, fun _ => ?_, ?_, ?_⟩
  · simp (disch := decide) only [State.fld_setFld_other, State.fld_setFld_same]
    exact ⟨rfl, rfl, rfl⟩
  · iterate 3 refine FldsBut.setFld ?_ _ (by simp) (by decide)
    exact .refl _ s
  · iterate 3 refine FrameBut.setFld ?_ _ _ (by simp)
    exact .refl _ s

theorem State.lookupAnswer_shown (s : State) : ∀ f, AnswerShown s (s.lookupAnswer f) f
  | none => s.lookupAnswer_none
  | some (l, e) => s.lookupAnswer_found l e

/-! ### The commands of the window (R186) -/

/-- From a master that may not write, or with the block held, no command of the window has an effect. -/
theorem exec_tableWindow_refused {m : Master} {s : State} (hmay : s.fwdMay m = false) :
    (∀ e b, exec (.readSlot m e b) s = .next s) ∧ (∀ rd, exec (.lookup m rd) s = .next s) ∧ exec (.lookupStaged m) s = .next s ∧
      exec (.insertStatic m) s = .next s ∧ exec (.deleteStatic m) s = .next s ∧ exec (.deleteDynamic m) s = .next s ∧ exec (.unpin m) s = .next s ∧
      ∀ x, exec (.flush m x) s = .next s := by
  have hnot : ¬ s.fwdMay m = true := Bool.eq_false_iff.mp hmay
  exact ⟨fun _ _ => if_neg hnot, fun _ => if_neg hnot, if_neg hnot, if_neg hnot, if_neg hnot, if_neg hnot, if_neg hnot, fun _ => if_neg hnot⟩

/-- The entries that FLUSH of a scope takes, with p the window's partition and d the port in FWD_RES (R192). -/
def flushScope (x : BitVec 2) (p d : Nat) (e : FwdEnt) : Bool := decide (x = 2 ∨ (e.part = p ∧ (x = 0 ∨ (e.lag = false ∧ e.dest = d))))

section

variable {m : Master} {s : State} (hmay : s.fwdMay m = true)
include hmay

theorem exec_readSlot_clean (hclean : SlotsClean s [s.fwdLoc]) :
    ∃ t, exec (.readSlot m .clean true) s = .next t ∧ t.fld F.fwdCmd_result = 0 ∧ FrameBut [.regs] s t ∧
      (s.slot s.fwdLoc = none → t.fld F.fwdKeyLo = 0 ∧ t.fld F.fwdKeyHi = 0 ∧ t.fld F.fwdRes = 0 ∧ t.fld F.fwdState = 0) ∧
      (∀ e, s.slot s.fwdLoc = some e → t.fld F.fwdKeyLo = e.key % 2 ^ 32 ∧ t.fld F.fwdKeyHi = e.key / 2 ^ 32 % 2 ^ 32 ∧ t.fld F.fwdRes = entWord2 e % 2 ^ 32 ∧
        t.fld F.fwdState = entWord3 e % 2 ^ 32) := by
  show ∃ t, execReadSlot s m .clean true = .next t ∧ _
  simp only [execReadSlot, if_pos hmay, State.readWord_cleanSlot hclean, State.readSlot_clean hclean, Bool.false_eq_true, if_false]
  cases hslot : s.slot s.fwdLoc with
  | none =>
    obtain ⟨hlo, hhi, hres, hst, hframe⟩ := s.fwdData_fld 0 0 0 0 0
    exact ⟨_, rfl, State.fld_fwdResult _ (by decide), hframe, fun _ => ⟨hlo, hhi, hres, hst⟩, nofun⟩
  | some e =>
    obtain ⟨hlo, hhi, hres, hst, hframe⟩ := s.fwdData_fld e.key (e.key / 2 ^ 32) (entWord2 e) (entWord3 e) 0
    exact ⟨_, rfl, State.fld_fwdResult _ (by decide), hframe, nofun, fun x hx => Option.some.inj hx ▸ ⟨hlo, hhi, hres, hst⟩⟩

/-- A staged command in DRAINING, ARMED and REGION notes the lost write and leaves the table (R193). -/
theorem exec_staged_lost (hlost : s.stageLost = true) :
    (∃ t, exec (.insertStatic m) s = .next t ∧ t.fld F.fwdCmd_result = 6 ∧ t.fwd = s.fwd) ∧
      ∃ t, exec (.deleteStatic m) s = .next t ∧ t.fld F.fwdCmd_result = 6 ∧ t.fwd = s.fwd := by
  have hfwd : ((s.stagingWrite id).fwdResult 6).fwd = s.fwd := by
    rw [State.stagingWrite_of_lost (s.stageLost_iff.mp hlost), State.fwdResult, State.setFld_fwd, State.post_fwd, State.setFld_fwd]
  exact ⟨⟨_, (if_pos hmay).trans (if_pos hlost), State.fld_fwdResult _ (by decide), hfwd⟩,
    _, (if_pos hmay).trans (if_pos hlost), State.fld_fwdResult _ (by decide), hfwd⟩

/-! With a partition that is not used. -/

section

variable (hpart : s.partOk s.winPart = false)
include hpart

theorem exec_keyCommands_noPart :
    (∀ rd, exec (.lookup m rd) s = .next (s.fwdResult 5)) ∧ exec (.lookupStaged m) s = .next (s.fwdResult 5) ∧
      exec (.deleteDynamic m) s = .next (s.fwdResult 5) ∧ exec (.unpin m) s = .next (s.fwdResult 5) := by
  have hnot : ¬ s.partOk s.winPart = true := Bool.eq_false_iff.mp hpart
  exact ⟨fun _ => (if_pos hmay).trans (if_neg hnot), (if_pos hmay).trans (if_neg hnot), (if_pos hmay).trans (if_neg hnot), (if_pos hmay).trans (if_neg hnot)⟩

theorem exec_staged_noPart (hopen : s.stageLost = false) :
    exec (.insertStatic m) s = .next (s.fwdResult 5) ∧ exec (.deleteStatic m) s = .next (s.fwdResult 5) := by
  have hnot : ¬ s.partOk s.winPart = true := Bool.eq_false_iff.mp hpart
  have hkept : ¬ s.stageLost = true := Bool.eq_false_iff.mp hopen
  exact ⟨(if_pos hmay).trans ((if_neg hkept).trans (if_neg hnot)), (if_pos hmay).trans ((if_neg hkept).trans (if_neg hnot))⟩

end

/-! With a partition that is used. -/

section

variable (hpart : s.partOk s.winPart = true)
include hpart

theorem exec_lookup_clean (hclean : SlotsClean s (s.lookupLocs s.winPart s.winKey)) :
    exec (.lookup m []) s =
      .next (s.lookupAnswer (s.findEnt s.winPart s.winKey (s.entVisible s.epoch) (s.lookupLocs s.winPart s.winKey))) := by
  refine (if_pos hmay).trans ((if_pos hpart).trans ?_)
  simp only [State.lookup_clean hclean, Bool.false_eq_true, if_false]

/-- A staged insert hides the applied entry of its key; else the entry that no staged delete takes away is shown. -/
theorem exec_lookupStaged :
    exec (.lookupStaged m) s = .next (s.lookupAnswer ((s.findEnt s.winPart s.winKey (fun e => e.addP) (s.lookupLocs s.winPart s.winKey)).or
      (s.findEnt s.winPart s.winKey entStaged (s.lookupLocs s.winPart s.winKey)))) := by
  refine (if_pos hmay).trans ((if_pos hpart).trans ?_)
  dsimp only
  cases s.findEnt s.winPart s.winKey (fun e => e.addP) (s.lookupLocs s.winPart s.winKey) <;> rfl

theorem exec_insertStatic_open (hopen : s.stageLost = false) :
    exec (.insertStatic m) s = .next ((s.opened.stageStatic s.winPart s.winKey (s.fld F.fwdRes) true 0).1.fwdResult
      (s.opened.stageStatic s.winPart s.winKey (s.fld F.fwdRes) true 0).2) := by
  rw [← State.stagingWrite_of_not_stageLost hopen]
  exact (if_pos hmay).trans ((if_neg (Bool.eq_false_iff.mp hopen)).trans (if_pos hpart))

theorem exec_deleteStatic_open (hopen : s.stageLost = false) :
    exec (.deleteStatic m) s = .next ((s.opened.stageDelete s.winPart s.winKey true 0).1.fwdResult
      (s.opened.stageDelete s.winPart s.winKey true 0).2) := by
  rw [← State.stagingWrite_of_not_stageLost hopen]
  exact (if_pos hmay).trans ((if_neg (Bool.eq_false_iff.mp hopen)).trans (if_pos hpart))

theorem exec_insertStatic_room (hopen : s.stageLost = false) {l : Nat}
    (hclean : SlotsClean s (bucketLocs (fwdBuckets (s.fwdPart s.winPart) s.winKey).1 ++ bucketLocs (fwdBuckets (s.fwdPart s.winPart) s.winKey).2))
    (hnone : s.findEnt s.winPart s.winKey (fun _ => true) (s.lookupLocs s.winPart s.winKey) = none)
    (hfree : s.freeIn (fwdBuckets (s.fwdPart s.winPart) s.winKey).1 = some l ∨
      s.freeIn (fwdBuckets (s.fwdPart s.winPart) s.winKey).1 = none ∧ s.freeIn (fwdBuckets (s.fwdPart s.winPart) s.winKey).2 = some l) :
    ∃ t e, exec (.insertStatic m) s = .next t ∧ t.slot l = some e ∧ e.key = s.winKey ∧ e.part = s.winPart ∧ e.static_ = true ∧ e.addP = true ∧
      e.dest = bits (s.fld F.fwdRes) 29 21 ∧ e.flow = bits (s.fld F.fwdRes) 17 0 ∧ t.fld F.fwdCmd_result = 0 ∧ ∀ j, j ≠ l → t.slot j = s.slot j := by
  have hins : s.opened.insertEnt (staticEnt s.winPart s.winKey (s.fld F.fwdRes)) =
      (s.opened.setSlot l (some (staticEnt s.winPart s.winKey (s.fld F.fwdRes))), true) := by
    refine State.insertEnt_room ?_ ?_
    · rw [State.fwdPart_opened]
      exact slotsClean_opened hclean
    · rw [State.fwdPart_opened, State.freeIn_opened, State.freeIn_opened]
      exact hfree
  have hexec := exec_insertStatic_open hmay hpart hopen
  rw [State.stageStatic_room (by rw [State.lookupLocs_opened, State.findEnt_opened, hnone]) hins] at hexec
  refine ⟨_, staticEnt s.winPart s.winKey (s.fld F.fwdRes), hexec, ?_, rfl, rfl, rfl, rfl, rfl, rfl, State.fld_fwdResult (r := 0) _ (by decide), fun j hj => ?_⟩
  · rw [State.slot_fwdResult, State.slot_logStaged, State.slot_setSlot, if_pos rfl]
  · rw [State.slot_fwdResult, State.slot_logStaged, State.slot_setSlot, if_neg hj, State.slot_opened]

section

variable (hopen : s.stageLost = false)
  (hstaged : s.findEnt s.winPart s.winKey (fun e => e.static_ && e.addP) (s.lookupLocs s.winPart s.winKey) = none)
include hopen hstaged

theorem exec_deleteStatic_applied {l : Nat} {e : FwdEnt}
    (hfound : s.findEnt s.winPart s.winKey (fun e => e.static_ && !e.addP && !e.gone) (s.lookupLocs s.winPart s.winKey) = some (l, e)) :
    ∃ t, exec (.deleteStatic m) s = .next t ∧ t.slot l = some { e with delP := true } ∧ t.fld F.fwdCmd_result = 0 ∧ ∀ j, j ≠ l → t.slot j = s.slot j := by
  have hexec := exec_deleteStatic_open hmay hpart hopen
  rw [State.stageDelete_applied (by rw [State.lookupLocs_opened, State.findEnt_opened, hstaged])
    (by rw [State.lookupLocs_opened, State.findEnt_opened, hfound])] at hexec
  refine ⟨_, hexec, ?_, State.fld_fwdResult (r := 0) _ (by decide), fun j hj => ?_⟩
  · rw [State.slot_fwdResult, State.slot_logStaged, State.slot_setSlot, if_pos rfl]
  · rw [State.slot_fwdResult, State.slot_logStaged, State.slot_setSlot, if_neg hj, State.slot_opened]

theorem exec_deleteStatic_none
    (hnone : s.findEnt s.winPart s.winKey (fun e => e.static_ && !e.addP && !e.gone) (s.lookupLocs s.winPart s.winKey) = none) :
    ∃ t, exec (.deleteStatic m) s = .next t ∧ t.fld F.fwdCmd_result = 1 ∧ ∀ j, t.slot j = s.slot j := by
  have hexec := exec_deleteStatic_open hmay hpart hopen
  rw [State.stageDelete_none (by rw [State.lookupLocs_opened, State.findEnt_opened, hstaged])
    (by rw [State.lookupLocs_opened, State.findEnt_opened, hnone])] at hexec
  exact ⟨_, hexec, State.fld_fwdResult (r := 1) _ (by decide), fun j => (State.slot_fwdResult _ _ _).trans (s.slot_opened j)⟩

end

/-! DELETE_DYNAMIC and UNPIN act on what the window's key finds. -/

theorem exec_dynamic_none (hnone : s.findEnt s.winPart s.winKey (fun _ => true) (s.lookupLocs s.winPart s.winKey) = none) :
    exec (.deleteDynamic m) s = .next (s.fwdResult 1) ∧ exec (.unpin m) s = .next (s.fwdResult 1) := by
  constructor
  · refine (if_pos hmay).trans ((if_pos hpart).trans ?_)
    rw [hnone]
  · refine (if_pos hmay).trans ((if_pos hpart).trans ?_)
    rw [hnone]

section

variable {l : Nat} {e : FwdEnt} (hfound : s.findEnt s.winPart s.winKey (fun _ => true) (s.lookupLocs s.winPart s.winKey) = some (l, e))
include hfound

theorem exec_dynamic_static (hstatic : e.static_ = true) :
    exec (.deleteDynamic m) s = .next (s.fwdResult 4) ∧ exec (.unpin m) s = .next (s.fwdResult 4) := by
  constructor
  · refine (if_pos hmay).trans ((if_pos hpart).trans ?_)
    rw [hfound]
    exact if_pos hstatic
  · refine (if_pos hmay).trans ((if_pos hpart).trans ?_)
    rw [hfound]
    exact if_pos hstatic

theorem exec_deleteDynamic_dynamic (hdyn : e.static_ = false) :
    ∃ t, exec (.deleteDynamic m) s = .next t ∧ t.slot l = none ∧ t.fld F.fwdCmd_result = 0 ∧ ∀ j, j ≠ l → t.slot j = s.slot j := by
  have hexec : exec (.deleteDynamic m) s = .next ((s.dropDyn l 4).fwdResult 0) := by
    refine (if_pos hmay).trans ((if_pos hpart).trans ?_)
    rw [hfound]
    exact if_neg (Bool.eq_false_iff.mp hdyn)
  refine ⟨_, hexec, ?_, State.fld_fwdResult _ (by decide), fun j hj => ?_⟩
  · rw [State.slot_fwdResult, State.slot_dropDyn, if_pos rfl]
  · rw [State.slot_fwdResult, State.slot_dropDyn, if_neg hj]

theorem exec_unpin_dynamic (hdyn : e.static_ = false) :
    ∃ t, exec (.unpin m) s = .next t ∧ t.slot l = some { e with pinned := false } ∧ t.fld F.fwdCmd_result = 0 ∧ ∀ j, j ≠ l → t.slot j = s.slot j := by
  have hexec : exec (.unpin m) s = .next (((s.setSlot l (some { e with pinned := false })).noteLearn 6 e).fwdResult 0) := by
    refine (if_pos hmay).trans ((if_pos hpart).trans ?_)
    rw [hfound]
    exact if_neg (Bool.eq_false_iff.mp hdyn)
  refine ⟨_, hexec, ?_, State.fld_fwdResult _ (by decide), fun j hj => ?_⟩
  · rw [State.slot_fwdResult, State.slot_noteLearn, State.slot_setSlot, if_pos rfl]
  · rw [State.slot_fwdResult, State.slot_noteLearn, State.slot_setSlot, if_neg hj]

end

end

/-! FLUSH. -/

theorem exec_flush_scope {x : BitVec 2} (hx : x ≠ 3) (hpart : x = 2 ∨ s.partOk s.winPart = true) :
    exec (.flush m x) s =
      .next (((s.setFld F.fwdCmd_scope x.toNat).flushDyn (flushScope x s.winPart (bits (s.fld F.fwdRes) 29 21))).fwdResult 0) := by
  have hwin : (s.setFld F.fwdCmd_scope x.toNat).winPart = s.winPart := State.fld_setFld_other _ _ (by decide) (by decide)
  have hres : (s.setFld F.fwdCmd_scope x.toNat).fld F.fwdRes = s.fld F.fwdRes := State.fld_setFld_other _ _ (by decide) (by decide)
  have hok : (s.setFld F.fwdCmd_scope x.toNat).partOk s.winPart = s.partOk s.winPart := rfl
  refine (if_pos hmay).trans ((if_neg hx).trans ?_)
  rw [hwin, hres, hok]
  by_cases h2 : x = 2
  · have hscope : flushScope x s.winPart (bits (s.fld F.fwdRes) 29 21) = fun _ => true := funext fun e => by simp [flushScope, h2]
    rw [if_pos h2, hscope]
  · rw [if_neg h2, if_pos (hpart.resolve_left h2)]
    by_cases h0 : x = 0
    · have hscope : flushScope x s.winPart (bits (s.fld F.fwdRes) 29 21) = fun e => decide (e.part = s.winPart) :=
        funext fun e => by simp [flushScope, h0]
      rw [if_pos h0, hscope]
    · have hscope : flushScope x s.winPart (bits (s.fld F.fwdRes) 29 21) =
          fun e => decide (e.part = s.winPart) && !e.lag && decide (e.dest = bits (s.fld F.fwdRes) 29 21) :=
        funext fun e => by simp only [flushScope, h0, h2, false_or, Bool.decide_and, Bool.decide_eq_false, Bool.and_assoc]
      rw [if_neg h0, hscope]

/-- FLUSH removes exactly the dynamic entries of its scope (R192). -/
theorem exec_flush_removes {x : BitVec 2} (hx : x ≠ 3) (hpart : x = 2 ∨ s.partOk s.winPart = true) :
    ∃ t, exec (.flush m x) s = .next t ∧ t.fld F.fwdCmd_result = 0 ∧ ∀ l e, s.slot l = some e → t.slot l =
      if e.static_ = false ∧ (x = 2 ∨ (e.part = s.winPart ∧ (x = 0 ∨ (e.lag = false ∧ e.dest = bits (s.fld F.fwdRes) 29 21)))) then none else some e := by
  refine ⟨_, exec_flush_scope hmay hx hpart, State.fld_fwdResult _ (by decide), fun l e he => ?_⟩
  rw [State.slot_fwdResult, State.slot_flushDyn ((s.slot_setFld _ _ _).trans he)]
  simp only [flushScope, decide_eq_true_eq]

end

end Sys2Proof.Machine

namespace Sys2Proof.Proofs

open Sys2Proof.Machine Sys2Proof.Safety

/-- Settles O30, by what each command of the window shows, stages or does at once. -/
theorem tableWindow : Obligations.tableWindow := by
  refine ⟨fun m s hmay => exec_tableWindow_refused hmay, fun m s hmay => ?_⟩
  refine ⟨exec_readSlot_clean hmay, fun hpart => ?_, exec_staged_lost hmay, fun hpart => ?_, fun x hx hpart => exec_flush_removes hmay hx hpart⟩
  · obtain ⟨hlookup, hstaged, hdelete, hunpin⟩ := exec_keyCommands_noPart hmay hpart
    refine ⟨fun rd => exec_turned (hlookup rd) (by decide), exec_turned hstaged (by decide), exec_turned hdelete (by decide),
      exec_turned hunpin (by decide), fun hopen => ?_⟩
    obtain ⟨hinsert, hdelete⟩ := exec_staged_noPart hmay hpart hopen
    exact ⟨exec_turned hinsert (by decide), exec_turned hdelete (by decide)⟩
  · refine ⟨fun hclean => ⟨_, exec_lookup_clean hmay hpart hclean, s.lookupAnswer_shown _⟩, ⟨_, exec_lookupStaged hmay hpart, s.lookupAnswer_shown _⟩,
      fun l hopen hclean hnone hfree => exec_insertStatic_room hmay hpart hopen hclean hnone hfree,
      fun hopen hstaged => ⟨fun l e hfound => exec_deleteStatic_applied hmay hpart hopen hstaged hfound, exec_deleteStatic_none hmay hpart hopen hstaged⟩,
      fun hnone => ?_, fun l e hfound => ⟨fun hstatic => ?_, fun hdyn => ?_⟩⟩
    · obtain ⟨hdelete, hunpin⟩ := exec_dynamic_none hmay hpart hnone
      exact ⟨exec_turned hdelete (by decide), exec_turned hunpin (by decide)⟩
    · obtain ⟨hdelete, hunpin⟩ := exec_dynamic_static hmay hpart hfound hstatic
      exact ⟨exec_turned hdelete (by decide), exec_turned hunpin (by decide)⟩
    · exact ⟨exec_deleteDynamic_dynamic hmay hpart hfound hdyn, exec_unpin_dynamic hmay hpart hfound hdyn⟩

end Sys2Proof.Proofs
end

section
/-! Proofs about the egress queues: admission at the settle point, the victims of push-out, spilling to DRAM and refilling from it. -/

namespace Sys2Proof.Safety

open Sys2Proof.Machine

theorem FrameBut.sht {l : List Part} {s t : State} (h : FrameBut l s t) (x : ShtSt) (hl : .sht ∈ l) : FrameBut l s { t with sht := x } := fun p hp => by
  have := h p hp
  cases p <;> simp_all [Part.Same]

/-- A fold whose steps keep a frame keeps it. -/
theorem FrameBut.foldl {α : Type} {l : List Part} {f : State → α → State} (h : ∀ t x, FrameBut l t (f t x)) (xs : List α) (s : State) :
    FrameBut l s (xs.foldl f s) := by
  induction xs generalizing s with
  | nil => exact .refl l s
  | cons x xs ih => exact (h s x).trans (ih _)

end Sys2Proof.Safety

namespace Sys2Proof.Machine

open Sys2Proof.Safety

/-! ### Egress queues under the state's operations -/

theorem State.qOf_setQ_same (s : State) (q : Nat) (x : EgQ) : (s.setQ q x).qOf q = x := Tbl.find_put_same _ _ _ _

theorem State.qOf_setQ_other (s : State) {q j : Nat} (x : EgQ) (h : j ≠ q) : (s.setQ q x).qOf j = s.qOf j := Tbl.find_put_other _ _ _ _ h

theorem State.setQ_frame (s : State) (q : Nat) (x : EgQ) : FrameBut [.fab] s (s.setQ q x) := (FrameBut.refl _ s).fab _ (by simp)

theorem State.qOf_of_q {s t : State} (h : t.fab.q = s.fab.q) (j : Nat) : t.qOf j = s.qOf j := by
  rw [State.qOf, h, State.qOf]

theorem State.qOf_of_frame {l : List Part} {s t : State} (h : FrameBut l s t) (hl : .fab ∉ l) (j : Nat) : t.qOf j = s.qOf j :=
  State.qOf_of_q (congrArg FabSt.q (h .fab hl)) j

theorem State.noteLow_frame (s : State) : FrameBut [.fab] s s.noteLow := (FrameBut.refl _ s).fab _ (by simp)

theorem State.noteLow_q (s : State) : s.noteLow.fab.q = s.fab.q := rfl

/-! ### Queue assignment and cut-through (R208, R224) -/

section

variable {s r : State} {p : Pkt}

theorem State.assignQueue_noFlow (hd : p.dest < 256) (hflow : p.flow = noFlow) :
    s.assignQueue r p = .error ((s.count Cn.shtNoFlow p.dest).dropped p) :=
  (if_pos hd).trans (if_pos hflow)

theorem State.assignQueue_noNode (hd : p.dest < 256) (hflow : p.flow ≠ noFlow) (hnode : ndValid (r.node (nodeName 3 p.flow)) = false) :
    s.assignQueue r p = .error ((s.count Cn.shtNoNode p.dest).dropped p) :=
  (if_pos hd).trans ((if_neg hflow).trans (if_pos hnode))

/-- Without a gate list in force no packet is too long for its class's window. -/
theorem State.gateOversize_noGates {n : Nat} (hgates : (s.gatesOf (n / 8)).cur = none) (c : Nat) : s.gateOversize n c p = false := by
  rw [State.gateOversize, hgates]

/-- The class queue of a packet for an uplink port. -/
def classQueue (p : Pkt) : Nat := cqName (8 * (p.dest - 256) + p.cls % 8)

theorem classQueue_ge (p : Pkt) : 0x40000 ≤ classQueue p := Nat.le_add_right _ _

theorem State.assignQueue_uplink (hd : 256 ≤ p.dest) (hgates : (s.gatesOf ((p.dest - 256) / 8)).cur = none) :
    s.assignQueue r p = .ok (classQueue p) :=
  (if_neg (Nat.not_lt.mpr hd)).trans (if_neg (by rw [State.gateOversize_noGates hgates]; exact Bool.false_ne_true))

theorem State.cutThrough_off (q : Nat) (hd : 256 ≤ p.dest) (hoff : r.flag F.fabCtCfg_ct_ulk = false) : s.cutThrough r q p = false := by
  simp [State.cutThrough, Nat.not_lt.mpr hd, hoff]

end

/-! ### The settle point (R204, R210) -/

section

variable {s : State} {p : Pkt}

theorem State.settle_unassigned {t : State} (late : Bool) (h : s.assignQueue (s.asOf p.epoch) p = .error t) : s.settle p late = t := by
  simp only [State.settle, h]

variable {q : Nat} (late : Bool) (h : s.assignQueue (s.asOf p.epoch) p = .ok q)
include h

theorem State.settle_down (hdown : (s.portOf p.dest).st = 2) : s.settle p late = (s.count Cn.portDownDrop p.dest).dropped p := by
  simp only [State.settle, h, if_pos hdown]

theorem State.settle_stored (hup : (s.portOf p.dest).st ≠ 2) (hct : s.cutThrough (s.asOf p.epoch) q p = false) (hbad : p.bad = false) :
    s.settle p late = s.admitPkt (s.asOf p.epoch) q p := by
  simp only [State.settle, h, if_neg hup, hct, hbad, Bool.false_eq_true, if_false]

end

/-- A packet for an uplink port without cut-through is admitted to its class queue. -/
theorem State.settle_uplink {s : State} {p : Pkt} (late : Bool) (hd : 256 ≤ p.dest) (hgates : (s.gatesOf ((p.dest - 256) / 8)).cur = none)
    (hup : (s.portOf p.dest).st ≠ 2) (hoff : (s.asOf p.epoch).flag F.fabCtCfg_ct_ulk = false) (hbad : p.bad = false) :
    s.settle p late = s.admitPkt (s.asOf p.epoch) (classQueue p) p :=
  State.settle_stored late (State.assignQueue_uplink hd hgates) hup (State.cutThrough_off _ hd hoff) hbad

/-! ### Admission (R204) -/

section

variable {s r : State} {p : Pkt} {q c n : Nat}

theorem State.grab_guaranteed (h : s.classUse c + n ≤ s.guar c) : s.grab c n = (s, true) := if_pos h

theorem State.grab_overCap (hguar : s.guar c < s.classUse c + n) (hcap : s.rig.run.buf.cap.getD c 0 < s.classUse c + n) : s.grab c n = (s, false) :=
  (if_neg (Nat.not_le.mpr hguar)).trans (if_neg (Nat.not_le.mpr hcap))

theorem EgQ.spilled_eq_false {x : EgQ} (hdie : x.d = x.tail) : x.spilled = false := by
  simp [EgQ.spilled, hdie]

variable (hq : 0x40000 ≤ q) (hdie : (s.qOf q).d = (s.qOf q).tail)
include hq hdie

theorem State.admitPkt_guaranteed (hroom : s.classUse (p.cls % 8) + (s.qOf q).newCells (p.len + 8) ≤ s.guar (p.cls % 8)) :
    s.admitPkt r q p = s.append q p none := by
  simp only [State.admitPkt, EgQ.spilled_eq_false hdie, decide_eq_false (Nat.not_lt.mpr hq), Bool.false_and, Bool.or_false, Bool.false_eq_true, if_false,
    State.grab_guaranteed hroom]

/-- A packet that did not arrive on an uplink port has no headroom. -/
theorem State.admitPkt_overCap (hguar : s.guar (p.cls % 8) < s.classUse (p.cls % 8) + (s.qOf q).newCells (p.len + 8))
    (hcap : s.rig.run.buf.cap.getD (p.cls % 8) 0 < s.classUse (p.cls % 8) + (s.qOf q).newCells (p.len + 8)) (hsrc : p.host = true ∨ p.src < 256) :
    s.admitPkt r q p = (s.countN Cn.admitDrop 0 (p.cls % 8) 1).dropped p := by
  simp only [State.admitPkt, EgQ.spilled_eq_false hdie, decide_eq_false (Nat.not_lt.mpr hq), Bool.false_and, Bool.or_false, Bool.false_eq_true, if_false,
    State.grab_overCap hguar hcap]
  refine if_neg ?_
  rintro ⟨hhost, hport, -⟩
  rcases hsrc with hsrc | hsrc
  · exact absurd (hhost.symm.trans hsrc) Bool.false_ne_true
  · exact Nat.not_lt.mpr hport hsrc

end

/-- A queue with a packet at the end of its on-die stream, settled at an instant. -/
def EgQ.joined (x : EgQ) (p : Pkt) (room : Option Nat) (now : Nat) : EgQ :=
  { x with pkts := x.pkts ++ [{ pkt := p, start := x.tail, size := p.len + 8, cells := x.newCells (p.len + 8), room := room, settle := now }],
           d := x.tail + (p.len + 8), e := x.tail + (p.len + 8), tail := x.tail + (p.len + 8) }

theorem State.noteDepth_frame (s : State) (q : Nat) : FrameBut [.sht] s (s.noteDepth q) := (FrameBut.refl _ s).sht _ (by simp)

theorem State.pfcOfPkt_frame (s : State) (p : Pkt) (room : Bool) : FrameBut [.cnt, .sht, .out] s (s.pfcOfPkt p room) := by
  have hs := FrameBut.refl [.cnt, .sht, .out] s
  unfold State.pfcOfPkt
  split
  · unfold State.pfcCheck
    dsimp only
    split
    · exact hs
    · split
      · exact ((hs.sht _ (by simp)).emit _ (by simp)).countN _ _ _ _ (by simp)
      · split
        · exact ((hs.sht _ (by simp)).emit _ (by simp)).countN _ _ _ _ (by simp)
        · exact hs
  · exact hs

/-- An admitted packet stands at the end of its queue; depth and PFC follow it. -/
theorem State.append_spec (s : State) (q : Nat) (p : Pkt) (room : Option Nat) :
    (s.append q p room).qOf q = (s.qOf q).joined p room s.nowNs ∧ (∀ j, j ≠ q → (s.append q p room).qOf j = s.qOf j) ∧
      FrameBut [.fab, .cnt, .sht, .out] s (s.append q p room) := by
  have hafter : FrameBut [.cnt, .sht, .out] (s.setQ q ((s.qOf q).joined p room s.nowNs)) (s.append q p room) :=
    ((State.noteDepth_frame _ _).mono (by simp)).trans (State.pfcOfPkt_frame _ _ _)
  have hq (j : Nat) := State.qOf_of_frame hafter (by decide) j
  exact ⟨(hq q).trans (s.qOf_setQ_same _ _), fun j hj => (hq j).trans (s.qOf_setQ_other _ hj),
    ((s.setQ_frame _ _).mono (by simp)).trans (hafter.mono (by simp))⟩

/-! ### EGRESS_ENQUEUE (R204, R224) -/

/-- The packets that wait at egress port n but the oldest still wait. -/
def State.oldestTaken (s : State) (n : Nat) (rest : List Pkt) : State := { s with fab := { s.fab with arrived := Tbl.put s.fab.arrived n [] rest } }

theorem State.oldestTaken_frame (s : State) (n : Nat) (rest : List Pkt) : FrameBut [.fab] s (s.oldestTaken n rest) := (FrameBut.refl _ s).fab _ (by simp)

/-- The rigging of an epoch does not depend on what waits. -/
theorem State.asOf_oldestTaken (s : State) (n : Nat) (rest : List Pkt) (e : Nat) : (s.oldestTaken n rest).asOf e = (s.asOf e).oldestTaken n rest :=
  (apply_ite (fun t : State => t.oldestTaken n rest) (e = s.epoch) s { s with regs := s.prevRegs, recs := s.prevRecs }).symm

/-- Without cut-through the packet that is taken is admitted to its class queue. -/
theorem State.settle_oldestTaken {s : State} {p : Pkt} {n : Nat} {rest : List Pkt} (late : Bool) (hd : 256 ≤ p.dest)
    (hgates : (s.gatesOf ((p.dest - 256) / 8)).cur = none) (hup : (s.portOf p.dest).st ≠ 2)
    (hoff : (s.asOf p.epoch).flag F.fabCtCfg_ct_ulk = false) (hbad : p.bad = false) :
    (s.oldestTaken n rest).settle p late =
      (s.oldestTaken n rest).admitPkt ((s.oldestTaken n rest).asOf p.epoch) (classQueue p) p := by
  refine State.settle_uplink (s := s.oldestTaken n rest) late hd hgates hup ?_ hbad
  rw [State.asOf_oldestTaken]
  exact hoff

/-- EGRESS_ENQUEUE takes the oldest packet and drops it; the counters become cnt. -/
def EnqueueDrops (d : PortIx) (late : Bool) (s : State) (rest : List Pkt) (cnt : Table Nat) : Prop :=
  ∃ t, exec (.egressEnqueue d late) s = .next t ∧ t.cnt = cnt ∧ t.fab.q = s.fab.q ∧ Tbl.find t.fab.arrived d.toNat [] = rest ∧ FrameBut [.fab, .cnt] s t

theorem exec_egressEnqueue_idle {d : PortIx} {s : State} (late : Bool) (h : Tbl.find s.fab.arrived d.toNat [] = []) :
    exec (.egressEnqueue d late) s = .next s := by
  show execEgressEnqueue s d late = _
  rw [execEgressEnqueue, h]

section

variable {d : PortIx} {s : State} {p : Pkt} {rest : List Pkt} (late : Bool) (h : Tbl.find s.fab.arrived d.toNat [] = p :: rest)
include h

theorem exec_egressEnqueue_settles : exec (.egressEnqueue d late) s = .next ((s.oldestTaken d.toNat rest).settle p late).noteLow := by
  show execEgressEnqueue s d late = _
  rw [execEgressEnqueue, h]
  rfl

/-- A packet without a stamp to yield that is counted and dropped leaves the queues. -/
theorem exec_egressEnqueue_drops (hstamp : p.tsReq = none) {c : Ctr} {i j : Nat}
    (hsettle : (s.oldestTaken d.toNat rest).settle p late = ((s.oldestTaken d.toNat rest).countN c i j 1).dropped p) :
    EnqueueDrops d late s rest (s.countN c i j 1).cnt := by
  rw [State.dropped_of_tsReq_none hstamp] at hsettle
  refine ⟨_, (exec_egressEnqueue_settles late h).trans (by rw [hsettle]), ?_, ?_, ?_, ?_⟩
  · exact State.countN_congr s (s.oldestTaken d.toNat rest) rfl rfl c i j 1
  · rw [State.noteLow_q, State.countN_fab]
    rfl
  · exact (congrArg (fun x : FabSt => Tbl.find x.arrived d.toNat []) ((s.oldestTaken d.toNat rest).countN_fab c i j 1)).trans (Tbl.find_put_same ..)
  · exact (((s.oldestTaken_frame _ _).mono (by simp)).countN c i j 1 (by simp)).trans ((State.noteLow_frame _).mono (by simp))

theorem exec_egressEnqueue_noFlow (hstamp : p.tsReq = none) (hd : p.dest < 256) (hflow : p.flow = noFlow) :
    EnqueueDrops d late s rest (s.count Cn.shtNoFlow p.dest).cnt :=
  exec_egressEnqueue_drops late h hstamp (State.settle_unassigned late (State.assignQueue_noFlow hd hflow))

theorem exec_egressEnqueue_noNode (hstamp : p.tsReq = none) (hd : p.dest < 256) (hflow : p.flow ≠ noFlow)
    (hnode : ndValid ((s.asOf p.epoch).node (nodeName 3 p.flow)) = false) : EnqueueDrops d late s rest (s.count Cn.shtNoNode p.dest).cnt := by
  refine exec_egressEnqueue_drops late h hstamp (State.settle_unassigned late (State.assignQueue_noNode hd hflow ?_))
  rw [State.asOf_oldestTaken]
  exact hnode

variable (hd : 256 ≤ p.dest) (hgates : (s.gatesOf ((p.dest - 256) / 8)).cur = none)
include hd hgates

theorem exec_egressEnqueue_portDown (hstamp : p.tsReq = none) (hdown : (s.portOf p.dest).st = 2) :
    EnqueueDrops d late s rest (s.count Cn.portDownDrop p.dest).cnt :=
  exec_egressEnqueue_drops late h hstamp (State.settle_down late (State.assignQueue_uplink (s := s.oldestTaken d.toNat rest) hd hgates) hdown)

variable (hup : (s.portOf p.dest).st ≠ 2) (hoff : (s.asOf p.epoch).flag F.fabCtCfg_ct_ulk = false) (hbad : p.bad = false)
  (hdie : (s.qOf (classQueue p)).d = (s.qOf (classQueue p)).tail)
include hup hoff hbad hdie

theorem exec_egressEnqueue_joins (hroom : s.classUse (p.cls % 8) + (s.qOf (classQueue p)).newCells (p.len + 8) ≤ s.guar (p.cls % 8)) :
    ∃ t, exec (.egressEnqueue d late) s = .next t ∧ (∀ j, j ≠ classQueue p → t.qOf j = s.qOf j) ∧
      t.qOf (classQueue p) = (s.qOf (classQueue p)).joined p none s.nowNs ∧ FrameBut [.fab, .cnt, .sht, .out] s t := by
  have hadmit := (State.settle_oldestTaken late hd hgates hup hoff hbad).trans
    (State.admitPkt_guaranteed (s := s.oldestTaken d.toNat rest) (classQueue_ge p) hdie hroom)
  obtain ⟨hown, hother, hframe⟩ := (s.oldestTaken d.toNat rest).append_spec (classQueue p) p none
  rw [← hadmit] at hown hother hframe
  exact ⟨_, exec_egressEnqueue_settles late h, hother, hown,
    (((s.oldestTaken_frame _ _).mono (by simp)).trans hframe).trans ((State.noteLow_frame _).mono (by simp))⟩

theorem exec_egressEnqueue_refused (hstamp : p.tsReq = none)
    (hguar : s.guar (p.cls % 8) < s.classUse (p.cls % 8) + (s.qOf (classQueue p)).newCells (p.len + 8))
    (hcap : s.rig.run.buf.cap.getD (p.cls % 8) 0 < s.classUse (p.cls % 8) + (s.qOf (classQueue p)).newCells (p.len + 8))
    (hsrc : p.host = true ∨ p.src < 256) :
    ∃ t, exec (.egressEnqueue d late) s = .next t ∧ t.fab.q = s.fab.q ∧ t.cnt = (s.countN Cn.admitDrop 0 (p.cls % 8) 1).cnt ∧
      FrameBut [.fab, .cnt] s t := by
  have hadmit := (State.settle_oldestTaken late hd hgates hup hoff hbad).trans
    (State.admitPkt_overCap (s := s.oldestTaken d.toNat rest) (classQueue_ge p) hdie hguar hcap hsrc)
  obtain ⟨t, hexec, hcnt, hq, -, hframe⟩ := exec_egressEnqueue_drops late h hstamp hadmit
  exact ⟨t, hexec, hq, hcnt, hframe⟩

end

/-! ### The victim of push-out (R204) -/

theorem EgQ.evictable_eq_some {x : EgQ} {p : QPkt} : x.evictable = some p ↔ x.tail ≤ x.d ∧ x.pkts.getLast? = some p ∧ p.room = none := by
  rw [← Nat.not_lt]
  by_cases hspilled : x.d < x.tail
  · simp [EgQ.evictable, EgQ.spilled, hspilled]
  · cases hlast : x.pkts.getLast? with
    | none => simp [EgQ.evictable, hlast]
    | some q =>
      simp only [EgQ.evictable, EgQ.spilled, hspilled, hlast, decide_false, Bool.false_eq_true, if_false, Option.ite_none_right_eq_some,
        Option.isNone_iff_eq_none, Option.some.injEq, not_false_eq_true, true_and]
      constructor
      · rintro ⟨hroom, rfl⟩
        exact ⟨rfl, hroom⟩
      · rintro ⟨rfl, hroom⟩
        exact ⟨hroom, rfl⟩

/-- Queue q is among the egress queues, with a tail packet of class k that push-out may take. -/
def State.takes (s : State) (k q : Nat) : Prop := ∃ x ∈ s.fab.q, x.1 = q ∧ ∃ p, x.2.evictable = some p ∧ p.pkt.cls % 8 = k

theorem State.victimIn_takes {s : State} {k q : Nat} (h : s.victimIn k = some q) : s.takes k q := by
  obtain ⟨y, hfold, rfl⟩ := Option.map_eq_some_iff.mp h
  refine List.foldlRecOn (motive := fun a : Option (Nat × Nat) => ∀ y, a = some y → s.takes k y.1) s.fab.q _ ?_ ?_ y hfold
  · exact fun y hy => nomatch hy
  · intro a ih x hx y hy
    cases hp : x.2.evictable with
    | none => exact ih y (by simpa only [hp] using hy)
    | some p =>
      simp only [hp] at hy
      split at hy
      · next hk =>
        have htake (m : Nat) (hm : some (x.1, m) = some y) : s.takes k y.1 := ⟨x, hx, congrArg Prod.fst (Option.some.inj hm), p, hp, hk⟩
        cases a with
        | none => exact htake _ hy
        | some b =>
          dsimp only at hy
          split at hy
          · exact htake _ hy
          · exact ih y hy
      · exact ih y hy

theorem State.victim_spec {s : State} {c q : Nat} (h : s.victim c = some q) :
    ∃ x ∈ s.fab.q, x.1 = q ∧ ∃ k p, k < c ∧ x.2.tail ≤ x.2.d ∧ x.2.pkts.getLast? = some p ∧ p.room = none ∧ p.pkt.cls % 8 = k ∧
      s.guar k < s.classUse k := by
  obtain ⟨k, hk, hvictim⟩ := List.exists_of_findSome?_eq_some h
  split at hvictim
  · next hover =>
    obtain ⟨x, hx, hname, p, hevict, hclass⟩ := State.victimIn_takes hvictim
    obtain ⟨hdie, hlast, hroom⟩ := EgQ.evictable_eq_some.mp hevict
    exact ⟨x, hx, hname, k, p, List.mem_range.mp hk, hdie, hlast, hroom, hclass, hover⟩
  · exact nomatch hvictim

/-! ### Buffers of Spar and the egress queues (R212) -/

theorem State.popPool_q {s t : State} {k x : Nat} (h : s.popPool k = some (t, x)) : t.fab.q = s.fab.q := by
  unfold State.popPool at h
  dsimp only at h
  split at h
  · cases h; rfl
  · split at h
    · cases h; rfl
    · exact nomatch h

theorem State.popFirst_q (s : State) (bad : Bool) (l : List Nat) : (s.popFirst bad l).1.fab.q = s.fab.q := by
  induction l generalizing s bad with
  | nil => rfl
  | cons k l ih =>
    unfold State.popFirst
    split
    · exact ih s bad
    · next t x ht =>
      have ht := State.popPool_q ht
      split
      · dsimp only
        split
        · exact (ih _ false).trans ht
        · next u y hu => exact (State.popPool_q hu).trans ht
      · exact ht

theorem State.alloc_q (s : State) (fam size flow agent : Nat) (wait bad : Bool) : (s.alloc fam size flow agent wait bad).1.fab.q = s.fab.q := by
  have hgrant (u : State) (k x a f : Nat) : (u.grant k x a f).fab.q = u.fab.q := rfl
  have hpool (u : State) (k : Nat) (p : Pool) : (u.setPool k p).fab.q = u.fab.q := rfl
  unfold State.alloc
  split
  · rfl
  · next first rest _ =>
    have hpop := s.popFirst_q bad (first :: rest)
    split
    · next t k x ht =>
      rw [ht] at hpop
      dsimp only at hpop
      simp only [apply_ite (fun y : State × Option (Nat × Nat) => y.1.fab.q), State.post_fab, hpool, State.count_fab, hgrant, hpop, ite_self]
    · next t ht =>
      rw [ht] at hpop
      dsimp only at hpop
      simp only [apply_ite (fun y : State × Option (Nat × Nat) => y.1.fab.q), State.post_fab, hpool, State.count_fab, hpop, ite_self]

/-! ### SPILL_BURST_WRITE (R207) -/

/-- The bytes still free in a queue's last segment. -/
def EgQ.segRoom (x : EgQ) : Nat := (x.segs.getLast?.map fun g => g.room).getD 0

/-- The queue once a burst of 64 staged bytes stands in its last segment. -/
def EgQ.burst (x : EgQ) : EgQ := { x with segs := fillLast 64 x.segs, e := x.e + 64 }

theorem fillLast_append (n : Nat) (l : List DSeg) (g : DSeg) : fillLast n (l ++ [g]) = l ++ [{ g with held := g.held + n, room := g.room - n }] := by
  simp [fillLast]

theorem bufBytes_ge (k : Nat) : 256 ≤ bufBytes k := by
  unfold bufBytes
  repeat' split
  all_goals decide

section

variable {f : FlowIx} {s : State} {x : EgQ} (hx : s.qOf f.toNat = x)
include hx

theorem exec_spillBurstWrite_waits (h : x.tail - x.e < 64 ∨ ∃ w ∈ s.fab.waiting, w.agent = spillAgent f.toNat) :
    exec (.spillBurstWrite f) s = .next s := by
  show execSpillBurstWrite s f = _
  simp only [execSpillBurstWrite, hx]
  by_cases hfew : x.tail - x.e < 64
  · exact if_pos hfew
  · refine (if_neg hfew).trans (if_pos ?_)
    obtain ⟨w, hw, hagent⟩ := h.resolve_left hfew
    exact List.any_eq_true.mpr ⟨w, hw, decide_eq_true hagent⟩

variable (hburst : 64 ≤ x.tail - x.e) (hfree : ∀ w ∈ s.fab.waiting, w.agent ≠ spillAgent f.toNat)
include hburst hfree

theorem exec_spillBurstWrite_room (hroom : 64 ≤ x.segRoom) : exec (.spillBurstWrite f) s = .next (s.setQ f.toNat x.burst) := by
  have hnone : (s.fab.waiting.any fun w => decide (w.agent = spillAgent f.toNat)) = false := by simpa using hfree
  have hroom := Nat.not_lt.mpr hroom
  rw [EgQ.segRoom] at hroom
  show execSpillBurstWrite s f = _
  simp only [execSpillBurstWrite, hx, if_neg (Nat.not_lt.mpr hburst), hnone, Bool.false_eq_true, if_false, if_neg hroom]
  rfl

theorem exec_spillBurstWrite_fills {g : DSeg} {l : List DSeg} (hsegs : x.segs = l ++ [g]) (hroom : 64 ≤ g.room) :
    ∃ t, exec (.spillBurstWrite f) s = .next t ∧ (∀ j, j ≠ f.toNat → t.qOf j = s.qOf j) ∧ FrameBut [.fab] s t ∧
      t.qOf f.toNat = { x with segs := l ++ [{ g with held := g.held + 64, room := g.room - 64 }], e := x.e + 64 } := by
  have hroom : 64 ≤ x.segRoom := by simpa [EgQ.segRoom, hsegs] using hroom
  refine ⟨_, exec_spillBurstWrite_room hx hburst hfree hroom, fun j hj => s.qOf_setQ_other _ hj, s.setQ_frame _ _, ?_⟩
  rw [State.qOf_setQ_same, EgQ.burst, hsegs, fillLast_append]

theorem exec_spillBurstWrite_newSeg {t : State} {k ptr : Nat} (hroom : x.segRoom < 64)
    (halloc : s.alloc 2 (segSize (x.e - x.d)) f.toNat (spillAgent f.toNat) true false = (t, some (k, ptr))) :
    ∃ u, exec (.spillBurstWrite f) s = .next u ∧ u.qOf f.toNat = { x with
      segs := x.segs ++ [{ pool := k, ptr := ptr, count := (t.poolOf k).count, held := 64, room := bufBytes k - 128 }], e := x.e + 64 } := by
  have hnone : (s.fab.waiting.any fun w => decide (w.agent = spillAgent f.toNat)) = false := by simpa using hfree
  have hq : t.qOf f.toNat = x := (State.qOf_of_q ((congrArg (·.1.fab.q) halloc).symm.trans (s.alloc_q ..)) _).trans hx
  have hlink : (t.linkSeg f.toNat k ptr).qOf f.toNat = { x with
      segs := x.segs ++ [{ pool := k, ptr := ptr, count := (t.poolOf k).count, held := 0, room := bufBytes k - 64 }] } := by
    rw [State.linkSeg, State.qOf_setQ_same, hq]
  have hnew : ¬ bufBytes k - 64 < 64 := by have := bufBytes_ge k; omega
  rw [EgQ.segRoom] at hroom
  refine ⟨(t.linkSeg f.toNat k ptr).setQ f.toNat ((t.linkSeg f.toNat k ptr).qOf f.toNat).burst, ?_, ?_⟩
  · show execSpillBurstWrite s f = _
    simp only [execSpillBurstWrite, hx, if_neg (Nat.not_lt.mpr hburst), hnone, Bool.false_eq_true, if_false, if_pos hroom, halloc, hlink,
      List.getLast?_append, List.getLast?_singleton, Option.some_or, Option.map_some, Option.getD_some, if_neg hnew, EgQ.burst]
  · rw [State.qOf_setQ_same, EgQ.burst, hlink, fillLast_append, Nat.zero_add, Nat.sub_sub]

end

/-! ### REFILL (R207) -/

theorem State.joinStaging_same {s : State} {f : Nat} {x : EgQ} (hx : s.qOf f = x) (h : x.e ≠ x.d ∨ x.tail ≤ x.d) : s.joinStaging f = s := by
  simp only [State.joinStaging, hx]
  exact if_neg fun ⟨he, hd⟩ => h.elim (· he) (Nat.not_le.mpr hd)

/-- The head packet of a queue has all its bytes on die. -/
def EgQ.headWhole (x : EgQ) : Bool :=
  match x.pkts.head? with
  | some q => decide (q.start + q.size ≤ x.d)
  | none => true

theorem EgQ.headWhole_of {x : EgQ} (h : ∀ q, x.pkts.head? = some q → q.start + q.size ≤ x.d) : x.headWhole = true := by
  unfold EgQ.headWhole
  split
  · next q hq => exact decide_eq_true (h q hq)
  · rfl

/-- The cells that the next byte of the on-die part needs: one where it begins a cell. -/
def EgQ.cellNeed (x : EgQ) : Nat := if x.d % 256 = 0 then 1 else 0

theorem EgQ.cellNeed_le (x : EgQ) : x.cellNeed ≤ 1 := by
  unfold EgQ.cellNeed
  split <;> decide

/-- A queue whose first segment gave k bytes to the on-die part. -/
def EgQ.refilled (x : EgQ) (g : DSeg) (rest : List DSeg) (k : Nat) (poison : Bool) : EgQ :=
  { x with
    pkts := x.pkts.map fun q =>
      if q.start < x.d + k ∧ x.d < q.start + q.size then
        { q with cells := q.cells + (if x.cellNeed = 1 ∧ q.start ≤ x.d then 1 else 0), pkt := { q.pkt with poison := q.pkt.poison || poison } }
      else q
    d := x.d + k
    segs := { g with held := g.held - k } :: rest }

theorem EgQ.refilled_nums (x : EgQ) (g : DSeg) (rest : List DSeg) (k : Nat) (poison : Bool) :
    (x.refilled g rest k poison).pkts.map (·.pkt.num) = x.pkts.map (·.pkt.num) := by
  refine (List.map_map ..).trans (List.map_congr_left fun q _ => ?_)
  dsimp only [Function.comp_apply]
  split <;> rfl

section

variable {f : FlowIx} {s : State} {x : EgQ} (hx : s.qOf f.toNat = x)
include hx

theorem exec_refill_noSegs (hsegs : x.segs = []) (h : x.e ≠ x.d ∨ x.tail ≤ x.d) (a b : Bool) : exec (.refill f a b) s = .next s := by
  show execRefill s f a b = _
  simp only [execRefill, hx, hsegs, State.joinStaging_same hx h]

variable {g : DSeg} {rest : List DSeg} (hsegs : x.segs = g :: rest)
include hsegs

theorem exec_refill_enough (hthr : s.fld F.fabSpillCfg_refill_thr ≤ x.dieCells)
    (hhead : ∀ q, x.pkts.head? = some q → q.start + q.size ≤ x.d) (a b : Bool) : exec (.refill f a b) s = .next s := by
  have hwhole := EgQ.headWhole_of hhead
  show execRefill s f a b = _
  simp only [execRefill, hx, hsegs]
  exact if_pos ⟨hthr, hwhole⟩

variable (hthr : x.dieCells < s.fld F.fabSpillCfg_refill_thr)
include hthr

theorem exec_refill_badTag (b : Bool) : exec (.refill f true b) s = .next (s.dropDram f.toNat) := by
  show execRefill s f true b = _
  simp only [execRefill, hx, hsegs]
  exact (if_neg fun h => Nat.not_le.mpr hthr h.1).trans (if_pos (.inl trivial))

/-- A read of k bytes that empties neither the segment nor the DRAM part, into cells of the class's guarantee. -/
theorem exec_refill_reads (htag : Tbl.find s.fab.tags (g.pool * 2 ^ 48 + g.ptr) (0, 0) = (f.toNat, g.count)) {k : Nat}
    (hk : k = min (min (256 - x.d % 256) g.held) (x.e - x.d)) (hheld : k < g.held) (hmore : x.d + k < x.e)
    (hroom : s.classUse (x.classAt x.d) + 1 ≤ s.guar (x.classAt x.d)) (b : Bool) :
    exec (.refill f false b) s = .next (s.setQ f.toNat (x.refilled g rest k b)) := by
  have hgrab := State.grab_guaranteed (le_trans (Nat.add_le_add_left x.cellNeed_le _) hroom)
  have hjoin : (s.setQ f.toNat (x.refilled g rest k b)).joinStaging f.toNat = _ :=
    State.joinStaging_same (s.qOf_setQ_same _ _) (.inl (Nat.ne_of_lt hmore).symm)
  rw [EgQ.cellNeed] at hgrab
  show execRefill s f false b = _
  simp only [execRefill, hx, hsegs, hgrab, ← hk]
  refine (if_neg fun h => Nat.not_le.mpr hthr h.1).trans ((if_neg (by rw [htag]; simp)).trans ((if_neg fun h => ?_).trans (congrArg _ hjoin)))
  exact absurd h.1 (by omega)

end

/-! ### A wrong segment tag (R214) -/

/-- Staged packets as they follow the on-die part, from byte a.2 of the stream on. -/
def restage (a : List QPkt × Nat) (l : List QPkt) : List QPkt × Nat :=
  l.foldl (fun a q => (a.1 ++ [{ q with start := a.2, cells := cdiv (a.2 + q.size) 256 - cdiv a.2 256 }], a.2 + q.size)) a

theorem restage_pkts (l : List QPkt) (a : List QPkt × Nat) : (restage a l).1.map (·.pkt) = a.1.map (·.pkt) ++ l.map (·.pkt) := by
  induction l generalizing a with
  | nil => simp [restage]
  | cons q l ih => exact (ih _).trans (by simp)

/-- The packets that lie whole on die. -/
def EgQ.onDie (x : EgQ) : List QPkt := x.pkts.filter fun q => decide (q.start + q.size ≤ x.d)

/-- The packets that lie whole in the staging. -/
def EgQ.staged (x : EgQ) : List QPkt := x.pkts.filter fun q => decide (x.e ≤ q.start)

/-- The packets with a byte in the DRAM part. -/
def EgQ.inDram (x : EgQ) : List QPkt := x.pkts.filter fun q => decide (q.start < x.e) && decide (x.d < q.start + q.size)

/-- The end of the packets that lie whole on die. -/
def EgQ.dieEnd (x : EgQ) : Nat :=
  match x.onDie.getLast? with
  | some q => q.start + q.size
  | none => x.head

/-- A queue without its DRAM part: the staging follows the on-die part. -/
def EgQ.dramDropped (x : EgQ) : EgQ :=
  let stg := restage ([], x.dieEnd) x.staged
  if x.onDie ++ stg.1 = [] then egQ0 else { pkts := x.onDie ++ stg.1, head := x.head, d := stg.2, e := stg.2, tail := stg.2, segs := [] }

theorem EgQ.dramDropped_spec (x : EgQ) : x.dramDropped.segs = [] ∧ x.dramDropped.pkts.map (·.pkt) = (x.onDie ++ x.staged).map (·.pkt) := by
  have hmap : (x.onDie ++ (restage ([], x.dieEnd) x.staged).1).map (·.pkt) = (x.onDie ++ x.staged).map (·.pkt) := by
    rw [List.map_append, restage_pkts, List.map_append]
    rfl
  unfold EgQ.dramDropped
  dsimp only
  split
  · next hempty => exact ⟨rfl, (congrArg (List.map (·.pkt)) hempty).symm.trans hmap⟩
  · exact ⟨rfl, hmap⟩

/-- What is lost with a DRAM part: its packet is counted and dropped. -/
def State.tagLost (s : State) (q : QPkt) : State := (s.count Cn.sparSegTag 0).dropped q.pkt

/-- The segments after the first are freed before the queue is written, so nothing that their freeing serves stays in it. -/
theorem State.dropDram_eq (s : State) (f : Nat) : s.dropDram f =
    ((s.qOf f).inDram.foldl State.tagLost (((s.qOf f).segs.tail.foldl (fun t g => t.freeBuf (spillAgent f) g.pool g.ptr false) s).setQ f
      (s.qOf f).dramDropped)).post 0x0E06 [f] := by
  rw [EgQ.dramDropped, apply_ite (State.setQ _ f)]
  rfl

theorem State.qOf_dropDram (s : State) (f : Nat) : (s.dropDram f).qOf f = (s.qOf f).dramDropped := by
  have hlost (t : State) : FrameBut [.regs, .cnt, .evq, .tim, .mem] t ((s.qOf f).inDram.foldl State.tagLost t) :=
    .foldl (fun t (q : QPkt) => t.count_dropped_frame _ _ q.pkt) _ t
  rw [State.dropDram_eq]
  exact (State.qOf_of_frame ((hlost _).post 0x0E06 [f] (by simp)) (by decide) f).trans (State.qOf_setQ_same _ _ _)

end Sys2Proof.Machine

namespace Sys2Proof.Proofs

open Sys2Proof.Machine Sys2Proof.Safety

/-- Settles O32, by what the settle point does with a packet, by the fold that finds a victim, and by what a burst or a refill moves. -/
theorem egressQueues : Obligations.egressQueues := by
  refine ⟨fun d late s => ⟨exec_egressEnqueue_idle late, fun p rest h hstamp => ?_⟩, fun s c q => State.victim_spec,
    fun f s => ⟨exec_spillBurstWrite_waits rfl, fun hburst hfree => ?_⟩, fun n => rfl,
    fun f s => ⟨exec_refill_noSegs rfl, fun g rest hsegs => ⟨exec_refill_enough rfl hsegs, fun hthr => ⟨fun b => ?_, fun htag hheld hmore hroom => ?_⟩⟩⟩⟩
  · exact ⟨exec_egressEnqueue_noFlow late h hstamp, exec_egressEnqueue_noNode late h hstamp,
      fun hd hgates => exec_egressEnqueue_portDown late h hd hgates hstamp,
      fun hd hgates hup hoff hbad hdie => ⟨exec_egressEnqueue_joins late h hd hgates hup hoff hbad hdie,
        exec_egressEnqueue_refused late h hd hgates hup hoff hbad hdie hstamp⟩⟩
  · exact ⟨fun g l => exec_spillBurstWrite_fills rfl hburst hfree, fun t k ptr => exec_spillBurstWrite_newSeg rfl hburst hfree⟩
  · refine ⟨_, exec_refill_badTag rfl hsegs hthr b, ?_⟩
    rw [State.qOf_dropDram]
    exact EgQ.dramDropped_spec _
  · refine ⟨_, exec_refill_reads rfl hsegs hthr htag rfl hheld hmore hroom false, ?_⟩
    rw [State.qOf_setQ_same]
    exact ⟨rfl, rfl, rfl, rfl, EgQ.refilled_nums .., fun j hj => s.qOf_setQ_other _ hj, s.setQ_frame _ _⟩

end Sys2Proof.Proofs
end

section
/-! Proofs about the windows of nodes and queues. -/

namespace Sys2Proof.Machine

open Sys2Proof.Safety

/-! ### What the node window shows (R223, R235) -/

theorem shtNodeData_fits (i : Nat) : (F.shtNodeData i).lo + (F.shtNodeData i).width ≤ 32 := le_refl 32

theorem shtNodeData_addr_ne (i j : Nat) (h : i ≠ j) : (F.shtNodeData i).addr ≠ (F.shtNodeData j).addr := by
  show 0x2000104 + 0x4 * i ≠ 0x2000104 + 0x4 * j
  omega

theorem State.nodeData_eq (s : State) (ws : List Nat) : s.nodeData ws = s.setWords F.shtNodeData ws (List.range 7) := rfl

/-- The node window shows the words ws, and its command completes. -/
def State.nodeShown (s : State) (ws : List Nat) : State := (s.nodeData ws).setFld F.shtNodeCmd_result 0

theorem State.nodeShown_spec (s : State) (ws : List Nat) :
    let t := s.nodeShown ws
    (∀ i, i < 7 → t.fld (F.shtNodeData i) = wordOf ws i % 2 ^ 32) ∧ t.fld F.shtNodeCmd_result = 0 ∧
      FldsBut (F.shtNodeCmd_result :: (List.range 7).map F.shtNodeData) s t ∧ FrameBut [.regs] s t := by
  have hflds := State.setWords_flds shtNodeData_fits (.refl (F.shtNodeCmd_result :: (List.range 7).map F.shtNodeData) s) ws (List.subset_cons_self _ _)
  dsimp only
  rw [State.nodeShown, State.nodeData_eq]
  refine ⟨fun i hi => ?_, State.fld_setFld_same _ _ _ (by decide), hflds.setFld 0 (by simp) (by decide), (s.setWords_frame _ ws _).setFld _ _ (by simp)⟩
  have hne : (F.shtNodeData i).addr ≠ F.shtNodeCmd_result.addr := by
    show 0x2000104 + 0x4 * i ≠ 0x2000120
    omega
  rw [State.fld_setFld_other _ 0 (by decide) (.inl hne)]
  exact State.fld_setWords shtNodeData_fits shtNodeData_addr_ne (List.mem_range.mpr hi) s ws

/-! ### The queue window's latch (R235) -/

section

variable (s : State)

theorem State.qsLatch_flds :
    FldsBut [F.shtQsDepth_depth, F.shtQsDmax_dmax, F.shtQsSoj_soj, F.shtQsSmax_smax] s s.qsLatch :=
  ((((FldsBut.refl _ s).setFld _ (by simp) (by decide)).setFld _ (by simp) (by decide)).setFld _ (by simp) (by decide)).setFld _ (by simp) (by decide)

theorem State.qsLatch_frame : FrameBut [.regs] s s.qsLatch :=
  ((((FrameBut.refl _ s).setFld _ _ (by simp)).setFld _ _ (by simp)).setFld _ _ (by simp)).setFld _ _ (by simp)

/-- The latch keeps each of the four values through the writes of the later ones. The depth saturates below its register's width. -/
theorem State.qsLatch_vals :
    s.qsLatch.fld F.shtQsDepth_depth = min (s.qOf s.winQueue).depth 0xFFFFFFFF ∧ s.qsLatch.fld F.shtQsDmax_dmax = (s.qsOf s.winQueue).dmax % 2 ^ 32 ∧
      s.qsLatch.fld F.shtQsSoj_soj = (s.qsOf s.winQueue).soj % 2 ^ 32 ∧ s.qsLatch.fld F.shtQsSmax_smax = (s.qsOf s.winQueue).smax % 2 ^ 32 := by
  have hkeeps {f g : Fld} (t : State) (v : Nat) (hf : f.lo + f.width ≤ 32) (h : g.addr ≠ f.addr) : (t.setFld f v).fld g = t.fld g :=
    State.fld_setFld_other t v hf (.inl h)
  dsimp only [State.qsLatch]
  refine ⟨?_, ?_, ?_, State.fld_setFld_same _ _ _ (by decide)⟩
  · rw [hkeeps _ _ (by decide) (by decide), hkeeps _ _ (by decide) (by decide), hkeeps _ _ (by decide) (by decide), State.fld_setFld_same _ _ _ (by decide)]
    exact Nat.mod_eq_of_lt (lt_of_le_of_lt (Nat.min_le_right _ _) (by decide))
  · rw [hkeeps _ _ (by decide) (by decide), hkeeps _ _ (by decide) (by decide)]
    exact State.fld_setFld_same _ _ _ (by decide)
  · rw [hkeeps _ _ (by decide) (by decide)]
    exact State.fld_setFld_same _ _ _ (by decide)

theorem State.qsOf_setQs_same (q : Nat) (x : QStat) : (s.setQs q x).qsOf q = x := Tbl.find_put_same _ _ _ _

theorem State.qsOf_setQs_other {q j : Nat} (x : QStat) (h : j ≠ q) : (s.setQs q x).qsOf j = s.qsOf j := Tbl.find_put_other _ _ _ _ h

theorem State.qsOf_qsLatch (j : Nat) : s.qsLatch.qsOf j = s.qsOf j := by
  rw [State.qsOf, s.qsLatch_frame .sht (by decide), State.qsOf]

/-- A queue's statistics are no register. -/
theorem State.fld_setQs (q : Nat) (x : QStat) (f : Fld) : (s.setQs q x).fld f = s.fld f := (rfl)

end

/-! ### The reset record of a node (R223) -/

section

variable {s : State} {lvl ix : Nat}

theorem nodeName_level (h : ix < 0x100000) : nodeName lvl ix / 0x100000 = lvl := by
  rw [nodeName]
  omega

/-- A class queue's number in its port is in the last bits of its node's name. -/
theorem nodeName_mod_eight : nodeName lvl ix % 8 = ix % 8 := by
  rw [nodeName]
  omega

theorem State.node_unwritten {k : Nat} (h : s.record kNode k = []) : s.node k = nodeReset k := if_pos h

theorem nodeReset_nodeName (h : ix < 0x100000) : nodeReset (nodeName lvl ix) =
    if lvl = 0 then [0x80000001] else if lvl = 4 then [0x80140001] else if lvl = 5 then [ix % 8 * 2 ^ 28] else [] := by
  simp only [nodeReset, nodeName_level h, nodeName_mod_eight]

/-- A record whose first word holds a priority alone. -/
theorem nd_of_prio {p : Nat} (h : p < 8) : ndPrio [p * 2 ^ 28] = p ∧ ndValid [p * 2 ^ 28] = false := by
  simp only [ndPrio, ndValid, recBits, bits, wordOf, List.getD_cons_zero, decide_eq_false_iff_not]
  omega

theorem State.node_unwritten_spec (hix : ix < 0x100000) (h : s.record kNode (nodeName lvl ix) = []) :
    let ws := s.node (nodeName lvl ix)
    (lvl = 0 → wordOf ws 0 = 0x80000001) ∧ (lvl = 4 → wordOf ws 0 = 0x80140001) ∧ (lvl = 5 → ndPrio ws = ix % 8 ∧ ndValid ws = false) ∧
      (lvl = 1 ∨ lvl = 2 ∨ lvl = 3 → ws = []) := by
  dsimp only
  rw [State.node_unwritten h, nodeReset_nodeName hix]
  refine ⟨?_, ?_, ?_, ?_⟩
  · rintro rfl
    rfl
  · rintro rfl
    rfl
  · rintro rfl
    exact nd_of_prio (Nat.mod_lt _ (by decide))
  · rintro (rfl | rfl | rfl) <;> rfl

end

/-! ### The commands of the windows (R235) -/

section

variable {m : Master} {s : State}

theorem exec_sheetWindows_refused (h : s.shtMay m = false) :
    (∀ e b, exec (.nodeReadApplied m e b) s = .next s) ∧ exec (.nodeReadStaged m) s = .next s ∧ exec (.nodeWriteStaged m) s = .next s ∧
      exec (.nodeZeroData m) s = .next s ∧ exec (.qsRead m) s = .next s ∧ exec (.qsReadClear m) s = .next s := by
  have hmay : ¬ s.shtMay m = true := by simp [h]
  exact ⟨fun _ _ => if_neg hmay, if_neg hmay, if_neg hmay, if_neg hmay, if_neg hmay, if_neg hmay⟩

variable (hmay : s.shtMay m = true)
include hmay

theorem exec_nodeZeroData : exec (.nodeZeroData m) s = .next (s.nodeShown []) := if_pos hmay

theorem exec_nodeCommands_noNode (hnone : s.winNode = none) :
    (∀ e b, exec (.nodeReadApplied m e b) s = .next (s.setFld F.shtNodeCmd_result 1)) ∧
      exec (.nodeReadStaged m) s = .next (s.setFld F.shtNodeCmd_result 1) ∧ exec (.nodeWriteStaged m) s = .next (s.setFld F.shtNodeCmd_result 1) := by
  refine ⟨fun e b => (if_pos hmay).trans ?_, (if_pos hmay).trans ?_, (if_pos hmay).trans ?_⟩
  all_goals rw [hnone]

section

variable {k : Nat} (hk : s.winNode = some k)
include hk

theorem exec_nodeReadApplied_clean (hclean : RecClean s 5 kNode k) (b : Bool) : exec (.nodeReadApplied m .clean b) s = .next (s.nodeShown (s.node k)) := by
  refine (if_pos hmay).trans ?_
  simp only [hk, State.readRec_clean hclean, Bool.false_eq_true, if_false, State.nodeShown]

theorem exec_nodeReadStaged : exec (.nodeReadStaged m) s = .next (s.nodeShown (s.nodeStaged k)) := by
  refine (if_pos hmay).trans ?_
  rw [hk, State.nodeShown]

theorem exec_nodeWriteStaged :
    exec (.nodeWriteStaged m) s = .next ((s.stageRec kNode k ((List.range 7).map fun i => s.fld (F.shtNodeData i))).setFld F.shtNodeCmd_result 0) := by
  refine (if_pos hmay).trans ?_
  rw [hk]

theorem exec_nodeWriteStaged_spec (hrig : s.rigState < 4) :
    ∃ t, exec (.nodeWriteStaged m) s = .next t ∧ t.recordStaged kNode k = (List.range 7).map (fun i => s.fld (F.shtNodeData i)) ∧ t.recs = s.recs ∧
      t.rigState = 0 ∧ t.fld F.shtNodeCmd_result = 0 := by
  obtain ⟨hstaged, hrecs, hstate⟩ := State.stageRec_spec hrig kNode k ((List.range 7).map fun i => s.fld (F.shtNodeData i))
  exact ⟨_, exec_nodeWriteStaged hmay hk, hstaged, hrecs, (State.fld_setFld_other _ _ (by decide) (by decide)).trans hstate,
    State.fld_setFld_same _ _ _ (by decide)⟩

end

theorem exec_qsRead : exec (.qsRead m) s = .next s.qsLatch := if_pos hmay

theorem exec_qsReadClear :
    exec (.qsReadClear m) s = .next (s.qsLatch.setQs s.winQueue { s.qsOf s.winQueue with dmax := 0, smax := 0 }) := if_pos hmay

end

end Sys2Proof.Machine

namespace Sys2Proof.Proofs

open Sys2Proof.Machine Sys2Proof.Safety

/-- Settles O36, by what the node window shows or stages, by what the queue window latches, and by a node's reset record. -/
theorem sheetWindows : Obligations.sheetWindows := by
  refine ⟨fun m s h => exec_sheetWindows_refused h, fun m s hmay => ⟨exec_nodeCommands_noNode hmay, ?_, fun k hk => ⟨fun hpoison hflip b => ?_, ?_, ?_⟩, ?_, ?_⟩,
    fun s lvl ix => State.node_unwritten_spec⟩
  · exact ⟨_, exec_nodeZeroData hmay, s.nodeShown_spec []⟩
  · exact ⟨_, exec_nodeReadApplied_clean hmay hk ⟨hpoison, hflip⟩ b, s.nodeShown_spec _⟩
  · exact ⟨_, exec_nodeReadStaged hmay hk, s.nodeShown_spec _⟩
  · exact exec_nodeWriteStaged_spec hmay hk
  · obtain ⟨hdepth, hdmax, hsoj, hsmax⟩ := s.qsLatch_vals
    exact ⟨_, exec_qsRead hmay, ⟨hdepth, hdmax, hsoj, hsmax, s.qsLatch_flds⟩, s.qsLatch_frame⟩
  · obtain ⟨hdepth, hdmax, hsoj, hsmax⟩ := s.qsLatch_vals
    refine ⟨_, exec_qsReadClear hmay, ⟨?_, ?_, ?_, ?_, s.qsLatch_flds.of_regs rfl⟩, State.qsOf_setQs_same _ _ _,
      fun j hj => (State.qsOf_setQs_other _ _ hj).trans (s.qsOf_qsLatch j), (s.qsLatch_frame.mono (by simp)).sht _ (by simp)⟩
    all_goals rw [State.fld_setQs]
    all_goals assumption

end Sys2Proof.Proofs
end

section
/-! Proofs about Shroud's window and its key commands: how a command runs and ends, the data registers, the mirror message of a key change. -/

namespace Sys2Proof.Safety

open Sys2Proof.Machine

theorem FrameBut.mate {l : List Part} {s t : State} (h : FrameBut l s t) (x : MateSt) (hl : .mate ∈ l) : FrameBut l s { t with mate := x } := fun p hp => by
  have := h p hp
  cases p <;> simp_all [Part.Same]

theorem FldsBut.shrEnd {l : List Fld} {s t : State} (h : FldsBut l s t) (r : Nat) (hl : F.shrCmd_result ∈ l) : FldsBut l s (t.shrEnd r) :=
  h.setFld r hl (by decide)

theorem FrameBut.shrEnd {l : List Part} {s t : State} (h : FrameBut l s t) (r : Nat) (hl : .regs ∈ l) : FrameBut l s (t.shrEnd r) := h.setFld _ r hl

end Sys2Proof.Safety

namespace Sys2Proof.Machine

open Sys2Proof.Safety

/-! ### How a command of the window runs and ends (R240, R251) -/

/-- The state in which a command of the window runs: its master is noted. -/
def State.issued (s : State) (m : Master) : State := { s with shr := { s.shr with issuer := some m.toNat } }

theorem State.issued_frame (s : State) (m : Master) : FrameBut [.shr] s (s.issued m) := (FrameBut.refl _ s).shr _ (by simp)

theorem State.shrRun_open {s : State} {m : Master} (h : ShrOpen s m) (f : State → State) : s.shrRun m f = .next (f (s.issued m)) := if_pos h

section

variable (m : Master) (s : State)

theorem exec_mskLoad : exec (.mskLoad m) s = execMskLoad s m := rfl
theorem exec_keyLoad (e : Ecc) : exec (.keyLoad m e) s = execKeyLoad s m e := rfl
theorem exec_keyClear : exec (.keyClear m) s = execKeyClear s m := rfl
theorem exec_groupGen : exec (.groupGen m) s = execGroupGen s m := rfl
theorem exec_groupExport (e : Ecc) : exec (.groupExport m e) s = execGroupExport s m e := rfl
theorem exec_groupActivate : exec (.groupActivate m) s = execGroupActivate s m := rfl
theorem exec_caKekLoad : exec (.caKekLoad m) s = execCaKekLoad s m := rfl
theorem exec_saInstall : exec (.saInstall m) s = execSaInstall s m := rfl
theorem exec_saExport (e : Ecc) : exec (.saExport m e) s = execSaExport s m e := rfl
theorem exec_saDelete : exec (.saDelete m) s = execSaDelete s m := rfl
theorem exec_setTxAn : exec (.setTxAn m) s = execSetTxAn s m := rfl
theorem exec_saveClear (e : Ecc) : exec (.saveClear m e) s = execSaveClear s m e := rfl
theorem exec_saveWrapped (e : Ecc) : exec (.saveWrapped m e) s = execSaveWrapped s m e := rfl
theorem exec_restore : exec (.restore m) s = execRestore s m := rfl
theorem exec_pnRead (e : Ecc) : exec (.pnRead m e) s = execPnRead s m e := rfl

end

theorem State.shrEnd_result (s : State) {r : Nat} (h : r < 16) : (s.shrEnd r).fld F.shrCmd_result = r :=
  (State.fld_setFld_same _ _ _ (by decide)).trans (Nat.mod_eq_of_lt h)

@[simp] theorem State.shrEnd_shr (s : State) (r : Nat) : (s.shrEnd r).shr = s.shr := s.setFld_shr _ _
@[simp] theorem State.shrEnd_mem (s : State) (r : Nat) : (s.shrEnd r).mem = s.mem := s.setFld_mem _ _
@[simp] theorem State.shrEnd_evq (s : State) (r : Nat) : (s.shrEnd r).evq = s.evq := s.setFld_evq _ _
@[simp] theorem State.shrEnd_mate (s : State) (r : Nat) : (s.shrEnd r).mate = s.mate := s.setFld_mate _ _
@[simp] theorem State.shrEnd_out (s : State) (r : Nat) : (s.shrEnd r).out = s.out := s.setFld_out _ _

theorem shrEnds_of_run {x : Instr} {m : Master} {s : State} {r : Nat} {f : State → State} (hx : exec x s = s.shrRun m f) (h : ShrOpen s m)
    (hf : f (s.issued m) = (s.issued m).shrEnd r) (hr : r < 16) : ShrEnds x m s r :=
  ⟨_, (hx.trans (State.shrRun_open h f)).trans (congrArg _ hf), State.shrEnd_result _ hr, State.shrEnd_shr _ _, FldsBut.shrEnd (FldsBut.refl _ s |>.shr _) r (by simp),
    (((s.issued_frame m).mono (by simp)).shrEnd r (by simp))⟩


/-- A command that a master may not give, or whose domain is held, changes nothing. -/
theorem exec_shrWindow_refused {m : Master} {s : State} (h : mayWrite m = false ∨ s.released 5 = false) (e : Ecc) (w : Word) {c : Instr}
    (hc : c ∈ [Instr.rootLoad m w, .mskLoad m, .keyLoad m e, .keyClear m, .groupGen m, .groupExport m e, .groupActivate m, .caKekLoad m, .saInstall m,
      .saExport m e, .saDelete m, .setTxAn m, .saveClear m e, .saveWrapped m e, .restore m, .pnRead m e]) : exec c s = .next s := by
  have hno : ¬ (mayWrite m = true ∧ s.released 5 = true) := by
    rintro ⟨hmay, hrel⟩
    simp [hmay, hrel] at h
  simp only [List.mem_cons, List.not_mem_nil, or_false] at hc
  rcases hc with rfl | rfl | rfl | rfl | rfl | rfl | rfl | rfl | rfl | rfl | rfl | rfl | rfl | rfl | rfl | rfl
  · exact if_neg fun hgo => hno ⟨hgo.1, hgo.2.1⟩
  all_goals exact if_neg hno

/-! ### Byte strings -/

theorem beBytes_succ (n v : Nat) : beBytes (n + 1) v = beBytes n (v / 256) ++ [v % 256] := List.reverse_cons

theorem beBytes_length (n v : Nat) : (beBytes n v).length = n := by
  induction n generalizing v with
  | zero => rfl
  | succ n ih => rw [beBytes_succ, List.length_append, ih, List.length_singleton]

theorem beBytes_lt {n v b : Nat} (h : b ∈ beBytes n v) : b < 256 := by
  induction n generalizing v with
  | zero => exact absurd h List.not_mem_nil
  | succ n ih =>
    rw [beBytes_succ] at h
    rcases List.mem_append.mp h with h | h
    · exact ih h
    · rw [List.mem_singleton.mp h]
      exact Nat.mod_lt _ (by decide)

theorem beNat_concat (l : List Nat) (b : Nat) : beNat (l ++ [b]) = beNat l * 256 + b % 256 := List.foldl_concat ..

theorem beNat_lt (l : List Nat) : beNat l < 256 ^ l.length := by
  induction l using List.reverseRecOn with
  | nil => decide
  | append_singleton l b ih =>
    have hb : b % 256 < 256 := Nat.mod_lt _ (by decide)
    rw [beNat_concat, List.length_append, List.length_singleton, Nat.pow_succ]
    omega

/-- The first four bytes of a string spell a word. -/
theorem beNat_take_four_lt (l : List Nat) : beNat (l.take 4) < 2 ^ 32 :=
  lt_of_lt_of_le (beNat_lt _) (Nat.pow_le_pow_right (by decide) (List.length_take_le 4 l))

theorem fitBytes_length (n : Nat) (l : List Nat) : (fitBytes n l).length = n := by
  simp [fitBytes]

theorem fitBytes_lt {n b : Nat} {l : List Nat} (h : b ∈ fitBytes n l) : b < 256 := by
  obtain ⟨a, -, rfl⟩ := List.mem_map.mp h
  exact Nat.mod_lt _ (by decide)

/-! ### The data registers (R249) -/

theorem shrData_fits (i : Nat) : (F.shrData i).lo + (F.shrData i).width ≤ 32 := le_refl 32

theorem shrData_addr_ne (i j : Nat) (h : i ≠ j) : (F.shrData i).addr ≠ (F.shrData j).addr := by
  show 0x700140 + 0x4 * i ≠ 0x700140 + 0x4 * j
  omega

/-- Word i of the data registers for the bytes of a list. -/
def dataWord (l : List Nat) (i : Nat) : Nat := beNat (fitBytes 4 (l.drop (4 * i))).reverse

theorem dataWord_eq (l : List Nat) (i : Nat) :
    dataWord l i = l.getD (4 * i) 0 % 256 + l.getD (4 * i + 1) 0 % 256 * 256 + l.getD (4 * i + 2) 0 % 256 * 256 ^ 2 + l.getD (4 * i + 3) 0 % 256 * 256 ^ 3 := by
  have hd (k : Nat) : l.getD (4 * i + k) 0 = (l.drop (4 * i)).getD k 0 := by simp [List.getD_eq_getElem?_getD]
  have h0 := hd 0
  rw [Nat.add_zero] at h0
  rw [dataWord, h0, hd, hd, hd]
  rcases l.drop (4 * i) with _ | ⟨a, _ | ⟨b, _ | ⟨c, _ | ⟨d, r⟩⟩⟩⟩ <;> simp [fitBytes, beNat] <;> omega

/-- A byte of a data word. -/
theorem dataWord_byte {l : List Nat} {i : Nat} : dataWord l (i / 4) / 2 ^ (8 * (i % 4)) % 256 = l.getD i 0 % 256 := by
  rw [dataWord_eq]
  have hi : i = 4 * (i / 4) + i % 4 := (Nat.div_add_mod i 4).symm
  have hk : i % 4 < 4 := Nat.mod_lt _ (by decide)
  generalize i / 4 = q at *
  generalize i % 4 = k at *
  subst hi
  interval_cases k <;> norm_num <;> omega

theorem dataWord_lt (l : List Nat) (i : Nat) : dataWord l i < 2 ^ 32 := by
  have := beNat_lt (fitBytes 4 (l.drop (4 * i))).reverse
  rwa [List.length_reverse, fitBytes_length] at this

theorem State.shrPut_eq (s : State) (l : List Nat) :
    s.shrPut l = s.setWords F.shrData ((List.range (cdiv l.length 4)).map (dataWord l)) (List.range (cdiv l.length 4)) := by
  unfold State.shrPut State.setWords
  refine List.foldl_ext _ _ _ fun t i hi => ?_
  have hi := List.mem_range.mp hi
  simp [wordOf, hi, dataWord]

theorem State.shrPut_frame (s : State) (l : List Nat) : FrameBut [.regs] s (s.shrPut l) := by
  rw [State.shrPut_eq]
  exact State.setWords_frame _ _ _ _

theorem State.shrPut_flds {k : List Fld} {s t : State} (h : FldsBut k s t) (l : List Nat) (hl : (List.range (cdiv l.length 4)).map F.shrData ⊆ k) :
    FldsBut k s (t.shrPut l) := by
  rw [State.shrPut_eq]
  exact State.setWords_flds shrData_fits h _ hl

theorem State.fld_shrPut (s : State) (l : List Nat) {i : Nat} (hi : i < cdiv l.length 4) : (s.shrPut l).fld (F.shrData i) = dataWord l i := by
  rw [State.shrPut_eq, State.fld_setWords shrData_fits shrData_addr_ne (List.mem_range.mpr hi)]
  simp only [wordOf, List.getD_eq_getElem?_getD, List.getElem?_map, List.getElem?_range hi, Option.map_some, Option.getD_some]
  exact Nat.mod_eq_of_lt (dataWord_lt l i)

/-- The data registers read back the bytes put into them. -/
theorem State.shrBytes_shrPut (s : State) {l : List Nat} (h : ∀ b ∈ l, b < 256) : (s.shrPut l).shrBytes 0 l.length = l := by
  refine List.ext_getElem (by simp [State.shrBytes]) fun i hi hl => ?_
  have hq : i / 4 < cdiv l.length 4 := by
    unfold cdiv
    omega
  simp only [State.shrBytes, List.getElem_map, List.getElem_range, Nat.zero_add, State.fld_shrPut s l hq, dataWord_byte]
  rw [List.getD_eq_getElem _ _ hl, Nat.mod_eq_of_lt (h _ (List.getElem_mem hl))]

/-- The bytes of the data registers stand while no data register is written. -/
theorem State.shrBytes_of_flds {k : List Fld} {s t : State} (h : FldsBut k s t) (hk : ∀ f ∈ k, f.addr < 0x700140 ∨ 0x7001C0 ≤ f.addr) {lo n : Nat}
    (hn : lo + n ≤ 128) : t.shrBytes lo n = s.shrBytes lo n := by
  refine List.map_congr_left fun i hi => ?_
  have hi := List.mem_range.mp hi
  rw [h (F.shrData ((lo + i) / 4)) fun f hf => .inl ?_]
  have := hk f hf
  show 0x700140 + 0x4 * ((lo + i) / 4) ≠ f.addr
  omega

theorem State.shrBytes_lt (s : State) {lo n b : Nat} (h : b ∈ s.shrBytes lo n) : b < 256 := by
  obtain ⟨i, -, rfl⟩ := List.mem_map.mp h
  exact Nat.mod_lt _ (by decide)

theorem State.shrBytes_length (s : State) (lo n : Nat) : (s.shrBytes lo n).length = n := by
  simp [State.shrBytes]

/-- A command that answers in the data registers and completes. -/
def State.answered (s : State) (l : List Nat) : State := (s.shrPut l).shrEnd 0

theorem State.answered_spec (s : State) {l : List Nat} (hlt : ∀ b ∈ l, b < 256) (hlen : l.length ≤ 128) :
    let t := s.answered l
    t.fld F.shrCmd_result = 0 ∧ t.shrBytes 0 l.length = l ∧ t.shr = s.shr ∧
      FldsBut (F.shrCmd_result :: (List.range (cdiv l.length 4)).map F.shrData) s t ∧ FrameBut [.regs] s t := by
  have hput := s.shrPut_frame l
  refine ⟨State.shrEnd_result _ (by decide), ?_, (State.shrEnd_shr _ _).trans (hput .shr (by decide)), ?_, hput.shrEnd 0 (by simp)⟩
  · rw [State.answered, State.shrBytes_of_flds ((FldsBut.refl [F.shrCmd_result] _).shrEnd 0 (by simp)) (by simp [F.shrCmd_result]) (by omega)]
    exact State.shrBytes_shrPut s hlt
  · exact (State.shrPut_flds (.refl _ s) l (List.subset_cons_self _ _)).shrEnd 0 (by simp)

/-- A command of the window that answers with the bytes of l. -/
theorem exec_answers {x : Instr} {m : Master} {s : State} {l : List Nat} {n : Nat} (hx : exec x s = .next ((s.issued m).answered l)) (hlt : ∀ b ∈ l, b < 256)
    (hlen : l.length = n) (hn : n ≤ 128) :
    ∃ t, exec x s = .next t ∧ t.fld F.shrCmd_result = 0 ∧ t.shrBytes 0 n = l ∧ t.shr = { s.shr with issuer := some m.toNat } ∧
      FldsBut (F.shrCmd_result :: (List.range (cdiv n 4)).map F.shrData) s t ∧ FrameBut [.regs, .shr] s t := by
  subst hlen
  obtain ⟨hresult, hbytes, hshr, hflds, hframe⟩ := (s.issued m).answered_spec hlt hn
  exact ⟨_, hx, hresult, hbytes, hshr, hflds, ((s.issued_frame m).mono (by simp)).trans (hframe.mono (by simp))⟩

end Sys2Proof.Machine
end

section
/-! Proofs about Shroud's keys: the lanes' caches, the key records and their poison, the mirror message of a key change, and the key commands. -/

namespace Sys2Proof.Machine

open Sys2Proof.Safety

/-! ### The lanes' key caches (R243) -/

/-- The key is in no lane's cache. -/
def Uncached (key : Nat) (t : State) : Prop := ∀ p, key ∉ Tbl.find t.shr.cache p []

/-- A table of lists without an element: no entry holds it, and entries left empty are gone. -/
theorem not_mem_find_filtered (c : Table (List Nat)) (key p : Nat) :
    key ∉ Tbl.find ((c.map (fun x => (x.1, x.2.filter (· ≠ key)))).filter (fun x => decide (x.2 ≠ []))) p [] := by
  induction c with
  | nil => exact List.not_mem_nil
  | cons x c ih =>
    rw [List.map_cons, List.filter_cons]
    split
    · rw [Tbl.find]
      split
      · simp
      · exact ih
    · exact ih

theorem State.uncached_dropKey (s : State) (key : Nat) : Uncached key (s.dropKey key) := not_mem_find_filtered s.shr.cache key

theorem Uncached.of_shr {key : Nat} {s t : State} (h : Uncached key s) (e : t.shr = s.shr) : Uncached key t := by
  unfold Uncached
  rw [e]
  exact h

/-! ### Records of Shroud's stores (R242, R254, R318) -/

theorem State.readStore_clean {s : State} {st ix : Nat} (h : RecClean s (storeMem st) (16 + st) ix) : s.readStore st ix .clean = (s, false) := by
  simp only [State.readStore, State.readRec_clean h, Bool.false_eq_true, if_false]

/-- With no flip armed a write of a code word clears its poison and its flip, and nothing else. -/
theorem State.noteWrite_unarmed {s : State} (h : s.flag F.memFlipCtrl_armed = false) (mem ix : Nat) :
    s.noteWrite mem ix = (s.setPoison mem ix false).setFlip mem ix 0 := by
  refine if_neg ?_
  rintro ⟨harmed, -⟩
  exact absurd (h.symm.trans harmed) (by decide)

/-- The ONU key record n written anew without keys, while no flip is armed. -/
def State.keysCleared (s : State) (n : Nat) : State :=
  ((s.setPoison 0x10 (Config.wordIx 0x10 19 n) false).setFlip 0x10 (Config.wordIx 0x10 19 n) 0).setKeys n noKeys

/-- A poisoned ONU key record is cleared and posted. -/
theorem State.readStore_onu_poisoned {s : State} {n : Nat} (hp : s.poisoned 0x10 (Config.wordIx 0x10 19 n) = true) (harm : s.flag F.memFlipCtrl_armed = false)
    (e : Ecc) : s.readStore stOnu n e = ((s.keysCleared n).post 0x0806 [3, n], true) := by
  have hread : s.readRec (storeMem stOnu) (16 + stOnu) n e = (s, true) := if_pos hp
  have hclean : s.cleanRec (storeMem stOnu) (16 + stOnu) n = _ := State.noteWrite_unarmed harm 0x10 (Config.wordIx 0x10 19 n)
  simp only [State.readStore, hread, hclean, if_true]
  rfl

theorem State.keysCleared_frame (s : State) (n : Nat) : FrameBut [.mem, .shr] s (s.keysCleared n) :=
  (((FrameBut.refl _ s).mem _ (by simp)).mem _ (by simp)).shr _ (by simp)

theorem State.keysOf_setKeys (s : State) (n : Nat) (k : OnuKeys) (j : Nat) : (s.setKeys n k).keysOf j = if j = n then k else s.keysOf j := Tbl.find_put _ _ _ _ _

theorem State.keysOf_of_shr {s t : State} (h : t.shr = s.shr) (j : Nat) : t.keysOf j = s.keysOf j := by rw [State.keysOf, h, State.keysOf]

theorem State.keysOf_keysCleared (s : State) (n j : Nat) : (s.keysCleared n).keysOf j = if j = n then noKeys else s.keysOf j := State.keysOf_setKeys _ _ _ _

theorem State.poisoned_keysCleared (s : State) (n : Nat) : (s.keysCleared n).poisoned 0x10 (Config.wordIx 0x10 19 n) = false := by
  simp only [State.poisoned, State.keysCleared, State.setKeys, State.setFlip, State.setPoison, Tbl.find_put_same]

theorem State.poisoned_of_poison {s t : State} (h : t.mem.poison = s.mem.poison) (mem ix : Nat) : t.poisoned mem ix = s.poisoned mem ix := by
  rw [State.poisoned, h, State.poisoned]

theorem State.jnlEvent_poison (s : State) (c : Nat) (d : List Nat) : (s.jnlEvent c d).mem.poison = s.mem.poison := by
  unfold State.jnlEvent
  split
  · rfl
  · split
    · rfl
    · dsimp only
      split <;> simp

theorem State.post_poison (s : State) (c : Nat) (d : List Nat) : (s.post c d).mem.poison = s.mem.poison := by
  rw [State.post, State.jnlEvent_poison, State.postRaw_mem]

/-- The event queue after a post reads the time, the fields and the queue before it. -/
theorem State.postRaw_evq_congr {s t : State} (hq : t.evq = s.evq) (ht : t.tim = s.tim) (hf : ∀ f, t.fld f = s.fld f) (c : Nat) (d : List Nat) :
    (t.postRaw c d).evq = (s.postRaw c d).evq := by
  have hrec : t.eventRec c d = s.eventRec c d := by simp only [State.eventRec, hq, ht, hf]
  have hput (e : EventRec) : (t.enqueueEvent e).evq = (s.enqueueEvent e).evq := by
    unfold State.enqueueEvent State.flag
    rw [hf, hq]
    split
    · rfl
    · split
      · rfl
      · simp
  simp only [State.postRaw, State.count_evq, hrec, hput]

theorem State.postRaw_evq_withMem (s : State) (x : MemSt) (c : Nat) (d : List Nat) : ({ s with mem := x }.postRaw c d).evq = (s.postRaw c d).evq :=
  State.postRaw_evq_congr (s := s) (t := { s with mem := x }) rfl rfl (fun _ => rfl) c d

/-- Journalling an event posts JNL_DROP when the ordinary queue is full and that is not yet told (R333). -/
theorem State.jnlEvent_evq (s : State) (c : Nat) (d : List Nat) :
    (s.jnlEvent c d).evq = if s.fld F.memJnlMask_mask / 2 ^ jnlMaskBit c % 2 = 0 ∨ s.mem.jnlO.length < 512 ∨ s.mem.jnlDropSaid = true then s.evq
      else ((s.count Cn.jnlDrop 0).postRaw 0x060A []).evq := by
  unfold State.jnlEvent
  by_cases hmask : s.fld F.memJnlMask_mask / 2 ^ jnlMaskBit c % 2 = 0
  · rw [if_pos hmask, if_pos (.inl hmask)]
  · rw [if_neg hmask]
    by_cases hroom : s.mem.jnlO.length < 512
    · rw [if_pos hroom, if_pos (.inr (.inl hroom))]
    · rw [if_neg hroom]
      dsimp only
      rw [State.count_mem]
      by_cases hsaid : s.mem.jnlDropSaid = true
      · rw [if_pos hsaid, if_pos (.inr (.inr hsaid)), State.count_evq]
      · rw [if_neg hsaid, if_neg (by simp [hmask, hroom, hsaid]), State.postRaw_evq_withMem]

/-- Of the memories a post reads the ordinary queue of the journal only. -/
theorem State.post_evq_congr {s t : State} (hq : t.evq = s.evq) (ht : t.tim = s.tim) (hf : ∀ f, t.fld f = s.fld f) (ho : t.mem.jnlO = s.mem.jnlO)
    (hsaid : t.mem.jnlDropSaid = s.mem.jnlDropSaid) (c : Nat) (d : List Nat) : (t.post c d).evq = (s.post c d).evq := by
  have hraw := State.postRaw_evq_congr hq ht hf c d
  have hdrop : (((t.postRaw c d).count Cn.jnlDrop 0).postRaw 0x060A []).evq = (((s.postRaw c d).count Cn.jnlDrop 0).postRaw 0x060A []).evq :=
    State.postRaw_evq_congr (by simp [hraw]) (by simp [ht]) (fun f => by simp [hf]) _ _
  rw [State.post, State.post, State.jnlEvent_evq, State.jnlEvent_evq, State.postRaw_fld_at, State.postRaw_fld_at, State.postRaw_mem, State.postRaw_mem, hf, ho,
    hsaid, hraw, hdrop]

/-! ### The mirror message of a key change (R306) -/

/-- A changed key is mirrored: the part mirrors, the link is up and there is a root. -/
def State.MirrorsKeys (s : State) : Prop := s.mirroring = true ∧ s.linkUp = true ∧ s.shr.root ≠ none

/-- The state after a Stay message is sent with the next sequence number, before it is counted (R292). -/
def State.sentStay (s : State) (typ : Nat) (blocks : List Nat) : State :=
  ({ s with mate := { s.mate with seqTx := (s.mate.seqTx + 1) % 2 ^ 32 } }).emit (.stay typ s.mate.seqTx blocks)

theorem State.mirror_on {s : State} (hm : s.mirroring = true) (hl : s.linkUp = true) (typ : Nat) (blocks : List Nat) :
    s.mirror typ blocks = ((s.sentStay typ blocks).count Cn.slMsgTx 0).count Cn.mateMsgTx typ := by
  have hsend : s.sendStay typ blocks = (s.sentStay typ blocks).count Cn.slMsgTx 0 := if_pos hl
  rw [State.mirror, hm, hl, ← hsend]
  rfl

theorem State.mirrorKeys_off {s : State} (h : ¬ s.MirrorsKeys) (kind ix : Nat) : s.mirrorKeys kind ix = s := by
  refine if_neg fun hon => h ?_
  simpa [State.MirrorsKeys, Option.isSome_iff_ne_none, and_assoc] using hon

theorem State.mirrorKeys_on {s : State} (h : s.MirrorsKeys) (kind ix : Nat) :
    s.mirrorKeys kind ix = s.tickFree.mirror 0x12 (blobBlocks (s.wrapBlob kind 1 ix (s.mirrorBody kind ix)).2.1) := by
  refine if_pos ?_
  simpa [State.MirrorsKeys, Option.isSome_iff_ne_none, and_assoc] using h

theorem blobBlocks_length (b : List Nat) : (blobBlocks b).length = 16 := by
  simp [blobBlocks]

/-- The one KEYS message that mirroring a key sends; Shroud and the registers stand. -/
theorem State.mirrorKeys_sends {s : State} (h : s.MirrorsKeys) (kind ix : Nat) :
    let t := s.mirrorKeys kind ix
    (∃ b, b.length = 16 ∧ t.out = s.out ++ [.stay 0x12 s.mate.seqTx b]) ∧ t.mate = { s.mate with seqTx := (s.mate.seqTx + 1) % 2 ^ 32 } ∧
      FrameBut [.freeIx, .cnt, .mate, .out] s t := by
  rw [State.mirrorKeys_on h, State.mirror_on (s := s.tickFree) h.1 h.2.1]
  refine ⟨⟨_, blobBlocks_length (s.wrapBlob kind 1 ix (s.mirrorBody kind ix)).2.1, ?_⟩, ?_, ?_⟩
  · rw [State.count_out, State.count_out]
    rfl
  · rw [State.count_mate, State.count_mate]
    rfl
  · exact (((((FrameBut.refl _ s).freeIx _ (by simp)).mate _ (by simp)).emit _ (by simp)).count _ _ (by simp)).count _ _ (by simp)

theorem State.mirrorKeys_frame (s : State) (kind ix : Nat) : FrameBut [.freeIx, .cnt, .mate, .out] s (s.mirrorKeys kind ix) := by
  by_cases h : s.MirrorsKeys
  · exact (State.mirrorKeys_sends h kind ix).2.2
  · rw [State.mirrorKeys_off h]
    exact .refl _ s

/-- Whether keys are mirrored is read from the registers, the rigging, the mate and the root. -/
theorem State.mirrorsKeys_congr {s u : State} (h : FrameBut [.shr] s u) (hroot : u.shr.root = s.shr.root) : u.MirrorsKeys ↔ s.MirrorsKeys := by
  have hfld (f : Fld) : u.fld f = s.fld f := by rw [State.fld_regs, h .regs (by decide), State.fld_regs]
  have hmirroring : u.mirroring = s.mirroring := by rw [State.mirroring, h .rig (by decide), h .mate (by decide), hfld, State.mirroring]
  have hlink : u.linkUp = s.linkUp := by rw [State.linkUp, State.flag, hfld, State.linkUp, State.flag]
  rw [State.MirrorsKeys, hmirroring, hlink, hroot, State.MirrorsKeys]

/-- A command that ends after mirroring a key: u is the state that it mirrors, in which Shroud is h but for its caches. -/
theorem shrDone_of_mirrorKeys {x : Instr} {m : Master} {s u : State} {h : ShrSt} {kind ix : Nat} {P : State → Prop}
    (hx : exec x s = .next ((u.mirrorKeys kind ix).shrEnd 0)) (hu : FrameBut [.shr] s u) (hshr : u.shr = { h with issuer := some m.toNat, cache := u.shr.cache })
    (hroot : u.shr.root = s.shr.root) (hP : ∀ t : State, t.shr = u.shr → P t) : ShrDone x m s h P := by
  have hframe := u.mirrorKeys_frame kind ix
  have hcongr := State.mirrorsKeys_congr hu hroot
  have hend : ((u.mirrorKeys kind ix).shrEnd 0).shr = u.shr := (State.shrEnd_shr _ _).trans (hframe .shr (by decide))
  refine ⟨_, hx, State.shrEnd_result _ (by decide), ?_, hP _ hend, ?_, fun hoff => ?_, fun hm hl hr => ?_⟩
  · rw [hend]
    exact hshr
  · exact (((FldsBut.refl _ s).of_frame hu (by decide)).of_frame hframe (by decide)).shrEnd 0 (by simp)
  · have hno : ¬ u.MirrorsKeys := by
      rw [hcongr]
      rintro ⟨hm, hl, hr⟩
      simp [hm, hl, hr] at hoff
    rw [State.mirrorKeys_off hno]
    exact (hu.mono (by simp)).shrEnd 0 (by simp)
  · obtain ⟨⟨b, hb, hout⟩, hmate, -⟩ := State.mirrorKeys_sends (hcongr.mpr ⟨hm, hl, hr⟩) kind ix
    rw [hu .out (by decide), hu .mate (by decide)] at hout
    rw [hu .mate (by decide)] at hmate
    exact ⟨⟨b, hb, (State.shrEnd_out _ _).trans hout⟩, (State.shrEnd_mate _ _).trans hmate, ((hu.mono (by simp)).trans (hframe.mono (by simp))).shrEnd 0 (by simp)⟩

/-- A command that changes a key: u is the state with the key changed. -/
theorem shrDone_of_keyChanged {x : Instr} {m : Master} {s u : State} {h : ShrSt} {kind ix : Nat}
    (hx : exec x s = .next (u.keyChanged kind ix)) (hu : u = { s with shr := { h with issuer := some m.toNat } }) (hroot : h.root = s.shr.root) :
    ShrDone x m s h (Uncached (keyName kind ix)) := by
  subst hu
  refine shrDone_of_mirrorKeys hx ?_ rfl hroot fun t ht => (State.uncached_dropKey _ _).of_shr ht
  exact ((FrameBut.refl _ s).shr _ (by simp)).shr _ (by simp)

end Sys2Proof.Machine
end

section
/-! Proofs about Shroud's keys: the root, and the commands of key records and group keys. -/

namespace Sys2Proof.Machine

open Sys2Proof.Safety

/-- The state with KEK kek in CA key record n. -/
def State.withKek (s : State) (n : Nat) (kek : List Nat) : State := { s with shr := { s.shr with ca := Tbl.put s.shr.ca n none (some kek) } }

theorem State.find_withKek (s : State) (n : Nat) (kek : List Nat) (j : Nat) :
    Tbl.find (s.withKek n kek).shr.ca j none = if j = n then some kek else Tbl.find s.shr.ca j none := by
  simp only [State.withKek, Tbl.find_put]

/-! ### The root key (R240, R241) -/

/-- The root that the eight registers hold, first byte first. -/
def State.rootKey (s : State) : List Nat := (List.range 8).foldl (fun l i => l ++ beBytes 4 (s.fld (F.shrRoot i))) []

theorem State.rootKey_bytes (s : State) :
    s.rootKey.length = 32 ∧ ∀ i, i < 8 → (s.rootKey.drop (4 * i)).take 4 = beBytes 4 (s.fld (F.shrRoot i)) := by
  have h (v : Nat) : beBytes 4 v = [v / 256 / 256 / 256 % 256, v / 256 / 256 % 256, v / 256 % 256, v % 256] := rfl
  refine ⟨by simp [State.rootKey, List.range_succ, h], fun i hi => ?_⟩
  interval_cases i <;> simp [State.rootKey, List.range_succ, h]

/-- The check value of a root (R240). -/
def rootCheck (root : List Nat) : Nat := beNat ((kdf root 5 [] 16).take 4)

/-- The state with root k. -/
def State.withRoot (s : State) (k : List Nat) : State := { s with shr := { s.shr with root := some k } }

theorem State.withRoot_shr (s : State) (k : List Nat) : (s.withRoot k).shr = { s.shr with root := some k } := rfl

/-- The state with the last word of the root written and the root valid, before the event. -/
def State.rootLoaded (s : State) (w : Nat) : State :=
  let u := s.setFld (F.shrRoot 7) w
  (((u.withRoot u.rootKey).setFld F.shrSts_root_valid 1).setFld F.shrKcv_kcv (rootCheck u.rootKey)).setFld F.shrWrapCnt_count 0

theorem exec_rootLoad {m : Master} {s : State} (h : ShrOpen s m) (hroot : s.shr.root = none) (w : Word) :
    exec (.rootLoad m w) s = .next ((s.rootLoaded w.toNat).post 0x0801 [rootCheck (s.setFld (F.shrRoot 7) w.toNat).rootKey]) := if_pos ⟨h.1, h.2, hroot⟩

theorem exec_rootLoad_again {m : Master} {s : State} (hroot : s.shr.root ≠ none) (w : Word) : exec (.rootLoad m w) s = .next s :=
  if_neg fun h => hroot h.2.2

/-- The registers of the root hold what was written before, and the word written last. -/
theorem State.rootKey_written (s : State) (w : Word) :
    let k := (s.setFld (F.shrRoot 7) w.toNat).rootKey
    k.length = 32 ∧ (∀ i, i < 7 → (k.drop (4 * i)).take 4 = beBytes 4 (s.fld (F.shrRoot i))) ∧ k.drop 28 = beBytes 4 w.toNat := by
  obtain ⟨hlen, hbytes⟩ := (s.setFld (F.shrRoot 7) w.toNat).rootKey_bytes
  refine ⟨hlen, fun i hi => ?_, ?_⟩
  · have hne : (F.shrRoot i).addr ≠ (F.shrRoot 7).addr := by
      show 0x700010 + 0x4 * i ≠ 0x70002C
      omega
    rw [hbytes i (by omega), State.fld_setFld_other _ _ (by decide) (.inl hne)]
  · have h := hbytes 7 (by decide)
    have hw : w.toNat % 2 ^ (F.shrRoot 7).width = w.toNat := Nat.mod_eq_of_lt w.isLt
    rw [State.fld_setFld_same _ _ _ (by decide), hw] at h
    rwa [List.take_of_length_le (by simp [hlen])] at h

theorem State.rootLoaded_flds (s : State) (w : Nat) : FldsBut [F.shrRoot 7, F.shrSts_root_valid, F.shrKcv_kcv, F.shrWrapCnt_count] s (s.rootLoaded w) :=
  (((((FldsBut.refl _ s).setFld _ (by simp) (by decide)).shr _).setFld _ (by simp) (by decide)).setFld _ (by simp) (by decide)).setFld _ (by simp) (by decide)

theorem State.rootLoaded_frame (s : State) (w : Nat) : FrameBut [.regs, .shr] s (s.rootLoaded w) :=
  (((((FrameBut.refl _ s).setFld _ _ (by simp)).shr _ (by simp)).setFld _ _ (by simp)).setFld _ _ (by simp)).setFld _ _ (by simp)

theorem State.rootLoaded_postSame (s : State) (w : Nat) : PostSame s (s.rootLoaded w) :=
  (((((PostSame.refl s).setFld _ _ (by decide) (by decide) (by decide) (by decide)).shr _).setFld _ _ (by decide) (by decide) (by decide) (by decide)).setFld _ _
    (by decide) (by decide) (by decide) (by decide)).setFld _ _ (by decide) (by decide) (by decide) (by decide)

theorem State.rootLoaded_shr (s : State) (w : Nat) :
    (s.rootLoaded w).shr = { s.shr with root := some (s.setFld (F.shrRoot 7) w).rootKey } := by
  unfold State.rootLoaded
  dsimp only
  rw [State.setFld_shr, State.setFld_shr, State.setFld_shr, State.withRoot_shr, State.setFld_shr]

theorem State.rootLoaded_fld (s : State) (w : Nat) :
    (s.rootLoaded w).flag F.shrSts_root_valid = true ∧ (s.rootLoaded w).fld F.shrKcv_kcv = rootCheck (s.setFld (F.shrRoot 7) w).rootKey ∧
      (s.rootLoaded w).fld F.shrWrapCnt_count = 0 := by
  unfold State.rootLoaded
  dsimp only
  refine ⟨?_, ?_, (State.fld_setFld_same _ _ _ (by decide)).trans (Nat.zero_mod _)⟩
  · rw [State.flag_setFld_other _ _ (by decide) (by decide), State.flag_setFld_other _ _ (by decide) (by decide), State.flag_setFld_same _ _ _ (by decide)]
    decide
  · rw [State.fld_setFld_other _ _ (by decide) (by decide), State.fld_setFld_same _ _ _ (by decide)]
    exact Nat.mod_eq_of_lt (beNat_take_four_lt _)

theorem exec_rootLoad_spec {m : Master} {s : State} (h : ShrOpen s m) (hroot : s.shr.root = none) (w : Word) :
    ∃ t k, exec (.rootLoad m w) s = .next t ∧ t.shr = { s.shr with root := some k } ∧ k.length = 32 ∧
      (∀ i, i < 7 → (k.drop (4 * i)).take 4 = beBytes 4 (s.fld (F.shrRoot i))) ∧ k.drop 28 = beBytes 4 w.toNat ∧ t.flag F.shrSts_root_valid = true ∧
      t.fld F.shrKcv_kcv = rootCheck k ∧ t.fld F.shrWrapCnt_count = 0 ∧ Posted s t 0x0801 [t.fld F.shrKcv_kcv] ∧
      FldsBut [F.shrRoot 7, F.shrSts_root_valid, F.shrKcv_kcv, F.shrWrapCnt_count] s t ∧ FrameBut [.regs, .shr, .cnt, .evq, .mem] s t := by
  obtain ⟨hlen, hbytes, hlast⟩ := s.rootKey_written w
  obtain ⟨hvalid, hkcv, hcount⟩ := s.rootLoaded_fld w.toNat
  refine ⟨_, _, exec_rootLoad h hroot w, (State.post_shr _ _ _).trans (s.rootLoaded_shr _), hlen, hbytes, hlast, ?_, ?_, ?_, ?_, (s.rootLoaded_flds _).post_ _ _,
    ((s.rootLoaded_frame _).mono (by simp)).post _ _ (by simp)⟩
  · rwa [State.post_flag_at]
  · rwa [State.post_fld_at]
  · rwa [State.post_fld_at]
  · rw [State.post_fld_at, hkcv]
    exact .of_post (s.rootLoaded_postSame _) _ _

/-! ### The commands of the key records (R242, R245, R254) -/

theorem exec_of_shrRun {x : Instr} {m : Master} {s u : State} {f : State → State} (hx : exec x s = s.shrRun m f) (h : ShrOpen s m) (hf : f (s.issued m) = u) :
    exec x s = .next u := hf ▸ hx.trans (State.shrRun_open h f)

/-- A command that gives ONU n the keys k. -/
theorem shrDone_setKeys {x : Instr} {m : Master} {s : State} {n : Nat} {k : OnuKeys} (hx : exec x s = .next (((s.issued m).setKeys n k).keyChanged stOnu n)) :
    ShrDone x m s (s.setKeys n k).shr (Uncached (keyName 3 n)) := shrDone_of_keyChanged hx rfl rfl

section

variable {m : Master} {s : State} (h : ShrOpen s m)
include h

theorem mskLoad_spec :
    let n := s.shrIx
    (65536 ≤ n → ShrEnds (.mskLoad m) m s 2) ∧ (n < 65536 → ¬ s.shr.root ≠ none → ShrEnds (.mskLoad m) m s 3) ∧
      (n < 65536 → s.shr.root ≠ none → ShrDone (.mskLoad m) m s (s.setKeys n { s.keysOf n with msk := some (s.shrBytes 0 16) }).shr (Uncached (keyName 3 n))) := by
  refine ⟨fun hn => ?_, fun hn hr => ?_, fun hn hr => ?_⟩
  · exact shrEnds_of_run (exec_mskLoad m s) h (if_pos hn) (by decide)
  · exact shrEnds_of_run (exec_mskLoad m s) h ((if_neg (Nat.not_le.mpr hn)).trans (if_pos (not_not.mp hr))) (by decide)
  · exact shrDone_setKeys (exec_of_shrRun (exec_mskLoad m s) h ((if_neg (Nat.not_le.mpr hn)).trans (if_neg hr)))

theorem keyClear_spec :
    let n := s.shrIx
    let i := s.shrSub
    (65536 ≤ n ∨ 2 < i → ShrEnds (.keyClear m) m s 2) ∧
      (n < 65536 → i = 0 → ((s.onuOf n).st = 4 → ShrEnds (.keyClear m) m s 1) ∧
        ((s.onuOf n).st ≠ 4 → ShrDone (.keyClear m) m s (s.setKeys n noKeys).shr (Uncached (keyName 3 n)))) ∧
      (n < 65536 → i = 1 ∨ i = 2 → (s.activeKey n = some i → ShrEnds (.keyClear m) m s 1) ∧
        (s.activeKey n ≠ some i → ShrDone (.keyClear m) m s (s.setKeys n (if i = 1 then { s.keysOf n with k1 := none } else { s.keysOf n with k2 := none })).shr
          (Uncached (keyName 3 n)))) := by
  have hx := exec_keyClear m s
  refine ⟨fun hn => shrEnds_of_run hx h (if_pos hn) (by decide), fun hn hi => ?_, fun hn hi => ?_⟩
  · have hok : ¬ (65536 ≤ s.shrIx ∨ 2 < s.shrSub) := by omega
    refine ⟨fun hst => shrEnds_of_run hx h ((if_neg hok).trans ((if_pos hi).trans (if_pos hst))) (by decide), fun hst => shrDone_setKeys ?_⟩
    exact exec_of_shrRun hx h ((if_neg hok).trans ((if_pos hi).trans (if_neg hst)))
  · have hok : ¬ (65536 ≤ s.shrIx ∨ 2 < s.shrSub) := by omega
    have hi0 : ¬ s.shrSub = 0 := by omega
    refine ⟨fun ha => shrEnds_of_run hx h ((if_neg hok).trans ((if_neg hi0).trans (if_pos ha))) (by decide), fun ha => shrDone_setKeys ?_⟩
    exact exec_of_shrRun hx h ((if_neg hok).trans ((if_neg hi0).trans (if_neg ha)))

theorem keyLoad_refused (e : Ecc) :
    let n := s.shrIx
    let ix := s.shrSub = 1 ∨ s.shrSub = 2
    (65536 ≤ n ∨ ¬ ix → ShrEnds (.keyLoad m e) m s 2) ∧ (n < 65536 → ix → ¬ s.shr.root ≠ none → ShrEnds (.keyLoad m e) m s 3) := by
  refine ⟨fun hn => shrEnds_of_run (exec_keyLoad m s e) h (if_pos hn) (by decide), fun hn hi hr => ?_⟩
  have hok : ¬ (65536 ≤ s.shrIx ∨ ¬ (s.shrSub = 1 ∨ s.shrSub = 2)) := by omega
  exact shrEnds_of_run (exec_keyLoad m s e) h ((if_neg hok).trans (if_pos (not_not.mp hr))) (by decide)

section

variable (hn : s.shrIx < 65536) (hi : s.shrSub = 1 ∨ s.shrSub = 2) (hr : s.shr.root ≠ none)
include hn hi hr

theorem keyLoad_clean (hclean : RecClean s 0x10 19 s.shrIx) :
    let n := s.shrIx
    let i := s.shrSub
    ((s.keysOf n).msk = none → ShrEnds (.keyLoad m .clean) m s 8) ∧
      ∀ k, (s.keysOf n).msk = some k → (s.activeKey n = some i → ShrEnds (.keyLoad m .clean) m s 1) ∧
        (s.activeKey n ≠ some i → let d := fitBytes 16 (Config.aesDec (Config.onuKek k) (s.shrBytes 0 16))
          ShrDone (.keyLoad m .clean) m s (s.setKeys n (if i = 1 then { s.keysOf n with k1 := some d } else { s.keysOf n with k2 := some d })).shr
            (Uncached (keyName 3 n))) := by
  have hx := exec_keyLoad m s .clean
  have hok : ¬ (65536 ≤ s.shrIx ∨ ¬ (s.shrSub = 1 ∨ s.shrSub = 2)) := by omega
  have hread : (s.issued m).readStore stOnu (s.issued m).shrIx .clean = (s.issued m, false) := State.readStore_clean hclean
  refine ⟨fun hk => shrEnds_of_run hx h ((if_neg hok).trans ((if_neg hr).trans ?_)) (by decide), fun k hk => ⟨fun ha => ?_, fun ha => ?_⟩⟩
  · have hk : ((s.issued m).keysOf (s.issued m).shrIx).msk = none := hk
    simp only [hread, Bool.false_eq_true, if_false, hk]
    rfl
  · have hk : ((s.issued m).keysOf (s.issued m).shrIx).msk = some k := hk
    refine shrEnds_of_run hx h ((if_neg hok).trans ((if_neg hr).trans ?_)) (by decide)
    simp only [hread, Bool.false_eq_true, if_false, hk]
    exact if_pos ha
  · have hk : ((s.issued m).keysOf (s.issued m).shrIx).msk = some k := hk
    refine shrDone_setKeys (exec_of_shrRun hx h ((if_neg hok).trans ((if_neg hr).trans ?_)))
    simp only [hread, Bool.false_eq_true, if_false, hk]
    refine (if_neg ha).trans ?_
    rw [← hk]
    rfl

/-- A poisoned key record is cleared and posted, and KEY_LOAD ends POISONED (R254). -/
theorem keyLoad_poisoned (hp : s.poisoned 0x10 (Config.wordIx 0x10 19 s.shrIx) = true) (harm : s.flag F.memFlipCtrl_armed = false) (e : Ecc) :
    let n := s.shrIx
    ∃ t, exec (.keyLoad m e) s = .next t ∧ t.fld F.shrCmd_result = 7 ∧ t.keysOf n = noKeys ∧ (∀ j, j ≠ n → t.keysOf j = s.keysOf j) ∧
      t.poisoned 0x10 (Config.wordIx 0x10 19 n) = false ∧ t.evq = (s.post 0x0806 [3, n]).evq ∧ FldsBut [F.shrCmd_result] s t ∧
      FrameBut [.regs, .shr, .mem, .evq, .cnt] s t := by
  intro n
  have hok : ¬ (65536 ≤ s.shrIx ∨ ¬ (s.shrSub = 1 ∨ s.shrSub = 2)) := by omega
  have hx : exec (.keyLoad m e) s = .next ((((s.issued m).keysCleared n).post 0x0806 [3, n]).shrEnd 7) := by
    refine exec_of_shrRun (exec_keyLoad m s e) h ((if_neg hok).trans ((if_neg hr).trans ?_))
    have hread : (s.issued m).readStore stOnu (s.issued m).shrIx e = _ := State.readStore_onu_poisoned (s := s.issued m) (n := s.shrIx) hp harm e
    simp only [hread, if_true]
    rfl
  have hclear := (s.issued m).keysCleared_frame n
  have hframe : FrameBut [.mem, .shr] s ((s.issued m).keysCleared n) := ((s.issued_frame m).mono (by simp)).trans hclear
  have hshr : ((((s.issued m).keysCleared n).post 0x0806 [3, n]).shrEnd 7).shr = ((s.issued m).keysCleared n).shr := (State.shrEnd_shr _ _).trans (State.post_shr _ _ _)
  have hkeys (j : Nat) := (State.keysOf_of_shr hshr j).trans ((s.issued m).keysOf_keysCleared n j)
  have hevq : (((s.issued m).keysCleared n).post 0x0806 [3, n]).evq = (s.post 0x0806 [3, n]).evq :=
    State.post_evq_congr (hframe .evq (by decide)) (hframe .tim (by decide)) (FldsBut.of_frame (.refl [] s) hframe (by decide) · (by simp)) rfl rfl _ _
  refine ⟨_, hx, State.shrEnd_result _ (by decide), (hkeys n).trans (if_pos rfl), fun j hj => (hkeys j).trans (if_neg hj), ?_, (State.shrEnd_evq _ _).trans hevq,
    (((FldsBut.refl _ s).of_frame hframe (by decide)).post_ _ _).shrEnd _ (by simp), ((hframe.mono (by simp)).post _ _ (by simp)).shrEnd _ (by simp)⟩
  have hpoison : ((((s.issued m).keysCleared n).post 0x0806 [3, n]).shrEnd 7).mem.poison = ((s.issued m).keysCleared n).mem.poison := by
    rw [State.shrEnd_mem, State.post_poison]
  exact (State.poisoned_of_poison hpoison _ _).trans (State.poisoned_keysCleared _ _)

end

/-! ### The commands of the group keys (R245) -/

theorem groupCommands_badArg (hn : 256 ≤ s.shrIx ∨ ¬ (s.shrSub = 1 ∨ s.shrSub = 2)) : ShrEnds (.groupGen m) m s 2 ∧ ShrEnds (.groupActivate m) m s 2 :=
  ⟨shrEnds_of_run (exec_groupGen m s) h (if_pos hn) (by decide), shrEnds_of_run (exec_groupActivate m s) h (if_pos hn) (by decide)⟩

theorem groupCommands_spec (hn : s.shrIx < 256) (hi : s.shrSub = 1 ∨ s.shrSub = 2) :
    let n := s.shrIx
    let i := s.shrSub
    let g := s.grpOf n
    (¬ s.shr.root ≠ none → ShrEnds (.groupGen m) m s 3) ∧
      (s.shr.root ≠ none → g.active = i ∨ g.next = some i → ShrEnds (.groupGen m) m s 1) ∧
      (s.shr.root ≠ none → g.active ≠ i → g.next ≠ some i → let v := some (s.fld (F.shrArg 1))
        ShrDone (.groupGen m) m s (s.setGrp n (if i = 1 then { g with gen1 := v } else { g with gen2 := v })).shr (Uncached (keyName 4 n))) ∧
      (g.gen i = none → ShrEnds (.groupActivate m) m s 1) ∧
      (g.gen i ≠ none → ShrDone (.groupActivate m) m s (s.setGrp n { g with next := some i }).shr (fun t => t.shr.cache = s.shr.cache)) := by
  have hgen := exec_groupGen m s
  have hact := exec_groupActivate m s
  have hok : ¬ (256 ≤ s.shrIx ∨ ¬ (s.shrSub = 1 ∨ s.shrSub = 2)) := by omega
  refine ⟨fun hr => ?_, fun hr hg => ?_, fun hr ha hx => ?_, fun hg => ?_, fun hg => ?_⟩
  · exact shrEnds_of_run hgen h ((if_neg hok).trans (if_pos (not_not.mp hr))) (by decide)
  · exact shrEnds_of_run hgen h ((if_neg hok).trans ((if_neg hr).trans (if_pos hg))) (by decide)
  · exact shrDone_of_keyChanged (exec_of_shrRun hgen h ((if_neg hok).trans ((if_neg hr).trans (if_neg (not_or.mpr ⟨ha, hx⟩))))) rfl rfl
  · exact shrEnds_of_run hact h ((if_neg hok).trans (if_pos hg)) (by decide)
  · have hx := exec_of_shrRun hact h ((if_neg hok).trans (if_neg hg))
    exact shrDone_of_mirrorKeys hx ((s.issued_frame m).shr _ (by simp)) rfl rfl fun t ht => (congrArg ShrSt.cache ht).trans rfl

theorem groupExport_refused (e : Ecc) :
    let n := s.shrIx
    let o := s.fld (F.shrArg 1)
    let ix := s.shrSub = 1 ∨ s.shrSub = 2
    (256 ≤ n ∨ ¬ ix ∨ 65536 ≤ o → ShrEnds (.groupExport m e) m s 2) ∧ (n < 256 → ix → o < 65536 → ¬ s.shr.root ≠ none → ShrEnds (.groupExport m e) m s 3) := by
  refine ⟨fun hn => shrEnds_of_run (exec_groupExport m s e) h (if_pos hn) (by decide), fun hn hi ho hr => ?_⟩
  have hok : ¬ (256 ≤ s.shrIx ∨ ¬ (s.shrSub = 1 ∨ s.shrSub = 2) ∨ 65536 ≤ s.fld (F.shrArg 1)) := by omega
  exact shrEnds_of_run (exec_groupExport m s e) h ((if_neg hok).trans (if_pos (not_not.mp hr))) (by decide)

section

variable (hn : s.shrIx < 256) (hi : s.shrSub = 1 ∨ s.shrSub = 2) (ho : s.fld (F.shrArg 1) < 65536) (hr : s.shr.root ≠ none)
  (hclean : RecClean s 0x10 19 (s.fld (F.shrArg 1)))
include hn hi ho hr hclean

theorem groupExport_notPresent (hnone : (s.keysOf (s.fld (F.shrArg 1))).msk = none ∨ (s.grpOf s.shrIx).gen s.shrSub = none) :
    ShrEnds (.groupExport m .clean) m s 8 := by
  have hok : ¬ (256 ≤ s.shrIx ∨ ¬ (s.shrSub = 1 ∨ s.shrSub = 2) ∨ 65536 ≤ s.fld (F.shrArg 1)) := by omega
  have hread : (s.issued m).readStore stOnu ((s.issued m).fld (F.shrArg 1)) .clean = (s.issued m, false) := State.readStore_clean hclean
  have hnone : ((s.issued m).keysOf ((s.issued m).fld (F.shrArg 1))).msk = none ∨ ((s.issued m).grpOf (s.issued m).shrIx).gen (s.issued m).shrSub = none := hnone
  refine shrEnds_of_run (exec_groupExport m s .clean) h ((if_neg hok).trans ((if_neg hr).trans ?_)) (by decide)
  simp only [hread, Bool.false_eq_true, if_false]
  split
  · next hk hg => simp [hk, hg] at hnone
  · rfl

/-- GROUP_EXPORT answers the group key under the ONU's KEK. -/
theorem groupExport_answers {k : List Nat} {g : Nat} (hk : (s.keysOf (s.fld (F.shrArg 1))).msk = some k) (hg : (s.grpOf s.shrIx).gen s.shrSub = some g) :
    ∃ t, exec (.groupExport m .clean) s = .next t ∧ t.fld F.shrCmd_result = 0 ∧
      t.shrBytes 0 16 = fitBytes 16 (Config.aesEnc (Config.onuKek k) (kdf s.root 1 ([s.shrIx, s.shrSub, 0, 0] ++ beBytes 4 g) 16)) ∧
      t.shr = { s.shr with issuer := some m.toNat } ∧ FldsBut (F.shrCmd_result :: (List.range 4).map F.shrData) s t ∧ FrameBut [.regs, .shr] s t := by
  have hok : ¬ (256 ≤ s.shrIx ∨ ¬ (s.shrSub = 1 ∨ s.shrSub = 2) ∨ 65536 ≤ s.fld (F.shrArg 1)) := by omega
  have hread : (s.issued m).readStore stOnu ((s.issued m).fld (F.shrArg 1)) .clean = (s.issued m, false) := State.readStore_clean hclean
  have hk : ((s.issued m).keysOf ((s.issued m).fld (F.shrArg 1))).msk = some k := hk
  have hg : ((s.issued m).grpOf (s.issued m).shrIx).gen (s.issued m).shrSub = some g := hg
  have hx : exec (.groupExport m .clean) s =
      .next ((s.issued m).answered (fitBytes 16 (Config.aesEnc (Config.onuKek k) (kdf s.root 1 ([s.shrIx, s.shrSub, 0, 0] ++ beBytes 4 g) 16)))) := by
    refine exec_of_shrRun (exec_groupExport m s .clean) h ((if_neg hok).trans ((if_neg hr).trans ?_))
    simp only [hread, Bool.false_eq_true, if_false, hk, hg]
    rfl
  exact exec_answers hx (fun b => fitBytes_lt) (fitBytes_length _ _) (by decide)

end

/-! ### CA_KEK_LOAD (R242) -/

theorem caKekLoad_spec :
    let n := s.shrIx
    let i := s.shrSub
    let ix := i = 1 ∨ i = 2
    (128 ≤ n ∨ ¬ ix → ShrEnds (.caKekLoad m) m s 2) ∧ (n < 128 → ix → ¬ s.shr.root ≠ none → ShrEnds (.caKekLoad m) m s 3) ∧
    (n < 128 → ix → s.shr.root ≠ none → ∃ t, exec (.caKekLoad m) s = .next t ∧ t.fld F.shrCmd_result = 0 ∧
      Tbl.find t.shr.ca n none = some (s.shrBytes 0 (if i = 1 then 16 else 32)) ∧ (∀ j, j ≠ n → Tbl.find t.shr.ca j none = Tbl.find s.shr.ca j none) ∧
      Uncached (keyName 0 n) t ∧ t.shr = { s.shr with issuer := some m.toNat, ca := t.shr.ca, cache := t.shr.cache } ∧ FldsBut [F.shrCmd_result] s t ∧
      FrameBut [.regs, .shr] s t) := by
  have hx := exec_caKekLoad m s
  refine ⟨fun hn => shrEnds_of_run hx h (if_pos hn) (by decide), fun hn hi hr => ?_, fun hn hi hr => ?_⟩
  · have hok : ¬ (128 ≤ s.shrIx ∨ ¬ (s.shrSub = 1 ∨ s.shrSub = 2)) := by omega
    exact shrEnds_of_run hx h ((if_neg hok).trans (if_pos (not_not.mp hr))) (by decide)
  · have hok : ¬ (128 ≤ s.shrIx ∨ ¬ (s.shrSub = 1 ∨ s.shrSub = 2)) := by omega
    have hx := exec_of_shrRun (u := (((s.issued m).withKek s.shrIx (s.shrBytes 0 (if s.shrSub = 1 then 16 else 32))).dropKey (keyName stCa s.shrIx)).shrEnd 0)
      hx h ((if_neg hok).trans (if_neg hr))
    have hframe : FrameBut [.shr] s (((s.issued m).withKek s.shrIx (s.shrBytes 0 (if s.shrSub = 1 then 16 else 32))).dropKey (keyName stCa s.shrIx)) :=
      ((s.issued_frame m).shr _ (by simp)).shr _ (by simp)
    refine ⟨_, hx, State.shrEnd_result _ (by decide), ?_, fun j hj => ?_, (State.uncached_dropKey _ _).of_shr rfl, rfl,
      ((FldsBut.refl _ s).of_frame hframe (by decide)).shrEnd _ (by simp), (hframe.mono (by simp)).shrEnd _ (by simp)⟩
    · exact ((s.issued m).find_withKek _ _ _).trans (if_pos rfl)
    · exact ((s.issued m).find_withKek _ _ _).trans (if_neg hj)

end

/-! ### GROUP_KEY_SWITCH (R245) -/

theorem exec_groupKeySwitch_none {c : Chan} {s : State} (h : (s.grpOf c.toNat).next = none) : exec (.groupKeySwitch c) s = .next s := by
  show execGroupKeySwitch s c = _
  rw [execGroupKeySwitch, h]

theorem exec_groupKeySwitch {c : Chan} {s : State} {i : Nat} (h : (s.grpOf c.toNat).next = some i) :
    exec (.groupKeySwitch c) s = .next (s.setGrp c.toNat { s.grpOf c.toNat with active := i, next := none }) := by
  show execGroupKeySwitch s c = _
  rw [execGroupKeySwitch, h]

end Sys2Proof.Machine

namespace Sys2Proof.Proofs

open Sys2Proof.Machine Sys2Proof.Safety

/-- Settles O37, by what the root's last word does, and for each key command by the checks in the model's order and by the record it writes. -/
theorem shroudKeys : Obligations.shroudKeys := by
  refine ⟨fun m e w s c h hc => exec_shrWindow_refused h e w hc, fun m w s h => ⟨fun hr => exec_rootLoad_again hr w, fun hr => exec_rootLoad_spec h hr w⟩,
    fun m s h => ?_, fun c s => ⟨exec_groupKeySwitch_none, fun i hi => ?_⟩⟩
  · obtain ⟨hmskArg, hmskRoot, hmsk⟩ := mskLoad_spec h
    obtain ⟨hclrArg, hclrAll, hclrOne⟩ := keyClear_spec h
    obtain ⟨hcaArg, hcaRoot, hca⟩ := caKekLoad_spec h
    exact ⟨hmskArg, hmskRoot, hmsk, fun e => (keyLoad_refused h e).1, fun e => (keyLoad_refused h e).2, keyLoad_clean h,
      fun e hn hi hr hp harm => keyLoad_poisoned h hn hi hr hp harm e, hclrArg, hclrAll, hclrOne, groupCommands_badArg h, groupCommands_spec h,
      ⟨fun e => (groupExport_refused h e).1, fun e => (groupExport_refused h e).2, fun hn hi ho hr hclean =>
        ⟨groupExport_notPresent h hn hi ho hr hclean, fun k g => groupExport_answers h hn hi ho hr hclean⟩⟩, hcaArg, hcaRoot, hca⟩
  · exact ⟨_, exec_groupKeySwitch hi, Tbl.find_put_same _ _ _ _, fun j hj => Tbl.find_put_other _ _ _ _ hj, rfl, (FrameBut.refl _ s).shr _ (by simp)⟩

end Sys2Proof.Proofs
end

section
/-! Proofs about Shroud's SAs: their slots, what SHR_PORT_STS shows of them, and the states that installing and deleting one lead to. -/

namespace Sys2Proof.Safety

open Sys2Proof.Machine

theorem FldsBut.trans {l : List Fld} {s t u : State} (h : FldsBut l s t) (k : FldsBut l t u) : FldsBut l s u := fun g hg => (k g hg).trans (h g hg)

end Sys2Proof.Safety

namespace Sys2Proof.Machine

open Sys2Proof.Safety

/-! ### The slots of the SAs (R246) -/

theorem State.saOf_setSa (s : State) (rx : Bool) (n : Nat) (a : Option SaSt) (b : Bool) (j : Nat) :
    (s.setSa rx n a).saOf b j = if (b, j) = (rx, n) then a else s.saOf b j := by
  cases rx <;> cases b <;> simp [State.saOf, State.setSa, Tbl.find_put]

theorem State.saOf_of_shr {s t : State} (htx : t.shr.tx = s.shr.tx) (hrx : t.shr.rx = s.shr.rx) (b : Bool) (j : Nat) : t.saOf b j = s.saOf b j := by
  rw [State.saOf, htx, hrx, State.saOf]

theorem State.setSa_frame (s : State) (rx : Bool) (n : Nat) (a : Option SaSt) : FrameBut [.shr] s (s.setSa rx n a) := by
  cases rx
  · exact (FrameBut.refl _ s).shr _ (by simp)
  · exact (FrameBut.refl _ s).shr _ (by simp)

theorem State.setSa_shr (s : State) (rx : Bool) (n : Nat) (a : Option SaSt) :
    (s.setSa rx n a).shr = { s.shr with tx := (s.setSa rx n a).shr.tx, rx := (s.setSa rx n a).shr.rx } := by
  cases rx <;> rfl

/-- The fields of SHR_PORT_STS that follow the port's transmit SA. -/
def saShown (p : Nat) : List Fld := [(F.shrPortSts_pn_thr_hit).inst p, (F.shrPortSts_pn_exhausted).inst p]

theorem State.showTx_flds (s : State) (p : Nat) : FldsBut (saShown p) s (s.showTx p) :=
  ((FldsBut.refl _ s).setFld _ (by simp [saShown]) (by simp [Fld.inst, F.shrPortSts_pn_thr_hit])).setFld _ (by simp [saShown])
    (by simp [Fld.inst, F.shrPortSts_pn_exhausted])

theorem State.showTx_frame (s : State) (p : Nat) : FrameBut [.regs] s (s.showTx p) :=
  ((FrameBut.refl _ s).setFld _ _ (by simp)).setFld _ _ (by simp)

theorem State.showTx_shr (s : State) (p : Nat) : (s.showTx p).shr = s.shr := s.showTx_frame p .shr (by decide)

/-- A flag holds the Boolean written to it. -/
theorem State.flag_setFld_toNat (s : State) {f : Fld} (hw : f.width = 1) (hf : f.lo + f.width ≤ 32) (b : Bool) : (s.setFld f b.toNat).flag f = b := by
  rw [State.flag_setFld_same s f _ hf, hw]
  cases b <;> rfl

/-- The port shows the threshold and the exhaustion of the SA that tx_an names. -/
theorem State.showTx_flags {s : State} {p : Nat} {a : SaSt} (h : s.saOf false (4 * p + s.fld ((F.shrPortSts_tx_an).inst p)) = some a) :
    (s.showTx p).flag ((F.shrPortSts_pn_thr_hit).inst p) = a.thrSaid ∧ (s.showTx p).flag ((F.shrPortSts_pn_exhausted).inst p) = a.exhausted := by
  have hthr : ((F.shrPortSts_pn_thr_hit).inst p).lo + ((F.shrPortSts_pn_thr_hit).inst p).width ≤ 32 := by simp [Fld.inst, F.shrPortSts_pn_thr_hit]
  have hex : ((F.shrPortSts_pn_exhausted).inst p).lo + ((F.shrPortSts_pn_exhausted).inst p).width ≤ 32 := by simp [Fld.inst, F.shrPortSts_pn_exhausted]
  have hbelow : ((F.shrPortSts_pn_exhausted).inst p).lo + ((F.shrPortSts_pn_exhausted).inst p).width ≤ ((F.shrPortSts_pn_thr_hit).inst p).lo := by
    simp [Fld.inst, F.shrPortSts_pn_thr_hit, F.shrPortSts_pn_exhausted]
  have hw : ((F.shrPortSts_pn_thr_hit).inst p).width = 1 ∧ ((F.shrPortSts_pn_exhausted).inst p).width = 1 := by
    simp [Fld.inst, F.shrPortSts_pn_thr_hit, F.shrPortSts_pn_exhausted]
  simp only [State.showTx, h]
  exact ⟨(State.flag_setFld_other _ _ hex (.inr (.inr hbelow))).trans (State.flag_setFld_toNat _ hw.1 hthr _), State.flag_setFld_toNat _ hw.2 hex _⟩

/-! ### What a slot is filled with (R248) -/

/-- The SA that the window's operands describe for a slot. -/
def State.windowSa (s : State) (rx : Bool) (n : Nat) : SaSt :=
  { port := slotPort rx n, an := n % 4, sc := if rx then n / 4 % 4 else 0, replay := decide (bits (s.fld (F.shrArg 3)) 8 8 = 1),
    exportable := decide (s.shrSub / 2 % 2 = 1), keyNo := s.fld (F.shrArg 1), ssci := s.fld (F.shrArg 2), salt := s.shrBytes 0 12,
    pn := beNat (s.shrBytes 12 8), member := s.shrBytes 20 12, ca := bits (s.fld (F.shrArg 3)) 6 0, thrSaid := false, exhausted := false }

theorem bits_eight_eight (v : Nat) : bits v 8 8 = v / 256 % 2 := rfl

theorem bits_six_zero (v : Nat) : bits v 6 0 = v % 128 := congrArg (· % 128) (Nat.div_one v)

theorem State.windowSa_eq (s : State) (rx : Bool) (n : Nat) :
    s.windowSa rx n =
    { port := if rx then n / 16 else n / 4, an := n % 4, sc := if rx then n / 4 % 4 else 0, replay := decide (s.fld (F.shrArg 3) / 256 % 2 = 1),
      exportable := decide (s.shrSub / 2 % 2 = 1), keyNo := s.fld (F.shrArg 1), ssci := s.fld (F.shrArg 2), salt := s.shrBytes 0 12,
      pn := beNat (s.shrBytes 12 8), member := s.shrBytes 20 12, ca := s.fld (F.shrArg 3) % 128, thrSaid := false, exhausted := false } := by
  rw [State.windowSa, bits_eight_eight, bits_six_zero, slotPort]

theorem State.windowSa_issued (s : State) (m : Master) (rx : Bool) (n : Nat) : (s.issued m).windowSa rx n = s.windowSa rx n := rfl

/-- The state with SCI v of receive SC k. -/
def State.withSci (s : State) (k v : Nat) : State := { s with shr := { s.shr with sci := Tbl.put s.shr.sci k 0 v } }

theorem State.find_withSci (s : State) (k v j : Nat) : Tbl.find (s.withSci k v).shr.sci j 0 = if j = k then v else Tbl.find s.shr.sci j 0 := by
  simp only [State.withSci, Tbl.find_put]

theorem State.saOf_withSci (s : State) (k v : Nat) (b : Bool) (j : Nat) : (s.withSci k v).saOf b j = s.saOf b j := State.saOf_of_shr rfl rfl b j

/-- The state with SA a in a slot: a receive SA brings the SCI of its SC, a transmit SA shows in its port. -/
def State.saInstalled (s : State) (rx : Bool) (n : Nat) (a : SaSt) : State :=
  if rx then (s.setSa rx n (some a)).withSci (n / 4) (beNat ((s.setSa rx n (some a)).shrBytes 32 8)) else (s.setSa rx n (some a)).showTx (n / 4)

/-- The key of a slot's SA. -/
def saKey (rx : Bool) (n : Nat) : Nat := keyName (if rx then stRx else stTx) n

/-- The end of a command that changes an SA: its key leaves the caches. -/
def State.saChanged (s : State) (rx : Bool) (n : Nat) : State := (s.dropKey (saKey rx n)).shrEnd 0

theorem State.saChanged_shr (s : State) (rx : Bool) (n : Nat) : (s.saChanged rx n).shr = (s.dropKey (saKey rx n)).shr := State.shrEnd_shr _ _

/-- Of Shroud only one slot's SA, its SCI and the caches differ, and the master is noted. -/
def SlotOnly (m : Master) (rx : Bool) (n : Nat) (s t : State) : Prop :=
  (∀ b j, (b, j) ≠ (rx, n) → t.saOf b j = s.saOf b j) ∧ t.shr.root = s.shr.root ∧ t.shr.keys = s.shr.keys ∧ t.shr.ca = s.shr.ca ∧ t.shr.grp = s.shr.grp ∧
    t.shr.repl = s.shr.repl ∧ t.shr.moved = s.shr.moved ∧ t.shr.issuer = some m.toNat

/-- Of Shroud only the SAs and their SCIs differ, and the master is noted. -/
def SasOnly (m : Master) (s t : State) : Prop :=
  t.shr = { s.shr with tx := t.shr.tx, rx := t.shr.rx, sci := t.shr.sci, issuer := some m.toNat }

theorem State.saOf_saChanged (s : State) (rx : Bool) (n : Nat) (b : Bool) (j : Nat) : (s.saChanged rx n).saOf b j = s.saOf b j :=
  State.saOf_of_shr (congrArg ShrSt.tx (s.saChanged_shr rx n)) (congrArg ShrSt.rx (s.saChanged_shr rx n)) b j

theorem State.saChanged_sci (s : State) (rx : Bool) (n : Nat) : (s.saChanged rx n).shr.sci = s.shr.sci :=
  (congrArg ShrSt.sci (s.saChanged_shr rx n)).trans rfl

theorem State.uncached_saChanged (s : State) (rx : Bool) (n : Nat) : Uncached (saKey rx n) (s.saChanged rx n) :=
  (State.uncached_dropKey _ _).of_shr (s.saChanged_shr rx n)

theorem State.saChanged_result (s : State) (rx : Bool) (n : Nat) : (s.saChanged rx n).fld F.shrCmd_result = 0 := State.shrEnd_result _ (by decide)

theorem slotOnly_saChanged {m : Master} {rx : Bool} {n : Nat} {s u : State} (hsa : ∀ b j, (b, j) ≠ (rx, n) → u.saOf b j = s.saOf b j) (h : SasOnly m s u) :
    SlotOnly m rx n s (u.saChanged rx n) := by
  have hshr : (u.saChanged rx n).shr = { u.shr with cache := (u.dropKey (saKey rx n)).shr.cache } := u.saChanged_shr rx n
  refine ⟨fun b j hj => (u.saOf_saChanged rx n b j).trans (hsa b j hj), ?_⟩
  rw [hshr, h]
  exact ⟨rfl, rfl, rfl, rfl, rfl, rfl, rfl⟩

theorem FldsBut.saChanged {l : List Fld} {s u : State} (h : FldsBut l s u) (rx : Bool) (n : Nat) (hl : F.shrCmd_result ∈ l) : FldsBut l s (u.saChanged rx n) :=
  (h.shr _).shrEnd _ hl

theorem FrameBut.saChanged {s u : State} (h : FrameBut [.regs, .shr] s u) (rx : Bool) (n : Nat) : FrameBut [.regs, .shr] s (u.saChanged rx n) :=
  (h.shr _ (by simp)).shrEnd _ (by simp)

/-! ### The states of SA_INSTALL -/

theorem State.saInstalled_rx (s : State) (n : Nat) (a : SaSt) : s.saInstalled true n a = (s.setSa true n (some a)).withSci (n / 4) (beNat (s.shrBytes 32 8)) :=
  if_pos rfl

theorem State.saInstalled_tx (s : State) (n : Nat) (a : SaSt) : s.saInstalled false n a = (s.setSa false n (some a)).showTx (n / 4) := if_neg (by decide)

theorem State.setSa_sci (s : State) (rx : Bool) (n : Nat) (a : Option SaSt) : (s.setSa rx n a).shr.sci = s.shr.sci := by
  cases rx <;> rfl

/-- Installing changes the SA of the slot only. -/
theorem State.saOf_saInstalled (s : State) (rx : Bool) (n : Nat) (a : SaSt) (b : Bool) (j : Nat) :
    (s.saInstalled rx n a).saOf b j = if (b, j) = (rx, n) then some a else s.saOf b j := by
  cases rx
  · rw [State.saInstalled_tx, State.saOf_of_shr (congrArg ShrSt.tx (State.showTx_shr _ _)) (congrArg ShrSt.rx (State.showTx_shr _ _)), State.saOf_setSa]
  · rw [State.saInstalled_rx, State.saOf_withSci, State.saOf_setSa]

theorem State.sci_saInstalled (s : State) (rx : Bool) (n : Nat) (a : SaSt) (j : Nat) :
    Tbl.find (s.saInstalled rx n a).shr.sci j 0 = if rx = true ∧ j = n / 4 then beNat (s.shrBytes 32 8) else Tbl.find s.shr.sci j 0 := by
  cases rx
  · simp [State.saInstalled_tx, State.showTx_shr, State.setSa_sci]
  · simp [State.saInstalled_rx, State.find_withSci, State.setSa_sci]

/-- What installing an SA leaves of Shroud. -/
theorem State.saInstalled_shr (s : State) (rx : Bool) (n : Nat) (a : SaSt) :
    (s.saInstalled rx n a).shr = { s.shr with tx := (s.saInstalled rx n a).shr.tx, rx := (s.saInstalled rx n a).shr.rx, sci := (s.saInstalled rx n a).shr.sci } := by
  cases rx
  · rw [State.saInstalled_tx, State.showTx_shr, State.setSa_sci]
    exact State.setSa_shr _ _ _ _
  · rw [State.saInstalled_rx]
    rfl

theorem State.saInstalled_frame (s : State) (rx : Bool) (n : Nat) (a : SaSt) : FrameBut [.regs, .shr] s (s.saInstalled rx n a) := by
  have hsa := s.setSa_frame rx n (some a)
  cases rx
  · rw [State.saInstalled_tx]
    exact (hsa.mono (by simp)).trans ((State.showTx_frame _ _).mono (by simp))
  · rw [State.saInstalled_rx]
    exact (hsa.mono (by simp)).shr _ (by simp)

theorem State.saInstalled_flds (s : State) (rx : Bool) (n : Nat) (a : SaSt) :
    FldsBut (saShown (n / 4)) s (s.saInstalled rx n a) ∧ (rx = true → FldsBut [] s (s.saInstalled rx n a)) := by
  have hsa (l : List Fld) : FldsBut l s (s.setSa rx n (some a)) := (FldsBut.refl l s).of_frame (s.setSa_frame rx n (some a)) (by decide)
  cases rx
  · rw [State.saInstalled_tx]
    exact ⟨(hsa _).trans (State.showTx_flds _ _), nofun⟩
  · rw [State.saInstalled_rx]
    exact ⟨(hsa _).shr _, fun _ => (hsa _).shr _⟩

end Sys2Proof.Machine
end

section
/-! Proofs about SA_INSTALL and SA_DELETE: their results, and the slot they fill or empty. -/

namespace Sys2Proof.Machine

open Sys2Proof.Safety

section

variable {m : Master} {s : State} (h : ShrOpen s m) {n : Nat} {rx : Bool} (hn : s.shrIx = n) (hrx : decide (s.shrSub % 2 = 1) = rx)
include h hn hrx

theorem saCommands_badArg (hslot : slotOk rx n = false) :
    ShrEnds (.saInstall m) m s 2 ∧ ShrEnds (.saDelete m) m s 2 ∧ ∀ e, ShrEnds (.pnRead m e) m s 2 := by
  subst hn hrx
  exact ⟨shrEnds_of_run (exec_saInstall m s) h (if_pos hslot) (by decide), shrEnds_of_run (exec_saDelete m s) h (if_pos hslot) (by decide),
    fun e => shrEnds_of_run (exec_pnRead m s e) h (if_pos hslot) (by decide)⟩

section

variable (hslot : slotOk rx n = true)
include hslot

theorem saInstall_taken (ha : (s.saOf rx n).isSome = true) : ShrEnds (.saInstall m) m s 1 := by
  subst hn hrx
  exact shrEnds_of_run (exec_saInstall m s) h ((if_neg (ne_false_of_eq_true hslot)).trans (if_pos ha)) (by decide)

theorem exec_saInstall_free (ha : s.saOf rx n = none) :
    exec (.saInstall m) s = .next (((s.issued m).saInstalled rx n (s.windowSa rx n)).saChanged rx n) := by
  have hn : (s.issued m).shrIx = n := hn
  have hrx : decide ((s.issued m).shrSub % 2 = 1) = rx := hrx
  have ha : (s.issued m).saOf rx n = none := ha
  refine exec_of_shrRun (exec_saInstall m s) h ?_
  simp only [hn, hrx, if_neg (ne_false_of_eq_true hslot), ha, Option.isSome_none, Bool.false_eq_true, if_false]
  rw [← State.windowSa_issued s m]
  rfl

theorem saDelete_none (ha : s.saOf rx n = none) : ShrEnds (.saDelete m) m s 8 := by
  subst hn hrx
  have hfree : (s.saOf (decide (s.shrSub % 2 = 1)) s.shrIx).isNone = true := by simp [ha]
  exact shrEnds_of_run (exec_saDelete m s) h ((if_neg (ne_false_of_eq_true hslot)).trans (if_pos hfree)) (by decide)

/-- SA_INSTALL fills an empty slot from the window's operands. -/
theorem saInstall_free (ha : s.saOf rx n = none) :
    ∃ t, exec (.saInstall m) s = .next t ∧ t.fld F.shrCmd_result = 0 ∧ SlotOnly m rx n s t ∧ Uncached (saKey rx n) t ∧ t.saOf rx n = some (s.windowSa rx n) ∧
      (rx = true → Tbl.find t.shr.sci (n / 4) 0 = beNat (s.shrBytes 32 8) ∧ FldsBut [F.shrCmd_result] s t) ∧
      (∀ j, j ≠ n / 4 ∨ rx = false → Tbl.find t.shr.sci j 0 = Tbl.find s.shr.sci j 0) ∧ FldsBut (F.shrCmd_result :: saShown (n / 4)) s t ∧ FrameBut [.regs, .shr] s t := by
  have hx := exec_saInstall_free h hn hrx hslot ha
  let u := (s.issued m).saInstalled rx n (s.windowSa rx n)
  have hsa (b : Bool) (j : Nat) : u.saOf b j = if (b, j) = (rx, n) then some (s.windowSa rx n) else s.saOf b j := State.saOf_saInstalled _ _ _ _ _ _
  have hsci (j : Nat) : Tbl.find (u.saChanged rx n).shr.sci j 0 = if rx = true ∧ j = n / 4 then beNat (s.shrBytes 32 8) else Tbl.find s.shr.sci j 0 := by
    rw [State.saChanged_sci]
    exact State.sci_saInstalled _ _ _ _ _
  obtain ⟨hshown, hregs⟩ := (s.issued m).saInstalled_flds rx n (s.windowSa rx n)
  have hissued {l : List Fld} : FldsBut l s (s.issued m) := (FldsBut.refl l s).shr _
  refine ⟨_, hx, State.saChanged_result _ _ _, slotOnly_saChanged (fun b j hj => (hsa b j).trans (if_neg hj)) (State.saInstalled_shr _ _ _ _),
    State.uncached_saChanged _ _ _, (State.saOf_saChanged _ _ _ _ _).trans ((hsa rx n).trans (if_pos rfl)), fun hr => ⟨?_, ?_⟩, fun j hj => ?_, ?_, ?_⟩
  · exact (hsci _).trans (if_pos ⟨hr, rfl⟩)
  · exact FldsBut.saChanged (hissued.trans ((hregs hr).mono (by simp))) _ _ (by simp)
  · exact (hsci j).trans (if_neg fun hc => hj.elim (fun hne => hne hc.2) fun hr => by simp [hr] at hc)
  · exact FldsBut.saChanged (hissued.trans (hshown.mono (by simp))) _ _ (by simp)
  · exact FrameBut.saChanged (((s.issued_frame m).mono (by simp)).trans ((State.saInstalled_frame _ _ _ _).mono (by simp))) _ _

/-- SA_DELETE ends BAD_STATE for the SA that tx_an names, and else empties the slot. -/
theorem saDelete_spec (ha : (s.saOf rx n).isSome = true) :
    let named := rx = false ∧ s.flag ((F.shrPortSts_tx_valid).inst (n / 4)) = true ∧ s.fld ((F.shrPortSts_tx_an).inst (n / 4)) = n % 4
    (named → ShrEnds (.saDelete m) m s 1) ∧
      (¬ named → ∃ t, exec (.saDelete m) s = .next t ∧ t.fld F.shrCmd_result = 0 ∧ SlotOnly m rx n s t ∧ Uncached (saKey rx n) t ∧ t.saOf rx n = none ∧
        t.shr.sci = s.shr.sci ∧ FldsBut [F.shrCmd_result] s t ∧ FrameBut [.regs, .shr] s t) := by
  intro named
  have hn : (s.issued m).shrIx = n := hn
  have hrx : decide ((s.issued m).shrSub % 2 = 1) = rx := hrx
  have hsome : ¬ ((s.issued m).saOf rx n).isNone = true := by
    have ha : ((s.issued m).saOf rx n).isSome = true := ha
    simpa using Option.isSome_iff_ne_none.mp ha
  have hnamed : (!rx && (s.issued m).flag ((F.shrPortSts_tx_valid).inst (n / 4)) && decide ((s.issued m).fld ((F.shrPortSts_tx_an).inst (n / 4)) = n % 4)) = true ↔
      named := by
    rw [Bool.and_eq_true, Bool.and_eq_true, Bool.not_eq_true', decide_eq_true_eq, and_assoc]
    exact Iff.rfl
  refine ⟨fun hname => shrEnds_of_run (exec_saDelete m s) h ?_ (by decide), fun hname => ?_⟩
  · simp only [hn, hrx, if_neg (ne_false_of_eq_true hslot), if_neg hsome, if_pos (hnamed.mpr hname)]
    rfl
  · have hx : exec (.saDelete m) s = .next (((s.issued m).setSa rx n none).saChanged rx n) := by
      refine exec_of_shrRun (exec_saDelete m s) h ?_
      simp only [hn, hrx, if_neg (ne_false_of_eq_true hslot), if_neg hsome, if_neg (hnamed.not.mpr hname)]
      rfl
    have hframe : FrameBut [.shr] s ((s.issued m).setSa rx n none) := (s.issued_frame m).trans (State.setSa_frame _ _ _ _)
    have hsa (b : Bool) (j : Nat) : ((s.issued m).setSa rx n none).saOf b j = if (b, j) = (rx, n) then none else s.saOf b j := State.saOf_setSa _ _ _ _ _ _
    have hshr : SasOnly m s ((s.issued m).setSa rx n none) := by
      rw [SasOnly, State.setSa_sci]
      exact State.setSa_shr _ _ _ _
    exact ⟨_, hx, State.saChanged_result _ _ _, slotOnly_saChanged (fun b j hj => (hsa b j).trans (if_neg hj)) hshr, State.uncached_saChanged _ _ _,
      (State.saOf_saChanged _ _ _ _ _).trans ((hsa rx n).trans (if_pos rfl)), (State.saChanged_sci _ _ _).trans (State.setSa_sci _ _ _ _),
      FldsBut.saChanged ((FldsBut.refl _ s).of_frame hframe (by decide)) _ _ (by simp), FrameBut.saChanged (hframe.mono (by simp)) _ _⟩

end

end

end Sys2Proof.Machine
end

section
/-! Proofs about the nonce record and the SA commands that leave the SAs as they are: PN_READ, SET_TX_AN and SA_EXPORT. -/

namespace Sys2Proof.Machine

open Sys2Proof.Safety

/-! ### The nonce record (R251) -/

theorem State.nonceRec_eq (s : State) (kind ix : Nat) (w : List Nat) :
    s.nonceRec kind ix w = s.setWords F.shrNrec [kind * 2 ^ 24 + ix % 2 ^ 24, wordOf w 0, wordOf w 1, wordOf w 2] (List.range 4) := rfl

theorem shrNrec_fits (i : Nat) : (F.shrNrec i).lo + (F.shrNrec i).width ≤ 32 := le_refl 32

theorem shrNrec_addr_ne (i j : Nat) (h : i ≠ j) : (F.shrNrec i).addr ≠ (F.shrNrec j).addr := by
  show 0x7001C0 + 0x4 * i ≠ 0x7001C0 + 0x4 * j
  omega

theorem State.nonceRec_frame (s : State) (kind ix : Nat) (w : List Nat) : FrameBut [.regs] s (s.nonceRec kind ix w) := by
  rw [State.nonceRec_eq]
  exact State.setWords_frame _ _ _ _

theorem State.nonceRec_flds (s : State) (kind ix : Nat) (w : List Nat) : FldsBut ((List.range 4).map F.shrNrec) s (s.nonceRec kind ix w) := by
  rw [State.nonceRec_eq]
  exact State.setWords_flds shrNrec_fits (.refl _ s) _ (List.Subset.refl _)

/-- The words that the nonce record shows. -/
theorem State.fld_nonceRec (s : State) {kind ix : Nat} (w : List Nat) (hkind : kind < 4) (hix : ix < 2 ^ 24) :
    let t := s.nonceRec kind ix w
    t.fld (F.shrNrec 0) = kind * 2 ^ 24 + ix ∧ ∀ j, j < 3 → t.fld (F.shrNrec (1 + j)) = wordOf w j % 2 ^ 32 := by
  have hread {i : Nat} (hi : i < 4) : (s.nonceRec kind ix w).fld (F.shrNrec i) =
      wordOf [kind * 2 ^ 24 + ix % 2 ^ 24, wordOf w 0, wordOf w 1, wordOf w 2] i % 2 ^ 32 := by
    rw [State.nonceRec_eq]
    exact State.fld_setWords shrNrec_fits shrNrec_addr_ne (List.mem_range.mpr hi) s _
  refine ⟨(hread (by decide)).trans ?_, fun j hj => ?_⟩
  · show (kind * 2 ^ 24 + ix % 2 ^ 24) % 2 ^ 32 = _
    omega
  · rw [hread (by omega)]
    interval_cases j <;> rfl

/-! ### PN_READ (R251) -/

theorem State.shrIx_lt (s : State) : s.shrIx < 2 ^ 24 := Nat.mod_lt _ (by decide)

section

variable {m : Master} {s : State} (h : ShrOpen s m)
include h

/-- PN_READ puts the packet number of an installed SA into the nonce record. -/
theorem pnRead_spec {n : Nat} {rx : Bool} (hn : s.shrIx = n) (hrx : decide (s.shrSub % 2 = 1) = rx) (hslot : slotOk rx n = true)
    (hclean : RecClean s 0x08 (16 + if rx then 2 else 1) n) :
    (s.saOf rx n = none → ShrEnds (.pnRead m .clean) m s 8) ∧
      ∀ a, s.saOf rx n = some a → ∃ t, exec (.pnRead m .clean) s = .next t ∧ t.fld F.shrCmd_result = 0 ∧
        t.fld (F.shrNrec 0) = (1 + if rx then 2 else 1) % 4 * 2 ^ 24 + n ∧ t.fld (F.shrNrec 1) = a.pn / 2 ^ 32 % 2 ^ 32 ∧ t.fld (F.shrNrec 2) = a.pn % 2 ^ 32 ∧
        t.fld (F.shrNrec 3) = 0 ∧ t.shr = { s.shr with issuer := some m.toNat } ∧ FldsBut (F.shrCmd_result :: (List.range 4).map F.shrNrec) s t ∧
        FrameBut [.regs, .shr] s t := by
  have hlt : n < 2 ^ 24 := hn ▸ s.shrIx_lt
  have hn : (s.issued m).shrIx = n := hn
  have hrx : decide ((s.issued m).shrSub % 2 = 1) = rx := hrx
  have hread : (s.issued m).readStore (if rx then stRx else stTx) n .clean = (s.issued m, false) := by
    cases rx <;> exact State.readStore_clean hclean
  refine ⟨fun ha => shrEnds_of_run (exec_pnRead m s .clean) h ?_ (by decide), fun a ha => ?_⟩
  · have ha : (s.issued m).saOf rx n = none := ha
    simp only [hn, hrx, if_neg (ne_false_of_eq_true hslot), hread, Bool.false_eq_true, if_false, ha]
    rfl
  · have ha : (s.issued m).saOf rx n = some a := ha
    let u := (s.issued m).nonceRec (if rx then 3 else 2) n [a.pn / 2 ^ 32, a.pn % 2 ^ 32, 0]
    have hx : exec (.pnRead m .clean) s = .next (u.shrEnd 0) := by
      refine exec_of_shrRun (exec_pnRead m s .clean) h ?_
      simp only [hn, hrx, if_neg (ne_false_of_eq_true hslot), hread, Bool.false_eq_true, if_false, ha]
      rfl
    obtain ⟨hname, hwords⟩ := (s.issued m).fld_nonceRec (kind := if rx then 3 else 2) [a.pn / 2 ^ 32, a.pn % 2 ^ 32, 0] (by cases rx <;> decide) hlt
    have hkeep (i : Nat) (hi : i < 4) : (u.shrEnd 0).fld (F.shrNrec i) = u.fld (F.shrNrec i) :=
      (FldsBut.refl [F.shrCmd_result] u).shrEnd 0 (by simp) _ fun f hf => by
        obtain rfl := List.mem_singleton.mp hf
        left
        show 0x7001C0 + 0x4 * i ≠ 0x700100
        omega
    have hframe : FrameBut [.regs] (s.issued m) u := State.nonceRec_frame _ _ _ _
    refine ⟨_, hx, State.shrEnd_result _ (by decide), ?_, (hkeep 1 (by decide)).trans (hwords 0 (by decide)), ?_, (hkeep 3 (by decide)).trans (hwords 2 (by decide)),
      (State.shrEnd_shr _ _).trans (hframe .shr (by decide)), ?_, ?_⟩
    · refine (hkeep 0 (by decide)).trans (hname.trans ?_)
      cases rx <;> rfl
    · exact (hkeep 2 (by decide)).trans ((hwords 1 (by decide)).trans (Nat.mod_mod _ _))
    · exact (((FldsBut.refl _ s).shr _).trans ((State.nonceRec_flds _ _ _ _).mono (by simp))).shrEnd 0 (by simp)
    · exact (((s.issued_frame m).mono (by simp)).trans (hframe.mono (by simp))).shrEnd 0 (by simp)

end

/-! ### SET_TX_AN (R248) -/

/-- The fields of SHR_PORT_STS that name a port's transmit SA. -/
def saNamed (p : Nat) : List Fld := [(F.shrPortSts_tx_an).inst p, (F.shrPortSts_tx_valid).inst p]

/-- The state in which a port sends on one of its four SAs. -/
def State.txSelected (s : State) (p an : Nat) : State := (s.setFld ((F.shrPortSts_tx_an).inst p) an).setFld ((F.shrPortSts_tx_valid).inst p) 1

theorem State.txSelected_frame (s : State) (p an : Nat) : FrameBut [.regs] s (s.txSelected p an) :=
  ((FrameBut.refl _ s).setFld _ _ (by simp)).setFld _ _ (by simp)

theorem State.txSelected_flds (s : State) (p an : Nat) : FldsBut (saNamed p) s (s.txSelected p an) :=
  ((FldsBut.refl _ s).setFld _ (by simp [saNamed]) (by simp [Fld.inst, F.shrPortSts_tx_an])).setFld _ (by simp [saNamed])
    (by simp [Fld.inst, F.shrPortSts_tx_valid])

theorem State.txSelected_names (s : State) {p an : Nat} (han : an ≤ 3) :
    (s.txSelected p an).fld ((F.shrPortSts_tx_an).inst p) = an ∧ (s.txSelected p an).flag ((F.shrPortSts_tx_valid).inst p) = true := by
  have hfits : ((F.shrPortSts_tx_an).inst p).lo + ((F.shrPortSts_tx_an).inst p).width ≤ 32 := by simp [Fld.inst, F.shrPortSts_tx_an]
  have hvalid : ((F.shrPortSts_tx_valid).inst p).lo + ((F.shrPortSts_tx_valid).inst p).width ≤ 32 := by simp [Fld.inst, F.shrPortSts_tx_valid]
  have hbelow : ((F.shrPortSts_tx_an).inst p).lo + ((F.shrPortSts_tx_an).inst p).width ≤ ((F.shrPortSts_tx_valid).inst p).lo := by
    simp [Fld.inst, F.shrPortSts_tx_an, F.shrPortSts_tx_valid]
  have hwidth : ((F.shrPortSts_tx_an).inst p).width = 2 ∧ ((F.shrPortSts_tx_valid).inst p).width = 1 := by
    simp [Fld.inst, F.shrPortSts_tx_an, F.shrPortSts_tx_valid]
  refine ⟨?_, State.flag_setFld_toNat _ hwidth.2 hvalid true⟩
  rw [State.txSelected, State.fld_setFld_other _ _ hvalid (.inr (.inl hbelow)), State.fld_setFld_same _ _ _ hfits, hwidth.1]
  omega

/-- The fields that name a port's SA are apart from those that show it. -/
theorem saNamed_apart (p : Nat) : ∀ g ∈ saNamed p, ∀ f ∈ saShown p, Apart f g := by
  simp [saNamed, saShown, Apart, Fld.inst, F.shrPortSts_tx_an, F.shrPortSts_tx_valid, F.shrPortSts_pn_thr_hit, F.shrPortSts_pn_exhausted]

/-- The fields of a port's status are apart from the window's result. -/
theorem portSts_apart_result (p : Nat) : ∀ g ∈ saNamed p ++ saShown p, ∀ f ∈ [F.shrCmd_result], Apart f g := by
  simp [saNamed, saShown, Apart, Fld.inst, F.shrPortSts_tx_an, F.shrPortSts_tx_valid, F.shrPortSts_pn_thr_hit, F.shrPortSts_pn_exhausted, F.shrCmd_result]

section

variable {m : Master} {s : State} (h : ShrOpen s m)
include h

theorem setTxAn_badArg (hn : 128 ≤ s.shrIx ∨ 3 < s.shrSub) : ShrEnds (.setTxAn m) m s 2 :=
  shrEnds_of_run (exec_setTxAn m s) h (if_pos hn) (by decide)

/-- SET_TX_AN selects an installed SA: the port names it and shows its flags. -/
theorem setTxAn_spec (hn : s.shrIx < 128) (hi : s.shrSub ≤ 3) :
    let n := s.shrIx
    (s.saOf false (4 * n + s.shrSub) = none → ShrEnds (.setTxAn m) m s 8) ∧
      ∀ a, s.saOf false (4 * n + s.shrSub) = some a → ∃ t, exec (.setTxAn m) s = .next t ∧ t.fld F.shrCmd_result = 0 ∧ t.fld ((F.shrPortSts_tx_an).inst n) = s.shrSub ∧
        t.flag ((F.shrPortSts_tx_valid).inst n) = true ∧ t.flag ((F.shrPortSts_pn_thr_hit).inst n) = a.thrSaid ∧ t.flag ((F.shrPortSts_pn_exhausted).inst n) = a.exhausted ∧
        t.shr = { s.shr with issuer := some m.toNat } ∧ FldsBut (F.shrCmd_result :: (saNamed n ++ saShown n)) s t ∧ FrameBut [.regs, .shr] s t := by
  intro n
  have hok : ¬ (128 ≤ s.shrIx ∨ 3 < s.shrSub) := by omega
  refine ⟨fun ha => shrEnds_of_run (exec_setTxAn m s) h ((if_neg hok).trans (if_pos ?_)) (by decide), fun a ha => ?_⟩
  · exact Option.isNone_iff_eq_none.mpr ha
  · let u := (s.issued m).txSelected n s.shrSub
    have hsome : ¬ ((s.issued m).saOf false (4 * (s.issued m).shrIx + (s.issued m).shrSub)).isNone = true := fun hnone =>
      nomatch ha.symm.trans (Option.isNone_iff_eq_none.mp hnone)
    have hx : exec (.setTxAn m) s = .next ((u.showTx n).shrEnd 0) := exec_of_shrRun (exec_setTxAn m s) h ((if_neg hok).trans (if_neg hsome))
    obtain ⟨han, hvalid⟩ := (s.issued m).txSelected_names (p := n) hi
    have hsel : FrameBut [.regs] (s.issued m) u := State.txSelected_frame _ _ _
    have hshr : u.shr = (s.issued m).shr := hsel .shr (by decide)
    have hsa : u.saOf false (4 * n + u.fld ((F.shrPortSts_tx_an).inst n)) = some a := by
      rw [State.saOf_of_shr (congrArg ShrSt.tx hshr) (congrArg ShrSt.rx hshr), han]
      exact ha
    obtain ⟨hthr, hex⟩ := State.showTx_flags hsa
    have hshown : FldsBut (saShown n) u (u.showTx n) := State.showTx_flds _ _
    have hend : FldsBut [F.shrCmd_result] (u.showTx n) ((u.showTx n).shrEnd 0) := (FldsBut.refl _ _).shrEnd 0 (by simp)
    have hkeep {g : Fld} (hg : g ∈ saNamed n ++ saShown n) := hend g (portSts_apart_result n g hg)
    have hname {g : Fld} (hg : g ∈ saNamed n) := (hkeep (List.mem_append_left _ hg)).trans (hshown g (saNamed_apart n g hg))
    refine ⟨_, hx, State.shrEnd_result _ (by decide), (hname (by simp [saNamed])).trans han, ?_, ?_, ?_, ?_, ?_, ?_⟩
    · rw [State.flag, hname (by simp [saNamed])]
      exact hvalid
    · rw [State.flag, hkeep (by simp [saShown])]
      exact hthr
    · rw [State.flag, hkeep (by simp [saShown])]
      exact hex
    · exact (State.shrEnd_shr _ _).trans ((State.showTx_shr _ _).trans hshr)
    · have hmono {l : List Fld} (hl : l ⊆ saNamed n ++ saShown n) : l ⊆ F.shrCmd_result :: (saNamed n ++ saShown n) := List.Subset.trans hl (List.subset_cons_self _ _)
      exact ((((FldsBut.refl _ s).shr _).trans ((State.txSelected_flds _ _ _).mono (hmono (List.subset_append_left _ _)))).trans
        (hshown.mono (hmono (List.subset_append_right _ _)))).shrEnd 0 (by simp)
    · exact ((((s.issued_frame m).mono (by simp)).trans (hsel.mono (by simp))).trans ((State.showTx_frame _ _).mono (by simp))).shrEnd 0 (by simp)

/-! ### SA_EXPORT (R248) -/

theorem saExport_refused (e : Ecc) :
    (512 ≤ s.shrIx → ShrEnds (.saExport m e) m s 2) ∧ (s.shrIx < 512 → s.shr.root = none → ShrEnds (.saExport m e) m s 3) ∧
      (s.shrIx < 512 → s.shr.root ≠ none → s.saOf false s.shrIx = none → ShrEnds (.saExport m e) m s 8) := by
  have hx := exec_saExport m s e
  refine ⟨fun hn => shrEnds_of_run hx h (if_pos hn) (by decide), fun hn hr => ?_, fun hn hr ha => ?_⟩
  · exact shrEnds_of_run hx h ((if_neg (Nat.not_le.mpr hn)).trans (if_pos hr)) (by decide)
  · have ha : (s.issued m).saOf false (s.issued m).shrIx = none := ha
    refine shrEnds_of_run hx h ((if_neg (Nat.not_le.mpr hn)).trans ((if_neg hr).trans ?_)) (by decide)
    simp only [ha]
    rfl

/-- SA_EXPORT answers the SAK wrapped under the KEK of the SA's CA record. -/
theorem saExport_spec {a : SaSt} (hn : s.shrIx < 512) (hr : s.shr.root ≠ none) (ha : s.saOf false s.shrIx = some a) (hclean : RecClean s 0x10 16 a.ca) :
    (Tbl.find s.shr.ca a.ca none = none → ShrEnds (.saExport m .clean) m s 8) ∧
      ∀ kek, Tbl.find s.shr.ca a.ca none = some kek → ∃ t, exec (.saExport m .clean) s = .next t ∧ t.fld F.shrCmd_result = 0 ∧
        t.shrBytes 0 40 = fitBytes 40 (Config.keyWrap kek (s.sak a)) ∧ t.shr = { s.shr with issuer := some m.toNat } ∧
        FldsBut (F.shrCmd_result :: (List.range 10).map F.shrData) s t ∧ FrameBut [.regs, .shr] s t := by
  have ha : (s.issued m).saOf false (s.issued m).shrIx = some a := ha
  have hread : (s.issued m).readStore stCa a.ca .clean = (s.issued m, false) := State.readStore_clean hclean
  refine ⟨fun hk => shrEnds_of_run (exec_saExport m s .clean) h ((if_neg (Nat.not_le.mpr hn)).trans ((if_neg hr).trans ?_)) (by decide), fun kek hk => ?_⟩
  · have hk : Tbl.find (s.issued m).shr.ca a.ca none = none := hk
    simp only [ha, hread, Bool.false_eq_true, if_false, hk]
    rfl
  · have hk : Tbl.find (s.issued m).shr.ca a.ca none = some kek := hk
    have hx : exec (.saExport m .clean) s = .next ((s.issued m).answered (fitBytes 40 (Config.keyWrap kek (s.sak a)))) := by
      refine exec_of_shrRun (exec_saExport m s .clean) h ((if_neg (Nat.not_le.mpr hn)).trans ((if_neg hr).trans ?_))
      simp only [ha, hread, Bool.false_eq_true, if_false, hk]
      rfl
    exact exec_answers hx (fun b => fitBytes_lt) (fitBytes_length _ _) (by decide)

end

end Sys2Proof.Machine
end

section
/-! Proofs about Shroud's blobs: their layout, and the commands that save a context in the clear and wrapped. -/

namespace Sys2Proof.Machine

open Sys2Proof.Safety

/-! ### The layout of a blob (R249) -/

theorem fitBytes_pad {l : List Nat} (h : ∀ b ∈ l, b < 256) (k : Nat) : fitBytes (l.length + k) l = l ++ List.replicate k 0 := by
  have hmap : l.map (· % 256) = l := (List.map_congr_left fun b hb => Nat.mod_eq_of_lt (h b hb)).trans (List.map_id' l)
  rw [fitBytes, List.take_length_add_append, List.take_replicate, Nat.min_eq_left (Nat.le_add_left _ _), List.map_append, hmap, List.map_replicate]

theorem fitBytes_self {l : List Nat} (h : ∀ b ∈ l, b < 256) : fitBytes l.length l = l := (fitBytes_pad h 0).trans (List.append_nil l)

/-- The first 32 bytes of a blob. -/
def blobHead (kind flags ix kcv : Nat) (nonce : List Nat) : List Nat :=
  [0x53, 0x48, 1, kind, flags, 0, 0, 0] ++ beBytes 4 ix ++ beBytes 4 kcv ++ fitBytes 12 nonce ++ [0, 0, 0, 0]

section

variable (kind flags ix kcv : Nat) (nonce body tag : List Nat)

theorem blobOf_eq : blobOf kind flags ix kcv nonce body tag = blobHead kind flags ix kcv nonce ++ fitBytes 80 body ++ fitBytes 16 tag := rfl

theorem blobHead_length : (blobHead kind flags ix kcv nonce).length = 32 := by
  simp only [blobHead, List.length_append, beBytes_length, fitBytes_length, List.length_cons, List.length_nil]

theorem blobOf_length : (blobOf kind flags ix kcv nonce body tag).length = 128 := by
  simp only [blobOf_eq, List.length_append, blobHead_length, fitBytes_length]

/-- What a wrapped blob authenticates is its head. -/
theorem blobOf_take : (blobOf kind flags ix kcv nonce body tag).take 32 = blobHead kind flags ix kcv nonce := by
  rw [blobOf_eq, List.append_assoc]
  exact List.take_left' (blobHead_length ..)

theorem blobOf_body : ((blobOf kind flags ix kcv nonce body tag).drop 32).take 80 = fitBytes 80 body := by
  rw [blobOf_eq, List.append_assoc, List.drop_left' (blobHead_length ..)]
  exact List.take_left' (fitBytes_length ..)

/-- A blob in the clear has neither nonce nor tag. -/
theorem blobOf_clear : blobOf kind flags ix kcv [] body [] =
    [0x53, 0x48, 1, kind, flags, 0, 0, 0] ++ beBytes 4 ix ++ beBytes 4 kcv ++ List.replicate 16 0 ++ fitBytes 80 body ++ List.replicate 16 0 := by
  have hnonce : fitBytes 12 [] ++ [0, 0, 0, 0] = List.replicate 16 0 := by decide
  have htag : fitBytes 16 [] = List.replicate 16 0 := by decide
  rw [blobOf, List.append_assoc _ (fitBytes 12 []), hnonce, htag]

variable {kind flags ix kcv nonce body tag}

theorem blobOf_lt (hkind : kind < 256) (hflags : flags < 256) : ∀ b ∈ blobOf kind flags ix kcv nonce body tag, b < 256 := by
  intro b hb
  simp only [blobOf, List.mem_append, List.mem_cons, List.not_mem_nil, or_false] at hb
  rcases hb with (((((hb | hb) | hb) | hb) | hb) | hb) | hb
  · omega
  · exact beBytes_lt hb
  · exact beBytes_lt hb
  · exact fitBytes_lt hb
  · omega
  · exact fitBytes_lt hb
  · exact fitBytes_lt hb

end

theorem ctxOk_kind {k n : Nat} (h : ctxOk k n = true) : k < 5 := by
  by_contra hk
  have h1 : k ≠ 1 := by omega
  have h2 : k ≠ 2 := by omega
  have h3 : k ≠ 3 := by omega
  have h4 : k ≠ 4 := by omega
  simp [ctxOk, h1, h2, h3, h4] at h

/-! ### Saving a context (R250) -/

/-- The nonce of the next wrapped blob. -/
def State.wrapNonce (s : State) : List Nat := beBytes 12 (s.free 96)

/-- The wrapped blob of a context. -/
def State.wrappedBlob (s : State) (k n : Nat) (b : List Nat) (x : Bool) : List Nat := (s.wrapBlob k (1 + 2 * x.toNat) n b).2.1

/-- The state that shows a wrapped blob in the data registers, and its nonce in the nonce record. -/
def State.wrapShown (s : State) (k n : Nat) (b : List Nat) (x : Bool) : State :=
  let no := s.wrapNonce
  (s.tickFree.shrPut (s.wrappedBlob k n b x)).nonceRec 1 n [beNat (no.take 4), beNat ((no.drop 4).take 4), beNat ((no.drop 8).take 4)]

/-- The count of the wrapped saves moves on. -/
def State.wrapTick (s : State) : State := s.setFld F.shrWrapCnt_count (min (s.fld F.shrWrapCnt_count + 1) 0xFFFFFFFF)

/-- Counts a wrapped save, and posts the one that reaches 2^31. -/
def State.wrapCounted (s : State) : State :=
  if s.fld F.shrWrapCnt_count + 1 = 2 ^ 31 then (s.wrapTick.setFld F.shrSts_wrap_limit 1).post 0x0807 [] else s.wrapTick

theorem State.wrappedBlob_eq (s : State) (k n : Nat) (b : List Nat) (x : Bool) :
    let no := s.wrapNonce
    let head := [0x53, 0x48, 1, k, 1 + 2 * x.toNat, 0, 0, 0] ++ beBytes 4 n ++ beBytes 4 (s.fld F.shrKcv_kcv) ++ no ++ [0, 0, 0, 0]
    s.wrappedBlob k n b x = head ++ fitBytes 80 (Config.gcmText s.kwk no head (fitBytes 80 b)) ++ fitBytes 16 (Config.gcmTag s.kwk no head (fitBytes 80 b)) := by
  have hlen : s.wrapNonce.length = 12 := beBytes_length _ _
  have hno : fitBytes 12 s.wrapNonce = s.wrapNonce := by
    rw [← hlen]
    exact fitBytes_self fun b hb => beBytes_lt hb
  have hhead : blobHead k (1 + 2 * x.toNat) n (s.fld F.shrKcv_kcv) s.wrapNonce =
      [0x53, 0x48, 1, k, 1 + 2 * x.toNat, 0, 0, 0] ++ beBytes 4 n ++ beBytes 4 (s.fld F.shrKcv_kcv) ++ s.wrapNonce ++ [0, 0, 0, 0] := by
    rw [blobHead, hno]
  intro no head
  show blobOf k (1 + 2 * x.toNat) n (s.fld F.shrKcv_kcv) no (Config.gcmText s.kwk no ((blobOf k (1 + 2 * x.toNat) n (s.fld F.shrKcv_kcv) no [] []).take 32) (fitBytes 80 b))
    (Config.gcmTag s.kwk no ((blobOf k (1 + 2 * x.toNat) n (s.fld F.shrKcv_kcv) no [] []).take 32) (fitBytes 80 b)) = _
  rw [blobOf_take, blobOf_eq, hhead]

theorem State.wrappedBlob_length (s : State) (k n : Nat) (b : List Nat) (x : Bool) : (s.wrappedBlob k n b x).length = 128 := blobOf_length ..

theorem State.wrappedBlob_lt (s : State) {k : Nat} (hk : k < 5) (n : Nat) (b : List Nat) (x : Bool) : ∀ v ∈ s.wrappedBlob k n b x, v < 256 :=
  blobOf_lt (hk.trans (by decide)) (by cases x <;> decide)

/-- The registers that show a wrapped blob. -/
def wrapShows : List Fld := (List.range 32).map F.shrData ++ (List.range 4).map F.shrNrec

theorem wrapShows_addr : ∀ f ∈ wrapShows, 0x600000 ≤ f.addr := by decide

theorem wrapShows_apart_count : ∀ f ∈ wrapShows, Apart f F.shrWrapCnt_count := fun f hf => .inl (by
  have : ∀ f ∈ wrapShows, F.shrWrapCnt_count.addr ≠ f.addr := by decide
  exact this f hf)

theorem State.wrapShown_frame (s : State) (k n : Nat) (b : List Nat) (x : Bool) : FrameBut [.regs, .freeIx] s (s.wrapShown k n b x) :=
  (((FrameBut.refl _ s).freeIx _ (by simp)).trans ((State.shrPut_frame _ _).mono (by simp))).trans ((State.nonceRec_frame _ _ _ _).mono (by simp))

theorem State.wrapShown_flds (s : State) (k n : Nat) (b : List Nat) (x : Bool) : FldsBut wrapShows s (s.wrapShown k n b x) := by
  have hput : FldsBut wrapShows s (s.tickFree.shrPut (s.wrappedBlob k n b x)) := by
    refine State.shrPut_flds ((FldsBut.refl _ s).of_regs (u := s.tickFree) rfl) _ ?_
    rw [s.wrappedBlob_length]
    exact List.subset_append_left _ _
  exact hput.trans ((State.nonceRec_flds _ _ _ _).mono (List.subset_append_right _ _))

theorem State.shrBytes_wrapShown (s : State) {k : Nat} (hk : k < 5) (n : Nat) (b : List Nat) (x : Bool) :
    (s.wrapShown k n b x).shrBytes 0 128 = s.wrappedBlob k n b x := by
  have hbytes := s.tickFree.shrBytes_shrPut (s.wrappedBlob_lt hk n b x)
  rw [s.wrappedBlob_length] at hbytes
  refine (State.shrBytes_of_flds (State.nonceRec_flds _ _ _ _) (fun f hf => ?_) (by decide)).trans hbytes
  obtain ⟨i, -, rfl⟩ := List.mem_map.mp hf
  exact .inr (Nat.le_add_right _ _)

theorem wordOf_nonce (no : List Nat) {j : Nat} (hj : j < 3) :
    wordOf [beNat (no.take 4), beNat ((no.drop 4).take 4), beNat ((no.drop 8).take 4)] j = beNat ((no.drop (4 * j)).take 4) := by
  interval_cases j <;> rfl

/-- The nonce record repeats the nonce of the blob. -/
theorem State.wrapShown_nonce (s : State) {k n : Nat} (hn : n < 2 ^ 24) (b : List Nat) (x : Bool) :
    let t := s.wrapShown k n b x
    t.fld (F.shrNrec 0) = 2 ^ 24 + n ∧ ∀ j, j < 3 → t.fld (F.shrNrec (1 + j)) = beNat ((s.wrapNonce.drop (4 * j)).take 4) := by
  obtain ⟨hname, hwords⟩ := (s.tickFree.shrPut (s.wrappedBlob k n b x)).fld_nonceRec (kind := 1)
    [beNat (s.wrapNonce.take 4), beNat ((s.wrapNonce.drop 4).take 4), beNat ((s.wrapNonce.drop 8).take 4)] (by decide) hn
  refine ⟨hname.trans (by omega), fun j hj => (hwords j hj).trans ?_⟩
  rw [wordOf_nonce _ hj]
  exact Nat.mod_eq_of_lt (beNat_take_four_lt _)

/-- The registers that count the wrapped saves. -/
def wrapCounts : List Fld := [F.shrWrapCnt_count, F.shrSts_wrap_limit]

theorem State.wrapCounted_flds (s : State) : FldsBut wrapCounts s s.wrapCounted := by
  have hcount : FldsBut wrapCounts s s.wrapTick :=
    (FldsBut.refl _ s).setFld _ (by simp [wrapCounts]) (by decide)
  unfold State.wrapCounted
  split
  · exact (hcount.setFld _ (by simp [wrapCounts]) (by decide)).post_ _ _
  · exact hcount

theorem State.wrapCounted_frame (s : State) : FrameBut [.regs, .cnt, .evq, .mem] s s.wrapCounted := by
  have hcount : FrameBut [.regs, .cnt, .evq, .mem] s s.wrapTick :=
    (FrameBut.refl _ s).setFld _ _ (by simp)
  unfold State.wrapCounted
  split
  · exact (hcount.setFld _ _ (by simp)).post _ _ (by simp)
  · exact hcount

theorem State.wrapCounted_count (s : State) : s.wrapCounted.fld F.shrWrapCnt_count = min (s.fld F.shrWrapCnt_count + 1) 0xFFFFFFFF := by
  have hcount : s.wrapTick.fld F.shrWrapCnt_count = min (s.fld F.shrWrapCnt_count + 1) 0xFFFFFFFF :=
    (State.fld_setFld_same _ _ _ (by decide)).trans (Nat.mod_eq_of_lt (lt_of_le_of_lt (Nat.min_le_right _ _) (by decide)))
  unfold State.wrapCounted
  split
  · rw [State.post_fld_at, State.fld_setFld_other _ _ (by decide) (by decide)]
    exact hcount
  · exact hcount

theorem State.wrapCounted_below {s : State} (h : s.fld F.shrWrapCnt_count + 1 ≠ 2 ^ 31) : FrameBut [.regs] s s.wrapCounted := by
  rw [State.wrapCounted, if_neg h]
  exact (FrameBut.refl _ s).setFld _ _ (by simp)

/-- The wrapped save that reaches 2^31 is flagged and posted. -/
theorem State.wrapCounted_limit {s : State} (h : s.fld F.shrWrapCnt_count + 1 = 2 ^ 31) :
    s.wrapCounted.flag F.shrSts_wrap_limit = true ∧ Posted s s.wrapCounted 0x0807 [] := by
  rw [State.wrapCounted, if_pos h]
  constructor
  · rw [State.post_flag_at]
    exact State.flag_setFld_toNat _ rfl (by decide) true
  · exact .of_post (((PostSame.refl s).setFld _ _ (by decide) (by decide) (by decide) (by decide)).setFld _ _ (by decide) (by decide) (by decide) (by decide)) _ _

/-- Posting reads neither the registers of Shroud nor the parts left aside. -/
theorem PostSame.of_shr {k : List Fld} {p : List Part} {s t : State} (hflds : FldsBut k s t) (hk : ∀ f ∈ k, 0x600000 ≤ f.addr) (hframe : FrameBut p s t)
    (hp : ∀ x ∈ [Part.evq, .cnt, .chain, .tim, .mem], x ∉ p) : PostSame s t := by
  have hreg {g : Fld} (hg : g.addr < 0x600000) : t.fld g = s.fld g := hflds g fun f hf => .inl (Nat.ne_of_lt (lt_of_lt_of_le hg (hk f hf)))
  have htim : t.tim = s.tim := hframe .tim (hp _ (by simp))
  exact ⟨hframe .evq (hp _ (by simp)), hframe .cnt (hp _ (by simp)), hframe .chain (hp _ (by simp)), ⟨by rw [htim], by rw [htim]⟩, hframe .mem (hp _ (by simp)),
    by rw [State.flag, State.flag, hreg (by decide)], hreg (by decide), hreg (by decide)⟩

section

variable {m : Master} {s : State} (h : ShrOpen s m)
include h

theorem saves_badArg (hctx : ctxOk s.shrSub s.shrIx = false) (e : Ecc) : ShrEnds (.saveClear m e) m s 2 ∧ ShrEnds (.saveWrapped m e) m s 2 :=
  ⟨shrEnds_of_run (exec_saveClear m s e) h (if_pos hctx) (by decide), shrEnds_of_run (exec_saveWrapped m s e) h (if_pos hctx) (by decide)⟩

theorem saveWrapped_noRoot (hctx : ctxOk s.shrSub s.shrIx = true) (hr : s.shr.root = none) (e : Ecc) : ShrEnds (.saveWrapped m e) m s 3 :=
  shrEnds_of_run (exec_saveWrapped m s e) h ((if_neg (ne_false_of_eq_true hctx)).trans (if_pos hr)) (by decide)

section

variable {k n : Nat} (hk : s.shrSub = k) (hn : s.shrIx = n) (hctx : ctxOk k n = true) (hclean : RecClean s (storeMem k) (16 + k) n)
include hk hn hctx hclean

theorem saveClear_unsaved :
    (s.ctxBody k n = none → ShrEnds (.saveClear m .clean) m s 8) ∧ ∀ b, s.ctxBody k n = some (b, false) → ShrEnds (.saveClear m .clean) m s 4 := by
  have hk : (s.issued m).shrSub = k := hk
  have hn : (s.issued m).shrIx = n := hn
  have hread : (s.issued m).readStore k n .clean = (s.issued m, false) := State.readStore_clean hclean
  refine ⟨fun hb => shrEnds_of_run (exec_saveClear m s .clean) h ?_ (by decide), fun b hb => shrEnds_of_run (exec_saveClear m s .clean) h ?_ (by decide)⟩
  · have hb : (s.issued m).ctxBody k n = none := hb
    simp only [hk, hn, if_neg (ne_false_of_eq_true hctx), hread, Bool.false_eq_true, if_false, hb]
    rfl
  · have hb : (s.issued m).ctxBody k n = some (b, false) := hb
    simp only [hk, hn, if_neg (ne_false_of_eq_true hctx), hread, Bool.false_eq_true, if_false, hb]
    rfl

/-- SAVE_CLEAR answers the blob of an exportable context. -/
theorem saveClear_answers {b : List Nat} (hb : s.ctxBody k n = some (b, true)) :
    ∃ t, exec (.saveClear m .clean) s = .next t ∧ t.fld F.shrCmd_result = 0 ∧ t.shrBytes 0 128 = blobOf k 2 n (s.fld F.shrKcv_kcv) [] b [] ∧
      t.shr = { s.shr with issuer := some m.toNat } ∧ FldsBut (F.shrCmd_result :: (List.range 32).map F.shrData) s t ∧ FrameBut [.regs, .shr] s t := by
  have hk : (s.issued m).shrSub = k := hk
  have hn : (s.issued m).shrIx = n := hn
  have hread : (s.issued m).readStore k n .clean = (s.issued m, false) := State.readStore_clean hclean
  have hb : (s.issued m).ctxBody k n = some (b, true) := hb
  have hx : exec (.saveClear m .clean) s = .next ((s.issued m).answered (blobOf k 2 n (s.fld F.shrKcv_kcv) [] b [])) := by
    refine exec_of_shrRun (exec_saveClear m s .clean) h ?_
    simp only [hk, hn, if_neg (ne_false_of_eq_true hctx), hread, Bool.false_eq_true, if_false, hb]
    rfl
  exact exec_answers hx (blobOf_lt ((ctxOk_kind hctx).trans (by decide)) (by decide)) (blobOf_length ..) (by decide)

theorem saveWrapped_notPresent (hr : s.shr.root ≠ none) (hb : s.ctxBody k n = none) : ShrEnds (.saveWrapped m .clean) m s 8 := by
  have hk : (s.issued m).shrSub = k := hk
  have hn : (s.issued m).shrIx = n := hn
  have hr : (s.issued m).shr.root ≠ none := hr
  have hread : (s.issued m).readStore k n .clean = (s.issued m, false) := State.readStore_clean hclean
  have hb : (s.issued m).ctxBody k n = none := hb
  refine shrEnds_of_run (exec_saveWrapped m s .clean) h ?_ (by decide)
  simp only [hk, hn, if_neg (ne_false_of_eq_true hctx), if_neg hr, hread, Bool.false_eq_true, if_false, hb]
  rfl

theorem exec_saveWrapped_body (hr : s.shr.root ≠ none) {b : List Nat} {x : Bool} (hb : s.ctxBody k n = some (b, x)) :
    exec (.saveWrapped m .clean) s = .next (((s.issued m).wrapShown k n b x).wrapCounted.shrEnd 0) := by
  have hk : (s.issued m).shrSub = k := hk
  have hn : (s.issued m).shrIx = n := hn
  have hr : (s.issued m).shr.root ≠ none := hr
  have hread : (s.issued m).readStore k n .clean = (s.issued m, false) := State.readStore_clean hclean
  have hb : (s.issued m).ctxBody k n = some (b, x) := hb
  refine exec_of_shrRun (exec_saveWrapped m s .clean) h ?_
  simp only [hk, hn, if_neg (ne_false_of_eq_true hctx), if_neg hr, hread, Bool.false_eq_true, if_false, hb]
  rfl

/-- SAVE_WRAPPED answers the wrapped blob with a fresh nonce, which the nonce record repeats, and counts it. -/
theorem saveWrapped_spec (hr : s.shr.root ≠ none) {b : List Nat} {x : Bool} (hb : s.ctxBody k n = some (b, x)) :
    ∃ t, exec (.saveWrapped m .clean) s = .next t ∧ t.fld F.shrCmd_result = 0 ∧ t.shrBytes 0 128 = s.wrappedBlob k n b x ∧ t.fld (F.shrNrec 0) = 2 ^ 24 + n ∧
      (∀ j, j < 3 → t.fld (F.shrNrec (1 + j)) = beNat ((s.wrapNonce.drop (4 * j)).take 4)) ∧
      t.fld F.shrWrapCnt_count = min (s.fld F.shrWrapCnt_count + 1) 0xFFFFFFFF ∧
      (s.fld F.shrWrapCnt_count + 1 = 2 ^ 31 → t.flag F.shrSts_wrap_limit = true ∧ Posted s t 0x0807 []) ∧
      (s.fld F.shrWrapCnt_count + 1 ≠ 2 ^ 31 → FrameBut [.regs, .shr, .freeIx] s t) ∧ t.shr = { s.shr with issuer := some m.toNat } ∧
      FldsBut (F.shrCmd_result :: (wrapCounts ++ wrapShows)) s t ∧ FrameBut [.regs, .shr, .freeIx, .cnt, .evq, .mem] s t := by
  have hlt : n < 2 ^ 24 := hn ▸ s.shrIx_lt
  have hkind := ctxOk_kind hctx
  have hx := exec_saveWrapped_body h hk hn hctx hclean hr hb
  let u := (s.issued m).wrapShown k n b x
  let v := u.wrapCounted
  have hissued : FldsBut wrapShows s (s.issued m) := (FldsBut.refl _ s).shr _
  have hshown : FldsBut wrapShows s u := hissued.trans (State.wrapShown_flds _ _ _ _ _)
  have hshownFrame : FrameBut [.regs, .shr, .freeIx] s u := ((s.issued_frame m).mono (by simp)).trans ((State.wrapShown_frame _ _ _ _ _).mono (by simp))
  have hcounted : FldsBut (F.shrCmd_result :: wrapCounts) u (v.shrEnd 0) := ((State.wrapCounted_flds u).mono (by simp)).shrEnd 0 (by simp)
  have hcountedFrame : FrameBut [.regs, .cnt, .evq, .mem] u (v.shrEnd 0) := (State.wrapCounted_frame u).shrEnd 0 (by simp)
  have hend : FldsBut [F.shrCmd_result] v (v.shrEnd 0) := (FldsBut.refl _ v).shrEnd 0 (by simp)
  have hwords : ∀ f ∈ F.shrCmd_result :: wrapCounts, f.addr < 0x700140 := by decide
  have hrec (i : Nat) : (v.shrEnd 0).fld (F.shrNrec i) = u.fld (F.shrNrec i) := hcounted _ fun f hf => .inl (by
    have := hwords f hf
    show 0x7001C0 + 0x4 * i ≠ f.addr
    omega)
  have hcount : u.fld F.shrWrapCnt_count = s.fld F.shrWrapCnt_count := hshown _ wrapShows_apart_count
  obtain ⟨hname, hnonce⟩ := (s.issued m).wrapShown_nonce (k := k) hlt b x
  have hsame : PostSame s u := .of_shr hshown wrapShows_addr hshownFrame (by decide)
  refine ⟨_, hx, State.shrEnd_result _ (by decide), ?_, (hrec 0).trans hname, fun j hj => (hrec _).trans (hnonce j hj), ?_, fun hc => ?_, fun hc => ?_, ?_, ?_, ?_⟩
  · exact (State.shrBytes_of_flds hcounted (fun f hf => .inl (hwords f hf)) (by decide)).trans ((s.issued m).shrBytes_wrapShown hkind n b x)
  · exact (hend _ (by simp [Apart, F.shrCmd_result, F.shrWrapCnt_count])).trans ((State.wrapCounted_count u).trans (by rw [hcount]))
  · obtain ⟨hflag, hpost⟩ := State.wrapCounted_limit (s := u) (by rw [hcount, hc])
    have hend' : FrameBut [.regs] v (v.shrEnd 0) := (FrameBut.refl _ v).shrEnd 0 (by simp)
    refine ⟨?_, (hpost.congr hsame).of_frame hend' (by decide) (by decide) (by decide)⟩
    rw [State.flag, hend _ (by simp [Apart, F.shrCmd_result, F.shrSts_wrap_limit])]
    exact hflag
  · exact hshownFrame.trans (((State.wrapCounted_below (s := u) (by rwa [hcount])).shrEnd 0 (by simp)).mono (by simp))
  · exact (hcountedFrame .shr (by decide)).trans ((State.wrapShown_frame (s.issued m) k n b x) .shr (by decide))
  · exact (hshown.mono (fun f hf => by simp [hf])).trans (hcounted.mono (by simp))
  · exact (hshownFrame.mono (by simp)).trans (hcountedFrame.mono (by simp))

end

end

end Sys2Proof.Machine
end

section
/-! Proofs about RESTORE: how a blob is read, the order of its checks, and the context it writes. -/

namespace Sys2Proof.Machine

open Sys2Proof.Safety

/-! ### Reading a blob (R249) -/

theorem fitBytes_append {l : List Nat} (h : ∀ b ∈ l, b < 256) (r : List Nat) : fitBytes l.length (l ++ r) = l := by
  rw [fitBytes, List.append_assoc, List.take_left]
  exact (List.map_congr_left fun b hb => Nat.mod_eq_of_lt (h b hb)).trans (List.map_id' l)

theorem beNat_beBytes (n v : Nat) : beNat (beBytes n v) = v % 256 ^ n := by
  induction n generalizing v with
  | zero => exact (Nat.mod_one v).symm
  | succ n ih =>
    rw [beBytes_succ, beNat_concat, ih, Nat.mod_mod, Nat.pow_succ', Nat.mod_mul]
    omega

/-- The number that a big-endian field of a blob holds. -/
theorem numAt_beBytes {b r : List Nat} {lo n v : Nat} (h : b.drop lo = beBytes n v ++ r) : numAt b lo n = v % 256 ^ n := by
  have hfit := fitBytes_append (l := beBytes n v) (fun b => beBytes_lt) r
  rw [beBytes_length] at hfit
  rw [numAt, h, hfit, beNat_beBytes]

/-- A byte of a blob. -/
theorem numAt_byte {b r : List Nat} {lo v : Nat} (h : b.drop lo = v :: r) : numAt b lo 1 = v % 256 := by
  rw [numAt, h]
  simp [fitBytes, beNat]

/-- A string of two bytes spells the mark of a blob when it is the mark. -/
theorem numAt_mark {b : List Nat} (hlen : 2 ≤ b.length) (hb : ∀ v ∈ b, v < 256) : numAt b 0 2 = 0x5348 ↔ b.take 2 = [0x53, 0x48] := by
  rcases b with _ | ⟨x, _ | ⟨y, r⟩⟩
  · simp at hlen
  · simp at hlen
  · have hx : x < 256 := hb x (by simp)
    have hy : y < 256 := hb y (by simp)
    have hnum : numAt (x :: y :: r) 0 2 = x * 256 + y := by
      simp [numAt, fitBytes, beNat, Nat.mod_eq_of_lt hx, Nat.mod_eq_of_lt hy]
    simp only [hnum, List.take_succ_cons, List.take_zero, List.cons.injEq, and_true]
    omega

/-! ### The checks of RESTORE (R250) -/

/-- A blob bears the mark, the version and the name of a context that exists. -/
def BlobSound (b : List Nat) : Prop := b.take 2 = [0x53, 0x48] ∧ numAt b 2 1 = 1 ∧ ctxOk (numAt b 3 1) (numAt b 8 4) = true

/-- What opens a wrapped blob. -/
def State.blobOpened (s : State) (b : List Nat) : Option (List Nat) :=
  Config.gcmOpen s.kwk ((b.drop 16).take 12) (b.take 32) ((b.drop 32).take 80) (b.drop 112)

/-- A blob's flag says that its context is exportable. -/
def blobExportable (b : List Nat) : Bool := decide (numAt b 4 1 / 2 % 2 = 1)

section

variable (s : State) {b : List Nat} (hfit : fitBytes 128 b = b)
include hfit

theorem State.restoreBlob_unsound (h : numAt b 0 2 ≠ 0x5348 ∨ numAt b 2 1 ≠ 1 ∨ ctxOk (numAt b 3 1) (numAt b 8 4) = false) : s.restoreBlob b = (s, 2) := by
  simp only [State.restoreBlob, hfit, if_pos h]
  rfl

section

variable (h : ¬ (numAt b 0 2 ≠ 0x5348 ∨ numAt b 2 1 ≠ 1 ∨ ctxOk (numAt b 3 1) (numAt b 8 4) = false))
include h

theorem State.restoreBlob_clear (hw : numAt b 4 1 % 2 = 0) :
    s.restoreBlob b = if numAt b 3 1 = 1 ∨ numAt b 3 1 = 3 then (s, 2) else
      (s.writeCtx (numAt b 3 1) (numAt b 8 4) (blobExportable b) ((b.drop 32).take 80), 0) := by
  simp only [State.restoreBlob, hfit, if_neg h, if_pos hw]
  rfl

section

variable (hw : ¬ numAt b 4 1 % 2 = 0)
include hw

theorem State.restoreBlob_noRoot (hr : s.shr.root = none) : s.restoreBlob b = (s, 3) := by
  simp only [State.restoreBlob, hfit, if_neg h, if_neg hw, if_pos hr]
  rfl

variable (hr : s.shr.root ≠ none)
include hr

theorem State.restoreBlob_wrongRoot (hk : numAt b 12 4 ≠ s.fld F.shrKcv_kcv) : s.restoreBlob b = (s, 6) := by
  simp only [State.restoreBlob, hfit, if_neg h, if_neg hw, if_neg hr, if_pos hk]
  rfl

theorem State.restoreBlob_opened (hk : numAt b 12 4 = s.fld F.shrKcv_kcv) :
    s.restoreBlob b = match s.blobOpened b with
      | none => (s, 5)
      | some p => (s.writeCtx (numAt b 3 1) (numAt b 8 4) (blobExportable b) (fitBytes 80 p), 0) := by
  have hk : ¬ numAt b 12 4 ≠ s.fld F.shrKcv_kcv := not_not.mpr hk
  simp only [State.restoreBlob, hfit, if_neg h, if_neg hw, if_neg hr, if_neg hk]
  rfl

end

end

end

/-! ### The context that RESTORE writes (R250) -/

/-- The end of writing a context: its record is clean and its key leaves the caches. -/
def State.ctxWritten (s : State) (kind ix : Nat) : State := (s.cleanRec (storeMem kind) (16 + kind) ix).dropKey (keyName kind ix)

theorem State.ctxWritten_frame (s : State) (kind ix : Nat) : FrameBut [.regs, .mem, .shr] s (s.ctxWritten kind ix) :=
  ((s.noteWrite_frame _ _).mono (by simp)).shr _ (by simp)

theorem State.ctxWritten_shr (s : State) (kind ix : Nat) : (s.ctxWritten kind ix).shr = { s.shr with cache := (s.ctxWritten kind ix).shr.cache } := by
  have hclean : (s.cleanRec (storeMem kind) (16 + kind) ix).shr = s.shr := s.noteWrite_frame _ _ .shr (by decide)
  have hdrop : (s.ctxWritten kind ix).shr = { (s.cleanRec (storeMem kind) (16 + kind) ix).shr with cache := (s.ctxWritten kind ix).shr.cache } := rfl
  rw [hdrop, hclean]

/-- The transmit SA that a blob's body gives. -/
def State.txFromBody (s : State) (ix : Nat) (x : Bool) (b : List Nat) : SaSt := saFromBody 1 ix (s.fld F.shrCfg_pn_gap_log) x b

theorem State.writeCtx_tx (s : State) (ix : Nat) (x : Bool) (b : List Nat) :
    s.writeCtx 1 ix x b = ((s.setSa false ix (some (s.txFromBody ix x b))).showTx (ix / 4)).ctxWritten 1 ix := rfl

/-- The generation that a word of a body gives: none for 0. -/
def genOf (v : Nat) : Option Nat := if v = 0 then none else some v

/-- The group key state that a body gives. -/
def grpFromBody (b : List Nat) : GroupKeys := { active := numAt b 1 1, gen1 := genOf (numAt b 4 4), gen2 := genOf (numAt b 8 4), next := none }

theorem State.writeCtx_grp (s : State) (ix : Nat) (x : Bool) (b : List Nat) : s.writeCtx 4 ix x b = (s.setGrp ix (grpFromBody b)).ctxWritten 4 ix := rfl

theorem State.grpOf_setGrp (s : State) (c : Nat) (g : GroupKeys) (j : Nat) : (s.setGrp c g).grpOf j = if j = c then g else s.grpOf j := Tbl.find_put _ _ _ _ _

theorem genOf_getD {o : Option Nat} (h : ∀ v, o = some v → 0 < v) : genOf (o.getD 0) = o := by
  rcases o with _ | v
  · rfl
  · exact if_neg (Nat.ne_of_gt (h v rfl))

/-- A group key state saved reads back, but for the index that waits. -/
theorem grpFromBody_grpBody {c : Nat} {g : GroupKeys} (hc : c < 256) (ha : g.active < 256) (hg : ∀ v, g.gen1 = some v ∨ g.gen2 = some v → 0 < v ∧ v < 2 ^ 32) :
    grpFromBody (fitBytes 80 (grpBody c g)) = { g with next := none } := by
  have hbytes : ∀ b ∈ grpBody c g, b < 256 := by
    intro b hb
    simp only [grpBody, List.mem_append, List.mem_cons, List.not_mem_nil, or_false] at hb
    rcases hb with (hb | hb) | hb
    · omega
    · exact beBytes_lt hb
    · exact beBytes_lt hb
  have hfit : fitBytes 80 (grpBody c g) = grpBody c g ++ List.replicate 68 0 := by
    have hlen : (grpBody c g).length = 12 := by
      simp only [grpBody, List.length_append, beBytes_length, List.length_cons, List.length_nil]
    have hpad := fitBytes_pad hbytes 68
    rwa [hlen] at hpad
  have hsmall {o : Option Nat} (ho : ∀ v, o = some v → 0 < v ∧ v < 2 ^ 32) : genOf (o.getD 0 % 256 ^ 4) = o := by
    rw [Nat.mod_eq_of_lt]
    · exact genOf_getD fun v hv => (ho v hv).1
    · rcases o with _ | v
      · decide
      · exact (ho v rfl).2
  have hactive : numAt (fitBytes 80 (grpBody c g)) 1 1 = g.active % 256 := numAt_byte (by rw [hfit]; rfl)
  have hgen1 : numAt (fitBytes 80 (grpBody c g)) 4 4 = g.gen1.getD 0 % 256 ^ 4 := numAt_beBytes (by rw [hfit]; rfl)
  have hgen2 : numAt (fitBytes 80 (grpBody c g)) 8 4 = g.gen2.getD 0 % 256 ^ 4 := numAt_beBytes (by rw [hfit]; rfl)
  rw [grpFromBody, hactive, hgen1, hgen2, Nat.mod_eq_of_lt ha, hsmall fun v hv => hg v (.inl hv), hsmall fun v hv => hg v (.inr hv)]

/-! ### RESTORE (R250) -/

theorem exec_restore_blob {m : Master} {s t : State} {r : Nat} (h : ShrOpen s m) (hb : (s.issued m).restoreBlob (s.shrBytes 0 128) = (t, r)) :
    exec (.restore m) s = .next (t.shrEnd r) := by
  refine exec_of_shrRun (exec_restore m s) h ?_
  have hb : (s.issued m).restoreBlob ((s.issued m).shrBytes 0 128) = (t, r) := hb
  simp only [hb]

section

variable {m : Master} {s : State} (h : ShrOpen s m) {b : List Nat} (hb : s.shrBytes 0 128 = b)
include h hb

theorem restore_ends {r : Nat} (hr : r < 16) (hblob : (s.issued m).restoreBlob b = (s.issued m, r)) : ShrEnds (.restore m) m s r := by
  subst hb
  refine shrEnds_of_run (exec_restore m s) h ?_ hr
  have hblob : (s.issued m).restoreBlob ((s.issued m).shrBytes 0 128) = (s.issued m, r) := hblob
  simp only [hblob]

omit h in
theorem shrBytes_fit : fitBytes 128 b = b := by
  subst hb
  have hfit := fitBytes_self (l := s.shrBytes 0 128) fun v => s.shrBytes_lt
  rwa [State.shrBytes_length] at hfit

omit h in
/-- The check of the mark, the version and the name. -/
theorem blobSound_iff : BlobSound b ↔ ¬ (numAt b 0 2 ≠ 0x5348 ∨ numAt b 2 1 ≠ 1 ∨ ctxOk (numAt b 3 1) (numAt b 8 4) = false) := by
  have hlen : b.length = 128 := by rw [← hb, State.shrBytes_length]
  have hmark : numAt b 0 2 = 0x5348 ↔ b.take 2 = [0x53, 0x48] := numAt_mark (by omega) fun v hv => s.shrBytes_lt (hb ▸ hv)
  rw [BlobSound, ← hmark, not_or, not_or, not_not, not_not, Bool.not_eq_false]

theorem restore_unsound (hs : ¬ BlobSound b) : ShrEnds (.restore m) m s 2 :=
  restore_ends h hb (by decide) (State.restoreBlob_unsound _ (shrBytes_fit hb) (not_not.mp ((blobSound_iff hb).not.mp hs)))

section

variable (hs : BlobSound b)
include hs

theorem restore_clearKind (hw : ¬ numAt b 4 1 % 2 = 1) (hk : numAt b 3 1 = 1 ∨ numAt b 3 1 = 3) : ShrEnds (.restore m) m s 2 :=
  restore_ends h hb (by decide) ((State.restoreBlob_clear _ (shrBytes_fit hb) ((blobSound_iff hb).mp hs) (by omega)).trans (if_pos hk))

section

variable (hw : numAt b 4 1 % 2 = 1)
include hw

theorem restore_noRoot (hr : s.shr.root = none) : ShrEnds (.restore m) m s 3 :=
  restore_ends h hb (by decide) (State.restoreBlob_noRoot _ (shrBytes_fit hb) ((blobSound_iff hb).mp hs) (by omega) hr)

variable (hr : s.shr.root ≠ none)
include hr

theorem restore_wrongRoot (hk : numAt b 12 4 ≠ s.fld F.shrKcv_kcv) : ShrEnds (.restore m) m s 6 :=
  restore_ends h hb (by decide) (State.restoreBlob_wrongRoot _ (shrBytes_fit hb) ((blobSound_iff hb).mp hs) (by omega) hr hk)

variable (hk : numAt b 12 4 = s.fld F.shrKcv_kcv)
include hk

theorem restore_authFail (ho : s.blobOpened b = none) : ShrEnds (.restore m) m s 5 := by
  have ho : (s.issued m).blobOpened b = none := ho
  refine restore_ends h hb (by decide) ((State.restoreBlob_opened (s.issued m) (shrBytes_fit hb) ((blobSound_iff hb).mp hs) (by omega) hr hk).trans ?_)
  rw [ho]

/-- RESTORE writes the transmit SA of a wrapped blob that opens. -/
theorem restore_txSa {p : List Nat} (ho : s.blobOpened b = some p) (hkind : numAt b 3 1 = 1) :
    let ix := numAt b 8 4
    ∃ t, exec (.restore m) s = .next t ∧ t.fld F.shrCmd_result = 0 ∧ t.saOf false ix = some (s.txFromBody ix (blobExportable b) (fitBytes 80 p)) ∧
      (∀ j, j ≠ ix → t.saOf false j = s.saOf false j) ∧ t.shr.rx = s.shr.rx ∧ t.shr.keys = s.shr.keys ∧ t.shr.grp = s.shr.grp ∧
      FrameBut [.regs, .shr, .mem] s t := by
  intro ix
  let a := s.txFromBody ix (blobExportable b) (fitBytes 80 p)
  let u := (s.issued m).setSa false ix (some a)
  let t := ((u.showTx (ix / 4)).ctxWritten 1 ix).shrEnd 0
  have ho : (s.issued m).blobOpened b = some p := ho
  have hx : exec (.restore m) s = .next t := by
    refine exec_restore_blob h ?_
    rw [hb, State.restoreBlob_opened (s.issued m) (shrBytes_fit hb) ((blobSound_iff hb).mp hs) (by omega) hr hk, ho, hkind]
    exact congrArg (·, 0) ((s.issued m).writeCtx_tx ix (blobExportable b) (fitBytes 80 p))
  have hshr : t.shr = { u.shr with cache := ((u.showTx (ix / 4)).ctxWritten 1 ix).shr.cache } := by
    rw [← State.showTx_shr u (ix / 4)]
    exact (State.shrEnd_shr _ _).trans (State.ctxWritten_shr _ _ _)
  have hkept (j : Nat) : t.saOf false j = u.saOf false j := State.saOf_of_shr ((congrArg ShrSt.tx hshr).trans rfl) ((congrArg ShrSt.rx hshr).trans rfl) _ _
  have hsa (j : Nat) : t.saOf false j = if (false, j) = (false, ix) then some a else s.saOf false j := (hkept j).trans (State.saOf_setSa _ _ _ _ _ _)
  have hframe : FrameBut [.regs, .shr, .mem] s u := ((s.issued_frame m).mono (by simp)).trans ((State.setSa_frame _ _ _ _).mono (by simp))
  refine ⟨t, hx, State.shrEnd_result _ (by decide), (hsa ix).trans (if_pos rfl), fun j hj => (hsa j).trans (if_neg (by simp [hj])), (congrArg ShrSt.rx hshr).trans rfl,
    (congrArg ShrSt.keys hshr).trans rfl, (congrArg ShrSt.grp hshr).trans rfl, ?_⟩
  exact ((hframe.trans ((State.showTx_frame _ _).mono (by simp))).trans ((State.ctxWritten_frame _ _ _).mono (by simp))).shrEnd 0 (by simp)

end

end

end

/-- RESTORE writes the group key state of a clear blob as saved. -/
theorem restore_grp {m : Master} {s : State} (h : ShrOpen s m) {c : Nat} {g : GroupKeys} (hb : s.shrBytes 0 128 = blobOf 4 2 c (s.fld F.shrKcv_kcv) [] (grpBody c g) [])
    (hc : c < 256) (ha : g.active < 256) (hg : ∀ v, g.gen1 = some v ∨ g.gen2 = some v → 0 < v ∧ v < 2 ^ 32) :
    ∃ t, exec (.restore m) s = .next t ∧ t.fld F.shrCmd_result = 0 ∧ t.grpOf c = { g with next := none } ∧ (∀ j, j ≠ c → t.grpOf j = s.grpOf j) ∧
      t.shr.tx = s.shr.tx ∧ t.shr.rx = s.shr.rx ∧ t.shr.keys = s.shr.keys ∧ FrameBut [.regs, .shr, .mem] s t := by
  let b := blobOf 4 2 c (s.fld F.shrKcv_kcv) [] (grpBody c g) []
  have hkind : numAt b 3 1 = 4 := numAt_byte (v := 4) (r := b.drop 4) rfl
  have hflags : numAt b 4 1 = 2 := numAt_byte (v := 2) (r := b.drop 5) rfl
  have hix : numAt b 8 4 = c := (numAt_beBytes (r := b.drop 12) rfl).trans (Nat.mod_eq_of_lt (hc.trans (by decide)))
  have hsound : BlobSound b := ⟨rfl, numAt_byte (v := 1) (r := b.drop 3) rfl, by
    rw [hkind, hix]
    simpa [ctxOk] using hc⟩
  have hbody : (b.drop 32).take 80 = fitBytes 80 (grpBody c g) := blobOf_body ..
  let u := (s.issued m).setGrp c { g with next := none }
  let t := (u.ctxWritten 4 c).shrEnd 0
  have hx : exec (.restore m) s = .next t := by
    refine exec_restore_blob h ?_
    rw [hb, State.restoreBlob_clear _ (shrBytes_fit hb) ((blobSound_iff hb).mp hsound) (by rw [hflags]), hkind, if_neg (by decide), hix, hbody, State.writeCtx_grp,
      grpFromBody_grpBody hc ha hg]
  have hshr : t.shr = { u.shr with cache := (u.ctxWritten 4 c).shr.cache } := (State.shrEnd_shr _ _).trans (State.ctxWritten_shr _ _ _)
  have hgrp (j : Nat) : t.grpOf j = if j = c then { g with next := none } else s.grpOf j :=
    (congrArg (Tbl.find · j noGroup) (congrArg ShrSt.grp hshr)).trans (State.grpOf_setGrp _ _ _ _)
  have hframe : FrameBut [.regs, .shr, .mem] s u := ((s.issued_frame m).mono (by simp)).shr _ (by simp)
  exact ⟨t, hx, State.shrEnd_result _ (by decide), (hgrp c).trans (if_pos rfl), fun j hj => (hgrp j).trans (if_neg hj), (congrArg ShrSt.tx hshr).trans rfl,
    (congrArg ShrSt.rx hshr).trans rfl, (congrArg ShrSt.keys hshr).trans rfl, (hframe.trans ((State.ctxWritten_frame _ _ _).mono (by simp))).shrEnd 0 (by simp)⟩

end Sys2Proof.Machine
end

section
/-! Proofs about Shroud's cipher lanes: the lane that a logical lane runs on, the fault of a lane, and the spare that takes its place. -/

namespace Sys2Proof.Safety

open Sys2Proof.Machine

theorem FrameBut.noteFault {l : List Part} {s t : State} (h : FrameBut l s t) (region cls obj : Nat) (hl : [.rig, .evq, .cnt, .mem] ⊆ l) :
    FrameBut l s (t.noteFault region cls obj) := by
  have hrig : .rig ∈ l := hl (by simp)
  simp only [State.noteFault]
  split
  · exact ((h.rig _ hrig).post _ _ (List.Subset.trans (by simp) hl)).rig _ hrig
  · exact h.rig _ hrig

theorem FrameBut.ladder {l : List Part} {s t : State} (h : FrameBut l s t) (cls obj : Nat) (hl : [.sup, .cnt] ⊆ l) : FrameBut l s (t.ladder cls obj).1 := by
  unfold State.ladder
  split
  · exact h.countN _ _ _ _ (hl (by simp))
  · exact (h.sup _ (hl (by simp))).countN _ _ _ _ (hl (by simp))

end Sys2Proof.Safety

namespace Sys2Proof.Machine

open Sys2Proof.Safety

/-! ### The fault ladder of a lane (R379) -/

/-- Whether a fault is permanent rests on the supervisor and the registers only. -/
theorem State.ladder_permanent_congr {s t : State} (hsup : t.sup = s.sup) (hregs : t.regs = s.regs) (cls obj : Nat) : (t.ladder cls obj).2 = (s.ladder cls obj).2 := by
  have hexempt : t.exempt = s.exempt := by rw [State.exempt, hsup, State.exempt]
  have hlist : t.faultList cls obj = s.faultList cls obj := by rw [State.faultList, hsup, State.faultList]
  have hfld (f : Fld) : t.fld f = s.fld f := (FldsBut.refl [] s).of_regs hregs f (by simp)
  unfold State.ladder
  rw [hexempt, hlist, hsup, hfld, hfld]
  split <;> rfl

/-! ### The fault of a cipher lane (R253) -/

theorem State.logicalOf_some {s : State} {p l : Nat} (h : s.logicalOf p = some l) : l < 16 ∧ s.flag (F.shrLane_in_use l) = true ∧ s.fld (F.shrLane_phys l) = p := by
  have hl := List.find?_some h
  rw [Bool.and_eq_true, decide_eq_true_eq] at hl
  exact ⟨List.mem_range.mp (List.mem_of_find?_eq_some h), hl⟩

theorem State.logicalOf_none {s : State} {p : Nat} (h : ∀ l, l < 16 → s.flag (F.shrLane_in_use l) = false ∨ s.fld (F.shrLane_phys l) ≠ p) : s.logicalOf p = none := by
  refine List.find?_eq_none.mpr fun l hl => ?_
  rw [Bool.and_eq_true, decide_eq_true_eq]
  rintro ⟨huse, hphys⟩
  rcases h l (List.mem_range.mp hl) with hno | hno
  · exact absurd (huse.symm.trans hno) (by decide)
  · exact hno hphys

/-- The fields of a lane's register fit it, and stand in the order of their bits. -/
theorem shrLane_fits (l : Nat) : (F.shrLane_phys l).lo + (F.shrLane_phys l).width ≤ 32 ∧ (F.shrLane_faults l).lo + (F.shrLane_faults l).width ≤ 32 ∧
    (F.shrLane_faults l).lo + (F.shrLane_faults l).width ≤ (F.shrLane_phys l).lo ∧ (F.shrLane_phys l).lo + (F.shrLane_phys l).width ≤ (F.shrLane_in_use l).lo := by
  simp [F.shrLane_phys, F.shrLane_faults, F.shrLane_in_use]

/-- A fault of a lane is counted and noted, and its key cache emptied. -/
def State.laneHit (s : State) (p : Nat) : State :=
  let t := s.count Cn.shrLaneFault p
  { t with shr := { t.shr with cache := Tbl.put t.shr.cache p [] [] } }.noteFault 0 4 p

/-- The lane runs again after its fault, whose number it shows. -/
def State.laneFaulted (s : State) (p l : Nat) : State :=
  let t := ((s.laneHit p).ladder 4 p).1
  (t.recovered 0 4 p).setFld (F.shrLane_faults l) (t.faultList 4 p).length

theorem State.laneHit_frame (s : State) (p : Nat) : FrameBut [.shr, .rig, .evq, .cnt, .mem] s (s.laneHit p) :=
  (((FrameBut.refl _ s).count _ _ (by simp)).shr _ (by simp)).noteFault _ _ _ (by simp)

theorem State.laneHit_shr (s : State) (p : Nat) : (s.laneHit p).shr = { s.shr with cache := Tbl.put s.shr.cache p [] [] } := by
  have hcount : (s.count Cn.shrLaneFault p).shr = s.shr := (FrameBut.refl [.cnt] s).count _ _ (by simp) .shr (by decide)
  have hnote (u : State) : (u.noteFault 0 4 p).shr = u.shr := (FrameBut.refl [.rig, .evq, .cnt, .mem] u).noteFault _ _ _ (by simp) .shr (by decide)
  rw [State.laneHit, hnote, hcount]

theorem State.laneFaulted_frame (s : State) (p l : Nat) : FrameBut [.regs, .cnt, .evq, .rig, .sup, .mem, .shr] s (s.laneFaulted p l) :=
  ((((s.laneHit_frame p).mono (by simp)).ladder _ _ (by simp)).rig _ (by simp)).setFld _ _ (by simp)

theorem State.laneFaulted_flds (s : State) (p l : Nat) : FldsBut [F.shrLane_faults l] s (s.laneFaulted p l) := by
  have hladder : FrameBut [.shr, .rig, .evq, .cnt, .mem, .sup] s ((s.laneHit p).ladder 4 p).1 := ((s.laneHit_frame p).mono (by simp)).ladder _ _ (by simp)
  exact ((FldsBut.refl _ s).of_frame (hladder.rig _ (by simp)) (by decide)).setFld _ (by simp) (shrLane_fits l).2.1

theorem State.laneFaulted_shr (s : State) (p l : Nat) : (s.laneFaulted p l).shr = { s.shr with cache := Tbl.put s.shr.cache p [] [] } := by
  have hladder : FrameBut [.regs, .rig, .sup, .cnt] (s.laneHit p) (s.laneFaulted p l) := (((FrameBut.refl _ _).ladder _ _ (by simp)).rig _ (by simp)).setFld _ _ (by simp)
  exact (hladder .shr (by decide)).trans (s.laneHit_shr p)

theorem exec_cipherLaneFault_unserved {x : BitVec 5} {s : State} (h : s.logicalOf x.toNat = none) (u : CipherUnit) : exec (.cipherLaneFault x u) s = .next s := by
  show execCipherLaneFault s x u = _
  rw [execCipherLaneFault]
  simp only [h]

theorem exec_cipherLaneFault {x : BitVec 5} {s : State} {l : Nat} (h : s.logicalOf x.toNat = some l) :
    exec (.cipherLaneFault x .none) s =
      .next (if (s.ladder 4 x.toNat).2 then (s.laneFaulted x.toNat l).retireCipher x.toNat l else s.laneFaulted x.toNat l) := by
  have hframe := s.laneHit_frame x.toNat
  show execCipherLaneFault s x .none = _
  rw [execCipherLaneFault, ← State.ladder_permanent_congr (hframe .sup (by decide)) (hframe .regs (by decide))]
  simp only [h]
  rfl

end Sys2Proof.Machine
end

section
/-! Proofs about the retirement of a cipher lane with the spare P16 free (R253). -/

namespace Sys2Proof.Machine

open Sys2Proof.Safety

/-! ### The retirement list -/

theorem mem_insRet (e : RetEnt) (l : List RetEnt) : e ∈ insRet e l := by
  induction l with
  | nil => simp [insRet]
  | cons r t ih =>
    rw [insRet]
    split
    · exact List.mem_cons_self
    · exact List.mem_cons_of_mem _ ih

theorem State.recordRetire_frame (s : State) (cls obj : Nat) : FrameBut [.sup, .cnt, .mem] s (s.recordRetire cls obj) := by
  unfold State.recordRetire
  split
  · exact .refl _ s
  · exact (((FrameBut.refl _ s).sup _ (by simp)).countN _ _ _ _ (by simp)).jnlPersist _ _ _ _ _ _ (by simp)

/-- What is recorded as retired is retired. -/
theorem State.isRetired_recordRetire (s : State) (cls obj : Nat) : (s.recordRetire cls obj).isRetired cls obj = true := by
  by_cases h : s.isRetired cls obj = true
  · rw [State.recordRetire, if_pos h, h]
  · rw [State.recordRetire, if_neg h]
    let t := { s with sup := { s.sup with retired := insRet ⟨cls, obj, s.tim.sec % 2 ^ 32⟩ s.sup.retired } }
    have hsup : ((t.countN Cn.retirements 0 cls 1).jnlPersist 1 0 cls obj [] .retire).sup = t.sup :=
      ((FrameBut.refl [.cnt, .mem] t).countN _ _ _ _ (by simp)).jnlPersist _ _ _ _ _ _ (by simp) .sup (by decide)
    rw [State.isRetired, hsup]
    exact List.any_eq_true.mpr ⟨_, mem_insRet _ _, by simp⟩

/-! ### The spare that takes the place of a lane (R252, R253) -/

/-- Physical lane p is shown as retired. -/
def State.laneMarked (s : State) (p : Nat) : State :=
  s.setFld F.shrSts_retired (s.fld F.shrSts_retired + (1 - s.fld F.shrSts_retired / 2 ^ p % 2) * 2 ^ p)

/-- The lane that replaces p is noted. -/
def State.withRepl (s : State) (p v : Nat) : State := { s with shr := { s.shr with repl := Tbl.put s.shr.repl p 0 v } }

/-- Spare q serves logical lane l in the place of p. -/
def State.spareTaken (s : State) (p l q : Nat) : State :=
  (((s.setFld (F.shrLane_phys l) q).setFld (F.shrLane_faults l) 0).setFld F.shrSts_spares_free (s.fld F.shrSts_spares_free - 1)).withRepl p (q + 1)

theorem State.withRepl_fld (s : State) (p v : Nat) (f : Fld) : (s.withRepl p v).fld f = s.fld f := rfl

theorem State.withRepl_cache (s : State) (p v : Nat) : (s.withRepl p v).shr.cache = s.shr.cache := rfl

theorem State.retireCipher_spare {s : State} {p l q : Nat} (h : (s.laneMarked p).spareLane = some q) :
    s.retireCipher p l = ((s.laneMarked p).spareTaken p l q).recordRetire 4 p := by
  have h : (s.setFld F.shrSts_retired (s.fld F.shrSts_retired + (1 - s.fld F.shrSts_retired / 2 ^ p % 2) * 2 ^ p)).spareLane = some q := h
  simp only [State.retireCipher, h]
  rfl

/-- P16 is the first spare while no lane has been replaced, none runs on it and it is not retired. -/
theorem State.spareLane_first {s : State} (hlane : ∀ j, j < 16 → Tbl.find s.shr.repl j 0 = 0 ∧ s.fld (F.shrLane_phys j) ≠ 16)
    (hfree : s.fld F.shrSts_retired / 2 ^ 16 % 2 = 0) : s.spareLane = some 16 := by
  have hrange : List.range 18 = List.range 16 ++ [16, 17] := by decide
  have hunused : ((List.range 16).any fun l => s.flag (F.shrLane_in_use l) && decide (s.fld (F.shrLane_phys l) = 16)) = false :=
    List.any_eq_false.mpr fun l hl => by simp [(hlane l (List.mem_range.mp hl)).2]
  rw [State.spareLane, hrange, List.find?_append, List.find?_eq_none.mpr, Option.none_or, List.find?_cons_of_pos]
  · simp only [hfree, hunused, decide_true, le_refl, Bool.true_or, Bool.true_and, Bool.not_false]
  · intro j hj
    have hj := List.mem_range.mp hj
    simp [(hlane j hj).1, Nat.not_le.mpr hj]

section

variable {s : State} {p : Nat} (hp : p < 16) (hbit : s.fld F.shrSts_retired / 2 ^ p % 2 = 0)
include hp hbit

theorem State.laneMarked_retired : (s.laneMarked p).fld F.shrSts_retired = s.fld F.shrSts_retired + 2 ^ p := by
  have hlt : s.fld F.shrSts_retired < 2 ^ 18 := s.fld_lt _
  rw [State.laneMarked, State.fld_setFld_same _ _ _ (by decide), hbit, Nat.sub_zero, Nat.one_mul]
  refine Nat.mod_eq_of_lt ?_
  show _ < 2 ^ 18
  interval_cases p <;> omega

theorem State.laneMarked_spare (hfree : s.fld F.shrSts_retired / 2 ^ 16 % 2 = 0) : (s.laneMarked p).fld F.shrSts_retired / 2 ^ 16 % 2 = 0 := by
  rw [State.laneMarked_retired hp hbit]
  interval_cases p <;> omega

end

/-- The registers that a retirement writes. -/
def retireShows (l : Nat) : List Fld := [F.shrLane_faults l, F.shrLane_phys l, F.shrSts_retired, F.shrSts_spares_free]

/-- The registers of the lanes are apart from SHR_STS. -/
theorem shrLane_addr (l : Nat) : 0x700040 + 0x4 * l ≠ 0x700000 := by omega

theorem State.spareTaken_fld (s : State) (p l q : Nat) (f : Fld) : (s.spareTaken p l q).fld f =
    (((s.setFld (F.shrLane_phys l) q).setFld (F.shrLane_faults l) 0).setFld F.shrSts_spares_free (s.fld F.shrSts_spares_free - 1)).fld f :=
  State.withRepl_fld _ _ _ _

theorem State.spareTaken_frame (s : State) (p l q : Nat) : FrameBut [.regs, .shr] s (s.spareTaken p l q) :=
  ((((FrameBut.refl _ s).setFld _ _ (by simp)).setFld _ _ (by simp)).setFld _ _ (by simp)).shr _ (by simp)

theorem State.spareTaken_cache (s : State) (p l q : Nat) : (s.spareTaken p l q).shr.cache = s.shr.cache := by
  have hshr : (((s.setFld (F.shrLane_phys l) q).setFld (F.shrLane_faults l) 0).setFld F.shrSts_spares_free (s.fld F.shrSts_spares_free - 1)).shr = s.shr :=
    (((FrameBut.refl [.regs] s).setFld _ _ (by simp)).setFld _ _ (by simp)).setFld _ _ (by simp) .shr (by decide)
  rw [State.spareTaken, State.withRepl_cache, hshr]

theorem State.spareTaken_flds (s : State) (p l q : Nat) : FldsBut (retireShows l) s (s.spareTaken p l q) := by
  obtain ⟨hphys, hfaults, -, -⟩ := shrLane_fits l
  exact ((((FldsBut.refl _ s).setFld _ (by simp [retireShows]) hphys).setFld _ (by simp [retireShows]) hfaults).setFld _ (by simp [retireShows]) (by decide)).shr _

theorem State.spareTaken_phys (s : State) (p l : Nat) {q : Nat} (hq : q < 32) : (s.spareTaken p l q).fld (F.shrLane_phys l) = q := by
  obtain ⟨hphys, hfaults, hbelow, -⟩ := shrLane_fits l
  rw [State.spareTaken_fld, State.fld_setFld_other _ _ (by decide) (.inl (shrLane_addr l)), State.fld_setFld_other _ _ hfaults (.inr (.inr hbelow)),
    State.fld_setFld_same _ _ _ hphys]
  exact Nat.mod_eq_of_lt hq

theorem State.spareTaken_status (s : State) (p l q : Nat) : (s.spareTaken p l q).fld F.shrSts_retired = s.fld F.shrSts_retired ∧
    (s.spareTaken p l q).fld F.shrSts_spares_free = s.fld F.shrSts_spares_free - 1 := by
  obtain ⟨hphys, hfaults, -, -⟩ := shrLane_fits l
  have hlt : s.fld F.shrSts_spares_free < 2 ^ F.shrSts_spares_free.width := s.fld_lt _
  rw [State.spareTaken_fld, State.spareTaken_fld, State.fld_setFld_other _ _ (by decide) (by decide), State.fld_setFld_other _ _ hfaults (.inl (shrLane_addr l).symm),
    State.fld_setFld_other _ _ hphys (.inl (shrLane_addr l).symm), State.fld_setFld_same _ _ _ (by decide), Nat.mod_eq_of_lt (by omega)]
  exact ⟨rfl, rfl⟩

/-- A retirement of a lane with P16 free: P16 takes the logical lane. -/
theorem State.retireCipher_spec {s : State} {p : Nat} (hp : p < 16) (hbit : s.fld F.shrSts_retired / 2 ^ p % 2 = 0)
    (hlane : ∀ j, j < 16 → Tbl.find s.shr.repl j 0 = 0 ∧ s.fld (F.shrLane_phys j) ≠ 16) (hfree : s.fld F.shrSts_retired / 2 ^ 16 % 2 = 0) (l : Nat) :
    let t := s.retireCipher p l
    t.fld (F.shrLane_phys l) = 16 ∧ t.fld F.shrSts_retired = s.fld F.shrSts_retired + 2 ^ p ∧ t.fld F.shrSts_spares_free = s.fld F.shrSts_spares_free - 1 ∧
      t.isRetired 4 p = true ∧ t.shr.cache = s.shr.cache ∧ FldsBut (retireShows l) s t ∧ FrameBut [.regs, .shr, .sup, .cnt, .mem] s t := by
  let u := s.laneMarked p
  have hmark : FldsBut [F.shrSts_retired] s u := (FldsBut.refl _ s).setFld _ (by simp) (by decide)
  have hmarkFrame : FrameBut [.regs] s u := (FrameBut.refl _ s).setFld _ _ (by simp)
  have hshr : u.shr = s.shr := hmarkFrame .shr (by decide)
  have hlane : ∀ j, j < 16 → Tbl.find u.shr.repl j 0 = 0 ∧ u.fld (F.shrLane_phys j) ≠ 16 := fun j hj => by
    rw [hshr, hmark (F.shrLane_phys j) (by simpa [Apart] using .inl (shrLane_addr j))]
    exact hlane j hj
  have hspare : u.spareLane = some 16 := State.spareLane_first hlane (State.laneMarked_spare hp hbit hfree)
  let v := u.spareTaken p l 16
  have hx : s.retireCipher p l = v.recordRetire 4 p := State.retireCipher_spare hspare
  have hend : FrameBut [.sup, .cnt, .mem] v (v.recordRetire 4 p) := State.recordRetire_frame _ _ _
  have hfld (f : Fld) : (v.recordRetire 4 p).fld f = v.fld f := (FldsBut.refl [] v).of_frame hend (by decide) f (by simp)
  obtain ⟨hretired, hspares⟩ := u.spareTaken_status p l 16
  have hleft : u.fld F.shrSts_spares_free = s.fld F.shrSts_spares_free := hmark _ (by simp [Apart, F.shrSts_retired, F.shrSts_spares_free])
  rw [hx]
  refine ⟨(hfld _).trans (u.spareTaken_phys p l (by decide)), (hfld _).trans (hretired.trans (State.laneMarked_retired hp hbit)), ?_,
    State.isRetired_recordRetire _ _ _, ?_, ?_, ?_⟩
  · rw [hfld, hspares, hleft]
  · rw [hend .shr (by decide), State.spareTaken_cache, hshr]
  · exact ((hmark.mono (by simp [retireShows])).trans (State.spareTaken_flds _ _ _ _)).of_frame hend (by decide)
  · exact ((hmarkFrame.mono (by simp)).trans ((State.spareTaken_frame _ _ _ _).mono (by simp))).trans (hend.mono (by simp))

end Sys2Proof.Machine
end

section
/-! The obligation about Shroud's SAs, blobs, nonce records and cipher lanes. -/

namespace Sys2Proof.Machine

open Sys2Proof.Safety

section

variable {x : BitVec 5} {s : State} {l : Nat} (h : s.logicalOf x.toNat = some l)
include h

theorem cipherLaneFault_resumes (hladder : (s.ladder 4 x.toNat).2 = false) :
    ∃ t, exec (.cipherLaneFault x .none) s = .next t ∧ t.shr = { s.shr with cache := Tbl.put s.shr.cache x.toNat [] [] } ∧
      FldsBut [F.shrLane_faults l] s t ∧ FrameBut [.regs, .cnt, .evq, .rig, .sup, .mem, .shr] s t := by
  have hx := exec_cipherLaneFault h
  rw [hladder, if_neg (by decide)] at hx
  exact ⟨_, hx, s.laneFaulted_shr _ _, s.laneFaulted_flds _ _, s.laneFaulted_frame _ _⟩

/-- A fault beyond the allowance retires the lane, and the free spare P16 takes its logical lane. -/
theorem cipherLaneFault_retires (hladder : (s.ladder 4 x.toNat).2 = true) (hp : x.toNat < 16)
    (hlane : ∀ j, j < 16 → Tbl.find s.shr.repl j 0 = 0 ∧ s.fld (F.shrLane_phys j) ≠ 16) (hfree : s.fld F.shrSts_retired / 2 ^ 16 % 2 = 0)
    (hbit : s.fld F.shrSts_retired / 2 ^ x.toNat % 2 = 0) :
    let p := x.toNat
    ∃ t, exec (.cipherLaneFault x .none) s = .next t ∧ t.fld (F.shrLane_phys l) = 16 ∧ t.flag (F.shrLane_in_use l) = true ∧
      t.fld F.shrSts_retired = s.fld F.shrSts_retired + 2 ^ p ∧ t.fld F.shrSts_spares_free = s.fld F.shrSts_spares_free - 1 ∧ t.isRetired 4 p = true ∧
      (∀ j, j ≠ p → Tbl.find t.shr.cache j [] = Tbl.find s.shr.cache j []) ∧ Tbl.find t.shr.cache p [] = [] ∧ FldsBut (retireShows l) s t ∧
      FrameBut [.regs, .cnt, .evq, .rig, .sup, .mem, .shr] s t := by
  intro p
  have hx := exec_cipherLaneFault h
  rw [hladder, if_pos rfl] at hx
  let u := s.laneFaulted p l
  have hflds : FldsBut [F.shrLane_faults l] s u := s.laneFaulted_flds p l
  have hshr : u.shr = { s.shr with cache := Tbl.put s.shr.cache p [] [] } := s.laneFaulted_shr p l
  obtain ⟨-, -, hbelow, -⟩ := shrLane_fits l
  have hsts {g : Fld} (hg : g.addr = 0x700000) : u.fld g = s.fld g := hflds g fun f hf => .inl (by
    rw [List.mem_singleton.mp hf, hg]
    exact (shrLane_addr l).symm)
  have hrepl : u.shr.repl = s.shr.repl := by rw [hshr]
  have hlane' : ∀ j, j < 16 → Tbl.find u.shr.repl j 0 = 0 ∧ u.fld (F.shrLane_phys j) ≠ 16 := fun j hj => by
    rw [hrepl, hflds (F.shrLane_phys j) fun f hf => by
      rw [List.mem_singleton.mp hf]
      exact .inr (.inr hbelow)]
    exact hlane j hj
  have hretired : u.fld F.shrSts_retired = s.fld F.shrSts_retired := hsts rfl
  have hbit' : u.fld F.shrSts_retired / 2 ^ p % 2 = 0 := by
    rw [hretired]
    exact hbit
  have hfree' : u.fld F.shrSts_retired / 2 ^ 16 % 2 = 0 := by
    rw [hretired]
    exact hfree
  obtain ⟨h16, hret, hspares, his, hcache, hshows, hframe⟩ := State.retireCipher_spec hp hbit' hlane' hfree' l
  have hcache : (u.retireCipher p l).shr.cache = Tbl.put s.shr.cache p [] [] := by rw [hcache, hshr]
  have hall : FldsBut (retireShows l) s (u.retireCipher p l) := (hflds.mono (by simp [retireShows])).trans hshows
  obtain ⟨-, huse, -⟩ := State.logicalOf_some h
  refine ⟨_, hx, h16, ?_, ?_, ?_, his, fun j hj => ?_, ?_, hall, (s.laneFaulted_frame p l).trans (hframe.mono (by simp))⟩
  · rw [State.flag, hall (F.shrLane_in_use l) (by simp [retireShows, Apart, F.shrLane_faults, F.shrLane_phys, F.shrLane_in_use, F.shrSts_retired, F.shrSts_spares_free])]
    exact huse
  · rw [hret, hretired]
  · rw [hspares, hsts rfl]
  · rw [hcache, Tbl.find_put_other _ _ _ _ hj]
  · rw [hcache, Tbl.find_put_same]

end

end Sys2Proof.Machine

namespace Sys2Proof.Proofs

open Sys2Proof.Machine Sys2Proof.Safety

/-- Settles O38, by the checks of each command in the model's order, by what it writes, and for a lane's fault by whether the ladder calls it permanent. -/
theorem shroudSasBlobsLanes : Obligations.shroudSasBlobsLanes := by
  refine ⟨fun m s h => ?_, fun m s h => ?_, fun m s h => ?_, fun x s => ⟨fun hno u => exec_cipherLaneFault_unserved (State.logicalOf_none hno) u, fun l hl => ⟨fun hladder =>
    cipherLaneFault_resumes hl hladder, fun hladder hp _ hlane hfree hbit _ => cipherLaneFault_retires hl hladder hp hlane hfree hbit⟩⟩⟩
  · intro n rx st drops keep
    refine ⟨saCommands_badArg h rfl rfl, saInstall_taken h rfl rfl, fun hslot ha => ⟨saDelete_none h rfl rfl hslot ha, ?_⟩, saDelete_spec h rfl rfl,
      pnRead_spec h rfl rfl, setTxAn_badArg h, setTxAn_spec h, saExport_refused h, fun a hn hr ha hclean => saExport_spec h hn hr ha hclean⟩
    obtain ⟨t, hx, hresult, hkeep, hdrops, hsa, hsci, hsciKept, hflds, hframe⟩ := saInstall_free h rfl rfl hslot ha
    exact ⟨t, hx, hresult, hkeep, hdrops, hsa.trans (congrArg some (s.windowSa_eq _ _)), hsci, hsciKept, hflds, hframe⟩
  · intro n k kcv
    refine ⟨fun e hctx => saves_badArg h hctx e, fun e hctx hr => saveWrapped_noRoot h hctx hr e, fun hctx hclean => ⟨fun hb =>
      ⟨(saveClear_unsaved h rfl rfl hctx hclean).1 hb, fun hr => saveWrapped_notPresent h rfl rfl hctx hclean hr hb⟩, fun b x hb => ⟨?_, ?_, fun hr => ?_⟩⟩⟩
    · rintro rfl
      exact (saveClear_unsaved h rfl rfl hctx hclean).2 b hb
    · rintro rfl
      have hclear := saveClear_answers h rfl rfl hctx hclean hb
      rwa [blobOf_clear] at hclear
    · obtain ⟨t, hx, hresult, hbytes, hname, hnonce, hcount, hlimit, hbelow, hshr, hflds, hframe⟩ := saveWrapped_spec h rfl rfl hctx hclean hr hb
      exact ⟨t, s.wrapNonce, hx, hresult, beBytes_length _ _, hbytes.trans (s.wrappedBlob_eq _ _ _ _), hname, hnonce, hcount, hlimit, hbelow, hshr, hflds, hframe⟩
  · intro b kind ix wrapped sound
    refine ⟨restore_unsound h rfl, restore_clearKind h rfl, fun hs hw => ⟨restore_noRoot h rfl hs hw, restore_wrongRoot h rfl hs hw, fun hr hk =>
      ⟨restore_authFail h rfl hs hw hr hk, fun p ho hkind => ?_⟩⟩, fun c g hb hc ha hg => restore_grp h hb hc ha hg⟩
    obtain ⟨t, hx, hresult, hsa, hothers, hrx, hkeys, hgrp, hframe⟩ := restore_txSa h rfl hs hw hr hk ho hkind
    exact ⟨t, _, hx, hresult, hsa, rfl, rfl, rfl, rfl, hothers, hrx, hkeys, hgrp, hframe⟩

end Sys2Proof.Proofs
end

section
/-! Proofs about the time base's tick, and about the state after reset. -/

namespace Sys2Proof.Machine

open Sys2Proof.Safety

/-! ### The tick (R258) -/

/-- The time base one tick on: the increment in force is added, and the fraction and the nanoseconds carry. -/
def TimSt.ticked (t : TimSt) : TimSt :=
  let f := t.frac + t.incFrac
  let n := t.ns + t.incNs + f / 2 ^ 32
  if 1000000000 ≤ n then { t with frac := f % 2 ^ 32, ns := n - 1000000000, sec := (t.sec + 1) % 2 ^ 48 } else { t with frac := f % 2 ^ 32, ns := n }

theorem exec_timeBaseTick_held {s : State} (h : s.released 1 = false) :
    exec .timeBaseTick s = .next { s with sup := { s.sup with tick := s.sup.tick + 1 } } :=
  if_pos (by simpa [State.released] using h)

theorem exec_timeBaseTick_runs {s : State} (h : s.released 1 = true) :
    exec .timeBaseTick s = .next { s with sup := { s.sup with tick := s.sup.tick + 1 }, tim := s.tim.ticked } := by
  refine (if_neg (by simpa [State.released] using h)).trans ?_
  unfold TimSt.ticked
  by_cases hcarry : 1000000000 ≤ s.tim.ns + s.tim.incNs + (s.tim.frac + s.tim.incFrac) / 2 ^ 32
  · simp only [decide_eq_true hcarry, if_true, if_pos hcarry]
  · simp only [decide_eq_false hcarry, if_neg hcarry]
    rfl

/-- A tick moves the value of the time base and nothing else of it. -/
theorem TimSt.ticked_eq (t : TimSt) : t.ticked = { t with sec := t.ticked.sec, ns := t.ticked.ns, frac := t.ticked.frac } := by
  unfold TimSt.ticked
  dsimp only
  split <;> rfl

/-- A tick keeps the nanoseconds and the fraction in range, and adds the increment modulo 2^48 seconds. -/
theorem TimSt.ticked_value {t : TimSt} (hns : t.ns < 1000000000) (hfrac : t.frac < 2 ^ 32) (hincNs : t.incNs = 1) (hincFrac : t.incFrac < 2 ^ 32)
    (hsec : t.sec < 2 ^ 48) :
    t.ticked.ns < 1000000000 ∧ t.ticked.frac < 2 ^ 32 ∧
      (t.ticked.sec * 1000000000 + t.ticked.ns) * 2 ^ 32 + t.ticked.frac =
        ((t.sec * 1000000000 + t.ns) * 2 ^ 32 + t.frac + (t.incNs * 2 ^ 32 + t.incFrac)) % tbuMod := by
  unfold TimSt.ticked tbuMod
  dsimp only
  split
  · refine ⟨by dsimp only; omega, by dsimp only; omega, ?_⟩
    dsimp only
    omega
  · refine ⟨by dsimp only; omega, by dsimp only; omega, ?_⟩
    dsimp only
    omega

/-! ### The state after reset -/

/-- With no counter and no byte of host memory written, the invariant holds (R341, R357). -/
theorem inv_reset : Inv State.reset := ⟨Tbl.wf_nil _, Tbl.wf_nil _, fun _ => Nat.two_pow_pos 48⟩

end Sys2Proof.Machine

namespace Sys2Proof.Proofs

open Sys2Proof.Machine Sys2Proof.Safety

/-- Settles O55, by whether the TIM domain is held in reset. -/
theorem timeTick : Obligations.timeTick := by
  intro s
  have hsup := (FrameBut.refl [.sup, .tim] s).sup { s.sup with tick := s.sup.tick + 1 } (by simp)
  cases h : s.released 1 with
  | false => exact ⟨_, exec_timeBaseTick_held h, rfl, hsup, fun _ => rfl, by simp⟩
  | true =>
    refine ⟨_, exec_timeBaseTick_runs h, rfl, hsup.tim _ (by simp), by simp, fun _ hns hfrac hincNs hincFrac hsec => ?_⟩
    exact ⟨s.tim.ticked_eq, TimSt.ticked_value hns hfrac hincNs hincFrac hsec⟩

/-- Settles O3: the reset state is plain data, whose parts and registers evaluate; its counters and host memory are empty. -/
theorem resetState : Obligations.resetState :=
  ⟨rfl, by decide, rfl, rfl, rfl, rfl, rfl, rfl, rfl, rfl, rfl, rfl, rfl, rfl, rfl, rfl, rfl, rfl, rfl, by decide +kernel, inv_reset⟩

end Sys2Proof.Proofs
end

section
/-! Proofs about setting the time base and its increment. -/

namespace Sys2Proof.Machine

open Sys2Proof.Safety

/-! ### The value of the time base -/

theorem State.timWrite_of {s : State} {m : Master} (hrel : s.released 1 = true) (hm : mayWrite m = true) : s.timWrite m = true := by
  simp [State.timWrite, hrel, hm]

theorem State.timWrite_eq_false {s : State} {m : Master} (h : s.released 1 = false ∨ mayWrite m = false) : s.timWrite m = false := by
  rcases h with h | h <;> simp [State.timWrite, h]

/-- Of the time base, posting reads the time alone. -/
theorem PostSame.withTim {s t : State} (h : PostSame s t) {x : TimSt} (hns : x.ns = t.tim.ns) (hsec : x.sec = t.tim.sec) :
    PostSame s { t with tim := x } :=
  ⟨h.evq, h.cnt, h.chain, ⟨hns.trans h.tim.1, hsec.trans h.tim.2⟩, h.mem, h.en, h.mask, h.epoch⟩

theorem State.fld_withTim (s : State) (x : TimSt) (f : Fld) : ({ s with tim := x }).fld f = s.fld f := (rfl)

/-- The value of the time base is a matter of its own part of the state. -/
theorem State.tbu_congr {s t : State} (h : t.tim = s.tim) : t.tbu = s.tbu := by
  simp only [State.tbu, State.nowNs, h]

theorem State.putTbu_tim (s : State) (v : Int) :
    (s.putTbu v).tim = { s.tim with sec := (s.putTbu v).tim.sec, ns := (s.putTbu v).tim.ns, frac := (s.putTbu v).tim.frac } := by
  simp only [State.putTbu]

/-- The value put is the value the time base then has, modulo 2^48 seconds. -/
theorem State.tbu_putTbu (s : State) (v : Int) : (s.putTbu v).tbu = (v % (tbuMod : Int)).toNat := by
  simp only [State.tbu, State.nowNs, State.putTbu, Nat.div_add_mod']

/-- Seconds, nanoseconds and a fraction in range are the parts of their value. -/
theorem State.putTbu_parts (s : State) {sec ns frac : Nat} (hsec : sec < 2 ^ 48) (hns : ns < 1000000000) (hfrac : frac < 2 ^ 32) :
    (s.putTbu (((sec * 1000000000 + ns) * 2 ^ 32 + frac : Nat) : Int)).tim = { s.tim with sec := sec, ns := ns, frac := frac } := by
  have hparts (n : Nat) : (n * 2 ^ 32 + frac) % 2 ^ 32 = frac ∧ (n * 2 ^ 32 + frac) / 2 ^ 32 = n := by omega
  have hsecOf : (sec * 1000000000 + ns) / 1000000000 = sec := by omega
  have hnsMod : (sec * 1000000000 + ns) % 1000000000 = ns := by omega
  have hlt : (sec * 1000000000 + ns) * 2 ^ 32 + frac < tbuMod := by
    unfold tbuMod
    omega
  simp only [State.putTbu, ← Int.natCast_mod, Int.toNat_natCast, Nat.mod_eq_of_lt hlt, hparts, hsecOf, hnsMod]

theorem State.stepTime_tim (s : State) (v : Int) : (s.stepTime v).tim = (s.putTbu v).tim := rfl

theorem State.stepTime_frame (s : State) (v : Int) : FrameBut [.regs, .tim] s (s.stepTime v) :=
  ((FrameBut.refl _ s).tim _ (by simp)).setFld _ _ (by simp)

theorem State.stepTime_flds (s : State) (v : Int) : FldsBut [F.timSts_gen] s (s.stepTime v) :=
  ((FldsBut.refl _ s).tim _).setFld _ (by simp) (by decide)

theorem State.stepTime_gen (s : State) (v : Int) : (s.stepTime v).fld F.timSts_gen = (s.fld F.timSts_gen + 1) % 2 ^ 16 :=
  State.fld_setFld_same _ F.timSts_gen _ (by decide)

/-! ### The end of SET_AT_PPS (R260) -/

/-- SET_AT_PPS ended with a result, before TIM_SET_DONE is posted. -/
def State.setEnded (s : State) (r : Nat) : State :=
  { ((s.setFld F.timSetCmd_result r).setFld F.timSetCmd_busy 0).setFld F.timSts_set_pending 0 with tim := { s.tim with setAtPps := none } }

theorem State.endSetAtPps_eq (s : State) (r : Nat) : s.endSetAtPps r = (s.setEnded r).post 0x0502 [r, s.fld F.timSts_gen] := by
  unfold State.endSetAtPps State.setEnded
  simp (disch := decide) only [State.fld_setFld_other, State.setFld_tim]

theorem State.endSetAtPps_tim (s : State) (r : Nat) : (s.endSetAtPps r).tim = { s.tim with setAtPps := none } := by
  rw [State.endSetAtPps_eq, State.post_tim, State.setEnded]

theorem State.endSetAtPps_released (s : State) (r d : Nat) : (s.endSetAtPps r).released d = s.released d := by
  rw [State.endSetAtPps_eq, State.post_released_at]
  rfl

theorem State.endSetAtPps_fld (s : State) {r : Nat} (hr : r < 4) :
    (s.endSetAtPps r).fld F.timSetCmd_result = r ∧ (s.endSetAtPps r).fld F.timSetCmd_busy = 0 ∧ (s.endSetAtPps r).fld F.timSts_set_pending = 0 := by
  simp (disch := decide) only [State.endSetAtPps_eq, State.setEnded, State.post_fld_at, State.fld_withTim, State.fld_setFld_other, State.fld_setFld_same]
  exact ⟨Nat.mod_eq_of_lt hr, rfl, rfl⟩

theorem State.setEnded_postSame (s : State) (r : Nat) : PostSame s (s.setEnded r) := by
  unfold State.setEnded
  refine PostSame.withTim ?_ rfl rfl
  iterate 3 refine PostSame.setFld ?_ _ _ (by decide) (by decide) (by decide) (by decide)
  exact .refl s

theorem State.endSetAtPps_posted (s : State) (r : Nat) : Posted s (s.endSetAtPps r) 0x0502 [r, s.fld F.timSts_gen] := by
  rw [State.endSetAtPps_eq]
  exact .of_post (s.setEnded_postSame r) _ _

theorem State.endSetAtPps_flds (s : State) (r : Nat) : FldsBut [F.timSetCmd_result, F.timSetCmd_busy, F.timSts_set_pending] s (s.endSetAtPps r) := by
  rw [State.endSetAtPps_eq]
  refine FldsBut.post_ (FldsBut.tim ?_ _) _ _
  iterate 3 refine FldsBut.setFld ?_ _ (by simp) (by decide)
  exact .refl _ s

theorem State.endSetAtPps_frame (s : State) (r : Nat) : FrameBut [.regs, .tim, .evq, .cnt, .mem] s (s.endSetAtPps r) := by
  rw [State.endSetAtPps_eq]
  refine FrameBut.post (FrameBut.tim ?_ _ (by simp)) _ _ (by simp)
  iterate 3 refine FrameBut.setFld ?_ _ _ (by simp)
  exact .refl _ s

theorem State.cancelSetAtPps_none {s : State} (h : s.tim.setAtPps = none) : s.cancelSetAtPps = s := by
  simp [State.cancelSetAtPps, h]

theorem State.cancelSetAtPps_some {s : State} {sec : Nat} (h : s.tim.setAtPps = some sec) : s.cancelSetAtPps = s.endSetAtPps setCancelled := by
  simp [State.cancelSetAtPps, h]

/-- Once ended, there is nothing left to cancel. -/
theorem State.cancelSetAtPps_endSetAtPps (s : State) (r : Nat) : (s.endSetAtPps r).cancelSetAtPps = s.endSetAtPps r :=
  State.cancelSetAtPps_none (by rw [State.endSetAtPps_tim])

theorem State.timWrite_endSetAtPps (s : State) (m : Master) (r : Nat) : (s.endSetAtPps r).timWrite m = s.timWrite m := by
  simp only [State.timWrite, State.endSetAtPps_released]

theorem exec_setAtPpsTimeout {s : State} {sec : Nat} (h : s.tim.setAtPps = some sec) : exec .setAtPpsTimeout s = .next (s.endSetAtPps setTimeout) :=
  if_pos (by simp [h])

/-! ### SET, ADJUST and SET_AT_PPS (R260) -/

/-- SET once nothing waits. -/
def State.setRun (s : State) : State :=
  if 1000000000 ≤ s.fld F.timSetNs_ns then s.setFld F.timSetCmd_result setBadArg
  else (s.stepTime (((s.setSec * 1000000000 + s.fld F.timSetNs_ns) * 2 ^ 32 + s.fld F.timSetFrac_frac : Nat) : Int)).setFld F.timSetCmd_result setCompleted

/-- ADJUST once nothing waits. -/
def State.adjustRun (s : State) : State :=
  if s.fld F.timSetNs_ns = 0x80000000 then s.setFld F.timSetCmd_result setBadArg
  else (s.stepTime ((s.tbu : Int) + signed 32 (s.fld F.timSetNs_ns) * 2 ^ 32 + (s.fld F.timSetFrac_frac : Int))).setFld F.timSetCmd_result setCompleted

/-- SET_AT_PPS once nothing waits. -/
def State.setAtPpsRun (s : State) : State :=
  { (s.setFld F.timSetCmd_busy 1).setFld F.timSts_set_pending 1 with tim := { s.tim with setAtPps := some s.setSec } }

section

variable {s : State} {m : Master} (h : s.timWrite m = true)
include h

theorem exec_set : exec (.set_ m) s = .next s.cancelSetAtPps.setRun := by
  rw [State.setRun, apply_ite Host.Outcome.next]
  exact if_neg (by simp [h])

theorem exec_adjust : exec (.adjust m) s = .next s.cancelSetAtPps.adjustRun := by
  rw [State.adjustRun, apply_ite Host.Outcome.next]
  exact if_neg (by simp [h])

theorem exec_setAtPps : exec (.setAtPps m) s = .next s.cancelSetAtPps.setAtPpsRun := if_neg (by simp [h])

/-- A command that finds SET_AT_PPS waiting ends it CANCELLED and then runs. -/
theorem exec_set_waiting {sec : Nat} (hw : s.tim.setAtPps = some sec) :
    exec (.set_ m) s = exec (.set_ m) (s.endSetAtPps 3) ∧ exec (.adjust m) s = exec (.adjust m) (s.endSetAtPps 3) ∧
      exec (.setAtPps m) s = exec (.setAtPps m) (s.endSetAtPps 3) := by
  have h' : (s.endSetAtPps 3).timWrite m = true := (s.timWrite_endSetAtPps m 3).trans h
  rw [exec_set h, exec_set h', exec_adjust h, exec_adjust h', exec_setAtPps h, exec_setAtPps h', State.cancelSetAtPps_endSetAtPps,
    State.cancelSetAtPps_some hw]
  exact ⟨rfl, rfl, rfl⟩

end

/-- Any step of the time base that a command completes. -/
theorem State.stepTime_completed (s : State) (v : Int) :
    let t := (s.stepTime v).setFld F.timSetCmd_result setCompleted
    t.tbu = (v % (tbuMod : Int)).toNat ∧ t.tim = { s.tim with sec := t.tim.sec, ns := t.tim.ns, frac := t.tim.frac } ∧
      t.fld F.timSts_gen = (s.fld F.timSts_gen + 1) % 2 ^ 16 ∧ t.fld F.timSetCmd_result = 0 ∧
      FldsBut [F.timSts_gen, F.timSetCmd_result] s t ∧ FrameBut [.regs, .tim] s t := by
  intro t
  have htim : t.tim = (s.putTbu v).tim := State.setFld_tim _ _ _
  refine ⟨(State.tbu_congr htim).trans (s.tbu_putTbu v), htim ▸ s.putTbu_tim v, ?_, State.fld_setFld_same _ _ _ (by decide), ((s.stepTime_flds v).mono (by simp)).setFld _ (by simp) (by decide),
    (s.stepTime_frame v).setFld _ _ (by simp)⟩
  rw [State.fld_setFld_other _ _ (by decide) (by decide), State.stepTime_gen]

/-- A command refused BAD_ARG shows its result and nothing else. -/
theorem State.setBadArg_shown (s : State) :
    (s.setFld F.timSetCmd_result setBadArg).fld F.timSetCmd_result = 1 ∧ FldsBut [F.timSetCmd_result] s (s.setFld F.timSetCmd_result setBadArg) ∧
      FrameBut [.regs] s (s.setFld F.timSetCmd_result setBadArg) :=
  ⟨State.fld_setFld_same _ _ _ (by decide), (FldsBut.refl _ s).setFld _ (by simp) (by decide), (FrameBut.refl _ s).setFld _ _ (by simp)⟩

theorem State.setRun_badArg {s : State} (h : 1000000000 ≤ s.fld F.timSetNs_ns) : s.setRun = s.setFld F.timSetCmd_result setBadArg := if_pos h

theorem State.adjustRun_badArg {s : State} (h : s.fld F.timSetNs_ns = 0x80000000) : s.adjustRun = s.setFld F.timSetCmd_result setBadArg := if_pos h

theorem State.adjustRun_step {s : State} (h : s.fld F.timSetNs_ns ≠ 0x80000000) :
    s.adjustRun = (s.stepTime ((s.tbu : Int) + signed 32 (s.fld F.timSetNs_ns) * 2 ^ 32 + (s.fld F.timSetFrac_frac : Int))).setFld F.timSetCmd_result
      setCompleted := if_neg h

theorem State.setRun_step {s : State} (h : s.fld F.timSetNs_ns < 1000000000) :
    s.setRun = (s.stepTime (((s.setSec * 1000000000 + s.fld F.timSetNs_ns) * 2 ^ 32 + s.fld F.timSetFrac_frac : Nat) : Int)).setFld F.timSetCmd_result
      setCompleted := if_neg (by omega)

/-- TIM_SET_SEC holds 48 bits. -/
theorem State.setSec_lt (s : State) : s.setSec < 2 ^ 48 := by
  have hhi : s.fld F.timSetSecHi_sec < 2 ^ 16 := s.fld_lt F.timSetSecHi_sec
  have hlo : s.fld F.timSetSecLo_sec < 2 ^ 32 := s.fld_lt F.timSetSecLo_sec
  unfold State.setSec
  omega

/-- SET loads the time base from its operands. -/
theorem State.setRun_tim {s : State} (h : s.fld F.timSetNs_ns < 1000000000) :
    s.setRun.tim = { s.tim with sec := s.setSec, ns := s.fld F.timSetNs_ns, frac := s.fld F.timSetFrac_frac } := by
  rw [State.setRun_step h, State.setFld_tim, State.stepTime_tim]
  exact s.putTbu_parts s.setSec_lt h (s.fld_lt F.timSetFrac_frac)

theorem State.setAtPpsRun_spec (s : State) :
    s.setAtPpsRun.fld F.timSetCmd_busy = 1 ∧ s.setAtPpsRun.fld F.timSts_set_pending = 1 ∧
      FldsBut [F.timSetCmd_busy, F.timSts_set_pending] s s.setAtPpsRun ∧ FrameBut [.regs, .tim] s s.setAtPpsRun := by
  unfold State.setAtPpsRun
  refine ⟨?_, ?_, ?_, ?_⟩
  · rw [State.fld_withTim, State.fld_setFld_other _ _ (by decide) (by decide), State.fld_setFld_same _ _ _ (by decide)]
    rfl
  · rw [State.fld_withTim, State.fld_setFld_same _ _ _ (by decide)]
    rfl
  · exact (((FldsBut.refl _ s).setFld _ (by simp) (by decide)).setFld _ (by simp) (by decide)).tim _
  · exact (((FrameBut.refl _ s).setFld _ _ (by simp)).setFld _ _ (by simp)).tim _ (by simp)

/-! ### The increment (R259) -/

theorem exec_incCommit_inRange {s : State} {m : Master} (h : s.timWrite m = true) (hlo : 0x99652BD4 ≤ s.tim.incHeld) (hhi : s.tim.incHeld ≤ 0x99CE075F) :
    exec (.incCommit m 1) s = .next { (s.setFld F.timIncFrac_frac s.tim.incHeld).setFld F.timIncNs_ns 1 with
      tim := { s.tim with incNs := 1, incFrac := s.tim.incHeld } } := by
  show execIncCommit s m 1 = _
  unfold execIncCommit
  rw [if_neg (by simp [h]), if_pos ⟨rfl, hlo, hhi⟩]
  simp only [State.setFld_tim, show (1 : BitVec 4).toNat = 1 from rfl]

theorem exec_incCommit_outOfRange {s : State} {m : Master} (h : s.timWrite m = true) {ns : BitVec 4}
    (hout : ns ≠ 1 ∨ s.tim.incHeld < 0x99652BD4 ∨ 0x99CE075F < s.tim.incHeld) :
    exec (.incCommit m ns) s = .next ((s.setFld F.timSts_inc_rejected 1).post 0x0501 []) :=
  (if_neg (by simp [h])).trans (if_neg (by rintro ⟨hns, hlo, hhi⟩; simp only [hns, ne_eq, not_true, false_or] at hout; omega))

/-- An increment in range is put in force and shown. -/
theorem exec_incCommit_taken {s : State} {m : Master} (h : s.timWrite m = true) (hlo : 0x99652BD4 ≤ s.tim.incHeld) (hhi : s.tim.incHeld ≤ 0x99CE075F) :
    ∃ t, exec (.incCommit m 1) s = .next t ∧ t.tim = { s.tim with incNs := 1, incFrac := s.tim.incHeld } ∧ t.fld F.timIncFrac_frac = s.tim.incHeld ∧
      t.fld F.timIncNs_ns = 1 ∧ FldsBut [F.timIncFrac_frac, F.timIncNs_ns] s t ∧ FrameBut [.regs, .tim] s t := by
  refine ⟨_, exec_incCommit_inRange h hlo hhi, rfl, ?_, ?_, ?_, ?_⟩
  · rw [State.fld_withTim, State.fld_setFld_other _ _ (by decide) (by decide), State.fld_setFld_same _ _ _ (by decide)]
    exact Nat.mod_eq_of_lt (hhi.trans_lt (by decide))
  · rw [State.fld_withTim, State.fld_setFld_same _ _ _ (by decide)]
    rfl
  · exact (((FldsBut.refl _ s).setFld _ (by simp) (by decide)).setFld _ (by simp) (by decide)).tim _
  · exact (((FrameBut.refl _ s).setFld _ _ (by simp)).setFld _ _ (by simp)).tim _ (by simp)

/-- One out of range is refused with TIM_INC_REJECT. -/
theorem exec_incCommit_rejected {s : State} {m : Master} (h : s.timWrite m = true) {ns : BitVec 4}
    (hout : ns ≠ 1 ∨ s.tim.incHeld < 0x99652BD4 ∨ 0x99CE075F < s.tim.incHeld) :
    ∃ t, exec (.incCommit m ns) s = .next t ∧ t.fld F.timSts_inc_rejected = 1 ∧ Posted s t 0x0501 [] ∧ FldsBut [F.timSts_inc_rejected] s t ∧
      FrameBut [.regs, .evq, .cnt, .mem] s t := by
  refine ⟨_, exec_incCommit_outOfRange h hout, ?_, ?_, ?_, ?_⟩
  · rw [State.post_fld_at, State.fld_setFld_same _ _ _ (by decide)]
    rfl
  · exact .of_post ((PostSame.refl s).setFld _ _ (by decide) (by decide) (by decide) (by decide)) _ _
  · exact ((FldsBut.refl _ s).setFld _ (by simp) (by decide)).post_ _ _
  · exact ((FrameBut.refl _ s).setFld _ _ (by simp)).post _ _ (by simp)

/-- Without a master that may write TIM, or with the domain held, the commands that set the time have no effect. -/
theorem exec_setting_unserved {s : State} {m : Master} (h : s.timWrite m = false) (ns : BitVec 4) :
    exec (.set_ m) s = .next s ∧ exec (.adjust m) s = .next s ∧ exec (.setAtPps m) s = .next s ∧ exec (.incCommit m ns) s = .next s := by
  have hno : (!s.timWrite m) = true := by rw [h]; rfl
  exact ⟨if_pos hno, if_pos hno, if_pos hno, if_pos hno⟩

end Sys2Proof.Machine

namespace Sys2Proof.Proofs

open Sys2Proof.Machine Sys2Proof.Safety

/-- Settles O56, by the commands: first with no SET_AT_PPS waiting, then the end of one that waits, then the increment. -/
theorem timeSetting : Obligations.timeSetting := by
  refine ⟨fun m s hrel hm hnone => ?_, fun s r sec hw hr => ?_, fun m s sec hrel hm => exec_set_waiting (State.timWrite_of hrel hm),
    fun s sec => exec_setAtPpsTimeout, fun m s hrel hm => ?_, fun m ns s h => exec_setting_unserved (State.timWrite_eq_false h) ns⟩
  · have h := State.timWrite_of hrel hm
    rw [exec_set h, exec_adjust h, exec_setAtPps h, State.cancelSetAtPps_none hnone]
    refine ⟨fun hns => ?_, fun hns => ⟨_, rfl, ?_⟩, fun hns => ⟨_, rfl, ?_⟩, fun hns => ⟨_, rfl, ?_⟩, ⟨_, rfl, rfl, s.setAtPpsRun_spec⟩⟩
    · have hdone := s.stepTime_completed (((s.setSec * 1000000000 + s.fld F.timSetNs_ns) * 2 ^ 32 + s.fld F.timSetFrac_frac : Nat) : Int)
      rw [← State.setRun_step hns] at hdone
      obtain ⟨-, -, hrest⟩ := hdone
      exact ⟨_, rfl, State.setRun_tim hns, hrest⟩
    · rw [State.setRun_badArg hns]
      exact s.setBadArg_shown
    · rw [State.adjustRun_step hns]
      exact s.stepTime_completed _
    · rw [State.adjustRun_badArg hns]
      exact s.setBadArg_shown
  · obtain ⟨hresult, hbusy, hpending⟩ := s.endSetAtPps_fld hr
    exact ⟨s.endSetAtPps_tim r, hresult, hbusy, hpending, s.endSetAtPps_posted r, s.endSetAtPps_flds r, s.endSetAtPps_frame r⟩
  · have h := State.timWrite_of hrel hm
    exact ⟨exec_incCommit_taken h, fun ns => exec_incCommit_rejected h⟩

end Sys2Proof.Proofs
end

section
/-! Proofs about the reads of the time base that latch or remove. -/

namespace Sys2Proof.Safety

open Sys2Proof.Machine

theorem FrameBut.latch {l : List Part} {s t : State} (h : FrameBut l s t) (m : Master) (a v : Nat) (hl : .latches ∈ l) : FrameBut l s (t.latch m a v) :=
  h.latches _ hl

theorem FrameBut.reply {l : List Part} {s t : State} (h : FrameBut l s t) (d : List Nat) (hl : .resp ∈ l) : FrameBut l s (t.reply d) := h.resp _ hl

end Sys2Proof.Safety

namespace Sys2Proof.Machine

open Sys2Proof.Safety

/-! ### Latched words (R11) -/

theorem State.find_latch_same (s : State) (m : Master) (a v : Nat) :
    Tbl.find (s.latch m a v).latches (latchKey m a) none = some (BitVec.ofNat 32 v) := by
  simp [State.latch]

theorem State.find_latch_other (s : State) (m : Master) {a b : Nat} (v : Nat) (h : b ≠ a) :
    Tbl.find (s.latch m a v).latches (latchKey m b) none = Tbl.find s.latches (latchKey m b) none := by
  have hkey : latchKey m b ≠ latchKey m a := by
    unfold latchKey
    omega
  simp [State.latch, Tbl.find_put_other _ _ _ _ hkey]

/-- Three words latched at addresses apart are all there. -/
theorem State.find_latch_three (s : State) (m : Master) {a b c : Nat} (x y z : Nat) (hab : a ≠ b) (hac : a ≠ c) (hbc : b ≠ c) :
    let t := ((s.latch m a x).latch m b y).latch m c z
    Tbl.find t.latches (latchKey m a) none = some (BitVec.ofNat 32 x) ∧ Tbl.find t.latches (latchKey m b) none = some (BitVec.ofNat 32 y) ∧
      Tbl.find t.latches (latchKey m c) none = some (BitVec.ofNat 32 z) := by
  refine ⟨?_, ?_, State.find_latch_same _ _ _ _⟩
  · rw [State.find_latch_other _ _ _ hac, State.find_latch_other _ _ _ hab, State.find_latch_same]
  · rw [State.find_latch_other _ _ _ hbc, State.find_latch_same]

/-- A field of all 32 bits reads as its register's word. -/
theorem State.ofNat_fld_word (s : State) {f : Fld} (hlo : f.lo = 0) (hwidth : f.width = 32) : BitVec.ofNat 32 (s.fld f) = s.reg f.addr := by
  rw [State.fld, getBits, hlo, hwidth, pow_zero, Nat.div_one, Nat.mod_eq_of_lt (s.reg f.addr).isLt, BitVec.ofNat_toNat, BitVec.setWidth_eq]

/-! ### TIM_NOW_NS and PCH_SFC_LO (R68, R261) -/

theorem exec_timeNowRead {s : State} {m : Master} (hrel : s.released 1 = true) (hm : reaches m = true) :
    exec (.timeNowRead m) s = .next ((((s.latch m F.timNowFrac.addr s.tim.frac).latch m F.timNowSecLo.addr s.tim.sec).latch m F.timNowSecHi.addr
      (s.tim.sec / 2 ^ 32)).reply [s.tim.ns]) := if_neg (by simp [hrel, hm])

theorem exec_timeNowRead_latches {s : State} {m : Master} (hrel : s.released 1 = true) (hm : reaches m = true) :
    ∃ t, exec (.timeNowRead m) s = .next t ∧ t.resp = { ur := false, data := [BitVec.ofNat 32 s.tim.ns] } ∧
      Tbl.find t.latches (latchKey m F.timNowFrac.addr) none = some (BitVec.ofNat 32 s.tim.frac) ∧
      Tbl.find t.latches (latchKey m F.timNowSecLo.addr) none = some (BitVec.ofNat 32 s.tim.sec) ∧
      Tbl.find t.latches (latchKey m F.timNowSecHi.addr) none = some (BitVec.ofNat 32 (s.tim.sec / 2 ^ 32)) ∧ FrameBut [.resp, .latches] s t := by
  obtain ⟨hfrac, hlo, hhi⟩ := s.find_latch_three m s.tim.frac s.tim.sec (s.tim.sec / 2 ^ 32) (a := F.timNowFrac.addr) (b := F.timNowSecLo.addr)
    (c := F.timNowSecHi.addr) (by decide) (by decide) (by decide)
  refine ⟨_, exec_timeNowRead hrel hm, rfl, hfrac, hlo, hhi, FrameBut.reply ?_ _ (by simp)⟩
  iterate 3 refine FrameBut.latch ?_ _ _ _ (by simp)
  exact .refl _ s

theorem exec_sfcRead {s : State} {m : Master} (c : Chan) (hrel : s.released 7 = true) (hm : reaches m = true) :
    exec (.sfcRead m c) s = .next ((((s.latch m (F.pchSfcHi c.toNat).addr (s.fld (F.pchSfcHi_sfc c.toNat))).latch m (F.pchFstartSec c.toNat).addr
      (s.fld (F.pchFstartSec_sec c.toNat))).latch m (F.pchFstartNs c.toNat).addr (s.fld (F.pchFstartNs_ns c.toNat))).reply
      [s.fld (F.pchSfcLo_sfc c.toNat)]) := if_neg (by simp [hrel, hm])

theorem exec_sfcRead_latches {s : State} {m : Master} (c : Chan) (hrel : s.released 7 = true) (hm : reaches m = true) :
    ∃ t, exec (.sfcRead m c) s = .next t ∧ t.resp = { ur := false, data := [s.reg (F.pchSfcLo c.toNat).addr] } ∧
      Tbl.find t.latches (latchKey m (F.pchSfcHi c.toNat).addr) none = some (BitVec.ofNat 32 (s.fld (F.pchSfcHi_sfc c.toNat))) ∧
      Tbl.find t.latches (latchKey m (F.pchFstartSec c.toNat).addr) none = some (s.reg (F.pchFstartSec c.toNat).addr) ∧
      Tbl.find t.latches (latchKey m (F.pchFstartNs c.toNat).addr) none = some (BitVec.ofNat 32 (s.fld (F.pchFstartNs_ns c.toNat))) ∧
      FrameBut [.resp, .latches] s t := by
  have hword : BitVec.ofNat 32 (s.fld (F.pchSfcLo_sfc c.toNat)) = s.reg (F.pchSfcLo c.toNat).addr := s.ofNat_fld_word rfl rfl
  have hsec : BitVec.ofNat 32 (s.fld (F.pchFstartSec_sec c.toNat)) = s.reg (F.pchFstartSec c.toNat).addr := s.ofNat_fld_word rfl rfl
  obtain ⟨hhi, hstart, hns⟩ := s.find_latch_three m (s.fld (F.pchSfcHi_sfc c.toNat)) (s.fld (F.pchFstartSec_sec c.toNat)) (s.fld (F.pchFstartNs_ns c.toNat))
    (a := (F.pchSfcHi c.toNat).addr) (b := (F.pchFstartSec c.toNat).addr) (c := (F.pchFstartNs c.toNat).addr) (by simp [F.pchSfcHi, F.pchFstartSec])
    (by simp [F.pchSfcHi, F.pchFstartNs]) (by simp [F.pchFstartSec, F.pchFstartNs])
  rw [hsec] at hstart
  refine ⟨_, exec_sfcRead c hrel hm, by rw [← hword]; rfl, hhi, hstart, hns, FrameBut.reply ?_ _ (by simp)⟩
  iterate 3 refine FrameBut.latch ?_ _ _ _ (by simp)
  exact .refl _ s

/-! ### TIM_TSQ_W0 (R265) -/

theorem exec_tsqRead_empty {s : State} {m : Master} {u : Uplink} (h : s.timWrite m = true) (hq : Tbl.find s.tim.tsq u.toNat [] = []) :
    exec (.tsqRead m u) s = .next (s.reply [0]) := by
  show execTsqRead s m u = _
  simp [execTsqRead, h, hq]

theorem exec_tsqRead_unserved {s : State} {m : Master} (u : Uplink) (h : s.timWrite m = false) : exec (.tsqRead m u) s = .next (s.reply [0]) :=
  if_pos (by simp [h])

/-- The queue with its oldest entry out. -/
def State.tsqTaken (s : State) (u : Nat) (r : List TsqEnt) : State :=
  ({ s with tim := { s.tim with tsq := Tbl.put s.tim.tsq u [] r } }).setFld (F.timTsqSts_count u) r.length

theorem exec_tsqRead_entry {s : State} {m : Master} {u : Uplink} {e : TsqEnt} {r : List TsqEnt} (h : s.timWrite m = true)
    (hq : Tbl.find s.tim.tsq u.toNat [] = e :: r) :
    exec (.tsqRead m u) s = .next ((((s.tsqTaken u.toNat r).latch m (F.timTsqW1 u.toNat).addr e.w1).latch m (F.timTsqW2 u.toNat).addr e.w2).reply [e.w0]) := by
  show execTsqRead s m u = _
  simp only [execTsqRead, h, hq, Bool.not_true, Bool.false_eq_true, if_false]
  rfl

theorem exec_tsqRead_takes {s : State} {m : Master} {u : Uplink} {e : TsqEnt} {r : List TsqEnt} (h : s.timWrite m = true)
    (hq : Tbl.find s.tim.tsq u.toNat [] = e :: r) :
    ∃ t, exec (.tsqRead m u) s = .next t ∧ t.resp = { ur := false, data := [BitVec.ofNat 32 e.w0] } ∧
      t.tim = { s.tim with tsq := Tbl.put s.tim.tsq u.toNat [] r } ∧ t.fld (F.timTsqSts_count u.toNat) = r.length % 2 ^ 7 ∧
      Tbl.find t.latches (latchKey m (F.timTsqW1 u.toNat).addr) none = some (BitVec.ofNat 32 e.w1) ∧
      Tbl.find t.latches (latchKey m (F.timTsqW2 u.toNat).addr) none = some (BitVec.ofNat 32 e.w2) ∧
      FldsBut [F.timTsqSts_count u.toNat] s t ∧ FrameBut [.resp, .latches, .tim, .regs] s t := by
  have hfits : (F.timTsqSts_count u.toNat).lo + (F.timTsqSts_count u.toNat).width ≤ 32 := by simp [F.timTsqSts_count]
  have hapart : (F.timTsqW1 u.toNat).addr ≠ (F.timTsqW2 u.toNat).addr := by simp [F.timTsqW1, F.timTsqW2]
  refine ⟨_, exec_tsqRead_entry h hq, rfl, rfl, ?_, ?_, State.find_latch_same _ _ _ _, ?_, ?_⟩
  · rw [State.reply_fld_at, State.latch_fld_at, State.latch_fld_at, State.tsqTaken, State.fld_setFld_same _ _ _ hfits]
    rfl
  · rw [State.reply_latches, State.find_latch_other _ _ _ hapart, State.find_latch_same]
  · exact (((((FldsBut.refl _ s).tim _).setFld _ (by simp) hfits).latch_ _ _ _).latch_ _ _ _).reply_ _
  · exact (((((FrameBut.refl _ s).tim _ (by simp)).setFld _ _ (by simp)).latch _ _ _ (by simp)).latch _ _ _ (by simp)).reply _ (by simp)

/-! ### TIM_PPSI_NS and TIM_TODI_DATA (R268) -/

theorem exec_ppsiRead {s : State} {m : Master} (hrel : s.released 1 = true) (hm : reaches m = true) :
    exec (.ppsiRead m) s = .next (((s.latch m F.timPpsiHi.addr (s.fld F.timPpsiHi_hi)).setFld F.timPpsiHi_hi (s.fld F.timPpsiHi_hi / 2 * 2)).reply
      [s.fld F.timPpsiNs_ns]) := if_neg (by simp [hrel, hm])

theorem exec_ppsiRead_latches {s : State} {m : Master} (hrel : s.released 1 = true) (hm : reaches m = true) :
    ∃ t, exec (.ppsiRead m) s = .next t ∧ t.resp = { ur := false, data := [s.reg F.timPpsiNs.addr] } ∧
      Tbl.find t.latches (latchKey m F.timPpsiHi.addr) none = some (s.reg F.timPpsiHi.addr) ∧ t.fld F.timPpsiHi_hi = s.fld F.timPpsiHi_hi / 2 * 2 ∧
      FldsBut [F.timPpsiHi_hi] s t ∧ FrameBut [.resp, .latches, .regs] s t := by
  have hns : BitVec.ofNat 32 (s.fld F.timPpsiNs_ns) = s.reg F.timPpsiNs.addr := s.ofNat_fld_word rfl rfl
  have hhi : BitVec.ofNat 32 (s.fld F.timPpsiHi_hi) = s.reg F.timPpsiHi.addr := s.ofNat_fld_word rfl rfl
  have hlt : s.fld F.timPpsiHi_hi / 2 * 2 < 2 ^ 32 := (Nat.div_mul_le_self _ 2).trans_lt (s.fld_lt F.timPpsiHi_hi)
  refine ⟨_, exec_ppsiRead hrel hm, by rw [← hns]; rfl, ?_, ?_, ?_, ?_⟩
  · rw [State.reply_latches, State.setFld_latches, State.find_latch_same, hhi]
  · rw [State.reply_fld_at, State.fld_setFld_same _ _ _ (by decide)]
    exact Nat.mod_eq_of_lt hlt
  · exact (((FldsBut.refl _ s).latch_ _ _ _).setFld _ (by simp) (by decide)).reply_ _
  · exact (((FrameBut.refl _ s).latch _ _ _ (by simp)).setFld _ _ (by simp)).reply _ (by simp)

theorem exec_todiRead_empty {s : State} {m : Master} (hrel : s.released 1 = true) (hm : reaches m = true) (hq : s.tim.todi = []) :
    exec (.todiRead m) s = .next (s.reply [0]) := by
  show execTodiRead s m = _
  simp [execTodiRead, hrel, hm, hq]

theorem exec_todiRead_byte {s : State} {m : Master} {b : Nat} {r : List Nat} (hrel : s.released 1 = true) (hm : reaches m = true) (hq : s.tim.todi = b :: r) :
    exec (.todiRead m) s = .next ((({ s with tim := { s.tim with todi := r } }).setFld F.timTodiSts_bytes r.length).reply [256 + b]) := by
  show execTodiRead s m = _
  simp only [execTodiRead, hrel, hm, hq, Bool.not_true, Bool.or_self, Bool.false_eq_true, if_false]

theorem exec_todiRead_takes {s : State} {m : Master} {b : Nat} {r : List Nat} (hrel : s.released 1 = true) (hm : reaches m = true) (hq : s.tim.todi = b :: r) :
    ∃ t, exec (.todiRead m) s = .next t ∧ t.resp = { ur := false, data := [BitVec.ofNat 32 (256 + b)] } ∧ t.tim = { s.tim with todi := r } ∧
      t.fld F.timTodiSts_bytes = r.length % 2 ^ 7 ∧ FldsBut [F.timTodiSts_bytes] s t ∧ FrameBut [.resp, .tim, .regs] s t := by
  refine ⟨_, exec_todiRead_byte hrel hm hq, rfl, rfl, ?_, (((FldsBut.refl _ s).tim _).setFld _ (by simp) (by decide)).reply_ _,
    (((FrameBut.refl _ s).tim _ (by simp)).setFld _ _ (by simp)).reply _ (by simp)⟩
  rw [State.reply_fld_at, State.fld_setFld_same _ _ _ (by decide)]
  rfl

end Sys2Proof.Machine

namespace Sys2Proof.Proofs

open Sys2Proof.Machine Sys2Proof.Safety

/-- Settles O57, by the five reads; those that remove, by whether there is something to remove. -/
theorem timeReads : Obligations.timeReads := by
  refine ⟨fun m s => exec_timeNowRead_latches, fun m c s => exec_sfcRead_latches c, fun m u s hrel hm => ?_,
    fun m u s _ hm => exec_tsqRead_unserved u (State.timWrite_eq_false (.inr hm)), fun m s => exec_ppsiRead_latches, fun m s hrel hm => ?_⟩
  · have h := State.timWrite_of hrel hm
    exact ⟨exec_tsqRead_empty h, fun e r => exec_tsqRead_takes h⟩
  · exact ⟨exec_todiRead_empty hrel hm, fun b r => exec_todiRead_takes hrel hm⟩

end Sys2Proof.Proofs
end

section
/-! Proofs about the pins of the time base: PPS and the ToD serial ports. -/

namespace Sys2Proof.Safety

open Sys2Proof.Machine

/-- A field apart from those listed reads as before; for fields given by their bits, by deciding. -/
theorem FldsBut.fld_apart {l : List Fld} {s t : State} (h : FldsBut l s t) {g : Fld}
    (hg : ∀ f ∈ l, g.addr ≠ f.addr ∨ g.lo + g.width ≤ f.lo ∨ f.lo + f.width ≤ g.lo) : t.fld g = s.fld g := h g hg

end Sys2Proof.Safety

namespace Sys2Proof.Machine

open Sys2Proof.Safety

/-! ### PPS_IN (R260, R263, R268) -/

/-- The part of the tick that passed before an edge, in 2^-32 ns. -/
def State.ppsPart (s : State) (ph : BitVec 7) : Nat := ph.toNat * s.incTbu / 128

/-- in_cal in 2^-32 ns. -/
def State.ppsCal (s : State) : Int := signed 16 (s.fld F.timPpsCal_in_cal) * 2 ^ 26

/-- The stamp of an edge. -/
def State.ppsStamp (s : State) (ph : BitVec 7) : Stamp := stampOf (((s.tbu + s.ppsPart ph : Nat) : Int) - s.ppsCal)

/-- An edge stamped, fresh and counted. -/
def State.ppsStamped (s : State) (x : Stamp) : State :=
  let t := ((s.setFld F.timPpsiNs_ns x.ns).setFld F.timPpsiHi_hi (x.hi + 1)).count Cn.ppsInEdges 0
  { t with tim := { t.tim with ppsLost := false } }

theorem State.ppsStamped_tim (s : State) (x : Stamp) : (s.ppsStamped x).tim = { s.tim with ppsLost := false } := by
  simp only [State.ppsStamped, State.count_tim, State.setFld_tim]

theorem State.ppsStamped_cnt (s : State) (x : Stamp) : (s.ppsStamped x).cnt = (s.count Cn.ppsInEdges 0).cnt := by
  simp only [State.ppsStamped]
  exact State.count_congr _ _ (by simp only [State.setFld_cnt]) (by simp only [State.setFld_chain]) _ _

theorem State.ppsStamped_fld (s : State) (x : Stamp) :
    (s.ppsStamped x).fld F.timPpsiNs_ns = x.ns % 2 ^ 32 ∧ (s.ppsStamped x).fld F.timPpsiHi_hi = (x.hi + 1) % 2 ^ 32 := by
  simp (disch := decide) only [State.ppsStamped, State.fld_withTim, State.count_fld_at, State.fld_setFld_other, State.fld_setFld_same]
  exact ⟨rfl, rfl⟩

theorem State.ppsStamped_flds (s : State) (x : Stamp) : FldsBut [F.timPpsiNs_ns, F.timPpsiHi_hi] s (s.ppsStamped x) :=
  ((((FldsBut.refl _ s).setFld _ (by simp) (by decide)).setFld _ (by simp) (by decide)).count_ _ _).tim _

theorem State.ppsStamped_frame (s : State) (x : Stamp) : FrameBut [.regs, .tim, .cnt] s (s.ppsStamped x) :=
  ((((FrameBut.refl _ s).setFld _ _ (by simp)).setFld _ _ (by simp)).count _ _ (by simp)).tim _ (by simp)

/-- A waiting SET_AT_PPS completed at an edge: the time base is set so that the edge less in_cal reads the seconds taken. -/
def State.setAtEdge (s : State) (ph : BitVec 7) (sec : Nat) : State :=
  ((s.ppsStamped (s.ppsStamp ph)).stepTime (((sec * 1000000000 * 2 ^ 32 : Nat) : Int) - (s.ppsPart ph : Nat) + s.ppsCal)).endSetAtPps setCompleted

section

variable {s : State} (ph : BitVec 7) (hrel : s.released 1 = true) (hen : s.flag F.timCtrl_pps_in_en = true)
include hrel hen

theorem exec_ppsInEdge :
    exec (.ppsInEdge ph) s = match s.tim.setAtPps with
      | none => .next (s.ppsStamped (s.ppsStamp ph))
      | some sec => .next (s.setAtEdge ph sec) := by
  have hwaits : (s.ppsStamped (s.ppsStamp ph)).tim.setAtPps = s.tim.setAtPps := by rw [State.ppsStamped_tim]
  rw [← hwaits]
  exact if_neg (by simp [hrel, hen])

theorem exec_ppsInEdge_free (hnone : s.tim.setAtPps = none) : exec (.ppsInEdge ph) s = .next (s.ppsStamped (s.ppsStamp ph)) := by
  rw [exec_ppsInEdge ph hrel hen, hnone]

theorem exec_ppsInEdge_sets {sec : Nat} (hw : s.tim.setAtPps = some sec) : exec (.ppsInEdge ph) s = .next (s.setAtEdge ph sec) := by
  rw [exec_ppsInEdge ph hrel hen, hw]

end

theorem State.tbu_endSetAtPps (s : State) (r : Nat) : (s.endSetAtPps r).tbu = s.tbu := by
  simp only [State.tbu, State.nowNs, State.endSetAtPps_tim]

theorem State.tbu_stepTime (s : State) (v : Int) : (s.stepTime v).tbu = (v % (tbuMod : Int)).toNat :=
  (State.tbu_congr (s.stepTime_tim v)).trans (s.tbu_putTbu v)

theorem State.setAtEdge_tim (s : State) (ph : BitVec 7) (sec : Nat) :
    (s.setAtEdge ph sec).tbu = ((((sec * 1000000000 * 2 ^ 32 : Nat) : Int) - (s.ppsPart ph : Nat) + s.ppsCal) % (tbuMod : Int)).toNat ∧
      (s.setAtEdge ph sec).tim.setAtPps = none := by
  unfold State.setAtEdge
  rw [State.tbu_endSetAtPps, State.tbu_stepTime, State.endSetAtPps_tim]
  exact ⟨rfl, rfl⟩

theorem State.setAtEdge_fld (s : State) (ph : BitVec 7) (sec : Nat) :
    (s.setAtEdge ph sec).fld F.timPpsiNs_ns = (s.ppsStamp ph).ns % 2 ^ 32 ∧ (s.setAtEdge ph sec).fld F.timPpsiHi_hi = ((s.ppsStamp ph).hi + 1) % 2 ^ 32 ∧
      (s.setAtEdge ph sec).fld F.timSts_gen = (s.fld F.timSts_gen + 1) % 2 ^ 16 := by
  obtain ⟨hns, hhi⟩ := s.ppsStamped_fld (s.ppsStamp ph)
  have hgen : (s.ppsStamped (s.ppsStamp ph)).fld F.timSts_gen = s.fld F.timSts_gen := (s.ppsStamped_flds _).fld_apart (by decide)
  unfold State.setAtEdge
  rw [(State.endSetAtPps_flds _ _).fld_apart (g := F.timPpsiNs_ns) (by decide), (State.endSetAtPps_flds _ _).fld_apart (g := F.timPpsiHi_hi) (by decide),
    (State.endSetAtPps_flds _ _).fld_apart (g := F.timSts_gen) (by decide), (State.stepTime_flds _ _).fld_apart (g := F.timPpsiNs_ns) (by decide),
    (State.stepTime_flds _ _).fld_apart (g := F.timPpsiHi_hi) (by decide), State.stepTime_gen, hgen]
  exact ⟨hns, hhi, rfl⟩

theorem State.setAtEdge_flds (s : State) (ph : BitVec 7) (sec : Nat) :
    FldsBut [F.timPpsiNs_ns, F.timPpsiHi_hi, F.timSts_gen, F.timSetCmd_result, F.timSetCmd_busy, F.timSts_set_pending] s (s.setAtEdge ph sec) :=
  ((State.ppsStamped_flds s _).mono (by simp)).trans (((State.stepTime_flds _ _).mono (by simp)).trans ((State.endSetAtPps_flds _ _).mono (by simp)))

theorem State.setAtEdge_frame (s : State) (ph : BitVec 7) (sec : Nat) : FrameBut [.regs, .tim, .cnt, .evq, .mem] s (s.setAtEdge ph sec) :=
  ((State.ppsStamped_frame s _).mono (by simp)).trans (((State.stepTime_frame _ _).mono (by simp)).trans ((State.endSetAtPps_frame _ _).mono (by simp)))

theorem exec_ppsInLoss {s : State} (hrel : s.released 1 = true) (hen : s.flag F.timCtrl_pps_in_en = true) (hlost : s.tim.ppsLost = false) :
    exec .ppsInLoss s = .next (({ s.setFld F.timSts_pps_in_loss 1 with tim := { s.tim with ppsLost := true } }).post 0x0506 []) :=
  if_neg (by simp [hrel, hen, hlost])

theorem exec_ppsInLoss_posts {s : State} (hrel : s.released 1 = true) (hen : s.flag F.timCtrl_pps_in_en = true) (hlost : s.tim.ppsLost = false) :
    ∃ t, exec .ppsInLoss s = .next t ∧ t.fld F.timSts_pps_in_loss = 1 ∧ t.tim = { s.tim with ppsLost := true } ∧ Posted s t 0x0506 [] ∧
      FldsBut [F.timSts_pps_in_loss] s t ∧ FrameBut [.regs, .tim, .cnt, .evq, .mem] s t := by
  have hset : PostSame s (s.setFld F.timSts_pps_in_loss 1) := (PostSame.refl s).setFld _ _ (by decide) (by decide) (by decide) (by decide)
  have hsame : PostSame s { s.setFld F.timSts_pps_in_loss 1 with tim := { s.tim with ppsLost := true } } := hset.withTim rfl rfl
  refine ⟨_, exec_ppsInLoss hrel hen hlost, ?_, State.post_tim _ _ _, .of_post hsame _ _, ?_, ?_⟩
  · rw [State.post_fld_at, State.fld_withTim, State.fld_setFld_same _ _ _ (by decide)]
    rfl
  · exact (((FldsBut.refl _ s).setFld _ (by simp) (by decide)).tim _).post_ _ _
  · exact (((FrameBut.refl _ s).setFld _ _ (by simp)).tim _ (by simp)).post _ _ (by simp)

/-- A loss said already, or on a pin that is not enabled, is not posted. -/
theorem exec_ppsInLoss_again {s : State} (h : s.tim.ppsLost = true ∨ s.flag F.timCtrl_pps_in_en = false) : exec .ppsInLoss s = .next s := by
  refine if_pos ?_
  rcases h with h | h <;> simp [h]

/-! ### PPS_OUT and the ToD output (R268) -/

theorem exec_ppsOutEdge {s : State} (hrel : s.released 1 = true) (hen : s.flag F.timCtrl_pps_out_en = true) :
    ∃ sec, exec .ppsOutEdge s = .next { s.emit (.pps sec) with tim := { s.tim with ppsEdge := some sec } } :=
  ⟨_, if_neg (by simp [hrel, hen])⟩

/-- The edge whose message was due has had it. -/
def State.todTold (s : State) : State := { s with tim := { s.tim with ppsEdge := none } }

theorem State.todTold_frame (s : State) : FrameBut [.tim] s s.todTold := (FrameBut.refl _ s).tim _ (by simp)

theorem exec_todOutMessage {s : State} {sec : Nat} (h : s.tim.ppsEdge = some sec) :
    exec .todOutMessage s =
      if s.fld F.timTodCfg_out_mode = 1 then
        .next (if s.fld F.timTodCfg_baud = 3 then s.todTold else s.todTold.emit (.tod (s.todTold.todMessage sec)))
      else if s.fld F.timTodCfg_out_mode = 2 then
        if s.flag F.timTodoLen_armed then
          .next (if s.fld F.timTodCfg_baud = 3 then s.todTold
            else (s.todTold.setFld F.timTodoLen_armed 0).emit (.tod (s.todoBuf.take (s.fld F.timTodoLen_len))))
        else .next (s.todTold.count Cn.todoSkipped 0)
      else .next s.todTold := by
  show execTodOutMessage s = _
  simp only [execTodOutMessage, h, decide_eq_true_eq]
  rfl

/-- The device's own message: a head, the length, the seconds, and a checksum over what follows the head. -/
theorem State.todMessage_spec (s : State) (sec : Nat) :
    (s.todMessage sec).length = 14 ∧ (s.todMessage sec).take 4 = [0xC3, 0x5A, 1, 14] ∧ ((s.todMessage sec).drop 4).take 6 = beBytes 6 sec ∧
      (s.todMessage sec).getD 13 0 = (((s.todMessage sec).drop 2).take 11).foldl Nat.xor 0 := ⟨rfl, rfl, rfl, rfl⟩

theorem exec_todOutMessage_own {s : State} {sec : Nat} (h : s.tim.ppsEdge = some sec) (hmode : s.fld F.timTodCfg_out_mode = 1)
    (hbaud : s.fld F.timTodCfg_baud ≠ 3) : exec .todOutMessage s = .next (s.todTold.emit (.tod (s.todTold.todMessage sec))) := by
  rw [exec_todOutMessage h, if_pos hmode, if_neg hbaud]

section

variable {s : State} {sec : Nat} (h : s.tim.ppsEdge = some sec) (hmode : s.fld F.timTodCfg_out_mode = 2)
include h hmode

/-- The host's buffer is sent once for each arming. -/
theorem exec_todOutMessage_host (hbaud : s.fld F.timTodCfg_baud ≠ 3) (harmed : s.flag F.timTodoLen_armed = true) :
    ∃ t, exec .todOutMessage s = .next t ∧ t.out = s.out ++ [.tod (s.todoBuf.take (s.fld F.timTodoLen_len))] ∧ t.fld F.timTodoLen_armed = 0 ∧
      t.tim = { s.tim with ppsEdge := none } ∧ FldsBut [F.timTodoLen_armed] s t ∧ FrameBut [.out, .tim, .regs] s t := by
  refine ⟨_, by rw [exec_todOutMessage h, if_neg (by simp [hmode]), if_pos hmode, if_pos harmed, if_neg hbaud], rfl, ?_, rfl, ?_, ?_⟩
  · rw [State.emit_fld_at, State.fld_setFld_same _ _ _ (by decide)]
    rfl
  · exact (((FldsBut.refl _ s).tim _).setFld _ (by simp) (by decide)).emit_ _
  · exact ((s.todTold_frame.mono (by simp)).setFld _ _ (by simp)).emit _ (by simp)

theorem exec_todOutMessage_skipped (harmed : s.flag F.timTodoLen_armed = false) :
    ∃ t, exec .todOutMessage s = .next t ∧ t.cnt = (s.count Cn.todoSkipped 0).cnt ∧ t.tim = { s.tim with ppsEdge := none } ∧ FrameBut [.tim, .cnt] s t :=
  ⟨_, by rw [exec_todOutMessage h, if_neg (by simp [hmode]), if_pos hmode, if_neg (by simp [harmed])], State.count_congr s s.todTold rfl rfl _ _,
    State.count_tim _ _ _, (s.todTold_frame.mono (by simp)).count _ _ (by simp)⟩

end

theorem exec_todoArm {s : State} {m : Master} (n : BitVec 6) (h : s.timWrite m = true) :
    ∃ t, exec (.todoArm m n) s = .next t ∧ t.fld F.timTodoLen_len = n.toNat ∧ t.fld F.timTodoLen_armed = 1 ∧
      FldsBut [F.timTodoLen_len, F.timTodoLen_armed] s t ∧ FrameBut [.regs] s t := by
  refine ⟨_, if_pos h, ?_, State.fld_setFld_same _ _ _ (by decide), ((FldsBut.refl _ s).setFld _ (by simp) (by decide)).setFld _ (by simp) (by decide),
    ((FrameBut.refl _ s).setFld _ _ (by simp)).setFld _ _ (by simp)⟩
  rw [State.fld_setFld_other _ _ (by decide) (by decide), State.fld_setFld_same _ _ _ (by decide)]
  exact Nat.mod_eq_of_lt n.isLt

/-! ### The ToD input (R268) -/

theorem exec_todInByte_room {s : State} (b : Byte) (hrel : s.released 1 = true) (hroom : s.tim.todi.length < 64) :
    ∃ t, exec (.todInByte b) s = .next t ∧ t.tim = { s.tim with todi := s.tim.todi ++ [b.toNat] } ∧ t.fld F.timTodiSts_bytes = s.tim.todi.length + 1 ∧
      FldsBut [F.timTodiSts_bytes] s t ∧ FrameBut [.regs, .tim] s t := by
  refine ⟨_, (if_neg (by simp [hrel])).trans (if_pos hroom), rfl, ?_, ((FldsBut.refl _ s).tim _).setFld _ (by simp) (by decide),
    ((FrameBut.refl _ s).tim _ (by simp)).setFld _ _ (by simp)⟩
  rw [State.fld_setFld_same _ _ _ (by decide), List.length_append, List.length_singleton]
  exact Nat.mod_eq_of_lt (show s.tim.todi.length + 1 < 128 by omega)

theorem exec_todInByte_full {s : State} (b : Byte) (hrel : s.released 1 = true) (hfull : 64 ≤ s.tim.todi.length) :
    ∃ t, exec (.todInByte b) s = .next t ∧ t.fld F.timTodiSts_overflow = 1 ∧ t.cnt = (s.count Cn.todiOverflow 0).cnt ∧
      FldsBut [F.timTodiSts_overflow] s t ∧ FrameBut [.regs, .cnt] s t := by
  refine ⟨_, (if_neg (by simp [hrel])).trans (if_neg (by omega)), ?_, State.count_congr s (s.setFld F.timTodiSts_overflow 1) rfl rfl _ _,
    ((FldsBut.refl _ s).setFld _ (by simp) (by decide)).count_ _ _, ((FrameBut.refl _ s).setFld _ _ (by simp)).count _ _ (by simp)⟩
  rw [State.count_fld_at, State.fld_setFld_same _ _ _ (by decide)]
  rfl

end Sys2Proof.Machine
end

section
/-! Proofs about the two digital PLLs. -/

namespace Sys2Proof.Machine

open Sys2Proof.Safety

/-! ### The registers of a DPLL -/

/-- A word written is its register's field of all 32 bits set. -/
theorem State.setReg_eq_setFld (s : State) {f : Fld} (hlo : f.lo = 0) (hwidth : f.width = 32) (w : Word) : s.setReg f.addr w = s.setFld f w.toNat := by
  unfold State.setFld setBits
  have hold : (s.reg f.addr).toNat / 2 ^ 32 = 0 := Nat.div_eq_of_lt (s.reg f.addr).isLt
  rw [hlo, hwidth, Nat.zero_add, hold, pow_zero, Nat.mod_one, Nat.zero_add, Nat.mul_one, Nat.zero_mul, Nat.add_zero, Nat.mod_eq_of_lt w.isLt,
    BitVec.ofNat_toNat, BitVec.setWidth_eq]

/-- The configuration register of DPLL-E or DPLL-S. -/
def dpReg (e : Bool) : Fld := if e then F.timDpllE else F.timDpllS

theorem dpReg_word (e : Bool) : (dpReg e).lo = 0 ∧ (dpReg e).width = 32 ∧ (dpReg e).addr = if e then F.timDpllE.addr else F.timDpllS.addr := by
  cases e <;> exact ⟨rfl, rfl, rfl⟩

theorem dpFld_fits (e : Bool) : (dpFld e).lo + (dpFld e).width ≤ 32 := by cases e <;> decide

theorem State.fld_dpFld_set (s : State) (e : Bool) {v : Nat} (hv : v < 4) : (s.setFld (dpFld e) v).fld (dpFld e) = v := by
  rw [State.fld_setFld_same _ _ _ (dpFld_fits e)]
  cases e <;> exact Nat.mod_eq_of_lt hv

theorem PostSame.setDpFld {s t : State} (h : PostSame s t) (e : Bool) (v : Nat) : PostSame s (t.setFld (dpFld e) v) := by
  cases e <;> exact h.setFld _ _ (by decide) (by decide) (by decide) (by decide)

/-- The state of a DPLL stands in TIM_STS, apart from the configurations. -/
theorem State.reg_dpFld_set (s : State) (e : Bool) (v : Nat) : (s.setFld (dpFld e) v).reg (dpReg e).addr = s.reg (dpReg e).addr := by
  cases e <;> exact State.reg_setFld_other _ _ (by decide)

theorem State.dpRef_congr {s t : State} {e : Bool} (h : t.reg (dpReg e).addr = s.reg (dpReg e).addr) : t.dpRef e = s.dpRef e := by
  cases e
  · exact congrArg (fun w : Word => decide (getBits w F.timDpllS_ref.lo F.timDpllS_ref.width ≠ 3)) h
  · exact congrArg (fun w : Word => decide (getBits w F.timDpllE_src.lo F.timDpllE_src.width ≠ 3)) h

theorem State.dpForce_congr {s t : State} {e : Bool} (h : t.reg (dpReg e).addr = s.reg (dpReg e).addr) : t.dpForce e = s.dpForce e := by
  cases e
  · exact congrArg (fun w : Word => decide (getBits w F.timDpllS_force_ho.lo F.timDpllS_force_ho.width = 1)) h
  · exact congrArg (fun w : Word => decide (getBits w F.timDpllE_force_ho.lo F.timDpllE_force_ho.width = 1)) h

/-! ### States of a DPLL (R269) -/

theorem State.dpState_flds (s : State) (e : Bool) (v : Nat) : FldsBut [dpFld e] s (s.setFld (dpFld e) v) :=
  (FldsBut.refl _ s).setFld _ (by simp) (dpFld_fits e)

theorem State.dpState_frame (s : State) (e : Bool) (v : Nat) : FrameBut [.regs] s (s.setFld (dpFld e) v) := (FrameBut.refl _ s).setFld _ _ (by simp)

/-- A DPLL enters a state and posts an event. -/
theorem State.dpState_posts (s : State) (e : Bool) {v : Nat} (hv : v < 4) (code : Nat) (d : List Nat) :
    ((s.setFld (dpFld e) v).post code d).fld (dpFld e) = v ∧ Posted s ((s.setFld (dpFld e) v).post code d) code d ∧
      FldsBut [dpFld e] s ((s.setFld (dpFld e) v).post code d) ∧ FrameBut [.regs, .evq, .cnt, .mem] s ((s.setFld (dpFld e) v).post code d) :=
  ⟨(State.post_fld_at _ _ _ _).trans (s.fld_dpFld_set e hv), .of_post ((PostSame.refl s).setDpFld e v) _ _, (s.dpState_flds e v).post_ _ _,
    ((s.dpState_frame e v).mono (by simp)).post _ _ (by simp)⟩

theorem exec_dpllLock {s : State} (e : Bool) (hrel : s.released 1 = true) (hst : s.fld (dpFld e) = 1) :
    exec (.dpllLock e) s = .next ((s.setFld (dpFld e) dpLocked).post 0x0505 [Config.eventWord 0x0505 e.toNat]) := if_pos ⟨hrel, hst⟩

theorem exec_dpllRefLoss {s : State} (e : Bool) (hrel : s.released 1 = true) (hst : s.fld (dpFld e) = 1 ∨ s.fld (dpFld e) = 2) :
    exec (.dpllRefLoss e) s = .next (s.dpHold e) := if_pos ⟨hrel, hst⟩

theorem exec_dpllRefReturn {s : State} (e : Bool) (hrel : s.released 1 = true) (hst : s.fld (dpFld e) = 3) (href : s.dpRef e = true)
    (hforce : s.dpForce e = false) : exec (.dpllRefReturn e) s = .next (s.setFld (dpFld e) dpAcquiring) := if_pos ⟨hrel, hst, href, hforce⟩

/-! ### A write of the configuration (R12, R269) -/

/-- The configuration written. -/
def State.dpConfigured (s : State) (e : Bool) (d : Word) : State := s.setFld (dpReg e) d.toNat

theorem exec_dpllConfigWrite_reserved {s : State} {m : Master} {e : Bool} {d : Word} (h : s.timWrite m = true) (hd : d &&& dpReserved e ≠ 0) :
    exec (.dpllConfigWrite m e d) s = .fault .unpredictable := (if_neg (by simp [h])).trans (if_pos hd)

theorem exec_dpllConfigWrite {s : State} {m : Master} {e : Bool} {d : Word} (h : s.timWrite m = true) (hd : d &&& dpReserved e = 0) :
    exec (.dpllConfigWrite m e d) s =
      if !(s.dpConfigured e d).dpRef e then .next ((s.dpConfigured e d).setFld (dpFld e) dpFree)
      else if (s.dpConfigured e d).dpForce e then .next (((s.dpConfigured e d).setFld (dpFld e) dpAcquiring).dpHold e)
      else .next ((s.dpConfigured e d).setFld (dpFld e) dpAcquiring) := by
  obtain ⟨hlo, hwidth, haddr⟩ := dpReg_word e
  rw [State.dpConfigured, ← State.setReg_eq_setFld s hlo hwidth, haddr]
  exact (if_neg (by simp [h])).trans (if_neg (by simp [hd]))

theorem State.dpConfigured_reg (s : State) (e : Bool) (d : Word) : (s.dpConfigured e d).reg (dpReg e).addr = d := by
  obtain ⟨hlo, hwidth, -⟩ := dpReg_word e
  rw [State.dpConfigured, ← State.setReg_eq_setFld s hlo hwidth, State.reg_setReg_same]

theorem State.dpConfigured_flds (s : State) (e : Bool) (d : Word) : FldsBut [dpReg e] s (s.dpConfigured e d) :=
  (FldsBut.refl _ s).setFld _ (by simp) (by obtain ⟨hlo, hwidth, -⟩ := dpReg_word e; omega)

theorem State.dpConfigured_frame (s : State) (e : Bool) (d : Word) : FrameBut [.regs] s (s.dpConfigured e d) := (FrameBut.refl _ s).setFld _ _ (by simp)

theorem State.dpConfigured_postSame (s : State) (e : Bool) (d : Word) : PostSame s (s.dpConfigured e d) := by
  cases e <;> exact (PostSame.refl s).setFld _ _ (by decide) (by decide) (by decide) (by decide)

/-- A write of the configuration stores it, and the DPLL runs free, holds over or acquires by what it says. -/
theorem exec_dpllConfigWrite_spec {s : State} {m : Master} {e : Bool} {d : Word} (h : s.timWrite m = true) (hd : d &&& dpReserved e = 0) :
    ∃ t, exec (.dpllConfigWrite m e d) s = .next t ∧ t.reg (dpReg e).addr = d ∧ (t.dpRef e = false → t.fld (dpFld e) = 0) ∧
      (t.dpRef e = true → t.dpForce e = false → t.fld (dpFld e) = 1) ∧
      (t.dpRef e = true → t.dpForce e = true → t.fld (dpFld e) = 3 ∧ Posted s t 0x0504 [Config.eventWord 0x0504 e.toNat]) ∧
      FldsBut [dpFld e, dpReg e] s t ∧ FrameBut [.regs, .evq, .cnt, .mem] s t := by
  rw [exec_dpllConfigWrite h hd]
  set u := s.dpConfigured e d
  have hflds : FldsBut [dpFld e, dpReg e] s u := (s.dpConfigured_flds e d).mono (by simp)
  have hframe : FrameBut [.regs, .evq, .cnt, .mem] s u := (s.dpConfigured_frame e d).mono (by simp)
  have hword : u.reg (dpReg e).addr = d := s.dpConfigured_reg e d
  cases href : u.dpRef e with
  | false =>
    have hreg := u.reg_dpFld_set e dpFree
    exact ⟨_, if_pos rfl, hreg.trans hword, fun _ => u.fld_dpFld_set e (by decide), fun hno => by simp [State.dpRef_congr hreg, href] at hno,
      fun hno => by simp [State.dpRef_congr hreg, href] at hno, hflds.trans ((u.dpState_flds e _).mono (by simp)),
      hframe.trans ((u.dpState_frame e _).mono (by simp))⟩
  | true =>
    have hreg := u.reg_dpFld_set e dpAcquiring
    cases hforce : u.dpForce e with
    | false =>
      exact ⟨_, if_neg (by decide), hreg.trans hword, fun hno => by simp [State.dpRef_congr hreg, href] at hno, fun _ _ => u.fld_dpFld_set e (by decide),
        fun _ hno => by simp [State.dpForce_congr hreg, hforce] at hno, hflds.trans ((u.dpState_flds e _).mono (by simp)),
        hframe.trans ((u.dpState_frame e _).mono (by simp))⟩
    | true =>
      obtain ⟨hfld, hposted, hf, hp⟩ := (u.setFld (dpFld e) dpAcquiring).dpState_posts e (v := dpHoldover) (by decide) 0x0504 [Config.eventWord 0x0504 e.toNat]
      have hheld : ((u.setFld (dpFld e) dpAcquiring).dpHold e).reg (dpReg e).addr = u.reg (dpReg e).addr :=
        (State.post_reg_at _ _ _ _).trans ((State.reg_dpFld_set _ _ _).trans hreg)
      exact ⟨_, if_neg (by decide), hheld.trans hword, fun hno => by simp [State.dpRef_congr hheld, href] at hno,
        fun _ hno => by simp [State.dpForce_congr hheld, hforce] at hno, fun _ _ => ⟨hfld, hposted.congr ((s.dpConfigured_postSame e d).setDpFld e _)⟩,
        hflds.trans (((u.dpState_flds e _).trans hf).mono (by simp)), hframe.trans (((u.dpState_frame e _).mono (by simp)).trans hp)⟩

end Sys2Proof.Machine
end

section
/-! Proofs about TOD_CALC, and the statement on the pins, the digital PLLs and TOD_CALC. -/

namespace Sys2Proof.Machine

open Sys2Proof.Safety

/-! ### TOD_CALC (R266) -/

/-- The channel that TOD_CALC is asked for. -/
def State.todChan (s : State) : Nat := s.fld F.timTodArg0_channel

/-- The context that it is asked for. -/
def State.todOnu (s : State) : OnuCtx := s.onuOf (s.fld F.timTodArg0_onu)

/-- How many superframes after the channel's last frame start the one asked for stands, modulo 2^51. -/
def State.todAhead (s : State) : Nat :=
  (s.fld F.timTodArg2_sfc * 2 ^ 32 + s.fld F.timTodArg1_sfc + 2 ^ 51 -
    (s.fld (F.pchSfcHi_sfc s.todChan) * 2 ^ 32 + s.fld (F.pchSfcLo_sfc s.todChan))) % 2 ^ 51

/-- The prediction q in 1/64 ns shown with gen, and 0. -/
def State.todShown (s : State) (q : Nat) : State :=
  (((((s.setFld F.timTodResSecLo_sec (q / 64 / 1000000000)).setFld F.timTodResSecHi_sec (q / 64 / 1000000000 / 2 ^ 32)).setFld F.timTodResSecHi_gen
    (s.fld F.timSts_gen)).setFld F.timTodResNs_ns (q / 64 % 1000000000)).setFld F.timTodResSub_sub (q % 64)).setFld F.timTodCmd_result todCompleted

theorem exec_todCalc {s : State} {m : Master} (h : s.timWrite m = true) :
    exec (.todCalc m) s =
      if s.todOnu.st ≠ 0 ∧ s.todOnu.chan ≠ s.todChan then .next (s.setFld F.timTodCmd_result todWrongChannel)
      else if s.todOnu.st ≠ 4 ∨ s.ch s.todChan ≠ chRunning then .next (s.setFld F.timTodCmd_result todNotActive)
      else if s.todAhead = 0 ∨ 65535 < s.todAhead then .next (s.setFld F.timTodCmd_result todOutOfRange)
      else .next (s.todShown (s.tstamp s.todChan s.todAhead ((s.todOnu.residue : Int) - s.todOnu.f))) := if_neg (by simp [h])

/-- A refusal shows its result and nothing else. -/
theorem State.todRefused (s : State) {r : Nat} (hr : r < 8) :
    (s.setFld F.timTodCmd_result r).fld F.timTodCmd_result = r ∧ FldsBut [F.timTodCmd_result] s (s.setFld F.timTodCmd_result r) :=
  ⟨(State.fld_setFld_same _ _ _ (by decide)).trans (Nat.mod_eq_of_lt hr), (FldsBut.refl _ s).setFld _ (by simp) (by decide)⟩

theorem State.todShown_fld (s : State) (q : Nat) :
    (s.todShown q).fld F.timTodCmd_result = 0 ∧ (s.todShown q).fld F.timTodResSecLo_sec = q / 64 / 1000000000 % 2 ^ 32 ∧
      (s.todShown q).fld F.timTodResSecHi_sec = q / 64 / 1000000000 / 2 ^ 32 % 2 ^ 16 ∧ (s.todShown q).fld F.timTodResSecHi_gen = s.fld F.timSts_gen ∧
      (s.todShown q).fld F.timTodResNs_ns = q / 64 % 1000000000 ∧ (s.todShown q).fld F.timTodResSub_sub = q % 64 := by
  have hgen : s.fld F.timSts_gen < 2 ^ 16 := s.fld_lt F.timSts_gen
  have hns : q / 64 % 1000000000 < 2 ^ 32 := (Nat.mod_lt _ (by decide)).trans (by decide)
  have hsub : q % 64 < 2 ^ 6 := Nat.mod_lt _ (by decide)
  unfold State.todShown
  simp (disch := decide) only [State.fld_setFld_other, State.fld_setFld_same]
  exact ⟨rfl, rfl, rfl, Nat.mod_eq_of_lt hgen, Nat.mod_eq_of_lt hns, Nat.mod_eq_of_lt hsub⟩

theorem State.todShown_flds (s : State) (q : Nat) :
    FldsBut [F.timTodResSecLo_sec, F.timTodResSecHi_sec, F.timTodResSecHi_gen, F.timTodResNs_ns, F.timTodResSub_sub, F.timTodCmd_result] s (s.todShown q) := by
  unfold State.todShown
  iterate 6 refine FldsBut.setFld ?_ _ (by simp) (by decide)
  exact .refl _ s

theorem State.todShown_frame (s : State) (q : Nat) : FrameBut [.regs] s (s.todShown q) := by
  unfold State.todShown
  iterate 6 refine FrameBut.setFld ?_ _ _ (by simp)
  exact .refl _ s

/-- TOD_CALC gives the first result that applies, else the prediction. -/
theorem exec_todCalc_spec {s : State} {m : Master} (h : s.timWrite m = true) :
    ∃ t, exec (.todCalc m) s = .next t ∧ FrameBut [.regs] s t ∧
      (s.todOnu.st ≠ 0 ∧ s.todOnu.chan ≠ s.todChan → t.fld F.timTodCmd_result = 3 ∧ FldsBut [F.timTodCmd_result] s t) ∧
      ((s.todOnu.st = 0 ∨ s.todOnu.chan = s.todChan) → (s.todOnu.st ≠ 4 ∨ s.ch s.todChan ≠ chRunning) →
        t.fld F.timTodCmd_result = 1 ∧ FldsBut [F.timTodCmd_result] s t) ∧
      (s.todOnu.st = 4 → s.todOnu.chan = s.todChan → s.ch s.todChan = chRunning → (s.todAhead = 0 ∨ 65535 < s.todAhead) →
        t.fld F.timTodCmd_result = 2 ∧ FldsBut [F.timTodCmd_result] s t) ∧
      (s.todOnu.st = 4 → s.todOnu.chan = s.todChan → s.ch s.todChan = chRunning → 0 < s.todAhead → s.todAhead ≤ 65535 →
        t = s.todShown (s.tstamp s.todChan s.todAhead ((s.todOnu.residue : Int) - s.todOnu.f))) := by
  have hframe (r : Nat) : FrameBut [.regs] s (s.setFld F.timTodCmd_result r) := (FrameBut.refl _ s).setFld _ _ (by simp)
  rw [exec_todCalc h]
  by_cases hwrong : s.todOnu.st ≠ 0 ∧ s.todOnu.chan ≠ s.todChan
  · refine ⟨_, if_pos hwrong, hframe _, fun _ => s.todRefused (by decide), fun hno => ?_, fun _ hno => ?_, fun _ hno => ?_⟩
    · exact absurd hwrong (by tauto)
    · exact absurd hno hwrong.2
    · exact absurd hno hwrong.2
  rw [if_neg hwrong]
  by_cases hidle : s.todOnu.st ≠ 4 ∨ s.ch s.todChan ≠ chRunning
  · refine ⟨_, if_pos hidle, hframe _, fun hno => absurd hno hwrong, fun _ _ => s.todRefused (by decide), fun hst _ hch => ?_, fun hst _ hch => ?_⟩
    · exact absurd hidle (by simp [hst, hch])
    · exact absurd hidle (by simp [hst, hch])
  rw [if_neg hidle]
  by_cases hfar : s.todAhead = 0 ∨ 65535 < s.todAhead
  · refine ⟨_, if_pos hfar, hframe _, fun hno => absurd hno hwrong, fun _ hno => absurd hno hidle, fun _ _ _ _ => s.todRefused (by decide),
      fun _ _ _ hpos hle => ?_⟩
    omega
  · exact ⟨_, if_neg hfar, s.todShown_frame _, fun hno => absurd hno hwrong, fun _ hno => absurd hno hidle, fun _ _ _ hno => absurd hno hfar,
      fun _ _ _ _ _ => rfl⟩

end Sys2Proof.Machine

namespace Sys2Proof.Proofs

open Sys2Proof.Machine Sys2Proof.Safety

/-- Settles O58, by the pins, the two PLLs and TOD_CALC, each command by the cases in which it acts. -/
theorem timePinsPlls : Obligations.timePinsPlls := by
  refine ⟨fun ph s hrel hen => ⟨fun hnone => ?_, fun sec hw => ?_⟩, fun s => exec_ppsInLoss_posts, fun s => exec_ppsInLoss_again, fun s hrel hen => ?_,
    fun s sec hedge => ⟨fun hmode hbaud => ?_, exec_todOutMessage_host hedge, exec_todOutMessage_skipped hedge⟩,
    fun m n s hrel hm => exec_todoArm n (State.timWrite_of hrel hm), fun b s hrel => ⟨exec_todInByte_room b hrel, exec_todInByte_full b hrel⟩,
    fun m e d s hrel hm => ?_, fun e s hrel => ⟨fun hst => ⟨_, exec_dpllLock e hrel hst, s.dpState_posts e (by decide) _ _⟩,
      fun hst => ⟨_, exec_dpllRefLoss e hrel hst, s.dpState_posts e (by decide) _ _⟩, fun hst href hforce => ?_⟩, fun m s hrel hm => ?_⟩
  · obtain ⟨hns, hhi⟩ := s.ppsStamped_fld (s.ppsStamp ph)
    exact ⟨_, exec_ppsInEdge_free ph hrel hen hnone, hns, hhi, s.ppsStamped_tim _, s.ppsStamped_cnt _, s.ppsStamped_flds _, s.ppsStamped_frame _⟩
  · obtain ⟨htbu, hfree⟩ := s.setAtEdge_tim ph sec
    obtain ⟨hns, hhi, hgen⟩ := s.setAtEdge_fld ph sec
    obtain ⟨hresult, hbusy, hpending⟩ := State.endSetAtPps_fld _ (r := setCompleted) (by decide)
    exact ⟨_, exec_ppsInEdge_sets ph hrel hen hw, hns, hhi, htbu, hfree, hgen, hresult, hbusy, hpending, s.setAtEdge_flds ph sec, s.setAtEdge_frame ph sec⟩
  · obtain ⟨sec, hx⟩ := exec_ppsOutEdge hrel hen
    exact ⟨_, sec, hx, rfl, rfl, ((FrameBut.refl _ s).emit _ (by simp)).tim _ (by simp)⟩
  · obtain ⟨hlen, hhead, hsec, hsum⟩ := s.todTold.todMessage_spec sec
    exact ⟨_, exec_todOutMessage_own hedge hmode hbaud, ⟨_, hlen, rfl, hhead, hsec, hsum⟩, rfl, (s.todTold_frame.mono (by simp)).emit _ (by simp)⟩
  · have h := State.timWrite_of hrel hm
    obtain ⟨-, -, haddr⟩ := dpReg_word e
    exact ⟨exec_dpllConfigWrite_reserved h, fun hd => haddr ▸ exec_dpllConfigWrite_spec h hd⟩
  · exact ⟨_, exec_dpllRefReturn e hrel hst href hforce, s.fld_dpFld_set e (by decide), s.dpState_flds e _, s.dpState_frame e _⟩
  · obtain ⟨t, hx, hframe, hwrong, hidle, hfar, hshown⟩ := exec_todCalc_spec (State.timWrite_of (m := m) hrel hm)
    refine ⟨t, hx, hframe, hwrong, hidle, hfar, fun hst hchan hch hpos hle => ?_⟩
    rw [hshown hst hchan hch hpos hle]
    obtain ⟨hresult, hlo, hhi, hgen, hns, hsub⟩ := s.todShown_fld (s.tstamp s.todChan s.todAhead ((s.todOnu.residue : Int) - s.todOnu.f))
    exact ⟨hresult, hlo, hhi, hgen, hns, hsub, s.todShown_flds _⟩

end Sys2Proof.Proofs
end

section
/-! The mirror's messages: the statement fails where the table of ONU contexts holds two entries for one context. -/

namespace Sys2Proof.Proofs

open Sys2Proof.Machine Sys2Proof.Safety

/-- A part in SYNCING with the link up, whose table lists context 0 twice: no command leads here, since every write of a context removes the older entries of its
key, but the statement takes every state. -/
def contextListedTwice : State :=
  { State.reset with
    regs := [(F.mateSts.addr, 2), (F.laneSlSts.addr, 0x40000000)]
    onu := [(0, { onuInit with stNow := 1 }), (0, { onuInit with st := 4, stNow := 4, chan := 1, chanNow := 1 })] }

/-- A FRAME message of channel 0 that repeats the map it holds. -/
def frameOfChannel0 : FrameMsg :=
  { hdr := { seq := 0, tagOk := true, typOk := true }, chan := 0, sfc := 0, epoch := 0, held := true, ns := 0, sec := 0, feed := 0, map := [] }

theorem msgInOrder_contextListedTwice : MsgInOrder contextListedTwice frameOfChannel0.hdr := ⟨by decide +kernel, rfl, rfl, nofun⟩

/-- The first entry, put in force, is that of a FREE context and leaves the table: the second is read. -/
theorem exec_frameMessage_contextListedTwice :
    ∃ t, exec (.frameMessage frameOfChannel0) contextListedTwice = .next t ∧ (t.onuOf 0).stNow = 4 :=
  ⟨_, rfl, by decide +kernel⟩

/-- Refutes O41: the clause on FRAME messages says of every state that what a context of the channel reads as its state in force is its state. With two entries for
context 0, of which the first becomes that of a FREE context when its update is put in force, the second is read after it: state in force 4, where 0 is claimed. -/
theorem not_mateMirror : ¬ Obligations.mateMirror := by
  rintro ⟨-, -, hframe, -⟩
  obtain ⟨t, x, ht, -, -, -, -, -, -, -, -, hinForce⟩ := hframe frameOfChannel0 contextListedTwice msgInOrder_contextListedTwice (.inl (by decide +kernel))
  obtain ⟨u, hu, hval⟩ := exec_frameMessage_contextListedTwice
  obtain rfl : t = u := Host.Outcome.next.inj (ht.symm.trans hu)
  have hst := hinForce 0 (by decide +kernel)
  rw [hval] at hst
  exact absurd hst (by decide +kernel)

end Sys2Proof.Proofs
end

section
/-! The layer of the lanes: the fields of a lane's registers, what is pending of a lane, and the operations that the commands of 13_lanes_and_stay_link.md share. -/

namespace Sys2Proof.Safety

open Sys2Proof.Machine

theorem FrameBut.lanes {l : List Part} {s t : State} (h : FrameBut l s t) (x : LanesSt) (hl : .lanes ∈ l) : FrameBut l s { t with lanes := x } := fun p hp => by
  have := h p hp
  cases p <;> simp_all [Part.Same]

end Sys2Proof.Safety

namespace Sys2Proof.Machine

open Sys2Proof.Safety

/-! ### The fields of a lane's registers -/

/-- A field of lane i: bits from lo on, w wide, of the register at offset o of the lane's range. -/
@[irreducible] def laneFld (o lo w i : Nat) : Fld := ⟨0x800000 + o + 0x400 * i, lo, w⟩

theorem laneFld_addr (o lo w i : Nat) : (laneFld o lo w i).addr = 0x800000 + o + 0x400 * i := by rw [laneFld]
@[simp] theorem laneFld_lo (o lo w i : Nat) : (laneFld o lo w i).lo = lo := by rw [laneFld]
@[simp] theorem laneFld_width (o lo w i : Nat) : (laneFld o lo w i).width = w := by rw [laneFld]

@[simp] theorem laneFld_addr_inj (o lo w o' lo' w' i : Nat) : (laneFld o lo w i).addr = (laneFld o' lo' w' i).addr ↔ o = o' := by
  rw [laneFld_addr, laneFld_addr]; omega

/-- The fields of a lane by their place: one spelling for all of them, so that one rule compares any two. -/
theorem lane_names (i : Nat) :
    F.laneCtrl_reef i = laneFld 0x0 1 2 i ∧ F.laneSts_state i = laneFld 0x4 0 3 i ∧ F.laneSts_good_valid i = laneFld 0x4 5 1 i ∧
    F.laneSts_sig_det i = laneFld 0x4 6 1 i ∧ F.laneSts_frozen i = laneFld 0x4 7 1 i ∧ F.laneFom_fom i = laneFld 0x8 0 8 i ∧
    F.laneFom_fom_good i = laneFld 0x8 8 8 i ∧ F.laneFom_density i = laneFld 0x8 16 8 i ∧ F.laneFom_fom_min i = laneFld 0x8 24 8 i ∧
    F.laneAdapt_td_min i = laneFld 0xC 0 7 i ∧ F.laneAdapt_adapt_en i = laneFld 0xC 15 1 i ∧ F.laneAdapt_restore_margin i = laneFld 0xC 16 8 i ∧
    F.laneAdapt_fom_fail i = laneFld 0xC 24 8 i ∧ F.laneCoef i 0 = laneFld 0x10 0 32 i ∧ F.laneCoef i 1 = laneFld 0x14 0 32 i ∧
    F.laneGood i 0 = laneFld 0x18 0 32 i ∧ F.laneGood i 1 = laneFld 0x1C 0 32 i ∧ F.lanePreset0 i = laneFld 0x20 0 32 i ∧ F.lanePreset1 i = laneFld 0x24 0 32 i ∧
    F.laneAlm_fault i = laneFld 0x2C 0 1 i ∧ F.laneAlm_lock_lost i = laneFld 0x2C 1 1 i ∧ F.laneAlm_freeze i = laneFld 0x2C 2 1 i ∧
    F.laneAlm_restore i = laneFld 0x2C 3 1 i ∧ F.laneAlm_reef_refused i = laneFld 0x2C 4 1 i ∧ F.laneFaults_faults i = laneFld 0x30 0 8 i := by
  have hnext (a : Nat) : a + 0x400 * i + 0x4 * 1 = a + 4 + 0x400 * i := by omega
  simp [F.laneCtrl_reef, F.laneSts_state, F.laneSts_good_valid, F.laneSts_sig_det, F.laneSts_frozen, F.laneFom_fom, F.laneFom_fom_good, F.laneFom_density,
    F.laneFom_fom_min, F.laneAdapt_td_min, F.laneAdapt_adapt_en, F.laneAdapt_restore_margin, F.laneAdapt_fom_fail, F.laneCoef, F.laneGood, F.lanePreset0,
    F.lanePreset1, F.laneAlm_fault, F.laneAlm_lock_lost, F.laneAlm_freeze, F.laneAlm_restore, F.laneAlm_reef_refused, F.laneFaults_faults, laneFld, hnext]

theorem lane_width (i : Nat) : (F.laneGood i 0).width = 32 ∧ (F.lanePreset0 i).width = 32 ∧ (F.laneGood i 1).width = 32 ∧ (F.lanePreset1 i).width = 32 :=
  ⟨rfl, rfl, rfl, rfl⟩

/-- A field of the Stay link's registers is apart from those of every lane. -/
theorem Apart.lane_sl {i : Nat} (hi : i < 656) {o lo w : Nat} (ho : o < 0x400) {g : Fld} (hg : 0x8A4000 ≤ g.addr) : Apart (laneFld o lo w i) g := by
  left; rw [laneFld_addr]; omega

theorem Apart.sl_lane {i : Nat} (hi : i < 656) {o lo w : Nat} (ho : o < 0x400) {g : Fld} (hg : 0x8A4000 ≤ g.addr) : Apart g (laneFld o lo w i) := by
  left; rw [laneFld_addr]; omega

/-- Posting reads no field of a lane. -/
theorem PostSame.setLaneFld {s t : State} (h : PostSame s t) {o lo w : Nat} (i v : Nat) (hw : lo + w ≤ 32) : PostSame s (t.setFld (laneFld o lo w i) v) :=
  h.setFld _ _ (by simpa using hw) (by simp [F.mbxEvqCtrl_enable, laneFld_addr]; omega) (by simp [F.memJnlMask_mask, laneFld_addr]; omega) (by simp [F.rigEpoch_current, laneFld_addr]; omega)

/-! ### What is pending of a lane, and the alignment of an SLD lane -/

variable (s : State)

@[simp] theorem State.fld_setLane (i : Nat) (l : LaneSt) (f : Fld) : (s.setLane i l).fld f = s.fld f := (rfl)
@[simp] theorem State.fld_setSl (k : Nat) (l : SlLane) (f : Fld) : (s.setSl k l).fld f = s.fld f := (rfl)
@[simp] theorem State.laneOf_setLane_same (i : Nat) (l : LaneSt) : (s.setLane i l).laneOf i = l := Tbl.find_put_same _ _ _ _
theorem State.laneOf_setLane_other {i j : Nat} (l : LaneSt) (h : j ≠ i) : (s.setLane i l).laneOf j = s.laneOf j := Tbl.find_put_other _ _ _ _ h
@[simp] theorem State.slOf_setSl_same (k : Nat) (l : SlLane) : (s.setSl k l).slOf k = l := Tbl.find_put_same _ _ _ _
theorem State.slOf_setSl_other {k j : Nat} (l : SlLane) (h : j ≠ k) : (s.setSl k l).slOf j = s.slOf j := Tbl.find_put_other _ _ _ _ h
@[simp] theorem State.laneOf_setFld (f : Fld) (v j : Nat) : (s.setFld f v).laneOf j = s.laneOf j := (rfl)
@[simp] theorem State.slOf_setFld (f : Fld) (v j : Nat) : (s.setFld f v).slOf j = s.slOf j := (rfl)

theorem State.setLane_frame (i : Nat) (l : LaneSt) : FrameBut [.lanes] s (s.setLane i l) := (FrameBut.refl _ s).lanes _ (by simp)
theorem State.setSl_frame (k : Nat) (l : SlLane) : FrameBut [.lanes] s (s.setSl k l) := (FrameBut.refl _ s).lanes _ (by simp)

variable {s}

theorem State.laneOf_of_frame {l : List Part} {t : State} (h : FrameBut l s t) (hl : .lanes ∉ l) (j : Nat) : t.laneOf j = s.laneOf j := by
  unfold State.laneOf; rw [h .lanes hl]

theorem State.slOf_of_frame {l : List Part} {t : State} (h : FrameBut l s t) (hl : .lanes ∉ l) (j : Nat) : t.slOf j = s.slOf j := by
  unfold State.slOf; rw [h .lanes hl]

/-! ### Acquisition (R281) -/

variable (s)

theorem State.acquire_flds (i : Nat) (a : Bool) : FldsBut [F.laneCoef i 0, F.laneCoef i 1, F.laneSts_state i, F.laneSts_frozen i] s (s.acquire i a) :=
  (((((FldsBut.refl _ s).setFld _ (by simp) (by simp [lane_names])).setFld _ (by simp) (by simp [lane_names])).setFld _ (by simp) (by simp [lane_names])).setFld _
    (by simp) (by simp [lane_names])).lanes _

theorem State.acquire_frame (i : Nat) (a : Bool) : FrameBut [.regs, .lanes] s (s.acquire i a) :=
  (((((FrameBut.refl _ s).setFld _ _ (by simp)).setFld _ _ (by simp)).setFld _ _ (by simp)).setFld _ _ (by simp)).lanes _ (by simp)

/-- An acquiring lane holds its last good set, or the preset while there is none. -/
theorem State.acquire_fld (i : Nat) (a : Bool) :
    (s.acquire i a).fld (F.laneCoef i 0) = (if s.flag (F.laneSts_good_valid i) then s.fld (F.laneGood i 0) else s.fld (F.lanePreset0 i)) ∧
    (s.acquire i a).fld (F.laneCoef i 1) = (if s.flag (F.laneSts_good_valid i) then s.fld (F.laneGood i 1) else s.fld (F.lanePreset1 i)) ∧
    (s.acquire i a).ln i = 3 ∧ (s.acquire i a).flag (F.laneSts_frozen i) = false := by
  have hlt {f g : Fld} (hf : f.width = 32) (hg : g.width = 32) (b : Bool) : (if b then s.fld f else s.fld g) % 2 ^ 32 = if b then s.fld f else s.fld g :=
    Nat.mod_eq_of_lt (by split; exacts [hf ▸ s.fld_lt f, hg ▸ s.fld_lt g])
  refine ⟨?_, ?_, ?_, ?_⟩
  · refine Eq.trans ?_ (hlt (lane_width i).1 (lane_width i).2.1 _)
    simp (disch := simp [lane_names]) only [State.acquire, State.fld_setLane, State.fld_setFld_same, State.fld_setFld_other]
    simp [lane_names]
  · refine Eq.trans ?_ (hlt (lane_width i).2.2.1 (lane_width i).2.2.2 _)
    simp (disch := simp [lane_names]) only [State.acquire, State.fld_setLane, State.fld_setFld_same, State.fld_setFld_other]
    simp [lane_names]
  · simp (disch := simp [lane_names]) only [State.acquire, State.ln, State.fld_setLane, State.fld_setFld_same, State.fld_setFld_other]
    simp [lane_names, lnAcquiring]
  · simp (disch := simp [lane_names]) only [State.acquire, State.flag, State.fld_setLane, State.fld_setFld_same]
    simp

theorem State.acquire_laneOf (i : Nat) (a : Bool) : (s.acquire i a).laneOf i =
    { s.laneOf i with entering := none, queued := none, byHost := false, okRun := 0, run := 0, announce := a } := by
  unfold State.acquire
  simp only [State.laneOf_setLane_same, State.laneOf_setFld]

theorem State.acquire_laneOf_other {i j : Nat} (a : Bool) (h : j ≠ i) : (s.acquire i a).laneOf j = s.laneOf j := by
  unfold State.acquire
  simp only [State.laneOf_setLane_other _ _ h, State.laneOf_setFld]

end Sys2Proof.Machine
end

section
/-! The Stay link judged and shown: whether it is up, whether it is present, and an SLD lane that leaves it. -/

namespace Sys2Proof.Machine

open Sys2Proof.Safety

/-! ### The alignment of the Stay link shown (R290, R294) -/

/-- The link is to be up: enabled, with every lane of its width in MF_LOCKED and aligned, and the mate's mode agreeing (R290). -/
def State.upNow (s : State) : Bool :=
  s.flag F.laneSlCtrl_enable && !(widthLanes s.lanes.width).isEmpty && !(s.flag F.laneSlSts_mode_mismatch) &&
    (widthLanes s.lanes.width).all (fun k => decide ((s.slOf k).st = 3) && !(s.slOf k).skewed)

/-- The SLD lanes whose alignment state passes a test, a bit for each. -/
def State.slMask (s : State) (p : Nat → Bool) : Nat := (List.range 8).foldl (fun a k => a + (p (s.slOf k).st).toNat * 2 ^ k) 0

/-- The state with the alignment and the width of the link shown. -/
def State.linkShown (s : State) : State :=
  (((s.setFld F.laneSlSts_mf_locked (s.slMask (fun n => decide (n = 3)))).setFld F.laneSlSts_framed (s.slMask (fun n => decide (n ≥ 2)))).setFld
    F.laneSlSts_link_up s.upNow.toNat).setFld F.laneSlSts_width (if s.upNow then s.lanes.width else 0)

/-- The fields that judging the link writes. -/
def linkFlds : List Fld := [F.laneSlSts_mf_locked, F.laneSlSts_framed, F.laneSlSts_link_up, F.laneSlSts_width, F.laneSlAlm_link_down]

theorem flag_toNat (b : Bool) : decide (b.toNat % 2 ^ 1 = 1) = b := by cases b <;> rfl

variable (s : State)

/-- Judging shows the link; a change is posted, and its loss is an alarm. -/
theorem State.judgeLink_eq : s.judgeLink =
    if s.upNow && !s.linkUp then s.linkShown.post 0x0905 [(widthLanes s.lanes.width).length]
    else if !s.upNow && s.linkUp then (s.linkShown.setFld F.laneSlAlm_link_down 1).post 0x0906 []
    else s.linkShown := (rfl)

theorem State.linkShown_flds : FldsBut linkFlds s s.linkShown :=
  ((((FldsBut.refl _ s).setFld _ (by simp [linkFlds]) (by decide)).setFld _ (by simp [linkFlds]) (by decide)).setFld _ (by simp [linkFlds]) (by decide)).setFld _
    (by simp [linkFlds]) (by decide)

theorem State.linkShown_frame : FrameBut [.regs] s s.linkShown :=
  ((((FrameBut.refl _ s).setFld _ _ (by simp)).setFld _ _ (by simp)).setFld _ _ (by simp)).setFld _ _ (by simp)

theorem State.linkShown_linkUp : s.linkShown.linkUp = s.upNow := by
  unfold State.linkUp State.linkShown
  rw [State.flag_setFld_other _ _ (by decide) (by decide), State.flag_setFld_same _ _ _ (by decide)]
  exact flag_toNat _

theorem State.linkShown_postSame : PostSame s s.linkShown :=
  ((((PostSame.refl s).setFld _ _ (by decide) (by decide) (by decide) (by decide)).setFld _ _ (by decide) (by decide) (by decide) (by decide)).setFld _ _
    (by decide) (by decide) (by decide) (by decide)).setFld _ _ (by decide) (by decide) (by decide) (by decide)

theorem State.judgeLink_flds : FldsBut linkFlds s s.judgeLink := by
  rw [State.judgeLink_eq]
  split
  · exact s.linkShown_flds.post_ _ _
  · split
    · exact (s.linkShown_flds.setFld _ (by simp [linkFlds]) (by decide)).post_ _ _
    · exact s.linkShown_flds

theorem State.judgeLink_frame : FrameBut [.regs, .evq, .cnt, .mem] s s.judgeLink := by
  have hshown : FrameBut [.regs, .evq, .cnt, .mem] s s.linkShown := s.linkShown_frame.mono (by simp)
  rw [State.judgeLink_eq]
  split
  · exact hshown.post _ _ (by simp)
  · split
    · exact (hshown.setFld _ _ (by simp)).post _ _ (by simp)
    · exact hshown

theorem State.judgeLink_linkUp : s.judgeLink.linkUp = s.upNow := by
  have hshown := s.linkShown_linkUp
  unfold State.linkUp at hshown
  rw [State.judgeLink_eq]
  split
  · simpa [State.linkUp] using hshown
  · split
    · rw [State.linkUp, State.post_flag_at, State.flag_setFld_other _ _ (by decide) (by decide)]
      exact hshown
    · exact hshown

/-- A link that goes down. -/
theorem State.judgeLink_down (hnow : s.upNow = false) (hwas : s.linkUp = true) :
    s.judgeLink.flag F.laneSlAlm_link_down = true ∧ Posted s s.judgeLink 0x0906 [] := by
  rw [State.judgeLink_eq, if_neg (by simp [hnow]), if_pos (by simp [hnow, hwas])]
  refine ⟨?_, .of_post (s.linkShown_postSame.setFld _ _ (by decide) (by decide) (by decide) (by decide)) _ _⟩
  rw [State.post_flag_at, State.flag_setFld_same _ _ _ (by decide)]
  decide

/-- A link that stays as it is posts nothing. -/
theorem State.judgeLink_same (h : s.upNow = s.linkUp) : FrameBut [.regs] s s.judgeLink := by
  rw [State.judgeLink_eq, h]
  simpa using s.linkShown_frame

theorem State.showPresent_eq : s.showPresent =
    if s.flag F.laneSlSts_present && !s.slPresentNow then (s.setFld F.laneSlSts_present s.slPresentNow.toNat).post 0x0907 []
    else s.setFld F.laneSlSts_present s.slPresentNow.toNat := (rfl)

theorem State.showPresent_flds : FldsBut [F.laneSlSts_present] s s.showPresent := by
  have hset : FldsBut [F.laneSlSts_present] s (s.setFld F.laneSlSts_present s.slPresentNow.toNat) := (FldsBut.refl _ s).setFld _ (by simp) (by decide)
  rw [State.showPresent_eq]
  split
  · exact hset.post_ _ _
  · exact hset

theorem State.showPresent_frame : FrameBut [.regs, .evq, .cnt, .mem] s s.showPresent := by
  have hset : FrameBut [.regs, .evq, .cnt, .mem] s (s.setFld F.laneSlSts_present s.slPresentNow.toNat) := (FrameBut.refl _ s).setFld _ _ (by simp)
  rw [State.showPresent_eq]
  split
  · exact hset.post _ _ (by simp)
  · exact hset

theorem State.showPresent_present : s.showPresent.flag F.laneSlSts_present = s.slPresentNow := by
  have hset : (s.setFld F.laneSlSts_present s.slPresentNow.toNat).flag F.laneSlSts_present = s.slPresentNow := by
    rw [State.flag_setFld_same _ _ _ (by decide)]
    exact flag_toNat _
  rw [State.showPresent_eq]
  split
  · simpa using hset
  · exact hset

theorem State.slPresentNow_iff : s.slPresentNow = true ↔ ∃ k, k < 8 ∧ s.sldBound k = true ∧ s.ln (640 + k) = 4 := by
  simp only [State.slPresentNow, List.any_eq_true, List.mem_range, Bool.and_eq_true, decide_eq_true_eq]
  rfl

/-! ### An SLD lane leaves the link (R289) -/

/-- What an SLD lane writes as it leaves the link. -/
def leaveFlds : List Fld := linkFlds ++ [F.laneSlSts_present]

theorem State.slLeave_flds (k : Nat) : FldsBut linkFlds s (s.slLeave k) := (((FldsBut.refl _ s).lanes _).trans (State.judgeLink_flds _))

theorem State.slLeave_frame (k : Nat) : FrameBut [.regs, .lanes, .evq, .cnt, .mem] s (s.slLeave k) :=
  ((s.setSl_frame k slInit).mono (by simp)).trans ((State.judgeLink_frame _).mono (by simp))

theorem State.slLeave_lanes (k : Nat) : (s.slLeave k).lanes = (s.setSl k slInit).lanes := (State.judgeLink_frame _) .lanes (by decide)

@[simp] theorem State.slOf_slLeave (k : Nat) : (s.slLeave k).slOf k = slInit := by
  rw [State.slOf, State.slLeave_lanes]; exact s.slOf_setSl_same k _

@[simp] theorem State.laneOf_slLeave (k i : Nat) : (s.slLeave k).laneOf i = s.laneOf i := by
  rw [State.laneOf, State.slLeave_lanes]; rfl

end Sys2Proof.Machine
end

section
/-! A lane that loses lock, acquires again, and has a fault counted on its ladder. -/

namespace Sys2Proof.Machine

open Sys2Proof.Safety

/-! ### A lane loses lock (R278) -/

variable (s : State)

theorem State.lockLost_eq (i : Nat) : s.lockLost i =
    if 256 ≤ i then ((s.count Cn.laneLockLoss i).setFld (F.laneAlm_lock_lost i) 1).post 0x0901 [i]
    else (s.count Cn.laneLockLoss i).setFld (F.laneAlm_lock_lost i) 1 := (rfl)

theorem State.lockLost_flds (i : Nat) : FldsBut [F.laneAlm_lock_lost i] s (s.lockLost i) := by
  have hset : FldsBut [F.laneAlm_lock_lost i] s ((s.count Cn.laneLockLoss i).setFld (F.laneAlm_lock_lost i) 1) :=
    ((FldsBut.refl _ s).of_regs (by simp)).setFld _ (by simp) (by simp [lane_names])
  rw [State.lockLost_eq]
  split
  · exact hset.post_ _ _
  · exact hset

theorem State.lockLost_frame (i : Nat) : FrameBut [.regs, .cnt, .evq, .mem] s (s.lockLost i) := by
  have hset : FrameBut [.regs, .cnt, .evq, .mem] s ((s.count Cn.laneLockLoss i).setFld (F.laneAlm_lock_lost i) 1) :=
    ((FrameBut.refl _ s).count _ _ (by simp)).setFld _ _ (by simp)
  rw [State.lockLost_eq]
  split
  · exact hset.post _ _ (by simp)
  · exact hset

theorem State.lockLost_alarm (i : Nat) : (s.lockLost i).flag (F.laneAlm_lock_lost i) = true := by
  have hset (t : State) : (t.setFld (F.laneAlm_lock_lost i) 1).flag (F.laneAlm_lock_lost i) = true := by
    rw [State.flag_setFld_same _ _ _ (by simp [lane_names])]
    simp [lane_names]
  rw [State.lockLost_eq]
  split
  · rw [State.post_flag_at]; exact hset _
  · exact hset _

/-- The loss of lock of a transmit lane is counted only. -/
theorem State.lockLost_transmit {i : Nat} (hi : i < 256) : (s.lockLost i).evq = s.evq ∧ (s.lockLost i).cnt = (s.count Cn.laneLockLoss i).cnt := by
  rw [State.lockLost_eq, if_neg (by omega)]
  exact ⟨State.count_evq .., rfl⟩

/-! ### A lane acquires again (R281) -/

/-- The fields that acquisition reads. -/
def goodFlds (i : Nat) : List Fld := [F.laneSts_good_valid i, F.laneGood i 0, F.laneGood i 1, F.lanePreset0 i, F.lanePreset1 i]

/-- The fields that acquisition writes. -/
def acqFlds (i : Nat) : List Fld := [F.laneCoef i 0, F.laneCoef i 1, F.laneSts_state i, F.laneSts_frozen i]

/-- After s the lane acquires again: from the last good set of s, or from its preset without one, with its alarm raised. -/
def State.Again (s : State) (i : Nat) (t : State) : Prop :=
  t.ln i = 3 ∧ t.flag (F.laneSts_frozen i) = false ∧
    t.fld (F.laneCoef i 0) = (if s.flag (F.laneSts_good_valid i) then s.fld (F.laneGood i 0) else s.fld (F.lanePreset0 i)) ∧
    t.fld (F.laneCoef i 1) = (if s.flag (F.laneSts_good_valid i) then s.fld (F.laneGood i 1) else s.fld (F.lanePreset1 i)) ∧
    t.flag (F.laneAlm_lock_lost i) = true

variable {s}

theorem State.flag_of_flds {l : List Fld} {t : State} (h : FldsBut l s t) {g : Fld} (hg : ∀ f ∈ l, Apart f g) : t.flag g = s.flag g := by
  unfold State.flag; rw [h g hg]

/-- What is apart from a lane's acquisition leaves the lane acquiring. -/
theorem State.Again.of_flds {l : List Fld} {t u : State} {i : Nat} (h : s.Again i t) (hf : FldsBut l t u)
    (hl : ∀ f ∈ l, ∀ g ∈ F.laneAlm_lock_lost i :: acqFlds i, Apart f g) : s.Again i u := by
  obtain ⟨hln, hfrozen, hc0, hc1, halm⟩ := h
  have hfld {g : Fld} (hg : g ∈ F.laneAlm_lock_lost i :: acqFlds i) : u.fld g = t.fld g := hf g (fun f hfl => hl f hfl g hg)
  refine ⟨(hfld (by simp [acqFlds])).trans hln, ?_, (hfld (by simp [acqFlds])).trans hc0, (hfld (by simp [acqFlds])).trans hc1, ?_⟩
  · unfold State.flag; rw [hfld (by simp [acqFlds])]; exact hfrozen
  · unfold State.flag; rw [hfld (by simp)]; exact halm

theorem State.acquire_again {l : List Fld} {t : State} {i : Nat} (hf : FldsBut l s t) (hl : ∀ f ∈ l, ∀ g ∈ goodFlds i, Apart f g) (a : Bool)
    (halm : t.flag (F.laneAlm_lock_lost i) = true) : s.Again i (t.acquire i a) := by
  have hfld {g : Fld} (hg : g ∈ goodFlds i) : t.fld g = s.fld g := hf g (fun f hfl => hl f hfl g hg)
  obtain ⟨hc0, hc1, hln, hfrozen⟩ := t.acquire_fld i a
  refine ⟨hln, hfrozen, ?_, ?_, ?_⟩
  · rw [hc0, State.flag, hfld (by simp [goodFlds]), hfld (by simp [goodFlds]), hfld (by simp [goodFlds])]; rfl
  · rw [hc1, State.flag, hfld (by simp [goodFlds]), hfld (by simp [goodFlds]), hfld (by simp [goodFlds])]; rfl
  · rw [State.flag_of_flds (t.acquire_flds i a) (by simp [lane_names, Apart])]; exact halm

variable (s)

theorem State.loseLock_eq {i : Nat} (hi : i < 640 ∨ i = 648) (a : Bool) : s.loseLock i a = (s.acquire i a).lockLost i := if_neg (by omega)

theorem State.loseLock_sld {i : Nat} (hi : 640 ≤ i) (hi' : i < 648) (a : Bool) :
    s.loseLock i a = (((s.acquire i a).lockLost i).slLeave (i - 640)).showPresent := if_pos ⟨hi, hi'⟩

/-- The fields that a lane off the link writes as it leaves LOCKED. -/
def loseFlds (i : Nat) : List Fld := acqFlds i ++ [F.laneAlm_lock_lost i]

theorem State.loseLock_flds {i : Nat} (hi : i < 640 ∨ i = 648) (a : Bool) : FldsBut (loseFlds i) s (s.loseLock i a) := by
  rw [s.loseLock_eq hi]
  exact ((s.acquire_flds i a).mono (by simp [loseFlds, acqFlds])).trans ((State.lockLost_flds _ i).mono (by simp [loseFlds]))

theorem State.loseLock_frame (i : Nat) (a : Bool) : FrameBut [.regs, .lanes, .cnt, .evq, .mem] s (s.loseLock i a) := by
  have hlose : FrameBut [.regs, .lanes, .cnt, .evq, .mem] s ((s.acquire i a).lockLost i) :=
    ((s.acquire_frame i a).mono (by simp)).trans ((State.lockLost_frame _ i).mono (by simp))
  unfold State.loseLock
  split
  · exact (hlose.trans ((State.slLeave_frame _ _).mono (by simp))).trans ((State.showPresent_frame _).mono (by simp))
  · exact hlose

theorem State.loseLock_lanes {i : Nat} (hi : i < 640 ∨ i = 648) (a : Bool) : (s.loseLock i a).lanes = (s.acquire i a).lanes := by
  rw [s.loseLock_eq hi]; exact State.lockLost_frame _ i .lanes (by decide)

theorem State.loseLock_laneOf {i : Nat} (hi : i < 640 ∨ i = 648) (a : Bool) : (s.loseLock i a).laneOf = (s.acquire i a).laneOf := by
  funext j; unfold State.laneOf; rw [s.loseLock_lanes hi]

variable {s}

theorem State.loseLock_again {l : List Fld} {t : State} {i : Nat} (hf : FldsBut l s t) (hl : ∀ f ∈ l, ∀ g ∈ goodFlds i, Apart f g) (hi : i < 640 ∨ i = 648) (a : Bool) :
    s.Again i (t.loseLock i a) := by
  have hfld {g : Fld} (hg : g ∈ goodFlds i) : t.fld g = s.fld g := hf g (fun f hfl => hl f hfl g hg)
  rw [t.loseLock_eq hi]
  obtain ⟨hc0, hc1, hln, hfrozen⟩ := t.acquire_fld i a
  have hkeep {g : Fld} (hg : Apart (F.laneAlm_lock_lost i) g) : ((t.acquire i a).lockLost i).fld g = (t.acquire i a).fld g :=
    State.lockLost_flds _ i g (by simpa using hg)
  refine ⟨(hkeep (by simp [lane_names, Apart])).trans hln, ?_, ?_, ?_, State.lockLost_alarm _ i⟩
  · rw [State.flag, hkeep (by simp [lane_names, Apart])]; exact hfrozen
  · rw [hkeep (by simp [lane_names, Apart]), hc0, State.flag, hfld (by simp [goodFlds]), hfld (by simp [goodFlds]), hfld (by simp [goodFlds])]; rfl
  · rw [hkeep (by simp [lane_names, Apart]), hc1, State.flag, hfld (by simp [goodFlds]), hfld (by simp [goodFlds]), hfld (by simp [goodFlds])]; rfl

/-! ### A fault of a lane (R283) -/

variable (s)

/-- The fault of a lane, noted before its ladder decides. -/
def State.laneHurt (i : Nat) : State := ((s.setFld (F.laneAlm_fault i) 1).count Cn.laneFault i).noteFault (laneRegion i) (laneClass i) i

/-- The fault of a lane, counted on its ladder and shown. -/
def State.laneNoted (i : Nat) : State :=
  ((s.laneHurt i).ladder (laneClass i) i).1.setFld (F.laneFaults_faults i) (((s.laneHurt i).ladder (laneClass i) i).1.faultList (laneClass i) i).length

theorem State.laneFault_eq (i : Nat) : s.laneFault i =
    if ((s.laneHurt i).ladder (laneClass i) i).2 then (s.laneNoted i).retireLane i else (s.laneNoted i).acquire i true := (rfl)

theorem State.laneHurt_frame (i : Nat) : FrameBut [.regs, .cnt, .evq, .mem, .rig] s (s.laneHurt i) :=
  (((FrameBut.refl _ s).setFld _ _ (by simp)).count _ _ (by simp)).noteFault _ _ _ (by simp)

theorem State.noteFault_flds (r c o : Nat) : FldsBut [] s (s.noteFault r c o) :=
  (FldsBut.refl _ s).of_frame ((FrameBut.refl [.rig, .evq, .cnt, .mem] s).noteFault _ _ _ (by simp)) (by decide)

theorem State.noteFault_run (r c o : Nat) : (s.noteFault r c o).rig.run = s.rig.run := by
  simp only [State.noteFault]
  split
  · have hpost (t : State) (c : Nat) (d : List Nat) : (t.post c d).rig = t.rig := (FrameBut.refl [.evq, .cnt, .mem] t).post _ _ (by simp) .rig (by decide)
    rw [hpost]
  · rfl

theorem State.laneHurt_flds (i : Nat) : FldsBut [F.laneAlm_fault i] s (s.laneHurt i) := by
  have hset : FldsBut [F.laneAlm_fault i] s (s.setFld (F.laneAlm_fault i) 1) := (FldsBut.refl _ s).setFld _ (by simp) (by simp [lane_names])
  exact (hset.of_regs (State.count_regs ..)).trans ((State.noteFault_flds _ _ _ _).mono (by simp))

theorem State.laneHurt_run (i : Nat) : (s.laneHurt i).rig.run = s.rig.run := by
  have hcount (t : State) : (t.count Cn.laneFault i).rig = t.rig := (FrameBut.refl [.cnt] t).count _ _ (by simp) .rig (by decide)
  rw [State.laneHurt, State.noteFault_run, hcount]; rfl

theorem State.laneNoted_flds (i : Nat) : FldsBut [F.laneAlm_fault i, F.laneFaults_faults i] s (s.laneNoted i) :=
  ((((s.laneHurt_flds i).mono (by simp))).of_frame ((FrameBut.refl [.sup, .cnt] _).ladder (laneClass i) i (by simp)) (by decide)).setFld _ (by simp)
    (by simp [lane_names])

theorem State.laneNoted_frame (i : Nat) : FrameBut [.regs, .cnt, .evq, .mem, .rig, .sup] s (s.laneNoted i) :=
  (((s.laneHurt_frame i).mono (by simp)).ladder _ _ (by simp)).setFld _ _ (by simp)

theorem State.laneNoted_fault (i : Nat) : (s.laneNoted i).flag (F.laneAlm_fault i) = true := by
  have hhurt : (s.laneHurt i).flag (F.laneAlm_fault i) = true := by
    rw [State.laneHurt, State.flag_of_flds (State.noteFault_flds _ _ _ _) (by simp), State.count_flag_at, State.flag_setFld_same _ _ _ (by simp [lane_names])]
    simp [lane_names]
  rw [State.laneNoted, State.flag_setFld_other _ _ (by simp [lane_names]) (by simp [lane_names]),
    State.flag_of_flds ((FldsBut.refl [] _).of_frame ((FrameBut.refl [.sup, .cnt] (s.laneHurt i)).ladder (laneClass i) i (by simp)) (by decide)) (by simp)]
  exact hhurt

theorem State.laneNoted_run (i : Nat) : (s.laneNoted i).rig.run = s.rig.run := by
  have hladder : ((s.laneHurt i).ladder (laneClass i) i).1.rig = (s.laneHurt i).rig :=
    (FrameBut.refl [.sup, .cnt] _).ladder _ _ (by simp) .rig (by decide)
  rw [← s.laneHurt_run i, ← hladder]; rfl

variable {s}

/-- Whether a fault is permanent rests on the supervisor and the class's two fields. -/
theorem State.ladder_permanent_of_flds {t : State} (hsup : t.sup = s.sup) (cls obj : Nat) (hw : t.fld (F.glbLadder_window_s (cls - 1)) = s.fld (F.glbLadder_window_s (cls - 1)))
    (ha : t.fld (F.glbLadder_allowance (cls - 1)) = s.fld (F.glbLadder_allowance (cls - 1))) : (t.ladder cls obj).2 = (s.ladder cls obj).2 := by
  have hexempt : t.exempt = s.exempt := by rw [State.exempt, hsup, State.exempt]
  have hlist : t.faultList cls obj = s.faultList cls obj := by rw [State.faultList, hsup, State.faultList]
  unfold State.ladder
  rw [hexempt, hlist, hsup, hw, ha]
  split <;> rfl

/-- The fields of lanes and the link stand behind those of the ladder. -/
theorem State.ladder_permanent_of_lanes {l : List Fld} {t : State} (hsup : t.sup = s.sup) (hf : FldsBut l s t) (hl : ∀ f ∈ l, 0x800000 ≤ f.addr) (cls : Nat) (hc : cls < 16)
    (obj : Nat) : (t.ladder cls obj).2 = (s.ladder cls obj).2 := by
  refine State.ladder_permanent_of_flds hsup cls obj (hf _ fun f hfl => .inl ?_) (hf _ fun f hfl => .inl ?_)
  all_goals
    have := hl f hfl
    simp only [F.glbLadder_window_s, F.glbLadder_allowance]
    omega

theorem laneClass_lt (i : Nat) : laneClass i < 16 := by unfold laneClass; split <;> decide

theorem State.laneHurt_permanent (i : Nat) : ((s.laneHurt i).ladder (laneClass i) i).2 = (s.ladder (laneClass i) i).2 :=
  State.ladder_permanent_of_lanes (s.laneHurt_frame i .sup (by decide)) (s.laneHurt_flds i) (by simp [lane_names, laneFld_addr]; omega) _ (laneClass_lt i) i

theorem State.laneFault_passing {i : Nat} (h : (s.ladder (laneClass i) i).2 = false) : s.laneFault i = (s.laneNoted i).acquire i true := by
  rw [State.laneFault_eq, State.laneHurt_permanent, h]; rfl

theorem State.laneFault_permanent {i : Nat} (h : (s.ladder (laneClass i) i).2 = true) : s.laneFault i = (s.laneNoted i).retireLane i := by
  rw [State.laneFault_eq, State.laneHurt_permanent, if_pos h]

end Sys2Proof.Machine
end

section
/-! A lane that retires, and the loss of SLCK. -/

namespace Sys2Proof.Machine

open Sys2Proof.Safety

/-! ### The retirement of a lane (R284, R295, R381) -/

variable (s : State)

/-- The fields of Rig that a device-initiated apply falling due writes. -/
def dueFlds : List Fld := [F.rigSts_state, F.rigSts_busy, F.rigSts_recheck, F.rigSts_completion]

theorem State.dueApply_flds (cls obj : Nat) : FldsBut dueFlds s (s.dueApply cls obj) := by
  have hshow {t : State} (h : FldsBut dueFlds s t) : FldsBut dueFlds s t.showBusy := h.setFld _ (by simp [dueFlds]) (by decide)
  have hmove : FldsBut dueFlds s (s.moveRig 0) := (s.moveRig_flds 0).mono (by simp [dueFlds])
  unfold State.dueApply
  refine hshow (FldsBut.rig ?_ _)
  split
  · exact ((hmove.setFld _ (by simp [dueFlds]) (by decide)).setFld _ (by simp [dueFlds]) (by decide)).post_ _ _
  · exact .refl _ s

theorem State.dueApply_frame (cls obj : Nat) : FrameBut [.regs, .rig, .evq, .cnt, .mem] s (s.dueApply cls obj) := by
  have hmove : FrameBut [.regs, .rig, .evq, .cnt, .mem] s (s.moveRig 0) := (s.moveRig_frame 0).mono (by simp)
  unfold State.dueApply
  refine FrameBut.setFld (FrameBut.rig ?_ _ (by simp)) _ _ (by simp)
  split
  · exact ((hmove.setFld _ _ (by simp)).setFld _ _ (by simp)).post _ _ (by simp)
  · exact .refl _ s

/-- The lane in RETIRED, its port or the link told. -/
def State.laneOut (i : Nat) : State :=
  let t := s.setFld (F.laneSts_state i) 5
  if 512 ≤ i ∧ i < 640 then
    (match s.portOfLane (i - 512) with
     | some p => t.portDownNow p
     | none => t)
  else if i < 648 then (t.slLeave (i - 640)).showPresent else t

theorem State.retireLane_eq (i : Nat) : s.retireLane i =
    if s.isRetired (laneClass i) i then s.laneOut i
    else if i = 648 then (s.laneOut i).recordRetire 3 i
    else ((s.laneOut i).recordRetire (laneClass i) i).dueApply (laneClass i) i := (rfl)

theorem State.isRetired_of_frame {l : List Part} {t : State} (h : FrameBut l s t) (hl : .sup ∉ l) (cls obj : Nat) : t.isRetired cls obj = s.isRetired cls obj := by
  unfold State.isRetired; rw [h .sup hl]

theorem State.retireLane_isRetired {i : Nat} (hi : i ≠ 648) (hout : (s.laneOut i).sup = s.sup) : (s.retireLane i).isRetired (laneClass i) i = true := by
  rw [State.retireLane_eq, if_neg hi]
  split
  · rename_i h
    rw [← h, State.isRetired, hout, State.isRetired]
  · rw [ State.isRetired_of_frame _ (State.dueApply_frame _ _ _) (by decide)]
    exact State.isRetired_recordRetire _ _ _

/-- Beside the lane's own part, retiring writes only what the apply that falls due shows. -/
theorem State.retireLane_flds (i : Nat) : FldsBut dueFlds (s.laneOut i) (s.retireLane i) := by
  have hrecord (c : Nat) : FldsBut dueFlds (s.laneOut i) ((s.laneOut i).recordRetire c i) := (FldsBut.refl _ _).of_frame (State.recordRetire_frame _ _ _) (by decide)
  rw [State.retireLane_eq]
  split
  · exact .refl _ _
  · split
    · exact hrecord 3
    · exact (hrecord _).trans (State.dueApply_flds _ _ _)

theorem State.laneOut_uplink {i : Nat} (hi : 512 ≤ i) (hi' : i < 640) (hport : s.portOfLane (i - 512) = none) : s.laneOut i = s.setFld (F.laneSts_state i) 5 := by
  rw [State.laneOut, if_pos ⟨hi, hi'⟩, hport]

theorem State.laneOut_sld {i : Nat} (hi : 640 ≤ i) (hi' : i < 648) : s.laneOut i = ((s.setFld (F.laneSts_state i) 5).slLeave (i - 640)).showPresent := by
  rw [State.laneOut, if_neg (by omega), if_pos hi']

/-- A field of a lane is apart from those of Rig. -/
theorem Apart.due_lane {f : Fld} (hf : f ∈ dueFlds) (o lo w i : Nat) : Apart f (laneFld o lo w i) := by
  have hrig : ∀ f ∈ dueFlds, f.addr = 0x100004 := by decide
  left; rw [hrig f hf, laneFld_addr]; omega

theorem State.ln_setState (i v : Nat) (hv : v < 8) : (s.setFld (F.laneSts_state i) v).ln i = v := by
  rw [State.ln, State.fld_setFld_same _ _ _ (by simp [lane_names])]
  simpa [lane_names] using hv

theorem State.retireLane_ln {i : Nat} (h : (s.laneOut i).ln i = 5) : (s.retireLane i).ln i = 5 := by
  rw [← h]
  exact s.retireLane_flds i _ fun f hf => by
    rw [show F.laneSts_state i = laneFld 0x4 0 3 i by simp [lane_names]]
    exact Apart.due_lane hf _ _ _ _

variable {s}

/-- The port of an uplink lane rests on the running rigging. -/
theorem State.portOfLane_congr {t : State} (h : t.rig.run = s.rig.run) (n : Nat) : t.portOfLane n = s.portOfLane n := by
  have hug (u : Nat) : t.ugOf u = s.ugOf u := by rw [State.ugOf, h, State.ugOf]
  have hpos : t.lanePos n = s.lanePos n := by rw [State.lanePos, h, State.lanePos]
  have hbound {p : Nat} (hp : 256 ≤ p) : t.portBound p = s.portBound p := by
    unfold State.portBound State.uplinkBound
    rw [if_neg (by omega), if_neg (by omega)]
    dsimp only
    rw [hug, h]
  unfold State.portOfLane
  dsimp only
  rw [hug, hpos, hbound (by omega)]

/-! ### The loss of SLCK (R294) -/

/-- The link shows itself present only while an SLD lane is LOCKED. -/
def State.PresentOk (t : State) : Prop := t.flag F.laneSlSts_present = true → ∃ j, j < 8 ∧ t.ln (640 + j) = 4

/-- The other SLD lanes than k are in the state they were in. -/
def OtherSld (k : Nat) (s t : State) : Prop := ∀ j, j < 8 → 640 + j ≠ k → t.ln (640 + j) = s.ln (640 + j)

theorem OtherSld.trans {k : Nat} {t u : State} (h : OtherSld k s t) (h' : OtherSld k t u) : OtherSld k s u := fun j hj hk => (h' j hj hk).trans (h j hj hk)

theorem State.presentOk_showPresent (t : State) : t.showPresent.PresentOk := fun h => by
  rw [State.showPresent_present, State.slPresentNow_iff] at h
  obtain ⟨j, hj, -, hln⟩ := h
  exact ⟨j, hj, (State.showPresent_flds t _ (by simpa [lane_names] using Apart.sl_lane (by omega) (by decide) (by decide))).trans hln⟩

/-- Fields of lane k, of the link and of Rig leave the state of the other SLD lanes. -/
theorem OtherSld.of_flds {l : List Fld} {t : State} {k : Nat} (hf : FldsBut l s t) (hl : ∀ f ∈ l, f ∈ loseFlds k ++ [F.laneAlm_fault k, F.laneFaults_faults k] ++ leaveFlds ++ dueFlds) :
    OtherSld k s t := fun j hj hk => by
  refine hf _ fun f hfl => ?_
  have := hl f hfl
  rw [show F.laneSts_state (640 + j) = laneFld 0x4 0 3 (640 + j) by simp [lane_names]]
  simp only [List.mem_append] at this
  rcases this with ((hk' | hk') | hleave) | hdue
  · simp only [loseFlds, acqFlds, lane_names, List.mem_append, List.mem_cons, List.not_mem_nil, or_false] at hk'
    left; rcases hk' with (rfl | rfl | rfl | rfl) | rfl <;> rw [laneFld_addr, laneFld_addr] <;> omega
  · simp only [lane_names, List.mem_cons, List.not_mem_nil, or_false] at hk'
    left; rcases hk' with rfl | rfl <;> rw [laneFld_addr, laneFld_addr] <;> omega
  · exact Apart.sl_lane (by omega) (by decide) ((by decide : ∀ f ∈ leaveFlds, 0x8A4000 ≤ f.addr) f hleave)
  · exact Apart.due_lane hdue _ _ _ _

theorem State.PresentOk.of_other {t : State} {k : Nat} (h : s.PresentOk) (hk : s.ln k ≠ 4) (hother : OtherSld k s t)
    (hpresent : t.flag F.laneSlSts_present = s.flag F.laneSlSts_present) : t.PresentOk := fun hp => by
  obtain ⟨j, hj, hln⟩ := h (hpresent ▸ hp)
  exact ⟨j, hj, (hother j hj (fun he => hk (he ▸ hln))).trans hln⟩

variable (s)

theorem State.loseLock_sld_step {k : Nat} (hk : 640 ≤ k) (hk' : k < 648) (a : Bool) :
    (s.loseLock k a).ln k = 3 ∧ OtherSld k s (s.loseLock k a) ∧ (s.loseLock k a).PresentOk := by
  rw [s.loseLock_sld hk hk']
  have hlost : FldsBut (loseFlds k) s ((s.acquire k a).lockLost k) :=
    ((s.acquire_flds k a).mono (by simp [loseFlds, acqFlds])).trans ((State.lockLost_flds _ k).mono (by simp [loseFlds]))
  have hleave : FldsBut leaveFlds ((s.acquire k a).lockLost k) (((s.acquire k a).lockLost k).slLeave (k - 640)).showPresent :=
    ((State.slLeave_flds _ _).mono (by simp [leaveFlds])).trans ((State.showPresent_flds _).mono (by simp [leaveFlds]))
  refine ⟨?_, (OtherSld.of_flds hlost (by simp +contextual)).trans (.of_flds hleave (by simp +contextual)), State.presentOk_showPresent _⟩
  have hst : F.laneSts_state k = laneFld 0x4 0 3 k := by simp [lane_names]
  rw [State.ln, hleave _ fun f hf => by rw [hst]; exact Apart.sl_lane (by omega) (by decide) ((by decide : ∀ f ∈ leaveFlds, 0x8A4000 ≤ f.addr) f hf),
    State.lockLost_flds _ k _ (by simp [lane_names, Apart])]
  exact (s.acquire_fld k a).2.2.1

theorem State.laneFault_sld_step {k : Nat} (hk : 640 ≤ k) (hk' : k < 648) (hln : s.ln k ≠ 4) (hp : s.PresentOk) :
    (s.laneFault k).ln k ≠ 4 ∧ OtherSld k s (s.laneFault k) ∧ (s.laneFault k).PresentOk := by
  have hsl : ∀ f ∈ [F.laneAlm_fault k, F.laneFaults_faults k] ++ acqFlds k, Apart f F.laneSlSts_present := by
    simp only [acqFlds, lane_names, List.cons_append, List.nil_append, List.forall_mem_cons, List.not_mem_nil, false_implies, implies_true, and_true]
    refine ⟨?_, ?_, ?_, ?_, ?_, ?_⟩ <;> exact Apart.lane_sl (by omega) (by decide) (by decide)
  have hnoted := s.laneNoted_flds k
  have hother : OtherSld k s (s.laneNoted k) := .of_flds hnoted (by simp +contextual)
  have hln' : (s.laneNoted k).ln k ≠ 4 := by
    rw [State.ln, hnoted _ (by simp [lane_names, Apart])]; exact hln
  have hp' : (s.laneNoted k).PresentOk := hp.of_other hln hother (State.flag_of_flds hnoted fun f hf => hsl f (List.mem_append_left _ hf))
  rcases hperm : (s.ladder (laneClass k) k).2
  · rw [State.laneFault_passing hperm]
    have hacq := (s.laneNoted k).acquire_flds k true
    have hother' : OtherSld k (s.laneNoted k) ((s.laneNoted k).acquire k true) := .of_flds hacq (by simp +contextual [loseFlds, acqFlds])
    refine ⟨?_, hother.trans hother', hp'.of_other hln' hother' (State.flag_of_flds hacq fun f hf => hsl f (List.mem_append_right _ hf))⟩
    rw [((s.laneNoted k).acquire_fld k true).2.2.1]; decide
  · rw [State.laneFault_permanent hperm]
    have hset : FldsBut [F.laneSts_state k] (s.laneNoted k) ((s.laneNoted k).setFld (F.laneSts_state k) 5) :=
      (FldsBut.refl _ _).setFld _ (by simp) (by simp [lane_names])
    have hleave : FldsBut leaveFlds ((s.laneNoted k).setFld (F.laneSts_state k) 5) ((s.laneNoted k).laneOut k) := by
      rw [State.laneOut_sld _ hk hk']
      exact ((State.slLeave_flds _ _).mono (by simp [leaveFlds])).trans ((State.showPresent_flds _).mono (by simp [leaveFlds]))
    have hst : F.laneSts_state k = laneFld 0x4 0 3 k := by simp [lane_names]
    have hout : ((s.laneNoted k).laneOut k).ln k = 5 := by
      rw [State.ln, hleave _ fun f hf => by rw [hst]; exact Apart.sl_lane (by omega) (by decide) ((by decide : ∀ f ∈ leaveFlds, 0x8A4000 ≤ f.addr) f hf)]
      exact State.ln_setState _ _ _ (by decide)
    have hdue := (s.laneNoted k).retireLane_flds k
    have hother' : OtherSld k ((s.laneNoted k).laneOut k) ((s.laneNoted k).retireLane k) := .of_flds hdue (by simp +contextual)
    have hretired := State.retireLane_ln _ hout
    refine ⟨by rw [hretired]; decide, ((hother.trans (.of_flds hset (by simp [loseFlds, acqFlds]))).trans (.of_flds hleave (by simp +contextual))).trans hother', ?_⟩
    have hpOut : ((s.laneNoted k).laneOut k).PresentOk := by
      rw [State.laneOut_sld _ hk hk']; exact State.presentOk_showPresent _
    exact hpOut.of_other (by rw [hout]; decide) hother' (State.flag_of_flds hdue fun f hf => .inl ((by decide : ∀ f ∈ dueFlds, F.laneSlSts_present.addr ≠ f.addr) f hf))

/-- An SLD lane that the loss of SLCK takes out of LOCKED (R294). -/
def State.slckLost (k : Nat) : State := (s.loseLock k true).laneFault k

theorem State.slckLost_step {k : Nat} (hk : 640 ≤ k) (hk' : k < 648) :
    (s.slckLost k).ln k ≠ 4 ∧ OtherSld k s (s.slckLost k) ∧ (s.slckLost k).PresentOk := by
  obtain ⟨hln, hother, hp⟩ := s.loseLock_sld_step hk hk' true
  obtain ⟨hln', hother', hp'⟩ := State.laneFault_sld_step _ hk hk' (by rw [hln]; decide) hp
  exact ⟨hln', hother.trans hother', hp'⟩

/-- Lanes taken out of LOCKED one after the other: none of them is LOCKED, the others stay, and what is shown agrees. -/
theorem State.slckLost_foldl (l : List Nat) (hl : ∀ k ∈ l, 640 ≤ k ∧ k < 648) :
    (∀ j, j < 8 → (640 + j ∈ l ∨ s.ln (640 + j) ≠ 4) → (l.foldl State.slckLost s).ln (640 + j) ≠ 4) ∧ (l ≠ [] ∨ s.PresentOk → (l.foldl State.slckLost s).PresentOk) := by
  induction l generalizing s with
  | nil => exact ⟨fun j _ h => h.resolve_left (by simp), fun h => h.resolve_left (by simp)⟩
  | cons k l ih =>
    obtain ⟨hk, hk'⟩ := hl k (by simp)
    obtain ⟨hln, hother, hp⟩ := s.slckLost_step hk hk'
    obtain ⟨hrest, hpresent⟩ := ih (s.slckLost k) fun j hj => hl j (List.mem_cons_of_mem _ hj)
    refine ⟨fun j hj h => hrest j hj ?_, fun _ => hpresent (.inr hp)⟩
    by_cases he : 640 + j = k
    · right; rw [he]; exact hln
    · rw [hother j hj he]
      exact h.imp_left fun hm => (List.mem_cons.mp hm).resolve_left he

end Sys2Proof.Machine
end

section
/-! Reef states and lock. -/

namespace Sys2Proof.Machine

open Sys2Proof.Safety

/-! ### Reef states (R282) -/

variable (s : State)

theorem State.reefBegin_eq (i r : Nat) : s.reefBegin i r =
    if r = 0 then
      if (s.laneOf i).byHost then
        if i < 512 then (s.setFld (F.laneSts_state i) (laneOfCh (s.ch (i % 256)))).setLane i { s.laneOf i with byHost := false } else s.acquire i true
      else s
    else s.setLane i { s.laneOf i with entering := some r } := (rfl)

theorem State.reefBegin_flds (i r : Nat) : FldsBut (acqFlds i) s (s.reefBegin i r) := by
  rw [State.reefBegin_eq]
  split
  · split
    · split
      · exact ((FldsBut.refl _ s).setFld _ (by simp [acqFlds]) (by simp [lane_names])).lanes _
      · exact s.acquire_flds i true
    · exact .refl _ s
  · exact (FldsBut.refl _ s).lanes _

theorem State.reefBegin_frame (i r : Nat) : FrameBut [.regs, .lanes] s (s.reefBegin i r) := by
  rw [State.reefBegin_eq]
  split
  · split
    · split
      · exact ((FrameBut.refl _ s).setFld _ _ (by simp)).lanes _ (by simp)
      · exact s.acquire_frame i true
    · exact .refl _ s
  · exact (s.setLane_frame i _).mono (by simp)

theorem State.reefBegin_laneOf_other {i j : Nat} (r : Nat) (h : j ≠ i) : (s.reefBegin i r).laneOf j = s.laneOf j := by
  rw [State.reefBegin_eq]
  split
  · split
    · split
      · rw [State.laneOf_setLane_other _ _ h, State.laneOf_setFld]
      · exact s.acquire_laneOf_other true h
    · rfl
  · exact State.laneOf_setLane_other _ _ h

variable {s}

theorem State.reefAllowed_eq (i r : Nat) : s.reefAllowed i r =
    if s.ln i = 5 ∨ s.ln i = 0 then false
    else if i < 512 then (decide (s.ch (i % 256) = 1) || decide (s.ch (i % 256) = 5)) && (decide (r = 2) || decide (r = 0))
    else if i < 640 then (s.portOfLane (i - 512)).isSome
    else !(s.flag F.laneSlCtrl_enable) := (rfl)

theorem State.reefAllowed_refused {i : Nat} {reef : BitVec 2} (h : s.ln i = 0 ∨ s.ln i = 5 ∨ (i < 512 ∧ (s.ch (i % 256) ≠ 1 ∧ s.ch (i % 256) ≠ 5 ∨ reef = 1)) ∨
    (640 ≤ i ∧ s.flag F.laneSlCtrl_enable = true)) : s.reefAllowed i reef.toNat = false := by
  rw [State.reefAllowed_eq]
  split
  · rfl
  · rename_i hln
    rcases h with h | h | ⟨hi, h⟩ | ⟨hi, h⟩
    · exact absurd (.inr h) hln
    · exact absurd (.inl h) hln
    · rw [if_pos hi]
      rcases h with ⟨h1, h5⟩ | hr
      · simp [h1, h5]
      · simp [hr]
    · rw [if_neg (by omega), if_neg (by omega), h]; rfl

section
variable {m : Master} {k : LaneIx} {reef : BitVec 2}

theorem exec_laneReefRequest_idle (h : mayWrite m = false ∨ s.released 6 = false ∨ reef = 3) : exec (.laneReefRequest m k reef) s = .next s :=
  if_neg (by rcases h with h | h | h <;> simp [h])

theorem exec_laneReefRequest_refused (hm : mayWrite m = true) (hr : s.released 6 = true) (h3 : reef ≠ 3) (h : s.reefAllowed k.val reef.toNat = false) :
    exec (.laneReefRequest m k reef) s = .next ((s.setFld (F.laneCtrl_reef k.val) reef.toNat).setFld (F.laneAlm_reef_refused k.val) 1) :=
  (if_pos ⟨hm, hr, h3⟩).trans (if_neg (by simp [h]))

theorem exec_laneReefRequest_queued (hm : mayWrite m = true) (hr : s.released 6 = true) (h3 : reef ≠ 3) (h : s.reefAllowed k.val reef.toNat = true)
    (hent : (s.laneOf k.val).entering ≠ none) : exec (.laneReefRequest m k reef) s =
      .next ((s.setFld (F.laneCtrl_reef k.val) reef.toNat).setLane k.val { s.laneOf k.val with queued := some reef.toNat }) :=
  ((if_pos ⟨hm, hr, h3⟩).trans (if_pos h)).trans (if_pos (Option.isSome_iff_ne_none.mpr hent))

theorem exec_laneReefRequest_begun (hm : mayWrite m = true) (hr : s.released 6 = true) (h3 : reef ≠ 3) (h : s.reefAllowed k.val reef.toNat = true)
    (hent : (s.laneOf k.val).entering = none) :
    exec (.laneReefRequest m k reef) s = .next ((s.setFld (F.laneCtrl_reef k.val) reef.toNat).reefBegin k.val reef.toNat) :=
  ((if_pos ⟨hm, hr, h3⟩).trans (if_pos h)).trans (if_neg (by simp [hent]))

end

theorem State.fld_setReef (i : Nat) (r : BitVec 2) : (s.setFld (F.laneCtrl_reef i) r.toNat).fld (F.laneCtrl_reef i) = r.toNat := by
  rw [State.fld_setFld_same _ _ _ (by simp [lane_names])]
  simpa [lane_names] using r.isLt

theorem State.setReef_flds (i v : Nat) : FldsBut [F.laneCtrl_reef i] s (s.setFld (F.laneCtrl_reef i) v) :=
  (FldsBut.refl _ s).setFld _ (by simp) (by simp [lane_names])

/-- A refused request shows what was asked and its alarm. -/
theorem State.reefRefused_spec (i : Nat) (r : BitVec 2) : let t := (s.setFld (F.laneCtrl_reef i) r.toNat).setFld (F.laneAlm_reef_refused i) 1
    t.fld (F.laneCtrl_reef i) = r.toNat ∧ t.flag (F.laneAlm_reef_refused i) = true ∧ FldsBut [F.laneCtrl_reef i, F.laneAlm_reef_refused i] s t ∧ FrameBut [.regs] s t := by
  refine ⟨?_, ?_, ((State.setReef_flds i _).mono (by simp)).setFld _ (by simp) (by simp [lane_names]), ((FrameBut.refl _ s).setFld _ _ (by simp)).setFld _ _ (by simp)⟩
  · rw [State.fld_setFld_other _ _ (by simp [lane_names]) (by simp [lane_names]), State.fld_setReef]
  · rw [State.flag_setFld_same _ _ _ (by simp [lane_names])]
    simp [lane_names]

/-- What a granted request begins. -/
theorem State.reefBegun_spec (i : Nat) (r : BitVec 2) : let t := (s.setFld (F.laneCtrl_reef i) r.toNat).reefBegin i r.toNat; let l := s.laneOf i
    t.fld (F.laneCtrl_reef i) = r.toNat ∧ FrameBut [.regs, .lanes] s t ∧ (∀ j, j ≠ i → t.laneOf j = s.laneOf j) ∧
    (r.toNat ≠ 0 → t.laneOf i = { l with entering := some r.toNat } ∧ FldsBut [F.laneCtrl_reef i] s t) ∧
    (r.toNat = 0 → l.byHost = false → t.laneOf i = l ∧ FldsBut [F.laneCtrl_reef i] s t) ∧
    (r.toNat = 0 → l.byHost = true → 512 ≤ i → t.ln i = 3 ∧ (t.laneOf i).byHost = false) := by
  refine ⟨?_, ?_, fun j hj => ?_, fun hr => ?_, fun hr hhost => ?_, fun hr hhost hi => ?_⟩
  · rw [State.reefBegin_flds _ i _ _ (by simp [acqFlds, lane_names, Apart]), State.fld_setReef]
  · exact ((FrameBut.refl _ s).setFld _ _ (by simp)).trans (State.reefBegin_frame _ _ _)
  · rw [State.reefBegin_laneOf_other _ _ hj, State.laneOf_setFld]
  · rw [State.reefBegin_eq, if_neg hr]
    exact ⟨by rw [State.laneOf_setLane_same, State.laneOf_setFld], (State.setReef_flds i _).lanes _⟩
  · rw [State.reefBegin_eq, if_pos hr, if_neg (by simp [hhost])]
    exact ⟨by rw [State.laneOf_setFld], State.setReef_flds i _⟩
  · rw [State.reefBegin_eq, if_pos hr, if_pos (by simp [hhost]), if_neg (by omega)]
    exact ⟨(State.acquire_fld _ i true).2.2.1, by rw [State.acquire_laneOf]⟩

/-- A request that waits for the entry in progress. -/
theorem State.reefQueued_spec (i : Nat) (r : BitVec 2) : let t := (s.setFld (F.laneCtrl_reef i) r.toNat).setLane i { s.laneOf i with queued := some r.toNat }
    t.fld (F.laneCtrl_reef i) = r.toNat ∧ FrameBut [.regs, .lanes] s t ∧ (∀ j, j ≠ i → t.laneOf j = s.laneOf j) ∧
    t.laneOf i = { s.laneOf i with queued := some r.toNat } ∧ FldsBut [F.laneCtrl_reef i] s t :=
  ⟨by rw [State.fld_setLane, State.fld_setReef], ((FrameBut.refl _ s).setFld _ _ (by simp)).lanes _ (by simp),
    fun j hj => by rw [State.laneOf_setLane_other _ _ hj, State.laneOf_setFld], State.laneOf_setLane_same _ _ _, (State.setReef_flds i _).lanes _⟩

section
variable {k : LaneIx}

/-- The lane in the Reef state it entered, by the host's doing. -/
def State.reefIn (s : State) (i r : Nat) : State := (s.setFld (F.laneSts_state i) (if r = 1 then 2 else 1)).setLane i { laneInit with byHost := true }

theorem exec_laneReefEntered_idle (h : (s.laneOf k.val).entering = none) : exec (.laneReefEntered k) s = .next s := by
  show execLaneReefEntered s k = _
  simp only [execLaneReefEntered, h]

theorem exec_laneReefEntered {r : Nat} (h : (s.laneOf k.val).entering = some r) (hq : (s.laneOf k.val).queued = none) : exec (.laneReefEntered k) s = .next
    (if s.ln k.val = 4 ∧ 640 ≤ k.val ∧ k.val < 648 then ((s.reefIn k.val r).slLeave (k.val - 640)).showPresent else s.reefIn k.val r) := by
  show execLaneReefEntered s k = _
  simp only [execLaneReefEntered, h, hq]
  rfl

end

theorem State.reefIn_ln (i r : Nat) : (s.reefIn i r).ln i = if r = 1 then 2 else 1 := by
  rw [State.reefIn, State.ln, State.fld_setLane]
  exact State.ln_setState _ _ _ (by split <;> decide)

theorem State.reefIn_spec (i r : Nat) : (s.reefIn i r).laneOf i = { laneInit with byHost := true } ∧ (∀ j, j ≠ i → (s.reefIn i r).laneOf j = s.laneOf j) ∧
    FldsBut [F.laneSts_state i] s (s.reefIn i r) ∧ FrameBut [.regs, .lanes] s (s.reefIn i r) :=
  ⟨State.laneOf_setLane_same _ _ _, fun _ hj => (State.laneOf_setLane_other _ _ hj).trans (State.laneOf_setFld _ _ _ _),
    ((FldsBut.refl _ s).setFld _ (by simp) (by simp [lane_names])).lanes _, ((FrameBut.refl _ s).setFld _ _ (by simp)).lanes _ (by simp)⟩

/-- An SLD lane that leaves LOCKED for a Reef state leaves the link. -/
theorem State.reefIn_leave_spec {i : Nat} (hi : 640 ≤ i) (hi' : i < 648) (r : Nat) : let t := ((s.reefIn i r).slLeave (i - 640)).showPresent
    t.ln i = (if r = 1 then 2 else 1) ∧ (t.slOf (i - 640)).st = 0 := by
  have hleave : FldsBut leaveFlds (s.reefIn i r) ((s.reefIn i r).slLeave (i - 640)).showPresent :=
    ((State.slLeave_flds _ _).mono (by simp [leaveFlds])).trans ((State.showPresent_flds _).mono (by simp [leaveFlds]))
  refine ⟨?_, ?_⟩
  · rw [← s.reefIn_ln i r]
    refine hleave _ fun f hf => ?_
    rw [show F.laneSts_state i = laneFld 0x4 0 3 i by simp [lane_names]]
    exact Apart.sl_lane (by omega) (by decide) ((by decide : ∀ f ∈ leaveFlds, 0x8A4000 ≤ f.addr) f hf)
  · rw [State.slOf_of_frame (State.showPresent_frame _) (by decide), State.slOf_slLeave]; rfl

/-! ### Lock (R278, R294) -/

/-- The lane LOCKED with a signal. -/
def State.lockedNow (s : State) (i : Nat) : State := (s.setFld (F.laneSts_state i) 4).setFld (F.laneSts_sig_det i) 1

/-- The lock posted after a fault or a Reef exit, and that no announcement is open any more. -/
def State.lockSaid (s : State) (i : Nat) : State :=
  let t := if (s.laneOf i).announce then ((s.lockedNow i).post 0x0902 [i]).recovered (laneRegion i) (laneClass i) i else s.lockedNow i
  t.setLane i { t.laneOf i with announce := false }

section
variable {k : LaneIx}

theorem exec_laneLockAcquired_idle (h : s.ln k.val ≠ 3) : exec (.laneLockAcquired k) s = .next s := if_neg h

theorem exec_laneLockAcquired (h : s.ln k.val = 3) :
    exec (.laneLockAcquired k) s = if 640 ≤ k.val then .next (s.lockSaid k.val).showPresent else .next (s.lockSaid k.val) := if_pos h

end

theorem State.lockedNow_ln (i : Nat) : (s.lockedNow i).ln i = 4 := by
  rw [State.lockedNow, State.ln, State.fld_setFld_other _ _ (by simp [lane_names]) (by simp [lane_names])]
  exact State.ln_setState _ _ _ (by decide)

theorem State.lockedNow_sig (i : Nat) : (s.lockedNow i).flag (F.laneSts_sig_det i) = true := by
  rw [State.lockedNow, State.flag_setFld_same _ _ _ (by simp [lane_names])]
  simp [lane_names]

theorem State.lockedNow_flds (i : Nat) : FldsBut [F.laneSts_state i, F.laneSts_sig_det i] s (s.lockedNow i) :=
  ((FldsBut.refl _ s).setFld _ (by simp) (by simp [lane_names])).setFld _ (by simp) (by simp [lane_names])

theorem State.lockedNow_frame (i : Nat) : FrameBut [.regs] s (s.lockedNow i) := ((FrameBut.refl _ s).setFld _ _ (by simp)).setFld _ _ (by simp)

theorem State.lockedNow_postSame (i : Nat) : PostSame s (s.lockedNow i) := by
  unfold State.lockedNow
  simp only [lane_names]
  exact ((PostSame.refl s).setLaneFld _ _ (by decide)).setLaneFld _ _ (by decide)

/-- Saying that the lane locked changes no register. -/
theorem State.lockSaid_frame (i : Nat) : FrameBut [.lanes, .evq, .cnt, .mem, .rig] (s.lockedNow i) (s.lockSaid i) := by
  refine FrameBut.lanes ?_ _ (by simp)
  split
  · exact ((FrameBut.refl _ _).post _ _ (by simp)).rig _ (by simp)
  · exact .refl _ _

theorem State.lockSaid_fld (i : Nat) (f : Fld) : (s.lockSaid i).fld f = (s.lockedNow i).fld f :=
  ((FldsBut.refl [] (s.lockedNow i)).of_frame (s.lockSaid_frame i) (by decide)) f (by simp)

theorem State.lockSaid_laneOf (i : Nat) : (s.lockSaid i).laneOf i = { s.laneOf i with announce := false } := by
  have hl : (if (s.laneOf i).announce then ((s.lockedNow i).post 0x0902 [i]).recovered (laneRegion i) (laneClass i) i else s.lockedNow i).laneOf i = s.laneOf i := by
    have hnow := State.laneOf_of_frame (s.lockedNow_frame i) (by decide) i
    split
    · exact (State.laneOf_of_frame (((FrameBut.refl [.evq, .cnt, .mem, .rig] _).post 0x0902 [i] (by simp)).rig _ (by simp)) (by decide) i).trans hnow
    · exact hnow
  rw [State.lockSaid, State.laneOf_setLane_same, hl]

/-- A lock that follows a fault or a Reef exit is posted. -/
theorem State.lockSaid_posted {i : Nat} (h : (s.laneOf i).announce = true) : Posted s (s.lockSaid i) 0x0902 [i] := by
  rw [State.lockSaid, if_pos h]
  exact (Posted.of_post (s.lockedNow_postSame i) 0x0902 [i]).of_frame (((FrameBut.refl [.rig, .lanes] _).rig _ (by simp)).lanes _ (by simp)) (by decide) (by decide) (by decide)

theorem State.lockSaid_silent {i : Nat} (h : (s.laneOf i).announce = false) : FrameBut [.regs, .lanes] s (s.lockSaid i) := by
  rw [State.lockSaid, if_neg (by simp [h])]
  exact ((s.lockedNow_frame i).mono (by simp)).lanes _ (by simp)

end Sys2Proof.Machine
end

section
/-! A lane that leaves LOCKED: by the host, by the loss of its signal, by a fault, by the figure of merit. -/

namespace Sys2Proof.Machine

open Sys2Proof.Safety

/-! ### A lane leaves LOCKED (R278, R283, R284) -/

variable {s : State}

/-- The fields that an uplink lane writes as it leaves LOCKED. -/
def dropFlds (i : Nat) : List Fld :=
  [F.laneCoef i 0, F.laneCoef i 1, F.laneSts_state i, F.laneSts_frozen i, F.laneSts_sig_det i, F.laneAlm_lock_lost i]

section
variable {m : Master} {k : LaneIx} {sig : Bool}

theorem exec_laneRestart_idle (h : mayWrite m = false ∨ s.released 6 = false ∨ (s.ln k.val ≠ 3 ∧ s.ln k.val ≠ 4)) : exec (.laneRestart m k) s = .next s := by
  by_cases hmay : mayWrite m = true ∧ s.released 6 = true
  · have hln : s.ln k.val ≠ 3 ∧ s.ln k.val ≠ 4 := by simpa [hmay] using h
    exact (if_pos hmay).trans ((if_neg hln.2).trans (if_neg hln.1))
  · exact if_neg hmay

theorem exec_laneRestart (hm : mayWrite m = true) (hr : s.released 6 = true) (h : s.ln k.val = 4) : exec (.laneRestart m k) s = .next (s.loseLock k.val true) :=
  (if_pos ⟨hm, hr⟩).trans (if_pos h)

theorem exec_laneLockLoss_idle (h : s.ln k.val ≠ 4) : exec (.laneLockLoss k sig) s = .next s := if_neg h

theorem exec_laneLockLoss_uplink (h : s.ln k.val = 4) (hi : 512 ≤ k.val) (hi' : k.val < 640) : exec (.laneLockLoss k sig) s =
    if sig then .next (((s.setFld (F.laneSts_sig_det k.val) sig.toNat).loseLock k.val sig).laneFault k.val)
    else .next ((s.setFld (F.laneSts_sig_det k.val) sig.toNat).loseLock k.val sig) :=
  (if_pos h).trans ((if_neg (by omega)).trans (if_neg (by omega)))

theorem exec_laneLockLoss_slck (h : s.ln k.val = 4) (hi : k.val = 648) (hm : s.rig.run.mate.rateMatched = false) : exec (.laneLockLoss k sig) s =
    .next (s.lockedSld.foldl State.slckLost ((s.setFld (F.laneSts_sig_det k.val) sig.toNat).loseLock k.val sig)) :=
  (if_pos h).trans ((if_neg (by omega)).trans (if_pos ⟨hi, hm⟩))

theorem exec_fomFailTimer_idle (h : s.ln k.val ≠ 4 ∨ s.flag (F.laneSts_frozen k.val) = true ∨ s.fld (F.laneAdapt_fom_fail k.val) ≤ s.fld (F.laneFom_fom k.val) ∨
    k.val < 512 ∨ k.val = 648) : exec (.fomFailTimer k) s = .next s := by
  refine if_neg ?_
  rintro ⟨hlow, hhigh, hln, hfrozen, hfom⟩
  rcases h with h | h | h | h | h
  · exact h hln
  · simp [hfrozen] at h
  · omega
  · omega
  · omega

theorem exec_fomFailTimer (hi : 512 ≤ k.val) (hi' : k.val < 648) (h : s.ln k.val = 4) (hf : s.flag (F.laneSts_frozen k.val) = false)
    (hfom : s.fld (F.laneFom_fom k.val) < s.fld (F.laneAdapt_fom_fail k.val)) : exec (.fomFailTimer k) s = .next ((s.loseLock k.val true).laneFault k.val) :=
  if_pos ⟨hi, hi', h, hf, hfom⟩

end

variable (s)

/-- A transmit lane that loses lock posts nothing and counts once. -/
theorem State.loseLock_transmit {i : Nat} (hi : i < 256) (a : Bool) : (s.loseLock i a).evq = s.evq ∧ (s.loseLock i a).cnt = (s.count Cn.laneLockLoss i).cnt := by
  obtain ⟨hevq, hcnt⟩ := (s.acquire i a).lockLost_transmit hi
  rw [s.loseLock_eq (by omega)]
  exact ⟨hevq.trans (s.acquire_frame i a .evq (by decide)),
    hcnt.trans (State.count_congr _ _ (s.acquire_frame i a .cnt (by decide)) (s.acquire_frame i a .chain (by decide)) _ _)⟩

theorem State.loseLock_announce {i : Nat} (hi : i < 640 ∨ i = 648) (a : Bool) : ((s.loseLock i a).laneOf i).announce = a := by
  rw [s.loseLock_laneOf hi, State.acquire_laneOf]

variable {s}

/-- What an uplink lane reads as once it has left LOCKED. -/
structure State.Dropped (s : State) (i : Nat) (t : State) : Prop where
  again : s.Again i t
  flds : FldsBut (dropFlds i) s t
  frame : FrameBut [.regs, .lanes, .cnt, .evq, .mem] s t

theorem State.loseLock_dropped {i : Nat} (hi : i < 640) (a : Bool) : s.Dropped i (s.loseLock i a) :=
  ⟨State.loseLock_again (.refl [] s) (by simp) (.inl hi) a, (s.loseLock_flds (.inl hi) a).mono (by simp [loseFlds, acqFlds, dropFlds]), s.loseLock_frame i a⟩

theorem State.setSig_flds (i v : Nat) : FldsBut [F.laneSts_sig_det i] s (s.setFld (F.laneSts_sig_det i) v) := (FldsBut.refl _ s).setFld _ (by simp) (by simp [lane_names])

theorem State.loseSig_dropped {i : Nat} (hi : i < 640) (v : Nat) (a : Bool) : s.Dropped i ((s.setFld (F.laneSts_sig_det i) v).loseLock i a) where
  again := State.loseLock_again (State.setSig_flds i v) (by simp [goodFlds, lane_names, Apart]) (.inl hi) a
  flds := ((State.setSig_flds i v).mono (by simp [dropFlds])).trans ((State.loseLock_flds _ (.inl hi) a).mono (by simp [loseFlds, acqFlds, dropFlds]))
  frame := ((FrameBut.refl _ s).setFld _ _ (by simp)).trans (State.loseLock_frame _ i a)

theorem State.loseSig_sig {i : Nat} (hi : i < 640) (sig a : Bool) : ((s.setFld (F.laneSts_sig_det i) sig.toNat).loseLock i a).flag (F.laneSts_sig_det i) = sig := by
  rw [State.flag_of_flds (State.loseLock_flds _ (.inl hi) a) (by simp [loseFlds, acqFlds, lane_names, Apart]), State.flag_setFld_same _ _ _ (by simp [lane_names])]
  simp only [lane_names, laneFld_width]
  exact flag_toNat sig

/-- The ladder judges the fault as it stands before the lane leaves LOCKED. -/
theorem State.Dropped.permanent {t : State} {i : Nat} (h : s.Dropped i t) : (t.ladder (laneClass i) i).2 = (s.ladder (laneClass i) i).2 :=
  State.ladder_permanent_of_lanes (h.frame .sup (by decide)) h.flds (by simp [dropFlds, lane_names, laneFld_addr]; omega) _ (laneClass_lt i) i

/-- A fault within the allowance. -/
theorem State.Dropped.laneFault {t : State} {i : Nat} (h : s.Dropped i t) (hperm : (s.ladder (laneClass i) i).2 = false) :
    s.Again i (t.laneFault i) ∧ (t.laneFault i).flag (F.laneAlm_fault i) = true ∧ ((t.laneFault i).laneOf i).announce = true ∧
      FldsBut ([F.laneAlm_fault i, F.laneFaults_faults i] ++ dropFlds i) s (t.laneFault i) ∧
      FrameBut [.regs, .lanes, .cnt, .evq, .mem, .rig, .sup] s (t.laneFault i) := by
  rw [State.laneFault_passing (h.permanent.trans hperm)]
  have hnoted : FldsBut ([F.laneAlm_fault i, F.laneFaults_faults i] ++ dropFlds i) s (t.laneNoted i) :=
    (h.flds.mono (by simp)).trans ((t.laneNoted_flds i).mono (by simp))
  refine ⟨State.acquire_again hnoted (by simp [dropFlds, goodFlds, lane_names, Apart]) true ?_, ?_, ?_,
    hnoted.trans ((State.acquire_flds _ i true).mono (by simp [dropFlds])),
    ((h.frame.mono (by simp)).trans ((t.laneNoted_frame i).mono (by simp))).trans ((State.acquire_frame _ i true).mono (by simp))⟩
  · rw [State.flag_of_flds (t.laneNoted_flds i) (by simp [lane_names, Apart])]
    exact h.again.2.2.2.2
  · rw [State.flag_of_flds (State.acquire_flds _ i true) (by simp [lane_names, Apart])]
    exact t.laneNoted_fault i
  · rw [State.acquire_laneOf]

/-- A fault beyond the allowance retires an uplink lane. -/
theorem State.Dropped.laneFault_retires {t : State} {i : Nat} (h : s.Dropped i t) (hi : 512 ≤ i) (hi' : i < 640) (hperm : (s.ladder (laneClass i) i).2 = true)
    (hport : s.portOfLane (i - 512) = none) : (t.laneFault i).ln i = 5 ∧ (t.laneFault i).isRetired (laneClass i) i = true := by
  have hrun : (t.laneNoted i).rig.run = s.rig.run := by rw [State.laneNoted_run, h.frame .rig (by decide)]
  have hout : (t.laneNoted i).laneOut i = (t.laneNoted i).setFld (F.laneSts_state i) 5 :=
    State.laneOut_uplink _ hi hi' ((State.portOfLane_congr hrun _).trans hport)
  rw [State.laneFault_permanent (h.permanent.trans hperm)]
  refine ⟨State.retireLane_ln _ ?_, State.retireLane_isRetired _ (by omega) ?_⟩
  · rw [hout]; exact State.ln_setState _ _ _ (by decide)
  · rw [hout]; rfl

/-! ### SLCK lost in forwarded-clock mode (R294) -/

theorem State.mem_lockedSld {j : Nat} (hj : j < 8) : 640 + j ∈ s.lockedSld ↔ s.ln (640 + j) = 4 := by
  rw [State.lockedSld, List.mem_filter, decide_eq_true_eq]
  exact ⟨fun h => h.2, fun h => ⟨by interval_cases j <;> decide, h⟩⟩

theorem State.lockedSld_range : ∀ k ∈ s.lockedSld, 640 ≤ k ∧ k < 648 := fun k hk =>
  (by decide : ∀ k ∈ [640, 641, 642, 643, 644, 645, 646, 647], 640 ≤ k ∧ k < 648) k (List.mem_of_mem_filter hk)

/-- Every SLD lane is taken out of LOCKED, and the link is absent once one was. -/
theorem State.slckLost_spec (sig : Bool) : let t := s.lockedSld.foldl State.slckLost ((s.setFld (F.laneSts_sig_det 648) sig.toNat).loseLock 648 sig)
    (∀ j, j < 8 → t.ln (640 + j) ≠ 4) ∧ ((∃ j, j < 8 ∧ s.ln (640 + j) = 4) → t.flag F.laneSlSts_present = false) := by
  intro t
  obtain ⟨hall, hpresent⟩ := State.slckLost_foldl ((s.setFld (F.laneSts_sig_det 648) sig.toNat).loseLock 648 sig) s.lockedSld s.lockedSld_range
  have hkeep (j : Nat) (hj : j < 8) : ((s.setFld (F.laneSts_sig_det 648) sig.toNat).loseLock 648 sig).ln (640 + j) = s.ln (640 + j) := by
    have hlose := ((State.setSig_flds (s := s) 648 sig.toNat).mono (by simp : [F.laneSts_sig_det 648] ⊆ F.laneSts_sig_det 648 :: loseFlds 648)).trans
      ((State.loseLock_flds _ (.inr rfl) sig).mono (by simp))
    refine hlose _ ?_
    simp [loseFlds, acqFlds, lane_names, Apart, laneFld_addr]
    omega
  have hnone (j : Nat) (hj : j < 8) : t.ln (640 + j) ≠ 4 := hall j hj (by rw [State.mem_lockedSld hj, hkeep j hj]; exact em _)
  refine ⟨hnone, ?_⟩
  rintro ⟨j, hj, hln⟩
  rw [← Bool.not_eq_true]
  intro hp
  obtain ⟨i, hi, hbad⟩ := hpresent (.inl (List.ne_nil_of_mem ((State.mem_lockedSld hj).mpr hln))) hp
  exact hnone i hi hbad

end Sys2Proof.Machine
end

section
/-! An adaptation window: the events of its posts, and the state that it leads to. -/

namespace Sys2Proof.Machine

open Sys2Proof.Safety

/-! ### The events a post makes do not rest on the counters -/

/-- What the events of a post rest on: all that posting reads but the counters. -/
structure EvqSame (s t : State) : Prop where
  evq : t.evq = s.evq
  tim : t.tim.ns = s.tim.ns ∧ t.tim.sec = s.tim.sec
  mem : t.mem = s.mem
  en : t.flag F.mbxEvqCtrl_enable = s.flag F.mbxEvqCtrl_enable
  mask : t.fld F.memJnlMask_mask = s.fld F.memJnlMask_mask
  epoch : t.fld F.rigEpoch_current = s.fld F.rigEpoch_current

variable {s t : State}

theorem EvqSame.of_postSame (h : PostSame s t) : EvqSame s t := ⟨h.evq, h.tim, h.mem, h.en, h.mask, h.epoch⟩

theorem EvqSame.count (h : EvqSame s t) (c : Ctr) (i : Nat) : EvqSame s (t.count c i) :=
  ⟨by simp [h.evq], by simp [h.tim], by simp [h.mem], by simp [h.en], by simp [h.mask], by simp [h.epoch]⟩

theorem EvqSame.setLaneFld (h : EvqSame s t) {o lo w : Nat} (i v : Nat) (hw : lo + w ≤ 32) : EvqSame s (t.setFld (laneFld o lo w i) v) := by
  have hpost : PostSame t (t.setFld (laneFld o lo w i) v) := (PostSame.refl t).setLaneFld i v hw
  exact ⟨hpost.evq.trans h.evq, ⟨hpost.tim.1.trans h.tim.1, hpost.tim.2.trans h.tim.2⟩, hpost.mem.trans h.mem, hpost.en.trans h.en, hpost.mask.trans h.mask,
    hpost.epoch.trans h.epoch⟩

theorem EvqSame.enqueueEvent (h : EvqSame s t) (e : EventRec) : (t.enqueueEvent e).evq = (s.enqueueEvent e).evq := by
  unfold State.enqueueEvent
  rw [h.en, h.evq]
  split
  · rfl
  · split
    · rfl
    · simp

theorem EvqSame.postRaw (h : EvqSame s t) (c : Nat) (d : List Nat) : EvqSame (s.postRaw c d) (t.postRaw c d) := by
  have hrec : t.eventRec c d = s.eventRec c d := by unfold State.eventRec; rw [h.evq, h.tim.1, h.tim.2, h.epoch]
  refine ⟨?_, by simp [h.tim], by simp [h.mem], by simp [h.en], by simp [h.mask], by simp [h.epoch]⟩
  unfold State.postRaw
  simp [hrec, h.enqueueEvent]

theorem EvqSame.jnlEvent (h : EvqSame s t) (c : Nat) (d : List Nat) : (t.jnlEvent c d).evq = (s.jnlEvent c d).evq := by
  have hcount : EvqSame (s.count Cn.jnlDrop 0) (t.count Cn.jnlDrop 0) :=
    ⟨by simp [h.evq], by simp [h.tim], by simp [h.mem], by simp [h.en], by simp [h.mask], by simp [h.epoch]⟩
  unfold State.jnlEvent
  rw [h.mask, h.mem]
  split
  · exact h.evq
  · split
    · exact h.evq
    · dsimp only
      rw [hcount.mem]
      split
      · exact hcount.evq
      · refine (EvqSame.postRaw ?_ _ _).evq
        exact ⟨hcount.evq, hcount.tim, rfl, hcount.en, hcount.mask, hcount.epoch⟩

theorem EvqSame.post (h : EvqSame s t) (c : Nat) (d : List Nat) : (t.post c d).evq = (s.post c d).evq := (h.postRaw c d).jnlEvent c d

/-! ### An adaptation window (R279, R281) -/

/-- What a window shows of its lane. -/
def State.windowShown (s : State) (i fom td : Nat) : State :=
  ((s.setFld (F.laneFom_fom i) fom).setFld (F.laneFom_density i) td).setFld (F.laneFom_fom_min i) (min (s.fld (F.laneFom_fom_min i)) fom)

/-- One more window since each coefficient moved. -/
def State.windowLane (t : State) (i : Nat) : LaneSt := { t.laneOf i with since := (t.laneOf i).since.map (fun n => min 16 (n + 1)) }

/-! In the following s is the state before a window and t what the window shows of it. -/

/-- The lane frozen, which is an alarm and counts where it was not. -/
def State.windowFrozen (s t : State) (i : Nat) : State :=
  if s.flag (F.laneSts_frozen i) then t else ((t.setFld (F.laneSts_frozen i) 1).count Cn.laneFreeze i).setFld (F.laneAlm_freeze i) 1

/-- A frozen lane that the density lets go on. -/
def State.windowThawed (t : State) (i : Nat) : State := (t.setFld (F.laneSts_frozen i) 0).setLane i { t.windowLane i with okRun := (t.windowLane i).okRun + 1 }

/-- The last good set taken back (R281). -/
def State.windowRestored (s t : State) (i : Nat) : State :=
  (((((t.windowThawed i).setFld (F.laneCoef i 0) (s.fld (F.laneGood i 0))).setFld (F.laneCoef i 1) (s.fld (F.laneGood i 1))).count Cn.laneRestore i).setFld
    (F.laneAlm_restore i) 1).post 0x0903 [i]

/-- A window of a frozen lane whose density suffices. -/
def State.windowWaited (s t : State) (i fom : Nat) : State :=
  if (t.windowLane i).okRun + 1 < 4 then t.setLane i { t.windowLane i with okRun := (t.windowLane i).okRun + 1 }
  else if fom < s.fld (F.laneFom_fom_good i) - s.fld (F.laneAdapt_restore_margin i) then s.windowRestored t i
  else t.windowThawed i

/-- The coefficient words that a window's step offers. -/
def State.windowWord0 (c0 : Word) : Nat := c0.toNat / 2 * 2

def State.windowWord1 (s : State) (i : Nat) (c1 : Word) : Nat := if i < 640 then c1.toNat / 2 ^ 20 * 2 ^ 20 else s.fld (F.laneCoef i 1)

def State.windowOld (s : State) (i : Nat) : List Int := coefs (s.fld (F.laneCoef i 0)) (s.fld (F.laneCoef i 1))

def State.windowNew (s : State) (i : Nat) (c0 c1 : Word) : List Int := coefs (State.windowWord0 c0) (s.windowWord1 i c1)

/-- The step is taken. -/
def State.windowOk (s t : State) (i : Nat) (c0 c1 : Word) : Bool := coefStepOk (s.windowOld i) (s.windowNew i c0 c1) (t.windowLane i).since

/-- The coefficients after the window's step. -/
def State.windowStepped (s t : State) (i : Nat) (c0 c1 : Word) : State :=
  if s.windowOk t i c0 c1 then (t.setFld (F.laneCoef i 0) (State.windowWord0 c0)).setFld (F.laneCoef i 1) (s.windowWord1 i c1) else t

/-- The lane after the window's step. -/
def State.windowMoved (s t : State) (i : Nat) (c0 c1 : Word) : LaneSt :=
  if s.windowOk t i c0 c1 then
    { t.windowLane i with
      since := (List.range 8).map (fun j => if (s.windowNew i c0 c1).getD j 0 = (s.windowOld i).getD j 0 then (t.windowLane i).since.getD j 16 else 0) }
  else t.windowLane i

/-- The coefficients in use become the last good set. -/
def State.windowGood (t : State) (i fom : Nat) : State :=
  (((t.setFld (F.laneGood i 0) (t.fld (F.laneCoef i 0))).setFld (F.laneGood i 1) (t.fld (F.laneCoef i 1))).setFld (F.laneFom_fom_good i) fom).setFld
    (F.laneSts_good_valid i) 1

/-- A window of a lane that adapts. -/
def State.windowAdapted (s t : State) (i fom : Nat) (c0 c1 : Word) : State :=
  if (s.windowMoved t i c0 c1).run + 1 = 1024 then ((s.windowStepped t i c0 c1).windowGood i fom).setLane i { s.windowMoved t i c0 c1 with run := 0 }
  else (s.windowStepped t i c0 c1).setLane i { s.windowMoved t i c0 c1 with run := (s.windowMoved t i c0 c1).run + 1 }

/-- The state after a window. -/
def State.afterWindow (s t : State) (i fom td : Nat) (c0 c1 : Word) : State :=
  if s.flag (F.laneAdapt_adapt_en i) then
    if td < s.fld (F.laneAdapt_td_min i) then (s.windowFrozen t i).setLane i { t.windowLane i with okRun := 0, run := 0 }
    else if s.flag (F.laneSts_frozen i) then s.windowWaited t i fom
    else s.windowAdapted t i fom c0 c1
  else t.setLane i (t.windowLane i)

variable {k : LaneIx} {tr : BitVec 12} {fom : BitVec 8} {c0 c1 : Word}

theorem exec_adaptWindow_idle (h : k.val < 512 ∨ k.val = 648 ∨ s.ln k.val ≠ 4) : exec (.adaptWindow k tr fom c0 c1) s = .next s := by
  refine if_neg ?_
  rintro ⟨hlow, hhigh, hln⟩
  rcases h with h | h | h
  · omega
  · omega
  · exact h hln

theorem exec_adaptWindow (hi : 512 ≤ k.val) (hi' : k.val < 648) (hln : s.ln k.val = 4) : exec (.adaptWindow k tr fom c0 c1) s =
    .next (s.afterWindow (s.windowShown k.val fom.toNat (100 * tr.toNat / 4095)) k.val fom.toNat (100 * tr.toNat / 4095) c0 c1) := by
  refine (if_pos ⟨hi, hi', hln⟩).trans ?_
  simp only [State.afterWindow, State.windowWaited, State.windowAdapted, apply_ite Host.Outcome.next]
  rfl

end Sys2Proof.Machine
end

section
/-! What an adaptation window shows and changes. -/

namespace Sys2Proof.Machine

open Sys2Proof.Safety

variable {s t : State} {c0 c1 : Word}

/-! ### What a window shows and changes (R279, R281) -/

/-- The fields that a window shows. -/
def shownFlds (i : Nat) : List Fld := [F.laneFom_fom i, F.laneFom_density i, F.laneFom_fom_min i]

/-- The fields that adaptation writes. -/
def adaptFlds (i : Nat) : List Fld :=
  [F.laneSts_frozen i, F.laneAlm_freeze i, F.laneAlm_restore i, F.laneCoef i 0, F.laneCoef i 1, F.laneGood i 0, F.laneGood i 1, F.laneFom_fom_good i,
    F.laneSts_good_valid i]

theorem State.windowShown_flds (i fom td : Nat) : FldsBut (shownFlds i) s (s.windowShown i fom td) :=
  (((FldsBut.refl _ s).setFld _ (by simp [shownFlds]) (by simp [lane_names])).setFld _ (by simp [shownFlds]) (by simp [lane_names])).setFld _ (by simp [shownFlds])
    (by simp [lane_names])

theorem State.windowShown_frame (i fom td : Nat) : FrameBut [.regs] s (s.windowShown i fom td) :=
  (((FrameBut.refl _ s).setFld _ _ (by simp)).setFld _ _ (by simp)).setFld _ _ (by simp)

theorem State.windowShown_fld (i : Nat) {fom td : Nat} (hf : fom < 256) (ht : td < 256) : (s.windowShown i fom td).fld (F.laneFom_fom i) = fom ∧
    (s.windowShown i fom td).fld (F.laneFom_density i) = td ∧ (s.windowShown i fom td).fld (F.laneFom_fom_min i) = min (s.fld (F.laneFom_fom_min i)) fom := by
  have hmin : min (s.fld (F.laneFom_fom_min i)) fom < 2 ^ 8 := by omega
  refine ⟨?_, ?_, ?_⟩
  · simp (disch := simp [lane_names]) only [State.windowShown, State.fld_setFld_same, State.fld_setFld_other]
    simpa [lane_names] using hf
  · simp (disch := simp [lane_names]) only [State.windowShown, State.fld_setFld_same, State.fld_setFld_other]
    simpa [lane_names] using ht
  · simp (disch := simp [lane_names]) only [State.windowShown, State.fld_setFld_same]
    rw [lane_names i |>.2.2.2.2.2.2.2.2.1] at hmin ⊢
    rw [laneFld_width, Nat.mod_eq_of_lt hmin]

theorem State.windowShown_laneOf (i fom td j : Nat) : (s.windowShown i fom td).laneOf j = s.laneOf j :=
  State.laneOf_of_frame (s.windowShown_frame i fom td) (by decide) j

/-- What a window changes beside what it shows. -/
structure WindowEffect (i : Nat) (t u : State) : Prop where
  flds : FldsBut (adaptFlds i) t u
  frame : FrameBut [.regs, .lanes, .cnt, .evq, .mem] t u
  other : ∀ j, j ≠ i → u.laneOf j = t.laneOf j

theorem WindowEffect.trans {i : Nat} {u v : State} (h : WindowEffect i t u) (k : WindowEffect i u v) : WindowEffect i t v :=
  ⟨h.flds.trans k.flds, h.frame.trans k.frame, fun j hj => (k.other j hj).trans (h.other j hj)⟩

theorem WindowEffect.refl (i : Nat) (t : State) : WindowEffect i t t := ⟨.refl _ t, .refl _ t, fun _ _ => rfl⟩

theorem WindowEffect.setFld {i : Nat} {u : State} (h : WindowEffect i t u) {f : Fld} (v : Nat) (hf : f ∈ adaptFlds i) : WindowEffect i t (u.setFld f v) :=
  ⟨h.flds.setFld v hf (by simp only [adaptFlds, lane_names, List.mem_cons, List.not_mem_nil, or_false] at hf
                          rcases hf with rfl | rfl | rfl | rfl | rfl | rfl | rfl | rfl | rfl <;> simp), h.frame.setFld _ _ (by simp), h.other⟩

theorem WindowEffect.setLane {i : Nat} {u : State} (h : WindowEffect i t u) (l : LaneSt) : WindowEffect i t (u.setLane i l) :=
  ⟨h.flds.lanes _, h.frame.lanes _ (by simp), fun _ hj => (State.laneOf_setLane_other _ _ hj).trans (h.other _ hj)⟩

theorem WindowEffect.count {i : Nat} {u : State} (h : WindowEffect i t u) (c : Ctr) (x : Nat) : WindowEffect i t (u.count c x) :=
  ⟨h.flds.of_regs (State.count_regs ..), h.frame.count _ _ (by simp), fun j hj =>
    (State.laneOf_of_frame ((FrameBut.refl [.cnt] u).count c x (by simp)) (by decide) j).trans (h.other j hj)⟩

theorem WindowEffect.post {i : Nat} {u : State} (h : WindowEffect i t u) (c : Nat) (d : List Nat) : WindowEffect i t (u.post c d) :=
  ⟨h.flds.post_ c d, h.frame.post _ _ (by simp), fun j hj =>
    (State.laneOf_of_frame ((FrameBut.refl [.evq, .cnt, .mem] u).post c d (by simp)) (by decide) j).trans (h.other j hj)⟩

theorem State.windowThawed_effect (i : Nat) : WindowEffect i t (t.windowThawed i) := ((WindowEffect.refl i t).setFld _ (by simp [adaptFlds])).setLane _

theorem State.windowStepped_effect (i : Nat) : WindowEffect i t (s.windowStepped t i c0 c1) := by
  unfold State.windowStepped
  split
  · exact ((WindowEffect.refl i t).setFld _ (by simp [adaptFlds])).setFld _ (by simp [adaptFlds])
  · exact .refl i t

theorem State.windowGood_effect (i fom : Nat) : WindowEffect i t (t.windowGood i fom) :=
  ((((WindowEffect.refl i t).setFld _ (by simp [adaptFlds])).setFld _ (by simp [adaptFlds])).setFld _ (by simp [adaptFlds])).setFld _ (by simp [adaptFlds])

theorem State.windowFrozen_effect (i : Nat) : WindowEffect i t (s.windowFrozen t i) := by
  unfold State.windowFrozen
  split
  · exact .refl i t
  · exact (((WindowEffect.refl i t).setFld _ (by simp [adaptFlds])).count _ _).setFld _ (by simp [adaptFlds])

theorem State.windowRestored_effect (i : Nat) : WindowEffect i t (s.windowRestored t i) :=
  (((((State.windowThawed_effect i).setFld _ (by simp [adaptFlds])).setFld _ (by simp [adaptFlds])).count _ _).setFld _ (by simp [adaptFlds])).post _ _

theorem State.windowWaited_effect (i fom : Nat) : WindowEffect i t (s.windowWaited t i fom) := by
  unfold State.windowWaited
  split
  · exact (WindowEffect.refl i t).setLane _
  · split
    · exact State.windowRestored_effect i
    · exact State.windowThawed_effect i

theorem State.windowAdapted_effect (i fom : Nat) : WindowEffect i t (s.windowAdapted t i fom c0 c1) := by
  unfold State.windowAdapted
  split
  · exact ((State.windowStepped_effect i).trans (State.windowGood_effect i fom)).setLane _
  · exact (State.windowStepped_effect i).setLane _

theorem State.afterWindow_effect (i fom td : Nat) : WindowEffect i t (s.afterWindow t i fom td c0 c1) := by
  unfold State.afterWindow
  split
  · split
    · exact (State.windowFrozen_effect i).setLane _
    · split
      · exact State.windowWaited_effect i fom
      · exact State.windowAdapted_effect i fom
  · exact (WindowEffect.refl i t).setLane _

/-! ### A window of too few transitions -/

/-- The coefficients of a lane are held. -/
def CoefsHeld (i : Nat) (s t : State) : Prop := t.fld (F.laneCoef i 0) = s.fld (F.laneCoef i 0) ∧ t.fld (F.laneCoef i 1) = s.fld (F.laneCoef i 1)

theorem CoefsHeld.of_flds {l : List Fld} {i : Nat} (h : FldsBut l s t) (hl : ∀ f ∈ l, Apart f (F.laneCoef i 0) ∧ Apart f (F.laneCoef i 1)) : CoefsHeld i s t :=
  ⟨h _ fun f hf => (hl f hf).1, h _ fun f hf => (hl f hf).2⟩

theorem CoefsHeld.trans {i : Nat} {u : State} (h : CoefsHeld i s t) (k : CoefsHeld i t u) : CoefsHeld i s u := ⟨k.1.trans h.1, k.2.trans h.2⟩

theorem State.windowFrozen_spec (i : Nat) (h : t.flag (F.laneSts_frozen i) = s.flag (F.laneSts_frozen i)) :
    CoefsHeld i t (s.windowFrozen t i) ∧ (s.windowFrozen t i).flag (F.laneSts_frozen i) = true ∧ (s.windowFrozen t i).evq = t.evq ∧
    (s.flag (F.laneSts_frozen i) = false → (s.windowFrozen t i).flag (F.laneAlm_freeze i) = true ∧ (s.windowFrozen t i).cnt = (t.count Cn.laneFreeze i).cnt) ∧
    (s.flag (F.laneSts_frozen i) = true → (s.windowFrozen t i).cnt = t.cnt) := by
  unfold State.windowFrozen
  split
  next hf => exact ⟨⟨rfl, rfl⟩, h.trans hf, rfl, fun h0 => absurd hf (by simp [h0]), fun _ => rfl⟩
  next hf =>
    have hset : FldsBut [F.laneSts_frozen i, F.laneAlm_freeze i] t (((t.setFld (F.laneSts_frozen i) 1).count Cn.laneFreeze i).setFld (F.laneAlm_freeze i) 1) := by
      have hfrozen : FldsBut [F.laneSts_frozen i, F.laneAlm_freeze i] t (t.setFld (F.laneSts_frozen i) 1) := (FldsBut.refl _ t).setFld _ (by simp) (by simp [lane_names])
      exact (hfrozen.of_regs (State.count_regs ..)).setFld _ (by simp) (by simp [lane_names])
    refine ⟨.of_flds hset (by simp [lane_names, Apart]), ?_, State.count_evq .., fun _ => ⟨?_, State.count_congr t (t.setFld (F.laneSts_frozen i) 1) rfl rfl _ _⟩, fun h1 => absurd h1 hf⟩
    · rw [State.flag_setFld_other _ _ (by simp [lane_names]) (by simp [lane_names]), State.count_flag_at, State.flag_setFld_same _ _ _ (by simp [lane_names])]
      simp [lane_names]
    · rw [State.flag_setFld_same _ _ _ (by simp [lane_names])]
      simp [lane_names]

/-! ### A window of a frozen lane -/

theorem State.windowThawed_flds (i : Nat) : FldsBut [F.laneSts_frozen i] t (t.windowThawed i) := ((FldsBut.refl _ t).setFld _ (by simp) (by simp [lane_names])).lanes _

theorem State.windowThawed_frame (i : Nat) : FrameBut [.regs, .lanes] t (t.windowThawed i) := ((FrameBut.refl _ t).setFld _ _ (by simp)).lanes _ (by simp)

theorem State.windowThawed_frozen (i : Nat) : (t.windowThawed i).flag (F.laneSts_frozen i) = false := by
  rw [State.windowThawed, State.flag, State.fld_setLane, State.fld_setFld_same _ _ _ (by simp [lane_names])]
  simp

theorem State.windowRestored_spec (i : Nat) : (s.windowRestored t i).flag (F.laneSts_frozen i) = false ∧
    (s.windowRestored t i).fld (F.laneCoef i 0) = s.fld (F.laneGood i 0) ∧ (s.windowRestored t i).fld (F.laneCoef i 1) = s.fld (F.laneGood i 1) ∧
    (s.windowRestored t i).flag (F.laneAlm_restore i) = true := by
  have hgood {f : Fld} (hf : f.width = 32) : s.fld f % 2 ^ 32 = s.fld f := Nat.mod_eq_of_lt (hf ▸ s.fld_lt f)
  refine ⟨?_, ?_, ?_, ?_⟩
  · rw [← t.windowThawed_frozen i]
    simp (disch := simp [lane_names]) only [State.windowRestored, State.post_flag_at, State.count_flag_at, State.flag_setFld_other]
  · refine Eq.trans ?_ (hgood (lane_width i).1)
    simp (disch := simp [lane_names]) only [State.windowRestored, State.post_fld_at, State.count_fld_at, State.fld_setFld_other, State.fld_setFld_same]
    simp [lane_names]
  · refine Eq.trans ?_ (hgood (lane_width i).2.2.1)
    simp (disch := simp [lane_names]) only [State.windowRestored, State.post_fld_at, State.count_fld_at, State.fld_setFld_other, State.fld_setFld_same]
    simp [lane_names]
  · simp (disch := simp [lane_names]) only [State.windowRestored, State.post_flag_at, State.flag_setFld_same]
    simp [lane_names]

theorem State.windowRestored_evq (i : Nat) (h : EvqSame s t) : (s.windowRestored t i).evq = (s.post 0x0903 [i]).evq := by
  refine EvqSame.post ?_ _ _
  simp only [lane_names]
  have hthawed : EvqSame s (t.windowThawed i) := by
    have hset : EvqSame s (t.setFld (F.laneSts_frozen i) 0) := by simp only [lane_names]; exact h.setLaneFld i 0 (by decide)
    exact ⟨hset.evq, hset.tim, hset.mem, hset.en, hset.mask, hset.epoch⟩
  exact (((hthawed.setLaneFld _ _ (by decide)).setLaneFld _ _ (by decide)).count _ _).setLaneFld _ _ (by decide)

/-! ### A window of a lane that adapts -/

/-- A coefficient steps by one at most, and only after 16 windows (R281). -/
theorem coefStepOk_step {old new : List Int} {since : List Nat} (h : coefStepOk old new since = true) {j : Nat} (hj : j < 8) :
    new.getD j 0 = old.getD j 0 ∨ new.getD j 0 = old.getD j 0 + 1 ∨ new.getD j 0 = old.getD j 0 - 1 := by
  have hstep := List.all_eq_true.mp h j (List.mem_range.mpr hj)
  simp only [Bool.or_eq_true, Bool.and_eq_true, decide_eq_true_eq] at hstep
  omega

theorem State.windowWord_lt (i : Nat) : State.windowWord0 c0 < 2 ^ 32 ∧ s.windowWord1 i c1 < 2 ^ 32 := by
  have h1 : s.fld (F.laneCoef i 1) < 2 ^ 32 := s.fld_lt _
  have hc0 := c0.isLt
  have hc1 := c1.isLt
  unfold State.windowWord0 State.windowWord1
  refine ⟨by omega, ?_⟩
  split <;> omega

theorem State.windowStepped_coefs (i : Nat) (hheld : CoefsHeld i s t) :
    coefs ((s.windowStepped t i c0 c1).fld (F.laneCoef i 0)) ((s.windowStepped t i c0 c1).fld (F.laneCoef i 1)) =
      if s.windowOk t i c0 c1 then s.windowNew i c0 c1 else s.windowOld i := by
  unfold State.windowStepped
  split
  · obtain ⟨hw0, hw1⟩ := s.windowWord_lt (c0 := c0) (c1 := c1) i
    rw [State.windowNew]
    congr 1
    · rw [State.fld_setFld_other _ _ (by simp [lane_names]) (by simp [lane_names]), State.fld_setFld_same _ _ _ (by simp [lane_names])]
      simpa [lane_names] using hw0
    · rw [State.fld_setFld_same _ _ _ (by simp [lane_names])]
      simpa [lane_names] using hw1
  · rw [hheld.1, hheld.2]; rfl

/-- Each coefficient stays, or moves by one, which starts its count over. -/
theorem State.windowStepped_step (i : Nat) (hheld : CoefsHeld i s t) {j : Nat} (hj : j < 8) :
    let a := (s.windowOld i).getD j 0
    let b := (coefs ((s.windowStepped t i c0 c1).fld (F.laneCoef i 0)) ((s.windowStepped t i c0 c1).fld (F.laneCoef i 1))).getD j 0
    b = a ∨ ((b = a + 1 ∨ b = a - 1) ∧ (s.windowMoved t i c0 c1).since.getD j 16 = 0) := by
  dsimp only
  rw [State.windowStepped_coefs i hheld]
  unfold State.windowMoved
  split
  next hok =>
    by_cases hsame : (s.windowNew i c0 c1).getD j 0 = (s.windowOld i).getD j 0
    · exact .inl hsame
    · refine .inr ⟨(coefStepOk_step hok hj).resolve_left hsame, ?_⟩
      rw [List.getD_eq_getElem _ _ (by simpa using hj), List.getElem_map, List.getElem_range, if_neg hsame]
  next => exact .inl rfl

theorem State.windowStepped_frame (i : Nat) : FrameBut [.regs, .lanes] t (s.windowStepped t i c0 c1) := by
  unfold State.windowStepped
  split
  · exact ((FrameBut.refl _ t).setFld _ _ (by simp)).setFld _ _ (by simp)
  · exact .refl _ t

theorem State.windowStepped_flds (i : Nat) : FldsBut [F.laneCoef i 0, F.laneCoef i 1] t (s.windowStepped t i c0 c1) := by
  unfold State.windowStepped
  split
  · exact ((FldsBut.refl _ t).setFld _ (by simp) (by simp [lane_names])).setFld _ (by simp) (by simp [lane_names])
  · exact .refl _ t

theorem State.windowMoved_run (i : Nat) : (s.windowMoved t i c0 c1).run = (t.laneOf i).run := by
  unfold State.windowMoved; split <;> rfl

theorem State.windowGood_spec (i : Nat) {fom : Nat} (hf : fom < 256) : CoefsHeld i t (t.windowGood i fom) ∧
    (t.windowGood i fom).fld (F.laneGood i 0) = t.fld (F.laneCoef i 0) ∧ (t.windowGood i fom).fld (F.laneGood i 1) = t.fld (F.laneCoef i 1) ∧
    (t.windowGood i fom).fld (F.laneFom_fom_good i) = fom ∧ (t.windowGood i fom).flag (F.laneSts_good_valid i) = true ∧
    (t.windowGood i fom).flag (F.laneSts_frozen i) = t.flag (F.laneSts_frozen i) := by
  have hcoef {f : Fld} (hw : f.width = 32) : t.fld f % 2 ^ 32 = t.fld f := Nat.mod_eq_of_lt (hw ▸ t.fld_lt f)
  refine ⟨⟨?_, ?_⟩, ?_, ?_, ?_, ?_, ?_⟩
  · simp (disch := simp [lane_names]) only [State.windowGood, State.fld_setFld_other]
  · simp (disch := simp [lane_names]) only [State.windowGood, State.fld_setFld_other]
  · refine Eq.trans ?_ (hcoef (f := F.laneCoef i 0) rfl)
    simp (disch := simp [lane_names]) only [State.windowGood, State.fld_setFld_other, State.fld_setFld_same]
    simp [lane_names]
  · refine Eq.trans ?_ (hcoef (f := F.laneCoef i 1) rfl)
    simp (disch := simp [lane_names]) only [State.windowGood, State.fld_setFld_other, State.fld_setFld_same]
    simp [lane_names]
  · simp (disch := simp [lane_names]) only [State.windowGood, State.fld_setFld_other, State.fld_setFld_same]
    simpa [lane_names] using hf
  · simp (disch := simp [lane_names]) only [State.windowGood, State.flag_setFld_same]
    simp [lane_names]
  · simp (disch := simp [lane_names]) only [State.windowGood, State.flag_setFld_other]

end Sys2Proof.Machine
end

section
/-! The Stay link turned on and off. -/

namespace Sys2Proof.Machine

open Sys2Proof.Safety

variable {s t : State}

/-! ### SL_ENABLE (R289, R382) -/

/-- A sleeping lane of the link acquires as the link is enabled. -/
def State.wake (t : State) (i : Nat) : State := if i = 648 ∨ t.sldBound (i - 640) = true then t.acquire i true else t

/-- The lanes of the link that sleep. -/
def State.sleeping (t : State) : List Nat := [640, 641, 642, 643, 644, 645, 646, 647, 648].filter (fun i => decide (t.ln i = 2) || decide (t.ln i = 1))

/-- The alignment started over, with the link's width and mode. -/
def State.slOver (s : State) (en : Bool) : State :=
  let t := s.setFld F.laneSlCtrl_enable en.toNat
  let t := { t with lanes := { t.lanes with sl := [], width := if en then t.slWidth else t.lanes.width } }
  (t.setFld F.laneSlSts_mode_mismatch 0).setFld F.laneSlSts_mode t.rig.run.mate.rateMatched.toNat

/-- The state that the link is judged in as it is enabled or disabled. -/
def State.slTurned (s : State) (en : Bool) : State := if en then (s.slOver en).sleeping.foldl State.wake (s.slOver en) else s.slOver en

variable {m : Master} {en : Bool}

theorem exec_slEnable_idle (h : mayWrite m = false ∨ s.released 6 = false) : exec (.slEnable m en) s = .next s :=
  if_neg (by rcases h with h | h <;> simp [h])

theorem exec_slEnable_same (hm : mayWrite m = true) (hr : s.released 6 = true) (h : en = s.flag F.laneSlCtrl_enable) :
    exec (.slEnable m en) s = .next (s.setFld F.laneSlCtrl_enable en.toNat) := (if_pos ⟨hm, hr⟩).trans (if_pos h)

theorem exec_slEnable_turned (hm : mayWrite m = true) (hr : s.released 6 = true) (h : en ≠ s.flag F.laneSlCtrl_enable) :
    exec (.slEnable m en) s = .next (s.slTurned en).judgeLink := (if_pos ⟨hm, hr⟩).trans (if_neg h)

/-! What the waking of lanes keeps. -/

/-- What waking lanes of the link keeps: the Stay link's registers and alignment, and all that posting reads. -/
structure WakeKeeps (t u : State) : Prop where
  frame : FrameBut [.regs, .lanes] t u
  flds : ∀ g : Fld, 0x8A4000 ≤ g.addr → u.fld g = t.fld g
  sl : u.lanes.sl = t.lanes.sl ∧ u.lanes.width = t.lanes.width
  post : PostSame t u

theorem WakeKeeps.refl (t : State) : WakeKeeps t t := ⟨.refl _ t, fun _ _ => rfl, ⟨rfl, rfl⟩, .refl t⟩

theorem WakeKeeps.trans {u v : State} (h : WakeKeeps t u) (k : WakeKeeps u v) : WakeKeeps t v :=
  ⟨h.frame.trans k.frame, fun g hg => (k.flds g hg).trans (h.flds g hg), ⟨k.sl.1.trans h.sl.1, k.sl.2.trans h.sl.2⟩, h.post.trans k.post⟩

theorem PostSame.setLaneFlds (h : PostSame s t) {f : Fld} (i v : Nat) (hf : f ∈ acqFlds i) : PostSame s (t.setFld f v) := by
  simp only [acqFlds, lane_names, List.mem_cons, List.not_mem_nil, or_false] at hf
  rcases hf with rfl | rfl | rfl | rfl <;> exact h.setLaneFld i v (by decide)

theorem PostSame.setLane (h : PostSame s t) (i : Nat) (l : LaneSt) : PostSame s (t.setLane i l) := h.lanes _

theorem State.acquire_postSame (i : Nat) (a : Bool) : PostSame t (t.acquire i a) :=
  (((((PostSame.refl t).setLaneFlds (f := F.laneCoef i 0) i _ (by simp [acqFlds])).setLaneFlds (f := F.laneCoef i 1) i _ (by simp [acqFlds])).setLaneFlds
    (f := F.laneSts_state i) i _ (by simp [acqFlds])).setLaneFlds (f := F.laneSts_frozen i) i _ (by simp [acqFlds])).setLane _ _

theorem State.setLane_sl (i : Nat) (l : LaneSt) : (t.setLane i l).lanes.sl = t.lanes.sl ∧ (t.setLane i l).lanes.width = t.lanes.width := ⟨rfl, rfl⟩

theorem State.acquire_sl (i : Nat) (a : Bool) : (t.acquire i a).lanes.sl = t.lanes.sl ∧ (t.acquire i a).lanes.width = t.lanes.width := by
  unfold State.acquire
  rw [(State.setLane_sl _ _).1, (State.setLane_sl _ _).2]
  simp only [State.setFld_lanes, and_self]

theorem State.wake_keeps {i : Nat} (hi : i < 656) : WakeKeeps t (t.wake i) := by
  unfold State.wake
  split
  · refine ⟨t.acquire_frame i true, fun g hg => t.acquire_flds i true g ?_, State.acquire_sl i true, State.acquire_postSame i true⟩
    simp only [lane_names, List.forall_mem_cons, List.not_mem_nil, false_implies, implies_true, and_true]
    refine ⟨?_, ?_, ?_, ?_⟩ <;> exact Apart.lane_sl hi (by decide) hg
  · exact .refl t

theorem State.wake_ln_same {i : Nat} (h : t.sldBound (i - 640) = true) : (t.wake i).ln i = 3 := by
  rw [State.wake, if_pos (.inr h)]; exact (t.acquire_fld i true).2.2.1

theorem State.wake_ln_other {i j : Nat} (h : j ≠ i) : (t.wake i).ln j = t.ln j := by
  unfold State.wake
  split
  · refine t.acquire_flds i true _ ?_
    simp [lane_names, Apart, laneFld_addr]
    omega
  · rfl

theorem State.sldBound_of_frame {l : List Part} (h : FrameBut l s t) (hl : .rig ∉ l) (k : Nat) : t.sldBound k = s.sldBound k := by
  unfold State.sldBound; rw [h .rig hl]

theorem State.wake_foldl (l : List Nat) (t : State) (hl : ∀ i ∈ l, i < 656) : WakeKeeps t (l.foldl State.wake t) ∧
    ∀ i, t.sldBound (i - 640) = true → (i ∈ l ∨ t.ln i = 3) → (l.foldl State.wake t).ln i = 3 := by
  induction l generalizing t with
  | nil => exact ⟨.refl t, fun i _ h => h.resolve_left (by simp)⟩
  | cons x l ih =>
    have hkeep := State.wake_keeps (t := t) (hl x (by simp))
    obtain ⟨hrest, hln⟩ := ih (t.wake x) fun i hi => hl i (List.mem_cons_of_mem _ hi)
    refine ⟨hkeep.trans hrest, fun i hb h => hln i ((State.sldBound_of_frame hkeep.frame (by decide) _).trans hb) ?_⟩
    by_cases he : i = x
    · subst he; exact .inr (State.wake_ln_same hb)
    · rw [State.wake_ln_other he]
      exact h.imp_left fun hm => (List.mem_cons.mp hm).resolve_left he

theorem State.sleeping_range : ∀ i ∈ t.sleeping, i < 656 := fun i hi =>
  (by decide : ∀ i ∈ [640, 641, 642, 643, 644, 645, 646, 647, 648], i < 656) i (List.mem_of_mem_filter hi)

theorem State.mem_sleeping {j : Nat} (hj : j < 8) (h : t.ln (640 + j) = 1 ∨ t.ln (640 + j) = 2) : 640 + j ∈ t.sleeping := by
  rw [State.sleeping, List.mem_filter]
  exact ⟨by interval_cases j <;> decide, by rcases h with h | h <;> simp [h]⟩

theorem State.slOver_flds (en : Bool) : FldsBut [F.laneSlCtrl_enable, F.laneSlSts_mode_mismatch, F.laneSlSts_mode] s (s.slOver en) :=
  ((((FldsBut.refl _ s).setFld _ (by simp) (by decide)).lanes _).setFld _ (by simp) (by decide)).setFld _ (by simp) (by decide)

theorem State.slOver_frame (en : Bool) : FrameBut [.regs, .lanes] s (s.slOver en) :=
  ((((FrameBut.refl _ s).setFld _ _ (by simp)).lanes _ (by simp)).setFld _ _ (by simp)).setFld _ _ (by simp)

theorem State.slOver_postSame (en : Bool) : PostSame s (s.slOver en) := by
  have hset : PostSame s (s.setFld F.laneSlCtrl_enable en.toNat) := (PostSame.refl s).setFld _ _ (by decide) (by decide) (by decide) (by decide)
  exact ((hset.lanes _).setFld _ _ (by decide) (by decide) (by decide) (by decide)).setFld _ _ (by decide) (by decide) (by decide) (by decide)

theorem State.slWidth_of_frame {l : List Part} (h : FrameBut l s t) (hr : .rig ∉ l) (hs : .sup ∉ l) : t.slWidth = s.slWidth := by
  have hbound (k : Nat) : t.sldBound k = s.sldBound k := State.sldBound_of_frame h hr k
  have hretired (c o : Nat) : t.isRetired c o = s.isRetired c o := State.isRetired_of_frame s h hs c o
  unfold State.slWidth
  simp only [hbound, hretired]

theorem State.slOver_lanes (en : Bool) : (s.slOver en).lanes.sl = [] ∧ (s.slOver en).lanes.width = if en then s.slWidth else s.lanes.width := by
  refine ⟨rfl, ?_⟩
  rw [← State.slWidth_of_frame (t := s.setFld F.laneSlCtrl_enable en.toNat) ((FrameBut.refl [.regs] s).setFld _ _ (by simp)) (by decide) (by decide)]
  rfl

theorem State.slOver_enable (en : Bool) : (s.slOver en).flag F.laneSlCtrl_enable = en := by
  have hset : (s.setFld F.laneSlCtrl_enable en.toNat).flag F.laneSlCtrl_enable = en := by
    rw [State.flag_setFld_same _ _ _ (by decide)]
    exact flag_toNat en
  rw [State.slOver, State.flag_setFld_other _ _ (by decide) (by decide), State.flag_setFld_other _ _ (by decide) (by decide)]
  exact hset

theorem State.slTurned_keeps (en : Bool) : WakeKeeps (s.slOver en) (s.slTurned en) := by
  unfold State.slTurned
  split
  · exact (State.wake_foldl _ _ State.sleeping_range).1
  · exact .refl _

/-- With the alignment of every lane started over the link is not up. -/
theorem State.upNow_over (h : t.lanes.sl = []) : t.upNow = false := by
  have hst (k : Nat) : (t.slOf k).st = 0 := by rw [State.slOf, h]; rfl
  unfold State.upNow
  rcases hw : widthLanes t.lanes.width with _ | ⟨k, l⟩
  · simp
  · simp [hst]

/-- The lanes that sleep acquire. -/
theorem State.slTurned_wakes {j : Nat} (hj : j < 8) (hb : s.sldBound j = true) (hln : s.ln (640 + j) = 1 ∨ s.ln (640 + j) = 2) : (s.slTurned true).ln (640 + j) = 3 := by
  have hover : (s.slOver true).ln (640 + j) = s.ln (640 + j) := by
    refine State.slOver_flds true _ ?_
    simp only [lane_names, List.forall_mem_cons, List.not_mem_nil, false_implies, implies_true, and_true]
    refine ⟨?_, ?_, ?_⟩ <;> exact Apart.sl_lane (by omega) (by decide) (by decide)
  refine (State.wake_foldl _ (s.slOver true) State.sleeping_range).2 (640 + j) ?_ (.inl (State.mem_sleeping hj (hover ▸ hln)))
  rw [Nat.add_sub_cancel_left, State.sldBound_of_frame (s.slOver_frame true) (by decide), hb]

/-- The link is turned on or off. -/
theorem State.slTurned_spec (en : Bool) : let t := (s.slTurned en).judgeLink
    t.flag F.laneSlCtrl_enable = en ∧ t.linkUp = false ∧ (∀ j, t.slOf j = slInit) ∧ t.lanes.width = (if en then s.slWidth else s.lanes.width) ∧
    (s.linkUp = true → t.flag F.laneSlAlm_link_down = true ∧ t.evq = (s.post 0x0906 []).evq) ∧ (s.linkUp = false → t.evq = s.evq) ∧
    FrameBut [.regs, .lanes, .evq, .cnt, .mem] s t := by
  have hkeep := s.slTurned_keeps en
  have hlanes : (s.slTurned en).judgeLink.lanes = (s.slTurned en).lanes := State.judgeLink_frame _ .lanes (by decide)
  obtain ⟨hsl, hwidth⟩ := s.slOver_lanes en
  have hdown : (s.slTurned en).upNow = false := State.upNow_over (hkeep.sl.1.trans hsl)
  have hwas : (s.slTurned en).linkUp = s.linkUp := by
    rw [State.linkUp, State.flag, hkeep.flds _ (by decide), s.slOver_flds en _ (by simp [Apart, F.laneSlSts_link_up, F.laneSlCtrl_enable, F.laneSlSts_mode_mismatch,
      F.laneSlSts_mode])]
    rfl
  refine ⟨?_, (State.judgeLink_linkUp _).trans hdown, fun j => ?_, ?_, fun hup => ?_, fun hup => ?_, ?_⟩
  · rw [State.flag_of_flds (State.judgeLink_flds _) (by simp [linkFlds, Apart, F.laneSlCtrl_enable, F.laneSlSts_mf_locked, F.laneSlSts_framed, F.laneSlSts_link_up,
      F.laneSlSts_width, F.laneSlAlm_link_down]), State.flag, hkeep.flds _ (by decide)]
    exact s.slOver_enable en
  · rw [State.slOf, hlanes, hkeep.sl.1, hsl]; rfl
  · rw [hlanes, hkeep.sl.2, hwidth]
  · obtain ⟨halarm, hevq, -, -⟩ := State.judgeLink_down _ hdown (hwas.trans hup)
    exact ⟨halarm, hevq.trans ((((s.slOver_postSame en).trans hkeep.post).post 0x0906 []).evq)⟩
  · rw [State.judgeLink_same _ (hdown.trans (hwas.trans hup).symm) .evq (by decide), hkeep.frame .evq (by decide), s.slOver_frame en .evq (by decide)]
  · exact (((s.slOver_frame en).trans hkeep.frame).mono (by simp)).trans ((State.judgeLink_frame _).mono (by simp))

theorem State.slTurned_wakes_judged {j : Nat} (hj : j < 8) (hb : s.sldBound j = true) (hln : s.ln (640 + j) = 1 ∨ s.ln (640 + j) = 2) :
    (s.slTurned true).judgeLink.ln (640 + j) = 3 := by
  rw [← State.slTurned_wakes hj hb hln]
  refine State.judgeLink_flds _ _ fun f hf => ?_
  rw [show F.laneSts_state (640 + j) = laneFld 0x4 0 3 (640 + j) by simp [lane_names]]
  exact Apart.sl_lane (by omega) (by decide) ((by decide : ∀ f ∈ linkFlds, 0x8A4000 ≤ f.addr) f hf)

end Sys2Proof.Machine
end

section
/-! A sync block of the Stay link. -/

namespace Sys2Proof.Machine

open Sys2Proof.Safety

variable {s t : State}

/-! ### SL_SYNC_BLOCK (R286 to R291) -/

/-- The sync word stands in the block. -/
def syncWord (v : Nat) : Bool := decide (bits v 63 48 = 0xB53C)

/-- The block's check passes. -/
def syncHcs (v : Nat) : Bool := decide (crc8 (beBytes 7 (v / 256)) = v % 256)

/-- The block is a sync block. -/
def syncOk (v : Nat) : Bool := syncWord v && syncHcs v

/-- The block follows the lane's last one. -/
def syncFollows (l : SlLane) (v : Nat) : Bool :=
  decide (bits v 47 42 = (l.ix + 1) % 64) && decide (bits v 35 8 = if l.ix = 63 then (l.seq + 1) % 2 ^ 28 else l.seq)

/-- The check and the stuffed bits counted. -/
def State.syncErrs (s : State) (k v st stuff : Nat) : State :=
  let s := if syncWord v && !syncHcs v && decide (st ≠ 0) then s.count Cn.slHcsErr k else s
  if stuff ≠ 0 then (s.countN Cn.slStuffErr k 0 stuff).setFld F.laneSlAlm_stuff_err 1 else s

/-- The rate matching counted and shown. -/
def State.syncRate (s : State) (v empty : Nat) : State :=
  if s.rig.run.mate.rateMatched then
    let s := (s.countN Cn.slFillDel 0 0 (if syncOk v then bits v 38 37 else 0)).countN Cn.slFillIns 0 0 empty
    (s.setFld F.laneSlRm_del (satU16 (s.fld F.laneSlRm_del + (if syncOk v then bits v 38 37 else 0)))).setFld F.laneSlRm_ins (satU16 (s.fld F.laneSlRm_ins + empty))
  else s

/-- The mate's mode compared. -/
def State.syncMode (s : State) (v : Nat) : State :=
  if syncOk v && decide (bits v 38 37 ≠ s.rig.run.mate.rateMatched.toNat) then s.setFld F.laneSlSts_mode_mismatch 1
  else if syncOk v then s.setFld F.laneSlSts_mode_mismatch 0 else s

/-- The skew and the sequence number shown. -/
def State.syncSkew (s : State) (v skew : Nat) : State :=
  let s := if decide (skew > 2048) then s.setFld F.laneSlAlm_skew_err 1 else s
  let s := s.setFld F.laneSlSkew_skew (min 4095 skew)
  if syncOk v then s.setFld F.laneSlSeq_seq (bits v 35 8) else s

/-- All that a block shows beside its lane's alignment. -/
def State.syncShown (s : State) (k v st stuff empty skew : Nat) : State := (((s.syncErrs k v st stuff).syncRate v empty).syncMode v).syncSkew v skew

/-- A lane's alignment with the header of a block. -/
def syncHead (l : SlLane) (v : Nat) (far : Bool) : SlLane := if syncOk v then { l with ix := bits v 47 42, seq := bits v 35 8, skewed := far } else { l with skewed := far }

/-- The table of R289. -/
def syncNext (l : SlLane) (v : Nat) (far : Bool) : SlLane :=
  let h := syncHead l v far
  if l.st = 0 then (if syncOk v then { h with st := 1, good := 1, missed := 0, follow := 0, broken := 0 } else l)
  else if l.st = 1 then
    (if syncOk v then (if l.good + 1 ≥ 3 then { h with st := 2, good := 0, missed := 0, follow := 0, broken := 0 } else { h with good := l.good + 1 }) else slInit)
  else if !syncOk v then (if l.missed + 1 ≥ 4 then slInit else { h with missed := l.missed + 1, follow := 0, broken := 0 })
  else if l.st = 2 then
    (if syncFollows l v then
      (if l.follow + 1 ≥ 2 then { h with st := 3, missed := 0, follow := 0, broken := 0 } else { h with missed := 0, follow := l.follow + 1 })
     else { h with missed := 0, follow := 0 })
  else
    (if syncFollows l v then { h with missed := 0, broken := 0 }
     else if l.broken + 1 ≥ 3 then { h with st := 2, missed := 0, follow := 0, broken := 0 } else { h with missed := 0, broken := l.broken + 1 })

section
variable {k : BitVec 3} {w : BitVec 64} {stuff empty : BitVec 8} {skew : BitVec 13}

theorem exec_slSyncBlock_idle (h : s.flag F.laneSlCtrl_enable = false ∨ s.ln (640 + k.toNat) ≠ 4) : exec (.slSyncBlock k w stuff empty skew) s = .next s := by
  refine if_neg ?_
  rintro ⟨hen, hln⟩
  rcases h with h | h
  · simp [hen] at h
  · exact h hln

theorem stuffed_iff (b : BitVec 8) : b ≠ 0 ↔ b.toNat ≠ 0 := by
  rw [ne_eq, ne_eq, ← BitVec.toNat_inj]; rfl

theorem exec_slSyncBlock (hen : s.flag F.laneSlCtrl_enable = true) (hln : s.ln (640 + k.toNat) = 4) : exec (.slSyncBlock k w stuff empty skew) s =
    .next (((s.syncShown k.toNat w.toNat (s.slOf k.toNat).st stuff.toNat empty.toNat skew.toNat).setSl k.toNat
      (syncNext (s.slOf k.toNat) w.toNat (decide (skew.toNat > 2048)))).judgeLink) := by
  refine (if_pos ⟨hen, hln⟩).trans ?_
  simp only [stuffed_iff]
  rfl

end

/-! The table of R289, row by row. -/

section
variable {l : SlLane} {v : Nat} {far : Bool}

theorem syncHead_st : (syncHead l v far).st = l.st := by unfold syncHead; split <;> rfl

theorem syncHead_missed : (syncHead l v far).skewed = far := by unfold syncHead; split <;> rfl

theorem syncHead_ok (h : syncOk v = true) : (syncHead l v far).ix = bits v 47 42 ∧ (syncHead l v far).seq = bits v 35 8 := by
  rw [syncHead, if_pos h]; exact ⟨rfl, rfl⟩

theorem syncNext_search (h : l.st = 0) : (syncNext l v far).st = if syncOk v then 1 else 0 := by
  unfold syncNext
  rw [if_pos h]
  split
  · rfl
  · exact h

theorem syncNext_confirm (h : l.st = 1) : (syncOk v = false → (syncNext l v far).st = 0) ∧ (syncOk v = true → (syncNext l v far).st = if 2 ≤ l.good then 2 else 1) := by
  unfold syncNext
  rw [if_neg (by omega), if_pos h]
  refine ⟨fun hok => ?_, fun hok => ?_⟩
  · rw [if_neg (by simp [hok])]; rfl
  · rw [if_pos hok]
    by_cases hgood : 2 ≤ l.good
    · rw [if_pos (by omega), if_pos hgood]
    · rw [if_neg (by omega), if_neg hgood]; exact syncHead_st.trans h

theorem syncNext_missed (h : 2 ≤ l.st) (hok : syncOk v = false) : (3 ≤ l.missed → (syncNext l v far).st = 0) ∧
    (l.missed < 3 → (syncNext l v far).st = l.st ∧ (syncNext l v far).missed = l.missed + 1) := by
  unfold syncNext
  rw [if_neg (by omega), if_neg (by omega), if_pos (by simp [hok])]
  refine ⟨fun hm => ?_, fun hm => ?_⟩
  · rw [if_pos (by omega)]; rfl
  · rw [if_neg (by omega)]; exact ⟨syncHead_st, rfl⟩

theorem syncNext_framed (h : l.st = 2) (hok : syncOk v = true) : (syncNext l v far).st = if syncFollows l v = true ∧ 1 ≤ l.follow then 3 else 2 := by
  unfold syncNext
  rw [if_neg (by omega), if_neg (by omega), if_neg (by simp [hok]), if_pos h]
  by_cases hf : syncFollows l v = true
  · rw [if_pos hf]
    by_cases hn : 1 ≤ l.follow
    · rw [if_pos (by omega), if_pos ⟨hf, hn⟩]
    · rw [if_neg (by omega), if_neg (by simp [hn])]; exact syncHead_st.trans h
  · rw [if_neg hf, if_neg (by simp [hf])]; exact syncHead_st.trans h

theorem syncNext_locked (h : l.st = 3) (hok : syncOk v = true) : (syncNext l v far).st = if syncFollows l v = false ∧ 2 ≤ l.broken then 2 else 3 := by
  unfold syncNext
  rw [if_neg (by omega), if_neg (by omega), if_neg (by simp [hok]), if_neg (by omega)]
  by_cases hf : syncFollows l v = true
  · rw [if_pos hf, if_neg (by simp [hf])]; exact syncHead_st.trans h
  · rw [if_neg hf]
    by_cases hn : 2 ≤ l.broken
    · rw [if_pos (by omega), if_pos ⟨Bool.eq_false_iff.mpr hf, hn⟩]
    · rw [if_neg (by omega), if_neg (by simp [hn])]; exact syncHead_st.trans h

/-- A sync block keeps a lane beyond SEARCH there, with the block's header. -/
theorem syncNext_header (h : l.st ≠ 0) (hok : syncOk v = true) :
    (syncNext l v far).st ≠ 0 ∧ (syncNext l v far).ix = bits v 47 42 ∧ (syncNext l v far).seq = bits v 35 8 ∧ (syncNext l v far).skewed = far := by
  obtain ⟨hix, hseq⟩ := syncHead_ok (l := l) (far := far) hok
  have hst : (syncHead l v far).st ≠ 0 := by rw [syncHead_st]; exact h
  have hskew := syncHead_missed (l := l) (v := v) (far := far)
  unfold syncNext
  rw [if_neg h]
  split
  · split
    · exact ⟨by simp, hix, hseq, hskew⟩
    · exact ⟨hst, hix, hseq, hskew⟩
  · rw [if_neg (by simp [hok])]
    split
    · split
      · split
        · exact ⟨by simp, hix, hseq, hskew⟩
        · exact ⟨hst, hix, hseq, hskew⟩
      · exact ⟨hst, hix, hseq, hskew⟩
    · split
      · exact ⟨hst, hix, hseq, hskew⟩
      · split
        · exact ⟨by simp, hix, hseq, hskew⟩
        · exact ⟨hst, hix, hseq, hskew⟩

end

/-! What a block shows. -/

/-- The fields that a block shows beside the mode and the sequence number. -/
def syncFlds : List Fld := [F.laneSlAlm_stuff_err, F.laneSlRm_del, F.laneSlRm_ins, F.laneSlAlm_skew_err, F.laneSlSkew_skew]

/-- What a block shows reads neither the lanes nor the enable. -/
structure SyncKeeps (l : List Fld) (s t : State) : Prop where
  frame : FrameBut [.regs, .cnt] s t
  flds : FldsBut l s t

theorem SyncKeeps.refl (l : List Fld) (s : State) : SyncKeeps l s s := ⟨.refl _ s, .refl _ s⟩

theorem SyncKeeps.trans {l : List Fld} {u : State} (h : SyncKeeps l s t) (k : SyncKeeps l t u) : SyncKeeps l s u := ⟨h.frame.trans k.frame, h.flds.trans k.flds⟩

theorem SyncKeeps.setFld {l : List Fld} (h : SyncKeeps l s t) {f : Fld} (v : Nat) (hf : f ∈ l) (hw : f.lo + f.width ≤ 32) : SyncKeeps l s (t.setFld f v) :=
  ⟨h.frame.setFld _ _ (by simp), h.flds.setFld _ hf hw⟩

theorem SyncKeeps.countN {l : List Fld} (h : SyncKeeps l s t) (c : Ctr) (i j n : Nat) : SyncKeeps l s (t.countN c i j n) :=
  ⟨h.frame.countN _ _ _ _ (by simp), h.flds.of_frame ((FrameBut.refl [.cnt] t).countN c i j n (by simp)) (by decide)⟩

theorem SyncKeeps.mono {l l' : List Fld} (h : SyncKeeps l s t) (hl : l ⊆ l') : SyncKeeps l' s t := ⟨h.frame, h.flds.mono hl⟩

theorem State.syncErrs_keeps (k v st stuff : Nat) : SyncKeeps syncFlds s (s.syncErrs k v st stuff) := by
  have hhcs : SyncKeeps syncFlds s (if syncWord v && !syncHcs v && decide (st ≠ 0) then s.count Cn.slHcsErr k else s) := by
    split
    · exact (SyncKeeps.refl _ s).countN _ _ _ _
    · exact .refl _ s
  unfold State.syncErrs
  dsimp only
  by_cases hstuff : stuff ≠ 0
  · rw [if_pos hstuff]
    exact (hhcs.countN _ _ _ _).setFld _ (by simp [syncFlds]) (by decide)
  · rw [if_neg hstuff]
    exact hhcs

theorem State.syncRate_keeps (v empty : Nat) : SyncKeeps syncFlds s (s.syncRate v empty) := by
  unfold State.syncRate
  split
  · exact ((((SyncKeeps.refl _ s).countN _ _ _ _).countN _ _ _ _).setFld _ (by simp [syncFlds]) (by decide)).setFld _ (by simp [syncFlds]) (by decide)
  · exact .refl _ s

theorem State.syncMode_keeps (v : Nat) : SyncKeeps [F.laneSlSts_mode_mismatch] s (s.syncMode v) := by
  unfold State.syncMode
  split
  · exact (SyncKeeps.refl _ s).setFld _ (by simp) (by decide)
  · split
    · exact (SyncKeeps.refl _ s).setFld _ (by simp) (by decide)
    · exact .refl _ s

theorem State.syncSkew_keeps (v skew : Nat) : SyncKeeps (F.laneSlSeq_seq :: syncFlds) s (s.syncSkew v skew) := by
  have hfar : SyncKeeps (F.laneSlSeq_seq :: syncFlds) s (if decide (skew > 2048) then s.setFld F.laneSlAlm_skew_err 1 else s) := by
    split
    · exact (SyncKeeps.refl _ s).setFld _ (by simp [syncFlds]) (by decide)
    · exact .refl _ s
  have hskew := hfar.setFld (f := F.laneSlSkew_skew) (min 4095 skew) (by simp [syncFlds]) (by decide)
  unfold State.syncSkew
  dsimp only
  by_cases hok : syncOk v = true
  · rw [if_pos hok]; exact hskew.setFld _ (by simp) (by decide)
  · rw [if_neg hok]; exact hskew

theorem State.syncMode_mismatch {v : Nat} (hok : syncOk v = true) :
    (s.syncMode v).flag F.laneSlSts_mode_mismatch = decide (bits v 38 37 ≠ s.rig.run.mate.rateMatched.toNat) := by
  unfold State.syncMode
  rw [hok, Bool.true_and]
  split
  next h => rw [State.flag_setFld_same _ _ _ (by decide), h]; decide
  next h => rw [if_pos rfl, State.flag_setFld_same _ _ _ (by decide), Bool.eq_false_iff.mpr h]; decide

theorem State.syncSkew_seq {v : Nat} (hok : syncOk v = true) (skew : Nat) : (s.syncSkew v skew).fld F.laneSlSeq_seq = bits v 35 8 := by
  unfold State.syncSkew
  dsimp only
  rw [if_pos hok, State.fld_setFld_same _ _ _ (by decide)]
  exact Nat.mod_eq_of_lt (Nat.mod_lt _ (by decide))

/-- A block in all shows nothing of the link's state but the mode. -/
theorem State.syncShown_keeps (k v st stuff empty skew : Nat) :
    SyncKeeps ([F.laneSlSts_mode_mismatch, F.laneSlSeq_seq] ++ syncFlds) s (s.syncShown k v st stuff empty skew) :=
  ((((State.syncErrs_keeps k v st stuff).mono (by simp)).trans ((State.syncRate_keeps v empty).mono (by simp))).trans ((State.syncMode_keeps v).mono (by simp))).trans
    ((State.syncSkew_keeps v skew).mono (by simp))

theorem State.syncShown_mismatch {v : Nat} (hok : syncOk v = true) (k st stuff empty skew : Nat) :
    (s.syncShown k v st stuff empty skew).flag F.laneSlSts_mode_mismatch = decide (bits v 38 37 ≠ s.rig.run.mate.rateMatched.toNat) := by
  have hrig : ((s.syncErrs k v st stuff).syncRate v empty).rig = s.rig := ((State.syncErrs_keeps k v st stuff).trans (State.syncRate_keeps v empty)).frame .rig (by decide)
  rw [State.syncShown, State.flag_of_flds (State.syncSkew_keeps v skew).flds (by simp [syncFlds, Apart, F.laneSlSts_mode_mismatch, F.laneSlSeq_seq, F.laneSlAlm_stuff_err,
    F.laneSlRm_del, F.laneSlRm_ins, F.laneSlAlm_skew_err, F.laneSlSkew_skew]), State.syncMode_mismatch hok, hrig]

/-- The link is up just when every lane of its width is aligned and the modes agree (R290). -/
theorem State.upNow_iff (hen : s.flag F.laneSlCtrl_enable = true) : s.upNow = true ↔
    widthLanes s.lanes.width ≠ [] ∧ s.flag F.laneSlSts_mode_mismatch = false ∧ ∀ j ∈ widthLanes s.lanes.width, (s.slOf j).st = 3 ∧ (s.slOf j).skewed = false := by
  simp only [State.upNow, hen, Bool.true_and, Bool.and_eq_true, Bool.not_eq_true', List.all_eq_true, decide_eq_true_eq, and_assoc, ne_eq, List.isEmpty_eq_false_iff]

/-- What a sync block does. -/
theorem State.syncBlock_spec (k v stuff empty skew : Nat) (hen : s.flag F.laneSlCtrl_enable = true) :
    let n := syncNext (s.slOf k) v (decide (skew > 2048))
    let t := ((s.syncShown k v (s.slOf k).st stuff empty skew).setSl k n).judgeLink
    t.slOf k = n ∧ (∀ j, j ≠ k → t.slOf j = s.slOf j) ∧
    (syncOk v = true → t.fld F.laneSlSeq_seq = bits v 35 8 ∧ t.flag F.laneSlSts_mode_mismatch = decide (bits v 38 37 ≠ s.rig.run.mate.rateMatched.toNat)) ∧
    (t.linkUp = true ↔ widthLanes s.lanes.width ≠ [] ∧ t.flag F.laneSlSts_mode_mismatch = false ∧
      ∀ j ∈ widthLanes s.lanes.width, (t.slOf j).st = 3 ∧ (t.slOf j).skewed = false) ∧
    FrameBut [.regs, .lanes, .cnt, .evq, .mem] s t ∧ t.lanes.lane = s.lanes.lane := by
  intro n t
  have hkeep := State.syncShown_keeps (s := s) k v (s.slOf k).st stuff empty skew
  have hlanes : t.lanes = ((s.syncShown k v (s.slOf k).st stuff empty skew).setSl k n).lanes := State.judgeLink_frame _ .lanes (by decide)
  have hslOf (j : Nat) : t.slOf j = ((s.syncShown k v (s.slOf k).st stuff empty skew).setSl k n).slOf j := State.slOf_of_frame (State.judgeLink_frame _) (by decide) j
  have hshown : (s.syncShown k v (s.slOf k).st stuff empty skew).lanes = s.lanes := hkeep.frame .lanes (by decide)
  have hjudge {g : Fld} (hg : ∀ f ∈ linkFlds, Apart f g) : t.fld g = (s.syncShown k v (s.slOf k).st stuff empty skew).fld g := State.judgeLink_flds _ g hg
  have hmode : t.flag F.laneSlSts_mode_mismatch = (s.syncShown k v (s.slOf k).st stuff empty skew).flag F.laneSlSts_mode_mismatch := by
    unfold State.flag
    rw [hjudge (by simp [linkFlds, Apart, F.laneSlSts_mf_locked, F.laneSlSts_framed, F.laneSlSts_link_up, F.laneSlSts_width, F.laneSlAlm_link_down,
      F.laneSlSts_mode_mismatch])]
  have hwidth : ((s.syncShown k v (s.slOf k).st stuff empty skew).setSl k n).lanes.width = s.lanes.width := by
    rw [← hshown]; rfl
  have henable : ((s.syncShown k v (s.slOf k).st stuff empty skew).setSl k n).flag F.laneSlCtrl_enable = true := by
    rw [← hen]
    exact State.flag_of_flds hkeep.flds (by simp [syncFlds, Apart, F.laneSlSts_mode_mismatch, F.laneSlSeq_seq, F.laneSlAlm_stuff_err, F.laneSlRm_del, F.laneSlRm_ins,
      F.laneSlAlm_skew_err, F.laneSlSkew_skew, F.laneSlCtrl_enable])
  refine ⟨(hslOf k).trans (State.slOf_setSl_same _ _ _), fun j hj => ?_, fun hok => ⟨?_, hmode.trans (State.syncShown_mismatch hok _ _ _ _ _)⟩, ?_, ?_, ?_⟩
  · rw [hslOf, State.slOf_setSl_other _ _ hj, State.slOf_of_frame hkeep.frame (by decide)]
  · rw [hjudge (by simp [linkFlds, Apart, F.laneSlSts_mf_locked, F.laneSlSts_framed, F.laneSlSts_link_up, F.laneSlSts_width, F.laneSlAlm_link_down, F.laneSlSeq_seq])]
    exact State.syncSkew_seq hok skew
  · rw [show t.linkUp = _ from State.judgeLink_linkUp _, State.upNow_iff henable, hwidth, hmode]
    simp only [hslOf]
    rfl
  · exact ((hkeep.frame.mono (by simp)).trans ((State.setSl_frame _ k n).mono (by simp))).trans ((State.judgeLink_frame _).mono (by simp))
  · rw [hlanes, ← hshown]; rfl

end Sys2Proof.Machine
end

section
/-! The lanes and the Stay link: the outcomes of a window, a lock, and the obligation. -/

namespace Sys2Proof.Machine

open Sys2Proof.Safety

variable {s t : State} {i fom td : Nat} {c0 c1 : Word}

/-! ### The outcomes of a window of a lane that adapts -/

theorem State.afterWindow_off (hen : s.flag (F.laneAdapt_adapt_en i) = false) : s.afterWindow t i fom td c0 c1 = t.setLane i (t.windowLane i) := if_neg (by simp [hen])

section
variable (hen : s.flag (F.laneAdapt_adapt_en i) = true)
include hen

theorem State.afterWindow_thin (h : td < s.fld (F.laneAdapt_td_min i)) :
    s.afterWindow t i fom td c0 c1 = (s.windowFrozen t i).setLane i { t.windowLane i with okRun := 0, run := 0 } := (if_pos hen).trans (if_pos h)

variable (htd : s.fld (F.laneAdapt_td_min i) ≤ td)
include htd

theorem State.afterWindow_frozen (hf : s.flag (F.laneSts_frozen i) = true) : s.afterWindow t i fom td c0 c1 = s.windowWaited t i fom :=
  (if_pos hen).trans ((if_neg (by omega)).trans (if_pos hf))

theorem State.afterWindow_adapting (hf : s.flag (F.laneSts_frozen i) = false) : s.afterWindow t i fom td c0 c1 = s.windowAdapted t i fom c0 c1 :=
  (if_pos hen).trans ((if_neg (by omega)).trans (if_neg (by simp [hf])))

end

variable (s) in
/-- What a window shows keeps the lane's coefficients, its freeze, and all that posting reads. -/
theorem State.windowShown_keeps (i fom td : Nat) : CoefsHeld i s (s.windowShown i fom td) ∧
    (s.windowShown i fom td).flag (F.laneSts_frozen i) = s.flag (F.laneSts_frozen i) ∧ PostSame s (s.windowShown i fom td) := by
  refine ⟨.of_flds (s.windowShown_flds i fom td) (by simp [shownFlds, lane_names, Apart]), State.flag_of_flds (s.windowShown_flds i fom td)
    (by simp [shownFlds, lane_names, Apart]), ?_⟩
  unfold State.windowShown
  simp only [lane_names]
  exact (((PostSame.refl s).setLaneFld _ _ (by decide)).setLaneFld _ _ (by decide)).setLaneFld _ _ (by decide)

/-- A frozen lane waits for four windows whose density suffices. -/
theorem State.windowWaited_waits (h : (t.laneOf i).okRun < 3) :
    s.windowWaited t i fom = t.setLane i { t.windowLane i with okRun := (t.windowLane i).okRun + 1 } := if_pos (Nat.succ_lt_succ h)

theorem State.windowWaited_thaws (h : 3 ≤ (t.laneOf i).okRun) : s.windowWaited t i fom =
    if fom + s.fld (F.laneAdapt_restore_margin i) < s.fld (F.laneFom_fom_good i) then s.windowRestored t i else t.windowThawed i := by
  have hrun : ¬ (t.windowLane i).okRun + 1 < 4 := Nat.not_lt.mpr (Nat.succ_le_succ h)
  refine (if_neg hrun).trans ?_
  by_cases hfom : fom + s.fld (F.laneAdapt_restore_margin i) < s.fld (F.laneFom_fom_good i)
  · rw [if_pos hfom, if_pos (by omega)]
  · rw [if_neg hfom, if_neg (by omega)]

/-- An adapting window whose run is complete makes its coefficients the last good set. -/
theorem State.windowAdapted_good (h : (t.laneOf i).run = 1023) :
    s.windowAdapted t i fom c0 c1 = ((s.windowStepped t i c0 c1).windowGood i fom).setLane i { s.windowMoved t i c0 c1 with run := 0 } :=
  if_pos (by rw [State.windowMoved_run, h])

theorem State.windowAdapted_goes (h : (t.laneOf i).run ≠ 1023) : s.windowAdapted t i fom c0 c1 =
    (s.windowStepped t i c0 c1).setLane i { s.windowMoved t i c0 c1 with run := (s.windowMoved t i c0 c1).run + 1 } :=
  if_neg (by rw [State.windowMoved_run]; omega)

theorem CoefsHeld.setLane (h : CoefsHeld i s t) (j : Nat) (l : LaneSt) : CoefsHeld i s (t.setLane j l) := by
  unfold CoefsHeld
  rw [State.fld_setLane, State.fld_setLane]
  exact h

theorem State.flag_setLane (j : Nat) (l : LaneSt) (f : Fld) : (s.setLane j l).flag f = s.flag f := by rw [State.flag, State.fld_setLane]; rfl

theorem State.windowGood_frame (i fom : Nat) : FrameBut [.regs, .lanes] t (t.windowGood i fom) :=
  ((((FrameBut.refl _ t).setFld _ _ (by simp)).setFld _ _ (by simp)).setFld _ _ (by simp)).setFld _ _ (by simp)

/-- The lane keeps the coefficients, and how long ago they moved, that its step gave. -/
theorem State.windowAdapted_step (hf : fom < 256) : let u := s.windowAdapted t i fom c0 c1
    CoefsHeld i (s.windowStepped t i c0 c1) u ∧ (u.laneOf i).since = (s.windowMoved t i c0 c1).since ∧
    u.flag (F.laneSts_frozen i) = t.flag (F.laneSts_frozen i) ∧ FrameBut [.regs, .lanes] t u := by
  have hstep : (s.windowStepped t i c0 c1).flag (F.laneSts_frozen i) = t.flag (F.laneSts_frozen i) :=
    State.flag_of_flds (State.windowStepped_flds i) (by simp [lane_names, Apart])
  by_cases hrun : (t.laneOf i).run = 1023
  · obtain ⟨hheld, -, -, -, -, hfrozen⟩ := (s.windowStepped t i c0 c1).windowGood_spec i hf
    rw [State.windowAdapted_good hrun]
    refine ⟨hheld.setLane _ _, by rw [State.laneOf_setLane_same], by rw [State.flag_setLane, hfrozen, hstep],
      ((s.windowStepped_frame i).trans (State.windowGood_frame i fom)).lanes _ (by simp)⟩
  · rw [State.windowAdapted_goes hrun]
    exact ⟨CoefsHeld.setLane ⟨rfl, rfl⟩ _ _, by rw [State.laneOf_setLane_same], by rw [State.flag_setLane, hstep], (State.windowStepped_frame i).lanes _ (by simp)⟩

end Sys2Proof.Machine

namespace Sys2Proof.Machine

open Sys2Proof.Safety

variable {s : State}

/-- A lane off the SLD that locks. -/
theorem State.lockSaid_spec (i : Nat) : (s.lockSaid i).ln i = 4 ∧ (s.lockSaid i).flag (F.laneSts_sig_det i) = true ∧
    FldsBut [F.laneSts_state i, F.laneSts_sig_det i] s (s.lockSaid i) ∧ FrameBut [.regs, .lanes, .evq, .cnt, .mem, .rig] s (s.lockSaid i) := by
  refine ⟨?_, ?_, (s.lockedNow_flds i).of_frame (s.lockSaid_frame i) (by decide), ((s.lockedNow_frame i).mono (by simp)).trans ((s.lockSaid_frame i).mono (by simp))⟩
  · rw [State.ln, s.lockSaid_fld]; exact s.lockedNow_ln i
  · rw [State.flag, s.lockSaid_fld]; exact s.lockedNow_sig i

/-- The link shows itself present once a bound SLD lane has locked. -/
theorem State.lockSaid_present {i : Nat} (hi : 640 ≤ i) (hi' : i < 648) (hb : s.sldBound (i - 640) = true) :
    (s.lockSaid i).showPresent.flag F.laneSlSts_present = true := by
  obtain ⟨hln, -, -, -⟩ := s.lockSaid_spec i
  have hrun : (s.lockSaid i).rig.run = s.rig.run := by
    rw [State.lockSaid]
    split
    · show ((s.lockedNow i).post 0x0902 [i]).rig.run = s.rig.run
      rw [State.post_rig]; rfl
    · rfl
  have hbound : (s.lockSaid i).sldBound (i - 640) = true := by rw [State.sldBound, hrun]; exact hb
  rw [State.showPresent_present, State.slPresentNow_iff]
  exact ⟨i - 640, by omega, hbound, by rw [show 640 + (i - 640) = i by omega]; exact hln⟩

/-- What a lock shows of the link's presence leaves the lane as it locked. -/
theorem State.lockSaid_showPresent (i : Nat) (hi : i < 656) : (s.lockSaid i).showPresent.ln i = 4 ∧
    (s.lockSaid i).showPresent.flag (F.laneSts_sig_det i) = true ∧ (s.lockSaid i).showPresent.laneOf i = { s.laneOf i with announce := false } := by
  obtain ⟨hln, hsig, -, -⟩ := s.lockSaid_spec i
  have hkeep {o lo w : Nat} (ho : o < 0x400) : ∀ f ∈ [F.laneSlSts_present], Apart f (laneFld o lo w i) := by
    simpa using Apart.sl_lane hi ho (by decide)
  refine ⟨?_, ?_, ?_⟩
  · rw [← hln]
    exact State.showPresent_flds _ _ (by simp only [lane_names]; exact hkeep (by decide))
  · rw [← hsig]
    exact State.flag_of_flds (State.showPresent_flds _) (by simp only [lane_names]; exact hkeep (by decide))
  · rw [State.laneOf_of_frame (State.showPresent_frame _) (by decide), s.lockSaid_laneOf]

/-! ### A sync block by its bits (R287) -/

theorem syncOk_iff {v : Nat} (h : v < 2 ^ 64) : syncOk v = true ↔ v / 2 ^ 48 = 0xB53C ∧ crc8 (beBytes 7 (v / 256)) = v % 256 := by
  have htop : bits v 63 48 = v / 2 ^ 48 := Nat.mod_eq_of_lt (by omega)
  rw [syncOk, Bool.and_eq_true, syncWord, syncHcs, decide_eq_true_eq, decide_eq_true_eq, htop]

theorem bits_ix (v : Nat) : bits v 47 42 = v / 2 ^ 42 % 64 := rfl

theorem bits_seq (v : Nat) : bits v 35 8 = v / 256 % 2 ^ 28 := rfl

theorem bits_mode (v : Nat) : bits v 38 37 = v / 2 ^ 37 % 4 := rfl

theorem syncFollows_iff (l : SlLane) (v : Nat) : syncFollows l v = true ↔
    v / 2 ^ 42 % 64 = (l.ix + 1) % 64 ∧ v / 256 % 2 ^ 28 = if l.ix = 63 then (l.seq + 1) % 2 ^ 28 else l.seq := by
  rw [syncFollows, Bool.and_eq_true, decide_eq_true_eq, decide_eq_true_eq, bits_ix, bits_seq]

end Sys2Proof.Machine

namespace Sys2Proof.Proofs

open Sys2Proof.Machine Sys2Proof.Safety

/-- Settles O39, command by command: each command's effect is that of the shared operation its lemma names. -/
theorem lanesAndStayLink : Obligations.lanesAndStayLink := by
  refine ⟨fun m k reef s => ⟨exec_laneReefRequest_idle, fun hm hr h3 => ⟨State.reefAllowed_refused, fun h => ?refused, fun h => ?granted⟩⟩,
    fun k s => ⟨exec_laneReefEntered_idle, fun r hent hq hoff => ?entered, fun r hent hq hi hi' hln => ?enteredSld⟩,
    fun k s => ⟨exec_laneLockAcquired_idle, fun h => ?acquired⟩,
    fun m k sig s => ⟨exec_laneRestart_idle, fun hm hr hln hi => ?restart, fun hln => ⟨exec_laneLockLoss_idle hln, exec_fomFailTimer_idle (.inl hln)⟩, fun hln hlow hhigh => ?loss,
      fun h => exec_fomFailTimer_idle (.inr h), fun hslck hln hm => ?slck⟩,
    fun k tr fom c0 c1 s => ⟨exec_adaptWindow_idle, fun hlow hhigh hln => ?window⟩, fun m en s => ⟨exec_slEnable_idle, fun hm hr => ?enable⟩,
    fun x w stuff empty skew s => ⟨exec_slSyncBlock_idle, fun hen hln => ?sync⟩⟩
  case refused => exact ⟨_, exec_laneReefRequest_refused hm hr h3 h, s.reefRefused_spec k.val reef⟩
  case granted =>
    by_cases hent : (s.laneOf k.val).entering = none
    · obtain ⟨hctrl, hframe, hother, hbegun, hstill, hwoken⟩ := s.reefBegun_spec k.val reef
      exact ⟨_, exec_laneReefRequest_begun hm hr h3 h hent, hctrl, hframe, hother, fun hne => absurd hent hne, fun _ => hbegun, fun _ => hstill, fun _ => hwoken⟩
    · obtain ⟨hctrl, hframe, hother, hqueued⟩ := s.reefQueued_spec k.val reef
      exact ⟨_, exec_laneReefRequest_queued hm hr h3 h hent, hctrl, hframe, hother, fun _ => hqueued, fun he => absurd he hent, fun he => absurd he hent,
        fun he => absurd he hent⟩
  case entered =>
    refine ⟨_, (exec_laneReefEntered hent hq).trans (congrArg Host.Outcome.next (if_neg ?_)), s.reefIn_ln k.val r, s.reefIn_spec k.val r⟩
    rintro ⟨hln, hi, hi'⟩
    rcases hoff with h | h | h
    · omega
    · omega
    · exact h hln
  case enteredSld =>
    exact ⟨_, (exec_laneReefEntered hent hq).trans (congrArg Host.Outcome.next (if_pos ⟨hln, hi, hi'⟩)), State.reefIn_leave_spec hi hi' r⟩
  case acquired =>
    obtain ⟨hln, hsig, hflds, hframe⟩ := s.lockSaid_spec k.val
    by_cases hlink : 640 ≤ k.val
    · obtain ⟨hln', hsig', hlane⟩ := s.lockSaid_showPresent k.val (by omega)
      exact ⟨_, (exec_laneLockAcquired h).trans (if_pos hlink), hln', hsig', hlane, fun _ hi => absurd hi (by omega), fun _ hi => absurd hi (by omega),
        fun _ hi hb => State.lockSaid_present hlink hi hb, (hflds.mono (by simp)).trans ((State.showPresent_flds _).mono (by simp)),
        hframe.trans ((State.showPresent_frame _).mono (by simp))⟩
    · exact ⟨_, (exec_laneLockAcquired h).trans (if_neg hlink), hln, hsig, s.lockSaid_laneOf k.val, fun hsaid _ => s.lockSaid_posted hsaid,
        fun hsaid _ => s.lockSaid_silent hsaid, fun hi => absurd hi hlink, hflds.mono (by simp), hframe⟩
  case restart =>
    obtain ⟨hagain, hflds, hframe⟩ := s.loseLock_dropped hi true
    exact ⟨_, exec_laneRestart hm hr hln, hagain, hframe .sup (by decide), hflds, hframe, fun h => s.loseLock_transmit h true⟩
  case loss =>
    have hclass : laneClass k.val = 2 := if_pos hhigh
    refine ⟨?_, fun hperm => ⟨?_, fun hfrozen hfom => ?_⟩, fun hperm hport => ?_⟩
    · obtain ⟨hagain, hflds, hframe⟩ := s.loseSig_dropped hhigh 0 false
      exact ⟨_, exec_laneLockLoss_uplink hln hlow hhigh, hagain, s.loseSig_sig hhigh false false, State.loseLock_announce _ (.inl hhigh) false,
        hframe .sup (by decide), hflds, hframe⟩
    · exact ⟨_, exec_laneLockLoss_uplink hln hlow hhigh, (s.loseSig_dropped hhigh 1 true).laneFault (hclass ▸ hperm)⟩
    · obtain ⟨hagain, hfault, -, hrest⟩ := (s.loseLock_dropped hhigh true).laneFault (hclass ▸ hperm)
      exact ⟨_, exec_fomFailTimer hlow (by omega) hln hfrozen hfom, hagain, hfault, hrest⟩
    · obtain ⟨hout, hretired⟩ := (s.loseSig_dropped hhigh 1 true).laneFault_retires hlow hhigh (hclass ▸ hperm) hport
      exact ⟨_, exec_laneLockLoss_uplink hln hlow hhigh, hout, hclass ▸ hretired⟩
  case slck =>
    refine ⟨_, exec_laneLockLoss_slck hln hslck hm, ?_⟩
    rw [hslck]
    exact State.slckLost_spec sig
  case window =>
    have htd : 100 * tr.toNat / 4095 < 256 := by have := tr.isLt; omega
    obtain ⟨hfom, hdensity, hmin⟩ := s.windowShown_fld k.val fom.isLt htd
    obtain ⟨hheld, hfrozen, hpost⟩ := s.windowShown_keeps k.val fom.toNat (100 * tr.toNat / 4095)
    have hlane := s.windowShown_laneOf k.val fom.toNat (100 * tr.toNat / 4095)
    have hflds := s.windowShown_flds k.val fom.toNat (100 * tr.toNat / 4095)
    have hframe := s.windowShown_frame k.val fom.toNat (100 * tr.toNat / 4095)
    have hexec := exec_adaptWindow (tr := tr) (fom := fom) (c0 := c0) (c1 := c1) hlow hhigh hln
    generalize s.windowShown k.val fom.toNat (100 * tr.toNat / 4095) = t at *
    obtain ⟨heflds, heframe, heother⟩ := State.afterWindow_effect (s := s) (t := t) (c0 := c0) (c1 := c1) k.val fom.toNat (100 * tr.toNat / 4095)
    refine ⟨_, hexec, ?_, ?_, ?_, fun j hj => (heother j hj).trans (hlane j), (hflds.mono (by simp [shownFlds])).trans (heflds.mono (by simp [adaptFlds])),
      (hframe.mono (by simp)).trans heframe, fun hen => ?off, fun hen => ⟨fun hthin => ?thin, fun hdense hf => ⟨fun hrun => ?waits, fun hrun => ?thaws⟩, fun hdense hf => ?adapts⟩⟩
    · rw [heflds _ (by simp [adaptFlds, lane_names, Apart])]; exact hfom
    · rw [heflds _ (by simp [adaptFlds, lane_names, Apart])]; exact hdensity
    · rw [heflds _ (by simp [adaptFlds, lane_names, Apart])]; exact hmin
    case off =>
      rw [State.afterWindow_off hen]
      exact ⟨hflds.lanes _, (hframe.mono (by simp)).lanes _ (by simp)⟩
    case thin =>
      obtain ⟨hkeep, hfroze, hevq, hfreeze, hstill⟩ := State.windowFrozen_spec k.val hfrozen
      rw [State.afterWindow_thin hen hthin]
      refine ⟨(hheld.trans hkeep).setLane _ _, hfroze, by rw [State.laneOf_setLane_same], by rw [State.laneOf_setLane_same], hevq.trans hpost.evq,
        fun h => ⟨(hfreeze h).1, (hfreeze h).2.trans (State.count_congr _ _ hpost.cnt hpost.chain _ _)⟩, fun h => (hstill h).trans hpost.cnt⟩
    case waits =>
      rw [State.afterWindow_frozen hen hdense hf, State.windowWaited_waits (by rw [hlane]; exact hrun)]
      refine ⟨hheld.setLane _ _, by rw [State.flag_setLane, hfrozen, hf], ?_, (hframe.mono (by simp)).lanes _ (by simp)⟩
      rw [State.laneOf_setLane_same, State.windowLane, hlane]
    case thaws =>
      have hthaw : CoefsHeld k.val t (t.windowThawed k.val) := .of_flds (State.windowThawed_flds k.val) (by simp [lane_names, Apart])
      rw [State.afterWindow_frozen hen hdense hf, State.windowWaited_thaws (by rw [hlane]; exact hrun)]
      split
      next hlow =>
        obtain ⟨hfrozen', hc0, hc1, halarm⟩ := State.windowRestored_spec (s := s) (t := t) k.val
        exact ⟨hfrozen', fun hhigh => absurd hlow (by omega), fun _ => ⟨hc0, hc1, halarm, State.windowRestored_evq k.val (.of_postSame hpost)⟩⟩
      next hhigh =>
        exact ⟨State.windowThawed_frozen k.val, fun _ => ⟨hheld.trans hthaw, (hframe.mono (by simp)).trans (State.windowThawed_frame k.val)⟩, fun hlow => absurd hlow hhigh⟩
    case adapts =>
      rw [State.afterWindow_adapting hen hdense hf]
      obtain ⟨hsteps, hsince, hfrozen', hframe'⟩ := State.windowAdapted_step (s := s) (t := t) (i := k.val) (c0 := c0) (c1 := c1) fom.isLt
      refine ⟨(hframe.mono (by simp)).trans hframe', hfrozen'.trans (hfrozen.trans hf), fun j hj => ?_, fun hrun => ?_, fun hrun => ?_⟩
      · rw [hsteps.1, hsteps.2, hsince]
        exact State.windowStepped_step k.val hheld hj
      · obtain ⟨hcoefs, hg0, hg1, hgood, hvalid, -⟩ := (s.windowStepped t k.val c0 c1).windowGood_spec k.val fom.isLt
        rw [State.windowAdapted_good (by rw [hlane]; exact hrun)]
        simp only [State.fld_setLane, State.flag_setLane, State.laneOf_setLane_same]
        exact ⟨hg0.trans hcoefs.1.symm, hg1.trans hcoefs.2.symm, hgood, hvalid, trivial⟩
      · have hgood {f : Fld} (hfld : f ∈ [F.laneGood k.val 0, F.laneGood k.val 1]) : (s.windowStepped t k.val c0 c1).fld f = s.fld f := by
          simp only [List.mem_cons, List.not_mem_nil, or_false] at hfld
          rcases hfld with rfl | rfl <;>
            rw [State.windowStepped_flds k.val _ (by simp [lane_names, Apart]), hflds _ (by simp [shownFlds, lane_names, Apart])]
        rw [State.windowAdapted_goes (by rw [hlane]; exact hrun)]
        simp only [State.fld_setLane, State.laneOf_setLane_same, State.windowMoved_run, hlane]
        exact ⟨hgood (by simp), hgood (by simp), trivial⟩
  case enable =>
    by_cases hsame : en = s.flag F.laneSlCtrl_enable
    · have hflag : (s.setFld F.laneSlCtrl_enable en.toNat).flag F.laneSlCtrl_enable = en :=
        (State.flag_setFld_same _ _ _ (by decide)).trans (flag_toNat en)
      exact ⟨_, exec_slEnable_same hm hr hsame, hflag, fun _ => ⟨(FldsBut.refl _ s).setFld _ (by simp) (by decide), (FrameBut.refl _ s).setFld _ _ (by simp)⟩,
        fun hne => absurd hsame hne⟩
    · obtain ⟨hflag, hdown, hsl, hwidth, hwas, hwasnot, hframe⟩ := s.slTurned_spec en
      refine ⟨_, exec_slEnable_turned hm hr hsame, hflag, fun he => absurd he hsame, fun _ => ⟨hdown, hsl, hwidth, hwas, hwasnot, fun j hj hen hb hln => ?_, hframe⟩⟩
      subst hen
      exact State.slTurned_wakes_judged hj hb hln
  case sync =>
    obtain ⟨hsame, hother, hshown, hup, hframe, hlane⟩ := s.syncBlock_spec x.toNat w.toNat stuff.toNat empty.toNat skew.toNat hen
    refine ⟨_, exec_slSyncBlock hen hln, hother, ?_⟩
    have hok := syncOk_iff w.isLt
    have hfollows := syncFollows_iff (s.slOf x.toNat) w.toNat
    have hno {p : Prop} (h : ¬ p) (hp : syncOk w.toNat = true ↔ p) : syncOk w.toNat = false := Bool.eq_false_iff.mpr fun hs => h (hp.mp hs)
    rw [hsame]
    refine ⟨fun h => (syncNext_search h).trans (if_congr hok rfl rfl), fun h => ⟨fun hbad => (syncNext_confirm h).1 (hno hbad hok), fun hsync => (syncNext_confirm h).2 (hok.mpr hsync)⟩,
      fun h hbad => syncNext_missed h (hno hbad hok), fun h hsync => (syncNext_framed h (hok.mpr hsync)).trans (if_congr (and_congr hfollows Iff.rfl) rfl rfl),
      fun h hsync => (syncNext_locked h (hok.mpr hsync)).trans (if_congr (and_congr ?_ Iff.rfl) rfl rfl), fun hsync h => ?_, hup, fun hsync => (hshown (hok.mpr hsync)).2,
      hframe, hlane⟩
    · rw [← hfollows, Bool.not_eq_true]
    · obtain ⟨hst, hix, hseq, hskew⟩ := syncNext_header (far := decide (skew.toNat > 2048)) h (hok.mpr hsync)
      exact ⟨hst, hix, hseq, (hshown (hok.mpr hsync)).1, hskew⟩

end Sys2Proof.Proofs
end

section
/-! What the role keeps: Mate's registers and state, and the states of the other channels, through the operations by which a part takes or gives control. -/

namespace Sys2Proof.Safety

open Sys2Proof.Machine

theorem FrameBut.ite {l : List Part} {s t u : State} {c : Prop} [Decidable c] (h : FrameBut l s t) (k : FrameBut l s u) : FrameBut l s (if c then t else u) := by
  split
  · exact h
  · exact k

end Sys2Proof.Safety

namespace Sys2Proof.Machine

open Sys2Proof.Safety

/-! ### The fields that say the role -/

/-- A field of Mate's registers. -/
def MateFld (f : Fld) : Prop := 0x600000 ≤ f.addr ∧ f.addr < 0x700000

/-- A field of Mate's registers, or the state of a channel other than c. -/
def RoleFld (c : Nat) (f : Fld) : Prop := MateFld f ∨ ∃ j, j < 256 ∧ j ≠ c ∧ f = F.pchSts_state j

/-- A field whose writing changes neither Mate's registers nor the state of a channel. -/
def Outside (g : Fld) : Prop := ∀ f, (MateFld f ∨ ∃ j, j < 256 ∧ f = F.pchSts_state j) → Apart g f

theorem outside_of_addr {g : Fld} (hmate : g.addr < 0x600000 ∨ 0x700000 ≤ g.addr) (hch : ∀ j, j < 256 → g.addr ≠ 0x1000004 + 0x4000 * j) : Outside g := by
  rintro f (⟨hlow, hhigh⟩ | ⟨j, hj, rfl⟩)
  · left; omega
  · left; exact (hch j hj).symm

/-- The role's fields, of which P says which, and Mate's state are as before. -/
structure RoleHeld (P : Fld → Prop) (s t : State) : Prop where
  mate : t.mate = s.mate
  fld : ∀ f, P f → t.fld f = s.fld f

/-- The states of all channels count. -/
def AllRole (f : Fld) : Prop := MateFld f ∨ ∃ j, j < 256 ∧ f = F.pchSts_state j

variable {P : Fld → Prop} {s t u : State}

theorem RoleHeld.refl (P : Fld → Prop) (s : State) : RoleHeld P s s := ⟨rfl, fun _ _ => rfl⟩

theorem RoleHeld.trans (h : RoleHeld P s t) (k : RoleHeld P t u) : RoleHeld P s u := ⟨k.mate.trans h.mate, fun f hf => (k.fld f hf).trans (h.fld f hf)⟩

theorem RoleHeld.mono {Q : Fld → Prop} (h : RoleHeld P s t) (hQ : ∀ f, Q f → P f) : RoleHeld Q s t := ⟨h.mate, fun f hf => h.fld f (hQ f hf)⟩

theorem RoleHeld.of_frame {l : List Part} (h : RoleHeld P s t) (hf : FrameBut l t u) (hr : .regs ∉ l) (hm : .mate ∉ l) : RoleHeld P s u :=
  ⟨(hf .mate hm).trans h.mate, fun f hP => (((FldsBut.refl [] t).of_frame hf hr) f (by simp)).trans (h.fld f hP)⟩

theorem RoleHeld.setFld (h : RoleHeld P s t) {g : Fld} (v : Nat) (hg : ∀ f, P f → Apart g f) (hw : g.lo + g.width ≤ 32) : RoleHeld P s (t.setFld g v) :=
  ⟨h.mate, fun f hf => (State.fld_setFld_other _ _ hw (hg f hf)).trans (h.fld f hf)⟩

theorem RoleHeld.foldl {α : Type} {f : State → α → State} (h : ∀ t x, RoleHeld P t (f t x)) (xs : List α) (s : State) : RoleHeld P s (xs.foldl f s) := by
  induction xs generalizing s with
  | nil => exact .refl P s
  | cons x xs ih => exact (h s x).trans (ih _)

theorem RoleHeld.post (h : RoleHeld P s t) (c : Nat) (d : List Nat) : RoleHeld P s (t.post c d) :=
  h.of_frame ((FrameBut.refl [.evq, .cnt, .mem] t).post c d (by simp)) (by decide) (by decide)

theorem RoleHeld.countN (h : RoleHeld P s t) (c : Ctr) (i j n : Nat) : RoleHeld P s (t.countN c i j n) :=
  h.of_frame ((FrameBut.refl [.cnt] t).countN c i j n (by simp)) (by decide) (by decide)

theorem RoleHeld.fab (h : RoleHeld P s t) (x : FabSt) : RoleHeld P s { t with fab := x } := ⟨h.mate, h.fld⟩
theorem RoleHeld.tim (h : RoleHeld P s t) (x : TimSt) : RoleHeld P s { t with tim := x } := ⟨h.mate, h.fld⟩
theorem RoleHeld.hal (h : RoleHeld P s t) (x : HalSt) : RoleHeld P s { t with hal := x } := ⟨h.mate, h.fld⟩
theorem RoleHeld.ds (h : RoleHeld P s t) (x : Table DsSt) : RoleHeld P s { t with ds := x } := ⟨h.mate, h.fld⟩
theorem RoleHeld.us (h : RoleHeld P s t) (x : Table UsSt) : RoleHeld P s { t with us := x } := ⟨h.mate, h.fld⟩
theorem RoleHeld.sht (h : RoleHeld P s t) (x : ShtSt) : RoleHeld P s { t with sht := x } := ⟨h.mate, h.fld⟩
theorem RoleHeld.emit (h : RoleHeld P s t) (o : Output) : RoleHeld P s (t.emit o) := ⟨h.mate, h.fld⟩
theorem RoleHeld.tell (h : RoleHeld P s t) (k c : Nat) (ws : List Nat) : RoleHeld P s (t.tell k c ws) := ⟨h.mate, h.fld⟩

/-! ### A port that is flushed (R210) -/

theorem State.popPool_frame {k x : Nat} (h : s.popPool k = some (t, x)) : FrameBut [.fab] s t := by
  unfold State.popPool at h
  dsimp only at h
  split at h
  · obtain ⟨rfl, -⟩ := Prod.mk.inj (Option.some.inj h)
    exact (FrameBut.refl _ s).fab _ (by simp)
  · split at h
    · obtain ⟨rfl, -⟩ := Prod.mk.inj (Option.some.inj h)
      exact (FrameBut.refl _ s).fab _ (by simp)
    · cases h

theorem State.grant_frame (s : State) (k ptr agent flow : Nat) : FrameBut [.fab] s (s.grant k ptr agent flow) :=
  ((FrameBut.refl _ s).fab _ (by simp)).fab _ (by simp)

theorem State.serve_frame (s : State) (k : Nat) : FrameBut [.fab] s (s.serve k) := by
  unfold State.serve
  split
  · exact .refl _ s
  · split
    · exact .refl _ s
    next w _ _ t x hpop =>
      have hgrant {u : State} (hu : FrameBut [.fab] s u) : FrameBut [.fab] s (u.grant k x w.agent (w.agent - 0x10000)) := hu.trans (u.grant_frame _ _ _ _)
      have htaken : FrameBut [.fab] s { t with fab := { t.fab with waiting := t.fab.waiting.erase w } } := (State.popPool_frame hpop).fab _ (by simp)
      dsimp only
      split
      · split
        · exact (hgrant htaken).fab _ (by simp)
        · exact (hgrant (htaken.fab _ (by simp))).fab _ (by simp)
      · split
        · exact hgrant htaken
        · exact hgrant (htaken.fab _ (by simp))

theorem State.pushPool_frame (s : State) (k ptr : Nat) : FrameBut [.fab] s (s.pushPool k ptr) := by
  unfold State.pushPool
  refine FrameBut.trans (FrameBut.ite (FrameBut.fab ?_ _ (by simp)) ?_) (State.serve_frame _ k)
  all_goals exact (FrameBut.fab (.refl _ s) _ (by simp)).fab _ (by simp)

theorem State.freeBuf_frame (s : State) (agent k ptr : Nat) (bad : Bool) : FrameBut [.fab, .evq, .cnt, .mem] s (s.freeBuf agent k ptr bad) := by
  have hpush (k : Nat) : FrameBut [.fab, .evq, .cnt, .mem] s (s.pushPool k ptr) := (s.pushPool_frame k ptr).mono (by simp)
  have hrefuse (c : Ctr) (e : Nat) (d : List Nat) : FrameBut [.fab, .evq, .cnt, .mem] s ((s.count c 0).post e d) :=
    ((FrameBut.refl _ s).count _ _ (by simp)).post _ _ (by simp)
  unfold State.freeBuf
  split
  · split
    · exact hpush 6
    · exact hrefuse _ _ _
  · split
    · exact hpush k
    · exact hrefuse _ _ _

/-- A stamp queue's status is outside the role. -/
theorem outside_tsqSts {n : Nat} (hn : n < 16) : Outside (F.timTsqSts_count n) ∧ Outside (F.timTsqSts_ovf n) :=
  ⟨outside_of_addr (by simp [F.timTsqSts_count]; omega) (by simp [F.timTsqSts_count]; omega),
    outside_of_addr (by simp [F.timTsqSts_ovf]; omega) (by simp [F.timTsqSts_ovf]; omega)⟩

theorem State.pushTsq_role (s : State) {n : Nat} (hn : n < 16) (status pos id : Nat) (x : Stamp) : RoleHeld AllRole s (s.pushTsq n status pos id x) := by
  obtain ⟨hcount, hovf⟩ := outside_tsqSts hn
  unfold State.pushTsq
  dsimp only
  split
  · exact (((RoleHeld.refl _ s).tim _).setFld _ hcount (by simp [F.timTsqSts_count])).countN _ _ _ _
  · split
    · exact (RoleHeld.refl _ s).countN _ _ _ _
    · exact (((RoleHeld.refl _ s).countN _ _ _ _).setFld _ hovf (by simp [F.timTsqSts_ovf])).post _ _

theorem State.dropped_role (s : State) (p : Pkt) : RoleHeld AllRole s (s.dropped p) := by
  unfold State.dropped
  split
  · split
    next h => exact s.pushTsq_role (by omega) _ _ _ _
    next => exact .refl _ s
  · exact .refl _ s

theorem State.pfcOfPkt_role (s : State) (p : Pkt) (room : Bool) : RoleHeld AllRole s (s.pfcOfPkt p room) := by
  unfold State.pfcOfPkt State.pfcCheck
  dsimp only
  split
  · split
    · exact .refl _ s
    · split
      · exact (((RoleHeld.refl _ s).sht _).emit _).countN _ _ _ _
      · split
        · exact (((RoleHeld.refl _ s).sht _).emit _).countN _ _ _ _
        · exact .refl _ s
  · exact .refl _ s

theorem State.flushQueue_role (s : State) (q : Nat) : RoleHeld AllRole s (s.flushQueue q).1 := by
  have hfree (t : State) (g : DSeg) : RoleHeld AllRole t (t.freeBuf (spillAgent q) g.pool g.ptr false) :=
    (RoleHeld.refl _ t).of_frame (t.freeBuf_frame _ _ _ _) (by decide) (by decide)
  have hdrop (t : State) (p : QPkt) : RoleHeld AllRole t ((t.dropped p.pkt).pfcOfPkt p.pkt false) := (t.dropped_role p.pkt).trans (State.pfcOfPkt_role _ _ _)
  exact (((RoleHeld.refl _ s).fab _).trans (.foldl hfree _ _)).trans (.foldl hdrop _ _)

theorem RoleHeld.foldl_fst {f : State × Nat → Nat → State × Nat} (h : ∀ a q, RoleHeld P a.1 (f a q).1) (l : List Nat) (a : State × Nat) :
    RoleHeld P a.1 (l.foldl f a).1 := by
  induction l generalizing a with
  | nil => exact .refl P _
  | cons q l ih => exact (h a q).trans (ih _)

theorem State.flushPort_role (s : State) (d : Nat) : RoleHeld AllRole s (s.flushPort d).1 := by
  have hqueues := RoleHeld.foldl_fst (f := fun a q => (let (t, k) := a.1.flushQueue q; (t, a.2 + k))) (fun a q => a.1.flushQueue_role q) (s.queuesOf d) (s, 0)
  unfold State.flushPort
  dsimp only
  split
  · exact (hqueues.trans (.foldl State.dropped_role _ _)).ds _
  · exact hqueues

/-! ### A channel that stands by (R303) -/

/-- Fields of a channel other than its status, and of Halyard, are outside the role. -/
theorem outside_pch {f : Fld} {c o : Nat} (h : f.addr = 0x1000000 + o + 0x4000 * c) (ho : o < 0x4000) (h4 : o ≠ 4) : Outside f :=
  outside_of_addr (by omega) (by omega)

theorem outside_laser (c : Nat) : Outside (F.pchSts_laser_on c) := by
  rintro f (⟨hlow, hhigh⟩ | ⟨j, hj, rfl⟩)
  · left; simp only [F.pchSts_laser_on]; omega
  · right; left; simp [F.pchSts_laser_on, F.pchSts_state]

theorem outside_hal {f : Fld} (h : 0x1400000 ≤ f.addr) : Outside f := outside_of_addr (by omega) (by omega)

theorem State.dropTells_role (s : State) (c : Nat) : RoleHeld AllRole s (s.dropTells c) := by
  have hshow (t : State) : RoleHeld AllRole t t.showTells := by
    have hset (t : State) (v w : Nat) : RoleHeld AllRole t ((t.setFld F.halTtSts_free v).setFld F.halTtSts_low_free w) :=
      ((RoleHeld.refl _ t).setFld _ (outside_hal (by decide)) (by decide)).setFld _ (outside_hal (by decide)) (by decide)
    unfold State.showTells
    dsimp only
    split
    · exact (hset t _ _).hal _
    · exact hset t _ _
  exact (((RoleHeld.refl _ s).hal _).countN _ _ _ _).trans (hshow _)

theorem State.flushPloam_role (s : State) (c : Nat) : RoleHeld AllRole s (s.flushPloam c) := by
  have hreturn (t : State) (m : Ploam) : RoleHeld AllRole t (t.returnPloam 1 c m) := (RoleHeld.refl _ t).tell _ _ _
  have hsts {f : Fld} (h : f.addr = 0x1000000 + 0x30 + 0x4000 * c) : Outside f := outside_pch h (by decide) (by decide)
  unfold State.flushPloam State.showPloam
  dsimp only
  exact RoleHeld.setFld (RoleHeld.setFld (RoleHeld.setFld (RoleHeld.ds (.foldl hreturn _ _) _) _ (hsts rfl) (by simp [F.pchPloamSts_urgent])) _ (hsts rfl)
    (by simp [F.pchPloamSts_unicast])) _ (hsts rfl) (by simp [F.pchPloamSts_broadcast])

theorem State.stopFraming_role (s : State) (c : Nat) : RoleHeld AllRole s (s.stopFraming c) := by
  have habort : RoleHeld AllRole s (if (s.dsOf c).rest.isSome then (s.count Cn.dsFragAbort c).setFld (F.pchDsAlm_frag_abort c) 1 else s) := by
    split
    · exact ((RoleHeld.refl _ s).countN _ _ _ _).setFld _ (outside_pch (c := c) (o := 0xC) rfl (by decide) (by decide)) (by simp [F.pchDsAlm_frag_abort])
    · exact .refl _ s
  have hhold (t : State) : RoleHeld AllRole t (t.setFld (F.halChSts_hold_len c) 0) :=
    (RoleHeld.refl _ t).setFld _ (outside_hal (by simp [F.halChSts_hold_len]; omega)) (by simp [F.halChSts_hold_len])
  unfold State.stopFraming
  refine RoleHeld.setFld (RoleHeld.trans (RoleHeld.us (RoleHeld.countN (RoleHeld.hal (RoleHeld.trans (RoleHeld.trans (RoleHeld.hal (RoleHeld.ds habort _) _)
    (State.dropTells_role _ c)) (hhold _)) _) _ _ _ _) _) (State.flushPloam_role _ c)) _ (outside_laser c) (by simp [F.pchSts_laser_on])

/-- Moving a channel changes its own state and its lanes'. -/
theorem State.moveCh_role (s : State) {c : Nat} (hc : c < 256) (st : Nat) : RoleHeld (RoleFld c) s (s.moveCh c st) := by
  have hlane {f : Fld} (h : 0x800000 ≤ f.addr) (h' : f.addr < 0x1000000) : ∀ g, RoleFld c g → Apart f g := by
    rintro g (⟨hlow, hhigh⟩ | ⟨j, hj, hne, rfl⟩)
    · left; omega
    · left; simp only [F.pchSts_state]; omega
  have hown : ∀ g, RoleFld c g → Apart (F.pchSts_state c) g := by
    rintro g (⟨hlow, hhigh⟩ | ⟨j, hj, hne, rfl⟩)
    · left; simp only [F.pchSts_state]; omega
    · left; simp only [F.pchSts_state]; omega
  exact ((((RoleHeld.refl _ s).setFld _ hown (by simp [F.pchSts_state])).setFld _
    (hlane (by simp [F.laneSts_state]; omega) (by simp [F.laneSts_state]; omega)) (by simp [F.laneSts_state])).setFld _
    (hlane (by simp [F.laneSts_state]; omega) (by simp [F.laneSts_state]; omega)) (by simp [F.laneSts_state])).post _ _

theorem AllRole.of_role {c : Nat} {f : Fld} : RoleFld c f → AllRole f
  | .inl h => .inl h
  | .inr ⟨j, hj, _, he⟩ => .inr ⟨j, hj, he⟩

theorem State.ch_moveCh (s : State) {c st : Nat} (hc : c < 256) (hst : st < 16) : (s.moveCh c st).ch c = st := by
  unfold State.moveCh State.putCh State.ch
  rw [State.post_fld_at, State.fld_setFld_other _ _ (by simp [F.laneSts_state]) (by left; simp only [F.laneSts_state, F.pchSts_state]; omega),
    State.fld_setFld_other _ _ (by simp [F.laneSts_state]) (by left; simp only [F.laneSts_state, F.pchSts_state]; omega),
    State.fld_setFld_same _ _ _ (by simp [F.pchSts_state])]
  simpa [F.pchSts_state] using hst

theorem RoleHeld.ch {c j : Nat} (h : RoleHeld (RoleFld c) s t) (hj : j < 256) (hne : j ≠ c) : t.ch j = s.ch j := h.fld _ (.inr ⟨j, hj, hne, rfl⟩)

theorem State.ch_setPort (s : State) (d c : Nat) (x : PortSt) : (s.setPort d x).ch c = s.ch c := (rfl)

/-- The channel in STANDBY, its port down, before the flush. -/
def State.stoodBy (s : State) (c : Nat) : State :=
  let t := (s.stopFraming c).setDs c { (s.stopFraming c).dsOf c with readyTimer := false, retryOk := false }
  (t.moveCh c chStandby).setPort c { s.portOf c with st := 2 }

/-- A channel that stands by is flushed. (The flush is made a variable before the operation is unfolded: the kernel would evaluate it.) -/
theorem State.standBy_eq (s : State) (c : Nat) : s.standBy c = ((s.stoodBy c).flushPort c).1.countN Cn.fabHoldFlush c 0 ((s.stoodBy c).flushPort c).2 := by
  obtain ⟨flush, hl⟩ : ∃ f, f = State.flushPort := exists_eq
  obtain ⟨f, hf⟩ : ∃ f, f = State.standBy := exists_eq
  rw [← hf, ← hl]
  delta State.standBy at hf
  rw [← hl] at hf
  rw [hf]
  rfl

theorem State.stoodBy_role (s : State) {c : Nat} (hc : c < 256) : RoleHeld (RoleFld c) s (s.stoodBy c) ∧ (s.stoodBy c).ch c = 4 := by
  have hframing (d : DsSt) : RoleHeld (RoleFld c) s ((s.stopFraming c).setDs c d) := ((s.stopFraming_role c).ds _).mono fun _ => AllRole.of_role
  refine ⟨((hframing _).trans (State.moveCh_role _ hc _)).fab _, ?_⟩
  rw [State.stoodBy, State.ch_setPort, State.ch_moveCh _ hc (by decide)]; rfl

/-- A channel that stands by touches neither Mate nor another channel's state. -/
theorem State.standBy_role (s : State) {c : Nat} (hc : c < 256) : RoleHeld (RoleFld c) s (s.standBy c) ∧ (s.standBy c).ch c = 4 := by
  obtain ⟨hstood, hch⟩ := s.stoodBy_role hc
  have hrest : RoleHeld AllRole (s.stoodBy c) (s.standBy c) := by
    rw [State.standBy_eq]
    exact (State.flushPort_role _ c).countN _ _ _ _
  exact ⟨hstood.trans (hrest.mono fun _ => AllRole.of_role), (hrest.fld _ (.inr ⟨c, hc, rfl⟩)).trans hch⟩

/-- A channel that runs or starts stands by. -/
def State.yield (s : State) (c : Nat) : State := if s.ch c = chRunning ∨ s.ch c = chStarting then s.standBy c else s

theorem State.yield_role (s : State) {c : Nat} (hc : c < 256) : RoleHeld (RoleFld c) s (s.yield c) ∧ (s.yield c).ch c ≠ 2 ∧ (s.yield c).ch c ≠ 3 := by
  unfold State.yield
  split
  · obtain ⟨hrole, hch⟩ := s.standBy_role hc
    exact ⟨hrole, by rw [hch]; decide, by rw [hch]; decide⟩
  next h =>
    obtain ⟨hrun, hstart⟩ := not_or.mp h
    exact ⟨.refl _ s, hstart, hrun⟩

/-- Channels that stand by one after the other. -/
theorem State.yield_foldl (l : List Nat) (hl : ∀ c ∈ l, c < 256) (s : State) : RoleHeld MateFld s (l.foldl State.yield s) ∧
    ∀ c, c < 256 → (c ∈ l ∨ (s.ch c ≠ 2 ∧ s.ch c ≠ 3)) → (l.foldl State.yield s).ch c ≠ 2 ∧ (l.foldl State.yield s).ch c ≠ 3 := by
  induction l generalizing s with
  | nil => exact ⟨.refl _ s, fun c _ h => h.resolve_left (by simp)⟩
  | cons x l ih =>
    obtain ⟨hrole, hch⟩ := s.yield_role (hl x (by simp))
    obtain ⟨hrest, hout⟩ := ih (fun c hc => hl c (List.mem_cons_of_mem _ hc)) (s.yield x)
    refine ⟨(hrole.mono fun _ => .inl).trans hrest, fun c hc h => hout c hc ?_⟩
    by_cases he : c = x
    · subst he; exact .inr hch
    · rw [hrole.ch hc he]
      exact h.imp_left fun hm => (List.mem_cons.mp hm).resolve_left he

/-- With the mate role standby no channel runs or starts. -/
theorem State.yieldAll_role (s : State) : RoleHeld MateFld s s.yieldAll ∧ ∀ c, c < 256 → s.yieldAll.ch c ≠ 2 ∧ s.yieldAll.ch c ≠ 3 := by
  obtain ⟨hrole, hch⟩ := State.yield_foldl (List.range 256) (fun c hc => List.mem_range.mp hc) s
  exact ⟨hrole, fun c hc => hch c hc (.inl (List.mem_range.mpr hc))⟩

end Sys2Proof.Machine
end

section
/-! Mate's pair states: the moves between them, and the part that enters ACTIVE. -/

namespace Sys2Proof.Machine

open Sys2Proof.Safety

/-! ### A part that becomes ACTIVE touches Mate's registers only where it shows its state (R303, R309) -/

variable {P : Fld → Prop} {s t u : State}

/-- A field behind Mate's registers, or before them, is apart from them. -/
theorem apart_mateFld {g : Fld} (h : g.addr < 0x600000 ∨ 0x700000 ≤ g.addr) : ∀ f, MateFld f → Apart g f := fun f hf => by
  obtain ⟨hlow, hhigh⟩ := hf
  left; omega

theorem RoleHeld.mate_of_all (h : RoleHeld AllRole s t) : RoleHeld MateFld s t := h.mono fun _ => .inl

theorem State.moveCh_mate (s : State) (c st : Nat) : RoleHeld MateFld s (s.moveCh c st) :=
  ((((RoleHeld.refl _ s).setFld _ (apart_mateFld (by simp [F.pchSts_state]; omega)) (by simp [F.pchSts_state])).setFld _
    (apart_mateFld (by simp [F.laneSts_state]; omega)) (by simp [F.laneSts_state])).setFld _ (apart_mateFld (by simp [F.laneSts_state]; omega))
    (by simp [F.laneSts_state])).post _ _

theorem State.standBy_mate (s : State) (c : Nat) : RoleHeld MateFld s (s.standBy c) := by
  have hframing (d : DsSt) : RoleHeld MateFld s ((s.stopFraming c).setDs c d) := ((s.stopFraming_role c).ds _).mate_of_all
  have hstood : RoleHeld MateFld s (s.stoodBy c) := ((hframing _).trans (State.moveCh_mate _ c _)).fab _
  rw [State.standBy_eq]
  exact hstood.trans (((State.flushPort_role _ c).countN _ _ _ _).mate_of_all)

theorem State.tryStart_mate (s : State) (c : Nat) : RoleHeld MateFld s (s.tryStart c) := by
  unfold State.tryStart
  split
  · split
    · exact s.standBy_mate c
    · exact ((RoleHeld.refl _ s).ds _).trans (State.moveCh_mate _ _ _)
  · exact .refl _ s

theorem State.leaveStandby_mate (s : State) (c : Nat) (at_ : Int) (f : MirFrame) : RoleHeld MateFld s (s.leaveStandby c at_ f) := by
  have hset {t : State} (h : RoleHeld MateFld s t) {g : Fld} (v : Nat) (hg : 0x700000 ≤ g.addr) (hw : g.lo + g.width ≤ 32) : RoleHeld MateFld s (t.setFld g v) :=
    h.setFld v (apart_mateFld (.inr hg)) hw
  unfold State.leaveStandby
  dsimp only
  refine RoleHeld.hal (RoleHeld.ds (hset (hset (hset (hset (hset (RoleHeld.fab (s.moveCh_mate c _) _) _ ?_ ?_) _ ?_ ?_) _ ?_ ?_) _ ?_ ?_) _ ?_ ?_) _) _
  all_goals simp [F.pchSts_laser_on, F.pchSfcLo_sfc, F.pchSfcHi_sfc, F.pchFstartSec_sec, F.pchFstartNs_ns]
  all_goals omega

theorem State.raiseCh_mate (at_ : Int) (s : State) (c : Nat) : RoleHeld MateFld s (s.raiseCh at_ c) := by
  unfold State.raiseCh
  split
  · split
    · exact s.leaveStandby_mate c at_ _
    · exact ((s.moveCh_mate c _).fab _).trans (State.tryStart_mate _ c)
  · exact .refl _ s

theorem State.toIdle_mate (s : State) (n : Nat) : RoleHeld MateFld s (s.toIdle n) := by
  have hmeas : RoleHeld MateFld s (s.endMeas n oAborted false) := by
    rcases hm : (s.onuOf n).meas with _ | m
    · rw [State.endMeas_of_none hm]; exact .refl _ s
    · obtain ⟨-, -, -, hframe⟩ := State.endMeas_spec hm oAborted false
      exact (RoleHeld.refl _ s).of_frame hframe (by decide) (by decide)
  exact hmeas.of_frame (State.setOnu_frame _ _ _) (by decide) (by decide)

theorem State.noteWrite_mate (s : State) (mem ix : Nat) : RoleHeld MateFld s (s.noteWrite mem ix) := by
  have hclean : RoleHeld MateFld s ((s.setPoison mem ix false).setFlip mem ix 0) :=
    (RoleHeld.refl _ s).of_frame (((FrameBut.refl [.mem] s).mem _ (by simp)).mem _ (by simp)) (by decide) (by decide)
  unfold State.noteWrite
  dsimp only
  split
  · refine RoleHeld.of_frame ?_ ((FrameBut.refl [.mem] _).mem _ (by simp)) (by decide) (by decide)
    exact (hclean.setFld _ (apart_mateFld (by decide)) (by decide)).setFld _ (apart_mateFld (by decide)) (by decide)
  · exact hclean

theorem State.showTx_mate (s : State) (p : Nat) : RoleHeld MateFld s (s.showTx p) :=
  ((RoleHeld.refl _ s).setFld _ (apart_mateFld (by simp [Fld.inst, F.shrPortSts_pn_thr_hit]; omega)) (by simp [Fld.inst, F.shrPortSts_pn_thr_hit])).setFld _
    (apart_mateFld (by simp [Fld.inst, F.shrPortSts_pn_exhausted]; omega)) (by simp [Fld.inst, F.shrPortSts_pn_exhausted])

theorem RoleHeld.shr (h : RoleHeld P s t) (x : ShrSt) : RoleHeld P s { t with shr := x } := ⟨h.mate, h.fld⟩

theorem State.writeCtx_mate (s : State) (kind ix : Nat) (x : Bool) (b : List Nat) : RoleHeld MateFld s (s.writeCtx kind ix x b) := by
  have hsa (rx : Bool) (a : Option SaSt) : RoleHeld MateFld s (s.setSa rx ix a) := (RoleHeld.refl _ s).of_frame (s.setSa_frame rx ix a) (by decide) (by decide)
  unfold State.writeCtx
  refine RoleHeld.shr (RoleHeld.trans ?_ (State.noteWrite_mate _ _ _)) _
  split
  · exact (hsa _ _).trans (State.showTx_mate _ _)
  · split
    · exact hsa _ _
    · split
      · exact (RoleHeld.refl _ s).shr _
      · exact (RoleHeld.refl _ s).shr _

theorem State.restoreBlob_mate (s : State) (b : List Nat) : RoleHeld MateFld s (s.restoreBlob b).1 := by
  unfold State.restoreBlob
  dsimp only
  split
  · exact .refl _ s
  · split
    · split
      · exact .refl _ s
      · exact s.writeCtx_mate _ _ _ _
    · split
      · exact .refl _ s
      · split
        · exact .refl _ s
        · split
          · exact .refl _ s
          · exact s.writeCtx_mate _ _ _ _

/-! ### The moves between the pair states (R302) -/

/-- Mate's registers and whether its heartbeat is valid are as before. -/
structure PairHeld (s t : State) : Prop where
  hb : t.mate.hbValid = s.mate.hbValid
  fld : ∀ f, MateFld f → t.fld f = s.fld f

theorem PairHeld.trans (h : PairHeld s t) (k : PairHeld t u) : PairHeld s u := ⟨k.hb.trans h.hb, fun f hf => (k.fld f hf).trans (h.fld f hf)⟩

theorem RoleHeld.pair (h : RoleHeld MateFld s t) : PairHeld s t := ⟨congrArg MateSt.hbValid h.mate, h.fld⟩

theorem State.takeKeys_pair (s : State) (p : Nat → Bool) : PairHeld s (s.takeKeys p) := by
  have hstart (l : List (Nat × List Nat)) : PairHeld s { s with mate := { s.mate with heldKeys := l } } := ⟨rfl, fun _ _ => rfl⟩
  have hrest (t : State) (l : List (Nat × List Nat)) : RoleHeld MateFld t (l.foldl (fun (t : State) x => (t.restoreBlob x.2).1) t) :=
    .foldl (fun t x => t.restoreBlob_mate x.2) l t
  exact (hstart _).trans (hrest _ _).pair

/-- A part that enters ACTIVE, once it has moved there. -/
theorem State.enterActive_pair (s : State) : PairHeld (s.movePair 4) s.enterActive := by
  have hraise (at_ : Int) (t : State) : RoleHeld MateFld t ((List.range 256).foldl (fun (t : State) c => t.raiseCh at_ c) t) := .foldl (State.raiseCh_mate at_) _ t
  have hidle (l : List Nat) (t : State) : RoleHeld MateFld t (l.foldl (fun (t : State) n => t.toIdle n) t) := .foldl State.toIdle_mate l t
  have hfresh (t : State) (x : FwdSt) (y : HalSt) : RoleHeld MateFld t { t with fwd := x, hal := y } := ⟨rfl, fun _ _ => rfl⟩
  exact ((State.takeKeys_pair _ _).trans (((hfresh _ _ _).trans (hraise _ _)).trans (hidle _ _)).pair)

end Sys2Proof.Machine
end

section
/-! Mate's moves, messages and switch-overs: what each shared operation does to the pair state. -/

namespace Sys2Proof.Machine

open Sys2Proof.Safety

variable (s : State) {t u : State}

/-! ### A move of the pair state (R302, R313, R316) -/

/-- The fields that a move of the pair state writes. -/
def moveFlds : List Fld := [F.mateSts_state, F.mateSts_undecided, F.mateSts_wtr_running]

/-- Mate's state once a move has forgotten what it waits for. -/
def MateSt.moved (m : MateSt) (st : Nat) : MateSt := if st = 3 then { m with syncGot := false } else { m with syncGot := false, wtr := none, revert := false }

theorem State.stopWtr_spec : s.stopWtr.mate = { s.mate with wtr := none, revert := false } ∧ s.stopWtr.flag F.mateSts_wtr_running = false ∧
    FldsBut [F.mateSts_wtr_running] s s.stopWtr ∧ FrameBut [.regs, .mate] s s.stopWtr := by
  refine ⟨rfl, ?_, ((FldsBut.refl _ s).mate _).setFld _ (by simp) (by decide), ((FrameBut.refl _ s).mate _ (by simp)).setFld _ _ (by simp)⟩
  rw [State.stopWtr, State.flag_setFld_same _ _ _ (by decide)]
  decide

/-- The part in a pair state, before the event. -/
def State.pairPut (st : Nat) : State :=
  let t := (s.setFld F.mateSts_state st).setFld F.mateSts_undecided 0
  { t with mate := { t.mate with syncGot := false } }

theorem State.movePair_eq (st : Nat) : s.movePair st = if st = 3 then (s.pairPut st).post 0x0701 [st] else (s.pairPut st).stopWtr.post 0x0701 [st] := by
  unfold State.movePair
  exact apply_ite (fun t : State => t.post 0x0701 [st]) (st = mpStandby) _ _

theorem State.pairPut_flds (st : Nat) : FldsBut moveFlds s (s.pairPut st) :=
  (((FldsBut.refl _ s).setFld _ (by simp [moveFlds]) (by decide)).setFld _ (by simp [moveFlds]) (by decide)).mate _

theorem State.pairPut_frame (st : Nat) : FrameBut [.regs, .mate] s (s.pairPut st) :=
  (((FrameBut.refl _ s).setFld _ _ (by simp)).setFld _ _ (by simp)).mate _ (by simp)

theorem State.pairPut_pair {st : Nat} (h : st < 16) : (s.pairPut st).pair = st := by
  have hset : ((s.setFld F.mateSts_state st).setFld F.mateSts_undecided 0).fld F.mateSts_state = st := by
    rw [State.fld_setFld_other _ _ (by decide) (by decide), State.fld_setFld_same _ _ _ (by decide)]
    exact Nat.mod_eq_of_lt h
  exact hset

theorem State.movePair_flds (st : Nat) : FldsBut moveFlds s (s.movePair st) := by
  obtain ⟨-, -, hflds, -⟩ := (s.pairPut st).stopWtr_spec
  rw [State.movePair_eq]
  split
  · exact (s.pairPut_flds st).post_ _ _
  · exact ((s.pairPut_flds st).trans (hflds.mono (by simp [moveFlds]))).post_ _ _

theorem State.movePair_frame (st : Nat) : FrameBut [.regs, .mate, .evq, .cnt, .mem] s (s.movePair st) := by
  obtain ⟨-, -, -, hframe⟩ := (s.pairPut st).stopWtr_spec
  rw [State.movePair_eq]
  split
  · exact ((s.pairPut_frame st).mono (by simp)).post _ _ (by simp)
  · exact (((s.pairPut_frame st).trans hframe).mono (by simp)).post _ _ (by simp)

theorem State.movePair_pair {st : Nat} (h : st < 16) : (s.movePair st).pair = st := by
  obtain ⟨-, -, hflds, -⟩ := (s.pairPut st).stopWtr_spec
  refine Eq.trans ?_ (s.pairPut_pair h)
  rw [State.movePair_eq]
  split
  · exact State.post_fld_at _ _ _ _
  · exact (State.post_fld_at _ _ _ _).trans (hflds _ (by simp [Apart, F.mateSts_wtr_running, F.mateSts_state]))

theorem State.movePair_mate (st : Nat) : (s.movePair st).mate = s.mate.moved st := by
  rw [State.movePair_eq, MateSt.moved]
  split
  · rw [State.post_mate]; rfl
  · rw [State.post_mate]; rfl

theorem MateSt.moved_keeps (m : MateSt) (st : Nat) : (m.moved st).hbValid = m.hbValid ∧ (m.moved st).handover = m.handover ∧ (m.moved st).wasActive = m.wasActive ∧
    (m.moved st).evidence = m.evidence ∧ (m.moved st).frames = m.frames := by
  unfold MateSt.moved; split <;> exact ⟨rfl, rfl, rfl, rfl, rfl⟩

/-! ### Messages sent (R292, R306) -/

variable {s}

theorem State.sendStay_up (h : s.linkUp = true) (typ : Nat) (blocks : List Nat) : s.sendStay typ blocks = (s.sentStay typ blocks).count Cn.slMsgTx 0 := if_pos h

/-- A message sent while the link is up, counted by its kind. -/
theorem State.sendStay_spec (h : s.linkUp = true) (typ : Nat) (blocks : List Nat) (c : Ctr) (i : Nat) : let t := (s.sendStay typ blocks).count c i
    t.out = s.out ++ [.stay typ s.mate.seqTx blocks] ∧ t.mate = { s.mate with seqTx := (s.mate.seqTx + 1) % 2 ^ 32 } ∧ FrameBut [.cnt, .mate, .out] s t := by
  dsimp only
  rw [State.sendStay_up h]
  refine ⟨by rw [State.count_out, State.count_out]; rfl, by rw [State.count_mate, State.count_mate]; rfl, ?_⟩
  exact ((((FrameBut.refl _ s).mate _ (by simp)).emit _ (by simp)).count _ _ (by simp)).count _ _ (by simp)

/-- Asking for a bulk sync changes of Mate's state the sequence number only. -/
theorem State.syncReqOut_spec (s : State) : FrameBut [.cnt, .mate, .out] s s.syncReqOut ∧ s.syncReqOut.mate = { s.mate with seqTx := s.syncReqOut.mate.seqTx } := by
  unfold State.syncReqOut
  split
  next h =>
    obtain ⟨-, hmate, hframe⟩ := State.sendStay_spec h 0x17 [0] Cn.mateMsgTx 0x17
    exact ⟨hframe, by rw [hmate]⟩
  next => exact ⟨.refl _ s, rfl⟩

/-- A part that enters SYNCING. -/
theorem State.toSyncing_spec (s : State) : s.toSyncing.pair = 2 ∧ FldsBut moveFlds s s.toSyncing ∧ FrameBut [.regs, .mate, .evq, .cnt, .mem, .out] s s.toSyncing ∧
    s.toSyncing.mate.hbValid = s.mate.hbValid ∧ s.toSyncing.mate.handover = s.mate.handover ∧ s.toSyncing.mate.frames = s.mate.frames := by
  obtain ⟨hframe, hmate⟩ := (s.movePair 2).syncReqOut_spec
  have hflds : FldsBut [] (s.movePair 2) s.toSyncing := (FldsBut.refl _ _).of_frame hframe (by decide)
  obtain ⟨hhb, hhand, -, -, hframes⟩ := s.mate.moved_keeps 2
  have hkeep : s.toSyncing.mate = { s.mate.moved 2 with seqTx := s.toSyncing.mate.seqTx } := by rw [← s.movePair_mate 2]; exact hmate
  refine ⟨(hflds _ (by simp)).trans (s.movePair_pair (by decide)), (s.movePair_flds 2).trans (hflds.mono (by simp)),
    ((s.movePair_frame 2).mono (by simp)).trans (hframe.mono (by simp)), ?_, ?_, ?_⟩
  · rw [hkeep]; exact hhb
  · rw [hkeep]; exact hhand
  · rw [hkeep]; exact hframes

/-! ### A switch-over into ACTIVE (R303, R309) -/

theorem mateFld_sts {f : Fld} (h : f.addr = 0x600000 ∨ f.addr = 0x600004 ∨ f.addr = 0x600018 ∨ f.addr = 0x60001C) : MateFld f := by
  unfold MateFld; omega

theorem State.enterActive_spec (s : State) : s.enterActive.pair = 4 ∧ s.enterActive.mate.hbValid = s.mate.hbValid := by
  obtain ⟨hhb, hfld⟩ := s.enterActive_pair
  exact ⟨(hfld _ (mateFld_sts (.inr (.inl rfl)))).trans (s.movePair_pair (by decide)), hhb.trans (by rw [s.movePair_mate 4]; exact (s.mate.moved_keeps 4).1)⟩

/-- The fields that a switch-over shows. -/
def lastFlds : List Fld := [F.mateLast_cause, F.mateLast_frames, F.mateLast_time_us]

/-- The frames not sent that a switch-over tells: one where it was planned. -/
def State.lostFrames (t : State) (cause : Nat) : Nat := if decide (4 ≤ cause) && decide (cause ≤ 7) then 1 else t.free 4

/-- MATE_LAST written. -/
def State.lastShown (t : State) (cause frames us : Nat) : State := ((t.setFld F.mateLast_cause cause).setFld F.mateLast_frames frames).setFld F.mateLast_time_us us

/-- What a switch-over tells of itself. -/
def State.switchTold (t : State) (cause frames us : Nat) (late : List Nat) : State :=
  let t := t.lastShown cause frames us
  ({ t with mate := { t.mate with awaiting := late, handover := none } }.countN Cn.mateSwitchover 0 cause 1).post 0x0702 ([cause, frames] ++ maskWords late)

theorem State.lastShown_spec (t : State) (cause frames us : Nat) : (t.lastShown cause frames us).fld F.mateLast_cause = cause % 16 ∧
    (t.lastShown cause frames us).fld F.mateLast_frames = frames % 16 ∧ FldsBut lastFlds t (t.lastShown cause frames us) := by
  refine ⟨?_, ?_, (((FldsBut.refl _ t).setFld _ (by simp [lastFlds]) (by decide)).setFld _ (by simp [lastFlds]) (by decide)).setFld _ (by simp [lastFlds]) (by decide)⟩
  · rw [State.lastShown, State.fld_setFld_other _ _ (by decide) (by decide), State.fld_setFld_other _ _ (by decide) (by decide), State.fld_setFld_same _ _ _ (by decide)]
    rfl
  · rw [State.lastShown, State.fld_setFld_other _ _ (by decide) (by decide), State.fld_setFld_same _ _ _ (by decide)]
    rfl

theorem State.fld_withMate (s : State) (x : MateSt) (f : Fld) : ({ s with mate := x }).fld f = s.fld f := (rfl)

theorem State.switchTold_spec (t : State) (cause frames us : Nat) (late : List Nat) : let u := t.switchTold cause frames us late
    u.fld F.mateLast_cause = cause % 16 ∧ u.fld F.mateLast_frames = frames % 16 ∧ u.mate = { t.mate with awaiting := late, handover := none } ∧
    FldsBut lastFlds t u := by
  obtain ⟨hcause, hframes, hflds⟩ := t.lastShown_spec cause frames us
  have hfld (f : Fld) : (t.switchTold cause frames us late).fld f = (t.lastShown cause frames us).fld f := by
    rw [State.switchTold, State.post_fld_at, State.countN_fld_at, State.fld_withMate]
  refine ⟨(hfld _).trans hcause, (hfld _).trans hframes, ?_, fun f hf => (hfld f).trans (hflds f hf)⟩
  rw [State.switchTold, State.post_mate, State.countN_mate, State.lastShown]
  simp only [State.setFld_mate]

/-- A switch-over is an entry to ACTIVE that tells its cause. -/
theorem State.switchOver_eq (s : State) (cause : Nat) : ∃ v us late, (v = s.enterActive ∨ v = s.enterActive.tickFree) ∧
    s.switchOver cause = v.switchTold cause (s.enterActive.lostFrames cause) us late := by
  unfold State.switchOver
  generalize s.enterActive = t
  refine ⟨if decide (4 ≤ cause) && decide (cause ≤ 7) then t else t.tickFree, _, _, ?_, rfl⟩
  split
  · exact .inl rfl
  · exact .inr rfl

theorem State.switchOver_spec (s : State) (cause : Nat) : (s.switchOver cause).pair = 4 ∧ (s.switchOver cause).fld F.mateLast_cause = cause % 16 ∧
    (4 ≤ cause → cause ≤ 7 → (s.switchOver cause).fld F.mateLast_frames = 1) ∧ (s.switchOver cause).mate.handover = none ∧
    (s.switchOver cause).mate.hbValid = s.mate.hbValid := by
  obtain ⟨hpair, hhb⟩ := s.enterActive_spec
  obtain ⟨v, us, late, hv, heq⟩ := s.switchOver_eq cause
  obtain ⟨hcause, hframes, hmate, hflds⟩ := v.switchTold_spec cause (s.enterActive.lostFrames cause) us late
  have hvpair : v.pair = 4 := by rcases hv with rfl | rfl <;> exact hpair
  have hvhb : v.mate.hbValid = s.mate.hbValid := by rcases hv with rfl | rfl <;> exact hhb
  rw [heq]
  refine ⟨(hflds _ (by simp [lastFlds, Apart, F.mateLast_cause, F.mateLast_frames, F.mateLast_time_us, F.mateSts_state])).trans hvpair, hcause, fun hlow hhigh => ?_,
    by rw [hmate], by rw [hmate]; exact hvhb⟩
  rw [hframes, State.lostFrames, if_pos (by simp [hlow, hhigh])]

/-! ### A planned switch-over (R311) -/

/-- The frame boundary found is at or after the instant asked for. -/
theorem State.framesTo_le {s : State} (hinc : 0 < s.incTbu) (boundary at_ : Int) : at_ ≤ boundary + s.frames64 (s.framesTo boundary at_) := by
  have hpos : (0 : Int) < ((78125 * s.incTbu : Nat) : Int) := by omega
  unfold State.framesTo
  dsimp only
  split
  next h =>
    have hnonneg (k : Nat) : 0 ≤ s.frames64 k := Int.natCast_nonneg _
    have hd : 0 < at_ - boundary := by have := hnonneg ((at_ - boundary) * 2 ^ 26 / ((78125 * s.incTbu : Nat) : Int)).toNat; omega
    obtain ⟨d, hd'⟩ := Int.eq_ofNat_of_zero_le hd.le
    have hk : ((at_ - boundary) * 2 ^ 26 / ((78125 * s.incTbu : Nat) : Int)).toNat = d * 2 ^ 26 / (78125 * s.incTbu) := by
      rw [hd']; exact Int.toNat_natCast _
    have hlt : d * 2 ^ 26 < (d * 2 ^ 26 / (78125 * s.incTbu) + 1) * (78125 * s.incTbu) := (Nat.div_lt_iff_lt_mul (by omega)).mp (Nat.lt_succ_self _)
    have hle : d ≤ (d * 2 ^ 26 / (78125 * s.incTbu) + 1) * 78125 * s.incTbu / 2 ^ 26 := by
      rw [Nat.le_div_iff_mul_le (by decide), Nat.mul_assoc]; exact hlt.le
    have hcast : (d : Int) ≤ s.frames64 (d * 2 ^ 26 / (78125 * s.incTbu) + 1) := Int.ofNat_le.mpr hle
    rw [hk]
    omega
  next h => exact not_lt.mp h

/-- The instant of a planned switch-over, in 1/64 ns: the first frame boundary of a channel that runs at least 250 µs ahead. -/
def State.handoverAt (s : State) : Int :=
  match (List.range 256).find? (fun c => decide (s.ch c = chRunning)) with
  | some c =>
    (s.near32 (s.fld (F.pchFstartSec_sec c)) * 1000000000 + (s.fld (F.pchFstartNs_ns c) : Int)) * 64 +
      s.frames64 (s.framesTo ((s.near32 (s.fld (F.pchFstartSec_sec c)) * 1000000000 + (s.fld (F.pchFstartNs_ns c) : Int)) * 64) (s.now64 + 250000 * 64))
  | none => s.now64 + 250000 * 64

theorem State.le_handoverAt {s : State} (hinc : 0 < s.incTbu) : s.now64 + 250000 * 64 ≤ s.handoverAt := by
  unfold State.handoverAt
  split
  · exact State.framesTo_le hinc _ _
  · exact le_refl _

/-- The switch-over that a part plans to give. -/
def State.planned (s : State) (cause : Nat) : Handover :=
  { cause := cause, sec := (s.handoverAt / 64 / 1000000000).toNat, ns := (s.handoverAt / 64 % 1000000000).toNat, giving := true }

/-- The words that tell the mate of it. -/
def State.plannedWord (s : State) : Nat := (s.handoverAt / 64 / 1000000000).toNat % 2 ^ 32 * 2 ^ 32 + (s.handoverAt / 64 % 1000000000).toNat

theorem State.startHandover_eq (s : State) (cause : Nat) : s.startHandover cause =
    let t := (s.sendStay 0x16 [s.plannedWord]).count Cn.mateMsgTx 0x16
    { t with mate := { t.mate with handover := some (s.planned cause) } } := (rfl)

/-- The instant told is at least 250 µs ahead, to the nanosecond. -/
theorem State.planned_ahead {s : State} (hinc : 0 < s.incTbu) (cause : Nat) :
    s.now64 + 250000 * 64 < (((s.planned cause).sec * 1000000000 + (s.planned cause).ns + 1) * 64 : Nat) := by
  have hle := State.le_handoverAt hinc
  have hnow : 0 ≤ s.now64 := Int.natCast_nonneg _
  unfold State.planned
  dsimp only
  omega

theorem State.planned_ns (s : State) (cause : Nat) : (s.planned cause).ns < 1000000000 := by
  unfold State.planned
  dsimp only
  omega

theorem State.startHandover_spec {s : State} (h : s.linkUp = true) (cause : Nat) : (s.startHandover cause).mate.handover = some (s.planned cause) ∧
    (s.startHandover cause).mate.hbValid = s.mate.hbValid ∧
    (s.startHandover cause).out = s.out ++ [.stay 0x16 s.mate.seqTx [(s.planned cause).sec % 2 ^ 32 * 2 ^ 32 + (s.planned cause).ns]] ∧
    FrameBut [.cnt, .mate, .out] s (s.startHandover cause) := by
  obtain ⟨hout, hmate, hframe⟩ := State.sendStay_spec h 0x16 [s.plannedWord] Cn.mateMsgTx 0x16
  rw [State.startHandover_eq]
  exact ⟨rfl, by dsimp only; rw [hmate], hout, hframe.mate _ (by simp)⟩

end Sys2Proof.Machine
end

section
/-! Mate's commands: messages received, heartbeats, contests, and the commands of MATE_CMD. -/

namespace Sys2Proof.Machine

open Sys2Proof.Safety

variable {s : State}

/-! ### A heartbeat sent (R293) -/

theorem exec_heartbeatSend_idle (h : s.rig.run.mate.pairEn = false ∨ s.linkUp = false) : exec .heartbeatSend s = .next s :=
  congrArg Host.Outcome.next (if_neg (by rcases h with h | h <;> simp [h]))

theorem heartbeatSend_sends (hp : s.rig.run.mate.pairEn = true) (hl : s.linkUp = true) : let n := (s.mate.hbCount + 1) % 2 ^ 32
    ∃ t, exec .heartbeatSend s = .next t ∧ t.out = s.out ++ [.stay 1 s.mate.seqTx [s.pair * 2 ^ 56 + s.rig.run.mate.prec * 2 ^ 48 + s.epoch * 2 ^ 32 + s.mate.seqRx.getD 0,
        n * 2 ^ 32 + s.mate.revert.toNat * 2 ^ 31 + s.tim.ns]] ∧
      t.mate = { s.mate with seqTx := (s.mate.seqTx + 1) % 2 ^ 32, hbCount := n } ∧ FrameBut [.cnt, .mate, .out] s t := by
  intro n
  obtain ⟨hout, hmate, hframe⟩ := State.sendStay_spec hl 0x01 [s.pair * 2 ^ 56 + s.rig.run.mate.prec * 2 ^ 48 + s.epoch * 2 ^ 32 + s.mate.seqRx.getD 0,
    n * 2 ^ 32 + s.mate.revert.toNat * 2 ^ 31 + s.tim.ns] Cn.mateHbTx 0
  refine ⟨_, congrArg Host.Outcome.next (if_pos (by simp [hp, hl])), hout, ?_, hframe.mate _ (by simp)⟩
  dsimp only
  rw [hmate]

/-! ### A message received (R292) -/

/-- The state once a message in sequence is taken. -/
def State.received (s : State) (h : MsgHdr) : State := { s with mate := { s.mate with seqRx := some h.seq } }.count Cn.slMsgRx 0

theorem State.mateRx_down (h : s.linkUp = false) (hdr : MsgHdr) (f : State → State) : s.mateRx hdr f = .next s := if_pos (by simp [h])

theorem State.mateRx_badTag (hl : s.linkUp = true) {hdr : MsgHdr} (h : hdr.tagOk = false) (hp : s.pair ≠ 3) (f : State → State) :
    s.mateRx hdr f = .next ((s.count Cn.slTagErr 0).setFld F.laneSlAlm_tag_err 1) := by
  unfold State.mateRx
  rw [if_neg (by simp [hl]), if_pos (by simp [h])]
  exact congrArg Host.Outcome.next (if_neg hp)

theorem State.mateRx_inOrder {hdr : MsgHdr} (h : MsgInOrder s hdr) (f : State → State) : s.mateRx hdr f = .next (f (s.received hdr)) := by
  obtain ⟨hl, htag, htyp, hseq⟩ := h
  unfold State.mateRx
  rw [if_neg (by simp [hl]), if_neg (by simp [htag]), if_neg (by simp [htyp])]
  rcases hrx : s.mate.seqRx with _ | p
  · rfl
  · have hnext : decide (hdr.seq ≠ (p + 1) % 2 ^ 32) = false := by simp [hseq p hrx]
    dsimp only
    rw [hnext]
    rfl

theorem State.received_mate (hdr : MsgHdr) : (s.received hdr).mate = { s.mate with seqRx := some hdr.seq } := State.count_mate ..

theorem State.received_frame (hdr : MsgHdr) : FrameBut [.cnt, .mate] s (s.received hdr) := ((FrameBut.refl _ s).mate _ (by simp)).count _ _ (by simp)

/-! ### A heartbeat received (R293, R302, R304) -/

/-- What a heartbeat tells of the mate. -/
def State.heard (s : State) (h : Heartbeat) : State :=
  let t := (s.count Cn.mateHbRx 0).setFld F.mateHb_seq h.count
  let t := (t.setFld F.mateSts_mate_state h.st).setFld F.mateSts_mate_prec h.prec
  { t with mate := { t.mate with hbValid := true, mateEpoch := h.epoch, mateRevert := h.revert, epochSaid := t.mate.epochSaid && decide (h.epoch ≠ t.epoch) } }

theorem exec_heartbeatReceived_idle {h : Heartbeat} (hx : s.rig.run.mate.pairEn = false ∨ s.linkUp = false) : exec (.heartbeatReceived h) s = .next s := by
  rcases hp : s.rig.run.mate.pairEn
  · exact if_pos (by simp [hp])
  · exact (if_neg (by simp [hp])).trans (State.mateRx_down (hx.resolve_left (by simp [hp])) _ _)

theorem exec_heartbeatReceived_badTag {h : Heartbeat} (hp : s.rig.run.mate.pairEn = true) (hl : s.linkUp = true) (ht : h.hdr.tagOk = false) (hq : s.pair ≠ 3) :
    exec (.heartbeatReceived h) s = .next ((s.count Cn.slTagErr 0).setFld F.laneSlAlm_tag_err 1) :=
  (if_neg (by simp [hp])).trans (State.mateRx_badTag hl ht hq _)

theorem exec_heartbeatReceived {h : Heartbeat} (hp : s.rig.run.mate.pairEn = true) (ho : MsgInOrder s h.hdr) :
    exec (.heartbeatReceived h) s = .next (((s.received h.hdr).heard h).heed h) := (if_neg (by simp [hp])).trans (State.mateRx_inOrder ho _)

/-- The fields that a heartbeat writes. -/
def heardFlds : List Fld := [F.mateSts_mate_state, F.mateSts_mate_prec, F.mateHb_seq]

theorem State.heard_spec (s : State) (h : Heartbeat) : (s.heard h).fld F.mateSts_mate_state = h.st % 16 ∧ (s.heard h).fld F.mateSts_mate_prec = h.prec % 256 ∧
    (s.heard h).fld F.mateHb_seq = h.count % 2 ^ 16 ∧ FldsBut heardFlds s (s.heard h) ∧ FrameBut [.regs, .cnt, .mate] s (s.heard h) := by
  refine ⟨?_, ?_, ?_, ?_, ?_⟩
  · rw [State.heard, State.fld_withMate, State.fld_setFld_other _ _ (by decide) (by decide), State.fld_setFld_same _ _ _ (by decide)]; rfl
  · rw [State.heard, State.fld_withMate, State.fld_setFld_same _ _ _ (by decide)]; rfl
  · rw [State.heard, State.fld_withMate, State.fld_setFld_other _ _ (by decide) (by decide), State.fld_setFld_other _ _ (by decide) (by decide),
      State.fld_setFld_same _ _ _ (by decide)]; rfl
  · exact ((((FldsBut.refl _ s).of_regs (State.count_regs ..)).setFld _ (by simp [heardFlds]) (by decide)).setFld _ (by simp [heardFlds]) (by decide)).setFld _
      (by simp [heardFlds]) (by decide) |>.mate _
  · exact (((((FrameBut.refl _ s).count _ _ (by simp)).setFld _ _ (by simp)).setFld _ _ (by simp)).setFld _ _ (by simp)).mate _ (by simp)

theorem State.heard_mate (s : State) (h : Heartbeat) : (s.heard h).mate.hbValid = true ∧ (s.heard h).mate.mateEpoch = h.epoch ∧
    (s.heard h).mate.seqRx = s.mate.seqRx ∧ (s.heard h).mate.handover = s.mate.handover := by
  have hkeep : ((((s.count Cn.mateHbRx 0).setFld F.mateHb_seq h.count).setFld F.mateSts_mate_state h.st).setFld F.mateSts_mate_prec h.prec).mate = s.mate := by
    simp only [State.setFld_mate, State.count_mate]
  unfold State.heard
  dsimp only
  rw [hkeep]
  exact ⟨rfl, rfl, rfl, rfl⟩

/-- What a heartbeat in sequence leaves before the pair state heeds it. -/
structure HeardIn (s : State) (h : Heartbeat) (t : State) : Prop where
  mateState : t.fld F.mateSts_mate_state = h.st % 16
  matePrec : t.fld F.mateSts_mate_prec = h.prec % 256
  hbSeq : t.fld F.mateHb_seq = h.count % 2 ^ 16
  hb : t.mate.hbValid = true
  epoch : t.mate.mateEpoch = h.epoch
  seqRx : t.mate.seqRx = some h.hdr.seq
  handover : t.mate.handover = s.mate.handover
  flds : FldsBut heardFlds s t
  frame : FrameBut [.regs, .cnt, .mate] s t

theorem State.heardIn (s : State) (h : Heartbeat) : HeardIn s h ((s.received h.hdr).heard h) := by
  obtain ⟨hst, hprec, hseq, hflds, hframe⟩ := (s.received h.hdr).heard_spec h
  obtain ⟨hhb, hepoch, hrx, hhand⟩ := (s.received h.hdr).heard_mate h
  have hmate := State.received_mate (s := s) h.hdr
  refine ⟨hst, hprec, hseq, hhb, hepoch, hrx.trans (by rw [hmate]), hhand.trans (by rw [hmate]), ?_, ((State.received_frame h.hdr).mono (by simp)).trans hframe⟩
  exact ((FldsBut.refl _ s).of_frame (State.received_frame h.hdr) (by decide)).trans hflds

section
variable {h : Heartbeat} {t : State} (hin : HeardIn s h t)
include hin

theorem HeardIn.pair : t.pair = s.pair := hin.flds _ (by simp [heardFlds, Apart, F.mateSts_mate_state, F.mateSts_mate_prec, F.mateHb_seq, F.mateSts_state])

theorem HeardIn.lockout : t.lockout = s.lockout := by
  unfold State.lockout State.flag
  rw [hin.flds _ (by simp [heardFlds, Apart, F.mateSts_mate_state, F.mateSts_mate_prec, F.mateHb_seq, F.mateSts_lockout])]

theorem HeardIn.linkUp : t.linkUp = s.linkUp := by
  unfold State.linkUp State.flag
  rw [hin.flds _ (by simp [heardFlds, Apart, F.mateSts_mate_state, F.mateSts_mate_prec, F.mateHb_seq, F.laneSlSts_link_up])]

theorem HeardIn.prec : t.rig.run.mate.prec = s.rig.run.mate.prec := by rw [hin.frame .rig (by decide)]

end

/-! What a heartbeat makes of the pair state, by the state it finds. -/

section
variable {h : Heartbeat}

theorem State.heed_seeking (hq : s.pair = 1) : s.heed h = if h.st = 4 then s.toSyncing else if h.st = 1 ∧ h.prec = s.rig.run.mate.prec then s.mismatched 1
    else if h.st = 1 ∧ h.prec < s.rig.run.mate.prec ∧ s.lockout = false then s.enterActive else s := if_pos hq

theorem State.heed_standby (hq : s.pair = 3) : s.heed h = if h.st = 7 ∧ s.lockout = false then s.switchOver 3 else s :=
  (if_neg (by rw [hq]; decide)).trans (if_pos hq)

theorem State.heed_contested (hq : s.pair = 5) : s.heed h = if h.st = 4 then s.toSyncing else s.movePair 1 :=
  (if_neg (by rw [hq]; decide)).trans ((if_neg (by rw [hq]; decide)).trans (if_pos hq))

theorem State.heed_active (hq : s.pair = 4) : s.heed h = if h.revert = true ∧ s.mayGive = true then s.startHandover 5 else s := by
  refine (if_neg (by rw [hq]; decide)).trans ((if_neg (by rw [hq]; decide)).trans ((if_neg (by rw [hq]; decide)).trans ?_))
  simp [hq, mpActive]

theorem State.heed_other (h1 : s.pair ≠ 1) (h3 : s.pair ≠ 3) (h5 : s.pair ≠ 5) (h4 : s.pair ≠ 4) : s.heed h = s :=
  (if_neg h1).trans ((if_neg h3).trans ((if_neg h5).trans (if_neg fun hg => h4 hg.1)))

theorem State.mismatched_seeking (hq : s.pair = 1) (why : Nat) : (s.mismatched why).pair = 6 ∧ (s.mismatched why).mate.hbValid = s.mate.hbValid := by
  have heq : s.mismatched why = (s.movePair 6).post 0x0707 [Config.eventWord 0x0707 why] := if_pos (.inl hq)
  rw [heq, State.post_mate, s.movePair_mate 6]
  exact ⟨(State.post_fld_at _ _ _ _).trans (s.movePair_pair (by decide)), (s.mate.moved_keeps 6).1⟩

theorem State.mayGive_iff : s.mayGive = true ↔ s.pair = 4 ∧ s.mate.hbValid = true ∧ s.mateLast = 3 ∧ s.mate.handover = none ∧ s.linkUp = true := by
  simp only [State.mayGive, Bool.and_eq_true, decide_eq_true_eq, Option.isNone_iff_eq_none, and_assoc]
  rfl

/-- The pair state after a heartbeat on a part in SEEKING. -/
theorem State.heed_seeking_spec (hq : s.pair = 1) : (s.heed h).mate.hbValid = s.mate.hbValid ∧ (s.heed h).pair = if h.st = 4 then 2
    else if h.st = 1 ∧ h.prec = s.rig.run.mate.prec then 6 else if h.st = 1 ∧ h.prec < s.rig.run.mate.prec ∧ s.lockout = false then 4 else 1 := by
  rw [State.heed_seeking hq]
  split
  · obtain ⟨hpair, -, -, hhb, -⟩ := s.toSyncing_spec
    exact ⟨hhb, hpair⟩
  · split
    · exact (State.mismatched_seeking hq 1).symm
    · split
      · exact s.enterActive_spec.symm
      · exact ⟨rfl, hq⟩

theorem State.heed_contested_spec (hq : s.pair = 5) : (s.heed h).mate.hbValid = s.mate.hbValid ∧ (s.heed h).pair = if h.st = 4 then 2 else 1 := by
  rw [State.heed_contested hq]
  split
  · obtain ⟨hpair, -, -, hhb, -⟩ := s.toSyncing_spec
    exact ⟨hhb, hpair⟩
  · rw [s.movePair_mate 1]
    exact ⟨(s.mate.moved_keeps 1).1, s.movePair_pair (by decide)⟩

end

theorem State.startHandover_pair (h : s.linkUp = true) (cause : Nat) : (s.startHandover cause).pair = s.pair :=
  ((FldsBut.refl [] s).of_frame (State.startHandover_spec h cause).2.2.2 (by decide)) _ (by simp)

/-- What a heartbeat in sequence does. -/
theorem heartbeatReceived_heeds {h : Heartbeat} (hp : s.rig.run.mate.pairEn = true) (ho : MsgInOrder s h.hdr) :
    ∃ t, exec (.heartbeatReceived h) s = .next t ∧ t.mate.hbValid = true ∧
      (s.pair = 0 ∨ s.pair = 2 ∨ s.pair = 6 → t.fld F.mateSts_mate_state = h.st % 16 ∧ t.fld F.mateSts_mate_prec = h.prec % 256 ∧ t.fld F.mateHb_seq = h.count % 2 ^ 16 ∧
        t.mate.mateEpoch = h.epoch ∧ t.mate.seqRx = some h.hdr.seq ∧ FldsBut [F.mateSts_mate_state, F.mateSts_mate_prec, F.mateHb_seq] s t ∧ FrameBut [.regs, .cnt, .mate] s t) ∧
      (s.pair = 1 → t.pair = if h.st = 4 then 2 else if h.st = 1 ∧ h.prec = s.rig.run.mate.prec then 6
        else if h.st = 1 ∧ h.prec < s.rig.run.mate.prec ∧ s.lockout = false then 4 else 1) ∧
      (s.pair = 3 → (h.st = 7 ∧ s.lockout = false → t.pair = 4 ∧ t.fld F.mateLast_cause = 3) ∧ (¬ (h.st = 7 ∧ s.lockout = false) → t.pair = 3 ∧ FrameBut [.regs, .cnt, .mate] s t)) ∧
      (s.pair = 5 → t.pair = if h.st = 4 then 2 else 1) ∧
      (s.pair = 4 → t.pair = 4 ∧ (h.revert = true → h.st = 3 → s.mate.handover = none → ∃ o, t.mate.handover = some o ∧ o.cause = 5 ∧ o.giving = true) ∧
        (h.revert = false → t.mate.handover = s.mate.handover ∧ FrameBut [.regs, .cnt, .mate] s t)) := by
  have hin := s.heardIn h
  refine ⟨_, exec_heartbeatReceived hp ho, ?_⟩
  generalize (s.received h.hdr).heard h = u at hin
  have hpair := hin.pair
  have hlock := hin.lockout
  have hprec := hin.prec
  by_cases h1 : s.pair = 1
  · obtain ⟨hhb, hto⟩ := State.heed_seeking_spec (h := h) (hpair.trans h1)
    rw [hlock, hprec] at hto
    exact ⟨hhb.trans hin.hb, fun hq => absurd hq (by omega), fun _ => hto, fun hq => absurd hq (by omega), fun hq => absurd hq (by omega), fun hq => absurd hq (by omega)⟩
  by_cases h3 : s.pair = 3
  · rw [State.heed_standby (hpair.trans h3), hlock]
    split
    next hgo =>
      obtain ⟨hto, hcause, -, -, hhb⟩ := u.switchOver_spec 3
      exact ⟨hhb.trans hin.hb, fun hq => absurd hq (by omega), fun hq => absurd hq h1, fun _ => ⟨fun _ => ⟨hto, hcause⟩, fun hno => absurd hgo hno⟩,
        fun hq => absurd hq (by omega), fun hq => absurd hq (by omega)⟩
    next hno =>
      exact ⟨hin.hb, fun hq => absurd hq (by omega), fun hq => absurd hq h1, fun _ => ⟨fun hgo => absurd hgo hno, fun _ => ⟨hpair.trans h3, hin.frame⟩⟩,
        fun hq => absurd hq (by omega), fun hq => absurd hq (by omega)⟩
  by_cases h5 : s.pair = 5
  · obtain ⟨hhb, hto⟩ := State.heed_contested_spec (h := h) (hpair.trans h5)
    exact ⟨hhb.trans hin.hb, fun hq => absurd hq (by omega), fun hq => absurd hq h1, fun hq => absurd hq h3, fun _ => hto, fun hq => absurd hq (by omega)⟩
  by_cases h4 : s.pair = 4
  · rw [State.heed_active (hpair.trans h4)]
    split
    next hgive =>
      obtain ⟨hrevert, hmay⟩ := hgive
      obtain ⟨-, -, -, -, hup⟩ := State.mayGive_iff.mp hmay
      obtain ⟨hhand, hhb, -, hframe⟩ := State.startHandover_spec hup 5
      exact ⟨hhb.trans hin.hb, fun hq => absurd hq (by omega), fun hq => absurd hq h1, fun hq => absurd hq h3, fun hq => absurd hq h5,
        fun _ => ⟨(State.startHandover_pair hup 5).trans (hpair.trans h4), fun _ _ _ => ⟨_, hhand, rfl, rfl⟩, fun hno => absurd hrevert (by simp [hno])⟩⟩
    next hno =>
      refine ⟨hin.hb, fun hq => absurd hq (by omega), fun hq => absurd hq h1, fun hq => absurd hq h3, fun hq => absurd hq h5,
        fun _ => ⟨hpair.trans h4, fun hrevert hst hnone => absurd ⟨hrevert, ?_⟩ hno, fun _ => ⟨hin.handover, hin.frame⟩⟩⟩
      exact State.mayGive_iff.mpr ⟨hpair.trans h4, hin.hb, hin.mateState.trans (by rw [hst]), hin.handover.trans hnone, hin.linkUp.trans ho.1⟩
  · rw [State.heed_other (hpair ▸ h1) (hpair ▸ h3) (hpair ▸ h5) (hpair ▸ h4)]
    exact ⟨hin.hb, fun _ => ⟨hin.mateState, hin.matePrec, hin.hbSeq, hin.epoch, hin.seqRx, hin.flds, hin.frame⟩, fun hq => absurd hq h1, fun hq => absurd hq h3,
      fun hq => absurd hq h5, fun hq => absurd hq h4⟩

end Sys2Proof.Machine
end

section
/-! Mate's commands: the loss of the heartbeat, contests, MATE_CMD and the planned switch-over. -/

namespace Sys2Proof.Machine

open Sys2Proof.Safety

variable {s : State}

/-! ### The loss of the heartbeat (R304, R305) -/

/-- An enabled channel holds an ACTIVE context. -/
def State.quietless (s : State) : Bool :=
  (List.range 256).any (fun c => s.flag (F.pchCtrl_enable c) && s.onu.any (fun x => decide (x.2.chan = c) && decide (x.2.st = 4)))

/-- The part is ACTIVE or STANDBY. -/
def State.owns (s : State) : Bool := decide (s.pair = mpActive) || decide (s.pair = mpStandby)

/-- The part keeps or takes control as the mate falls silent. -/
def State.keepsControl (s : State) : Bool :=
  s.owns && !s.lockout && (!(decide (s.mateLast = mpActive) || decide (s.mateLast = mpStandby)) || decide (s.fld F.mateSts_mate_prec < s.rig.run.mate.prec))

/-- The loss counted and what was known at it kept. -/
def State.hbLost (s : State) : State :=
  let t := s.setFld F.mateHb_lost (s.fld F.mateHb_lost + s.rig.run.mate.hbMiss)
  { t with mate := { t.mate with hbValid := false, wasActive := s.owns, evidence := s.quietless } }

theorem exec_heartbeatLoss_idle (h : s.mate.hbValid = false ∨ s.pair = 0 ∨ 5 ≤ s.pair) : exec .heartbeatLoss s = .next s := by
  refine if_pos (h.imp_right ?_)
  simp only [mpSeeking, mpSyncing, mpStandby, mpActive]
  omega

theorem exec_heartbeatLoss (hv : s.mate.hbValid = true) (h1 : 1 ≤ s.pair) (h4 : s.pair ≤ 4) : exec .heartbeatLoss s =
    if s.keepsControl then
      (if s.pair = 4 then .next (s.hbLost.post 0x0703 [Config.eventWord 0x0703 1]) else .next ((s.hbLost.post 0x0703 [Config.eventWord 0x0703 0]).switchOver 1))
    else .next (if s.pair = 4 then ((s.hbLost.movePair mpContested).post 0x0703 [Config.eventWord 0x0703 2]).yieldAll
      else (s.hbLost.movePair mpContested).post 0x0703 [Config.eventWord 0x0703 2]) := by
  refine if_neg ?_
  simp only [hv, mpSeeking, mpSyncing, mpStandby, mpActive, reduceCtorEq, false_or, not_not]
  omega

theorem State.owns_iff : s.owns = true ↔ s.pair = 3 ∨ s.pair = 4 := by
  simp only [State.owns, Bool.or_eq_true, decide_eq_true_eq]
  exact or_comm

theorem State.keepsControl_iff : s.keepsControl = true ↔
    (s.pair = 3 ∨ s.pair = 4) ∧ s.lockout = false ∧ ((s.mateLast ≠ 3 ∧ s.mateLast ≠ 4) ∨ s.fld F.mateSts_mate_prec < s.rig.run.mate.prec) := by
  have hmate : (!(decide (s.mateLast = mpActive) || decide (s.mateLast = mpStandby))) = true ↔ s.mateLast ≠ 3 ∧ s.mateLast ≠ 4 := by
    rw [Bool.not_eq_true', Bool.or_eq_false_iff, decide_eq_false_iff_not, decide_eq_false_iff_not]
    exact and_comm
  rw [State.keepsControl, Bool.and_eq_true, Bool.and_eq_true, State.owns_iff, Bool.or_eq_true, hmate, Bool.not_eq_true', decide_eq_true_eq, and_assoc]

theorem State.quietless_iff : s.quietless = true ↔ ∃ c, c < 256 ∧ s.flag (F.pchCtrl_enable c) = true ∧ ∃ x ∈ s.onu, x.2.chan = c ∧ x.2.st = 4 := by
  simp only [State.quietless, List.any_eq_true, List.mem_range, Bool.and_eq_true, decide_eq_true_eq]

theorem State.hbLost_spec (s : State) : s.hbLost.fld F.mateHb_lost = (s.fld F.mateHb_lost + s.rig.run.mate.hbMiss) % 2 ^ 16 ∧ FldsBut [F.mateHb_lost] s s.hbLost ∧
    FrameBut [.regs, .mate] s s.hbLost ∧ PostSame s s.hbLost ∧ s.hbLost.mate = { s.mate with hbValid := false, wasActive := s.owns, evidence := s.quietless } := by
  refine ⟨?_, ((FldsBut.refl _ s).setFld _ (by simp) (by decide)).mate _, ((FrameBut.refl _ s).setFld _ _ (by simp)).mate _ (by simp),
    ((PostSame.refl s).setFld _ _ (by decide) (by decide) (by decide) (by decide)).mate _, by rw [State.hbLost, State.setFld_mate]⟩
  rw [State.hbLost, State.fld_withMate, State.fld_setFld_same _ _ _ (by decide)]
  rfl

/-- The contest that follows when the part does not take control. -/
theorem State.contested_spec (s : State) : let t := (s.hbLost.movePair mpContested).post 0x0703 [Config.eventWord 0x0703 2]
    t.pair = 5 ∧ t.mate.hbValid = false ∧ t.mate.wasActive = s.owns ∧ t.mate.evidence = s.quietless ∧ FrameBut [.regs, .mate, .evq, .cnt, .mem] s t := by
  obtain ⟨-, -, hframe, -, hmate⟩ := s.hbLost_spec
  obtain ⟨hhb, -, hwas, hev, -⟩ := s.hbLost.mate.moved_keeps 5
  have hmoved : ((s.hbLost.movePair mpContested).post 0x0703 [Config.eventWord 0x0703 2]).mate = s.hbLost.mate.moved 5 :=
    (State.post_mate ..).trans (s.hbLost.movePair_mate 5)
  refine ⟨(State.post_fld_at _ _ _ _).trans (s.hbLost.movePair_pair (by decide)), ?_, ?_, ?_, ((hframe.mono (by simp)).trans (s.hbLost.movePair_frame 5)).post _ _ (by simp)⟩
  · rw [hmoved, hhb, hmate]
  · rw [hmoved, hwas, hmate]
  · rw [hmoved, hev, hmate]

/-! ### A contest (R302, R305) -/

theorem exec_contestTakeover_idle (h : ¬ (s.pair = 5 ∧ s.mate.wasActive = true ∧ s.lockout = false ∧ s.mate.evidence = true ∧ s.flag F.laneSlSts_present = false)) :
    exec .contestTakeover s = .next s := if_neg h

theorem exec_contestTakeover (h : s.pair = 5 ∧ s.mate.wasActive = true ∧ s.lockout = false ∧ s.mate.evidence = true ∧ s.flag F.laneSlSts_present = false) :
    exec .contestTakeover s = .next (s.switchOver 2) := if_pos h

/-- Neither part decides, which is told once. -/
theorem State.undecided_spec (s : State) : (s.flag F.mateSts_undecided = true → s.undecided = s) ∧ (s.flag F.mateSts_undecided = false →
    s.undecided.flag F.mateSts_undecided = true ∧ Posted s s.undecided 0x0704 [] ∧ FldsBut [F.mateSts_undecided] s s.undecided ∧
      FrameBut [.regs, .evq, .cnt, .mem] s s.undecided) := by
  refine ⟨fun h => if_pos h, fun h => ?_⟩
  rw [State.undecided, if_neg (by simp [h])]
  refine ⟨?_, .of_post ((PostSame.refl s).setFld _ _ (by decide) (by decide) (by decide) (by decide)) _ _, ((FldsBut.refl _ s).setFld _ (by simp) (by decide)).post_ _ _,
    ((FrameBut.refl _ s).setFld _ _ (by simp)).post _ _ (by simp)⟩
  rw [State.post_flag_at, State.flag_setFld_same _ _ _ (by decide)]
  decide

theorem exec_timeout {x : Instr} (h : (x = .contestTimeout ∧ s.pair = 5) ∨ (x = .seekTimeout ∧ s.pair = 1 ∧ s.flag F.laneSlSts_present = false)) :
    exec x s = .next s.undecided := by
  rcases h with ⟨rfl, h⟩ | ⟨rfl, h⟩
  · exact congrArg Host.Outcome.next (if_pos h)
  · exact congrArg Host.Outcome.next (if_pos h)

theorem exec_contestTimeout_idle (h : s.pair ≠ 5) : exec .contestTimeout s = .next s := congrArg Host.Outcome.next (if_neg h)

theorem exec_seekTimeout_idle (h : s.pair ≠ 1 ∨ s.flag F.laneSlSts_present = true) : exec .seekTimeout s = .next s := by
  refine congrArg Host.Outcome.next (if_neg ?_)
  rintro ⟨hq, hp⟩
  exact h.elim (fun hne => hne hq) fun hon => by simp [hp] at hon

/-! ### Commands of MATE_CMD (R405) -/

theorem State.mateRun_idle {m : Master} (h : mayWrite m = false ∨ s.released 7 = false ∨ s.flag F.mateCmd_busy = true) (f : State → State × Nat) :
    s.mateRun m f = .next s := if_neg (by rcases h with h | h | h <;> simp [h])

/-- What a command of MATE_CMD makes of the state, and its result. -/
def mateCmd (s : State) : Instr → State × Nat
  | .manual _ b => if s.pair ≠ mpActive then (s, mrBadState) else if !s.mayGive then (s, mrNotReady) else if b then (s, mrLockedOut)
      else ((s.startHandover 4).setFld F.mateCmd_busy 1, mrCompleted)
  | .forceActive _ => if s.mate.hbValid ∧ s.mateLast = mpActive then (s, mrBadState) else if s.pair = mpActive then (s, mrCompleted) else (s.switchOver 8, mrCompleted)
  | .lockoutSet _ => if s.pair = mpActive then if s.mayGive then ((s.setFld F.mateSts_lockout 1).startHandover 7, mrCompleted) else (s, mrNotReady)
      else (s.stopWtr.setFld F.mateSts_lockout 1, mrCompleted)
  | .lockoutClr _ => (s.setFld F.mateSts_lockout 0, mrCompleted)
  | .resync _ => if s.pair = mpStandby then (s.resync, mrCompleted) else (s, mrBadState)
  | .revertNow _ => if s.mate.wtr.isSome then (s.askRevert, mrCompleted) else (s, mrBadState)
  | _ => (s, 0)

/-- The commands of MATE_CMD. -/
def mateCmds (m : Master) (b : Bool) : List Instr := [.manual m b, .forceActive m, .lockoutSet m, .lockoutClr m, .resync m, .revertNow m]

theorem exec_mateCmds {m : Master} {b : Bool} {x : Instr} (hx : x ∈ mateCmds m b) : exec x s = s.mateRun m (mateCmd · x) := by
  simp only [mateCmds, List.mem_cons, List.not_mem_nil, or_false] at hx
  rcases hx with rfl | rfl | rfl | rfl | rfl | rfl <;> rfl

theorem State.mateRun_runs {m : Master} (hm : mayWrite m = true) (hr : s.released 7 = true) (hb : s.flag F.mateCmd_busy = false) {f : State → State × Nat} {t : State} {r : Nat}
    (h : f s = (t, r)) : s.mateRun m f = .next (t.setFld F.mateCmd_result r) := by
  unfold State.mateRun
  rw [if_pos ⟨hm, hr, hb⟩, h]

/-- The command ends with a result and changes nothing else. -/
def MateEnds (s : State) (x : Instr) (r : Nat) : Prop :=
  ∃ t, exec x s = .next t ∧ t.fld F.mateCmd_result = r ∧ FldsBut [F.mateCmd_result] s t ∧ FrameBut [.regs] s t

theorem State.fld_mateResult (s : State) {r : Nat} (h : r < 8) : (s.setFld F.mateCmd_result r).fld F.mateCmd_result = r := by
  rw [State.fld_setFld_same _ _ _ (by decide)]; exact Nat.mod_eq_of_lt h

theorem State.mateResult_flds (s : State) (r : Nat) : FldsBut [F.mateCmd_result] s (s.setFld F.mateCmd_result r) := (FldsBut.refl _ s).setFld _ (by simp) (by decide)

section
variable {m : Master} {b : Bool} {x : Instr} (hx : x ∈ mateCmds m b) (hm : mayWrite m = true) (hr : s.released 7 = true) (hb : s.flag F.mateCmd_busy = false)
include hx hm hr hb

/-- A command of MATE_CMD that runs shows its result. -/
theorem exec_mateCmd {t : State} {r : Nat} (h : mateCmd s x = (t, r)) : exec x s = .next (t.setFld F.mateCmd_result r) :=
  (exec_mateCmds hx).trans (State.mateRun_runs hm hr hb h)

theorem MateEnds.of_cmd {r : Nat} (h : mateCmd s x = (s, r)) (hlt : r < 8) : MateEnds s x r :=
  ⟨_, exec_mateCmd hx hm hr hb h, s.fld_mateResult hlt, s.mateResult_flds r, (FrameBut.refl _ s).setFld _ _ (by simp)⟩

end

/-! What each command does, by the state that it finds. -/

section
variable {m : Master} {b : Bool}

theorem mateCmd_manual_badState (hq : s.pair ≠ 4) : mateCmd s (.manual m b) = (s, 2) := if_pos hq

theorem mateCmd_manual_notReady (hq : s.pair = 4) (hg : s.mayGive = false) : mateCmd s (.manual m b) = (s, 1) :=
  (if_neg (not_not.mpr hq)).trans (if_pos (by rw [hg]; rfl))

theorem mateCmd_manual_gives (hq : s.pair = 4) (hg : s.mayGive = true) :
    mateCmd s (.manual m b) = if b then (s, 3) else ((s.startHandover 4).setFld F.mateCmd_busy 1, 0) :=
  (if_neg (not_not.mpr hq)).trans (if_neg (by rw [hg]; decide))

theorem mateCmd_lockoutSet_active (hq : s.pair = 4) :
    mateCmd s (.lockoutSet m) = if s.mayGive then ((s.setFld F.mateSts_lockout 1).startHandover 7, 0) else (s, 1) := if_pos hq

theorem mateCmd_lockoutSet_notActive (hq : s.pair ≠ 4) : mateCmd s (.lockoutSet m) = (s.stopWtr.setFld F.mateSts_lockout 1, 0) := if_neg hq

theorem mateCmd_forceActive_badState (h : s.mate.hbValid = true ∧ s.mateLast = 4) : mateCmd s (.forceActive m) = (s, 2) := if_pos h

theorem mateCmd_forceActive (h : ¬ (s.mate.hbValid = true ∧ s.mateLast = 4)) :
    mateCmd s (.forceActive m) = if s.pair = 4 then (s, 0) else (s.switchOver 8, 0) := if_neg h

theorem mateCmd_resync : mateCmd s (.resync m) = if s.pair = 3 then (s.resync, 0) else (s, 2) := (rfl)

theorem mateCmd_revertNow : mateCmd s (.revertNow m) = if s.mate.wtr.isSome then (s.askRevert, 0) else (s, 2) := (rfl)

end

/-- A field of Mate's registers other than the command's result keeps its value as the result is shown. -/
theorem State.fld_result_other (s : State) (r : Nat) {f : Fld}
    (h : f.addr ≠ F.mateCmd_result.addr ∨ f.lo + f.width ≤ F.mateCmd_result.lo ∨ F.mateCmd_result.lo + F.mateCmd_result.width ≤ f.lo) :
    (s.setFld F.mateCmd_result r).fld f = s.fld f := State.fld_setFld_other _ _ (by decide) h

theorem State.pair_result (s : State) (r : Nat) : (s.setFld F.mateCmd_result r).pair = s.pair := s.fld_result_other r (by decide)

theorem State.lockout_result (s : State) (r : Nat) : (s.setFld F.mateCmd_result r).lockout = s.lockout := by
  rw [State.lockout, State.flag, s.fld_result_other r (by decide), State.lockout, State.flag]

/-- MANUAL that starts a planned switch-over. -/
theorem manual_gives (s : State) (hl : s.linkUp = true) : let t := ((s.startHandover 4).setFld F.mateCmd_busy 1).setFld F.mateCmd_result 0
    t.flag F.mateCmd_busy = true ∧ t.fld F.mateCmd_result = 0 ∧ t.mate.handover = some (s.planned 4) ∧ t.out = s.out ++ [.stay 0x16 s.mate.seqTx [(s.planned 4).sec % 2 ^ 32 * 2 ^ 32 + (s.planned 4).ns]] ∧
      FldsBut [F.mateCmd_busy, F.mateCmd_result] s t ∧ FrameBut [.regs, .cnt, .mate, .out] s t := by
  obtain ⟨hhand, -, hout, hframe⟩ := State.startHandover_spec hl 4
  refine ⟨?_, State.fld_mateResult _ (by decide), ?_, ?_, ?_, ((hframe.mono (by simp)).setFld _ _ (by simp)).setFld _ _ (by simp)⟩
  · rw [State.flag, State.fld_result_other _ _ (by decide), ← State.flag, State.flag_setFld_same _ _ _ (by decide)]
    decide
  · rw [State.setFld_mate, State.setFld_mate, hhand]
  · rw [State.setFld_out, State.setFld_out, hout]
  · exact (((FldsBut.refl _ s).of_frame hframe (by decide)).setFld _ (by simp) (by decide)).setFld _ (by simp) (by decide)

/-- LOCKOUT_SET on a part that gives the pair over. -/
theorem lockoutSet_gives (s : State) (hl : s.linkUp = true) : let t := ((s.setFld F.mateSts_lockout 1).startHandover 7).setFld F.mateCmd_result 0
    ∃ o, t.fld F.mateCmd_result = 0 ∧ t.lockout = true ∧ t.mate.handover = some o ∧ o.cause = 7 ∧ o.giving = true ∧
      FldsBut [F.mateCmd_result, F.mateSts_lockout] s t ∧ FrameBut [.regs, .cnt, .mate, .out] s t := by
  have hup : (s.setFld F.mateSts_lockout 1).linkUp = true := by
    rw [← hl, State.linkUp, State.linkUp, State.flag_setFld_other _ _ (by decide) (by decide)]
  obtain ⟨hhand, -, -, hframe⟩ := State.startHandover_spec hup 7
  refine ⟨_, State.fld_mateResult _ (by decide), ?_, (State.setFld_mate ..).symm ▸ hhand, rfl, rfl, ?_, (((FrameBut.refl _ s).setFld _ _ (by simp)).trans (hframe.mono (by simp))).setFld _ _ (by simp)⟩
  · have hshown : (s.setFld F.mateSts_lockout 1).lockout = true := by
      rw [State.lockout, State.flag_setFld_same _ _ _ (by decide)]
      decide
    rw [State.lockout_result, ← hshown]
    unfold State.lockout State.flag
    rw [((FldsBut.refl [] _).of_frame hframe (by decide)) F.mateSts_lockout (by simp)]
  · exact (((FldsBut.refl _ s).setFld _ (by simp) (by decide)).of_frame hframe (by decide)).setFld _ (by simp) (by decide)

/-- LOCKOUT_SET on a part that is not ACTIVE. -/
theorem lockoutSet_notActive (s : State) : let t := (s.stopWtr.setFld F.mateSts_lockout 1).setFld F.mateCmd_result 0
    t.fld F.mateCmd_result = 0 ∧ t.lockout = true ∧ t.mate = { s.mate with wtr := none, revert := false } ∧ t.flag F.mateSts_wtr_running = false ∧
      FldsBut [F.mateCmd_result, F.mateSts_lockout, F.mateSts_wtr_running] s t ∧ FrameBut [.regs, .mate] s t := by
  obtain ⟨hmate, hwtr, hflds, hframe⟩ := s.stopWtr_spec
  refine ⟨State.fld_mateResult _ (by decide), ?_, ?_, ?_, ?_, (hframe.setFld _ _ (by simp)).setFld _ _ (by simp)⟩
  · rw [State.lockout_result, State.lockout, State.flag_setFld_same _ _ _ (by decide)]
    decide
  · rw [State.setFld_mate, State.setFld_mate, hmate]
  · rw [State.flag_setFld_other _ _ (by decide) (by decide), State.flag_setFld_other _ _ (by decide) (by decide), hwtr]
  · exact ((hflds.mono (by simp)).setFld _ (by simp) (by decide)).setFld _ (by simp) (by decide)

/-- LOCKOUT_CLR. -/
theorem lockoutClr_clears (s : State) : let t := (s.setFld F.mateSts_lockout 0).setFld F.mateCmd_result 0
    t.fld F.mateCmd_result = 0 ∧ t.lockout = false ∧ FldsBut [F.mateCmd_result, F.mateSts_lockout] s t ∧ FrameBut [.regs] s t := by
  refine ⟨State.fld_mateResult _ (by decide), ?_, ((FldsBut.refl _ s).setFld _ (by simp) (by decide)).setFld _ (by simp) (by decide),
    ((FrameBut.refl _ s).setFld _ _ (by simp)).setFld _ _ (by simp)⟩
  rw [State.lockout_result, State.lockout, State.flag_setFld_same _ _ _ (by decide)]
  decide

/-- A part in STANDBY that resynchronises has discarded its mirror. -/
theorem State.resync_spec (s : State) : s.resync.pair = 2 ∧ s.resync.onu = [] ∧ s.resync.shr.keys = [] ∧ s.resync.shr.grp = [] ∧ s.resync.mate.frames = [] := by
  obtain ⟨hpair, -, hframe, -, -, hfr⟩ := s.discardMirror.toSyncing_spec
  refine ⟨(State.post_fld_at _ _ _ _).trans hpair, ?_, ?_, ?_, ?_⟩
  · exact (State.post_onu ..).trans (hframe .onu (by decide))
  · exact congrArg ShrSt.keys ((State.post_shr ..).trans (hframe .shr (by decide)))
  · exact congrArg ShrSt.grp ((State.post_shr ..).trans (hframe .shr (by decide)))
  · exact (congrArg MateSt.frames (State.post_mate ..)).trans hfr

/-- The wait to revert ends and the mate is asked to give the pair back (R313). -/
theorem State.askRevert_spec (s : State) : s.askRevert.mate = { s.mate with wtr := none, revert := true } ∧ s.askRevert.flag F.mateSts_wtr_running = false ∧
    FldsBut [F.mateSts_wtr_running] s s.askRevert ∧ FrameBut [.regs, .mate] s s.askRevert := by
  refine ⟨State.setFld_mate .., ?_, ((FldsBut.refl _ s).mate _).setFld _ (by simp) (by decide), ((FrameBut.refl _ s).mate _ (by simp)).setFld _ _ (by simp)⟩
  rw [State.askRevert, State.flag_setFld_same _ _ _ (by decide)]
  decide

/-- REVERT_NOW while the wait to revert runs. -/
theorem revertNow_asks (s : State) : let t := s.askRevert.setFld F.mateCmd_result 0
    t.fld F.mateCmd_result = 0 ∧ t.mate = { s.mate with wtr := none, revert := true } ∧ t.flag F.mateSts_wtr_running = false ∧
      FldsBut [F.mateCmd_result, F.mateSts_wtr_running] s t ∧ FrameBut [.regs, .mate] s t := by
  obtain ⟨hmate, hwtr, hflds, hframe⟩ := s.askRevert_spec
  refine ⟨State.fld_mateResult _ (by decide), (State.setFld_mate ..).trans hmate, ?_, (hflds.mono (by simp)).setFld _ (by simp) (by decide), hframe.setFld _ _ (by simp)⟩
  rw [State.flag_setFld_other _ _ (by decide) (by decide), hwtr]

end Sys2Proof.Machine
end

section
/-! Mate's commands: how the loss of the heartbeat is decided, the planned switch-over at its boundary, and what is told of the mate once. -/

namespace Sys2Proof.Machine

open Sys2Proof.Safety

variable {s : State}

/-! ### The decision at the loss of the heartbeat (R305) -/

section
variable (hv : s.mate.hbValid = true)
include hv

/-- An ACTIVE part keeps control. -/
theorem heartbeatLoss_keeps (hk : s.keepsControl = true) (hq : s.pair = 4) : ∃ t, exec .heartbeatLoss s = .next t ∧ t.mate.hbValid = false ∧ t.pair = 4 ∧
    t.fld F.mateHb_lost = (s.fld F.mateHb_lost + s.rig.run.mate.hbMiss) % 2 ^ 16 ∧ FldsBut [F.mateHb_lost] s t ∧
    Posted s t 0x0703 [Config.eventWord 0x0703 1] ∧ FrameBut [.regs, .mate, .evq, .cnt, .mem] s t := by
  obtain ⟨hlost, hflds, hframe, hpost, hmate⟩ := s.hbLost_spec
  have hposted : FldsBut [F.mateHb_lost] s (s.hbLost.post 0x0703 [Config.eventWord 0x0703 1]) := hflds.post_ _ _
  refine ⟨s.hbLost.post 0x0703 [Config.eventWord 0x0703 1], ?_, ?_, ?_, (State.post_fld_at _ _ _ _).trans hlost, hposted, .of_post hpost _ _,
    (hframe.mono (by simp)).post _ _ (by simp)⟩
  · rw [exec_heartbeatLoss hv (by omega) (by omega), if_pos hk, if_pos hq]
  · rw [State.post_mate, hmate]
  · exact (hposted F.mateSts_state (by simp [Apart, F.mateHb_lost, F.mateSts_state])).trans hq

/-- A part in STANDBY takes control. -/
theorem heartbeatLoss_takes (hk : s.keepsControl = true) (hq : s.pair = 3) : ∃ t, exec .heartbeatLoss s = .next t ∧ t.mate.hbValid = false ∧ t.pair = 4 ∧
    t.fld F.mateLast_cause = 1 := by
  obtain ⟨-, -, -, -, hmate⟩ := s.hbLost_spec
  obtain ⟨hpair, hcause, -, -, hhb⟩ := (s.hbLost.post 0x0703 [Config.eventWord 0x0703 0]).switchOver_spec 1
  refine ⟨_, ?_, hhb.trans ?_, hpair, hcause⟩
  · rw [exec_heartbeatLoss hv (by omega) (by omega), if_pos hk, if_neg (by rw [hq]; decide)]
  · rw [State.post_mate, hmate]

/-- Otherwise the pair is contested, and the channels of an ACTIVE part stand by. -/
theorem heartbeatLoss_contests (h1 : 1 ≤ s.pair) (h4 : s.pair ≤ 4) (hk : ¬ s.keepsControl = true) : ∃ t, exec .heartbeatLoss s = .next t ∧ t.mate.hbValid = false ∧
    t.pair = 5 ∧ t.mate.wasActive = s.owns ∧ t.mate.evidence = s.quietless ∧ (s.pair ≠ 4 → FrameBut [.regs, .mate, .evq, .cnt, .mem] s t) ∧
    (s.pair = 4 → ∀ c, c < 256 → t.ch c ≠ 2 ∧ t.ch c ≠ 3) := by
  obtain ⟨hpair, hhb, hwas, hev, hframe⟩ := s.contested_spec
  by_cases hq : s.pair = 4
  · obtain ⟨hrole, hch⟩ := State.yieldAll_role ((s.hbLost.movePair mpContested).post 0x0703 [Config.eventWord 0x0703 2])
    refine ⟨_, ?_, ?_, (hrole.fld _ (mateFld_sts (.inr (.inl rfl)))).trans hpair, ?_, ?_, fun hne => absurd hq hne, fun _ => hch⟩
    · rw [exec_heartbeatLoss hv h1 h4, if_neg hk, if_pos hq]
    · rw [hrole.mate, hhb]
    · rw [hrole.mate, hwas]
    · rw [hrole.mate, hev]
  · refine ⟨_, ?_, hhb, hpair, hwas, hev, fun _ => hframe, fun h => absurd h hq⟩
    rw [exec_heartbeatLoss hv h1 h4, if_neg hk, if_neg hq]

end

/-! ### The planned switch-over told and at its boundary (R311) -/

theorem exec_handoverMessage_down (h : MsgHdr) (sec : Word) (ns : BitVec 30) (hl : s.linkUp = false) : exec (.handoverMessage h sec ns) s = .next s := State.mateRx_down hl _ _

/-- The switch-over that a part in STANDBY awaits. -/
def State.awaited (s : State) (sec ns : Nat) : Handover :=
  { cause := if s.mate.revert then 5 else [4, 6, 7].getD (s.free 2 % 3) 4, sec := (s.fromMate sec ns / 64 / 1000000000).toNat,
    ns := (s.fromMate sec ns / 64 % 1000000000).toNat, giving := false }

/-- The message kept. -/
def State.awaits (s : State) (sec ns : Nat) : State :=
  let t := if s.mate.revert then s else s.tickFree
  { t with mate := { t.mate with revert := false, handover := some (s.awaited sec ns) } }

theorem exec_handoverMessage_inOrder {h : MsgHdr} (ho : MsgInOrder s h) (sec : Word) (ns : BitVec 30) : exec (.handoverMessage h sec ns) s =
    .next (if (s.received h).pair = 3 then ((s.received h).count Cn.mateMsgRx 0x16).awaits sec.toNat ns.toNat else s.received h) := by
  change execHandoverMessage s h sec ns = _
  rw [execHandoverMessage, State.mateRx_inOrder ho]
  rfl

theorem State.received_pair (h : MsgHdr) : (s.received h).pair = s.pair := ((FldsBut.refl [] s).of_frame (s.received_frame h) (by decide)) F.mateSts_state (by simp)

theorem State.fromMate_of_frame {l : List Part} {t : State} (h : FrameBut l s t) (hr : .regs ∉ l) (ht : .tim ∉ l) (sec ns : Nat) : t.fromMate sec ns = s.fromMate sec ns := by
  have hofs : t.fld F.mateOfs_ofs = s.fld F.mateOfs_ofs := ((FldsBut.refl [] s).of_frame h hr) F.mateOfs_ofs (by simp)
  have htim : t.tim = s.tim := h .tim ht
  rw [State.fromMate, State.fromMate, State.near32, State.near32, hofs, htim]

theorem State.awaited_cause (s : State) (sec ns : Nat) : (s.mate.revert = true → (s.awaited sec ns).cause = 5) ∧
    (s.mate.revert = false → (s.awaited sec ns).cause = 4 ∨ (s.awaited sec ns).cause = 6 ∨ (s.awaited sec ns).cause = 7) := by
  refine ⟨fun h => if_pos h, fun h => ?_⟩
  have hcause : (s.awaited sec ns).cause = [4, 6, 7].getD (s.free 2 % 3) 4 := if_neg (by rw [h]; decide)
  have hlt : s.free 2 % 3 < 3 := Nat.mod_lt _ (by decide)
  rw [hcause]
  generalize s.free 2 % 3 = i at hlt ⊢
  interval_cases i <;> simp

theorem State.awaits_spec (s : State) (sec ns : Nat) : (s.awaits sec ns).mate.handover = some (s.awaited sec ns) ∧ (s.awaits sec ns).mate.revert = false ∧
    FrameBut [.cnt, .mate, .freeIx] s (s.awaits sec ns) :=
  ⟨rfl, rfl, ((FrameBut.refl _ s).ite ((FrameBut.refl _ s).freeIx _ (by simp))).mate _ (by simp)⟩

/-- HANDOVER_MESSAGE in sequence is kept by a part in STANDBY. -/
theorem handoverMessage_kept {h : MsgHdr} (ho : MsgInOrder s h) (sec : Word) (ns : BitVec 30) : ∃ t, exec (.handoverMessage h sec ns) s = .next t ∧
    FrameBut [.cnt, .mate, .freeIx] s t ∧ (s.pair ≠ 3 → t.mate.handover = s.mate.handover) ∧ (s.pair = 3 → let b := s.fromMate sec.toNat ns.toNat / 64
      ∃ o, t.mate.handover = some o ∧ o.sec = (b / 1000000000).toNat ∧ o.ns = (b % 1000000000).toNat ∧ o.giving = false ∧ (s.mate.revert = true → o.cause = 5) ∧
        (s.mate.revert = false → o.cause = 4 ∨ o.cause = 6 ∨ o.cause = 7) ∧ t.mate.revert = false) := by
  have hrx := s.received_frame h
  refine ⟨_, exec_handoverMessage_inOrder ho sec ns, ?_⟩
  rw [s.received_pair h]
  by_cases hq : s.pair = 3
  · rw [if_pos hq]
    have hcount : FrameBut [.cnt, .mate] s ((s.received h).count Cn.mateMsgRx 0x16) := hrx.count _ _ (by simp)
    have hmate : ((s.received h).count Cn.mateMsgRx 0x16).mate.revert = s.mate.revert := by rw [State.count_mate, State.received_mate]
    obtain ⟨hhand, hrev, hframe⟩ := ((s.received h).count Cn.mateMsgRx 0x16).awaits_spec sec.toNat ns.toNat
    obtain ⟨hasked, hother⟩ := ((s.received h).count Cn.mateMsgRx 0x16).awaited_cause sec.toNat ns.toNat
    have hat := State.fromMate_of_frame hcount (by decide) (by decide) sec.toNat ns.toNat
    refine ⟨(hcount.mono (by simp)).trans hframe, fun hne => absurd hq hne, fun _ => ⟨_, hhand, ?_, ?_, rfl, ?_, ?_, hrev⟩⟩
    · rw [State.awaited, hat]
    · rw [State.awaited, hat]
    · rwa [hmate] at hasked
    · rwa [hmate] at hother
  · rw [if_neg hq]
    exact ⟨hrx.mono (by simp), fun _ => by rw [State.received_mate], fun h3 => absurd h3 hq⟩

theorem exec_handoverBoundary_none (h : s.mate.handover = none) : exec .handoverBoundary s = .next s := by
  change execHandoverBoundary s = _
  rw [execHandoverBoundary, h]

/-- The planned switch-over is over. -/
def State.handoverOver (s : State) : State := { s with mate := { s.mate with handover := none } }

/-- MANUAL ends with a result, if it runs. -/
def State.manualEnds (s : State) (r : Nat) : State := if s.flag F.mateCmd_busy then (s.setFld F.mateCmd_busy 0).setFld F.mateCmd_result r else s

theorem exec_handoverBoundary {h : Handover} (hh : s.mate.handover = some h) : exec .handoverBoundary s =
    if h.giving then .next (if s.pair = 4 then (s.handoverOver.manualEnds (if s.pair = 4 then 0 else 1)).toSyncing.yieldAll else s.handoverOver.manualEnds (if s.pair = 4 then 0 else 1))
    else .next (if s.pair = 3 ∧ s.lockout = false then s.handoverOver.switchOver h.cause else s.handoverOver) := by
  change execHandoverBoundary s = _
  rw [execHandoverBoundary, hh]
  rfl

theorem State.manualEnds_spec (s : State) {r : Nat} (hr : r < 8) : (s.manualEnds r).flag F.mateCmd_busy = false ∧ (s.flag F.mateCmd_busy = true → (s.manualEnds r).fld F.mateCmd_result = r) ∧
    (s.manualEnds r).mate = s.mate ∧ FldsBut [F.mateCmd_busy, F.mateCmd_result] s (s.manualEnds r) ∧ FrameBut [.regs] s (s.manualEnds r) := by
  by_cases hb : s.flag F.mateCmd_busy = true
  · rw [State.manualEnds, if_pos hb]
    refine ⟨?_, fun _ => State.fld_mateResult _ hr, ?_, ((FldsBut.refl _ s).setFld _ (by simp) (by decide)).setFld _ (by simp) (by decide),
      ((FrameBut.refl _ s).setFld _ _ (by simp)).setFld _ _ (by simp)⟩
    · rw [State.flag_setFld_other _ _ (by decide) (by decide), State.flag_setFld_same _ _ _ (by decide)]
      decide
    · rw [State.setFld_mate, State.setFld_mate]
  · rw [State.manualEnds, if_neg hb]
    exact ⟨by simpa using hb, fun h => absurd h hb, rfl, FldsBut.refl _ s, FrameBut.refl _ s⟩

/-- A field of MATE_CMD is not among those that a move of the pair state writes. -/
theorem State.toSyncing_cmd (s : State) {f : Fld} (h : f.addr = 0x600000) : s.toSyncing.fld f = s.fld f := by
  obtain ⟨-, hflds, -⟩ := s.toSyncing_spec
  exact hflds f (by simp [moveFlds, Apart, F.mateSts_state, F.mateSts_undecided, F.mateSts_wtr_running, h])

/-- The giving part goes to SYNCING, and its channels stand by. -/
theorem handoverBoundary_gives {h : Handover} (hh : s.mate.handover = some h) (hg : h.giving = true) (hq : s.pair = 4) : ∃ t, exec .handoverBoundary s = .next t ∧
    t.pair = 2 ∧ t.mate.handover = none ∧ t.flag F.mateCmd_busy = false ∧ (s.flag F.mateCmd_busy = true → t.fld F.mateCmd_result = 0) ∧
    ∀ c, c < 256 → t.ch c ≠ 2 ∧ t.ch c ≠ 3 := by
  obtain ⟨hbusy, hres, hmate, -, -⟩ := s.handoverOver.manualEnds_spec (r := 0) (by decide)
  obtain ⟨hpair, -, -, -, hhand, -⟩ := (s.handoverOver.manualEnds 0).toSyncing_spec
  obtain ⟨hrole, hch⟩ := State.yieldAll_role (s.handoverOver.manualEnds 0).toSyncing
  have hcmd : ∀ f : Fld, f.addr = 0x600000 → (s.handoverOver.manualEnds 0).toSyncing.yieldAll.fld f = (s.handoverOver.manualEnds 0).fld f := fun f hf =>
    (hrole.fld f (by unfold MateFld; omega)).trans (State.toSyncing_cmd _ hf)
  refine ⟨_, ?_, (hrole.fld _ (mateFld_sts (.inr (.inl rfl)))).trans hpair, ?_, ?_, fun hb => (hcmd _ rfl).trans (hres hb), hch⟩
  · rw [exec_handoverBoundary hh, if_pos hg, if_pos hq, if_pos hq]
  · rw [hrole.mate, hhand, hmate]
    rfl
  · rw [State.flag, hcmd _ rfl]
    exact hbusy

/-- A giving part that is no longer ACTIVE gives nothing. -/
theorem handoverBoundary_lapses {h : Handover} (hh : s.mate.handover = some h) (hg : h.giving = true) (hq : s.pair ≠ 4) : ∃ t, exec .handoverBoundary s = .next t ∧
    t.mate = { s.mate with handover := none } ∧ t.flag F.mateCmd_busy = false ∧ (s.flag F.mateCmd_busy = true → t.fld F.mateCmd_result = 1) ∧
    FldsBut [F.mateCmd_busy, F.mateCmd_result] s t ∧ FrameBut [.regs, .mate] s t := by
  obtain ⟨hbusy, hres, hmate, hflds, hframe⟩ := s.handoverOver.manualEnds_spec (r := 1) (by decide)
  refine ⟨_, ?_, hmate, hbusy, hres, hflds, ((FrameBut.refl _ s).mate _ (by simp)).trans (hframe.mono (by simp))⟩
  rw [exec_handoverBoundary hh, if_pos hg, if_neg hq, if_neg hq]

/-- The taking part becomes ACTIVE. -/
theorem handoverBoundary_takes {h : Handover} (hh : s.mate.handover = some h) (hg : h.giving = false) (hq : s.pair = 3) (hl : s.lockout = false) :
    ∃ t, exec .handoverBoundary s = .next t ∧ t.pair = 4 ∧ t.mate.handover = none ∧ t.fld F.mateLast_cause = h.cause % 16 ∧
      (4 ≤ h.cause → h.cause ≤ 7 → t.fld F.mateLast_frames = 1) := by
  obtain ⟨hpair, hcause, hframes, hhand, -⟩ := s.handoverOver.switchOver_spec h.cause
  refine ⟨_, ?_, hpair, hhand, hcause, hframes⟩
  rw [exec_handoverBoundary hh, if_neg (by rw [hg]; decide), if_pos ⟨hq, hl⟩]

theorem handoverBoundary_stays {h : Handover} (hh : s.mate.handover = some h) (hg : h.giving = false) (hn : s.pair ≠ 3 ∨ s.lockout = true) :
    exec .handoverBoundary s = .next s.handoverOver := by
  rw [exec_handoverBoundary hh, if_neg (by rw [hg]; decide), if_neg]
  rintro ⟨hq, hl⟩
  exact hn.elim (fun hne => hne hq) fun hon => by rw [hl] at hon; cases hon

/-! ### What is told once (R301, R316) -/

theorem epochDiffTimer_idle (h : ¬ (s.mate.hbValid = true ∧ s.mate.mateEpoch ≠ s.epoch ∧ s.mate.epochSaid = false)) : exec .epochDiffTimer s = .next s := if_neg h

/-- An event posted once Mate's state is written. -/
theorem posted_withMate (s : State) (x : MateSt) (c : Nat) (d : List Nat) : let t := ({ s with mate := x }).post c d
    t.mate = x ∧ Posted s t c d ∧ FrameBut [.mate, .evq, .cnt, .mem] s t :=
  ⟨State.post_mate .., .of_post ((PostSame.refl s).mate _) _ _, ((FrameBut.refl _ s).mate _ (by simp)).post _ _ (by simp)⟩

theorem epochDiffTimer_tells (h : s.mate.hbValid = true ∧ s.mate.mateEpoch ≠ s.epoch ∧ s.mate.epochSaid = false) : ∃ t, exec .epochDiffTimer s = .next t ∧
    t.mate = { s.mate with epochSaid := true } ∧ Posted s t 0x0708 [] ∧ FrameBut [.mate, .evq, .cnt, .mem] s t :=
  ⟨_, if_pos h, posted_withMate s _ _ _⟩

theorem matePathFault_idle {c : Chan} (h : c.toNat ∉ s.mate.awaiting) : exec (.matePathFault c) s = .next s := if_neg (by simpa using h)

/-- The channel waited for is told, unless it runs. -/
theorem matePathFault_tells {c : Chan} (h : c.toNat ∈ s.mate.awaiting) : ∃ t, exec (.matePathFault c) s = .next t ∧
    t.mate = { s.mate with awaiting := s.mate.awaiting.erase c.toNat } ∧ (s.ch c.toNat = 3 → FrameBut [.mate] s t) ∧ (s.ch c.toNat ≠ 3 → Posted s t 0x0709 [c.toNat]) ∧
    FrameBut [.mate, .evq, .cnt, .mem] s t := by
  have hin : s.mate.awaiting.contains c.toNat = true := by simpa using h
  by_cases hch : s.ch c.toNat = 3
  · exact ⟨_, (if_pos hin).trans (congrArg Host.Outcome.next (if_pos hch)), rfl, fun _ => (FrameBut.refl _ s).mate _ (by simp), fun hne => absurd hch hne,
      (FrameBut.refl _ s).mate _ (by simp)⟩
  · obtain ⟨hmate, hposted, hframe⟩ := posted_withMate s { s.mate with awaiting := s.mate.awaiting.erase c.toNat } 0x0709 [c.toNat]
    exact ⟨_, (if_pos hin).trans (congrArg Host.Outcome.next (if_neg hch)), hmate, fun h3 => absurd h3 hch, fun _ => hposted, hframe⟩

end Sys2Proof.Machine
end

section
/-! Mate's roles: what each message, timer and command does, and the obligation. -/

namespace Sys2Proof.Machine

open Sys2Proof.Safety

variable {s : State}

/-- A heartbeat whose tag fails changes its alarm and count only (R292). -/
theorem heartbeatReceived_badTag {h : Heartbeat} (hp : s.rig.run.mate.pairEn = true) (hl : s.linkUp = true) (ht : h.hdr.tagOk = false) (hq : s.pair ≠ 3) :
    ∃ t, exec (.heartbeatReceived h) s = .next t ∧ t.flag F.laneSlAlm_tag_err = true ∧ t.cnt = (s.count Cn.slTagErr 0).cnt ∧ FldsBut [F.laneSlAlm_tag_err] s t ∧
      FrameBut [.regs, .cnt] s t := by
  have hcount : FrameBut [.cnt] s (s.count Cn.slTagErr 0) := (FrameBut.refl _ s).count _ _ (by simp)
  refine ⟨_, exec_heartbeatReceived_badTag hp hl ht hq, ?_, State.setFld_cnt .., ((FldsBut.refl _ s).of_frame hcount (by decide)).setFld _ (by simp) (by decide),
    (hcount.mono (by simp)).setFld _ _ (by simp)⟩
  rw [State.flag_setFld_same _ _ _ (by decide)]
  decide

/-- HEARTBEAT_LOSS decides by R305. -/
theorem heartbeatLoss_decides (hv : s.mate.hbValid = true) (h1 : 1 ≤ s.pair) (h4 : s.pair ≤ 4) : let q := s.pair; let m := s.rig.run.mate
    let own := q = 3 ∨ q = 4
    let take := own ∧ s.lockout = false ∧ ((s.mateLast ≠ 3 ∧ s.mateLast ≠ 4) ∨ s.fld F.mateSts_mate_prec < m.prec)
    ∃ t, exec .heartbeatLoss s = .next t ∧ t.mate.hbValid = false ∧
      (take → q = 4 → t.pair = 4 ∧ t.fld F.mateHb_lost = (s.fld F.mateHb_lost + m.hbMiss) % 2 ^ 16 ∧ FldsBut [F.mateHb_lost] s t ∧
        Posted s t 0x0703 [Config.eventWord 0x0703 1] ∧ FrameBut [.regs, .mate, .evq, .cnt, .mem] s t) ∧
      (take → q = 3 → t.pair = 4 ∧ t.fld F.mateLast_cause = 1) ∧
      (¬ take → t.pair = 5 ∧ (t.mate.wasActive = true ↔ own) ∧
        (t.mate.evidence = true ↔ ∃ c, c < 256 ∧ s.flag (F.pchCtrl_enable c) = true ∧ ∃ x ∈ s.onu, x.2.chan = c ∧ x.2.st = 4) ∧
        (q ≠ 4 → FrameBut [.regs, .mate, .evq, .cnt, .mem] s t) ∧ (q = 4 → ∀ c, c < 256 → t.ch c ≠ 2 ∧ t.ch c ≠ 3)) := by
  intro q m own take
  have htake : s.keepsControl = true ↔ take := State.keepsControl_iff
  by_cases hk : s.keepsControl = true
  · have ht := htake.mp hk
    rcases ht.1 with hq | hq
    · obtain ⟨t, hexec, hhb, hpair, hcause⟩ := heartbeatLoss_takes hv hk hq
      exact ⟨t, hexec, hhb, fun _ h => by omega, fun _ _ => ⟨hpair, hcause⟩, fun hn => absurd ht hn⟩
    · obtain ⟨t, hexec, hhb, hkept⟩ := heartbeatLoss_keeps hv hk hq
      exact ⟨t, hexec, hhb, fun _ _ => hkept, fun _ h => by omega, fun hn => absurd ht hn⟩
  · obtain ⟨t, hexec, hhb, hpair, hwas, hev, hframe, hch⟩ := heartbeatLoss_contests hv h1 h4 hk
    refine ⟨t, hexec, hhb, fun h => absurd (htake.mpr h) hk, fun h => absurd (htake.mpr h) hk, fun _ => ⟨hpair, ?_, ?_, hframe, hch⟩⟩
    · rw [hwas, State.owns_iff]
    · rw [hev, State.quietless_iff]

/-- A timeout on an undecided part tells so, once. -/
theorem timeout_tells {x : Instr} (h : (x = .contestTimeout ∧ s.pair = 5) ∨ (x = .seekTimeout ∧ s.pair = 1 ∧ s.flag F.laneSlSts_present = false)) :
    (s.flag F.mateSts_undecided = true → exec x s = .next s) ∧ (s.flag F.mateSts_undecided = false → ∃ t, exec x s = .next t ∧ t.flag F.mateSts_undecided = true ∧
      Posted s t 0x0704 [] ∧ FldsBut [F.mateSts_undecided] s t ∧ FrameBut [.regs, .evq, .cnt, .mem] s t) := by
  obtain ⟨hsaid, htells⟩ := s.undecided_spec
  exact ⟨fun hu => (exec_timeout h).trans (congrArg Host.Outcome.next (hsaid hu)), fun hu => ⟨_, exec_timeout h, htells hu⟩⟩

/-- A part may give the pair over to a mate in STANDBY that it hears. -/
def Gives (s : State) : Prop := s.pair = 4 ∧ s.mate.hbValid = true ∧ s.mateLast = 3 ∧ s.mate.handover = none ∧ s.linkUp = true

section
variable {m : Master} {b : Bool} (hm : mayWrite m = true) (hr : s.released 7 = true) (hb : s.flag F.mateCmd_busy = false)
include hm hr hb

/-- MANUAL on a part that may not give. -/
theorem manual_ends : (s.pair ≠ 4 → MateEnds s (.manual m b) 2) ∧ (s.pair = 4 → ¬ Gives s → MateEnds s (.manual m b) 1 ∧ MateEnds s (.lockoutSet m) 1) ∧
    (Gives s → MateEnds s (.manual m true) 3) := by
  refine ⟨fun hq => .of_cmd (b := b) (by simp [mateCmds]) hm hr hb (mateCmd_manual_badState hq) (by decide), fun hq hg => ?_, fun hg => ?_⟩
  · have hgive : s.mayGive = false := Bool.eq_false_iff.mpr fun h => hg (State.mayGive_iff.mp h)
    refine ⟨.of_cmd (b := b) (by simp [mateCmds]) hm hr hb (mateCmd_manual_notReady hq hgive) (by decide), .of_cmd (b := b) (by simp [mateCmds]) hm hr hb ?_ (by decide)⟩
    rw [mateCmd_lockoutSet_active hq, hgive]
    rfl
  · exact .of_cmd (b := true) (by simp [mateCmds]) hm hr hb (mateCmd_manual_gives hg.1 (State.mayGive_iff.mpr hg)) (by decide)

/-- MANUAL that starts a planned switch-over, at least 250 µs ahead. -/
theorem manual_plans (hg : Gives s) : ∃ t o, exec (.manual m false) s = .next t ∧ t.flag F.mateCmd_busy = true ∧ t.fld F.mateCmd_result = 0 ∧ t.mate.handover = some o ∧
    o.cause = 4 ∧ o.giving = true ∧ o.ns < 1000000000 ∧ (0 < s.incTbu → s.now64 + 250000 * 64 < ((o.sec * 1000000000 + o.ns + 1) * 64 : Nat)) ∧
    t.out = s.out ++ [.stay 0x16 s.mate.seqTx [o.sec % 2 ^ 32 * 2 ^ 32 + o.ns]] ∧ FldsBut [F.mateCmd_busy, F.mateCmd_result] s t ∧ FrameBut [.regs, .cnt, .mate, .out] s t := by
  obtain ⟨hq, -, -, -, hl⟩ := id hg
  obtain ⟨hbusy, hres, hhand, hout, hflds, hframe⟩ := manual_gives s hl
  exact ⟨_, s.planned 4, exec_mateCmd (b := false) (by simp [mateCmds]) hm hr hb (mateCmd_manual_gives hq (State.mayGive_iff.mpr hg)), hbusy, hres, hhand, rfl, rfl,
    s.planned_ns 4, fun hinc => State.planned_ahead hinc 4, hout, hflds, hframe⟩

/-- FORCE_ACTIVE. -/
theorem forceActive_forces : (s.mate.hbValid = true → s.mateLast = 4 → MateEnds s (.forceActive m) 2) ∧
    (¬ (s.mate.hbValid = true ∧ s.mateLast = 4) → s.pair = 4 → MateEnds s (.forceActive m) 0) ∧
    (¬ (s.mate.hbValid = true ∧ s.mateLast = 4) → s.pair ≠ 4 → ∃ t, exec (.forceActive m) s = .next t ∧ t.fld F.mateCmd_result = 0 ∧ t.pair = 4 ∧ t.fld F.mateLast_cause = 8) := by
  refine ⟨fun hv hl => .of_cmd (b := false) (by simp [mateCmds]) hm hr hb (mateCmd_forceActive_badState ⟨hv, hl⟩) (by decide),
    fun hn hq => .of_cmd (b := false) (by simp [mateCmds]) hm hr hb ((mateCmd_forceActive hn).trans (if_pos hq)) (by decide), fun hn hq => ?_⟩
  obtain ⟨hpair, hcause, -⟩ := s.switchOver_spec 8
  refine ⟨_, exec_mateCmd (b := false) (by simp [mateCmds]) hm hr hb ((mateCmd_forceActive hn).trans (if_neg hq)), State.fld_mateResult _ (by decide),
    (State.pair_result _ _).trans hpair, ?_⟩
  rw [State.fld_result_other _ _ (by decide), hcause]

/-- LOCKOUT_SET. -/
theorem lockoutSet_locks : (Gives s → ∃ t o, exec (.lockoutSet m) s = .next t ∧ t.fld F.mateCmd_result = 0 ∧ t.lockout = true ∧ t.mate.handover = some o ∧ o.cause = 7 ∧
      o.giving = true ∧ FldsBut [F.mateCmd_result, F.mateSts_lockout] s t ∧ FrameBut [.regs, .cnt, .mate, .out] s t) ∧
    (s.pair ≠ 4 → ∃ t, exec (.lockoutSet m) s = .next t ∧ t.fld F.mateCmd_result = 0 ∧ t.lockout = true ∧ t.mate = { s.mate with wtr := none, revert := false } ∧
      t.flag F.mateSts_wtr_running = false ∧ FldsBut [F.mateCmd_result, F.mateSts_lockout, F.mateSts_wtr_running] s t ∧ FrameBut [.regs, .mate] s t) := by
  refine ⟨fun hg => ?_, fun hq => ⟨_, exec_mateCmd (b := false) (by simp [mateCmds]) hm hr hb (mateCmd_lockoutSet_notActive hq), lockoutSet_notActive s⟩⟩
  obtain ⟨hq, -, -, -, hl⟩ := id hg
  obtain ⟨o, ho⟩ := lockoutSet_gives s hl
  exact ⟨_, o, exec_mateCmd (b := false) (by simp [mateCmds]) hm hr hb ((mateCmd_lockoutSet_active hq).trans (if_pos (State.mayGive_iff.mpr hg))), ho⟩

/-- LOCKOUT_CLR. -/
theorem lockoutClr_unlocks : ∃ t, exec (.lockoutClr m) s = .next t ∧ t.fld F.mateCmd_result = 0 ∧ t.lockout = false ∧ FldsBut [F.mateCmd_result, F.mateSts_lockout] s t ∧
    FrameBut [.regs] s t := ⟨_, exec_mateCmd (b := false) (by simp [mateCmds]) hm hr hb rfl, lockoutClr_clears s⟩

/-- RESYNC. -/
theorem resync_restarts : (s.pair ≠ 3 → MateEnds s (.resync m) 2) ∧ (s.pair = 3 → ∃ t, exec (.resync m) s = .next t ∧ t.fld F.mateCmd_result = 0 ∧ t.pair = 2 ∧ t.onu = [] ∧
    t.shr.keys = [] ∧ t.shr.grp = [] ∧ t.mate.frames = []) := by
  refine ⟨fun hq => .of_cmd (b := false) (by simp [mateCmds]) hm hr hb (mateCmd_resync.trans (if_neg hq)) (by decide), fun hq => ?_⟩
  obtain ⟨hpair, honu, hkeys, hgrp, hframes⟩ := s.resync_spec
  refine ⟨_, exec_mateCmd (b := false) (by simp [mateCmds]) hm hr hb (mateCmd_resync.trans (if_pos hq)), State.fld_mateResult _ (by decide), (State.pair_result _ _).trans hpair,
    (State.setFld_onu ..).trans honu, ?_, ?_, ?_⟩
  · rw [State.setFld_shr, hkeys]
  · rw [State.setFld_shr, hgrp]
  · rw [State.setFld_mate, hframes]

/-- REVERT_NOW. -/
theorem revertNow_reverts : (s.mate.wtr = none → MateEnds s (.revertNow m) 2) ∧ (s.mate.wtr ≠ none → ∃ t, exec (.revertNow m) s = .next t ∧ t.fld F.mateCmd_result = 0 ∧
    t.mate = { s.mate with wtr := none, revert := true } ∧ t.flag F.mateSts_wtr_running = false ∧ FldsBut [F.mateCmd_result, F.mateSts_wtr_running] s t ∧
    FrameBut [.regs, .mate] s t) :=
  ⟨fun h => .of_cmd (b := false) (by simp [mateCmds]) hm hr hb (mateCmd_revertNow.trans (if_neg (by simp [h]))) (by decide),
    fun h => ⟨_, exec_mateCmd (b := false) (by simp [mateCmds]) hm hr hb (mateCmd_revertNow.trans (if_pos (Option.isSome_iff_ne_none.mpr h))), revertNow_asks s⟩⟩

end

theorem exec_mateCmds_idle {m : Master} (h : mayWrite m = false ∨ s.released 7 = false ∨ s.flag F.mateCmd_busy = true) (b : Bool) : ∀ x ∈ mateCmds m b, exec x s = .next s :=
  fun _ hx => (exec_mateCmds hx).trans (State.mateRun_idle h _)

/-- WTR_EXPIRY. -/
theorem wtrExpiry_reverts : (s.mate.wtr = none → exec .wtrExpiry s = .next s) ∧ (s.mate.wtr ≠ none → ∃ t, exec .wtrExpiry s = .next t ∧
    t.mate = { s.mate with wtr := none, revert := true } ∧ t.flag F.mateSts_wtr_running = false ∧ FldsBut [F.mateSts_wtr_running] s t ∧ FrameBut [.regs, .mate] s t) :=
  ⟨fun h => congrArg Host.Outcome.next (if_neg (by simp [h])),
    fun h => ⟨s.askRevert, congrArg Host.Outcome.next (if_pos (Option.isSome_iff_ne_none.mpr h)), s.askRevert_spec⟩⟩

end Sys2Proof.Machine

namespace Sys2Proof.Proofs

open Sys2Proof.Machine Sys2Proof.Safety

/-- Settles O40, command by command, from what the moves of the pair state, a message sent and the entry to ACTIVE each do. -/
theorem mateRoles : Obligations.mateRoles := by
  unfold Obligations.mateRoles
  refine ⟨fun s => ⟨exec_heartbeatSend_idle, heartbeatSend_sends⟩, fun h s => ⟨exec_heartbeatReceived_idle, heartbeatReceived_badTag, heartbeatReceived_heeds⟩,
    fun s => ⟨exec_heartbeatLoss_idle, heartbeatLoss_decides⟩, fun s => ⟨exec_contestTakeover_idle, fun h => ?_, fun _ => timeout_tells, exec_contestTimeout_idle, exec_seekTimeout_idle⟩,
    fun m b s => ⟨fun h => exec_mateCmds_idle h b, fun hm hr hb => ?_, wtrExpiry_reverts⟩, fun h sec ns s => ⟨exec_handoverMessage_down h sec ns, fun ho => handoverMessage_kept ho sec ns⟩,
    fun s => ⟨exec_handoverBoundary_none, fun h hh => ⟨handoverBoundary_gives hh, handoverBoundary_lapses hh, handoverBoundary_takes hh, handoverBoundary_stays hh⟩⟩,
    fun c s => ⟨epochDiffTimer_idle, epochDiffTimer_tells, matePathFault_idle, matePathFault_tells⟩⟩
  · obtain ⟨hpair, hcause, -⟩ := s.switchOver_spec 2
    exact ⟨_, exec_contestTakeover h, hpair, hcause⟩
  · obtain ⟨hbad, hnotReady, hlocked⟩ := manual_ends (b := b) hm hr hb
    obtain ⟨hforceBad, hforceSame, hforce⟩ := forceActive_forces hm hr hb
    obtain ⟨hlock, hlockIdle⟩ := lockoutSet_locks hm hr hb
    obtain ⟨hresyncBad, hresync⟩ := resync_restarts hm hr hb
    exact ⟨hbad, hnotReady, hlocked, manual_plans hm hr hb, hforceBad, hforceSame, hforce, hlock, hlockIdle, lockoutClr_unlocks hm hr hb, hresyncBad, hresync,
      revertNow_reverts hm hr hb⟩

end Sys2Proof.Proofs
end
